-- ==== Sys2Proof/Word.lean ====
section
/-!
DEFINITION. Word.lean: the word types of the device. Every register is 64 bits wide (R11, R444); memories and records
are bytes (R10).
-/

namespace Sys2Proof

/-- A register word (R444). -/
abbrev Word := BitVec 64

/-- One byte. -/
abbrev Byte := BitVec 8

end Sys2Proof
end

