-- ==== Sys2Proof/Syntax.lean ====
section
/-! DEFINITION. Syntax.lean: the commands. -/

namespace Sys2Proof

/-- Header fields of a Zorbex message that its command carries (Table 13.5); type, length and virtual lane follow from the type. -/
structure MsgHead where
  dest    : BitVec 3
  src     : BitVec 3
  hops    : BitVec 2
  channel : BitVec 3
  context : BitVec 16
  args    : BitVec 64
  deriving DecidableEq, Repr

/-- Who writes a register (R11, R366, R367): PF0, a function instance of a channel (0 its physical function, i + 1 the VF of
local tenant i), or the firmware of a channel's Lodestar. -/
inductive Agent where
  | hub
  | fn (c : Fin 8) (inst : Fin 17)
  | firmware (c : Fin 8)
  deriving DecidableEq, Repr

/-- How a tier answers a read (R327, R328). -/
inductive ReadStatus where
  | ok | corrected | uncorrectable
  deriving DecidableEq, Repr

/-- Who asked a tier (Table 12.4): the Flow Engine for a local tenant's table, an entity lookup, the load of a sealed tile or a
command of a sequencer context (2 × slot + side), a training context's step or its checkpoint read (for the second time), the
read-back of a staging, an evacuation copy, a DMA command (function instance, queue, ring index), or another requester. -/
inductive TierUser where
  | flow (i : Fin 16)
  | entity
  | tile (ctx : Fin 128) (tile : Nat)
  | command (ctx : Fin 128) (index : Nat)
  | training (g : Fin 4)
  | checkpoint (g : Fin 4) (again : Bool)
  | staging
  | evacuation
  | dma (inst : Fin 17) (q : Fin 4) (index : BitVec 16)
  | other
  deriving DecidableEq, Repr

/-- How the data transfer of a DMA command ends (R371, R372). -/
inductive DmaEnd where
  | done | hostError | tierError
  deriving DecidableEq, Repr

/-- The commands, one per row of the table. `c` is the channel; `src` who makes a register access: a function instance of the
channel, or none for the firmware of its Lodestar; `ctx` a slot side, as 2 × slot + side; `k` a partition, as 8 × engine + code, or a
tile, as 16 × engine + tile; `p` a Zorbex port; `g` a training context. -/
inductive Instr where
  /-- REGISTER_WRITE (R11). -/
  | registerWrite (who : Agent) (off : Nat) (v : Word) (whole : Bool)
  /-- DESCRIPTOR_RECEIVE (R48). -/
  | descriptorReceive (c : Fin 8) (bytes : List Byte) (filler : Bool)
  /-- MIRROR_DESCRIPTOR_FRAME (R52). -/
  | mirrorDescriptorFrame (c : Fin 8) (bytes : List Byte)
  /-- FOREIGN_FRAME (R52). -/
  | foreignFrame (c : Fin 8)
  /-- MIRROR_RESERVED_FRAME (R53). -/
  | mirrorReservedFrame (c : Fin 8)
  /-- PAUSE_FRAME_RECEIVE (R54). -/
  | pauseFrameReceive (c : Fin 8)
  /-- PAUSE_REPEAT (R54). -/
  | pauseRepeat (c : Fin 8)
  /-- TIME_WORD_RECEIVE (R46). -/
  | timeWordReceive (c : Fin 8) (sec : BitVec 48) (ns : BitVec 32)
  /-- IGNORED_CONTROL_WORD (R45). -/
  | ignoredControlWord (c : Fin 8)
  /-- ALIGN_GROUP_RECEIVE (R50). -/
  | alignGroupReceive (c : Fin 8) (order : List Nat)
  /-- DEVICE_TIME_WORD_SEND (R46). -/
  | deviceTimeWordSend (c : Fin 8)
  /-- ALIGN_GROUP_SEND (R50). -/
  | alignGroupSend (c : Fin 8)
  /-- PDP_PORT_ENABLE (R58). -/
  | pdpPortEnable (c : Fin 8) (src : Option (Fin 17))
  /-- PDP_PORT_DISABLE (R58). -/
  | pdpPortDisable (c : Fin 8) (src : Option (Fin 17))
  /-- PDP_LANES_ALIGNED (R58). -/
  | pdpLanesAligned (c : Fin 8)
  /-- PDP_ALIGNMENT_LOST (R58). -/
  | pdpAlignmentLost (c : Fin 8) (locked : BitVec 8)
  /-- CRF_RESET_HIGH_WATER (R64). -/
  | crfResetHighWater (c : Fin 8) (src : Option (Fin 17))
  /-- DESCRIPTOR_DISPATCH (R27). -/
  | descriptorDispatch (c : Fin 8) (fixed : Nat) (bad : Bool)
  /-- MAINTENANCE_FORCE (R85). -/
  | maintenanceForce (c : Fin 8)
  /-- FLOW_FILL_COMPLETE (R82). -/
  | flowFillComplete (c : Fin 8) (bucket : BitVec 32) (ok : Bool)
  /-- COLD_FETCH_COMPLETE (R83). -/
  | coldFetchComplete (c : Fin 8) (ok : Bool)
  /-- FLOW_PARITY_INVALIDATE (R84). -/
  | flowParityInvalidate (c : Fin 8)
  /-- ENTITY_FILL_COMPLETE (R109). -/
  | entityFillComplete (c : Fin 8) (i : Fin 16) (k : Fin 4) (bucket : BitVec 32) (ok : Bool)
  /-- PENDING_KEY_EXPIRE (R86). -/
  | pendingKeyExpire (c : Fin 8)
  /-- INSERT_COMMAND (R88). -/
  | insertCommand (c : Fin 8)
  /-- PROMOTION (R83). -/
  | promotion (c : Fin 8)
  /-- AGE_PERIOD_START (R90). -/
  | agePeriodStart (c : Fin 8) (i : Fin 16)
  /-- SWEEP_VISIT (R90). -/
  | sweepVisit (c : Fin 8) (i : Fin 16)
  /-- FLW_LOCK_REQUEST (R92). -/
  | flwLockRequest (c : Fin 8) (src : Option (Fin 17)) (v : Word)
  /-- FLW_LOCK_RELEASE (R94). -/
  | flwLockRelease (c : Fin 8) (src : Option (Fin 17)) (v : Word)
  /-- FLW_RELEASE_COMPLETE (R94). -/
  | flwReleaseComplete (c : Fin 8)
  /-- LOCK_MAX_HOLD_EXPIRE (R94). -/
  | lockMaxHoldExpire (c : Fin 8)
  /-- LOCK_TIMEOUT (R93). -/
  | lockTimeout (c : Fin 8)
  /-- FLW_REGION_WRITE (R77). -/
  | flwRegionWrite (c : Fin 8) (src : Option (Fin 17)) (i : Fin 16) (second : Bool) (v : Word)
  /-- FLW_REGION_REMOVE (R97). -/
  | flwRegionRemove (c : Fin 8) (src : Option (Fin 17)) (i : Fin 16)
  /-- PRS_IND_READ (R73). -/
  | prsIndRead (c : Fin 8) (src : Option (Fin 17)) (v : Word)
  /-- PRS_IND_WRITE (R73). -/
  | prsIndWrite (c : Fin 8) (src : Option (Fin 17)) (v : Word)
  /-- LDS_NOTE_CONS_WRITE (R449). -/
  | ldsNoteConsWrite (c : Fin 8) (src : Option (Fin 17)) (i : Fin 16) (v : Word)
  /-- LDS_INS_PROD_WRITE (R450). -/
  | ldsInsProdWrite (c : Fin 8) (src : Option (Fin 17)) (k : Fin 17) (v : Word)
  /-- FTR_PROG_WRITE (R131). -/
  | ftrProgWrite (c : Fin 8) (src : Option (Fin 17)) (n : Fin 64) (v : Word)
  /-- FTR_PROG_LOADED (R131). -/
  | ftrProgLoaded (c : Fin 8) (n : Fin 64)
  /-- FST_ENS_WRITE (R160). -/
  | fstEnsWrite (c : Fin 8) (src : Option (Fin 17)) (n : Fin 32) (part : Fin 4) (v : Word)
  /-- CAM_WINDOW_WRITE (R159). -/
  | camWindowWrite (c : Fin 8) (src : Option (Fin 17)) (entry : BitVec 16) (word : Fin 22) (v : Word)
  /-- CAM_WINDOW_COMMIT (R159). -/
  | camWindowCommit (c : Fin 8) (src : Option (Fin 17)) (entry : BitVec 16) (v : Word)
  /-- CAM_ENTRY_UPSET (R154). -/
  | camEntryUpset (c : Fin 8) (entry : BitVec 16) (bits : List Nat)
  /-- LEAF_CAM_REPAIR (R155). -/
  | leafCamRepair (c : Fin 8)
  /-- ENSEMBLE_BANK_RELEASE (R157). -/
  | ensembleBankRelease (c : Fin 8) (n : Fin 32)
  /-- MXE_PART_WRITE (R168). -/
  | mxePartWrite (c : Fin 8) (src : Option (Fin 17)) (e : Fin 4) (second : Bool) (v : Word)
  /-- RVU_PAGE_OWNER_WRITE (R186). -/
  | rvuPageOwnerWrite (c : Fin 8) (src : Option (Fin 17)) (u : Fin 2) (i : Fin 32) (v : Word)
  /-- MMA (R166). -/
  | mma (c : Fin 8) (ctx : Fin 128) (index : Nat)
  /-- MMT (R176). -/
  | mmt (c : Fin 8) (ctx : Fin 128) (index : Nat)
  /-- MVR (R183). -/
  | mvr (c : Fin 8) (ctx : Fin 128) (index : Nat)
  /-- QNT (R119). -/
  | qnt (c : Fin 8) (ctx : Fin 128) (index : Nat)
  /-- DQT (R121). -/
  | dqt (c : Fin 8) (ctx : Fin 128) (index : Nat)
  /-- ROT (R123). -/
  | rot (c : Fin 8) (ctx : Fin 128) (index : Nat)
  /-- ACT (R222). -/
  | act (c : Fin 8) (ctx : Fin 128) (index : Nat)
  /-- GATHER (R223). -/
  | gather (c : Fin 8) (ctx : Fin 128) (index : Nat)
  /-- FOREST (R223). -/
  | forest (c : Fin 8)
  /-- DRAIN (R198). -/
  | drain (c : Fin 8) (ctx : Fin 128) (index : Nat)
  /-- SYNC (R225). -/
  | sync (c : Fin 8) (ctx : Fin 128) (index : Nat)
  /-- STANDBY_STAGE_COMPLETE (R173). -/
  | standbyStageComplete (c : Fin 8) (k : Fin 32) (ctx : Fin 128)
  /-- STANDBY_WRITE_COMPLETE (R173). -/
  | standbyWriteComplete (c : Fin 8) (k : Fin 32)
  /-- MXE_ROW_LAND (R171). -/
  | mxeRowLand (c : Fin 8) (k : Fin 32) (errQ : Fin 4) (err : BitVec 32)
  /-- CHAIN_REPLAY (R205). -/
  | chainReplay (c : Fin 8) (k : Fin 64)
  /-- MVR_OUTPUT_READY (R184). -/
  | mvrOutputReady (c : Fin 8) (u : Fin 2) (err : BitVec 32)
  /-- RAMP_DOWN_STEP (R180). -/
  | rampDownStep (c : Fin 8) (unit : Fin 34)
  /-- DRAIN_SWAP (R198). -/
  | drainSwap (c : Fin 8) (k : Fin 32)
  /-- DRAIN_READ_COMPLETE (R199). -/
  | drainReadComplete (c : Fin 8) (k : Fin 32)
  /-- CHAIN_SAVE (R207). -/
  | chainSave (c : Fin 8) (k : Fin 64)
  /-- ACU_ABORT (R212). -/
  | acuAbort (c : Fin 8) (src : Option (Fin 17)) (v : Word)
  /-- BATCH_CLOSE (R35). -/
  | batchClose (c : Fin 8) (ctx : Fin 128)
  /-- RUN_START (R224). -/
  | runStart (c : Fin 8) (ctx : Fin 128)
  /-- RUN_COMPLETE (R227). -/
  | runComplete (c : Fin 8) (ctx : Fin 128)
  /-- STAGE_REQUEST (R237). -/
  | stageRequest (c : Fin 8) (src : Option (Fin 17)) (v : Word)
  /-- STAGE_COMPLETE (R237). -/
  | stageComplete (c : Fin 8) (err : Bool)
  /-- SWAP (R238). -/
  | swap (c : Fin 8) (src : Option (Fin 17)) (n : Fin 64)
  /-- DISCARD (R238). -/
  | discard (c : Fin 8) (src : Option (Fin 17)) (n : Fin 64)
  /-- UNLOAD (R238). -/
  | unload (c : Fin 8) (src : Option (Fin 17)) (n : Fin 64)
  /-- SWAP_TAKE_EFFECT (R239). -/
  | swapTakeEffect (c : Fin 8) (n : Fin 64)
  /-- SIDE_RELEASE (R241). -/
  | sideRelease (c : Fin 8) (n : Fin 64)
  /-- SEAL_REFETCH_COMPLETE (R233). -/
  | sealRefetchComplete (c : Fin 8)
  /-- FOREST_CHECK_COMPLETE (R33). -/
  | forestCheckComplete (c : Fin 8) (sumErr : Bool)
  /-- VERDICT_TRANSMIT (R51). -/
  | verdictTransmit (c : Fin 8)
  /-- RETRACT_TRANSMIT (R257). -/
  | retractTransmit (c : Fin 8)
  /-- EPOCH_BOUNDARY (R252). -/
  | epochBoundary (c : Fin 8)
  /-- EPOCH_CLOSES (R253). -/
  | epochCloses (c : Fin 8)
  /-- PEER_EPOCH_DEADLINE (R259). -/
  | peerEpochDeadline (c : Fin 8)
  /-- SELF_TEST_COMPLETE (R260). -/
  | selfTestComplete (c : Fin 8) (pass : Bool)
  /-- REMAP_COMPLETE (R264). -/
  | remapComplete (c : Fin 8)
  /-- BANK_REBUILD_COMPLETE (R264). -/
  | bankRebuildComplete (c : Fin 8)
  /-- CHK_UNFENCE (R263). -/
  | chkUnfence (c : Fin 8) (src : Option (Fin 17)) (v : Word)
  /-- CHK_UNFENCE_BANKS (R263). -/
  | chkUnfenceBanks (c : Fin 8) (src : Option (Fin 17)) (v : Word)
  /-- CHK_VMODE_WRITE (R249). -/
  | chkVmodeWrite (c : Fin 8) (src : Option (Fin 17)) (v : Word)
  /-- DIGEST_RECHECK (R266). -/
  | digestRecheck (c : Fin 8)
  /-- SWEEP_TEST_START (R267). -/
  | sweepTestStart (c : Fin 8) (n : Fin 40)
  /-- SWEEP_TEST_COMPLETE (R267). -/
  | sweepTestComplete (c : Fin 8) (pass : Bool) (q : Fin 4)
  /-- SWEEP_YIELD (R268). -/
  | sweepYield (c : Fin 8)
  /-- SCRUB_VISIT (R269). -/
  | scrubVisit (c : Fin 8)
  /-- FEEDER_SEND_BATCH (R276). -/
  | feederSendBatch (c : Fin 8) (g : Fin 4)
  /-- FEEDER_SEND_PASS (R276). -/
  | feederSendPass (c : Fin 8) (g : Fin 4)
  /-- TRAINING_STEP_START (R280). -/
  | trainingStepStart (c : Fin 8) (g : Fin 4)
  /-- TRAINING_STEP_COMPLETE (R278). -/
  | trainingStepComplete (c : Fin 8) (g : Fin 4)
  /-- CHECKPOINT_DIGEST_READY (R282). -/
  | checkpointDigestReady (c : Fin 8) (g : Fin 4)
  /-- VOTE_TIMEOUT (R283). -/
  | voteTimeout (c : Fin 8) (g : Fin 4)
  /-- EXPEL_SELF_TEST_COMPLETE (R286). -/
  | expelSelfTestComplete (c : Fin 8) (g : Fin 4) (bad : BitVec 16)
  /-- PUBLICATION (R289). -/
  | publication (c : Fin 8) (g : Fin 4)
  /-- TRN_CONTEXT_ENABLE (R288). -/
  | trnContextEnable (c : Fin 8) (src : Option (Fin 17)) (g : Fin 4) (v : Word)
  /-- GATE_ENTRY_START (R308). -/
  | gateEntryStart (c : Fin 8)
  /-- VPE_GATE_COMMIT (R309). -/
  | vpeGateCommit (c : Fin 8) (src : Option (Fin 17)) (v : Word)
  /-- GATE_LIST_SWITCH (R308). -/
  | gateListSwitch (c : Fin 8)
  /-- WFQ_ISSUE (R306). -/
  | wfqIssue (c : Fin 8) (unit : Fin 36)
  /-- FOREST_REENTRY (R311). -/
  | forestReentry (c : Fin 8)
  /-- VPE_IND_READ (R318). -/
  | vpeIndRead (c : Fin 8) (src : Option (Fin 17)) (v : Word)
  /-- VPE_IND_WRITE (R318). -/
  | vpeIndWrite (c : Fin 8) (src : Option (Fin 17)) (v : Word)
  /-- VPE_GROUP_WRITE (R312). -/
  | vpeGroupWrite (c : Fin 8) (src : Option (Fin 17)) (g : Fin 16) (v : Word)
  /-- VPE_TPOL_WRITE (R317). -/
  | vpeTpolWrite (c : Fin 8) (src : Option (Fin 17)) (i : Fin 16) (v : Word)
  /-- VPE_SHP_WRITE (R314). -/
  | vpeShpWrite (c : Fin 8) (src : Option (Fin 17)) (i : Fin 16) (q : Fin 2) (v : Word)
  /-- HOST_QUEUE_SEND (R313). -/
  | hostQueueSend (c : Fin 8) (i : Fin 16) (q : Fin 2)
  /-- SHAPER_REFILL_TICK (R315). -/
  | shaperRefillTick (c : Fin 8)
  /-- TIER_READ_RETURN (R328). -/
  | tierReadReturn (c : Fin 8) (tier : Fin 4) (addr : BitVec 48) (len : BitVec 32) (who : TierUser) (st : ReadStatus)
  /-- TIER_REQUEST_TIMEOUT (R484). -/
  | tierRequestTimeout (c : Fin 8) (tier : Fin 4) (addr : BitVec 48) (write : Bool) (who : TierUser)
  /-- MEM_REGION_WRITE (R329). -/
  | memRegionWrite (c : Fin 8) (src : Option (Fin 17)) (i : Fin 64) (second : Bool) (v : Word)
  /-- ZERO_FILL_COMPLETE (R333). -/
  | zeroFillComplete (c : Fin 8) (i : Fin 64)
  /-- TENANT_ERASE (R334). -/
  | tenantErase (c : Fin 8) (src : Option (Fin 17)) (v : Word)
  /-- ERASE_COMPLETE (R334). -/
  | eraseComplete (c : Fin 8)
  /-- T2_EVACUATE (R337). -/
  | t2Evacuate (c : Fin 8) (src : Option (Fin 17))
  /-- EVACUATION_COMPLETE (R337). -/
  | evacuationComplete (c : Fin 8)
  /-- T2_DIMM_POWER_WRITE (R336). -/
  | t2DimmPowerWrite (c : Fin 8) (src : Option (Fin 17)) (v : Word)
  /-- T2_RESTORE (R338). -/
  | t2Restore (c : Fin 8) (src : Option (Fin 17))
  /-- T2_RESTORE_COMPLETE (R338). -/
  | t2RestoreComplete (c : Fin 8) (ok : Bool)
  /-- T2_MODULE_FAIL (R336). -/
  | t2ModuleFail (c : Fin 8) (failed : Bool)
  /-- T2_PATROL_SCRUB (R323). -/
  | t2PatrolScrub (c : Fin 8) (st : ReadStatus)
  /-- T3_LINK_DOWN (R324). -/
  | t3LinkDown (c : Fin 8)
  /-- T3_LINK_UP (R324). -/
  | t3LinkUp (c : Fin 8) (gib : BitVec 16)
  /-- ZLK_PORT_ENABLE (R348). -/
  | zlkPortEnable (c : Fin 8) (src : Option (Fin 17)) (p : Fin 3)
  /-- ZLK_PORT_DISABLE (R348). -/
  | zlkPortDisable (c : Fin 8) (src : Option (Fin 17)) (p : Fin 3)
  /-- ZLK_LANES_ALIGNED (R348). -/
  | zlkLanesAligned (c : Fin 8) (p : Fin 3)
  /-- ZLK_IDENTITY_RECEIVE (R348). -/
  | zlkIdentityReceive (c : Fin 8) (p : Fin 3) (device : BitVec 8) (port : BitVec 8) (channel : BitVec 8) (topology : BitVec 8) (identity : BitVec 64)
  /-- ZLK_LINK_LOSS (R348). -/
  | zlkLinkLoss (c : Fin 8) (p : Fin 3)
  /-- ZLK_GROUP_RECEIVE (R347). -/
  | zlkGroupReceive (c : Fin 8) (p : Fin 3) (num : BitVec 16) (bad : Bool) (blocks : List (Nat × List Byte))
  /-- ZLK_ACK_RECEIVE (R347). -/
  | zlkAckReceive (c : Fin 8) (p : Fin 3) (nak : Bool) (num : BitVec 16)
  /-- ZLK_CREDIT_RECEIVE (R346). -/
  | zlkCreditReceive (c : Fin 8) (p : Fin 3) (vl : Bool) (limit : BitVec 32)
  /-- ZLK_RESERVED_CONTROL (R345). -/
  | zlkReservedControl (c : Fin 8) (p : Fin 3)
  /-- PAD (R350). -/
  | pad (c : Fin 8) (p : Fin 3) (h : MsgHead) (payload : List Byte)
  /-- SHARE (R352). -/
  | share (c : Fin 8) (p : Fin 3) (h : MsgHead) (payload : List Byte)
  /-- RETRACT (R259). -/
  | retract (c : Fin 8) (p : Fin 3) (h : MsgHead) (payload : List Byte)
  /-- EPOCH_CLOSE (R259). -/
  | epochClose (c : Fin 8) (p : Fin 3) (h : MsgHead) (payload : List Byte)
  /-- BATCH (R277). -/
  | batch (c : Fin 8) (p : Fin 3) (h : MsgHead) (payload : List Byte)
  /-- PASS (R276). -/
  | pass (c : Fin 8) (p : Fin 3) (h : MsgHead) (payload : List Byte)
  /-- DIGEST (R283). -/
  | digest (c : Fin 8) (p : Fin 3) (h : MsgHead) (payload : List Byte)
  /-- DECISION (R283). -/
  | decision (c : Fin 8) (p : Fin 3) (h : MsgHead) (payload : List Byte)
  /-- CKPT_REQ (R287). -/
  | ckptReq (c : Fin 8) (p : Fin 3) (h : MsgHead) (payload : List Byte)
  /-- CKPT_DATA (R287). -/
  | ckptData (c : Fin 8) (p : Fin 3) (h : MsgHead) (payload : List Byte)
  /-- TIME_PROBE (R355). -/
  | timeProbe (c : Fin 8) (p : Fin 3) (h : MsgHead) (payload : List Byte)
  /-- TIME_RESP (R356). -/
  | timeResp (c : Fin 8) (p : Fin 3) (h : MsgHead) (payload : List Byte)
  /-- ZLK_PROBE_TIMER (R355). -/
  | zlkProbeTimer (c : Fin 8) (p : Fin 3)
  /-- FLR_CHANNEL_PF (R377). -/
  | flrChannelPf (c : Fin 8)
  /-- FLR_VF (R377). -/
  | flrVf (c : Fin 8) (i : Fin 16)
  /-- VF_ENABLE_CHANGE (R363). -/
  | vfEnableChange (c : Fin 8) (enable : Bool) (num : Fin 17)
  /-- HOST_LINK_UP (R378). -/
  | hostLinkUp (speed : Fin 6) (width : Fin 17) (flit : Bool)
  /-- MALFORMED_TLP (R378). -/
  | malformedTlp (carried : Option (Fin 8 × Fin 17 × Fin 4 × BitVec 16))
  /-- CHANNEL_NO_ANSWER (R378). -/
  | channelNoAnswer (c : Fin 8)
  /-- TENANT_CREATE (R364). -/
  | tenantCreate (c : Fin 8) (src : Option (Fin 17)) (i : Fin 16) (v : Word)
  /-- DMA_DOORBELL (R370). -/
  | dmaDoorbell (c : Fin 8) (src : Option (Fin 17)) (q : Fin 4) (v : Word)
  /-- DMA_COMMAND_START (R371). -/
  | dmaCommandStart (c : Fin 8) (inst : Fin 17) (q : Fin 4) (entry : List Byte)
  /-- DMA_COMMAND_COMPLETE (R371). -/
  | dmaCommandComplete (c : Fin 8) (inst : Fin 17) (q : Fin 4) (index : BitVec 16) (data : List Byte) (e : DmaEnd)
  /-- DMA_HOST_TIMEOUT (R372). -/
  | dmaHostTimeout (c : Fin 8) (inst : Fin 17) (q : Fin 4) (index : BitVec 16)
  /-- HIF_COUNTER_READ (R369). -/
  | hifCounterRead (v : Word)
  /-- MSIX_HOLDOFF_EXPIRE (R376). -/
  | msixHoldoffExpire (c : Fin 8) (inst : Fin 17) (vec : Fin 64)
  /-- BOOT_START (R390). -/
  | bootStart (c : Fin 8) (flashOk : Bool) (fuseOk : Bool)
  /-- BOOT_CONFIG_APPLY (R384). -/
  | bootConfigApply (c : Fin 8) (t3Failed : Bool)
  /-- BOOT_READY (R391). -/
  | bootReady (c : Fin 8)
  /-- BOOT_TRIAL_TIMEOUT (R399). -/
  | bootTrialTimeout (c : Fin 8)
  /-- PROGRAM (R398). -/
  | program (c : Fin 8)
  /-- PROGRAM_COMPLETE (R398). -/
  | programComplete (c : Fin 8) (flashErr : Bool)
  /-- ACTIVATE (R398). -/
  | activate (c : Fin 8)
  /-- COMMIT_SV (R399). -/
  | commitSv (c : Fin 8)
  /-- PROGRAM_SLOT (R389). -/
  | programSlot (c : Fin 8) (slot : Fin 8) (ok : Bool)
  /-- REVOKE_SLOT (R389). -/
  | revokeSlot (c : Fin 8) (slot : Fin 8) (ok : Bool)
  /-- PROGRAM_DEVICE_ID (R389). -/
  | programDeviceId (c : Fin 8) (ok : Bool)
  /-- ATTEST_REQUEST (R395). -/
  | attestRequest (c : Fin 8) (src : Option (Fin 17)) (v : Word)
  /-- ATTEST_RELEASE (R396). -/
  | attestRelease (c : Fin 8)
  /-- IDLE_ENTRY (R405). -/
  | idleEntry (c : Fin 8)
  /-- IDLE_EXIT (R405). -/
  | idleExit (c : Fin 8)
  /-- PWR_GO_RUN (R405). -/
  | pwrGoRun (c : Fin 8) (src : Option (Fin 17))
  /-- PWR_GO_DOZE (R405). -/
  | pwrGoDoze (c : Fin 8) (src : Option (Fin 17))
  /-- PWR_GO_VAULT (R405). -/
  | pwrGoVault (c : Fin 8) (src : Option (Fin 17))
  /-- POWER_ENTRY_COMPLETE (R403). -/
  | powerEntryComplete (c : Fin 8)
  /-- DOZE_ACCESS_WAKE (R406). -/
  | dozeAccessWake (c : Fin 8) (inst : Fin 17) (off : Nat) (v : Option Word)
  /-- WAKE_COMPLETE (R406). -/
  | wakeComplete (c : Fin 8)
  /-- PWR_OPP_REQUEST (R408). -/
  | pwrOppRequest (c : Fin 8) (src : Option (Fin 17)) (v : Word)
  /-- OPP_SWITCH (R408). -/
  | oppSwitch (c : Fin 8)
  /-- OPP_RAMP_COMPLETE (R408). -/
  | oppRampComplete (c : Fin 8)
  /-- THERMAL_SAMPLE (R409). -/
  | thermalSample (c : Fin 8) (t0 : BitVec 8) (t1 : BitVec 8) (t2 : BitVec 8) (t3 : BitVec 8)
  /-- THROTTLE_STEP (R409). -/
  | throttleStep (c : Fin 8)
  /-- FLOOR_RAISE_STEP (R409). -/
  | floorRaiseStep (c : Fin 8)
  /-- WATCH_FRAME_SEND (R413). -/
  | watchFrameSend (c : Fin 8)
  /-- WATCH_FRAME_RECEIVE (R413). -/
  | watchFrameReceive (c : Fin 8) (next : Bool) (frame : BitVec 64)
  /-- WATCH_FRAME_MISS (R414). -/
  | watchFrameMiss (c : Fin 8) (next : Bool)
  /-- LODESTAR_WATCHDOG (R414). -/
  | lodestarWatchdog (c : Fin 8)
  /-- LODESTAR_RESET (R415). -/
  | lodestarReset (c : Fin 8)
  /-- LODESTAR_RESTART_COMPLETE (R415). -/
  | lodestarRestartComplete (c : Fin 8) (flips : List (Nat × Byte))
  /-- SAFE_SERVE_END (R416). -/
  | safeServeEnd (c : Fin 8)
  /-- DISPATCH_STALL (R419). -/
  | dispatchStall (c : Fin 8)
  /-- SAFE_SERVE_TIMEOUT (R419). -/
  | safeServeTimeout (c : Fin 8)
  /-- VDD_CH_FAULT (R419). -/
  | vddChFault (c : Fin 8)
  /-- CORE_PLL_UNLOCK (R419). -/
  | corePllUnlock (c : Fin 8)
  /-- LODESTAR_FAIL_DECLARE (R419). -/
  | lodestarFailDeclare (c : Fin 8)
  /-- CHANNEL_DOWN_REPEAT (R59). -/
  | channelDownRepeat (c : Fin 8)
  /-- AUTO_RESTART (R421). -/
  | autoRestart (c : Fin 8)
  /-- CHANNEL_RAMP_START (R422). -/
  | channelRampStart (c : Fin 8) (ref25 : Bool)
  /-- CHANNEL_POWER_ON (R422). -/
  | channelPowerOn (c : Fin 8)
  /-- CHANNEL_POWER_OFF (R422). -/
  | channelPowerOff (c : Fin 8)
  /-- CHANNEL_RESET (R422). -/
  | channelReset (c : Fin 8)
  /-- OBS_FREEZE (R430). -/
  | obsFreeze (c : Fin 8) (src : Option (Fin 17))
  /-- OBS_UNFREEZE (R430). -/
  | obsUnfreeze (c : Fin 8) (src : Option (Fin 17))
  /-- OBS_ARM (R430). -/
  | obsArm (c : Fin 8) (src : Option (Fin 17))
  /-- TIMED_FREEZE (R430). -/
  | timedFreeze (c : Fin 8)
  /-- SUP_FREEZE (R431). -/
  | supFreeze (mask : BitVec 8) (follow : Bool)
  /-- SUP_UNFREEZE (R431). -/
  | supUnfreeze (mask : BitVec 8) (follow : Bool)
  /-- TRACE_SAMPLE (R435). -/
  | traceSample (c : Fin 8) (pcs : List Nat)
  /-- OBS_MARKER_WRITE (R435). -/
  | obsMarkerWrite (c : Fin 8) (src : Option (Fin 17)) (v : Word)
  /-- RUN_HUNG (R439). -/
  | runHung (c : Fin 8) (ctx : Fin 128)
  /-- TELEMETRY_SUMMARY (R428). -/
  | telemetrySummary (c : Fin 8)
  /-- HANG_DECLARE (R439). -/
  | hangDeclare (c : Fin 8) (src : Option (Fin 17))
  /-- DUMP_START (R440). -/
  | dumpStart (c : Fin 8) (src : Option (Fin 17)) (auto : Bool)
  /-- DUMP_QUIESCE_TIMEOUT (R440). -/
  | dumpQuiesceTimeout (c : Fin 8)
  /-- DUMP_COMPLETE (R440). -/
  | dumpComplete (c : Fin 8)
  /-- OBS_DEBUG_WRITE (R438). -/
  | obsDebugWrite (c : Fin 8) (src : Option (Fin 17)) (v : Word)
  /-- PPS_EDGE (R462). -/
  | ppsEdge (c : Fin 8)
  /-- TOD_MESSAGE (R461). -/
  | todMessage (c : Fin 8) (bytes : List Byte)
  /-- PPS_LOST (R462). -/
  | ppsLost (c : Fin 8)
  /-- SAMPLE_PRELOAD (R465). -/
  | samplePreload (sampled : List Bool) (preload : List Bool)
  /-- UNCORRECTABLE_CODEWORD (R62). -/
  | uncorrectableCodeword (c : Fin 8) (lane : Fin 8) (codeword : Bool) (words : Nat)
  /-- IDLE_CONTROL_WORD (R49). -/
  | idleControlWord (c : Fin 8)
  /-- D3HOT (R361). -/
  | d3hot (fn : Option (Fin 8 × Fin 17)) (on : Bool)
  /-- HOST_PORT_RESET (R377). -/
  | hostPortReset
  /-- FLR_PF0 (R377). -/
  | flrPf0
  /-- HOST_LINK_DOWN (R378). -/
  | hostLinkDown
  /-- UNSUPPORTED_REQUEST (R378). -/
  | unsupportedRequest
  /-- SUP_WATCHDOG_RESTART (R378). -/
  | supWatchdogRestart
  /-- HIF_COUNTER_READ_DONE (R369). -/
  | hifCounterReadDone
  /-- VIN_LOW (R458). -/
  | vinLow
  /-- VIN_RECOVERED (R458). -/
  | vinRecovered
  /-- PACKAGE_POWER_ON (R457). -/
  | packagePowerOn
  /-- TAP_RESET (R465). -/
  | tapReset
  /-- EXTEST (R465). -/
  | extest
  /-- EXTEST_PULSE (R465). -/
  | extestPulse
  /-- EXTEST_TRAIN (R465). -/
  | extestTrain
  /-- CLAMP (R465). -/
  | clamp
  /-- HIGHZ (R465). -/
  | highz
  /-- BYPASS (R465). -/
  | bypass
  /-- PORN_LOW (R457). -/
  | pornLow
  /-- VIN_POWER_LOSS (R458). -/
  | vinPowerLoss
  deriving DecidableEq, Repr

end Sys2Proof
end

