-- ==== Sys2Proof/Config.lean ====
section
/-!
DEFINITION. Config.lean: what one device's manufacture fixes and the spec leaves open, and the free values: opaque
constants without a body, so that nothing in Lean can evaluate them and a claim about them is true whatever they are.
-/

namespace Sys2Proof

/-- Free value: accesses that fill the queue of channel `c`'s host-port bridge, less one (R24 and Table 14.9 give no depth). -/
opaque Config.bridgeRaw : Nat → Nat

/-- Accesses that fill the queue of a bridge: at least one. -/
def Config.bridgeDepth (c : Nat) : Nat := Config.bridgeRaw c + 1

/-- Free value: the voltage step test gives operating point p of channel c (R407 fixes only its range and order). -/
opaque Config.vddRaw : Nat → Nat → Nat

/-- Setpoint of P3 of channel c in mV, between 550 and 850 (R407). -/
def Config.vdd3 (c : Nat) : Nat := 550 + Config.vddRaw c 3 % 301
/-- Setpoint of P2, no lower than P3's (R407). -/
def Config.vdd2 (c : Nat) : Nat := Config.vdd3 c + Config.vddRaw c 2 % (851 - Config.vdd3 c)
/-- Setpoint of P1, no lower than P2's (R407). -/
def Config.vdd1 (c : Nat) : Nat := Config.vdd2 c + Config.vddRaw c 1 % (851 - Config.vdd2 c)
/-- Setpoint of P0, no lower than P1's (R407). -/
def Config.vdd0 (c : Nat) : Nat := Config.vdd1 c + Config.vddRaw c 0 % (851 - Config.vdd1 c)

/-- Setpoint of operating point p of channel c in mV: between 550 and 850, no lower than any slower point (R407). -/
def Config.vdd (c p : Nat) : Nat :=
  if p = 0 then Config.vdd0 c else if p = 1 then Config.vdd1 c else if p = 2 then Config.vdd2 c else Config.vdd3 c

/-- Free value: byte `i` of draw `n` from channel `c`'s random source (R78, R331, R385). -/
opaque Config.random : Nat → Nat → Nat → Byte

/-- Free value: what a byte of tier `t` at address `a`, stored as `b` under key generation `g`, reads as under another
key generation `k` of channel `c` (R331, R332: unreadable). -/
opaque Config.wrongKey : Nat → Nat → Nat → Nat → Byte → Nat → Byte

/-- Free value: byte `i` of a signature, alias key or certificate made from the message digest `m` with the key the
number `k` names (R385, R393 to R397: the signing secrets are the part's own). -/
opaque Config.signature : Nat → List Byte → Nat → Byte

/-- Free value: byte `i` of the unique device secret fused into channel `c` (R387), which nothing can read. -/
opaque Config.uds : Nat → Nat → Byte

/-- Free value: what an external tier device returns for a byte nobody of this device wrote. -/
opaque Config.unwritten : Nat → Nat → Nat → Byte

/-- Free value: the default result (64 bits) of the prefix table of lookup `n` of channel `c` (R95 names it, no register or
structure of the spec holds it). -/
opaque Config.prefixDefault : Nat → Nat → Nat

/-- Free value: word `i` of the ensemble that a package's CAM tiles describe (0 the FST_ENS_CFG fields, 1 the scale, 2 the
bases): the spec does not lay an ensemble image out within its tiles. -/
opaque Config.ensWord : List Byte → Nat → Nat

/-- Free value: entry `i` = 128 × segment position + entry of the ensemble image in CAM tiles, as 1,345 bits: value, care,
valid, leaf (layout not in the spec, as above). -/
opaque Config.camEntry : List Byte → Nat → Nat

/-- Free value: the default leaf of segment position `i / 8`, window `i % 8` of the ensemble image (layout as above). -/
opaque Config.camDefault : List Byte → Nat → Nat

/-- Free value: output `n` of a row of codes that command `i` of the model with digest `d` multiplies in its widened format
(R127: the spec does not say where a model's widened weights lie). -/
opaque Config.widened : List Byte → Nat → List Nat → Nat → BitVec 32

/-- Free value: the model with digest `d` carries widened weights for a layer (R130; the spec does not say where they lie). -/
opaque Config.widenedWeights : List Byte → Nat → Bool

/-- Free value: byte `i` of the `n`-th block of bytes whose layout the spec leaves open and the device itself writes: the
save image of a chain (R208), a section of a dump (R440). -/
opaque Config.savedByte : Nat → Nat → Nat → Byte

/-- Free value: the status byte of a command that completes COMPLETE with abort_late set (Table 08.6 names the bit and gives it no place). -/
opaque Config.lateStatus : Byte

/-- Free value: the class bit of the answer to a skipped sequence value, of channel `c` and sequence `s` (R61 lists no class for
a record no descriptor stands behind). -/
opaque Config.noClass : Nat → Nat → Bool

/-- Free value: whether a 40-bit timestamp exactly half a period from the time word of channel `c` extends upwards (R46 says only
the nearest). -/
opaque Config.tsTie : Nat → Nat → Bool

/-- Free value: the tile of the TRAINING package with model digest `d` that holds master weights 512 j to 512 j + 511 as FP32 (R274 copies
them from the package's DATA tiles; no descriptor that names the tiles is laid out). -/
opaque Config.masterTile : List Byte → Nat → Nat

/-- Free value: where row `p` of the candidate ring of the TRAINING package with model digest `d` lies, taken modulo the length of its run area
(R275 puts the ring into the run area and gives no place there). -/
opaque Config.candidateRow : List Byte → Nat → Nat

/-- Free value: the first tile of the publish map of the TRAINING package with model digest `d`, and its number of entries (R289 lays
out an entry and names neither). -/
opaque Config.publishMap : List Byte → Nat × Nat

/-- Free value: whether half of an odd number of picoseconds rounds up in probe results of channel `c` (R355 halves and does not round). -/
opaque Config.halfUp : Nat → Int → Bool

/-- Free value: the 4 KiB page of T1 to which a boot copies the `k`-th MODEL section of channel `c` (R391 says only: into T1). -/
opaque Config.modelPlace : Nat → Nat → Nat

end Sys2Proof
end

