-- ==== Sys2Proof/Machine/RegMap.lean ====
section
/-!
DEFINITION. Machine/RegMap.lean: the byte offset of every register (Tables 18.4 to 18.9 for a channel, Table 18.14 for
PF0; counters at the offsets of their own Fields tables) and the place of every field (the register tables of chapters
01 to 19). An indexed register is a function of its index or indices. Reserved bits have no name: they read as zero.
-/

namespace Sys2Proof.Machine

/-- A field of a 64-bit register: its lowest bit and its length in bits (the Bits columns of the register tables). -/
structure Fld where
  lo  : Nat
  len : Nat
  deriving DecidableEq, Repr

/-! ## Register offsets -/

def R.CHN_ID : Nat := 0x0
def R.CHN_CAP : Nat := 0x8
def R.CHN_LOCATION : Nat := 0x10
def R.CHN_STAGE_REQ : Nat := 0x100
def R.CHN_STAGE_STATUS : Nat := 0x108
def R.CHN_STAGE_SRC : Nat := 0x110
def R.CHN_STAGE_BACKUP : Nat := 0x118
def R.CHN_STAGE_BANKS : Nat := 0x120
def R.CHN_CNT_RUNS : Nat := 0x800
def R.CHN_CNT_RUN_FAILED : Nat := 0x808
def R.CHN_CNT_BATCH_OVERRUN : Nat := 0x810
def R.CHN_CNT_SWAPS : Nat := 0x818
def R.CHN_CNT_STAGE_FAIL : Nat := 0x820
def R.CHN_CNT_DEP_WAIT : Nat := 0x828
def R.CHN_SLOT_CFG (n : Nat) : Nat := 0x1000 + 0x40 * n
def R.CHN_SLOT_WIN (n i : Nat) : Nat := 0x1008 + 0x40 * n + 0x8 * i
def R.CHN_SLOT_STATE (n : Nat) : Nat := 0x1018 + 0x40 * n
def R.CHN_SLOT_CMD (n : Nat) : Nat := 0x1020 + 0x40 * n
def R.CHN_SLOT_FAIL (n : Nat) : Nat := 0x1028 + 0x40 * n
def R.CHN_TENANT (n : Nat) : Nat := 0x2000 + 0x8 * n
def R.CHN_HQ_BASE (n : Nat) : Nat := 0x3000 + 0x20 * n
def R.CHN_HQ_PROD (n : Nat) : Nat := 0x3008 + 0x20 * n
def R.CHN_HQ_CONS (n : Nat) : Nat := 0x3010 + 0x20 * n
def R.CHN_EVQ_BASE : Nat := 0x3100
def R.CHN_EVQ_CTRL : Nat := 0x3108
def R.CHN_HRING_BASE (n : Nat) : Nat := 0x3200 + 0x10 * n
def R.CHN_HRING_IDX (n : Nat) : Nat := 0x3208 + 0x10 * n
def R.PDP_CTRL : Nat := 0x100000
def R.PDP_LINK_STATUS : Nat := 0x100008
def R.PDP_FAIL_POLICY : Nat := 0x100010
def R.PDP_ETH_DA : Nat := 0x100018
def R.PDP_ETH_SA : Nat := 0x100020
def R.PDP_CNT_DESC : Nat := 0x100100
def R.PDP_CNT_BAD_CRC : Nat := 0x100108
def R.PDP_CNT_BAD_LENGTH : Nat := 0x100110
def R.PDP_CNT_FRAMING_LOSS : Nat := 0x100118
def R.PDP_CNT_DISCARD_WORDS : Nat := 0x100120
def R.PDP_CNT_CREDIT_OVERRUN : Nat := 0x100128
def R.PDP_CNT_SEQ_FILL : Nat := 0x100130
def R.PDP_CNT_SEQ_RESTART : Nat := 0x100138
def R.PDP_CNT_UNKNOWN_TENANT : Nat := 0x100140
def R.PDP_CNT_TIME_JUMP : Nat := 0x100148
def R.PDP_CNT_RESERVED : Nat := 0x100150
def R.PDP_CNT_FOREIGN : Nat := 0x100158
def R.PDP_CNT_PAUSE_RX : Nat := 0x100160
def R.CRF_STATUS : Nat := 0x108000
def R.CRF_CREDIT : Nat := 0x108008
def R.CRF_RECEIVED : Nat := 0x108010
def R.CRF_CNT_ECC : Nat := 0x108018
def R.PRS_CTRL : Nat := 0x200000
def R.PRS_IND_SEL : Nat := 0x200020
def R.PRS_IND_DATA (n : Nat) : Nat := 0x200040 + 0x8 * n
def R.PRS_STAGE (n : Nat) : Nat := 0x200100 + 0x8 * n
def R.PRS_EXTRACT (n : Nat) : Nat := 0x200180 + 0x8 * n
def R.PRS_CNT_PARSE_ERROR : Nat := 0x200800
def R.PRS_CNT_BAD_KEY : Nat := 0x200808
def R.PRS_CNT_FRAG : Nat := 0x200810
def R.FLW_CTRL : Nat := 0x300000
def R.FLW_HASH_SEED : Nat := 0x300008
def R.FLW_MAINT : Nat := 0x300010
def R.FLW_REGION_A (n : Nat) : Nat := 0x300100 + 0x10 * n
def R.FLW_REGION_B (n : Nat) : Nat := 0x300108 + 0x10 * n
def R.FLW_LOCK_REQ : Nat := 0x300200
def R.FLW_LOCK_REL : Nat := 0x300208
def R.FLW_LOCK_STATUS : Nat := 0x300210
def R.FLW_LOCK_CTRL : Nat := 0x300218
def R.FLW_CNT_HIT : Nat := 0x300400
def R.FLW_CNT_ABSENT : Nat := 0x300408
def R.FLW_CNT_PARITY : Nat := 0x300410
def R.FLW_CNT_LOCK_TIMEOUT : Nat := 0x300418
def R.FLW_CNT_LOCK_QUEUE_FULL : Nat := 0x300420
def R.FLW_CNT_NO_REGION : Nat := 0x300428
def R.FLW_CNT_NO_KEY : Nat := 0x300430
def R.FLW_CNT_NOTE_DROP : Nat := 0x300438
def R.FLW_CNT_COLD_LOST : Nat := 0x300440
def R.FLW_CNT_LPM_BAD_LENGTH : Nat := 0x300448
def R.FLW_CNT_RESERVED : Nat := 0x300450
def R.FLW_CNT_FILTER_EVICT : Nat := 0x300458
def R.FTR_CTRL : Nat := 0x400000
def R.FTR_STATE (n : Nat) : Nat := 0x400100 + 0x8 * n
def R.FTR_PROG (n : Nat) : Nat := 0x400200 + 0x8 * n
def R.FTR_LOOKUP (n : Nat) : Nat := 0x400400 + 0x8 * n
def R.FTR_CNT_MISSING : Nat := 0x400800
def R.FTR_CNT_ENTITY_FILL : Nat := 0x400808
def R.FTR_CNT_ROT_CLAMP : Nat := 0x400810
def R.FTR_CNT_WIDEN : Nat := 0x400818
def R.FTR_CNT_RESERVED : Nat := 0x400820
def R.FST_CTRL : Nat := 0x500000
def R.FST_REPAIR_STATUS : Nat := 0x500010
def R.FST_ENS_CFG (n : Nat) : Nat := 0x500100 + 0x20 * n
def R.FST_ENS_BANKS (n : Nat) : Nat := 0x500108 + 0x20 * n
def R.FST_ENS_SCALE (n : Nat) : Nat := 0x500110 + 0x20 * n
def R.FST_ENS_BASE (n : Nat) : Nat := 0x500118 + 0x20 * n
def R.FST_CNT_SEARCH : Nat := 0x500800
def R.FST_CNT_NO_MATCH : Nat := 0x500808
def R.FST_CNT_MULTI_MATCH : Nat := 0x500810
def R.FST_CNT_PARITY_EXCL : Nat := 0x500818
def R.FST_CNT_LEAF_ECC_CORR : Nat := 0x500820
def R.FST_CNT_LEAF_ECC_UNCORR : Nat := 0x500828
def R.FST_CNT_UNSEEN : Nat := 0x500830
def R.FST_CNT_FILLED : Nat := 0x500838
def R.FST_CNT_BANK_HOLD : Nat := 0x500840
def R.FST_CNT_REPAIR : Nat := 0x500848
def R.MXE_CTRL (n : Nat) : Nat := 0x600000 + 0x40000 * n
def R.MXE_PART (n : Nat) : Nat := 0x600008 + 0x40000 * n
def R.MXE_STATUS (n : Nat) : Nat := 0x600010 + 0x40000 * n
def R.MXE_CNT_OPS (n : Nat) : Nat := 0x600800 + 0x40000 * n
def R.MXE_CNT_ROWS (n : Nat) : Nat := 0x600808 + 0x40000 * n
def R.MXE_CNT_DUMMY_ROWS (n : Nat) : Nat := 0x600810 + 0x40000 * n
def R.MXE_CNT_STANDBY_WAIT (n : Nat) : Nat := 0x600818 + 0x40000 * n
def R.MXE_CNT_LOADS (n : Nat) : Nat := 0x600820 + 0x40000 * n
def R.MXE_CNT_REJECT (n : Nat) : Nat := 0x600828 + 0x40000 * n
def R.RVU_CTRL : Nat := 0x700000
def R.RVU_STATUS : Nat := 0x700008
def R.RVU_PAGE_OWNER (n i : Nat) : Nat := 0x700100 + 0x100 * n + 0x8 * i
def R.RVU_CNT_OPS : Nat := 0x700800
def R.RVU_CNT_DOT : Nat := 0x700808
def R.RVU_CNT_DUMMY_CHUNKS : Nat := 0x700810
def R.RVU_CNT_REJECT : Nat := 0x700818
def R.ACU_CTRL : Nat := 0x800000
def R.ACU_ABORT : Nat := 0x800008
def R.ACU_ABORT_STATUS : Nat := 0x800010
def R.ACU_OVF_STATUS : Nat := 0x800018
def R.ACU_TILE_STATE (n : Nat) : Nat := 0x800100 + 0x8 * n
def R.ACU_SR_SEED (n : Nat) : Nat := 0x800200 + 0x8 * n
def R.ACU_SAVE_BASE (n : Nat) : Nat := 0x800300 + 0x8 * n
def R.ACU_CNT_CHAINS : Nat := 0x800800
def R.ACU_CNT_DRAINS : Nat := 0x800808
def R.ACU_CNT_TREE_WAIT : Nat := 0x800810
def R.ACU_CNT_TILE_WAIT : Nat := 0x800818
def R.ACU_CNT_ACC_WAIT : Nat := 0x800820
def R.ACU_CNT_REPLAY : Nat := 0x800828
def R.ACU_CNT_PERSISTENT : Nat := 0x800830
def R.ACU_CNT_SAVE : Nat := 0x800838
def R.ACU_CNT_RESTORE : Nat := 0x800840
def R.ACU_CNT_LOST_CC : Nat := 0x800848
def R.ACU_CNT_ABORTED : Nat := 0x800850
def R.ACU_CNT_ABORT_LATE : Nat := 0x800858
def R.ACU_CNT_REJECT : Nat := 0x800860
def R.VPE_CTRL : Nat := 0x900000
def R.VPE_GATE_CTRL : Nat := 0x900008
def R.VPE_GATE_ADMIN : Nat := 0x900010
def R.VPE_GATE_BASE : Nat := 0x900018
def R.VPE_GATE_STATUS : Nat := 0x900020
def R.VPE_IND_SEL : Nat := 0x900028
def R.VPE_IND_DATA (n : Nat) : Nat := 0x900040 + 0x8 * n
def R.VPE_TPOL (n : Nat) : Nat := 0x900100 + 0x8 * n
def R.VPE_GROUP (n : Nat) : Nat := 0x900180 + 0x8 * n
def R.VPE_SLOT (n : Nat) : Nat := 0x900200 + 0x8 * n
def R.VPE_WFQ (n : Nat) : Nat := 0x900400 + 0x8 * n
def R.VPE_MTR_REGION (n : Nat) : Nat := 0x900480 + 0x8 * n
def R.VPE_SHP (n i : Nat) : Nat := 0x900500 + 0x10 * n + 0x8 * i
def R.VPE_CNT_VERDICT : Nat := 0x900800
def R.VPE_CNT_DEFAULT : Nat := 0x900808
def R.VPE_CNT_SHADOW : Nat := 0x900810
def R.VPE_CNT_NAN_SCORE : Nat := 0x900818
def R.VPE_CNT_GREEN : Nat := 0x900820
def R.VPE_CNT_YELLOW : Nat := 0x900828
def R.VPE_CNT_RED : Nat := 0x900830
def R.VPE_CNT_MIRROR_DROP : Nat := 0x900838
def R.VPE_CNT_TELEM_DROP : Nat := 0x900840
def R.VPE_CNT_GATE_WAIT : Nat := 0x900848
def R.VPE_CNT_FST_PARK : Nat := 0x900850
def R.VPE_CNT_REJECT : Nat := 0x900858
def R.TRN_CTRL : Nat := 0xa00000
def R.TRN_CFG (n : Nat) : Nat := 0xa00100 + 0x80 * n
def R.TRN_LINK (n : Nat) : Nat := 0xa00108 + 0x80 * n
def R.TRN_POLICY (n : Nat) : Nat := 0xa00110 + 0x80 * n
def R.TRN_SEED (n : Nat) : Nat := 0xa00118 + 0x80 * n
def R.TRN_MASTER (n : Nat) : Nat := 0xa00120 + 0x80 * n
def R.TRN_T1 (n : Nat) : Nat := 0xa00128 + 0x80 * n
def R.TRN_PUB (n : Nat) : Nat := 0xa00130 + 0x80 * n
def R.TRN_STATUS (n : Nat) : Nat := 0xa00138 + 0x80 * n
def R.TRN_STEP (n : Nat) : Nat := 0xa00140 + 0x80 * n
def R.TRN_AGREED (n : Nat) : Nat := 0xa00148 + 0x80 * n
def R.TRN_DIGEST (n i : Nat) : Nat := 0xa00150 + 0x80 * n + 0x8 * i
def R.TRN_CNT_STEPS (n : Nat) : Nat := 0xa00800 + 0x40 * n
def R.TRN_CNT_ABANDONED (n : Nat) : Nat := 0xa00808 + 0x40 * n
def R.TRN_CNT_VOTES (n : Nat) : Nat := 0xa00810 + 0x40 * n
def R.TRN_CNT_EXPEL (n : Nat) : Nat := 0xa00818 + 0x40 * n
def R.TRN_CNT_ROLLBACK (n : Nat) : Nat := 0xa00820 + 0x40 * n
def R.TRN_CNT_REJOIN (n : Nat) : Nat := 0xa00828 + 0x40 * n
def R.TRN_CNT_PUBLISH (n : Nat) : Nat := 0xa00830 + 0x40 * n
def R.TRN_CNT_ROW_DROP (n : Nat) : Nat := 0xa00838 + 0x40 * n
def R.TRN_CNT_FOREIGN : Nat := 0xa00900
def R.CHK_CTRL : Nat := 0xb00000
def R.CHK_VMODE : Nat := 0xb00008
def R.CHK_EPOCH : Nat := 0xb00010
def R.CHK_EPOCH_CLOSED : Nat := 0xb00018
def R.CHK_FAULT : Nat := 0xb00020
def R.CHK_FENCE : Nat := 0xb00028
def R.CHK_FENCE_BANKS : Nat := 0xb00030
def R.CHK_UNFENCE : Nat := 0xb00038
def R.CHK_UNFENCE_BANKS : Nat := 0xb00040
def R.CHK_REMAP_0 : Nat := 0xb00048
def R.CHK_REMAP_1 : Nat := 0xb00050
def R.CHK_UNDO : Nat := 0xb00058
def R.CHK_CNT_SEAL_CHECK : Nat := 0xb00400
def R.CHK_CNT_SEAL_REFETCH_T1 : Nat := 0xb00408
def R.CHK_CNT_SEAL_REFETCH_BACKUP : Nat := 0xb00410
def R.CHK_CNT_SEAL_QUARANTINE : Nat := 0xb00418
def R.CHK_CNT_ARRAY_MISMATCH : Nat := 0xb00420
def R.CHK_CNT_RVU_MISMATCH : Nat := 0xb00428
def R.CHK_CNT_FOREST_MISMATCH : Nat := 0xb00430
def R.CHK_CNT_UNCHECKED : Nat := 0xb00438
def R.CHK_CNT_RETRACT : Nat := 0xb00440
def R.CHK_CNT_PEER_UNDO : Nat := 0xb00448
def R.CHK_CNT_TRANSIENT : Nat := 0xb00450
def R.CHK_CNT_FENCE : Nat := 0xb00458
def R.CHK_CNT_HOLD_CC : Nat := 0xb00460
def R.CHK_CNT_SWEEP_PASS : Nat := 0xb00468
def R.CHK_CNT_SWEEP_YIELD : Nat := 0xb00470
def R.CHK_CNT_SCRUB_FIX : Nat := 0xb00478
def R.CHK_CNT_DIGEST_MISMATCH : Nat := 0xb00480
def R.CHK_CNT_UNDO_WAIT : Nat := 0xb00488
def R.CHK_CNT_GATED_DEFAULT : Nat := 0xb00490
def R.MEM_CTRL : Nat := 0xc00000
def R.MEM_STATUS : Nat := 0xc00008
def R.MEM_T2_CTRL : Nat := 0xc00010
def R.MEM_KEY_CMD : Nat := 0xc00018
def R.MEM_SPAD_APERTURE : Nat := 0xc00020
def R.MEM_ERR_LOG : Nat := 0xc00028
def R.MEM_REGION_A (n : Nat) : Nat := 0xc00100 + 0x10 * n
def R.MEM_REGION_B (n : Nat) : Nat := 0xc00108 + 0x10 * n
def R.MEM_CNT_SPAD_CORR : Nat := 0xc00800
def R.MEM_CNT_SPAD_UNCORR : Nat := 0xc00808
def R.MEM_CNT_T1_CORR : Nat := 0xc00810
def R.MEM_CNT_T1_UNCORR : Nat := 0xc00818
def R.MEM_CNT_T2_CORR : Nat := 0xc00820
def R.MEM_CNT_T2_UNCORR : Nat := 0xc00830
def R.MEM_CNT_T3_UNCORR : Nat := 0xc00838
def R.MEM_CNT_REFUSED : Nat := 0xc00840
def R.MEM_CNT_EVAC_BYTES : Nat := 0xc00848
def R.MEM_CNT_ERASE : Nat := 0xc00850
def R.MEM_CNT_FILL_BYTES : Nat := 0xc00858
def R.ZLK_CTRL : Nat := 0xd00000
def R.ZLK_PORT_CTRL (n : Nat) : Nat := 0xd00010 + 0x8 * n
def R.ZLK_PORT_STATUS (n : Nat) : Nat := 0xd00030 + 0x8 * n
def R.ZLK_PARTNER_ID (n : Nat) : Nat := 0xd00050 + 0x8 * n
def R.ZLK_ROUTE : Nat := 0xd00070
def R.ZLK_OFFSET (n : Nat) : Nat := 0xd00100 + 0x8 * n
def R.ZLK_SHARE (n : Nat) : Nat := 0xd00200 + 0x8 * n
def R.ZLK_ACCEPT (n : Nat) : Nat := 0xd00280 + 0x8 * n
def R.ZLK_CNT_REPLAY : Nat := 0xd00800
def R.ZLK_CNT_LOST : Nat := 0xd00808
def R.ZLK_CNT_BAD_MESSAGE : Nat := 0xd00810
def R.ZLK_CNT_UNROUTABLE : Nat := 0xd00818
def R.ZLK_CNT_CREDIT_OVERRUN : Nat := 0xd00820
def R.ZLK_CNT_SHARE_DROP : Nat := 0xd00828
def R.ZLK_CNT_SHARE_REFUSED : Nat := 0xd00830
def R.ZLK_CNT_STALE : Nat := 0xd00838
def R.ZLK_CNT_OFFSET_JUMP : Nat := 0xd00840
def R.ZLK_CNT_RESERVED : Nat := 0xd00848
def R.ZLK_CNT_SHARES_SENT : Nat := 0xd00850
def R.ZLK_CNT_RELAYED : Nat := 0xd00858
def R.PWR_CTRL : Nat := 0xe00000
def R.PWR_STATUS : Nat := 0xe00008
def R.PWR_OPP_REQ : Nat := 0xe00010
def R.PWR_OPP (n : Nat) : Nat := 0xe00020 + 0x8 * n
def R.LDS_ATT_REQ : Nat := 0x1000000
def R.LDS_ATT_DEST : Nat := 0x1000008
def R.LDS_ATT_NONCE (n : Nat) : Nat := 0x1000010 + 0x8 * n
def R.LDS_ATT_STATUS : Nat := 0x1000040
def R.LDS_ATT_REMAINING : Nat := 0x1000048
def R.LDS_WATCH_STATUS : Nat := 0x1000100
def R.LDS_NOTE_BASE (n : Nat) : Nat := 0x1001000 + 0x10 * n
def R.LDS_NOTE_IDX (n : Nat) : Nat := 0x1001008 + 0x10 * n
def R.LDS_INS_BASE (n : Nat) : Nat := 0x1001200 + 0x10 * n
def R.LDS_INS_IDX (n : Nat) : Nat := 0x1001208 + 0x10 * n
def R.LDS_ENT_SEED (n : Nat) : Nat := 0x1001400 + 0x8 * n
def R.OBS_CTRL : Nat := 0xf00000
def R.OBS_FREEZE : Nat := 0xf00008
def R.OBS_FREEZE_AT : Nat := 0xf00010
def R.OBS_FREEZE_TIME : Nat := 0xf00018
def R.OBS_TRACE_CTRL : Nat := 0xf00020
def R.OBS_TRACE_UNITS : Nat := 0xf00028
def R.OBS_TRACE_BASE : Nat := 0xf00030
def R.OBS_TRACE_PTR : Nat := 0xf00038
def R.OBS_MARKER : Nat := 0xf00040
def R.OBS_STALL_SEL : Nat := 0xf00048
def R.OBS_STALL_DATA : Nat := 0xf00050
def R.OBS_DEBUG : Nat := 0xf00058
def R.OBS_UNIT (n i : Nat) : Nat := 0xf00100 + 0x20 * n + 0x8 * i
def R.OBS_UNIT_STATUS (n : Nat) : Nat := 0xf00118 + 0x20 * n
def R.OBS_CNT_GATED_AC : Nat := 0xf00900
def R.OBS_CNT_TRACE_RECORDS : Nat := 0xf00908
def R.OBS_CNT_TRACE_LOST : Nat := 0xf00910
def R.OBS_CNT_WATCH_HITS : Nat := 0xf00918
def R.OBS_CNT_FREEZES : Nat := 0xf00920
def R.OBS_CNT_DUMPS : Nat := 0xf00928
def R.OBS_WATCH_LO (n : Nat) : Nat := 0xf00a00 + 0x18 * n
def R.OBS_WATCH_HI (n : Nat) : Nat := 0xf00a08 + 0x18 * n
def R.OBS_WATCH_CTRL (n : Nat) : Nat := 0xf00a10 + 0x18 * n
def R.OBS_METEOR_SEL : Nat := 0xf00b00
def R.OBS_METEOR_DATA (n : Nat) : Nat := 0xf00b08 + 0x8 * n
def R.OBS_DUMP_BASE : Nat := 0xf00c00
def R.OBS_DUMP_CMD : Nat := 0xf00c08
def R.OBS_DUMP_STATUS : Nat := 0xf00c10
def R.OBS_TCNT (n i : Nat) : Nat := 0xf01000 + 0x40 * n + 0x8 * i
def R.HIF_LINK_STATUS : Nat := 0x0
def R.HIF_PF_PRIV : Nat := 0x8
def R.HIF_BRIDGE_WEIGHT : Nat := 0x10
def R.HIF_BRIDGE_STATUS : Nat := 0x18
def R.HIF_CNT_SEL : Nat := 0x20
def R.HIF_CNT_DATA : Nat := 0x28
def R.HIF_EVQ_BASE : Nat := 0x30
def R.HIF_EVQ_CONS : Nat := 0x38
def R.BOOT_STATUS (n : Nat) : Nat := 0x400000 + 0x8 * n
def R.BOOT_CMD : Nat := 0x400040
def R.BOOT_SRC : Nat := 0x400048
def R.BOOT_FUSE_CMD : Nat := 0x400080
def R.BOOT_FUSE_DATA (n : Nat) : Nat := 0x400100 + 0x8 * n
def R.BOOT_FUSE_STATE (n : Nat) : Nat := 0x400180 + 0x8 * n
def R.BOOT_DEVICE_ID (n : Nat) : Nat := 0x4001c0 + 0x8 * n
def R.SUP_ID : Nat := 0x800000
def R.SUP_CAP : Nat := 0x800008
def R.SUP_CHN_CTRL (n : Nat) : Nat := 0x800100 + 0x8 * n
def R.SUP_CHN_STATUS (n : Nat) : Nat := 0x800140 + 0x8 * n
def R.SUP_FREEZE : Nat := 0x800200

/-! ## Fields -/

def F.CHN_ID_stepping_minor : Fld := ⟨0, 8⟩
def F.CHN_ID_stepping_major : Fld := ⟨8, 8⟩
def F.CHN_ID_part : Fld := ⟨16, 16⟩
def F.CHN_ID_generation : Fld := ⟨32, 8⟩
def F.CHN_CAP_mxe : Fld := ⟨0, 4⟩
def F.CHN_CAP_rvu : Fld := ⟨4, 2⟩
def F.CHN_CAP_cam_banks : Fld := ⟨6, 6⟩
def F.CHN_CAP_model_slots : Fld := ⟨12, 7⟩
def F.CHN_CAP_tenants : Fld := ⟨19, 5⟩
def F.CHN_CAP_training_contexts : Fld := ⟨24, 3⟩
def F.CHN_CAP_zlk_ports : Fld := ⟨27, 2⟩
def F.CHN_CAP_spad_mib : Fld := ⟨29, 11⟩
def F.CHN_CAP_feature_programs : Fld := ⟨40, 7⟩
def F.CHN_CAP_ensembles : Fld := ⟨47, 6⟩
def F.CHN_LOCATION_channel : Fld := ⟨0, 3⟩
def F.CHN_LOCATION_die : Fld := ⟨3, 2⟩
def F.CHN_LOCATION_die_position : Fld := ⟨5, 1⟩
def F.CHN_LOCATION_ring_prev : Fld := ⟨8, 3⟩
def F.CHN_LOCATION_ring_next : Fld := ⟨12, 3⟩
def F.CHN_STAGE_REQ_slot : Fld := ⟨0, 6⟩
def F.CHN_STAGE_REQ_start : Fld := ⟨6, 1⟩
def F.CHN_STAGE_STATUS_state : Fld := ⟨0, 2⟩
def F.CHN_STAGE_STATUS_reason : Fld := ⟨2, 5⟩
def F.CHN_STAGE_STATUS_step : Fld := ⟨7, 4⟩
def F.CHN_STAGE_STATUS_slot : Fld := ⟨11, 6⟩
def F.CHN_STAGE_SRC_address : Fld := ⟨0, 36⟩
def F.CHN_STAGE_BACKUP_address : Fld := ⟨0, 39⟩
def F.CHN_STAGE_BACKUP_tier : Fld := ⟨39, 2⟩
def F.CHN_STAGE_BANKS_bank_mask : Fld := ⟨0, 32⟩
def F.CHN_SLOT_CFG_enable : Fld := ⟨0, 1⟩
def F.CHN_SLOT_CFG_tenant : Fld := ⟨1, 7⟩
def F.CHN_SLOT_CFG_kind : Fld := ⟨8, 2⟩
def F.CHN_SLOT_WIN_base : Fld := ⟨0, 12⟩
def F.CHN_SLOT_WIN_size : Fld := ⟨16, 12⟩
def F.CHN_SLOT_STATE_serving_side : Fld := ⟨0, 1⟩
def F.CHN_SLOT_STATE_serving_state : Fld := ⟨1, 2⟩
def F.CHN_SLOT_STATE_standby_state : Fld := ⟨3, 3⟩
def F.CHN_SLOT_STATE_runs : Fld := ⟨6, 2⟩
def F.CHN_SLOT_STATE_swaps : Fld := ⟨32, 32⟩
def F.CHN_SLOT_CMD_command : Fld := ⟨0, 3⟩
def F.CHN_SLOT_CMD_start : Fld := ⟨3, 1⟩
def F.CHN_SLOT_CMD_last_result : Fld := ⟨4, 2⟩
def F.CHN_SLOT_FAIL_index : Fld := ⟨0, 10⟩
def F.CHN_SLOT_FAIL_status : Fld := ⟨10, 3⟩
def F.CHN_SLOT_FAIL_layer_id : Fld := ⟨32, 16⟩
def F.CHN_SLOT_FAIL_operator_id : Fld := ⟨48, 16⟩
def F.CHN_TENANT_exists : Fld := ⟨0, 1⟩
def F.CHN_TENANT_class : Fld := ⟨1, 1⟩
def F.CHN_TENANT_create : Fld := ⟨2, 1⟩
def F.CHN_HQ_BASE_base : Fld := ⟨6, 58⟩
def F.CHN_HQ_BASE_log2_size : Fld := ⟨0, 5⟩
def F.CHN_HQ_PROD_prod : Fld := ⟨0, 16⟩
def F.CHN_HQ_CONS_cons : Fld := ⟨0, 16⟩
def F.CHN_HQ_CONS_in_flight : Fld := ⟨16, 16⟩
def F.CHN_EVQ_BASE_base : Fld := ⟨6, 58⟩
def F.CHN_EVQ_BASE_log2_size : Fld := ⟨0, 5⟩
def F.CHN_EVQ_CTRL_cons : Fld := ⟨0, 16⟩
def F.CHN_EVQ_CTRL_prod : Fld := ⟨16, 16⟩
def F.CHN_EVQ_CTRL_holdoff : Fld := ⟨32, 10⟩
def F.CHN_EVQ_CTRL_dropped : Fld := ⟨42, 22⟩
def F.CHN_HRING_BASE_base : Fld := ⟨6, 58⟩
def F.CHN_HRING_BASE_log2_size : Fld := ⟨0, 5⟩
def F.CHN_HRING_IDX_cons : Fld := ⟨0, 16⟩
def F.CHN_HRING_IDX_prod : Fld := ⟨16, 16⟩
def F.CHN_HRING_IDX_holdoff : Fld := ⟨32, 10⟩
def F.PDP_CTRL_port_enable : Fld := ⟨0, 1⟩
def F.PDP_CTRL_mode : Fld := ⟨1, 1⟩
def F.PDP_CTRL_malformed_verdict : Fld := ⟨2, 1⟩
def F.PDP_CTRL_unknown_tenant_verdict : Fld := ⟨3, 1⟩
def F.PDP_CTRL_pause_enable : Fld := ⟨4, 1⟩
def F.PDP_LINK_STATUS_link_state : Fld := ⟨0, 3⟩
def F.PDP_LINK_STATUS_lane_locked : Fld := ⟨3, 8⟩
def F.PDP_LINK_STATUS_aligned : Fld := ⟨11, 1⟩
def F.PDP_LINK_STATUS_expected_seq : Fld := ⟨32, 32⟩
def F.PDP_FAIL_POLICY_fail_closed : Fld := ⟨0, 16⟩
def F.PDP_FAIL_POLICY_tenant_present : Fld := ⟨16, 16⟩
def F.PDP_ETH_DA_address : Fld := ⟨0, 48⟩
def F.PDP_ETH_SA_address : Fld := ⟨0, 48⟩
def F.CRF_STATUS_occupancy : Fld := ⟨0, 20⟩
def F.CRF_STATUS_high_water : Fld := ⟨20, 20⟩
def F.CRF_STATUS_reset_high_water : Fld := ⟨40, 1⟩
def F.CRF_STATUS_slack_in_use : Fld := ⟨41, 1⟩
def F.CRF_CREDIT_limit_sent : Fld := ⟨0, 64⟩
def F.CRF_RECEIVED_words_received : Fld := ⟨0, 64⟩
def F.CRF_CNT_ECC_corrected : Fld := ⟨0, 64⟩
def F.PRS_CTRL_stage_enable : Fld := ⟨0, 12⟩
def F.PRS_IND_SEL_stage : Fld := ⟨0, 4⟩
def F.PRS_IND_SEL_target : Fld := ⟨4, 1⟩
def F.PRS_IND_SEL_index : Fld := ⟨5, 12⟩
def F.PRS_IND_SEL_write : Fld := ⟨17, 1⟩
def F.PRS_IND_SEL_start : Fld := ⟨18, 1⟩
def F.PRS_IND_SEL_result : Fld := ⟨19, 3⟩
def F.PRS_IND_DATA_data : Fld := ⟨0, 64⟩
def F.PRS_STAGE_kind : Fld := ⟨0, 1⟩
def F.PRS_STAGE_has_default : Fld := ⟨1, 1⟩
def F.PRS_STAGE_tenant_owned : Fld := ⟨2, 1⟩
def F.PRS_STAGE_owner_tenant : Fld := ⟨3, 7⟩
def F.PRS_STAGE_entries : Fld := ⟨10, 12⟩
def F.PRS_EXTRACT_enable (k : Nat) : Fld := ⟨12 * k, 1⟩
def F.PRS_EXTRACT_source (k : Nat) : Fld := ⟨12 * k + 1, 1⟩
def F.PRS_EXTRACT_width (k : Nat) : Fld := ⟨12 * k + 2, 2⟩
def F.PRS_EXTRACT_offset (k : Nat) : Fld := ⟨12 * k + 4, 8⟩
def F.FLW_CTRL_enable : Fld := ⟨0, 1⟩
def F.FLW_HASH_SEED_seed1 : Fld := ⟨0, 32⟩
def F.FLW_HASH_SEED_seed2 : Fld := ⟨32, 32⟩
def F.FLW_MAINT_force_interval : Fld := ⟨0, 11⟩
def F.FLW_REGION_A_base_bucket : Fld := ⟨0, 26⟩
def F.FLW_REGION_A_log2_buckets : Fld := ⟨26, 5⟩
def F.FLW_REGION_B_cache_set_base : Fld := ⟨0, 12⟩
def F.FLW_REGION_B_log2_sets : Fld := ⟨12, 4⟩
def F.FLW_REGION_B_age_period : Fld := ⟨16, 16⟩
def F.FLW_REGION_B_learn_to : Fld := ⟨32, 2⟩
def F.FLW_REGION_B_cold_enable : Fld := ⟨34, 1⟩
def F.FLW_REGION_B_log2_cold : Fld := ⟨35, 5⟩
def F.FLW_REGION_B_t2_base : Fld := ⟨40, 24⟩
def F.FLW_LOCK_REQ_bucket : Fld := ⟨0, 26⟩
def F.FLW_LOCK_REQ_tenant : Fld := ⟨26, 7⟩
def F.FLW_LOCK_REQ_start : Fld := ⟨33, 1⟩
def F.FLW_LOCK_REQ_table : Fld := ⟨34, 3⟩
def F.FLW_LOCK_REL_bucket : Fld := ⟨0, 26⟩
def F.FLW_LOCK_REL_tenant : Fld := ⟨26, 7⟩
def F.FLW_LOCK_REL_start : Fld := ⟨33, 1⟩
def F.FLW_LOCK_REL_table : Fld := ⟨34, 3⟩
def F.FLW_LOCK_STATUS_last_result : Fld := ⟨0, 3⟩
def F.FLW_LOCK_STATUS_held : Fld := ⟨3, 5⟩
def F.FLW_LOCK_STATUS_parked : Fld := ⟨8, 6⟩
def F.FLW_LOCK_STATUS_queue_full : Fld := ⟨14, 1⟩
def F.FLW_LOCK_CTRL_max_hold : Fld := ⟨0, 10⟩
def F.FTR_CTRL_enable : Fld := ⟨0, 1⟩
def F.FTR_STATE_op (k : Nat) : Fld := ⟨8 * k, 8⟩
def F.FTR_PROG_slot_base : Fld := ⟨0, 32⟩
def F.FTR_PROG_count : Fld := ⟨32, 8⟩
def F.FTR_PROG_rotation : Fld := ⟨40, 2⟩
def F.FTR_PROG_owner : Fld := ⟨42, 7⟩
def F.FTR_PROG_loaded : Fld := ⟨49, 1⟩
def F.FTR_LOOKUP_kind : Fld := ⟨0, 2⟩
def F.FTR_LOOKUP_key_offset : Fld := ⟨2, 6⟩
def F.FTR_LOOKUP_key_len : Fld := ⟨8, 5⟩
def F.FTR_LOOKUP_table_base : Fld := ⟨13, 26⟩
def F.FTR_LOOKUP_log2_buckets : Fld := ⟨39, 5⟩
def F.FST_CTRL_enable : Fld := ⟨0, 1⟩
def F.FST_CTRL_repair_enable : Fld := ⟨1, 1⟩
def F.FST_REPAIR_STATUS_bank : Fld := ⟨0, 5⟩
def F.FST_REPAIR_STATUS_entry : Fld := ⟨5, 11⟩
def F.FST_REPAIR_STATUS_queued : Fld := ⟨16, 5⟩
def F.FST_REPAIR_STATUS_queue_full : Fld := ⟨21, 1⟩
def F.FST_ENS_CFG_valid : Fld := ⟨0, 1⟩
def F.FST_ENS_CFG_cut_code : Fld := ⟨1, 1⟩
def F.FST_ENS_CFG_copies : Fld := ⟨2, 2⟩
def F.FST_ENS_CFG_log2_passes : Fld := ⟨4, 2⟩
def F.FST_ENS_CFG_tenant : Fld := ⟨6, 7⟩
def F.FST_ENS_CFG_model_slot : Fld := ⟨13, 8⟩
def F.FST_ENS_CFG_trees : Fld := ⟨21, 13⟩
def F.FST_ENS_CFG_fields : Fld := ⟨34, 7⟩
def F.FST_ENS_CFG_missing_fields : Fld := ⟨41, 7⟩
def F.FST_ENS_CFG_outputs : Fld := ⟨48, 2⟩
def F.FST_ENS_CFG_program : Fld := ⟨50, 6⟩
def F.FST_ENS_BANKS_bank_mask : Fld := ⟨0, 32⟩
def F.FST_ENS_BANKS_cut_base : Fld := ⟨32, 14⟩
def F.FST_ENS_SCALE_scale : Fld := ⟨0, 32⟩
def F.FST_ENS_BASE_base (k : Nat) : Fld := ⟨16 * k, 16⟩
def F.MXE_CTRL_enable : Fld := ⟨0, 1⟩
def F.MXE_CTRL_part_mode : Fld := ⟨1, 2⟩
def F.MXE_PART_owner (k : Nat) : Fld := ⟨8 * k, 7⟩
def F.MXE_PART_assigned (k : Nat) : Fld := ⟨8 * k + 7, 1⟩
def F.MXE_STATUS_busy : Fld := ⟨0, 4⟩
def F.MXE_STATUS_standby_ready : Fld := ⟨4, 4⟩
def F.MXE_STATUS_tag : Fld := ⟨8, 4⟩
def F.MXE_STATUS_fenced : Fld := ⟨12, 4⟩
def F.MXE_STATUS_level : Fld := ⟨16, 20⟩
def F.RVU_CTRL_enable_0 : Fld := ⟨0, 1⟩
def F.RVU_CTRL_enable_1 : Fld := ⟨1, 1⟩
def F.RVU_STATUS_busy : Fld := ⟨0, 2⟩
def F.RVU_STATUS_fenced : Fld := ⟨2, 2⟩
def F.RVU_STATUS_level_0 : Fld := ⟨4, 5⟩
def F.RVU_STATUS_level_1 : Fld := ⟨9, 5⟩
def F.RVU_STATUS_free_pages_0 : Fld := ⟨14, 9⟩
def F.RVU_STATUS_free_pages_1 : Fld := ⟨23, 9⟩
def F.RVU_PAGE_OWNER_owner (k : Nat) : Fld := ⟨8 * k, 7⟩
def F.RVU_PAGE_OWNER_assigned (k : Nat) : Fld := ⟨8 * k + 7, 1⟩
def F.ACU_CTRL_enable : Fld := ⟨0, 1⟩
def F.ACU_CTRL_slot_mode : Fld := ⟨1, 1⟩
def F.ACU_ABORT_tenant : Fld := ⟨0, 7⟩
def F.ACU_ABORT_model_slot : Fld := ⟨7, 8⟩
def F.ACU_ABORT_start : Fld := ⟨15, 1⟩
def F.ACU_ABORT_STATUS_cancelled : Fld := ⟨0, 16⟩
def F.ACU_ABORT_STATUS_late : Fld := ⟨16, 16⟩
def F.ACU_OVF_STATUS_engine : Fld := ⟨0, 2⟩
def F.ACU_OVF_STATUS_partition : Fld := ⟨2, 3⟩
def F.ACU_OVF_STATUS_tile : Fld := ⟨5, 4⟩
def F.ACU_OVF_STATUS_shift : Fld := ⟨9, 2⟩
def F.ACU_OVF_STATUS_persistent : Fld := ⟨11, 1⟩
def F.ACU_TILE_STATE_state (k : Nat) : Fld := ⟨2 * k, 2⟩
def F.ACU_SR_SEED_seed : Fld := ⟨0, 64⟩
def F.ACU_SAVE_BASE_base : Fld := ⟨0, 32⟩
def F.ACU_SAVE_BASE_valid : Fld := ⟨32, 1⟩
def F.VPE_CTRL_enable : Fld := ⟨0, 1⟩
def F.VPE_CTRL_credit_mode : Fld := ⟨1, 1⟩
def F.VPE_CTRL_xitar4_refill : Fld := ⟨2, 1⟩
def F.VPE_GATE_CTRL_enable : Fld := ⟨0, 1⟩
def F.VPE_GATE_CTRL_commit : Fld := ⟨1, 1⟩
def F.VPE_GATE_ADMIN_cycle_time : Fld := ⟨0, 32⟩
def F.VPE_GATE_ADMIN_count : Fld := ⟨32, 7⟩
def F.VPE_GATE_BASE_base_time : Fld := ⟨0, 64⟩
def F.VPE_GATE_STATUS_active_list : Fld := ⟨0, 1⟩
def F.VPE_GATE_STATUS_pending : Fld := ⟨1, 1⟩
def F.VPE_GATE_STATUS_entry : Fld := ⟨2, 6⟩
def F.VPE_GATE_STATUS_last_result : Fld := ⟨8, 3⟩
def F.VPE_GATE_STATUS_cycles : Fld := ⟨32, 32⟩
def F.VPE_IND_SEL_target : Fld := ⟨0, 3⟩
def F.VPE_IND_SEL_index : Fld := ⟨8, 16⟩
def F.VPE_IND_SEL_write : Fld := ⟨24, 1⟩
def F.VPE_IND_SEL_start : Fld := ⟨25, 1⟩
def F.VPE_IND_SEL_result : Fld := ⟨26, 3⟩
def F.VPE_IND_DATA_data : Fld := ⟨0, 64⟩
def F.VPE_TPOL_primary_slot : Fld := ⟨0, 8⟩
def F.VPE_TPOL_fallback_slot : Fld := ⟨8, 8⟩
def F.VPE_TPOL_default_code : Fld := ⟨16, 4⟩
def F.VPE_GROUP_members : Fld := ⟨0, 16⟩
def F.VPE_GROUP_share_gate : Fld := ⟨16, 1⟩
def F.VPE_GROUP_share_mxe : Fld := ⟨17, 1⟩
def F.VPE_GROUP_valid : Fld := ⟨18, 1⟩
def F.VPE_SLOT_score_mode : Fld := ⟨0, 2⟩
def F.VPE_SLOT_score_mul : Fld := ⟨32, 32⟩
def F.VPE_WFQ_w_mxe : Fld := ⟨0, 8⟩
def F.VPE_WFQ_w_rvu : Fld := ⟨8, 8⟩
def F.VPE_WFQ_w_vec : Fld := ⟨16, 8⟩
def F.VPE_WFQ_w_fst : Fld := ⟨24, 8⟩
def F.VPE_WFQ_burst : Fld := ⟨32, 16⟩
def F.VPE_MTR_REGION_base : Fld := ⟨0, 15⟩
def F.VPE_MTR_REGION_log2_meters : Fld := ⟨16, 4⟩
def F.VPE_MTR_REGION_flow_log2 : Fld := ⟨20, 4⟩
def F.VPE_SHP_rate : Fld := ⟨0, 32⟩
def F.VPE_SHP_burst : Fld := ⟨32, 24⟩
def F.VPE_SHP_enable : Fld := ⟨56, 1⟩
def F.VPE_SHP_reset_to_full : Fld := ⟨57, 1⟩
def F.TRN_CTRL_enable : Fld := ⟨0, 1⟩
def F.TRN_CFG_enable : Fld := ⟨0, 1⟩
def F.TRN_CFG_train_slot : Fld := ⟨1, 6⟩
def F.TRN_CFG_serve_slot : Fld := ⟨7, 6⟩
def F.TRN_CFG_publish : Fld := ⟨13, 1⟩
def F.TRN_CFG_rank : Fld := ⟨14, 2⟩
def F.TRN_CFG_group_id : Fld := ⟨16, 16⟩
def F.TRN_CFG_interval : Fld := ⟨32, 11⟩
def F.TRN_CFG_publish_every : Fld := ⟨43, 8⟩
def F.TRN_CFG_batch_rows : Fld := ⟨51, 7⟩
def F.TRN_CFG_min_rows : Fld := ⟨58, 6⟩
def F.TRN_LINK_port_next : Fld := ⟨0, 2⟩
def F.TRN_LINK_port_prev : Fld := ⟨2, 2⟩
def F.TRN_LINK_batch_window : Fld := ⟨4, 16⟩
def F.TRN_LINK_vote_timeout : Fld := ⟨20, 16⟩
def F.TRN_LINK_sample_shift : Fld := ⟨36, 4⟩
def F.TRN_POLICY_code_mask : Fld := ⟨0, 6⟩
def F.TRN_POLICY_allow_yellow : Fld := ⟨6, 1⟩
def F.TRN_POLICY_score_max : Fld := ⟨16, 16⟩
def F.TRN_SEED_seed : Fld := ⟨0, 64⟩
def F.TRN_MASTER_base : Fld := ⟨0, 32⟩
def F.TRN_MASTER_params : Fld := ⟨32, 25⟩
def F.TRN_T1_base : Fld := ⟨0, 36⟩
def F.TRN_PUB_address : Fld := ⟨0, 39⟩
def F.TRN_PUB_tier : Fld := ⟨39, 2⟩
def F.TRN_STATUS_state : Fld := ⟨0, 3⟩
def F.TRN_STATUS_active : Fld := ⟨3, 3⟩
def F.TRN_STATUS_vote_open : Fld := ⟨6, 1⟩
def F.TRN_STATUS_publish_wait : Fld := ⟨7, 1⟩
def F.TRN_STEP_step : Fld := ⟨0, 64⟩
def F.TRN_AGREED_agreed : Fld := ⟨0, 64⟩
def F.TRN_DIGEST_digest : Fld := ⟨0, 64⟩
def F.CHK_CTRL_sweep_enable : Fld := ⟨0, 1⟩
def F.CHK_CTRL_scrub_enable : Fld := ⟨1, 1⟩
def F.CHK_CTRL_digest_enable : Fld := ⟨2, 1⟩
def F.CHK_CTRL_transient_limit : Fld := ⟨3, 8⟩
def F.CHK_CTRL_digest_period : Fld := ⟨11, 16⟩
def F.CHK_VMODE_gated : Fld := ⟨0, 16⟩
def F.CHK_VMODE_pending : Fld := ⟨16, 16⟩
def F.CHK_EPOCH_epoch : Fld := ⟨0, 64⟩
def F.CHK_EPOCH_CLOSED_closed : Fld := ⟨0, 64⟩
def F.CHK_FAULT_unit : Fld := ⟨0, 4⟩
def F.CHK_FAULT_engine : Fld := ⟨4, 2⟩
def F.CHK_FAULT_quadrant : Fld := ⟨6, 2⟩
def F.CHK_FAULT_bank : Fld := ⟨8, 5⟩
def F.CHK_FAULT_entry : Fld := ⟨13, 11⟩
def F.CHK_FAULT_row : Fld := ⟨24, 10⟩
def F.CHK_FAULT_outcome : Fld := ⟨34, 2⟩
def F.CHK_FAULT_tenant : Fld := ⟨36, 7⟩
def F.CHK_FENCE_quadrants : Fld := ⟨0, 16⟩
def F.CHK_FENCE_rvu : Fld := ⟨16, 2⟩
def F.CHK_FENCE_trees : Fld := ⟨18, 2⟩
def F.CHK_FENCE_BANKS_banks : Fld := ⟨0, 32⟩
def F.CHK_UNFENCE_unfence : Fld := ⟨0, 20⟩
def F.CHK_UNFENCE_BANKS_unfence : Fld := ⟨0, 32⟩
def F.CHK_REMAP_0_engine (k : Nat) : Fld := ⟨8 * k, 2⟩
def F.CHK_REMAP_0_partition (k : Nat) : Fld := ⟨8 * k + 2, 3⟩
def F.CHK_REMAP_0_remapped (k : Nat) : Fld := ⟨8 * k + 7, 1⟩
def F.CHK_REMAP_1_engine (k : Nat) : Fld := ⟨8 * k, 2⟩
def F.CHK_REMAP_1_partition (k : Nat) : Fld := ⟨8 * k + 2, 3⟩
def F.CHK_REMAP_1_remapped (k : Nat) : Fld := ⟨8 * k + 7, 1⟩
def F.CHK_UNDO_base : Fld := ⟨0, 32⟩
def F.CHK_UNDO_occupancy : Fld := ⟨32, 19⟩
def F.MEM_CTRL_enable : Fld := ⟨0, 1⟩
def F.MEM_STATUS_t1_ready : Fld := ⟨0, 1⟩
def F.MEM_STATUS_t2_state : Fld := ⟨1, 3⟩
def F.MEM_STATUS_t3_link : Fld := ⟨4, 2⟩
def F.MEM_STATUS_t3_hdm_ready : Fld := ⟨6, 1⟩
def F.MEM_STATUS_t3_gib : Fld := ⟨16, 16⟩
def F.MEM_STATUS_t1_temp : Fld := ⟨32, 8⟩
def F.MEM_T2_CTRL_evacuate : Fld := ⟨0, 1⟩
def F.MEM_T2_CTRL_restore : Fld := ⟨1, 1⟩
def F.MEM_T2_CTRL_dimm0_power : Fld := ⟨2, 1⟩
def F.MEM_T2_CTRL_dimm1_power : Fld := ⟨3, 1⟩
def F.MEM_KEY_CMD_tenant : Fld := ⟨0, 4⟩
def F.MEM_KEY_CMD_erase : Fld := ⟨4, 1⟩
def F.MEM_KEY_CMD_last_result : Fld := ⟨5, 2⟩
def F.MEM_SPAD_APERTURE_page : Fld := ⟨0, 4⟩
def F.MEM_ERR_LOG_address : Fld := ⟨0, 39⟩
def F.MEM_ERR_LOG_tier : Fld := ⟨39, 2⟩
def F.MEM_REGION_A_valid : Fld := ⟨0, 1⟩
def F.MEM_REGION_A_tier : Fld := ⟨1, 2⟩
def F.MEM_REGION_A_owner : Fld := ⟨3, 8⟩
def F.MEM_REGION_A_filling : Fld := ⟨11, 1⟩
def F.MEM_REGION_B_base : Fld := ⟨0, 27⟩
def F.MEM_REGION_B_size : Fld := ⟨27, 27⟩
def F.MEM_REGION_B_move_to : Fld := ⟨54, 6⟩
def F.MEM_REGION_B_move_valid : Fld := ⟨60, 1⟩
def F.ZLK_CTRL_topology : Fld := ⟨0, 2⟩
def F.ZLK_CTRL_device : Fld := ⟨2, 3⟩
def F.ZLK_PORT_CTRL_port_enable : Fld := ⟨0, 1⟩
def F.ZLK_PORT_STATUS_state : Fld := ⟨0, 3⟩
def F.ZLK_PORT_STATUS_lane_locked : Fld := ⟨3, 4⟩
def F.ZLK_PORT_STATUS_partner_device : Fld := ⟨7, 3⟩
def F.ZLK_PORT_STATUS_partner_port : Fld := ⟨10, 2⟩
def F.ZLK_PORT_STATUS_unacked : Fld := ⟨12, 8⟩
def F.ZLK_PORT_STATUS_delay_ps : Fld := ⟨20, 44⟩
def F.ZLK_PARTNER_ID_identity : Fld := ⟨0, 64⟩
def F.ZLK_ROUTE_port (k : Nat) : Fld := ⟨4 * k, 2⟩
def F.ZLK_ROUTE_hops (k : Nat) : Fld := ⟨4 * k + 2, 2⟩
def F.ZLK_OFFSET_offset : Fld := ⟨0, 63⟩
def F.ZLK_OFFSET_valid : Fld := ⟨63, 1⟩
def F.ZLK_SHARE_dest_mask : Fld := ⟨0, 8⟩
def F.ZLK_SHARE_code_mask : Fld := ⟨8, 6⟩
def F.ZLK_SHARE_peer_tenant : Fld := ⟨14, 4⟩
def F.ZLK_SHARE_key_offset : Fld := ⟨18, 6⟩
def F.ZLK_SHARE_key_len : Fld := ⟨24, 5⟩
def F.ZLK_ACCEPT_from_mask : Fld := ⟨0, 8⟩
def F.ZLK_ACCEPT_origin_tenant : Fld := ⟨8, 4⟩
def F.ZLK_ACCEPT_lookup : Fld := ⟨12, 2⟩
def F.PWR_CTRL_idle_enable : Fld := ⟨0, 1⟩
def F.PWR_CTRL_target : Fld := ⟨1, 2⟩
def F.PWR_CTRL_go : Fld := ⟨3, 1⟩
def F.PWR_CTRL_auto_restart : Fld := ⟨4, 1⟩
def F.PWR_CTRL_safe_serve_limit : Fld := ⟨5, 16⟩
def F.PWR_STATUS_state : Fld := ⟨0, 3⟩
def F.PWR_STATUS_point : Fld := ⟨3, 2⟩
def F.PWR_STATUS_floor : Fld := ⟨5, 2⟩
def F.PWR_STATUS_safe_serve : Fld := ⟨7, 1⟩
def F.PWR_STATUS_fail_stop : Fld := ⟨8, 1⟩
def F.PWR_STATUS_fail_reason : Fld := ⟨9, 4⟩
def F.PWR_STATUS_last_result : Fld := ⟨13, 2⟩
def F.PWR_STATUS_temp : Fld := ⟨15, 8⟩
def F.PWR_STATUS_temp_prev : Fld := ⟨23, 8⟩
def F.PWR_STATUS_temp_next : Fld := ⟨31, 8⟩
def F.PWR_STATUS_vdd : Fld := ⟨39, 10⟩
def F.PWR_OPP_REQ_point : Fld := ⟨0, 2⟩
def F.PWR_OPP_freq_khz : Fld := ⟨0, 21⟩
def F.PWR_OPP_vdd : Fld := ⟨21, 10⟩
def F.LDS_ATT_REQ_scope : Fld := ⟨0, 1⟩
def F.LDS_ATT_REQ_tenant : Fld := ⟨1, 7⟩
def F.LDS_ATT_REQ_start : Fld := ⟨8, 1⟩
def F.LDS_ATT_DEST_address : Fld := ⟨0, 28⟩
def F.LDS_ATT_NONCE_nonce : Fld := ⟨0, 64⟩
def F.LDS_ATT_STATUS_state : Fld := ⟨0, 2⟩
def F.LDS_ATT_STATUS_result : Fld := ⟨2, 3⟩
def F.LDS_ATT_STATUS_length : Fld := ⟨5, 15⟩
def F.LDS_ATT_STATUS_lms_index : Fld := ⟨32, 32⟩
def F.LDS_ATT_REMAINING_remaining : Fld := ⟨0, 31⟩
def F.LDS_WATCH_STATUS_prev : Fld := ⟨0, 3⟩
def F.LDS_WATCH_STATUS_next : Fld := ⟨3, 3⟩
def F.LDS_WATCH_STATUS_resets_issued : Fld := ⟨6, 8⟩
def F.LDS_WATCH_STATUS_restarts : Fld := ⟨14, 8⟩
def F.LDS_NOTE_BASE_base : Fld := ⟨0, 28⟩
def F.LDS_NOTE_IDX_prod : Fld := ⟨0, 11⟩
def F.LDS_NOTE_IDX_cons : Fld := ⟨16, 11⟩
def F.LDS_INS_BASE_base : Fld := ⟨0, 28⟩
def F.LDS_INS_IDX_prod : Fld := ⟨0, 9⟩
def F.LDS_INS_IDX_cons : Fld := ⟨16, 9⟩
def F.LDS_ENT_SEED_seed1 : Fld := ⟨0, 32⟩
def F.LDS_ENT_SEED_seed2 : Fld := ⟨32, 32⟩
def F.OBS_CTRL_dump_on_fail : Fld := ⟨0, 1⟩
def F.OBS_CTRL_telemetry_events : Fld := ⟨2, 1⟩
def F.OBS_CTRL_run_limit : Fld := ⟨3, 16⟩
def F.OBS_CTRL_summary_period : Fld := ⟨19, 16⟩
def F.OBS_FREEZE_freeze : Fld := ⟨0, 1⟩
def F.OBS_FREEZE_unfreeze : Fld := ⟨1, 1⟩
def F.OBS_FREEZE_arm : Fld := ⟨2, 1⟩
def F.OBS_FREEZE_frozen : Fld := ⟨3, 1⟩
def F.OBS_FREEZE_cause : Fld := ⟨4, 4⟩
def F.OBS_FREEZE_AT_time : Fld := ⟨0, 64⟩
def F.OBS_FREEZE_TIME_time : Fld := ⟨0, 64⟩
def F.OBS_TRACE_CTRL_enable : Fld := ⟨0, 1⟩
def F.OBS_TRACE_CTRL_sample_log2 : Fld := ⟨1, 5⟩
def F.OBS_TRACE_CTRL_cmd_trace : Fld := ⟨6, 1⟩
def F.OBS_TRACE_CTRL_wrap : Fld := ⟨7, 1⟩
def F.OBS_TRACE_UNITS_mask : Fld := ⟨0, 64⟩
def F.OBS_TRACE_BASE_base : Fld := ⟨0, 36⟩
def F.OBS_TRACE_BASE_log2_size : Fld := ⟨36, 6⟩
def F.OBS_TRACE_PTR_wptr : Fld := ⟨0, 36⟩
def F.OBS_TRACE_PTR_wrapped : Fld := ⟨36, 1⟩
def F.OBS_TRACE_PTR_full : Fld := ⟨37, 1⟩
def F.OBS_MARKER_value : Fld := ⟨0, 32⟩
def F.OBS_STALL_SEL_unit : Fld := ⟨0, 6⟩
def F.OBS_STALL_SEL_reason : Fld := ⟨6, 5⟩
def F.OBS_STALL_DATA_cycles : Fld := ⟨0, 64⟩
def F.OBS_DEBUG_debug : Fld := ⟨0, 1⟩
def F.OBS_UNIT_cycles : Fld := ⟨0, 64⟩
def F.OBS_UNIT_STATUS_state : Fld := ⟨0, 2⟩
def F.OBS_UNIT_STATUS_reason : Fld := ⟨2, 5⟩
def F.OBS_WATCH_LO_addr : Fld := ⟨0, 39⟩
def F.OBS_WATCH_HI_addr : Fld := ⟨0, 39⟩
def F.OBS_WATCH_CTRL_tier : Fld := ⟨0, 2⟩
def F.OBS_WATCH_CTRL_on_read : Fld := ⟨2, 1⟩
def F.OBS_WATCH_CTRL_on_write : Fld := ⟨3, 1⟩
def F.OBS_WATCH_CTRL_do_trace : Fld := ⟨4, 1⟩
def F.OBS_WATCH_CTRL_do_event : Fld := ⟨5, 1⟩
def F.OBS_WATCH_CTRL_do_freeze : Fld := ⟨6, 1⟩
def F.OBS_METEOR_SEL_block : Fld := ⟨0, 5⟩
def F.OBS_METEOR_SEL_index : Fld := ⟨5, 8⟩
def F.OBS_METEOR_DATA_data : Fld := ⟨0, 64⟩
def F.OBS_DUMP_BASE_base : Fld := ⟨0, 28⟩
def F.OBS_DUMP_CMD_start : Fld := ⟨0, 1⟩
def F.OBS_DUMP_CMD_declare : Fld := ⟨1, 1⟩
def F.OBS_DUMP_CMD_result : Fld := ⟨2, 2⟩
def F.OBS_DUMP_STATUS_valid : Fld := ⟨0, 1⟩
def F.OBS_DUMP_STATUS_reason : Fld := ⟨1, 4⟩
def F.OBS_DUMP_STATUS_debug : Fld := ⟨5, 1⟩
def F.OBS_DUMP_STATUS_partial : Fld := ⟨6, 1⟩
def F.OBS_DUMP_STATUS_size : Fld := ⟨7, 21⟩
def F.HIF_LINK_STATUS_speed : Fld := ⟨0, 3⟩
def F.HIF_LINK_STATUS_width : Fld := ⟨3, 5⟩
def F.HIF_LINK_STATUS_flit : Fld := ⟨8, 1⟩
def F.HIF_PF_PRIV_priv : Fld := ⟨0, 8⟩
def F.HIF_BRIDGE_WEIGHT_weight (k : Nat) : Fld := ⟨8 * k, 8⟩
def F.HIF_BRIDGE_STATUS_no_answer : Fld := ⟨0, 8⟩
def F.HIF_BRIDGE_STATUS_backpressure : Fld := ⟨8, 8⟩
def F.HIF_CNT_SEL_offset : Fld := ⟨0, 26⟩
def F.HIF_CNT_SEL_channel : Fld := ⟨26, 3⟩
def F.HIF_CNT_SEL_start : Fld := ⟨29, 1⟩
def F.HIF_CNT_SEL_done : Fld := ⟨30, 1⟩
def F.HIF_CNT_DATA_data : Fld := ⟨0, 64⟩
def F.HIF_EVQ_BASE_base : Fld := ⟨6, 58⟩
def F.HIF_EVQ_BASE_log2_size : Fld := ⟨0, 5⟩
def F.HIF_EVQ_CONS_cons : Fld := ⟨0, 16⟩
def F.HIF_EVQ_CONS_prod : Fld := ⟨16, 16⟩
def F.HIF_EVQ_CONS_dropped : Fld := ⟨32, 32⟩
def F.BOOT_STATUS_boot_state : Fld := ⟨0, 3⟩
def F.BOOT_STATUS_active_bank : Fld := ⟨3, 1⟩
def F.BOOT_STATUS_reason_a : Fld := ⟨4, 4⟩
def F.BOOT_STATUS_reason_b : Fld := ⟨8, 4⟩
def F.BOOT_STATUS_security_version : Fld := ⟨12, 6⟩
def F.BOOT_STATUS_min_security : Fld := ⟨18, 6⟩
def F.BOOT_STATUS_config_rejects : Fld := ⟨24, 8⟩
def F.BOOT_STATUS_sequence : Fld := ⟨32, 32⟩
def F.BOOT_CMD_channel : Fld := ⟨0, 3⟩
def F.BOOT_CMD_command : Fld := ⟨3, 4⟩
def F.BOOT_CMD_start : Fld := ⟨7, 1⟩
def F.BOOT_CMD_result : Fld := ⟨8, 3⟩
def F.BOOT_CMD_reason : Fld := ⟨11, 4⟩
def F.BOOT_SRC_address : Fld := ⟨0, 36⟩
def F.BOOT_FUSE_CMD_channel : Fld := ⟨0, 3⟩
def F.BOOT_FUSE_CMD_op : Fld := ⟨3, 3⟩
def F.BOOT_FUSE_CMD_slot : Fld := ⟨6, 3⟩
def F.BOOT_FUSE_CMD_start : Fld := ⟨9, 1⟩
def F.BOOT_FUSE_CMD_result : Fld := ⟨10, 2⟩
def F.BOOT_FUSE_DATA_data : Fld := ⟨0, 64⟩
def F.BOOT_FUSE_STATE_programmed : Fld := ⟨0, 8⟩
def F.BOOT_FUSE_STATE_revoked : Fld := ⟨8, 8⟩
def F.BOOT_DEVICE_ID_device_id : Fld := ⟨0, 64⟩
def F.SUP_ID_stepping_minor : Fld := ⟨0, 8⟩
def F.SUP_ID_stepping_major : Fld := ⟨8, 8⟩
def F.SUP_ID_part : Fld := ⟨16, 16⟩
def F.SUP_ID_generation : Fld := ⟨32, 8⟩
def F.SUP_CAP_channels : Fld := ⟨0, 8⟩
def F.SUP_CAP_max_speed : Fld := ⟨8, 4⟩
def F.SUP_CAP_max_width : Fld := ⟨12, 5⟩
def F.SUP_CAP_vfs_per_channel : Fld := ⟨17, 5⟩
def F.SUP_CHN_CTRL_power_on : Fld := ⟨0, 1⟩
def F.SUP_CHN_CTRL_power_off : Fld := ⟨1, 1⟩
def F.SUP_CHN_CTRL_reset : Fld := ⟨2, 1⟩
def F.SUP_CHN_CTRL_result : Fld := ⟨3, 2⟩
def F.SUP_CHN_STATUS_power : Fld := ⟨0, 3⟩
def F.SUP_CHN_STATUS_fail_pin : Fld := ⟨3, 1⟩
def F.SUP_CHN_STATUS_fail_reason : Fld := ⟨4, 4⟩
def F.SUP_CHN_STATUS_auto_restarts : Fld := ⟨8, 8⟩
def F.SUP_FREEZE_channels : Fld := ⟨0, 8⟩
def F.SUP_FREEZE_freeze : Fld := ⟨8, 1⟩
def F.SUP_FREEZE_unfreeze : Fld := ⟨9, 1⟩
def F.SUP_FREEZE_follow_fail : Fld := ⟨10, 1⟩

end Sys2Proof.Machine
end

