-- ==== Sys2Proof/Machine/Bits.lean ====
section
/-!
DEFINITION. Machine/Bits.lean: byte order (R10), bit fields of registers (Table 00.2's fields) and two's complement.
-/

namespace Sys2Proof.Machine

open Sys2Proof

/-- The field `f` of register word `w`. -/
def getF (w : Word) (f : Fld) : Nat := (w.extractLsb' f.lo f.len).toNat

/-- The mask of field `f`. -/
def Fld.mask (f : Fld) : Word := BitVec.ofNat 64 ((2 ^ f.len - 1) * 2 ^ f.lo)

/-- `w` with field `f` holding the low bits of `v`; every other bit as in `w`. -/
def setF (w : Word) (f : Fld) (v : Nat) : Word :=
  (w &&& ~~~f.mask) ||| (BitVec.ofNat 64 (v * 2 ^ f.lo) &&& f.mask)

/-- `old` with the fields of a list as in `v`: what a write of `v` leaves when those fields are writable (R11, R14). -/
def mergeF (old v : Word) (fs : List Fld) : Word := fs.foldl (fun w f => setF w f (getF v f)) old

/-- Bit `i` of a mask field held as a number. -/
def bitOf (n i : Nat) : Bool := n.testBit i

/-- Number of set bits among the low `k` bits. -/
def popcount (n : Nat) : Nat → Nat
  | 0 => 0
  | k + 1 => popcount n k + (if n.testBit k then 1 else 0)

/-- `n` with bit `i` set or cleared. -/
def putBit (n i : Nat) (b : Bool) : Nat :=
  if n.testBit i then (if b then n else n - 2 ^ i) else (if b then n + 2 ^ i else n)

/-- The numbers below `k` whose bit is set in `n`, rising. -/
def bitsOf (n k : Nat) : List Nat := (List.range k).filter fun i => n.testBit i

/-- `a / b` rounded up (0 for `b = 0`). -/
def ceilDiv (a b : Nat) : Nat := (a + b - 1) / b

/-- A byte from a number, its low 8 bits. -/
def byte (n : Nat) : Byte := BitVec.ofNat 8 n

/-- A list of bytes read most significant first (R10, wire records). -/
def beNat (bs : List Byte) : Nat := bs.foldl (fun a b => a * 256 + b.toNat) 0

/-- A list of bytes read least significant first (R10, device structures). -/
def leNat : List Byte → Nat
  | [] => 0
  | b :: bs => b.toNat + 256 * leNat bs

/-- `k` bytes of `n`, least significant first. -/
def leBytes : Nat → Nat → List Byte
  | 0, _ => []
  | k + 1, n => byte n :: leBytes k (n / 256)

/-- `k` bytes of `n`, most significant first. -/
def beBytes (k n : Nat) : List Byte := (leBytes k n).reverse

/-- Byte `i` of a list, 0 beyond its end. -/
def byteAt (bs : List Byte) (i : Nat) : Byte := bs.getD i 0

/-- `n` bytes from position `i` on, padded with zeros beyond the end. -/
def slice (bs : List Byte) (i n : Nat) : List Byte :=
  let t := (bs.drop i).take n
  t ++ List.replicate (n - t.length) 0

/-- Little-endian number of `n` bytes at `i`. -/
def le (bs : List Byte) (i n : Nat) : Nat := leNat (slice bs i n)

/-- Big-endian number of `n` bytes at `i`. -/
def be (bs : List Byte) (i n : Nat) : Nat := beNat (slice bs i n)

/-- Two's-complement value of the low `w` bits of `n`. -/
def sgn (w n : Nat) : Int :=
  let m := n % 2 ^ w
  if m < 2 ^ (w - 1) then (m : Int) else (m : Int) - (2 ^ w : Nat)

/-- The low `w` bits of an integer, two's complement. -/
def unsgn (w : Nat) (i : Int) : Nat := (i % ((2 ^ w : Nat) : Int)).toNat

/-- Bits [hi:lo] of a number. -/
def bits (n hi lo : Nat) : Nat := (n / 2 ^ lo) % 2 ^ (hi + 1 - lo)

/-- Number of bits of `n` (0 for 0), by structural recursion on a bound. -/
def bitLen (n : Nat) : Nat → Nat
  | 0 => 0
  | k + 1 => if n.testBit k then k + 1 else bitLen n k

/-- Replace element `i` of a list (unchanged beyond the end). -/
def setAt {α : Type} (xs : List α) (i : Nat) (x : α) : List α := xs.set i x

/-- Change element `i` of a list. -/
def modAt {α : Type} (xs : List α) (i : Nat) (f : α → α) : List α :=
  match xs, i with
  | [], _ => []
  | y :: ys, 0 => f y :: ys
  | y :: ys, k + 1 => y :: modAt ys k f

/-- Remove element `i` of a list. -/
def dropAt {α : Type} (xs : List α) (i : Nat) : List α := xs.take i ++ xs.drop (i + 1)

end Sys2Proof.Machine
end

