-- ==== Sys2Proof/Machine/Events.lean ====
section
/-!
DEFINITION. Machine/Events.lean: every event of Table 18.15 with its block code (Table 00.3), its number and the
severity its chapter gives it (R17, R18, Table 00.4).
-/

namespace Sys2Proof.Machine

/-- Event severities (Table 00.4), in the order of their encodings 0 to 3. -/
inductive Severity where
  | info | warn | fault | fatal
  deriving DecidableEq, Repr

/-- Encoding of a severity (Table 00.4). -/
def Severity.code : Severity → Nat
  | .info => 0 | .warn => 1 | .fault => 2 | .fatal => 3

/-- An event: its block code, its number within the block and its fixed severity. -/
structure Ev where
  block : Nat
  num   : Nat
  sev   : Severity
  deriving DecidableEq, Repr

/-- The 16-bit identifier of an event (R17). -/
def Ev.id (e : Ev) : Nat := e.block * 2048 + e.num

def EV_CHN_BUDGET_REFUSED : Ev := ⟨0, 1, .warn⟩
def EV_CHN_STAGED : Ev := ⟨0, 2, .info⟩
def EV_CHN_STAGE_FAIL : Ev := ⟨0, 3, .warn⟩
def EV_CHN_SWAPPED : Ev := ⟨0, 4, .info⟩
def EV_CHN_RUN_FAILED : Ev := ⟨0, 5, .warn⟩
def EV_CHN_BATCH_OVERRUN : Ev := ⟨0, 6, .warn⟩
def EV_CHN_SLOT_REJECT : Ev := ⟨0, 7, .warn⟩
def EV_CHN_MODEL_QUARANTINE : Ev := ⟨0, 8, .fault⟩
def EV_CHN_VF_DENIED : Ev := ⟨0, 9, .info⟩
def EV_CHN_TENANT_REJECT : Ev := ⟨0, 10, .warn⟩
def EV_CHN_DMA_REFUSED : Ev := ⟨0, 11, .warn⟩
def EV_CHN_CFG_REJECT : Ev := ⟨0, 12, .warn⟩
def EV_PDP_BAD_CRC : Ev := ⟨1, 1, .warn⟩
def EV_PDP_BAD_LENGTH : Ev := ⟨1, 2, .warn⟩
def EV_PDP_FRAMING_LOSS : Ev := ⟨1, 3, .warn⟩
def EV_PDP_CREDIT_OVERRUN : Ev := ⟨1, 4, .warn⟩
def EV_PDP_SEQ_GAP : Ev := ⟨1, 5, .warn⟩
def EV_PDP_SEQ_RESTART : Ev := ⟨1, 6, .warn⟩
def EV_PDP_UNKNOWN_TENANT : Ev := ⟨1, 7, .warn⟩
def EV_PDP_TIME_JUMP : Ev := ⟨1, 8, .warn⟩
def EV_PDP_RESERVED : Ev := ⟨1, 9, .info⟩
def EV_PDP_FOREIGN : Ev := ⟨1, 10, .info⟩
def EV_PRS_PARSE_ERROR : Ev := ⟨3, 1, .info⟩
def EV_PRS_CFG_REJECT : Ev := ⟨3, 2, .warn⟩
def EV_FLW_PARITY : Ev := ⟨4, 1, .warn⟩
def EV_FLW_LOCK_TIMEOUT : Ev := ⟨4, 2, .warn⟩
def EV_FLW_LOCK_QUEUE_FULL : Ev := ⟨4, 3, .warn⟩
def EV_FLW_NOTE_DROP : Ev := ⟨4, 4, .warn⟩
def EV_FLW_INSERT_FULL : Ev := ⟨4, 5, .warn⟩
def EV_FLW_SWEEP_LATE : Ev := ⟨4, 6, .warn⟩
def EV_FLW_REGION_REJECT : Ev := ⟨4, 7, .warn⟩
def EV_FLW_RELEASE_FIXUP : Ev := ⟨4, 8, .warn⟩
def EV_FLW_LOCK_EXPIRED : Ev := ⟨4, 9, .warn⟩
def EV_FTR_SAT_DRIFT : Ev := ⟨5, 1, .warn⟩
def EV_FTR_NAN_DRIFT : Ev := ⟨5, 2, .warn⟩
def EV_FTR_WIDENED : Ev := ⟨5, 3, .info⟩
def EV_FTR_ROT_CLAMP : Ev := ⟨5, 4, .info⟩
def EV_FTR_ENTITY_PARITY : Ev := ⟨5, 5, .warn⟩
def EV_FTR_PROG_BUSY : Ev := ⟨5, 6, .warn⟩
def EV_FTR_BAD_FORMAT : Ev := ⟨5, 7, .warn⟩
def EV_FTR_BAD_SCALE : Ev := ⟨5, 8, .warn⟩
def EV_FST_PARITY : Ev := ⟨6, 1, .warn⟩
def EV_FST_MULTI_MATCH : Ev := ⟨6, 2, .warn⟩
def EV_FST_LEAF_ECC : Ev := ⟨6, 3, .warn⟩
def EV_FST_REPAIRED : Ev := ⟨6, 4, .info⟩
def EV_FST_REPAIR_LATE : Ev := ⟨6, 5, .warn⟩
def EV_FST_BAD_ENSEMBLE : Ev := ⟨6, 6, .warn⟩
def EV_FST_CFG_REJECT : Ev := ⟨6, 7, .warn⟩
def EV_FST_WINDOW_REJECT : Ev := ⟨6, 8, .warn⟩
def EV_MXE_OP_REJECT : Ev := ⟨7, 1, .warn⟩
def EV_MXE_PART_REJECT : Ev := ⟨7, 2, .warn⟩
def EV_RVU_OP_REJECT : Ev := ⟨8, 1, .warn⟩
def EV_RVU_PAGE_REJECT : Ev := ⟨8, 2, .warn⟩
def EV_ACU_CHAIN_REJECT : Ev := ⟨9, 1, .warn⟩
def EV_ACU_REPLAY : Ev := ⟨9, 2, .info⟩
def EV_ACU_PERSISTENT_OVERFLOW : Ev := ⟨9, 3, .warn⟩
def EV_ACU_CHAIN_LOST : Ev := ⟨9, 4, .info⟩
def EV_ACU_CHAIN_STARVED : Ev := ⟨9, 5, .warn⟩
def EV_ACU_RESTORE_CRC : Ev := ⟨9, 6, .warn⟩
def EV_ACU_ABORT_LATE : Ev := ⟨9, 7, .info⟩
def EV_VPE_NAN_SCORE : Ev := ⟨10, 1, .warn⟩
def EV_VPE_METER_ECC : Ev := ⟨10, 2, .warn⟩
def EV_VPE_GATE_SWITCHED : Ev := ⟨10, 3, .info⟩
def EV_VPE_GATE_REJECT : Ev := ⟨10, 4, .warn⟩
def EV_VPE_PARK_FULL : Ev := ⟨10, 5, .warn⟩
def EV_VPE_HOST_DROP : Ev := ⟨10, 6, .warn⟩
def EV_VPE_CFG_REJECT : Ev := ⟨10, 7, .warn⟩
def EV_TRN_STEP_ABANDONED : Ev := ⟨11, 1, .warn⟩
def EV_TRN_EXPELLED : Ev := ⟨11, 2, .fault⟩
def EV_TRN_PEER_EXPELLED : Ev := ⟨11, 3, .warn⟩
def EV_TRN_ROLLBACK : Ev := ⟨11, 4, .fault⟩
def EV_TRN_REJOINED : Ev := ⟨11, 5, .info⟩
def EV_TRN_STOPPED : Ev := ⟨11, 6, .fault⟩
def EV_TRN_PUBLISHED : Ev := ⟨11, 7, .info⟩
def EV_TRN_CFG_REJECT : Ev := ⟨11, 8, .warn⟩
def EV_CHK_SEAL_REFETCH : Ev := ⟨12, 1, .warn⟩
def EV_CHK_ARRAY_MISMATCH : Ev := ⟨12, 2, .warn⟩
def EV_CHK_RVU_MISMATCH : Ev := ⟨12, 3, .warn⟩
def EV_CHK_UNCHECKED : Ev := ⟨12, 4, .info⟩
def EV_CHK_GATED_DEFAULT : Ev := ⟨12, 5, .warn⟩
def EV_CHK_RETRACT : Ev := ⟨12, 6, .fault⟩
def EV_CHK_PEER_UNDO : Ev := ⟨12, 7, .fault⟩
def EV_CHK_TRANSIENT : Ev := ⟨12, 8, .warn⟩
def EV_CHK_FENCE : Ev := ⟨12, 9, .fault⟩
def EV_CHK_REMAP_NONE : Ev := ⟨12, 10, .fault⟩
def EV_CHK_MODEL_SUSPECT : Ev := ⟨12, 11, .warn⟩
def EV_CHK_DIGEST_MISMATCH : Ev := ⟨12, 12, .warn⟩
def EV_CHK_SWEEP_FAIL : Ev := ⟨12, 13, .fault⟩
def EV_CHK_SCRUB_FIX : Ev := ⟨12, 14, .warn⟩
def EV_MEM_SPAD_UNCORR : Ev := ⟨13, 1, .warn⟩
def EV_MEM_T1_UNCORR : Ev := ⟨13, 2, .warn⟩
def EV_MEM_T2_UNCORR : Ev := ⟨13, 3, .warn⟩
def EV_MEM_T3_UNCORR : Ev := ⟨13, 4, .warn⟩
def EV_MEM_T3_LINK_DOWN : Ev := ⟨13, 5, .warn⟩
def EV_MEM_ACCESS_REFUSED : Ev := ⟨13, 6, .warn⟩
def EV_MEM_REGION_REJECT : Ev := ⟨13, 7, .warn⟩
def EV_MEM_T2_FAIL : Ev := ⟨13, 8, .fault⟩
def EV_MEM_EVAC_LOSS : Ev := ⟨13, 9, .warn⟩
def EV_MEM_EVACUATED : Ev := ⟨13, 10, .info⟩
def EV_MEM_T2_ONLINE : Ev := ⟨13, 11, .info⟩
def EV_MEM_ERASED : Ev := ⟨13, 12, .info⟩
def EV_ZLK_SAME_DEVICE : Ev := ⟨14, 1, .warn⟩
def EV_ZLK_WIRING : Ev := ⟨14, 2, .warn⟩
def EV_ZLK_LINK_UP : Ev := ⟨14, 3, .info⟩
def EV_ZLK_LINK_DOWN : Ev := ⟨14, 4, .warn⟩
def EV_ZLK_REPLAY : Ev := ⟨14, 5, .info⟩
def EV_ZLK_BAD_MESSAGE : Ev := ⟨14, 6, .warn⟩
def EV_ZLK_UNROUTABLE : Ev := ⟨14, 7, .warn⟩
def EV_ZLK_CREDIT_OVERRUN : Ev := ⟨14, 8, .warn⟩
def EV_ZLK_SHARE_DROP : Ev := ⟨14, 9, .warn⟩
def EV_ZLK_SHARE_REFUSED : Ev := ⟨14, 10, .warn⟩
def EV_ZLK_OFFSET_JUMP : Ev := ⟨14, 11, .warn⟩
def EV_ZLK_CFG_REJECT : Ev := ⟨14, 12, .warn⟩
def EV_PWR_REFUSED : Ev := ⟨15, 1, .warn⟩
def EV_PWR_THERMAL_WARN : Ev := ⟨15, 2, .warn⟩
def EV_PWR_THROTTLE : Ev := ⟨15, 3, .warn⟩
def EV_PWR_NEIGHBOUR_TEMP : Ev := ⟨15, 4, .warn⟩
def EV_PWR_FAIL_STOP : Ev := ⟨15, 5, .fatal⟩
def EV_PWR_AUTO_RESTART : Ev := ⟨15, 6, .warn⟩
def EV_OBS_FREEZE : Ev := ⟨16, 1, .info⟩
def EV_OBS_WATCH : Ev := ⟨16, 2, .info⟩
def EV_OBS_TRACE_LOST : Ev := ⟨16, 3, .warn⟩
def EV_OBS_RUN_HUNG : Ev := ⟨16, 4, .warn⟩
def EV_OBS_HANG_DECLARED : Ev := ⟨16, 5, .fatal⟩
def EV_OBS_DUMP_DONE : Ev := ⟨16, 6, .info⟩
def EV_OBS_DUMP_PARTIAL : Ev := ⟨16, 7, .warn⟩
def EV_OBS_DEBUG_ON : Ev := ⟨16, 8, .warn⟩
def EV_OBS_CFG_REJECT : Ev := ⟨16, 9, .warn⟩
def EV_LDS_NEIGHBOUR_RESET : Ev := ⟨17, 1, .warn⟩
def EV_LDS_RESTARTED : Ev := ⟨17, 2, .warn⟩
def EV_LDS_RESTART_FAILED : Ev := ⟨17, 3, .fault⟩
def EV_LDS_SAFE_SERVE : Ev := ⟨17, 4, .fault⟩
def EV_LDS_SAFE_SERVE_END : Ev := ⟨17, 5, .info⟩
def EV_LDS_ATTEST_REFUSED : Ev := ⟨17, 6, .warn⟩
def EV_LDS_LMS_LOW : Ev := ⟨17, 7, .warn⟩
def EV_LDS_TOD_BAD : Ev := ⟨17, 8, .warn⟩
def EV_LDS_TIME_STEP_DENIED : Ev := ⟨17, 9, .warn⟩
def EV_LDS_PPS_LOST : Ev := ⟨17, 10, .warn⟩
def EV_LDS_PPS_OK : Ev := ⟨17, 11, .info⟩
def EV_HIF_PARTIAL_WRITE : Ev := ⟨18, 1, .warn⟩
def EV_HIF_LINK_DOWN : Ev := ⟨18, 2, .warn⟩
def EV_HIF_LINK_UP : Ev := ⟨18, 3, .info⟩
def EV_HIF_AER_UNCORR : Ev := ⟨18, 4, .warn⟩
def EV_HIF_CHANNEL_NO_ANSWER : Ev := ⟨18, 5, .warn⟩
def EV_HIF_SUP_RESTART : Ev := ⟨18, 6, .warn⟩
def EV_BOOT_READY : Ev := ⟨19, 1, .info⟩
def EV_BOOT_QUARANTINE : Ev := ⟨19, 2, .fatal⟩
def EV_BOOT_CONFIG_REJECT : Ev := ⟨19, 3, .warn⟩
def EV_BOOT_FUSE_REJECT : Ev := ⟨19, 4, .warn⟩
def EV_BOOT_PROGRAMMED : Ev := ⟨19, 5, .info⟩
def EV_BOOT_PROGRAM_FAIL : Ev := ⟨19, 6, .warn⟩
def EV_BOOT_TRIAL_FAILED : Ev := ⟨19, 7, .fault⟩
def EV_SUP_VIN_LOW : Ev := ⟨20, 1, .fatal⟩

end Sys2Proof.Machine
end

