-- ==== Sys2Proof/Machine/RegTable.lean ====
section
/-!
DEFINITION. Machine/RegTable.lean: the register index of chapter 18 as rows: offset, strides and counts, reset value,
virtual-function column (R446) and the access code of every field (Table 00.2). The generic part of a host access
(R11 to R16, R483, R366, R367) is driven by these rows.
-/

namespace Sys2Proof.Machine

/-- Access codes of Table 00.2. -/
inductive Acc where
  | ro | rw | rw1c | rw1s | rwo | rwl
  deriving DecidableEq, Repr

/-- The VF column of R446. -/
inductive VfReach where
  | none | read | own | ownRead | bank
  deriving DecidableEq, Repr

/-- One row of Tables 18.4 to 18.9 or 18.14: the registers base + s1 × i + s2 × j for i < n1 and j < n2. -/
structure RegRow where
  base   : Nat
  s1     : Nat
  n1     : Nat
  s2     : Nat
  n2     : Nat
  reset  : Nat
  vf     : VfReach
  fields : List (Acc × Nat × Nat)
  deriving DecidableEq, Repr

/-- `n` fields of one access code and length, `stride` bits apart from bit `lo` on. -/
def arr (a : Acc) (lo stride len n : Nat) : List (Acc × Nat × Nat) :=
  (List.range n).map fun k => (a, lo + stride * k, len)

def channelRows_0 : List RegRow :=
  [ ⟨0x0, 0, 1, 0, 1, 0x824164200, .read, [(.ro, 0, 8), (.ro, 8, 8), (.ro, 16, 16), (.ro, 32, 8)]⟩,
    ⟨0x8, 0, 1, 0, 1, 0x1040141c840824, .read, [(.ro, 0, 4), (.ro, 4, 2), (.ro, 6, 6), (.ro, 12, 7), (.ro, 19, 5), (.ro, 24, 3), (.ro, 27, 2), (.ro, 29, 11), (.ro, 40, 7), (.ro, 47, 6)]⟩,
    ⟨0x10, 0, 1, 0, 1, 0x0, .read, [(.ro, 0, 3), (.ro, 3, 2), (.ro, 5, 1), (.ro, 8, 3), (.ro, 12, 3)]⟩,
    ⟨0x100, 0, 1, 0, 1, 0x0, .own, [(.rw, 0, 6), (.rw1s, 6, 1)]⟩,
    ⟨0x108, 0, 1, 0, 1, 0x0, .own, [(.ro, 0, 2), (.ro, 2, 5), (.ro, 7, 4), (.ro, 11, 6)]⟩,
    ⟨0x110, 0, 1, 0, 1, 0x0, .own, [(.rw, 0, 36)]⟩,
    ⟨0x118, 0, 1, 0, 1, 0x0, .own, [(.rw, 0, 39), (.rw, 39, 2)]⟩,
    ⟨0x120, 0, 1, 0, 1, 0x0, .own, [(.rw, 0, 32)]⟩,
    ⟨0x800, 8, 6, 0, 1, 0x0, .none, [(.ro, 0, 64)]⟩,
    ⟨0x1000, 64, 64, 0, 1, 0x0, .none, [(.rw, 0, 1), (.rw, 1, 7), (.rw, 8, 2)]⟩,
    ⟨0x1008, 64, 64, 8, 2, 0x0, .none, [(.rw, 0, 12), (.rw, 16, 12)]⟩,
    ⟨0x1018, 64, 64, 0, 1, 0x0, .own, [(.ro, 0, 1), (.ro, 1, 2), (.ro, 3, 3), (.ro, 6, 2), (.ro, 32, 32)]⟩,
    ⟨0x1020, 64, 64, 0, 1, 0x0, .own, [(.rw, 0, 3), (.rw1s, 3, 1), (.ro, 4, 2)]⟩,
    ⟨0x1028, 64, 64, 0, 1, 0x0, .own, [(.ro, 0, 10), (.ro, 10, 3), (.ro, 32, 16), (.ro, 48, 16)]⟩,
    ⟨0x2000, 8, 16, 0, 1, 0x0, .ownRead, [(.ro, 0, 1), (.rw, 1, 1), (.rw1s, 2, 1)]⟩,
    ⟨0x3000, 32, 4, 0, 1, 0x0, .bank, [(.rw, 6, 58), (.rw, 0, 5)]⟩,
    ⟨0x3008, 32, 4, 0, 1, 0x0, .bank, [(.rw, 0, 16)]⟩,
    ⟨0x3010, 32, 4, 0, 1, 0x0, .bank, [(.ro, 0, 16), (.ro, 16, 16)]⟩,
    ⟨0x3100, 0, 1, 0, 1, 0x0, .bank, [(.rw, 6, 58), (.rw, 0, 5)]⟩,
    ⟨0x3108, 0, 1, 0, 1, 0x0, .bank, [(.rw, 0, 16), (.ro, 16, 16), (.rw, 32, 10), (.ro, 42, 22)]⟩,
    ⟨0x3200, 16, 2, 0, 1, 0x0, .bank, [(.rw, 6, 58), (.rw, 0, 5)]⟩,
    ⟨0x3208, 16, 2, 0, 1, 0x0, .bank, [(.rw, 0, 16), (.ro, 16, 16), (.rw, 32, 10)]⟩ ]

def channelRows_1 : List RegRow :=
  [ ⟨0x100000, 0, 1, 0, 1, 0x1c, .none, [(.rw, 0, 1), (.rwl, 1, 1), (.rw, 2, 1), (.rw, 3, 1), (.rw, 4, 1)]⟩,
    ⟨0x100008, 0, 1, 0, 1, 0x0, .none, [(.ro, 0, 3), (.ro, 3, 8), (.ro, 11, 1), (.ro, 32, 32)]⟩,
    ⟨0x100010, 0, 1, 0, 1, 0x0, .none, [(.rw, 0, 16), (.ro, 16, 16)]⟩,
    ⟨0x100018, 0, 1, 0, 1, 0x0, .none, [(.rw, 0, 48)]⟩,
    ⟨0x100020, 0, 1, 0, 1, 0x0, .none, [(.rw, 0, 48)]⟩,
    ⟨0x100100, 8, 13, 0, 1, 0x0, .none, [(.ro, 0, 64)]⟩,
    ⟨0x108000, 0, 1, 0, 1, 0x0, .none, [(.ro, 0, 20), (.ro, 20, 20), (.rw1s, 40, 1), (.ro, 41, 1)]⟩,
    ⟨0x108008, 0, 1, 0, 1, 0x0, .none, [(.ro, 0, 64)]⟩,
    ⟨0x108010, 0, 1, 0, 1, 0x0, .none, [(.ro, 0, 64)]⟩,
    ⟨0x108018, 0, 1, 0, 1, 0x0, .none, [(.ro, 0, 64)]⟩,
    ⟨0x200000, 0, 1, 0, 1, 0x0, .none, [(.rwl, 0, 12)]⟩,
    ⟨0x200020, 0, 1, 0, 1, 0x0, .bank, [(.rw, 0, 4), (.rw, 4, 1), (.rw, 5, 12), (.rw, 17, 1), (.rw1s, 18, 1), (.ro, 19, 3)]⟩,
    ⟨0x200040, 8, 12, 0, 1, 0x0, .bank, [(.rw, 0, 64)]⟩,
    ⟨0x200100, 8, 12, 0, 1, 0x0, .none, [(.rwl, 0, 1), (.rwl, 1, 1), (.rwl, 2, 1), (.rwl, 3, 7), (.rwl, 10, 12)]⟩,
    ⟨0x200180, 8, 12, 0, 1, 0x0, .none, arr .rwl 0 12 1 4 ++ arr .rwl 1 12 1 4 ++ arr .rwl 2 12 2 4 ++ arr .rwl 4 12 8 4⟩,
    ⟨0x200800, 8, 3, 0, 1, 0x0, .none, [(.ro, 0, 64)]⟩,
    ⟨0x300000, 0, 1, 0, 1, 0x0, .none, [(.rw, 0, 1)]⟩,
    ⟨0x300008, 0, 1, 0, 1, 0x0, .none, [(.rwo, 0, 32), (.rwo, 32, 32)]⟩,
    ⟨0x300010, 0, 1, 0, 1, 0x100, .none, [(.rw, 0, 11)]⟩,
    ⟨0x300100, 16, 16, 0, 1, 0x0, .none, [(.rwl, 0, 26), (.rwl, 26, 5)]⟩,
    ⟨0x300108, 16, 16, 0, 1, 0x0, .none, [(.rwl, 0, 12), (.rwl, 12, 4), (.rw, 16, 16), (.rw, 32, 2), (.rwl, 34, 1), (.rwl, 35, 5), (.rwl, 40, 24)]⟩,
    ⟨0x300200, 0, 1, 0, 1, 0x0, .own, [(.rw, 0, 26), (.rw, 26, 7), (.rw1s, 33, 1), (.rw, 34, 3)]⟩ ]

def channelRows_2 : List RegRow :=
  [ ⟨0x300208, 0, 1, 0, 1, 0x0, .own, [(.rw, 0, 26), (.rw, 26, 7), (.rw1s, 33, 1), (.rw, 34, 3)]⟩,
    ⟨0x300210, 0, 1, 0, 1, 0x0, .own, [(.ro, 0, 3), (.ro, 3, 5), (.ro, 8, 6), (.ro, 14, 1)]⟩,
    ⟨0x300218, 0, 1, 0, 1, 0x64, .none, [(.rw, 0, 10)]⟩,
    ⟨0x300400, 8, 12, 0, 1, 0x0, .none, [(.ro, 0, 64)]⟩,
    ⟨0x400000, 0, 1, 0, 1, 0x0, .none, [(.rw, 0, 1)]⟩,
    ⟨0x400100, 8, 16, 0, 1, 0x0, .none, arr .rw 0 8 8 8⟩,
    ⟨0x400200, 8, 64, 0, 1, 0x0, .own, [(.rw, 0, 32), (.rw, 32, 8), (.rw, 40, 2), (.rw, 42, 7), (.ro, 49, 1)]⟩,
    ⟨0x400400, 8, 64, 0, 1, 0x0, .own, [(.rwl, 0, 2), (.rwl, 2, 6), (.rwl, 8, 5), (.rwl, 13, 26), (.rwl, 39, 5)]⟩,
    ⟨0x400800, 8, 5, 0, 1, 0x0, .none, [(.ro, 0, 64)]⟩,
    ⟨0x500000, 0, 1, 0, 1, 0x2, .none, [(.rw, 0, 1), (.rw, 1, 1)]⟩,
    ⟨0x500010, 0, 1, 0, 1, 0x0, .none, [(.ro, 0, 5), (.ro, 5, 11), (.ro, 16, 5), (.ro, 21, 1)]⟩,
    ⟨0x500100, 32, 32, 0, 1, 0x0, .none, [(.rwl, 0, 1), (.rwl, 1, 1), (.rwl, 2, 2), (.rwl, 4, 2), (.rwl, 6, 7), (.rwl, 13, 8), (.rwl, 21, 13), (.rwl, 34, 7), (.rwl, 41, 7), (.rwl, 48, 2), (.rwl, 50, 6)]⟩,
    ⟨0x500108, 32, 32, 0, 1, 0x0, .none, [(.rwl, 0, 32), (.rwl, 32, 14)]⟩,
    ⟨0x500110, 32, 32, 0, 1, 0x0, .none, [(.rwl, 0, 32)]⟩,
    ⟨0x500118, 32, 32, 0, 1, 0x0, .none, arr .rwl 0 16 16 4⟩,
    ⟨0x500800, 8, 10, 0, 1, 0x0, .none, [(.ro, 0, 64)]⟩,
    ⟨0x600000, 262144, 4, 0, 1, 0x0, .none, [(.rw, 0, 1), (.rwl, 1, 2)]⟩,
    ⟨0x600008, 262144, 4, 0, 1, 0x0, .none, arr .rwl 0 8 7 4 ++ arr .rwl 7 8 1 4⟩,
    ⟨0x600010, 262144, 4, 0, 1, 0x0, .none, [(.ro, 0, 4), (.ro, 4, 4), (.ro, 8, 4), (.ro, 12, 4), (.ro, 16, 20)]⟩,
    ⟨0x600800, 262144, 4, 8, 6, 0x0, .none, [(.ro, 0, 64)]⟩,
    ⟨0x700000, 0, 1, 0, 1, 0x0, .none, [(.rw, 0, 1), (.rw, 1, 1)]⟩,
    ⟨0x700008, 0, 1, 0, 1, 0x80400000, .none, [(.ro, 0, 2), (.ro, 2, 2), (.ro, 4, 5), (.ro, 9, 5), (.ro, 14, 9), (.ro, 23, 9)]⟩ ]

def channelRows_3 : List RegRow :=
  [ ⟨0x700100, 256, 2, 8, 32, 0x0, .none, arr .rwl 0 8 7 8 ++ arr .rwl 7 8 1 8⟩,
    ⟨0x700800, 8, 4, 0, 1, 0x0, .none, [(.ro, 0, 64)]⟩,
    ⟨0x800000, 0, 1, 0, 1, 0x0, .none, [(.rw, 0, 1), (.rwl, 1, 1)]⟩,
    ⟨0x800008, 0, 1, 0, 1, 0x0, .own, [(.rw, 0, 7), (.rw, 7, 8), (.rw1s, 15, 1)]⟩,
    ⟨0x800010, 0, 1, 0, 1, 0x0, .none, [(.ro, 0, 16), (.ro, 16, 16)]⟩,
    ⟨0x800018, 0, 1, 0, 1, 0x0, .none, [(.ro, 0, 2), (.ro, 2, 3), (.ro, 5, 4), (.ro, 9, 2), (.ro, 11, 1)]⟩,
    ⟨0x800100, 8, 4, 0, 1, 0x0, .none, arr .ro 0 2 2 16⟩,
    ⟨0x800200, 8, 16, 0, 1, 0x0, .own, [(.rw, 0, 64)]⟩,
    ⟨0x800300, 8, 16, 0, 1, 0x0, .none, [(.rw, 0, 32), (.rw, 32, 1)]⟩,
    ⟨0x800800, 8, 13, 0, 1, 0x0, .none, [(.ro, 0, 64)]⟩,
    ⟨0x900000, 0, 1, 0, 1, 0x0, .none, [(.rw, 0, 1), (.rw, 1, 1), (.rwl, 2, 1)]⟩,
    ⟨0x900008, 0, 1, 0, 1, 0x0, .none, [(.rw, 0, 1), (.rw1s, 1, 1)]⟩,
    ⟨0x900010, 0, 1, 0, 1, 0x0, .none, [(.rw, 0, 32), (.rw, 32, 7)]⟩,
    ⟨0x900018, 0, 1, 0, 1, 0x0, .none, [(.rw, 0, 64)]⟩,
    ⟨0x900020, 0, 1, 0, 1, 0x0, .none, [(.ro, 0, 1), (.ro, 1, 1), (.ro, 2, 6), (.ro, 8, 3), (.ro, 32, 32)]⟩,
    ⟨0x900028, 0, 1, 0, 1, 0x0, .bank, [(.rw, 0, 3), (.rw, 8, 16), (.rw, 24, 1), (.rw1s, 25, 1), (.ro, 26, 3)]⟩,
    ⟨0x900040, 8, 8, 0, 1, 0x0, .bank, [(.rw, 0, 64)]⟩,
    ⟨0x900100, 8, 16, 0, 1, 0x1ffff, .ownRead, [(.rw, 0, 8), (.rw, 8, 8), (.rw, 16, 4)]⟩,
    ⟨0x900180, 8, 16, 0, 1, 0x0, .none, [(.rw, 0, 16), (.rw, 16, 1), (.rw, 17, 1), (.rw, 18, 1)]⟩,
    ⟨0x900200, 8, 64, 0, 1, 0x3f80000000000000, .ownRead, [(.rw, 0, 2), (.rw, 32, 32)]⟩,
    ⟨0x900400, 8, 16, 0, 1, 0x1010101, .ownRead, [(.rw, 0, 8), (.rw, 8, 8), (.rw, 16, 8), (.rw, 24, 8), (.rw, 32, 16)]⟩,
    ⟨0x900480, 8, 16, 0, 1, 0x0, .none, [(.rwl, 0, 15), (.rwl, 16, 4), (.rwl, 20, 4)]⟩ ]

def channelRows_4 : List RegRow :=
  [ ⟨0x900500, 16, 16, 8, 2, 0x200000000000000, .ownRead, [(.rw, 0, 32), (.rw, 32, 24), (.rw, 56, 1), (.rw, 57, 1)]⟩,
    ⟨0x900800, 8, 12, 0, 1, 0x0, .none, [(.ro, 0, 64)]⟩,
    ⟨0xa00000, 0, 1, 0, 1, 0x0, .none, [(.rw, 0, 1)]⟩,
    ⟨0xa00100, 128, 4, 0, 1, 0x600084000000000, .none, [(.rw, 0, 1), (.rwl, 1, 6), (.rwl, 7, 6), (.rwl, 13, 1), (.rwl, 14, 2), (.rwl, 16, 16), (.rwl, 32, 11), (.rwl, 43, 8), (.rwl, 51, 7), (.rwl, 58, 6)]⟩,
    ⟨0xa00108, 128, 4, 0, 1, 0x1400640, .none, [(.rwl, 0, 2), (.rwl, 2, 2), (.rwl, 4, 16), (.rwl, 20, 16), (.rwl, 36, 4)]⟩,
    ⟨0xa00110, 128, 4, 0, 1, 0x7c000001, .none, [(.rwl, 0, 6), (.rwl, 6, 1), (.rwl, 16, 16)]⟩,
    ⟨0xa00118, 128, 4, 0, 1, 0x0, .none, [(.rwl, 0, 64)]⟩,
    ⟨0xa00120, 128, 4, 0, 1, 0x0, .none, [(.rwl, 0, 32), (.rwl, 32, 25)]⟩,
    ⟨0xa00128, 128, 4, 0, 1, 0x0, .none, [(.rwl, 0, 36)]⟩,
    ⟨0xa00130, 128, 4, 0, 1, 0x0, .none, [(.rwl, 0, 39), (.rwl, 39, 2)]⟩,
    ⟨0xa00138, 128, 4, 0, 1, 0x0, .own, [(.ro, 0, 3), (.ro, 3, 3), (.ro, 6, 1), (.ro, 7, 1)]⟩,
    ⟨0xa00140, 128, 4, 0, 1, 0x0, .own, [(.ro, 0, 64)]⟩,
    ⟨0xa00148, 128, 4, 0, 1, 0x0, .none, [(.ro, 0, 64)]⟩,
    ⟨0xa00150, 128, 4, 8, 6, 0x0, .none, [(.ro, 0, 64)]⟩,
    ⟨0xa00800, 64, 4, 8, 8, 0x0, .own, [(.ro, 0, 64)]⟩,
    ⟨0xa00900, 0, 1, 0, 1, 0x0, .none, [(.ro, 0, 64)]⟩,
    ⟨0xb00000, 0, 1, 0, 1, 0x20047, .none, [(.rw, 0, 1), (.rw, 1, 1), (.rw, 2, 1), (.rw, 3, 8), (.rw, 11, 16)]⟩,
    ⟨0xb00008, 0, 1, 0, 1, 0xffff, .ownRead, [(.rw, 0, 16), (.ro, 16, 16)]⟩,
    ⟨0xb00010, 0, 1, 0, 1, 0x0, .none, [(.ro, 0, 64)]⟩,
    ⟨0xb00018, 0, 1, 0, 1, 0x0, .none, [(.ro, 0, 64)]⟩,
    ⟨0xb00020, 0, 1, 0, 1, 0x0, .none, [(.ro, 0, 4), (.ro, 4, 2), (.ro, 6, 2), (.ro, 8, 5), (.ro, 13, 11), (.ro, 24, 10), (.ro, 34, 2), (.ro, 36, 7)]⟩,
    ⟨0xb00028, 0, 1, 0, 1, 0x0, .none, [(.ro, 0, 16), (.ro, 16, 2), (.ro, 18, 2)]⟩ ]

def channelRows_5 : List RegRow :=
  [ ⟨0xb00030, 0, 1, 0, 1, 0x0, .none, [(.ro, 0, 32)]⟩,
    ⟨0xb00038, 0, 1, 0, 1, 0x0, .none, [(.rw1s, 0, 20)]⟩,
    ⟨0xb00040, 0, 1, 0, 1, 0x0, .none, [(.rw1s, 0, 32)]⟩,
    ⟨0xb00048, 0, 1, 0, 1, 0x101010100000000, .none, arr .ro 0 8 2 8 ++ arr .ro 2 8 3 8 ++ arr .ro 7 8 1 8⟩,
    ⟨0xb00050, 0, 1, 0, 1, 0x303030302020202, .none, arr .ro 0 8 2 8 ++ arr .ro 2 8 3 8 ++ arr .ro 7 8 1 8⟩,
    ⟨0xb00058, 0, 1, 0, 1, 0x0, .none, [(.rwl, 0, 32), (.ro, 32, 19)]⟩,
    ⟨0xb00400, 8, 4, 0, 1, 0x0, .none, [(.ro, 0, 64)]⟩,
    ⟨0xb00420, 8, 15, 0, 1, 0x0, .none, [(.ro, 0, 64)]⟩,
    ⟨0xc00000, 0, 1, 0, 1, 0x0, .none, [(.rw, 0, 1)]⟩,
    ⟨0xc00008, 0, 1, 0, 1, 0x8, .none, [(.ro, 0, 1), (.ro, 1, 3), (.ro, 4, 2), (.ro, 6, 1), (.ro, 16, 16), (.ro, 32, 8)]⟩,
    ⟨0xc00010, 0, 1, 0, 1, 0xc, .none, [(.rw1s, 0, 1), (.rw1s, 1, 1), (.rw, 2, 1), (.rw, 3, 1)]⟩,
    ⟨0xc00018, 0, 1, 0, 1, 0x0, .none, [(.rw, 0, 4), (.rw1s, 4, 1), (.ro, 5, 2)]⟩,
    ⟨0xc00020, 0, 1, 0, 1, 0x0, .bank, [(.rw, 0, 4)]⟩,
    ⟨0xc00028, 0, 1, 0, 1, 0x0, .none, [(.ro, 0, 39), (.ro, 39, 2)]⟩,
    ⟨0xc00100, 16, 64, 0, 1, 0x0, .none, [(.rw, 0, 1), (.rw, 1, 2), (.rw, 3, 8), (.ro, 11, 1)]⟩,
    ⟨0xc00108, 16, 64, 0, 1, 0x0, .none, [(.rw, 0, 27), (.rw, 27, 27), (.rw, 54, 6), (.rw, 60, 1)]⟩,
    ⟨0xc00800, 8, 12, 0, 1, 0x0, .none, [(.ro, 0, 64)]⟩,
    ⟨0xd00000, 0, 1, 0, 1, 0x0, .none, [(.rwl, 0, 2), (.rwl, 2, 3)]⟩,
    ⟨0xd00010, 8, 3, 0, 1, 0x0, .none, [(.rw, 0, 1)]⟩,
    ⟨0xd00030, 8, 3, 0, 1, 0x0, .none, [(.ro, 0, 3), (.ro, 3, 4), (.ro, 7, 3), (.ro, 10, 2), (.ro, 12, 8), (.ro, 20, 44)]⟩,
    ⟨0xd00050, 8, 3, 0, 1, 0x0, .none, [(.ro, 0, 64)]⟩,
    ⟨0xd00070, 0, 1, 0, 1, 0x0, .none, arr .ro 0 4 2 8 ++ arr .ro 2 4 2 8⟩ ]

def channelRows_6 : List RegRow :=
  [ ⟨0xd00100, 8, 8, 0, 1, 0x0, .read, [(.ro, 0, 63), (.ro, 63, 1)]⟩,
    ⟨0xd00200, 8, 16, 0, 1, 0x0, .none, [(.rw, 0, 8), (.rw, 8, 6), (.rw, 14, 4), (.rw, 18, 6), (.rw, 24, 5)]⟩,
    ⟨0xd00280, 8, 16, 0, 1, 0x0, .none, [(.rw, 0, 8), (.rw, 8, 4), (.rw, 12, 2)]⟩,
    ⟨0xd00800, 8, 12, 0, 1, 0x0, .none, [(.ro, 0, 64)]⟩,
    ⟨0xe00000, 0, 1, 0, 1, 0x7d11, .none, [(.rw, 0, 1), (.rw, 1, 2), (.rw1s, 3, 1), (.rw, 4, 1), (.rw, 5, 16)]⟩,
    ⟨0xe00008, 0, 1, 0, 1, 0x0, .none, [(.ro, 0, 3), (.ro, 3, 2), (.ro, 5, 2), (.ro, 7, 1), (.ro, 8, 1), (.ro, 9, 4), (.ro, 13, 2), (.ro, 15, 8), (.ro, 23, 8), (.ro, 31, 8), (.ro, 39, 10)]⟩,
    ⟨0xe00010, 0, 1, 0, 1, 0x0, .none, [(.rw, 0, 2)]⟩,
    ⟨0xe00020, 8, 4, 0, 1, 0x0, .none, [(.ro, 0, 21), (.ro, 21, 10)]⟩,
    ⟨0x1000000, 0, 1, 0, 1, 0x0, .bank, [(.rw, 0, 1), (.rw, 1, 7), (.rw1s, 8, 1)]⟩,
    ⟨0x1000008, 0, 1, 0, 1, 0x0, .bank, [(.rw, 0, 28)]⟩,
    ⟨0x1000010, 8, 6, 0, 1, 0x0, .bank, [(.rw, 0, 64)]⟩,
    ⟨0x1000040, 0, 1, 0, 1, 0x0, .bank, [(.ro, 0, 2), (.ro, 2, 3), (.ro, 5, 15), (.ro, 32, 32)]⟩,
    ⟨0x1000048, 0, 1, 0, 1, 0x0, .bank, [(.ro, 0, 31)]⟩,
    ⟨0x1000100, 0, 1, 0, 1, 0x0, .none, [(.ro, 0, 3), (.ro, 3, 3), (.ro, 6, 8), (.ro, 14, 8)]⟩,
    ⟨0x1001000, 16, 16, 0, 1, 0x0, .ownRead, [(.rwl, 0, 28)]⟩,
    ⟨0x1001008, 16, 16, 0, 1, 0x0, .own, [(.ro, 0, 11), (.rw, 16, 11)]⟩,
    ⟨0x1001200, 16, 18, 0, 1, 0x0, .ownRead, [(.rwl, 0, 28)]⟩,
    ⟨0x1001208, 16, 18, 0, 1, 0x0, .own, [(.rw, 0, 9), (.ro, 16, 9)]⟩,
    ⟨0x1001400, 8, 64, 0, 1, 0x0, .none, [(.rw, 0, 32), (.rw, 32, 32)]⟩,
    ⟨0xf00000, 0, 1, 0, 1, 0x1, .none, [(.rw, 0, 1), (.rw, 2, 1), (.rw, 3, 16), (.rw, 19, 16)]⟩,
    ⟨0xf00008, 0, 1, 0, 1, 0x0, .none, [(.rw1s, 0, 1), (.rw1s, 1, 1), (.rw1s, 2, 1), (.ro, 3, 1), (.ro, 4, 4)]⟩,
    ⟨0xf00010, 0, 1, 0, 1, 0x0, .none, [(.rw, 0, 64)]⟩ ]

def channelRows_7 : List RegRow :=
  [ ⟨0xf00018, 0, 1, 0, 1, 0x0, .none, [(.ro, 0, 64)]⟩,
    ⟨0xf00020, 0, 1, 0, 1, 0x94, .none, [(.rw, 0, 1), (.rw, 1, 5), (.rw, 6, 1), (.rw, 7, 1)]⟩,
    ⟨0xf00028, 0, 1, 0, 1, 0x0, .none, [(.rw, 0, 64)]⟩,
    ⟨0xf00030, 0, 1, 0, 1, 0x15000000000, .none, [(.rwl, 0, 36), (.rwl, 36, 6)]⟩,
    ⟨0xf00038, 0, 1, 0, 1, 0x0, .none, [(.ro, 0, 36), (.ro, 36, 1), (.ro, 37, 1)]⟩,
    ⟨0xf00040, 0, 1, 0, 1, 0x0, .none, [(.rw, 0, 32)]⟩,
    ⟨0xf00048, 0, 1, 0, 1, 0x0, .none, [(.rw, 0, 6), (.rw, 6, 5)]⟩,
    ⟨0xf00050, 0, 1, 0, 1, 0x0, .none, [(.ro, 0, 64)]⟩,
    ⟨0xf00058, 0, 1, 0, 1, 0x0, .none, [(.rwo, 0, 1)]⟩,
    ⟨0xf00100, 32, 64, 8, 3, 0x0, .none, [(.ro, 0, 64)]⟩,
    ⟨0xf00118, 32, 64, 0, 1, 0x2, .none, [(.ro, 0, 2), (.ro, 2, 5)]⟩,
    ⟨0xf00900, 8, 6, 0, 1, 0x0, .none, [(.ro, 0, 64)]⟩,
    ⟨0xf00a00, 24, 8, 0, 1, 0x0, .none, [(.rw, 0, 39)]⟩,
    ⟨0xf00a08, 24, 8, 0, 1, 0x0, .none, [(.rw, 0, 39)]⟩,
    ⟨0xf00a10, 24, 8, 0, 1, 0x0, .none, [(.rw, 0, 2), (.rw, 2, 1), (.rw, 3, 1), (.rw, 4, 1), (.rw, 5, 1), (.rw, 6, 1)]⟩,
    ⟨0xf00b00, 0, 1, 0, 1, 0x0, .bank, [(.rw, 0, 5), (.rw, 5, 8)]⟩,
    ⟨0xf00b08, 8, 4, 0, 1, 0x0, .bank, [(.ro, 0, 64)]⟩,
    ⟨0xf00c00, 0, 1, 0, 1, 0x0, .none, [(.rw, 0, 28)]⟩,
    ⟨0xf00c08, 0, 1, 0, 1, 0x0, .none, [(.rw1s, 0, 1), (.rw1s, 1, 1), (.ro, 2, 2)]⟩,
    ⟨0xf00c10, 0, 1, 0, 1, 0x0, .none, [(.rw1c, 0, 1), (.ro, 1, 4), (.ro, 5, 1), (.ro, 6, 1), (.ro, 7, 21)]⟩,
    ⟨0xf01000, 64, 16, 8, 6, 0x0, .own, [(.ro, 0, 64)]⟩ ]

/-- Registers of a channel physical function (Tables 18.4 to 18.9). -/
def channelRows : List RegRow :=
  channelRows_0 ++ channelRows_1 ++ channelRows_2 ++ channelRows_3 ++ channelRows_4 ++ channelRows_5 ++ channelRows_6 ++ channelRows_7

def hubRows_0 : List RegRow :=
  [ ⟨0x0, 0, 1, 0, 1, 0x0, .none, [(.ro, 0, 3), (.ro, 3, 5), (.ro, 8, 1)]⟩,
    ⟨0x8, 0, 1, 0, 1, 0x0, .none, [(.rw, 0, 8)]⟩,
    ⟨0x10, 0, 1, 0, 1, 0x101010101010101, .none, arr .rw 0 8 8 8⟩,
    ⟨0x18, 0, 1, 0, 1, 0x0, .none, [(.rw1c, 0, 8), (.ro, 8, 8)]⟩,
    ⟨0x20, 0, 1, 0, 1, 0x0, .none, [(.rw, 0, 26), (.rw, 26, 3), (.rw1s, 29, 1), (.ro, 30, 1)]⟩,
    ⟨0x28, 0, 1, 0, 1, 0x0, .none, [(.ro, 0, 64)]⟩,
    ⟨0x30, 0, 1, 0, 1, 0x0, .none, [(.rw, 6, 58), (.rw, 0, 5)]⟩,
    ⟨0x38, 0, 1, 0, 1, 0x0, .none, [(.rw, 0, 16), (.ro, 16, 16), (.ro, 32, 32)]⟩,
    ⟨0x400000, 8, 8, 0, 1, 0x0, .none, [(.ro, 0, 3), (.ro, 3, 1), (.ro, 4, 4), (.ro, 8, 4), (.ro, 12, 6), (.ro, 18, 6), (.ro, 24, 8), (.ro, 32, 32)]⟩,
    ⟨0x400040, 0, 1, 0, 1, 0x0, .none, [(.rw, 0, 3), (.rw, 3, 4), (.rw1s, 7, 1), (.ro, 8, 3), (.ro, 11, 4)]⟩,
    ⟨0x400048, 0, 1, 0, 1, 0x0, .none, [(.rw, 0, 36)]⟩,
    ⟨0x400080, 0, 1, 0, 1, 0x0, .none, [(.rw, 0, 3), (.rw, 3, 3), (.rw, 6, 3), (.rw1s, 9, 1), (.ro, 10, 2)]⟩,
    ⟨0x400100, 8, 12, 0, 1, 0x0, .none, [(.rw, 0, 64)]⟩,
    ⟨0x400180, 8, 8, 0, 1, 0x0, .none, [(.ro, 0, 8), (.ro, 8, 8)]⟩,
    ⟨0x4001c0, 8, 8, 0, 1, 0x0, .none, [(.ro, 0, 64)]⟩,
    ⟨0x800000, 0, 1, 0, 1, 0x824164200, .none, [(.ro, 0, 8), (.ro, 8, 8), (.ro, 16, 16), (.ro, 32, 8)]⟩,
    ⟨0x800008, 0, 1, 0, 1, 0x2106ff, .none, [(.ro, 0, 8), (.ro, 8, 4), (.ro, 12, 5), (.ro, 17, 5)]⟩,
    ⟨0x800100, 8, 8, 0, 1, 0x0, .none, [(.rw1s, 0, 1), (.rw1s, 1, 1), (.rw1s, 2, 1), (.ro, 3, 2)]⟩,
    ⟨0x800140, 8, 8, 0, 1, 0x8, .none, [(.ro, 0, 3), (.ro, 3, 1), (.ro, 4, 4), (.ro, 8, 8)]⟩,
    ⟨0x800200, 0, 1, 0, 1, 0x0, .none, [(.rw, 0, 8), (.rw1s, 8, 1), (.rw1s, 9, 1), (.rw, 10, 1)]⟩ ]

/-- Registers of PF0 (Table 18.14). -/
def hubRows : List RegRow :=
  hubRows_0

/-- The channel registers whose reset value is not zero: base, strides and counts, reset value. -/
def resetRows : List (Nat × Nat × Nat × Nat × Nat × Nat) :=
  [ (0x0, 0, 1, 0, 1, 0x824164200),
    (0x8, 0, 1, 0, 1, 0x1040141c840824),
    (0x100000, 0, 1, 0, 1, 0x1c),
    (0x300010, 0, 1, 0, 1, 0x100),
    (0x300218, 0, 1, 0, 1, 0x64),
    (0x500000, 0, 1, 0, 1, 0x2),
    (0x700008, 0, 1, 0, 1, 0x80400000),
    (0x900100, 8, 16, 0, 1, 0x1ffff),
    (0x900200, 8, 64, 0, 1, 0x3f80000000000000),
    (0x900400, 8, 16, 0, 1, 0x1010101),
    (0x900500, 16, 16, 8, 2, 0x200000000000000),
    (0xa00100, 128, 4, 0, 1, 0x600084000000000),
    (0xa00108, 128, 4, 0, 1, 0x1400640),
    (0xa00110, 128, 4, 0, 1, 0x7c000001),
    (0xb00000, 0, 1, 0, 1, 0x20047),
    (0xb00008, 0, 1, 0, 1, 0xffff),
    (0xb00048, 0, 1, 0, 1, 0x101010100000000),
    (0xb00050, 0, 1, 0, 1, 0x303030302020202),
    (0xc00008, 0, 1, 0, 1, 0x8),
    (0xc00010, 0, 1, 0, 1, 0xc),
    (0xe00000, 0, 1, 0, 1, 0x7d11),
    (0xf00000, 0, 1, 0, 1, 0x1),
    (0xf00020, 0, 1, 0, 1, 0x94),
    (0xf00030, 0, 1, 0, 1, 0x15000000000),
    (0xf00118, 32, 64, 0, 1, 0x2) ]

/-- The indices of offset `off` within a row, if the row holds it. -/
def RegRow.find (r : RegRow) (off : Nat) : Option (Nat × Nat) :=
  if off < r.base then none
  else
    let d := off - r.base
    let i := if r.s1 = 0 then 0 else d / r.s1
    let d' := if r.s1 = 0 then d else d % r.s1
    let j := if r.s2 = 0 then 0 else d' / r.s2
    let e := if r.s2 = 0 then d' else d' % r.s2
    if e = 0 ∧ i < r.n1 ∧ j < r.n2 then some (i, j) else none

/-- Is `off` one of base + s1 × i + s2 × j with i < n1 and j < n2? -/
def inRow (base s1 n1 s2 n2 off : Nat) : Bool :=
  if off < base then false
  else
    let d := off - base
    let i := if s1 = 0 then 0 else d / s1
    let d' := if s1 = 0 then d else d % s1
    let j := if s2 = 0 then 0 else d' / s2
    let e := if s2 = 0 then d' else d' % s2
    e == 0 && decide (i < n1) && decide (j < n2)

/-- Reset value of the register at `off` by the rows of non-zero reset values; 0 where none lists it (R444). -/
def resetOf (rows : List (Nat × Nat × Nat × Nat × Nat × Nat)) (off : Nat) : Nat :=
  match rows with
  | [] => 0
  | (b, s1, n1, s2, n2, v) :: rs => if inRow b s1 n1 s2 n2 off then v else resetOf rs off

/-- The row of a channel register and its indices; none where no table lists the offset (R14). -/
def findRow (rows : List RegRow) (off : Nat) : Option (RegRow × Nat × Nat) :=
  match rows with
  | [] => none
  | r :: rs => match r.find off with
    | some (i, j) => some (r, i, j)
    | none => findRow rs off

end Sys2Proof.Machine
end

