-- ==== Sys2Proof/Machine/Sparse.lean ====
section
/-!
DEFINITION. Machine/Sparse.lean: sparse data by number (memories, registers, table entries): a list of number and value
pairs in one canonical form: numbers strictly rising, no value equal to what an unlisted number reads as.
-/

namespace Sys2Proof.Machine

variable {α : Type}

/-- The value listed for `k`, if any. -/
def sfind (m : List (Nat × α)) (k : Nat) : Option α :=
  match m with
  | [] => none
  | (j, v) :: r => if j = k then some v else sfind r k

/-- The value at `k`; `d k` where `k` is not listed. -/
def sget (d : Nat → α) (m : List (Nat × α)) (k : Nat) : α :=
  match sfind m k with
  | some v => v
  | none => d k

/-- Remove `k`. -/
def sdel (m : List (Nat × α)) (k : Nat) : List (Nat × α) :=
  match m with
  | [] => []
  | (j, v) :: r => if j = k then sdel r k else (j, v) :: sdel r k

/-- List `v` at `k`, keeping the numbers strictly rising. -/
def sins (m : List (Nat × α)) (k : Nat) (v : α) : List (Nat × α) :=
  match m with
  | [] => [(k, v)]
  | (j, w) :: r =>
    if k < j then (k, v) :: (j, w) :: r
    else if j = k then (k, v) :: r
    else (j, w) :: sins r k v

/-- Put `v` at `k`; a value equal to the default removes the entry. -/
def sset [DecidableEq α] (d : Nat → α) (m : List (Nat × α)) (k : Nat) (v : α) : List (Nat × α) :=
  if v = d k then sdel m k else sins m k v

/-- Every listed number lies above `b`, rising, with no default value: the canonical form from a lower bound on. -/
def swfFrom [DecidableEq α] (d : Nat → α) : Option Nat → List (Nat × α) → Bool
  | _, [] => true
  | b, (k, v) :: r =>
    (match b with | none => true | some j => decide (j < k)) && decide (v ≠ d k) && swfFrom d (some k) r

/-- The canonical form. -/
def swf [DecidableEq α] (d : Nat → α) (m : List (Nat × α)) : Bool := swfFrom d none m

end Sys2Proof.Machine
end

