-- ==== Sys2Proof/Machine/State.lean ====
section
/-!
DEFINITION. Machine/State.lean: every piece of state the spec gives the device, as plain data. Sparse maps are lists of
number and value pairs in the canonical form of Machine/Sparse.lean. Registers of a channel live in one map keyed by their
BAR0 offset, banked instances (R367) at offset + 2^32 × instance; RO fields that hardware updates live in the same map.
Times called `at_` or `...At` are in grains of 1/63 ns of the channel's own reference clock unless marked ns.
-/

namespace Sys2Proof.Machine

open Sys2Proof

/-! ## Events and host rings (R17, R374 to R376, R433) -/

/-- An event record (Table 14.5); `tenant` is a 7-bit tenant identifier, none when the event concerns no tenant. -/
structure EvRec where
  id         : Nat
  sev        : Severity
  tenant     : Option Nat
  suppressed : Nat
  time       : Nat
  count      : Nat
  deriving DecidableEq, Repr

/-- What the device writes into host memory or sends to the host; the log of a channel or of PF0, newest first. Function
instances are numbered as R367 numbers them: 0 the physical function, i + 1 the VF of local tenant i. -/
inductive HostOut where
  | event (inst index : Nat) (phase : Bool) (r : EvRec)
  | vector (inst vec : Nat)
  | mirror (inst index : Nat) (r : List Byte)
  | telemetry (inst index : Nat) (r : List Byte)
  | data (addr : Nat) (bytes : List Byte)
  | dmaStatus (inst q index status : Nat)
  | answer (inst off : Nat) (v : Word)
  | unsupported
  deriving DecidableEq, Repr

/-- The rate limit of one event identifier: when it was last raised and how many instances have been suppressed since. -/
structure EvLimit where
  at_        : Nat
  suppressed : Nat
  deriving DecidableEq, Repr

/-- Event state of a channel or of the hub die. -/
structure Events where
  /-- Rate limit by identifier. -/
  limits : List (Nat × Option EvLimit) := []
  /-- Meteor rings (R433): per block code the newest record first, 256 at most. -/
  meteor : List (Nat × List EvRec) := []
  /-- Phase bit of the event ring of each function instance (R374). -/
  phase  : List (Nat × Bool) := []
  /-- Records and vectors sent to the host, newest first. -/
  out    : List HostOut := []
  /-- Time of the latest send of a vector: key 64 × instance + vector (R376). -/
  vecAt  : List (Nat × Option Nat) := []
  /-- Vectors withheld by a holdoff, to be sent when it ends. -/
  vecDue : List Nat := []
  deriving DecidableEq, Repr

/-! ## Host interface (chapter 14) -/

/-- A DMA command of Table 14.3 as read from its 32-byte entry. -/
structure DmaCmd where
  op     : Nat
  flags  : Nat
  tier   : Nat
  len    : Nat
  host   : Nat
  dev    : Nat
  tag    : Nat
  deriving DecidableEq, Repr

/-- A DMA command in flight: the function instance and queue, its ring index and the command. -/
structure DmaRun where
  inst  : Nat
  q     : Nat
  index : Nat
  cmd   : DmaCmd
  at_   : Nat
  /-- Its function instance has not been reset since it started (R377). -/
  live  : Bool := true
  deriving DecidableEq, Repr

/-- Host-port state of one channel. -/
structure HostIf where
  /-- NumVFs and VF Enable of PF(c + 1) (R363). -/
  numVFs   : Nat := 0
  vfEnable : Bool := false
  /-- Function instances in D3hot (R361). -/
  d3hot    : List Nat := []
  /-- Commands in flight, oldest first (R371). -/
  dma      : List DmaRun := []
  /-- Next ring index to start, key 4 × instance + q. -/
  dmaNext  : List (Nat × Nat) := []
  /-- Completed entries not yet passed by cons: (4 × instance + q, ring index). -/
  dmaDone  : List (Nat × Nat) := []
  /-- Host accesses held until the channel leaves Doze or Vault (R378, R406): function instance, offset, and the value of a write;
  none for a read. Oldest first: they take effect in their order (R25). -/
  held     : List (Nat × Nat × Option Word) := []
  deriving DecidableEq, Repr

/-! ## Time (R46, R402, R461, R462) -/

/-- The Sidereal counter: `units` of 1/(63 × 10^9) ns held at time `at_`, and its rate, 10^9 at nominal. -/
structure Sidereal where
  units    : Nat := 0
  at_      : Nat := 0
  rate     : Nat := 1000000000
  /-- Seconds announced by the latest accepted time message (R461). -/
  announced : Option Nat := none
  /-- Time of the latest PPS edge, and of the latest accepted one. -/
  lastEdge  : Option Nat := none
  lastGood  : Option Nat := none
  lost      : Bool := false
  deriving DecidableEq, Repr

/-! ## Power (chapter 16) -/

/-- Power of a channel as SUP_CHN_STATUS_c reports it, fail-stop apart (Table 16.16). -/
inductive Power where
  | off | ramping | on | inReset
  deriving DecidableEq, Repr

/-- A change of operating point in progress (R408). -/
structure OppChange where
  target   : Nat
  raising  : Bool
  /-- The divider has switched; the VDD_CH ramp has ended. -/
  switched : Bool := false
  ramped   : Bool := false
  at_      : Nat
  deriving DecidableEq, Repr

/-- The Lodestar (R402, R415). -/
inductive Lodestar where
  | running | restarting | stopped
  deriving DecidableEq, Repr

/-- What a channel knows of one neighbour from its watch frames (R413, R414). -/
structure Neighbour where
  lastAt      : Nat := 0
  misses      : Nat := 0
  seqNo       : Nat := 0
  /-- Last frame reported Off or a channel reset in progress, or the neighbour is known absent. -/
  absent      : Bool := true
  powered     : Bool := false
  temp        : Nat := 0
  tempValid   : Bool := false
  point       : Nat := 0
  vdd         : Nat := 0
  safeServe   : Bool := false
  failStop    : Bool := false
  restarting  : Bool := false
  /-- Times of the resets made of this neighbour. -/
  resets      : List Nat := []
  deriving DecidableEq, Repr

/-- Power and recovery state beside the PWR registers. -/
structure Pwr where
  power       : Power := .off
  /-- When the current ramp, reset or power sequence began. -/
  since       : Nat := 0
  /-- Doze or Vault entry in progress, with its target (1 DOZE, 2 VAULT) and start. -/
  entering    : Option (Nat × Nat) := none
  /-- Wake in progress: from state and start. -/
  waking      : Option (Nat × Nat) := none
  /-- Since when the Idle conditions have held. -/
  idleSince   : Option Nat := none
  opp         : Option OppChange := none
  /-- End of the 64 cc for which an operating-point switch holds dispatch (R408). -/
  oppHold     : Nat := 0
  /-- When the fail-stop latch set (R420), and the times of the automatic restarts made within the last hour (R421). -/
  latchAt     : Nat := 0
  autoRestarts : List Nat := []
  /-- The fail-stop found auto_restart set and fewer than three automatic restarts in the hour: else it waits for the host (R421). -/
  latchAuto   : Bool := false
  throttled   : Bool := false
  floorAt     : Nat := 0
  sampleAt    : Nat := 0
  neighTempAt : Option Nat := none
  safeSince   : Option Nat := none
  lodestar    : Lodestar := .running
  /-- The Lodestar's instruction memory as the boot ROM loaded it, and the hash kept to compare it with (R415). -/
  fw          : List Byte := []
  fwHash      : List Byte := []
  lodestarAt  : Nat := 0
  watchdogAt  : Nat := 0
  frameSeq    : Nat := 0
  frameAt     : Nat := 0
  /-- Watch frames and reset lines driven, newest first: true for ring_next, and the 64-bit frame. -/
  framesOut   : List (Bool × Nat) := []
  /-- Lodestar reset lines asserted towards a neighbour (channel number), newest first. -/
  resetsOut   : List Nat := []
  prev        : Neighbour := {}
  next        : Neighbour := {}
  /-- The fail pin is driven low (deasserted) only in SERVING (R463). -/
  failPin     : Bool := true
  dispatchAt  : Nat := 0
  /-- Reset line hold: the asserted fail pin is kept until READY. -/
  ready       : Bool := false
  /-- Declared hang waiting for the Lodestar to return (R439). -/
  declareWait : Bool := false
  deriving DecidableEq, Repr

/-! ## Descriptor port and Carafe (chapter 02) -/

/-- The descriptor metadata block (Table 02.1). -/
structure Meta where
  seq      : BitVec 32
  ingress  : BitVec 16
  cls      : Bool
  tenant   : BitVec 7
  origLen  : BitVec 16
  ts       : BitVec 40
  flags    : BitVec 8
  sliceLen : BitVec 8
  deriving DecidableEq, Repr

/-- A descriptor as the Carafe holds it: its metadata with reserved flags clear (R39), slice, words (R48), arrival time
(Sidereal ns) and full packet time (R46). -/
structure Desc where
  md      : Meta
  slice   : List Byte
  words   : Nat
  arrived : Nat
  time    : Nat
  deriving DecidableEq, Repr

/-- A verdict record (Tables 02.3 and 02.4). A CHANNEL_DOWN record carries the fail policy in `handle` (R59). -/
structure VRec where
  seq         : BitVec 32
  code        : BitVec 4
  speculative : Bool := false
  dflt        : Bool := false
  malformed   : Bool := false
  flowMiss    : Bool := false
  learn       : Bool := false
  widened     : Bool := false
  test        : Bool := false
  score       : BitVec 16 := 0
  handle      : BitVec 32 := 0
  colour      : BitVec 2 := 3
  cls         : Bool := false
  classIdx    : BitVec 5 := 31
  slot        : BitVec 8 := 0xFF
  epoch       : BitVec 16 := 0
  deriving DecidableEq, Repr

/-- Why a record waits for the transmit lane. -/
inductive TxKind where
  | verdict | malformed | retract | down
  deriving DecidableEq, Repr

/-- A ready record with the number of the descriptor it answers, if it went past the port checks. -/
structure TxRec where
  kind : TxKind
  vr   : VRec
  job  : Option Nat := none
  deriving DecidableEq, Repr

/-- What the port has sent, newest first: a 514-bit block, its lane where the spec names one, its 2-bit header and 64 bytes (R47); or
the bytes of a frame from the destination address through the FCS (R53). -/
inductive PortOut where
  | block (lane : Option Nat) (header : BitVec 2) (bytes : List Byte)
  | frame (bytes : List Byte)
  deriving DecidableEq, Repr

/-- Framing of the native receiver (R49): in step; lost; lost with a control block seen since. -/
inductive Framing where
  | ok | lost | control
  deriving DecidableEq, Repr

/-- Port and Carafe state beside the PDP and CRF registers. -/
structure Port where
  /-- The expected sequence has been set since entry to SERVING (R41). -/
  seqValid  : Bool := false
  framing   : Framing := .lost
  /-- Descriptors held, oldest first (R56). -/
  carafe    : List Desc := []
  /-- Credit limit the device may now announce (R55). -/
  limit     : Nat := 0
  /-- Sequence of the last descriptor accepted into the Carafe (R59). -/
  lastSeq   : BitVec 32 := 0
  /-- Latest accepted switch time word: its time in ns and the Sidereal time of its receipt in ps (R46, R62). -/
  timeBase  : Option (Nat × Nat) := none
  /-- Consecutive jumping words, newest first (R62). -/
  jumps     : List (Nat × Nat) := []
  /-- PAUSE asserted, and when the latest PAUSE frame was sent (R54). -/
  paused    : Bool := false
  pauseAt   : Nat := 0
  /-- Ready records not yet framed, oldest first. -/
  txq       : List TxRec := []
  out       : List PortOut := []
  timeCount : BitVec 16 := 0
  timeAt    : Nat := 0
  alignAt   : Nat := 0
  downAt    : Nat := 0
  /-- Which lane takes the next descriptor: false A, true B (R27). -/
  laneB     : Bool := false
  /-- The first core cycle in which each lane takes another descriptor (R27, R31). -/
  freeA     : Nat := 0
  freeB     : Nat := 0
  /-- Numbers of the lane that carries each align number (R50: any physical order). -/
  laneOrder : List Nat := []
  /-- Uncorrectable codewords within the last microsecond: lane and time (R58). -/
  badWords  : List (Nat × Nat) := []
  deriving DecidableEq, Repr

/-! ## Parser and flow tables (chapter 03) -/

/-- Parser table contents: entries keyed 4096 × stage + index (96 bytes each) and the default action of each stage
(32 bytes); an item never written is all zero (not valid). -/
structure Parser where
  entries  : List (Nat × List Byte) := []
  defaults : List (Nat × List Byte) := []
  deriving DecidableEq, Repr

/-- A line of the flow cache (R79): channel bucket number, local tenant, dirty mark and its 512 bytes. -/
structure FlowLine where
  bucket : Nat
  tenant : Nat
  dirty  : Bool
  data   : List Byte
  deriving DecidableEq, Repr

/-- A lookup in the miss buffer (R82) or in the replay queue (R93), by descriptor number. -/
structure Lookup where
  job    : Nat
  tenant : Nat
  key    : List Byte
  b1     : Nat
  b2     : Nat
  at_    : Nat
  /-- A cold-table fetch is running or a promotion is pending for this lookup. -/
  cold   : Bool := false
  /-- Descriptors of the earlier lookups it is linked behind (R82). -/
  behind : List Nat := []
  deriving DecidableEq, Repr

/-- A bucket lock (R92): local tenant, table (0 flow, k + 1 entity lookup k), bucket within it, holding function
instance, since when, and whether and when a release was asked for (R94). -/
structure Lock where
  tenant  : Nat
  table   : Nat
  bucket  : Nat
  holder  : Nat
  at_     : Nat
  release : Option Nat := none
  /-- The release makes no check (region removal, R97). -/
  noCheck : Bool := false
  /-- Its release was not asked for by its holder: max_hold, a Function Level Reset or a region removal ended it. -/
  forced  : Bool := false
  deriving DecidableEq, Repr

/-- An operation waiting for a maintenance slot (R84, R85): invalidate a record of the flow table, or with `cold` of the cold table. -/
inductive MaintOp where
  | invalidate (cold : Bool) (bucket way : Nat) (tenant : Nat) (key : List Byte)
  deriving DecidableEq, Repr

/-- Aging of one local tenant (R90, R91): start of the period (ns), next bucket to visit, and whether the period is
already late. -/
structure Aging where
  start  : Nat
  next   : Nat
  late   : Bool
  /-- Keys of records moved to the cold table in this period: next visited in the next one. -/
  moved  : List (List Byte) := []
  deriving DecidableEq, Repr

/-- Flow Engine state beside the FLW and LDS registers. -/
structure Flow where
  /-- Flow cache, keyed 4 × set + way. -/
  cache    : List (Nat × Option FlowLine) := []
  /-- Replacement bits of a set (R79): bit 0 the pair, bits 1 and 2 the way within each pair. -/
  plru     : List (Nat × Nat) := []
  /-- Channel buckets whose fill from T1 is running. -/
  fills    : List Nat := []
  /-- Miss buffer, oldest first. -/
  miss     : List Lookup := []
  /-- Replay queue, in the order of parking. -/
  parked   : List Lookup := []
  locks    : List Lock := []
  /-- Pending filter (R86): key, local tenant and time of posting (ns), earliest first. -/
  pending  : List (List Byte × Nat × Nat) := []
  /-- Records found in a cold table, waiting for promotion (R83): local tenant and record; 16: its region has gone (R97). -/
  promote  : List (Nat × List Byte) := []
  maint    : List (MaintOp × Nat) := []
  /-- Progress of the core clock until which a forced maintenance operation holds the lookup slot (R85). -/
  slotAt   : Nat := 0
  /-- Aging by local tenant. -/
  aging    : List (Nat × Option Aging) := []
  /-- Insert ring served last, for the round robin of R88. -/
  lastRing : Nat := 0
  deriving DecidableEq, Repr

/-! ## Verdicts, meters and gates (chapter 11) -/

/-- A gate entry (Table 11.6). -/
structure GateEntry where
  duration : Nat := 0
  mxe      : List Nat := [0, 0, 0, 0]
  rvu      : Nat := 0
  fst      : Nat := 0
  vec      : Nat := 0
  hostMask : Nat := 0
  deriving DecidableEq, Repr

/-- A committed list waiting for its start (R308): cycle time, count and the Sidereal time of the switch. -/
structure GatePending where
  cycle : Nat
  count : Nat
  start : Nat
  deriving DecidableEq, Repr

/-- The time gate beside VPE_GATE_*. -/
structure Gate where
  /-- Entries of lists A and B, keyed 64 × list + index. -/
  lists   : List (Nat × GateEntry) := []
  pending : Option GatePending := none
  /-- Cycle time, count and start of the current cycle of the operational list; none before any commit. -/
  oper    : Option GatePending := none
  /-- Start of the current entry (Sidereal ns). -/
  entryAt : Nat := 0
  deriving DecidableEq, Repr

/-- A meter (Table 11.3). -/
structure Meter where
  mode  : Nat := 0
  aware : Bool := false
  tenant : Nat := 0
  adjust : Nat := 0
  cir   : Nat := 0
  pir   : Nat := 0
  cbs   : Nat := 0
  ebs   : Nat := 0
  tc    : Nat := 0
  te    : Nat := 0
  last  : Nat := 0
  green : Nat := 0
  yellow : Nat := 0
  red   : Nat := 0
  deriving DecidableEq, Repr

/-- An action entry (Table 11.2). -/
structure Action where
  threshold : BitVec 32 := 0
  low       : Nat := 0
  high      : Nat := 0
  yellow    : Nat := 0
  red       : Nat := 0
  meterMode : Nat := 0
  hostCopy  : Bool := false
  meterIdx  : Nat := 0
  deriving DecidableEq, Repr

/-- A shaper bucket (R314): tokens in 2^−16 byte at time `at_` (Sidereal ns), and a latched configuration (R315). -/
structure Shaper where
  tokens  : Nat := 0
  at_     : Nat := 0
  latched : Option Word := none
  deriving DecidableEq, Repr

/-- Start and finish tags of a tenant's queue at a gated unit (R306). -/
structure WfqTag where
  s : Nat := 0
  f : Nat := 0
  deriving DecidableEq, Repr

/-- A command, or a parked descriptor, in a tenant's queue at a gated unit (R305): its unit, local tenant, cost, and what
it is: 2 × slot + side and the command index of a run, or the descriptor's number for the forest re-entry. -/
structure WfqItem where
  unit   : Nat
  tenant : Nat
  cost   : Nat
  ctx    : Nat
  index  : Nat
  deriving DecidableEq, Repr

/-- Verdict and Policy Engine state beside the VPE registers. -/
structure Vpe where
  gate    : Gate := {}
  meters  : List (Nat × Meter) := []
  /-- Meters with an uncorrectable error found at their next use (R300). -/
  meterBad : List Nat := []
  actions : List (Nat × Action) := []
  shapers : List (Nat × Shaper) := []
  /-- Virtual time of each gated unit, 2^−8 cc. -/
  vtime   : List (Nat × Nat) := []
  tags    : List (Nat × WfqTag) := []
  /-- Waiting commands, oldest first. -/
  wfq     : List WfqItem := []
  /-- Host-bound queues, keyed 2 × local tenant + q (0 mirror, 1 telemetry), oldest record first. -/
  hq      : List (Nat × List (List Byte)) := []
  deriving DecidableEq, Repr

/-! ## Memory tiers (chapter 12) -/

/-- An encrypted byte of T2 or T3: the generation of the key it was written under (0: none) and its plain value. -/
structure EncByte where
  gen : Nat := 0
  val : Byte := 0
  deriving DecidableEq, Repr

/-- A zero-fill of a region entry that is running (R333): the entry, and its tier, base and length in bytes. -/
structure Fill where
  entry : Nat
  tier  : Nat
  base  : Nat
  len   : Nat
  deriving DecidableEq, Repr

/-- Memory state beside the MEM registers. -/
structure Mem where
  spad   : List Host.Cell := []
  t1     : List Host.Cell := []
  t2     : List (Nat × EncByte) := []
  t3     : List (Nat × EncByte) := []
  /-- Key generation of local tenants 0 to 15 and of the channel (16); 0 before a key pair is drawn (R331). -/
  keys   : List (Nat × Nat) := []
  keyGen : Nat := 0
  /-- Zero-fills running (R333). -/
  fills  : List Fill := []
  /-- Entries whose clearing waits for started DMA commands (R373). -/
  clearing : List Nat := []
  /-- Tenant erase running (R334): local tenant and its former flow region. -/
  erase  : Option (Nat × Nat × Nat) := none
  /-- Start of the latest T2 sequence and recent uncorrectable T2 lines (times). -/
  t2At   : Nat := 0
  t2Bad  : List Nat := []
  /-- Next line of the patrol scrub (R323). -/
  patrol : Nat := 0
  patrolAt : Nat := 0
  /-- Lines (T2 byte addresses) that the running evacuation copy could not read. -/
  evacBad : List Nat := []
  deriving DecidableEq, Repr

/-! ## Observation (chapter 17) -/

/-- Samples taken at a freeze edge (R432). -/
structure FreezeSample where
  at_       : Nat
  occupancy : Nat
  port      : List Nat
  pipeline  : List (Nat × Nat)
  zorbex    : List (List Nat)
  deriving DecidableEq, Repr

/-- WATCH hits of one watchpoint in one core cycle, to be written as one record (R436): the watchpoint, the Sidereal time and address of the
first hit, their number, the tier and the kinds of access. -/
structure WatchHits where
  w      : Nat
  time   : Nat
  addr   : Nat
  count  : Nat
  tier   : Nat
  kinds  : Nat
  deriving DecidableEq, Repr

/-- A dump (R440): its start, whether a unit timed out, the units of Table 17.1 recorded not_quiesced, and whether it has been written; while
one stands nothing issues. -/
structure Dump where
  at_     : Nat
  partial_ : Bool := false
  busy    : List Nat := []
  done    : Bool := false
  deriving DecidableEq, Repr

/-- Observation state beside the OBS registers. -/
structure Obs where
  /-- Counter values as frozen at edge C (R430); none while not frozen. -/
  frozen  : Option (List (Nat × Word) × List (Nat × Nat)) := none
  /-- Stalled cycles, keyed 16 × unit + reason (R426). -/
  stalls  : List (Nat × Nat) := []
  sample  : Option FreezeSample := none
  /-- Trace buffer: records not yet written to T1, oldest first, and drops since the last LOST record (R437). -/
  trace   : List (List Byte) := []
  lost    : Nat := 0
  /-- Start and size in records of the current 10 µs share window. -/
  shareAt : Nat := 0
  shareN  : Nat := 0
  traceAt : Nat := 0
  summaryAt : Nat := 0
  dump    : Option Dump := none
  /-- Units of Table 17.1 whose work completes within a command, that worked in the present core cycle (R425). -/
  worked  : List Nat := []
  watched : List WatchHits := []
  deriving DecidableEq, Repr
/-! ## Feature Engine (chapter 04) -/

/-- A bucket line of a tenant's part of the entity cache (R109): lookup k, bucket of its table, 512 bytes. -/
structure EntLine where
  lookup : Nat
  bucket : Nat
  data   : List Byte
  deriving DecidableEq, Repr

/-- Feature Engine state beside the FTR registers. -/
structure Feature where
  /-- Program memory (R131): the slots of each program, 8 bytes each. -/
  progs    : List (Nat × List Byte) := []
  /-- Program copies running: program and start. -/
  loading  : List (Nat × Nat) := []
  /-- Entity cache (R109), keyed 256 × local tenant + 4 × set + way. -/
  cache    : List (Nat × Option EntLine) := []
  /-- Replacement bits, keyed 64 × local tenant + set. -/
  plru     : List (Nat × Nat) := []
  /-- Bucket fills running: local tenant, lookup, bucket. -/
  fills    : List (Nat × Nat × Nat) := []
  deriving DecidableEq, Repr

/-! ## Forest Engine (chapter 05) -/

/-- A Leaf CAM entry as stored: 1,361 bits (R156). -/
structure CamEntry where
  value  : BitVec 640 := 0
  care   : BitVec 640 := 0
  valid  : Bool := false
  parity : BitVec 8 := 0
  leaf   : BitVec 64 := 0
  ecc    : BitVec 8 := 0
  deriving DecidableEq, Repr

/-- An entry excluded by its parity (R154): whether a search has counted it. -/
structure Exclusion where
  counted : Bool := false
  deriving DecidableEq, Repr

/-- Where a bank's golden image lies (R155): the slot side whose package's CAM tiles placed it, and its tree copy. -/
structure Golden where
  slot   : Nat
  side   : Nat
  deriving DecidableEq, Repr

/-- Forest Engine state beside the FST registers. -/
structure Forest where
  /-- Leaf CAM entries, keyed 2,048 × bank + entry. -/
  cam      : List (Nat × CamEntry) := []
  /-- Default words (R151), keyed 8 × segment + window, with their ECC byte. -/
  defaults : List (Nat × BitVec 64 × BitVec 8) := []
  /-- The window's holding buffer (R159). -/
  hold     : Option (Nat × CamEntry) := none
  excl     : List (Nat × Option Exclusion) := []
  /-- Repairs waiting, oldest first: entry and time of its event. -/
  repairs  : List (Nat × Nat) := []
  /-- Entries under a read-back test after a repair (R269). -/
  testing  : List Nat := []
  /-- Golden image of each bank, none where staging has not placed it. -/
  golden   : List (Nat × Option Golden) := []
  /-- Entries without a golden image whose exclusion has been reported late. -/
  lateSaid : List Nat := []
  /-- Cut memory (R142), 1 MiB. -/
  cuts     : List Host.Cell := []
  /-- Claims of key distribution (R137): core cycle, and the banks claimed. -/
  claims   : List (Nat × Nat) := []
  /-- Ensembles whose serving ended at a swap, with its time (R157). -/
  leaving  : List (Nat × Nat) := []
  deriving DecidableEq, Repr

/-! ## Zorbex Links (chapter 13) -/

/-- A Zorbex message (Tables 13.5 and 13.6). -/
structure ZMsg where
  typ     : BitVec 8
  dest    : BitVec 3
  src     : BitVec 3
  hops    : BitVec 2
  length  : BitVec 24
  vl      : Bool
  channel : BitVec 3
  context : BitVec 16
  args    : BitVec 64
  payload : List Byte
  deriving DecidableEq, Repr

/-- A codeword group as sent and held for replay (R347): its number, its data blocks (header code of Table 13.2 and 64 bytes), and how
many messages end in it. -/
structure ZGroup where
  num    : BitVec 16
  blocks : List (Nat × List Byte) := []
  ends   : Nat := 0
  deriving DecidableEq, Repr

/-- What a port sends, newest first. -/
inductive ZOut where
  | group (g : ZGroup)
  /-- A control block of four words (Table 13.3), on a lane of its own or where its turn in the striping puts it. -/
  | control (lane : Option Nat) (bytes : List Byte)
  deriving DecidableEq, Repr

/-- The part of a message received so far on one virtual lane: its bytes, the group and the lane's word count at its first
word, and whether a word of it overran the credits. -/
structure ZPartial where
  bytes   : List Byte := []
  group   : Nat := 0
  start   : Nat := 0
  overrun : Bool := false
  deriving DecidableEq, Repr

/-- A message waiting for a port: the words of it already sent, and the port it came by (3: this channel's own). -/
structure ZQueued where
  msg  : ZMsg
  sent : Nat := 0
  src  : Nat := 3
  deriving DecidableEq, Repr

/-- A Zorbex port beside its registers. Pairs are of virtual lanes 0 and 1. -/
structure ZPort where
  since    : Nat := 0
  /-- Group number sent next, and groups held for replay (oldest first). -/
  txNum    : BitVec 16 := 0
  unacked  : List ZGroup := []
  /-- Group number expected next from the partner, whether any has come, and whether a nak is outstanding. -/
  rxNum    : BitVec 16 := 0
  rxAny    : Bool := false
  naking   : Bool := false
  /-- Consecutive naks naming one group. -/
  nakNum   : Option (BitVec 16) := none
  nakCount : Nat := 0
  /-- The same of the naks this side sends. -/
  sentNum  : Option (BitVec 16) := none
  sentCount : Nat := 0
  /-- Words sent, and the partner's limit; words received, and the limit granted. -/
  txWords  : Nat × Nat := (0, 0)
  txLimit  : Nat × Nat := (0, 0)
  rxWords  : Nat × Nat := (0, 0)
  rxLimit  : Nat × Nat := (16384, 2048)
  /-- Messages waiting, oldest first. -/
  queue0   : List ZQueued := []
  queue1   : List ZQueued := []
  part0    : ZPartial := {}
  part1    : ZPartial := {}
  /-- Words received on each lane at the start of the latest groups, newest first, and words of a replay to pass over. -/
  rxLog    : List (Nat × Nat × Nat) := []
  skip     : Nat × Nat := (0, 0)
  /-- Probe outstanding: t1 in ps; results of IDENTIFY's probes: offset and delay in ps; offsets held back (R356). -/
  probe    : Option Nat := none
  probes   : List (Int × Int) := []
  jumps    : List (Int × Int) := []
  probeAt  : Nat := 0
  /-- The partner's identity has been accepted (R348). -/
  known    : Bool := false
  /-- Offsets the partner reported in its latest TIME_RESP, raw 64-bit words. -/
  reported : List Nat := []
  /-- When the latest alignment group was sent (R341). -/
  alignAt  : Nat := 0
  out      : List ZOut := []
  deriving DecidableEq, Repr

/-! ## Matrix Engines, Ristretto units, accumulators (chapters 06 and 07) -/

/-- A stationary operand as an engine holds it: its owner, the window offset it was loaded from, its format, its bytes
(rows of N_t elements in ascending k) and the sum blocks of its tiles (R229, R230); no sum blocks for an operand that the
load port sums itself (R279). -/
structure Weights where
  tenant : Nat
  slot   : Nat
  side   : Nat
  run    : Nat
  addr   : Nat
  format : Nat
  narrow : Bool
  data   : List Byte
  sums   : Option (List (List Byte))
  deriving DecidableEq, Repr

/-- Progress of a standby image (R173). -/
inductive StandbyPhase where
  | staging | held | staged | written
  deriving DecidableEq, Repr

/-- A pending standby image of a partition: the command it serves, its progress and since when. -/
structure Standby where
  ctx    : Nat
  run    : Nat
  index  : Nat
  phase  : StandbyPhase
  at_    : Nat
  w      : Option Weights := none
  deriving DecidableEq, Repr

/-- An operation in flight on a partition: its run context (2 × slot + side), run, command, issue time, rows landed and
in all, overflow shift, the weights its rows multiply, and whether its rows are discarded on landing (R204, R212). -/
structure Flight where
  ctx     : Nat
  run     : Nat
  index   : Nat
  issued  : Nat
  landed  : Nat
  rows    : Nat
  shift   : Nat
  w       : Weights
  discard : Bool := false
  late    : Bool := false
  /-- Its layer runs widened (R127). -/
  wide    : Bool := false
  /-- ACU_SR_SEED of its tenant when it issued, for a STREAM to ACC (R203). -/
  seed    : Nat := 0
  /-- Saturations and FP32 rows of a STREAM to OUT so far (R127, R128). -/
  sats    : Nat := 0
  vals    : List (List Nat) := []
  deriving DecidableEq, Repr

/-- A STREAM that failed its compare (R247, R262), kept at its home partition: it runs again on every partition of its reduction
group. `ops`: partition, command and weight address of each member; `tested`: quadrants, 4 × engine + quadrant, that a failure
of it had tested; failures on tested quadrants (R261); `restart`: when it was cleared to run again. -/
structure Redo where
  ctx     : Nat
  run     : Nat
  ops     : List (Nat × Nat × Nat)
  tested  : List Nat := []
  fails   : Nat := 0
  restart : Option Nat := none
  deriving DecidableEq, Repr

/-- A DRAIN in a partition's drain slot (R198). -/
structure DrainSlot where
  ctx   : Nat
  run   : Nat
  index : Nat
  tile  : Nat
  taken : Nat
  /-- ACU_SR_SEED of its tenant when the DRAIN was taken (R203). -/
  seed  : Nat := 0
  swap  : Option Nat := none
  late  : Bool := false
  deriving DecidableEq, Repr

/-- A partition of an engine (R169). -/
structure Part where
  active  : Option Weights := none
  /-- The pending image of the standby registers, and the load in the staging buffer behind it (R175). -/
  standby : Option Standby := none
  next    : Option Standby := none
  flights : List Flight := []
  drain   : Option DrainSlot := none
  /-- DRAINs queued behind the drain slot and operations queued behind them: context, run, command, oldest first. -/
  queue   : List (Nat × Nat × Nat) := []
  /-- Queued operations whose tenant does not hold the partition, with what its tenant queued behind them (R178, R226). -/
  parked  : List (Nat × Nat × Nat) := []
  /-- The tile in the active set and the one in the Crema set. -/
  tile    : Option Nat := none
  crema   : Option Nat := none
  /-- Progress of the core clock at which the drain buffer is free again (R199). -/
  bufAt   : Nat := 0
  /-- Tenant of the chain each set held last (R191). -/
  lastOwner : Option Nat := none
  /-- Latest issue time and row count (R174). -/
  lastIssue : Option (Nat × Nat) := none
  /-- Latest use of the array by real rows or by a Night-sky pattern, when it began and its cycles: a gap follows it (R179, R268). -/
  drawn   : Option (Nat × Nat) := none
  /-- Dummy density in sixteenths (R180), and dummy rows counted so far in the current gap. -/
  level   : Nat := 0
  dummies : Nat := 0
  redo    : List Redo := []
  deriving DecidableEq, Repr

/-- A word of an accumulator set: 32 bits, and the mark of R122. -/
structure AccWord where
  bits : BitVec 32 := 0
  nan  : Bool := false
  deriving DecidableEq, Repr

/-- A tile that is not FREE (R190 to R195): its chain. Its state is in ACU_TILE_STATE. -/
structure Tile where
  part    : Nat
  ctx     : Nat
  run     : Nat
  tenant  : Nat
  format  : Nat
  width   : Nat
  rows    : Nat
  /-- Output columns written (n_count, R164). -/
  cols    : Nat
  /-- Partitions of its reduction group, the home first (R196). -/
  group   : List Nat
  /-- Commands of the chain in issue order with the address their weights were loaded from (R205), and how many have
  issued since the latest start. -/
  ops     : List (Nat × Nat)
  issued  : Nat
  shift   : Nat
  firstAt : Nat
  words   : List (Nat × AccWord) := []
  /-- The chain is to restart (R205): time of detection. -/
  restart : Option Nat := none
  /-- The chain waits for a self-test, or was cut by a gate slot (R207). -/
  waiting : Bool := false
  cut     : Bool := false
  /-- Discarded by an abort: FREE once its issued rows have landed (R213). -/
  dead    : Bool := false
  starved : Nat := 0
  /-- Quadrants, 4 × engine + quadrant, that a failed compare of the chain had tested, and failures on tested ones (R261). -/
  tested  : List Nat := []
  fails   : Nat := 0
  /-- Latest landing of one of its rows (R207). -/
  landAt  : Option Nat := none
  deriving DecidableEq, Repr

/-- An MVR in flight on a unit: group of 16 outputs next to complete. -/
structure Dot where
  ctx    : Nat
  run    : Nat
  index  : Nat
  issued : Nat
  /-- Output groups of this unit completed, of `total`. -/
  next   : Nat
  total  : Nat
  late   : Bool := false
  /-- Units that a failed compare of it had tested, and failures on tested ones (R261). -/
  tested : List Nat := []
  fails  : Nat := 0
  waiting : Bool := false
  wide   : Bool := false
  /-- ACU_SR_SEED of its tenant when it issued (R203). -/
  seed   : Nat := 0
  /-- Saturations and FP32 outputs so far of an MVR to OUT (R127, R128), keyed 4,096 × vector + output. -/
  sats   : Nat := 0
  vals   : List (Nat × Nat) := []
  /-- Groups that a dump lets it complete: those begun when issue stopped (R440). -/
  stop   : Option Nat := none
  deriving DecidableEq, Repr

/-- A Ristretto unit: its weight store, 256 pages of 4 KiB, its work, its latest issue with the cycles of its chunks, and
its dummy density with the dummy chunks counted in the current gap (R179, R180). -/
structure Rvu where
  store  : List Host.Cell := []
  dots   : List Dot := []
  lastIssue : Option (Nat × Nat) := none
  level  : Nat := 0
  dummies : Nat := 0
  deriving DecidableEq, Repr

/-- A cut chain that waits for its tenant's next slot (R207, R208): engine × 16 + tile, the address of its engine's part of the save area
when its set was saved, and its DRAIN when that stood in the drain slot. -/
structure Saved where
  key   : Nat
  addr  : Option Nat
  tile  : Tile
  drain : Option DrainSlot := none
  deriving DecidableEq, Repr

/-- Matrix Engine, Ristretto and accumulator state beside the MXE, RVU and ACU registers. -/
structure Engines where
  /-- Partitions, keyed 8 × engine + partition code. -/
  parts  : List (Nat × Part) := []
  /-- Tiles that are not FREE, keyed 16 × engine + tile. -/
  tiles  : List (Nat × Option Tile) := []
  rvu0   : Rvu := {}
  rvu1   : Rvu := {}
  /-- Progress of the core clock at which the vector path accepts its next command (R220). -/
  vecAt  : Nat := 0
  /-- The command that the vector path took last: its context and index. -/
  vecHeld : Option (Nat × Nat) := none
  saved  : List Saved := []
  deriving DecidableEq, Repr

/-! ## Model slots, runs and staging (chapter 08) -/

/-- What staging or publication placed for a side (R232, R237, R289). -/
structure Side where
  /-- T1 address of the golden copy and its byte length; backup tier and address. -/
  golden  : Nat := 0
  bytes   : Nat := 0
  backTier : Nat := 0
  backAddr : Nat := 0
  /-- The 256-byte package header. -/
  header  : List Byte := []
  /-- Working copies of the seal table and the sum blocks. -/
  seals   : List Byte := []
  sums    : List Byte := []
  /-- Program cache: the command records. -/
  program : List Byte := []
  /-- A RETIRING side that was quarantined: its remaining runs fail (R234). -/
  dead    : Bool := false
  /-- Resources: Leaf CAM banks, ensemble descriptor, Ristretto units used, first page on each and pages per unit, cut
  memory span. -/
  banks   : Nat := 0
  ens     : Option Nat := none
  units   : Nat := 0
  page0   : Nat := 0
  page1   : Nat := 0
  pages   : Nat := 0
  cutBase : Nat := 0
  cutLen  : Nat := 0
  /-- Origin 1 of Table 15.8, with the agreed step and digest it carries. -/
  published : Bool := false
  step    : Nat := 0
  digest  : List Byte := []
  /-- Model digest of the signed package that a published side stands on (R289). -/
  signed  : List Byte := []
  /-- Time it began to retire, and the epoch of the last verdict formed on it. -/
  retired : Option Nat := none
  lastEpoch : Option Nat := none
  deriving DecidableEq, Repr

/-- A batch forming or closed (R35, R224): when it opened, its descriptors in order, its copy of the run area, saturations
of the input so far, the FP32 rows of an Exacting tenant (R128), and whether it has closed. -/
structure Batch where
  at_    : Nat
  jobs   : List Nat
  copy   : Nat
  sats   : Nat := 0
  rows   : List (List Nat) := []
  closed : Bool := false
  wide   : Bool := false
  /-- Codes in a gathered row. -/
  width  : Nat := 0
  deriving DecidableEq, Repr

/-- A command of a run that has issued and not completed: its index, whether its unit has taken it, its issue time, and
the scratchpad ranges it reads and writes. -/
structure RunCmd where
  index  : Nat
  at_    : Nat
  reads  : List (Nat × Nat)
  writes : List (Nat × Nat)
  deriving DecidableEq, Repr

/-- A run (R224 to R227). `jobs` are its descriptors; `m` its batch size. -/
structure Run where
  number : Nat
  at_    : Nat
  m      : Nat
  jobs   : List Nat
  /-- Codes in a gathered row of its batch. -/
  width  : Nat := 0
  next   : Nat := 0
  live   : List RunCmd := []
  failed : Option (Nat × Nat) := none
  /-- STARTs of chains that overflowed for good (R206), and commands that completed with abort_late set (R212). -/
  spent  : List Nat := []
  late   : List Nat := []
  /-- Commands issued when an abort last discarded a chain of the run (R213). -/
  aborted : Nat := 0
  hung   : Bool := false
  /-- Layers running widened (R127). -/
  wide   : List Nat := []
  /-- Outputs written by the output command: window address, stride. -/
  out    : Option (Nat × Nat) := none
  deriving DecidableEq, Repr

/-- The sequencer context of a slot side (R225): the batch forming or waiting, the run in progress, runs begun. -/
structure SideRun where
  batch : Option Batch := none
  run   : Option Run := none
  count : Nat := 0
  deriving DecidableEq, Repr

/-- A staging in progress (R237). -/
structure Staging where
  slot  : Nat
  side  : Nat
  src   : Nat
  tier  : Nat
  back  : Nat
  banks : Nat
  at_   : Nat
  /-- The FOREST record has bound the ensemble (R223). -/
  bound : Bool := false
  deriving DecidableEq, Repr

/-- A unit held by a failed seal check (R233): the side's context, the tile, when, and what waits: a standby image of a
partition key, or a command. -/
structure SealHold where
  ctx  : Nat
  tile : Nat
  at_  : Nat
  part : Option Nat
  deriving DecidableEq, Repr

/-- A tile in the table cache (R231): its side, number and scratchpad address, and its bytes as they were verified at the load. -/
structure CachedTile where
  ctx  : Nat
  tile : Nat
  base : Nat
  data : List Byte
  deriving DecidableEq, Repr

/-- Model slots beside the CHN slot registers. -/
structure Models where
  /-- Sides, keyed 2 × slot + side. -/
  sides   : List (Nat × Side) := []
  runs    : List (Nat × SideRun) := []
  staging : Option Staging := none
  holds   : List SealHold := []
  /-- Swaps and unloads accepted: slot, when, and whether it is an unload. -/
  swaps   : List (Nat × Nat × Bool) := []
  /-- The table cache of the Accumulate/Reduce Unit, 128 tiles, the latest load first (R231). -/
  tables  : List CachedTile := []
  deriving DecidableEq, Repr

/-! ## Descriptors in flight -/

/-- Where a descriptor that has been dispatched stands. -/
inductive Stage where
  | flowWait | parked | gateWait | forestDone | neuralWait | held | queued | sent | done
  deriving DecidableEq, Repr

/-- One search result of a tree: CAM entry, the leaf word used, and the stored leaf word and its ECC as the search read them; the
default leaf has no entry. -/
structure LeafUse where
  entry : Option Nat
  leaf  : BitVec 64
  word  : BitVec 64 := 0
  ecc   : BitVec 8 := 0
  deriving DecidableEq, Repr

/-- A 640-bit key of an ensemble (R143 to R145): value bits and masked bits. -/
structure Key where
  value  : Nat := 0
  masked : Nat := 0
  deriving DecidableEq, Repr

/-- A descriptor in flight, from its dispatch until its verdict has left and its epoch has closed. -/
structure Job where
  id       : Nat
  laneB    : Bool
  desc     : Desc
  stage    : Stage
  /-- Local tenant, as the port and the Parser accepted it. -/
  tenant   : Nat
  /-- The 64-byte metadata bus (Table 03.1). -/
  bus      : List Byte := []
  flowKey  : List Byte := []
  /-- Lookup outcome (Table 03.4), the record's handle and its 128 bytes as the features read them. -/
  reason   : Nat := 0
  handle   : Option Nat := none
  record   : List Byte := []
  at_      : Nat := 0
  /-- Ensembles that serve its tenant, as at its dispatch (R157), and its key for each, kept until it is searched (R145, R311). -/
  ens      : List Nat := []
  keys     : List (Nat × Key) := []
  /-- FOREST and NEURAL slot sides chosen at dispatch (R239): contexts. -/
  forest   : List Nat := []
  neural   : List Nat := []
  /-- Leaf uses by ensemble, and the FP32 outputs of the FOREST sides, by context. -/
  leaves   : List (Nat × List LeafUse) := []
  scores   : List (Nat × List Nat) := []
  /-- NEURAL results in, by context: FP32 outputs or none. -/
  nets     : List (Nat × Option (List Nat)) := []
  widened  : Bool := false
  /-- A learn notification was posted for it (R86). -/
  learn    : Bool := false
  /-- It read an unconfirmed peer delta (R258): logs of the shares read. -/
  peers    : List Nat := []
  /-- The composed record, the epoch it belongs to, its check results. -/
  verdict  : Option VRec := none
  score32  : Nat := 0
  epoch    : Nat := 0
  composed : Nat := 0
  checked  : Bool := false
  retracted : Bool := false
  /-- The check of its leaves has ended (R33). -/
  leafDone : Bool := false
  /-- A Gated forest verdict's host mirror copy waits for that check (R248, R313). -/
  copy     : Bool := false
  /-- The port entered DISABLED or DOWN after its dispatch: no record is sent for it (R58). -/
  silent   : Bool := false
  deriving DecidableEq, Repr

/-! ## Check Engine (chapter 09) -/

/-- An undo log entry (R254): the word it names, the tenant identifier, the epoch, the old value and the sequence. A flow delta names a
word of a flow's feature_state and the job that wrote it; a peer delta a word of an entity entry (local tenant, lookup, bucket, way), the
share that wrote it and the device it came from. -/
inductive Delta where
  | flow (handle word : Nat) (tenant : Nat) (epoch : Nat) (old : Nat) (seq : Nat) (job : Nat)
  | peer (share device : Nat) (tenant lookup bucket way word : Nat) (tid epoch old seq : Nat)
  deriving DecidableEq, Repr

/-- A share received and applied (R258, R352): number, origin device and tenant, its sequence and epoch, its delta's place
and whether it is confirmed. -/
structure PeerShare where
  num     : Nat
  device  : Nat
  /-- Local tenant at the origin. -/
  origin  : Nat
  seqNo   : Nat
  epoch   : Nat
  port    : Nat
  at_     : Nat
  deriving DecidableEq, Repr

/-- A unit under a targeted self-test, or whose remap or rebuild is due (R260 to R265). -/
inductive TestUnit where
  | quadrant (e q : Nat)
  | ristretto (u : Nat)
  | tree (lane : Nat)
  | entry (bank entry : Nat)
  | bank (b : Nat)
  deriving DecidableEq, Repr

/-- A targeted self-test in progress. `hold`: it holds dispatch (Table 09.6); `un`: a CHK_UNFENCE test; `rank`: an
expelled member's test of training context g. -/
structure SelfTest where
  unit  : TestUnit
  at_   : Nat
  hold  : Bool
  un    : Bool := false
  deriving DecidableEq, Repr

/-- A remap or a rebuild that the Lodestar has still to finish (R264). -/
structure Remap where
  unit   : TestUnit
  at_    : Nat
  hold   : Bool
  /-- Target: physical engine and partition, or banks of a rebuild with the banks they replace. -/
  target : List Nat
  source : List Nat
  deriving DecidableEq, Repr

/-- Check Engine state beside the CHK registers. -/
structure Chk where
  undo     : List Delta := []
  /-- Entries ever appended to the undo log. -/
  undoPos  : Nat := 0
  shares   : List PeerShare := []
  shareNum : Nat := 0
  /-- Highest origin epoch closed per device (R357), one more than it; 0 none. -/
  peerClosed : List (Nat × Nat) := []
  /-- Entities whose current entry is an unconfirmed peer delta are found in `undo`. -/
  tests    : List SelfTest := []
  remaps   : List Remap := []
  rebuilds : List Remap := []
  /-- Times of transients, by unit. -/
  transients : List (TestUnit × Nat) := []
  holdAt   : Option Nat := none
  /-- Slots of operations that failed in Safe Serve: they contribute no result until the Lodestar has returned (R265). -/
  muted    : List Nat := []
  /-- Mode of each tenant as a pending CHK_VMODE write will set it. -/
  vmodeNext : Option Nat := none
  digestAt : Nat := 0
  /-- Night-sky pattern running: unit, start, and whether it is the repeat. -/
  sweep    : Option (TestUnit × Nat × Bool) := none
  /-- The unit tested last, in the numbering of SWEEP_TEST_START: the next in turn follows it (R267). -/
  sweepLast : Nat := 39
  scrubAt  : Nat := 0
  scrubPos : Nat := 0
  /-- Ensembles that were valid at the start of the scrub period. -/
  scrubEns : Nat := 0
  /-- Epochs whose interval has begun: start of the current one is in CHK_EPOCH. -/
  closedAny : Bool := false
  deriving DecidableEq, Repr

/-! ## Training (chapter 10) -/

/-- A row of the candidate ring (R275): its job, sequence, epoch, place and N8 bytes; admitted rows keep their order until they are sent. -/
structure TrnRow where
  job   : Nat
  seqNo : Nat
  epoch : Nat
  place : Nat
  row   : List Byte
  /-- The FP32 values of the row, for an Exacting tenant (R128). -/
  vals  : List Nat := []
  deriving DecidableEq, Repr

/-- A batch of the log (R277): step, turn, rows and bytes per row. -/
structure TrnBatch where
  step  : Nat
  turn  : Nat
  m     : Nat
  bytes : Nat
  rows  : List (List Byte)
  deriving DecidableEq, Repr

/-- A vote open on step c: when this member's own digest became ready, and that digest. -/
structure Vote where
  c      : Nat
  ready  : Option Nat := none
  own    : List Byte := []
  deriving DecidableEq, Repr

/-- The last decision (R283): step, agreeing set by rank, outcome (Table 13.6), when, this member's digest of the step, and
what stood before it: checkpoint area, whether any checkpoint was agreed, its step and digest. -/
structure Decided where
  c       : Nat
  mask    : Nat
  outcome : Nat
  at_     : Nat
  own     : List Byte
  area    : Nat
  any     : Bool
  agreed  : Nat
  digest  : List Byte
  deriving DecidableEq, Repr

/-- A training context (R272 to R291) beside its registers. -/
structure TrnCtx where
  ring     : List TrnRow := []
  admitted : List TrnRow := []
  /-- Place of the ring behind the row written last. -/
  ringAt   : Nat := 0
  /-- Batches not behind the last agreed checkpoint, in step order. -/
  log      : List TrnBatch := []
  turn     : Nat := 0
  turnAt   : Nat := 0
  /-- The group's turn is not known since this member began to rejoin (R277). -/
  resync   : Bool := false
  running  : Bool := false
  /-- The side whose run the step in progress is (R239). -/
  runCtx   : Nat := 0
  /-- Quadrants of the partitions used since the last agreed checkpoint: engine and quadrant (R286). -/
  used     : List (Nat × Nat) := []
  /-- NaN counts of the program's scale tables at the start of the step, by window offset (R281). -/
  nanBase  : List (Nat × Nat) := []
  vote     : Option Vote := none
  /-- Time the compare step completed whose checkpoint is being written. -/
  snapshot : Option Nat := none
  /-- Latest digest received from each rank: rank, step, digest. -/
  digests  : List (Nat × Nat × List Byte) := []
  decided  : Option Decided := none
  /-- Step of the latest DECISION heard. -/
  heard    : Option Nat := none
  /-- Area holding the last agreed checkpoint: 0 A, 1 B; whether any is agreed. -/
  area     : Nat := 0
  agreedAny : Bool := false
  /-- Agreed checkpoints since the last publication. -/
  published : Nat := 0
  /-- Steps at which this member was expelled (R288), and when its self-test began. -/
  expels   : List Nat := []
  testAt   : Nat := 0
  /-- Rejoining: donor's rank, the step asked for with the digest held for it, whether it has been asked for again, and the
  segments received. -/
  donor    : Nat := 0
  wanted   : Option (Nat × List Byte) := none
  again    : Bool := false
  ckptSegs : Nat := 0
  /-- DECISIONs heard before this member's own: rank, step, agreeing set, outcome, when. -/
  early    : List (Nat × Nat × Nat × Nat × Nat) := []
  /-- Rejoining ranks this donor forwards live batches to (R287). -/
  feeds    : List Nat := []
  /-- Publication waiting for the serving slot: the agreed step. -/
  pubWait  : Option Nat := none
  /-- A vote of the group went on without this member while it was in Safe Serve (R291). -/
  missed   : Bool := false
  deriving DecidableEq, Repr

/-! ## Zorbex, boot and flash beside the hub (chapters 13 and 15) -/

/-- A flash state record (R396): first 8 bytes of the key's SHA-384, and q + 1. -/
structure StateRecord where
  key : List Byte
  q   : Nat
  deriving DecidableEq, Repr

/-- Boot flash of a channel (R382): the bytes of banks A and B, the boot record area,
trial-failed marks (bank, sequence), the bank on trial since its PROGRAM, and state records, newest first. -/
structure Flash where
  bankA   : List Host.Cell := []
  bankB   : List Host.Cell := []
  /-- Alias records with their blocks, newest first, and the signatures the DeviceID HSS key has given (R394). -/
  aliases : List (List Byte) := []
  devSigs : Nat := 0
  failed  : List (Nat × Nat) := []
  trial   : Option Nat := none
  states  : List StateRecord := []
  deriving DecidableEq, Repr

/-- Fuses (Table 15.5). The unique device secret is a free value. -/
structure Fuses where
  deviceId   : Nat := 0
  slots      : List (Nat × List Byte) := []
  programmed : Nat := 0
  revoked    : Nat := 0
  security   : Nat := 0
  deriving DecidableEq, Repr

/-- Boot state of a channel (Table 15.10). -/
inductive BootState where
  | off | booting | ready | quarantine | programming
  deriving DecidableEq, Repr

/-- Boot state beside the registers. -/
structure Boot where
  state    : BootState := .off
  at_      : Nat := 0
  bank     : Nat := 0
  reasonA  : Nat := 0
  reasonB  : Nat := 0
  rejects  : Nat := 0
  header   : List Byte := []
  onTrial  : Bool := false
  /-- CONFIG: next record, when its WAIT began, and whether the section has ended (R384). -/
  configAt : Nat := 0
  waiting  : Option Nat := none
  configDone : Bool := false
  /-- Alias key generation: the numbers M_img, security version, sequence stand for; next LMS index; STATE_LOST. -/
  nextQ    : Nat := 0
  stateLost : Bool := false
  lowSaid  : Bool := false
  /-- MODEL sections still to stage, by index. -/
  models   : List Nat := []
  /-- PROGRAM under way: the image and its target bank; and the state to return to (R398). -/
  program  : Option (List Byte × Nat) := none
  prior    : BootState := .ready
  /-- Attestation requests held, oldest first: function instance; and the latest release. -/
  requests : List Nat := []
  released : Option Nat := none
  deriving DecidableEq, Repr

/-- Zorbex state of a channel beside the ZLK registers. -/
structure Zlk where
  p0 : ZPort := {}
  p1 : ZPort := {}
  p2 : ZPort := {}
  /-- Shares of a closed epoch whose EPOCH_CLOSE is still to send: destination devices by epoch and tenant. -/
  sharesSent : List (Nat × Nat × Nat) := []
  deriving DecidableEq, Repr

/-! ## Package pins and JTAG (chapter 19) -/

/-- Instructions of the TAP (R465). -/
inductive TapIr where
  | bypass | extest | sample | extestPulse | extestTrain | clamp | highz
  deriving DecidableEq, Repr

/-- Supplies, PORN and the boundary-scan test port. -/
structure Package where
  /-- PORN is low: the device is held in reset. -/
  porn     : Bool := false
  /-- VIN has fallen below 1.50 V and the device is unpowered. -/
  unpowered : Bool := false
  /-- VIN is outside its range: since when, and automatic restarts suspended. -/
  vinLow   : Option Nat := none
  suspended : Bool := false
  /-- TAP: instruction, bypass bit, boundary register and captured values, pin drive. -/
  ir       : TapIr := .bypass
  bypass   : Bool := false
  boundary : List Bool := []
  pins     : List Bool := []
  /-- What drives the pins while PORN is low: none, the boundary register, held values, or high impedance. -/
  drive    : Nat := 0
  /-- Channel whose ramp runs, and when PORN was released. -/
  ramping  : Option Nat := none
  released : Nat := 0
  deriving DecidableEq, Repr


/-! ## The channel and the device -/

/-- What a channel tells the hub die: an event of blocks 18 to 20 (R375), or its fail-stop indication (R2, R431). -/
inductive HubMsg where
  | event (e : Ev)
  | failStop
  deriving DecidableEq, Repr

/-- One channel: a complete machine (R2, R3, R21, R23). -/
structure Chan where
  /-- The channel's position in the package (R36). -/
  idx    : Fin 8
  /-- Time since package power-on, in grains of 1/63 ns of the channel's reference. -/
  now    : Nat := 0
  /-- Stretches of the core clock (R9), newest first: since when, its progress then in 1/240 of a core cycle, and its progress in a
  grain. With none it has run at P0 since time 0. -/
  core   : List (Nat × Nat × Nat) := []
  sid    : Sidereal := {}
  regs   : List (Nat × Word) := []
  /-- RWO registers written since reset (R13). -/
  rwo    : List Nat := []
  /-- Draws made so far from the channel's random source: numbers the free values. -/
  draws  : Nat := 0
  toHub  : List HubMsg := []
  ev     : Events := {}
  host   : HostIf := {}
  port   : Port := {}
  pwr    : Pwr := {}
  parser : Parser := {}
  flow   : Flow := {}
  vpe    : Vpe := {}
  mem    : Mem := {}
  obs    : Obs := {}
  ftr    : Feature := {}
  fst    : Forest := {}
  eng    : Engines := {}
  models : Models := {}
  /-- Descriptors in flight, oldest first, and the number of the next one. -/
  jobs   : List Job := []
  jobNum : Nat := 0
  chk    : Chk := {}
  /-- Training contexts 0 to 3, by context; what is not listed is the state before any enable. -/
  trn    : List (Nat × TrnCtx) := []
  /-- Training context whose step ran last, by local tenant (R280). -/
  trnLast : List (Nat × Nat) := []
  zlk    : Zlk := {}
  boot   : Boot := {}
  flash  : Flash := {}
  fuses  : Fuses := {}
  deriving DecidableEq, Repr

/-- The hub die (R2, R21): PF0's registers and the Package Supervisor. -/
structure Hub where
  now     : Nat := 0
  regs    : List (Nat × Word) := []
  ev      : Events := {}
  /-- PF0 is in D3hot (R361). -/
  d3hot   : Bool := false
  /-- A PROGRAM command under way (R398): its channel. -/
  program : Option Nat := none
  /-- Channels waiting for their ramp (R422). -/
  ramps   : List Nat := [0, 1, 2, 3, 4, 5, 6, 7]
  /-- HIF_CNT read under way (R369): channel and offset. -/
  cntRead : Option (Nat × Nat) := none
  deriving DecidableEq, Repr

/-- Why the device stops. No command of the spec stops it: the type has no constructor. -/
inductive Fault where
  deriving DecidableEq, Repr

/-- Why a command is refused by the model. -/
inductive Refusal where
  /-- The model gives the command no meaning yet; safe: the machine stops where the device goes on. -/
  | notModelled (mnemonic : String)
  deriving DecidableEq, Repr

/-- The device, and the commands that wait, first in first out. -/
structure State where
  chans   : Vector Chan 8
  hub     : Hub := {}
  pack    : Package := {}
  pending : List Instr := []
  deriving DecidableEq, Repr

/-- Right after PORN is released (R457): every channel Off. -/
def State.reset : State :=
  { chans := #v[{ idx := 0 }, { idx := 1 }, { idx := 2 }, { idx := 3 }, { idx := 4 }, { idx := 5 }, { idx := 6 },
      { idx := 7 }] }

end Sys2Proof.Machine
end

