-- ==== Sys2Proof/Machine/Ops.lean ====
section
/-!
DEFINITION. Machine/Ops.lean: the named operations every command uses: registers and fields, counters, time, tenants,
events with their rate limit, Meteor rings, host rings and vectors, and the host-bound queues.
-/

namespace Sys2Proof.Machine

open Sys2Proof

/-- The outcome of a command. -/
abbrev Out := Host.Outcome State Fault Refusal

/-! ## Time -/

/-- Grains in one nanosecond, one microsecond, one millisecond and one always-on cycle of 25 MHz (R4, R9). -/
def nsG : Nat := 63
def usG : Nat := 63000
def msG : Nat := 63000000
def acG : Nat := 2520

/-- Grains in one core cycle at an operating point (Table 16.4). -/
def ccG : Nat → Nat
  | 0 => 60
  | 1 => 80
  | 2 => 120
  | _ => 240

/-! ## Registers -/

/-- Key of a banked register's instance (R367): 0 the physical function, i + 1 the VF of local tenant i. -/
def bank (inst off : Nat) : Nat := off + 4294967296 * inst

/-- CHN_LOCATION of channel `c` (R36, Table 01.9). -/
def locationWord (c : Nat) : Nat :=
  c + c / 2 * 8 + c % 2 * 32 + (c + 7) % 8 * 256 + (c + 1) % 8 * 4096

/-- Core clock of an operating point in kHz (Table 16.4). -/
def freqKhz : Nat → Nat
  | 0 => 1050000
  | 1 => 787500
  | 2 => 525000
  | _ => 262500

/-- Reset value of the channel register with key `key` (chapter 18; R36 and R407 for those that differ by channel). -/
def regReset (c : Nat) (key : Nat) : Word :=
  let off := key % 4294967296
  if off = R.CHN_LOCATION then BitVec.ofNat 64 (locationWord c)
  else if inRow (R.PWR_OPP 0) 8 4 0 1 off then
    let p := (off - R.PWR_OPP 0) / 8
    BitVec.ofNat 64 (freqKhz p + Config.vdd c p * 2 ^ 21)
  else BitVec.ofNat 64 (resetOf resetRows off)

/-- The word of a register. -/
def Chan.rd (ch : Chan) (key : Nat) : Word := sget (regReset ch.idx) ch.regs key

/-- Put a word into a register. -/
def Chan.wr (ch : Chan) (key : Nat) (v : Word) : Chan := { ch with regs := sset (regReset ch.idx) ch.regs key v }

/-- A field of a register. -/
def Chan.fld (ch : Chan) (key : Nat) (f : Fld) : Nat := getF (ch.rd key) f

/-- A one-bit field of a register. -/
def Chan.flag (ch : Chan) (key : Nat) (f : Fld) : Bool := ch.fld key f == 1

/-- Put a field of a register. -/
def Chan.setFld (ch : Chan) (key : Nat) (f : Fld) (v : Nat) : Chan := ch.wr key (setF (ch.rd key) f v)

/-- Put a one-bit field. -/
def Chan.setFlag (ch : Chan) (key : Nat) (f : Fld) (b : Bool) : Chan := ch.setFld key f (if b then 1 else 0)

/-- Advance a counter by `n`, wrapping at 2^64 (R447). -/
def Chan.inc (ch : Chan) (key : Nat) (n : Nat := 1) : Chan := ch.wr key (ch.rd key + BitVec.ofNat 64 n)

/-! ## Time of a channel -/

/-- Operating point in force (Table 16.13). -/
def Chan.point (ch : Chan) : Nat := ch.fld R.PWR_STATUS F.PWR_STATUS_point

/-- Progress of the core clock in a grain at an operating point, in 1/240 of a core cycle. -/
def coreRate (p : Nat) : Nat := 240 / ccG p

/-- Progress of the core clock at time `t`, in 1/240 of a core cycle (R9: at a lower frequency counts stay and times stretch). -/
def coreAt : List (Nat × Nat × Nat) → Nat → Nat
  | [], t => 4 * t
  | (a, p, r) :: rest, t => if a ≤ t then p + r * (t - a) else coreAt rest t

/-- `n` core cycles of progress. -/
def coreCycles (n : Nat) : Nat := 240 * n

/-- Progress of the channel's core clock now. -/
def Chan.coreNow (ch : Chan) : Nat := coreAt ch.core ch.now

/-- Whole core cycles since time `t`. -/
def Chan.cyclesSince (ch : Chan) (t : Nat) : Nat := (ch.coreNow - coreAt ch.core t) / 240

/-- Have `n` core cycles passed since time `t`? -/
def Chan.sinceC (ch : Chan) (t n : Nat) : Bool := decide (coreAt ch.core t + coreCycles n ≤ ch.coreNow)

/-- `n` core cycles in grains at the point in force. -/
def Chan.cc (ch : Chan) (n : Nat) : Nat := n * ccG ch.point

/-- The Sidereal counter in units of 1/(63 × 10^9) ns at time `t`. -/
def Sidereal.unitsAt (s : Sidereal) (t : Nat) : Nat := s.units + (t - s.at_) * s.rate

/-- Sidereal time in ns (R402, R462). -/
def Chan.ns (ch : Chan) : Nat := ch.sid.unitsAt ch.now / 63000000000

/-- Sidereal time in ps. -/
def Chan.ps (ch : Chan) : Nat := ch.sid.unitsAt ch.now / 63000000

/-- Have `g` grains passed since `t`? -/
def Chan.since (ch : Chan) (t g : Nat) : Bool := decide (t + g ≤ ch.now)

/-! ## Power, tenants, functions -/

/-- The channel is powered and out of reset. -/
def Chan.isOn (ch : Chan) : Bool := ch.pwr.power == .on

/-- The core clock can run: powered, in Run or Idle (Table 16.1), and not stopped by a fail-stop of reason THERMAL (Table 16.5). -/
def Chan.clocked (ch : Chan) : Bool :=
  ch.isOn && decide (ch.fld R.PWR_STATUS F.PWR_STATUS_state ≤ 1) && ch.fld R.PWR_STATUS F.PWR_STATUS_fail_reason != 3

/-- Note the rate of the core clock from now on: that of the point in force, or none while it is stopped. -/
def Chan.coreNote (ch : Chan) : Chan :=
  let r := if ch.clocked then coreRate ch.point else 0
  if r = (match ch.core with | (_, _, r) :: _ => r | [] => 4) then ch
  else { ch with core := (ch.now, ch.coreNow, r) :: ch.core }

/-- The fail-stop latch is set (R419). -/
def Chan.failStopped (ch : Chan) : Bool := ch.flag R.PWR_STATUS F.PWR_STATUS_fail_stop

/-- In Safe Serve (R416). -/
def Chan.safeServe (ch : Chan) : Bool := ch.flag R.PWR_STATUS F.PWR_STATUS_safe_serve

/-- Local tenant `i` exists (R364). -/
def Chan.tenantExists (ch : Chan) (i : Nat) : Bool := decide (i < 16) && ch.flag (R.CHN_TENANT i) F.CHN_TENANT_exists

/-- Local tenant `i` is of class Exacting (R7). -/
def Chan.exacting (ch : Chan) (i : Nat) : Bool := ch.flag (R.CHN_TENANT i) F.CHN_TENANT_class

/-- Tenant identifier of local tenant `i` (R5). -/
def Chan.tid (ch : Chan) (i : Nat) : Nat := 16 * ch.idx.val + i

/-- Does tenant identifier `t` belong to this channel (R5, R6)? -/
def Chan.ownsTid (ch : Chan) (t : Nat) : Bool := t / 16 == ch.idx.val

/-- A function instance answers as its tenant: the physical function always, VF i while NumVFs exceeds i, VF Enable is
set and the tenant exists (R363). -/
def Chan.fnLive (ch : Chan) (inst : Nat) : Bool :=
  inst == 0 || (ch.host.vfEnable && decide (inst ≤ ch.host.numVFs) && ch.tenantExists (inst - 1))

/-- In Quarantine boot, a PROGRAM from it included (R392, R398). -/
def Boot.quarantined (b : Boot) : Bool := b.state == .quarantine || (b.state == .programming && b.prior == .quarantine)

/-- Draw the next number of the channel's random source. -/
def Chan.draw (ch : Chan) : Nat × Chan := (ch.draws, { ch with draws := ch.draws + 1 })

/-! ## Events -/

/-- Bytes of an event record (Table 14.5). -/
def EvRec.bytes (r : EvRec) (phase : Bool) : List Byte :=
  leBytes 2 r.id ++ [byte (r.sev.code + if phase then 128 else 0)] ++
  [match r.tenant with | some t => byte t | none => 0x80] ++
  leBytes 4 r.suppressed ++ leBytes 8 r.time ++ leBytes 8 r.count ++ leBytes 8 0

/-- The rate limit of one event per identifier and microsecond (R63 and the like): is this instance raised, how many
were suppressed before it, and the limits after it. -/
def Events.allow (ev : Events) (id now : Nat) : Bool × Nat × Events :=
  match sget (fun _ => none) ev.limits id with
  | none => (true, 0, { ev with limits := sset (fun _ => none) ev.limits id (some ⟨now, 0⟩) })
  | some l =>
    if now < l.at_ + usG then
      (false, 0, { ev with limits := sset (fun _ => none) ev.limits id (some ⟨l.at_, l.suppressed + 1⟩) })
    else (true, l.suppressed, { ev with limits := sset (fun _ => none) ev.limits id (some ⟨now, 0⟩) })

/-- Units that work in the present core cycle (R425). -/
def Chan.work (ch : Chan) (us : List Nat) : Chan := { ch with obs := { ch.obs with worked := us.filter (!ch.obs.worked.contains ·) ++ ch.obs.worked } }

/-- Put a record into the Meteor ring of its block: the last 256 are kept, newest first (R433). -/
def Events.meteorPut (ev : Events) (block : Nat) (r : EvRec) : Events :=
  { ev with meteor := sset (fun _ => []) ev.meteor block ((r :: sget (fun _ => []) ev.meteor block).take 256) }

/-- Log something sent to the host. -/
def Events.send (ev : Events) (o : HostOut) : Events := { ev with out := o :: ev.out }

/-- Key of a vector of a function instance. -/
def vecKey (inst vec : Nat) : Nat := 64 * inst + vec

/-- Send a vector, at most once within its ring's holdoff of `hold` µs (R376). -/
def Events.vector (ev : Events) (now inst vec hold : Nat) : Events :=
  let k := vecKey inst vec
  match sget (fun _ => none) ev.vecAt k with
  | some t =>
    if now < t + hold * usG then
      { ev with vecDue := if ev.vecDue.contains k then ev.vecDue else k :: ev.vecDue }
    else { ev with vecAt := sset (fun _ => none) ev.vecAt k (some now), out := .vector inst vec :: ev.out }
  | none => { ev with vecAt := sset (fun _ => none) ev.vecAt k (some now), out := .vector inst vec :: ev.out }

/-- Entries between the consumer and the producer of a ring whose indices count modulo 2^16. -/
def ringCount (prod cons : Nat) : Nat := (prod + 65536 - cons) % 65536

/-- A ring of 2^k entries with 16-bit indices is full (for k = 16 at 65,535: DESIGN CHOICE, log 4). -/
def ringFull (k prod cons : Nat) : Bool := decide (min (2 ^ k) 65535 ≤ ringCount prod cons)

/-- The channel with other event state. -/
def Chan.setEv (ch : Chan) (ev : Events) : Chan := { ch with ev := ev }

/-- Send a vector of a function of this channel; none leaves a function in D3hot (R361). -/
def Chan.vector (ch : Chan) (inst vec hold : Nat) : Chan :=
  if ch.host.d3hot.contains inst then ch else ch.setEv (ch.ev.vector ch.now inst vec hold)

/-- Vector of an event on a function instance (Table 14.6). -/
def eventVector (inst : Nat) (s : Severity) : Nat :=
  if inst = 0 then (match s with | .fatal | .fault => 0 | .warn | .info => 1) else 0

/-- Write an event record into the event ring of a function instance (R374). -/
def Chan.ringEvent (ch : Chan) (inst : Nat) (s : Severity) (r : EvRec) : Chan :=
  let base := bank inst R.CHN_EVQ_BASE
  let ctrl := bank inst R.CHN_EVQ_CTRL
  let k := ch.fld base F.CHN_EVQ_BASE_log2_size
  if k = 0 then ch
  else
    let prod := ch.fld ctrl F.CHN_EVQ_CTRL_prod
    if ringFull k prod (ch.fld ctrl F.CHN_EVQ_CTRL_cons) then
      ch.setFld ctrl F.CHN_EVQ_CTRL_dropped (min (ch.fld ctrl F.CHN_EVQ_CTRL_dropped + 1) (2 ^ 22 - 1))
    else
      let ph := sget (fun _ => false) ch.ev.phase inst
      let ph' := if (prod + 1) % 2 ^ k = 0 then !ph else ph
      let ev := { ch.ev with phase := sset (fun _ => false) ch.ev.phase inst ph'
                             out := .event inst (prod % 2 ^ k) ph r :: ch.ev.out }
      let ch := (ch.setEv ev).setFld ctrl F.CHN_EVQ_CTRL_prod (prod + 1)
      ch.vector inst (eventVector inst s) (ch.fld ctrl F.CHN_EVQ_CTRL_holdoff)

/-- Raise an event of blocks 0 to 17 without its telemetry record: whether it was raised, and the channel after it. The
Meteor ring takes every instance (R433); the rings of the physical function and of the tenant's VF take those the rate
limit admits (R375). -/
def Chan.raiseCore (ch : Chan) (e : Ev) (tenant : Option Nat) (cnt : Option Nat) : Option EvRec × Chan :=
  let (ok, supp, ev) := ch.ev.allow e.id ch.now
  let r : EvRec :=
    { id := e.id, sev := e.sev, tenant := tenant.map ch.tid, suppressed := supp, time := ch.ns
      count := match cnt with | some k => (ch.rd k).toNat | none => 0 }
  let ch := ch.setEv (ev.meteorPut e.block r)
  if ok then
    let ch := ch.ringEvent 0 e.sev r
    let ch := match tenant with
      | some i => if ch.fnLive (i + 1) then ch.ringEvent (i + 1) e.sev r else ch
      | none => ch
    (some r, ch)
  else (none, ch)

/-- Key of a host-bound queue: q = 0 mirror, 1 telemetry (R313). -/
def hqKey (i q : Nat) : Nat := 2 * i + q

/-- Records of a host-bound queue. -/
def Chan.hq (ch : Chan) (i q : Nat) : List (List Byte) := sget (fun _ => []) ch.vpe.hq (hqKey i q)

def Chan.setHq (ch : Chan) (i q : Nat) (rs : List (List Byte)) : Chan :=
  { ch with vpe := { ch.vpe with hq := sset (fun _ => []) ch.vpe.hq (hqKey i q) rs } }

/-- Telemetry EVENT record (Table 17.3). -/
def telemetryEvent (tid : Nat) (r : EvRec) : List Byte :=
  [1, byte tid] ++ leBytes 30 0 ++ r.bytes false

/-- Put a record into tenant `i`'s telemetry queue; one that finds 4,096 records is dropped, counted and reported (R313).
The report is itself an event of the tenant, whose record is dropped too. -/
def Chan.putTelemetry (ch : Chan) (i : Nat) (rec : List Byte) : Chan :=
  let q := ch.hq i 1
  if q.length < 4096 then ch.setHq i 1 (q ++ [rec])
  else
    let ch := ch.inc R.VPE_CNT_TELEM_DROP
    match ch.raiseCore EV_VPE_HOST_DROP (some i) (some R.VPE_CNT_TELEM_DROP) with
    | (none, ch) => ch
    | (some _, ch) =>
      if ch.flag R.OBS_CTRL F.OBS_CTRL_telemetry_events then
        ((ch.inc R.VPE_CNT_TELEM_DROP).raiseCore EV_VPE_HOST_DROP (some i) (some R.VPE_CNT_TELEM_DROP)).2
      else ch

/-- Raise an event (R17, R18, R374, R375, R428, R433). `tenant` is a local tenant number; `cnt` the counter named with
the event. Events of blocks 18 to 20 go to the hub die. -/
def Chan.raise (ch : Chan) (e : Ev) (tenant : Option Nat := none) (cnt : Option Nat := none) : Chan :=
  if 18 ≤ e.block then { ch with toHub := ch.toHub ++ [.event e] }
  else
    match ch.raiseCore e tenant cnt with
    | (none, ch) => ch
    | (some r, ch) =>
      match tenant with
      | some i =>
        if ch.flag R.OBS_CTRL F.OBS_CTRL_telemetry_events && ch.tenantExists i then
          ch.putTelemetry i (telemetryEvent (ch.tid i) r)
        else ch
      | none => ch

/-- Count in a counter and raise an event that names it. -/
def Chan.count (ch : Chan) (key : Nat) (e : Ev) (tenant : Option Nat := none) (n : Nat := 1) : Chan :=
  (ch.inc key n).raise e tenant (some key)

/-! ## The hub die -/

/-- Reset value of a PF0 register (Table 14.9 and 18.14). -/
def hubReset (off : Nat) : Word :=
  if off = R.HIF_BRIDGE_WEIGHT then 0x0101010101010101
  else if off = R.SUP_ID then 0x0000000824164200
  else if off = R.SUP_CAP then 0x002106FF
  else 0

def Hub.rd (h : Hub) (off : Nat) : Word := sget hubReset h.regs off
def Hub.wr (h : Hub) (off : Nat) (v : Word) : Hub := { h with regs := sset hubReset h.regs off v }
def Hub.fld (h : Hub) (off : Nat) (f : Fld) : Nat := getF (h.rd off) f
def Hub.flag (h : Hub) (off : Nat) (f : Fld) : Bool := h.fld off f == 1
def Hub.setFld (h : Hub) (off : Nat) (f : Fld) (v : Nat) : Hub := h.wr off (setF (h.rd off) f v)

/-- Write an event record into PF0's event ring (R374, R375). -/
def Hub.ringEvent (h : Hub) (r : EvRec) : Hub :=
  let k := h.fld R.HIF_EVQ_BASE F.HIF_EVQ_BASE_log2_size
  if k = 0 then h
  else
    let prod := h.fld R.HIF_EVQ_CONS F.HIF_EVQ_CONS_prod
    if ringFull k prod (h.fld R.HIF_EVQ_CONS F.HIF_EVQ_CONS_cons) then
      h.setFld R.HIF_EVQ_CONS F.HIF_EVQ_CONS_dropped (h.fld R.HIF_EVQ_CONS F.HIF_EVQ_CONS_dropped + 1)
    else
      let ph := sget (fun _ => false) h.ev.phase 0
      let ph' := if (prod + 1) % 2 ^ k = 0 then !ph else ph
      let ev := { h.ev with phase := sset (fun _ => false) h.ev.phase 0 ph'
                            out := .event 0 (prod % 2 ^ k) ph r :: h.ev.out }
      let h := { h with ev := ev }
      let h := h.setFld R.HIF_EVQ_CONS F.HIF_EVQ_CONS_prod (prod + 1)
      if h.d3hot then h else { h with ev := h.ev.vector h.now 0 0 0 }

/-- Raise an event of blocks 18 to 20; the hub die keeps Meteor rings of its own blocks (R433). The hub die has no
Sidereal counter: its records carry time zero (DESIGN CHOICE, log 9). -/
def Hub.raise (h : Hub) (e : Ev) : Hub :=
  let (ok, supp, ev) := h.ev.allow e.id h.now
  let r : EvRec := { id := e.id, sev := e.sev, tenant := none, suppressed := supp, time := 0, count := 0 }
  let h := { h with ev := ev.meteorPut e.block r }
  if ok then h.ringEvent r else h

/-! ## Channels within the device -/

/-- A channel of the device. -/
def State.chan (s : State) (c : Fin 8) : Chan := s.chans[c]

/-- The device with one channel replaced. -/
def State.setChan (s : State) (c : Fin 8) (ch : Chan) : State := { s with chans := s.chans.set c ch }

end Sys2Proof.Machine
end

