-- ==== Sys2Proof/Machine/Tiers.lean ====
section
/-!
DEFINITION. Machine/Tiers.lean: the four memory tiers (R320 to R332), region entries (R329, R330), the Eclipse freeze
(R430 to R432), trace (R434 to R437) and watchpoints (R436), which every memory access passes.
-/

namespace Sys2Proof.Machine

open Sys2Proof

/-! ## Bytes -/

/-- What an unlisted byte of the scratchpad or T1 reads as (power-on contents: DESIGN CHOICE, log 5). -/
def zeroByte (_ : Nat) : Byte := 0

/-- What an unlisted byte of T2 or T3 is: written under no key. -/
def noEnc (_ : Nat) : EncByte := {}

/-- Read `n` cells from `a` on. -/
def cellsGet (m : List Host.Cell) (a n : Nat) : List Byte := (List.range n).map fun i => sget zeroByte m (a + i)

/-- Write bytes from `a` on. -/
def cellsPut (m : List Host.Cell) (a : Nat) : List Byte → List Host.Cell
  | [] => m
  | b :: bs => cellsPut (sset zeroByte m a b) (a + 1) bs

/-- Write bytes under a key generation from `a` on. -/
def encPut (m : List (Nat × EncByte)) (gen a : Nat) : List Byte → List (Nat × EncByte)
  | [] => m
  | b :: bs => encPut (sset noEnc m a { gen := gen, val := b }) gen (a + 1) bs

/-- Drop every listed number from `a` to `a + n − 1`: these then read as unlisted. -/
def clearRange {α : Type} (m : List (Nat × α)) (a n : Nat) : List (Nat × α) :=
  m.filter fun p => decide (p.1 < a ∨ a + n ≤ p.1)

/-- Key index of the channel itself in the key store (R331). -/
def chanKey : Nat := 16

/-- Generation of the key pair of an owner (0 to 15 local tenants, 16 the channel); 0 before it is drawn. -/
def Chan.keyOf (ch : Chan) (owner : Nat) : Nat := sget (fun _ => 0) ch.mem.keys owner

/-- Draw a key pair for an owner (R331). -/
def Chan.drawKey (ch : Chan) (owner : Nat) : Chan :=
  { ch with mem := { ch.mem with keyGen := ch.mem.keyGen + 1
                                 keys := sset (fun _ => 0) ch.mem.keys owner (ch.mem.keyGen + 1) } }

/-- Draw the pair when the owner's slot is first used (R331). -/
def Chan.useKey (ch : Chan) (owner : Nat) : Chan := if ch.keyOf owner = 0 then ch.drawKey owner else ch

/-- One byte of T2 or T3 as a reader under key generation `k` sees it (R331, R332). -/
def encByte (c tier k a : Nat) (e : EncByte) : Byte :=
  if e.gen = 0 then Config.unwritten c tier a
  else if e.gen = k then e.val
  else Config.wrongKey c tier a e.gen e.val k

/-- Read `n` bytes of a tier (0 scratchpad, 1 T1, 2 T2, 3 T3) under the key of `owner`. -/
def Chan.bytes (ch : Chan) (tier owner a n : Nat) : List Byte :=
  match tier with
  | 0 => cellsGet ch.mem.spad a n
  | 1 => cellsGet ch.mem.t1 a n
  | 2 => (List.range n).map fun i => encByte ch.idx 2 (ch.keyOf owner) (a + i) (sget noEnc ch.mem.t2 (a + i))
  | _ => (List.range n).map fun i => encByte ch.idx 3 (ch.keyOf owner) (a + i) (sget noEnc ch.mem.t3 (a + i))

/-- Scratchpad bytes. -/
def Chan.spad (ch : Chan) (a n : Nat) : List Byte := cellsGet ch.mem.spad a n

/-- Table bytes within one tile: from the table cache where it holds the tile (R231), else from the scratchpad. -/
def Chan.tabPiece (ch : Chan) (a n : Nat) : List Byte :=
  match ch.models.tables.find? fun c => decide (c.base ≤ a ∧ a < c.base + 2048) with
  | some c => (c.data.drop (a - c.base)).take n
  | none => ch.spad a n

/-- Bytes of a table at scratchpad address `a`, tile by tile. -/
def Chan.tab (ch : Chan) (a n : Nat) : List Byte :=
  (List.range (n / 2048 + 2)).flatMap fun j =>
    let lo := max a (2048 * (a / 2048 + j))
    let hi := min (a + n) (2048 * (a / 2048 + j + 1))
    if hi ≤ lo then [] else ch.tabPiece lo (hi - lo)

/-- Put bytes into a tier under the key of `owner`. -/
def Chan.setBytes (ch : Chan) (tier owner a : Nat) (bs : List Byte) : Chan :=
  match tier with
  | 0 => { ch with mem := { ch.mem with spad := cellsPut ch.mem.spad a bs } }
  | 1 => { ch with mem := { ch.mem with t1 := cellsPut ch.mem.t1 a bs } }
  | 2 =>
    let ch := ch.useKey owner
    { ch with mem := { ch.mem with t2 := encPut ch.mem.t2 (ch.keyOf owner) a bs } }
  | _ =>
    let ch := ch.useKey owner
    { ch with mem := { ch.mem with t3 := encPut ch.mem.t3 (ch.keyOf owner) a bs } }

/-! ## Capacities and regions -/

/-- T2 states of Table 12.6. -/
def Chan.t2State (ch : Chan) : Nat := ch.fld R.MEM_STATUS F.MEM_STATUS_t2_state

/-- The CXL link of T3 is up (R324). -/
def Chan.t3Up (ch : Chan) : Bool := ch.fld R.MEM_STATUS F.MEM_STATUS_t3_link == 2

/-- Capacity of a tier in bytes (Table 12.1); T3 as the device reports it, up to 128 GiB (R324). -/
def Chan.tierSize (ch : Chan) : Nat → Nat
  | 0 => 167772160
  | 1 => 68719476736
  | 2 => 549755813888
  | _ => if ch.flag R.MEM_STATUS F.MEM_STATUS_t3_hdm_ready then ch.fld R.MEM_STATUS F.MEM_STATUS_t3_gib * 1073741824
         else 137438953472

/-- A region entry (Table 12.11). -/
structure Region where
  valid   : Bool
  tier    : Nat
  owner   : Nat
  filling : Bool
  base    : Nat
  len     : Nat
  moveTo  : Nat
  move    : Bool
  deriving DecidableEq, Repr

/-- The region entry that the words A and B spell. -/
def regionOf (a b : Word) : Region :=
  { valid := getF a F.MEM_REGION_A_valid == 1, tier := getF a F.MEM_REGION_A_tier, owner := getF a F.MEM_REGION_A_owner
    filling := getF a F.MEM_REGION_A_filling == 1, base := 4096 * getF b F.MEM_REGION_B_base
    len := 4096 * getF b F.MEM_REGION_B_size, moveTo := getF b F.MEM_REGION_B_move_to
    move := getF b F.MEM_REGION_B_move_valid == 1 }

/-- Region entry `i`. -/
def Chan.region (ch : Chan) (i : Nat) : Region := regionOf (ch.rd (R.MEM_REGION_A i)) (ch.rd (R.MEM_REGION_B i))

/-- The range lies wholly in the region. -/
def Region.holds (r : Region) (tier a n : Nat) : Bool :=
  r.valid && r.tier == tier && decide (r.base ≤ a ∧ a + n ≤ r.base + r.len)

/-- The entry that holds a range for an owner, not being zero-filled and not waiting to be cleared (R330, R333, R373). -/
def Chan.regionFor (ch : Chan) (tier owner a n : Nat) : Option Nat :=
  (List.range 64).find? fun i =>
    let r := ch.region i
    r.holds tier a n && r.owner == owner && !r.filling && !ch.mem.clearing.contains i

/-- A range lies wholly in one valid entry of the owner (R330). -/
def Chan.inRegion (ch : Chan) (tier owner a n : Nat) : Bool := (ch.regionFor tier owner a n).isSome

/-- Owner code of a function: 16 for the physical function, the local tenant for a VF (R330). -/
def ownerOf (inst : Nat) : Nat := if inst = 0 then chanKey else inst - 1

/-! ## The Eclipse freeze -/

/-- Causes of a freeze (Table 17.7). -/
inductive FreezeCause where
  | host | timed | watch | failStop | sup
  deriving DecidableEq, Repr

def FreezeCause.code : FreezeCause → Nat
  | .host => 1 | .timed => 2 | .watch => 3 | .failStop => 4 | .sup => 5

/-- What a freeze samples of a Zorbex port (R432): state, last group sent, highest acknowledged, highest received in order,
credit limits of both virtual lanes. -/
def ZPort.sample (p : ZPort) (state : Nat) : List Nat :=
  [state, ((p.txNum - 1).toNat), (((p.unacked.head?.map (·.num)).getD p.txNum - 1).toNat), ((p.rxNum - 1).toNat),
    p.txLimit.1, p.txLimit.2]

/-- The samples of R432 at edge C. No descriptor stands between the pipeline points at an edge of this model (log 6): all
six points of both lanes are empty. -/
def Chan.freezeSample (ch : Chan) : FreezeSample :=
  { at_ := ch.now
    occupancy := ch.fld R.CRF_STATUS F.CRF_STATUS_occupancy
    port := [ch.fld R.PDP_LINK_STATUS F.PDP_LINK_STATUS_link_state,
      ch.fld R.PDP_LINK_STATUS F.PDP_LINK_STATUS_expected_seq,
      (ch.rd R.CRF_CREDIT).toNat, (ch.rd R.CRF_RECEIVED).toNat]
    pipeline := List.replicate 12 (0xFFFFFFFF, 1)
    zorbex := [ch.zlk.p0.sample (ch.fld (R.ZLK_PORT_STATUS 0) F.ZLK_PORT_STATUS_state),
      ch.zlk.p1.sample (ch.fld (R.ZLK_PORT_STATUS 1) F.ZLK_PORT_STATUS_state),
      ch.zlk.p2.sample (ch.fld (R.ZLK_PORT_STATUS 2) F.ZLK_PORT_STATUS_state)] }

/-- The channel's counters are frozen (R430). -/
def Chan.frozen (ch : Chan) : Bool := ch.flag R.OBS_FREEZE F.OBS_FREEZE_frozen

/-- Freeze the channel at this edge; a cause that arrives while it is frozen has no effect (R430, R432). -/
def Chan.freeze (ch : Chan) (cause : FreezeCause) : Chan :=
  if ch.frozen then ch
  else
    let ch := { ch with obs := { ch.obs with frozen := some (ch.regs, ch.obs.stalls), sample := some ch.freezeSample } }
    let ch := ch.setFlag R.OBS_FREEZE F.OBS_FREEZE_frozen true
    let ch := ch.setFld R.OBS_FREEZE F.OBS_FREEZE_cause cause.code
    let ch := ch.wr R.OBS_FREEZE_TIME (BitVec.ofNat 64 ch.ns)
    (ch.inc R.OBS_CNT_FREEZES).raise EV_OBS_FREEZE

/-- Make the live values readable again (R430). -/
def Chan.unfreeze (ch : Chan) : Chan :=
  if ch.frozen then
    let ch := { ch with obs := { ch.obs with frozen := none } }
    (ch.setFlag R.OBS_FREEZE F.OBS_FREEZE_frozen false).setFld R.OBS_FREEZE F.OBS_FREEZE_cause 0
  else ch

/-! ## Trace -/

/-- A trace record (Table 17.4). -/
structure TraceRec where
  type    : Nat
  unit    : Nat := 0
  state   : Nat := 0
  tenant  : Nat := 0x80
  count   : Nat := 0
  value   : Nat := 0
  layer   : Nat := 0
  op      : Nat := 0
  tier    : Nat := 0
  access  : Nat := 0
  deriving DecidableEq, Repr

/-- Its 32 bytes at a time. -/
def TraceRec.bytes (r : TraceRec) (time : Nat) : List Byte :=
  [byte r.type, byte r.unit, byte r.state, byte r.tenant] ++ leBytes 4 r.count ++ leBytes 8 time ++ leBytes 8 r.value ++
  leBytes 2 r.layer ++ leBytes 2 r.op ++ [byte r.tier, byte r.access, 0, 0]

/-- Write one record into the trace region at wptr (R434). -/
def Chan.traceWrite (ch : Chan) (bs : List Byte) : Chan :=
  if ch.flag R.OBS_TRACE_PTR F.OBS_TRACE_PTR_full then ch
  else
    let p := ch.fld R.OBS_TRACE_PTR F.OBS_TRACE_PTR_wptr
    let size := 2 ^ ch.fld R.OBS_TRACE_BASE F.OBS_TRACE_BASE_log2_size
    let ch := ch.setBytes 1 chanKey (ch.fld R.OBS_TRACE_BASE F.OBS_TRACE_BASE_base + p) bs
    let ch := ch.inc R.OBS_CNT_TRACE_RECORDS
    if p + 32 < size then ch.setFld R.OBS_TRACE_PTR F.OBS_TRACE_PTR_wptr (p + 32)
    else if ch.flag R.OBS_TRACE_CTRL F.OBS_TRACE_CTRL_wrap then
      (ch.setFld R.OBS_TRACE_PTR F.OBS_TRACE_PTR_wptr 0).setFlag R.OBS_TRACE_PTR F.OBS_TRACE_PTR_wrapped true
    else (ch.setFld R.OBS_TRACE_PTR F.OBS_TRACE_PTR_wptr (p + 32)).setFlag R.OBS_TRACE_PTR F.OBS_TRACE_PTR_full true

/-- Records that the share of R437 admits in each 10 µs window. -/
def traceShare : Nat := 15375

/-- Drain the trace buffer into T1 as far as the share allows. -/
def Chan.traceDrain : Nat → Chan → Chan
  | 0, ch => ch
  | k + 1, ch =>
    match ch.obs.trace with
    | [] => ch
    | r :: rs =>
      if ch.obs.shareN < traceShare then
        let ch := { ch with obs := { ch.obs with trace := rs, shareN := ch.obs.shareN + 1 } }
        Chan.traceDrain k (ch.traceWrite r)
      else ch

/-- Start a new 10 µs window when the old one has ended. -/
def Chan.traceWindow (ch : Chan) : Chan :=
  if ch.since ch.obs.shareAt (10 * usG) then { ch with obs := { ch.obs with shareAt := ch.now, shareN := 0 } } else ch

/-- Queue one record, or drop and count it (R437). The buffer of 64 KiB holds 2,048 records. -/
def Chan.traceQueue (ch : Chan) (bs : List Byte) : Chan :=
  if ch.obs.trace.length < 2048 then { ch with obs := { ch.obs with trace := ch.obs.trace ++ [bs] } }
  else
    let ch := { ch with obs := { ch.obs with lost := ch.obs.lost + 1 } }
    ch.count R.OBS_CNT_TRACE_LOST EV_OBS_TRACE_LOST

/-- Emit a trace record made at Sidereal time `time`; one LOST record goes first once room has returned (R437). -/
def Chan.traceAt (ch : Chan) (r : TraceRec) (time : Nat) : Chan :=
  let ch := (ch.traceWindow).traceDrain 2048
  let ch :=
    if ch.obs.lost ≠ 0 ∧ ch.obs.trace.length < 2048 then
      let n := ch.obs.lost
      let ch := { ch with obs := { ch.obs with lost := 0 } }
      ch.traceQueue (TraceRec.bytes { type := 7, count := n } ch.ns)
    else ch
  (ch.traceQueue (r.bytes time)).traceDrain 2048

/-- Emit a trace record while trace is enabled. -/
def Chan.trace (ch : Chan) (r : TraceRec) : Chan :=
  if !ch.flag R.OBS_TRACE_CTRL F.OBS_TRACE_CTRL_enable then ch else ch.traceAt r ch.ns

/-- Write a MARKER (R435, R439). -/
def Chan.marker (ch : Chan) (v : Nat) : Chan := ch.trace { type := 6, value := v }

/-! ## Watchpoints and accesses -/

/-- Watchpoint `w` matches an access (R436). -/
def Chan.watchHit (ch : Chan) (w tier a n : Nat) (write : Bool) : Bool :=
  let k := R.OBS_WATCH_CTRL w
  ch.fld k F.OBS_WATCH_CTRL_tier == tier &&
  (if write then ch.flag k F.OBS_WATCH_CTRL_on_write else ch.flag k F.OBS_WATCH_CTRL_on_read) &&
  decide (0 < n ∧ a ≤ (ch.rd (R.OBS_WATCH_HI w)).toNat ∧ (ch.rd (R.OBS_WATCH_LO w)).toNat < a + n ∧
    (ch.rd (R.OBS_WATCH_LO w)).toNat ≤ (ch.rd (R.OBS_WATCH_HI w)).toNat)

/-- A hit that writes a WATCH record joins those of its watchpoint in this core cycle (R436). -/
def Chan.watchJoin (ch : Chan) (w tier a kind : Nat) : Chan :=
  let ws := ch.obs.watched
  let ws := if ws.any (·.w == w) then ws.map fun x => if x.w = w then { x with count := x.count + 1, kinds := x.kinds ||| kind } else x
    else ws ++ [{ w := w, time := ch.ns, addr := a, count := 1, tier := tier, kinds := kind }]
  { ch with obs := { ch.obs with watched := ws } }

/-- The core cycle is over: each watchpoint hit in it writes its one record (R436). -/
def Chan.watchFlush (ch : Chan) : Chan :=
  ch.obs.watched.foldl (fun (ch : Chan) x =>
    ch.traceAt { type := 3, count := x.count, value := x.addr, tier := x.tier, access := x.kinds + 4 * x.w } x.time)
    { ch with obs := { ch.obs with watched := [] } }

/-- What one watchpoint does on an access (R436). -/
def Chan.watchOne (tier a n : Nat) (write : Bool) (ch : Chan) (w : Nat) : Chan :=
  if ch.watchHit w tier a n write then
    let k := R.OBS_WATCH_CTRL w
    let ch := ch.inc R.OBS_CNT_WATCH_HITS
    let ch := if ch.flag k F.OBS_WATCH_CTRL_do_trace && ch.flag R.OBS_TRACE_CTRL F.OBS_TRACE_CTRL_enable then
        ch.watchJoin w tier a (if write then 2 else 1)
      else ch
    let ch := if ch.flag k F.OBS_WATCH_CTRL_do_event then ch.raise EV_OBS_WATCH else ch
    if ch.flag k F.OBS_WATCH_CTRL_do_freeze then ch.freeze .watch else ch
  else ch

/-- The eight watchpoints see an access. -/
def Chan.watch (ch : Chan) (tier a n : Nat) (write : Bool) : Chan :=
  (List.range 8).foldl (Chan.watchOne tier a n write) ch

/-- An access of a unit of the channel: read. -/
def Chan.load (ch : Chan) (tier owner a n : Nat) : List Byte × Chan :=
  (ch.bytes tier owner a n, ch.watch tier a n false)

/-- An access of a unit of the channel: write. -/
def Chan.store (ch : Chan) (tier owner a : Nat) (bs : List Byte) : Chan :=
  (ch.setBytes tier owner a bs).watch tier a bs.length true

/-- Correction and error counters and event of a tier (Tables 12.12 and 12.13). T3's corrections are counted nowhere. -/
def corrCounter : Nat → Option Nat
  | 0 => some R.MEM_CNT_SPAD_CORR
  | 1 => some R.MEM_CNT_T1_CORR
  | 2 => some R.MEM_CNT_T2_CORR
  | _ => none

def uncorrCounter : Nat → Nat × Ev
  | 0 => (R.MEM_CNT_SPAD_UNCORR, EV_MEM_SPAD_UNCORR)
  | 1 => (R.MEM_CNT_T1_UNCORR, EV_MEM_T1_UNCORR)
  | 2 => (R.MEM_CNT_T2_UNCORR, EV_MEM_T2_UNCORR)
  | _ => (R.MEM_CNT_T3_UNCORR, EV_MEM_T3_UNCORR)

/-- Record an uncorrectable read or a failed write (R328, R484). -/
def Chan.uncorrectable (ch : Chan) (tier a : Nat) : Chan :=
  let ch := (ch.setFld R.MEM_ERR_LOG F.MEM_ERR_LOG_address a).setFld R.MEM_ERR_LOG F.MEM_ERR_LOG_tier tier
  let recent := ch.mem.t2Bad.filter fun t => decide (ch.now < t + 1000 * msG)
  let ch : Chan := if tier = 2 then { ch with mem := { ch.mem with t2Bad := (ch.now :: recent).take 65 } } else ch
  ch.count (uncorrCounter tier).1 (uncorrCounter tier).2

/-- Refuse an access (R320, R330, R339). -/
def Chan.refuseAccess (ch : Chan) : Chan := ch.count R.MEM_CNT_REFUSED EV_MEM_ACCESS_REFUSED

/-- T2 or T3 can serve now: T2 ONLINE, or DRAINING for the evacuation alone; T3 with its link up. -/
def Chan.tierServes (ch : Chan) (tier : Nat) : Bool :=
  match tier with
  | 2 => ch.t2State == 0
  | 3 => ch.t3Up
  | _ => true

/-- A Tier Mover transfer is allowed (R320, R330, R339). -/
def Chan.moverAllows (ch : Chan) (tier owner a n : Nat) : Bool :=
  ch.flag R.MEM_CTRL F.MEM_CTRL_enable && decide (a + n ≤ ch.tierSize tier) && ch.inRegion tier owner a n

end Sys2Proof.Machine
end

