-- ==== Sys2Proof/Machine/Device.lean ====
section
/-!
DEFINITION. Machine/Device.lean: how a command acts on one channel, and what a channel tells the hub die: events of blocks
18 to 20 (R375) and the fail-stop line (R2, R431).
-/

namespace Sys2Proof.Machine

open Sys2Proof

/-- Freeze every channel of a mask that is powered and out of reset (R431). -/
def State.freezeMask (s : State) (mask : Nat) : State :=
  { s with chans := s.chans.map fun ch =>
      if mask.testBit ch.idx ∧ ch.isOn = true then ch.freeze .sup else ch }

/-- Unfreeze every channel of a mask. -/
def State.unfreezeMask (s : State) (mask : Nat) : State :=
  { s with chans := s.chans.map fun ch => if mask.testBit ch.idx then ch.unfreeze else ch }

/-- The hub die takes one message of a channel: the fail-stop of a channel in the mask freezes the mask when follow_fail
is set (R431). -/
def State.hubMsg (s : State) (c : Fin 8) : HubMsg → State
  | .event e => { s with hub := s.hub.raise e }
  | .failStop =>
    let m := s.hub.fld R.SUP_FREEZE F.SUP_FREEZE_channels
    if s.hub.flag R.SUP_FREEZE F.SUP_FREEZE_follow_fail ∧ m.testBit c then s.freezeMask m else s

/-- Take every message a channel left for the hub die. -/
def State.flush (s : State) (c : Fin 8) : State :=
  let msgs := (s.chan c).toHub
  msgs.foldl (fun s m => s.hubMsg c m) (s.setChan c { s.chan c with toHub := [] })

/-- A command that acts on one channel. -/
def State.onChan (s : State) (c : Fin 8) (f : Chan → Chan) : State := (s.setChan c (f (s.chan c))).flush c

/-- A command that acts on one channel only while it is powered and out of reset; on any other it has no effect. -/
def State.onLive (s : State) (c : Fin 8) (f : Chan → Chan) : State :=
  s.onChan c fun ch => if ch.isOn then f ch else ch

end Sys2Proof.Machine
end

