-- ==== Sys2Proof/Machine/Hash.lean ====
section
/-!
DEFINITION. Machine/Hash.lean: the codes and hashes the spec names by their standards: CRC-32C (R78, R109, R235), the
Ethernet FCS, CRC-8, the Hamming (72,64) code of R151, SHA-256 and SHA-384 (FIPS 180-4) and HMAC-SHA-384.
-/

namespace Sys2Proof.Machine

open Sys2Proof

/-! ## CRC -/

/-- One bit of a reflected CRC of 32 bits. -/
def crcBit (poly : BitVec 32) (c : BitVec 32) : BitVec 32 := if c.getLsbD 0 then (c >>> 1) ^^^ poly else c >>> 1

/-- One byte of a reflected CRC. -/
def crcByte (poly c : BitVec 32) (b : Byte) : BitVec 32 :=
  let c := c ^^^ b.setWidth 32
  crcBit poly (crcBit poly (crcBit poly (crcBit poly (crcBit poly (crcBit poly (crcBit poly (crcBit poly c)))))))

/-- Reflected CRC register after the bytes, from `init`. -/
def crcRun (poly init : BitVec 32) (bs : List Byte) : BitVec 32 := bs.foldl (crcByte poly) init

/-- CRC-32C: polynomial 0x1EDC6F41 reflected, initial and final ones. -/
def crc32c (bs : List Byte) : BitVec 32 := ~~~crcRun 0x82F63B78 0xFFFFFFFF bs

/-- The Ethernet frame check sequence (IEEE 802.3). -/
def crc32 (bs : List Byte) : BitVec 32 := ~~~crcRun 0xEDB88320 0xFFFFFFFF bs

/-- CRC-8, polynomial 0x07, initial value zero, most significant bit first. -/
def crc8 (bs : List Byte) : Byte :=
  bs.foldl (fun c b =>
    (List.range 8).foldl (fun (c : Byte) _ => if c.getLsbD 7 then (c <<< 1) ^^^ 0x07 else c <<< 1) (c ^^^ b)) 0

/-! ## The extended Hamming (72,64) code (R151) -/

/-- Positions 3 to 71 that are not powers of two, ascending: the place of each data bit. -/
def dataPos : List Nat := ((List.range 72).filter fun p => 3 ≤ p ∧ p ≠ 2 ^ Nat.log2 p)

/-- Check bit k < 7: even parity over the data bits whose position has bit k set. -/
def eccBit (d : BitVec 64) (k : Nat) : Bool :=
  (dataPos.zipIdx).foldl (fun a p => if p.1.testBit k then a != d.getLsbD p.2 else a) false

/-- The eight check bits of a word. -/
def eccOf (d : BitVec 64) : BitVec 8 :=
  let lo := (List.range 7).foldl (fun a k => if eccBit d k then a + 2 ^ k else a) 0
  let par := (popcount d.toNat 64 + popcount lo 7) % 2
  BitVec.ofNat 8 (lo + 128 * par)

/-- What decoding a stored word gives. -/
inductive EccResult where
  | clean (d : BitVec 64)
  | fixed (d : BitVec 64)
  | bad
  deriving DecidableEq, Repr

/-- Decode a stored word: a single-bit error is corrected, any other is uncorrectable. -/
def eccDecode (d : BitVec 64) (e : BitVec 8) : EccResult :=
  let syn := (List.range 7).foldl (fun a k => if eccBit d k != e.getLsbD k then a + 2 ^ k else a) 0
  let par := (popcount d.toNat 64 + popcount e.toNat 8) % 2
  if syn = 0 ∧ par = 0 then .clean d
  else if par = 0 then .bad
  else
    match dataPos.findIdx? (· == syn) with
    | some i => .fixed (d ^^^ (1#64 <<< i))
    | none => if syn = 0 ∨ syn = 2 ^ Nat.log2 syn then .fixed d else .bad

/-! ## SHA-2 -/

/-- `n` words of `w` bits that stand behind one another in a number, the first highest. -/
def wordsOf (w n x : Nat) : List (BitVec w) := (List.range n).map fun i => BitVec.ofNat w (x >>> (w * (n - 1 - i)))

-- first 64 bits of the fractions of the cube roots of the first 80 primes, sixteen in a number
def shaCube0 : Nat :=
  0x428a2f98d728ae227137449123ef65cdb5c0fbcfec4d3b2fe9b5dba58189dbbc3956c25bf348b53859f111f1b605d019923f82a4af194f9bab1c5ed5da6d8118d807aa98a303024212835b0145706fbe243185be4ee4b28c550c7dc3d5ffb4e272be5d74f27b896f80deb1fe3b1696b19bdc06a725c71235c19bf174cf692694
def shaCube1 : Nat :=
  0xe49b69c19ef14ad2efbe4786384f25e30fc19dc68b8cd5b5240ca1cc77ac9c652de92c6f592b02754a7484aa6ea6e4835cb0a9dcbd41fbd476f988da831153b5983e5152ee66dfaba831c66d2db43210b00327c898fb213fbf597fc7beef0ee4c6e00bf33da88fc2d5a79147930aa72506ca6351e003826f142929670a0e6e70
def shaCube2 : Nat :=
  0x27b70a8546d22ffc2e1b21385c26c9264d2c6dfc5ac42aed53380d139d95b3df650a73548baf63de766a0abb3c77b2a881c2c92e47edaee692722c851482353ba2bfe8a14cf10364a81a664bbc423001c24b8b70d0f89791c76c51a30654be30d192e819d6ef5218d69906245565a910f40e35855771202a106aa07032bbd1b8
def shaCube3 : Nat :=
  0x19a4c116b8d2d0c81e376c085141ab532748774cdf8eeb9934b0bcb5e19b48a8391c0cb3c5c95a634ed8aa4ae3418acb5b9cca4f7763e373682e6ff3d6b2b8a3748f82ee5defb2fc78a5636f43172f6084c87814a1f0ab728cc702081a6439ec90befffa23631e28a4506cebde82bde9bef9a3f7b2c67915c67178f2e372532b
def shaCube4 : Nat :=
  0xca273eceea26619cd186b8c721c0c207eada7dd6cde0eb1ef57d4f7fee6ed17806f067aa72176fba0a637dc5a2c898a6113f9804bef90dae1b710b35131c471b28db77f523047d8432caab7b40c724933c9ebe0a15c9bebc431d67c49c100d4c4cc5d4becb3e42b6597f299cfc657e2a5fcb6fab3ad6faec6c44198c4a475817

/-- Round constants of SHA-384 (FIPS 180-4). -/
def sha384K : List (BitVec 64) := [shaCube0, shaCube1, shaCube2, shaCube3, shaCube4].flatMap (wordsOf 64 16)

/-- Round constants of SHA-256: the upper halves of the first 64. -/
def sha256K : List (BitVec 32) := (sha384K.take 64).map fun k => k.extractLsb' 32 32

/-- Initial hashes: fractions of the square roots of the first eight primes, and of the next eight. -/
def sha256H : List (BitVec 32) := wordsOf 32 8
  0x6a09e667bb67ae853c6ef372a54ff53a510e527f9b05688c1f83d9ab5be0cd19
def sha384H : List (BitVec 64) := wordsOf 64 8
  0xcbbb9d5dc1059ed8629a292a367cd5079159015a3070dd17152fecd8f70e593967332667ffc00b318eb44a8768581511db0c2e0d64f98fa747b5481dbefa4fa4

/-- Split bytes into big-endian words of `k` bytes. -/
def wordsBE (k : Nat) : Nat → List Byte → List Nat
  | 0, _ => []
  | n + 1, bs => beNat (bs.take k) :: wordsBE k n (bs.drop k)

/-- Split a list into blocks of `k`. -/
def blocks {α : Type} (k : Nat) : Nat → List α → List (List α)
  | 0, _ => []
  | n + 1, xs => xs.take k :: blocks k n (xs.drop k)

/-- Message padding: 0x80, zeros and the bit length in `l` bytes, to blocks of `b` bytes. -/
def shaPad (b l : Nat) (bs : List Byte) : List Byte :=
  let n := bs.length
  bs ++ [0x80] ++ List.replicate ((b - (n + 1 + l) % b) % b) 0 ++ beBytes l (8 * n)

/-- Rotations of one member of the family: the two sums over a working word, then the two of the schedule, whose third number is a shift. -/
structure ShaForm where
  sum0 : Nat × Nat × Nat
  sum1 : Nat × Nat × Nat
  mix0 : Nat × Nat × Nat
  mix1 : Nat × Nat × Nat

def form256 : ShaForm := { sum0 := (2, 13, 22), sum1 := (6, 11, 25), mix0 := (7, 18, 3), mix1 := (17, 19, 10) }
def form384 : ShaForm := { sum0 := (28, 34, 39), sum1 := (14, 18, 41), mix0 := (1, 8, 7), mix1 := (19, 61, 6) }

/-- Two rotations of a word against a third word. -/
def spin {w : Nat} (r : Nat × Nat × Nat) (x third : BitVec w) : BitVec w := third ^^^ (x.rotateRight r.1 ^^^ x.rotateRight r.2.1)

/-- Append `n` schedule words to those of a block, which stand latest first. -/
def shaExtend {w : Nat} (f : ShaForm) : Nat → List (BitVec w) → List (BitVec w)
  | 0, ws => ws
  | n + 1, ws =>
    let back (i : Nat) : BitVec w := ws.getD (i - 1) 0
    let x := back 15
    let y := back 2
    shaExtend f n ((back 16 + back 7 + spin f.mix0 x (x >>> f.mix0.2.2) + spin f.mix1 y (y >>> f.mix1.2.2)) :: ws)

/-- One round on the eight working words, with the sum of its constant and its schedule word. -/
def shaRound {w : Nat} (f : ShaForm) (v : List (BitVec w)) (kw : BitVec w) : List (BitVec w) :=
  match v with
  | [p, q, r, s, x, y, z, u] =>
    let pick := (x &&& y) ||| (~~~x &&& z)
    let most := (p &&& (q ||| r)) ||| (q &&& r)
    let step := u + pick + kw + spin f.sum1 x (x.rotateRight f.sum1.2.2)
    [step + most + spin f.sum0 p (p.rotateRight f.sum0.2.2), p, q, r, s + step, x, y, z]
  | _ => v

/-- Compression of one block of words. -/
def shaBlock {w : Nat} (f : ShaForm) (ks h : List (BitVec w)) (ws : List Nat) : List (BitVec w) :=
  let sched := (shaExtend f (ks.length - 16) ((ws.map (BitVec.ofNat w)).reverse)).reverse
  List.zipWith (· + ·) h ((List.zipWith (· + ·) ks sched).foldl (shaRound f) h)

/-- The hash of bytes over words of `k` bytes, with blocks of sixteen of them. -/
def shaRun {w : Nat} (f : ShaForm) (k : Nat) (ks h : List (BitVec w)) (bs : List Byte) : List Byte :=
  let p := shaPad (16 * k) (2 * k) bs
  ((blocks (16 * k) (p.length / (16 * k)) p).foldl (fun h b => shaBlock f ks h (wordsBE k 16 b)) h).flatMap fun x => beBytes k x.toNat

/-- SHA-256 (FIPS 180-4). -/
def sha256 (bs : List Byte) : List Byte := shaRun form256 4 sha256K sha256H bs

/-- SHA-384 (FIPS 180-4): 48 bytes. -/
def sha384 (bs : List Byte) : List Byte := (shaRun form384 8 sha384K sha384H bs).take 48

/-- HMAC-SHA-384 (R393). -/
def hmac384 (key msg : List Byte) : List Byte :=
  let k := if 128 < key.length then sha384 key else key
  let k := k ++ List.replicate (128 - k.length) 0
  sha384 (k.map (· ^^^ 0x5C) ++ sha384 (k.map (· ^^^ 0x36) ++ msg))

end Sys2Proof.Machine
end

