-- ==== Sys2Proof/Machine/Numerics.lean ====
section
/-!
DEFINITION. Machine/Numerics.lean: exact arithmetic of the number formats: FP32 with round-to-nearest-even (R103, R119,
R165), the formats of R111 to R115, quantisation (R119, R120), dequantisation (R121), LOG2P1 (Table 04.1), the Hadamard
rotation (R123), activation tables (R222), long sums (R202, R203) and binary16 scores.
-/

namespace Sys2Proof.Machine

open Sys2Proof

/-! ## Floating point -/

/-- The NaN that the device produces. -/
def fpNaN : Nat := 0x7FC00000

def fpNeg (b : Nat) : Bool := b.testBit 31
def fpExp (b : Nat) : Nat := bits b 30 23
def fpFrac (b : Nat) : Nat := b % 8388608
def fpIsNaN (b : Nat) : Bool := fpExp b == 255 && fpFrac b != 0
def fpIsInf (b : Nat) : Bool := fpExp b == 255 && fpFrac b == 0
def fpIsZero (b : Nat) : Bool := b % 2147483648 == 0
def fpInf (neg : Bool) : Nat := if neg then 0xFF800000 else 0x7F800000

/-- A positive normal FP32 value (R117, R160). -/
def fpPosNormal (b : Nat) : Bool := !fpNeg b && decide (1 ≤ fpExp b ∧ fpExp b ≤ 254)

/-- Finite magnitude of a value as m × 2^e. -/
def fpMag (b : Nat) : Nat × Int :=
  if fpExp b = 0 then (fpFrac b, -149) else (fpFrac b + 8388608, (fpExp b : Int) - 150)

/-- m × 2^e rounded to `p` significant bits, ties to even, with no bit below 2^mn: (q, t) for q × 2^t, q ≤ 2^p. -/
def fRound (p : Nat) (mn : Int) (m : Nat) (e : Int) : Nat × Int :=
  if m = 0 then (0, mn)
  else
    let t := max (e + (Nat.log2 m + 1 : Nat) - (p : Nat)) mn
    if t ≤ e then (m * 2 ^ (e - t).toNat, t)
    else
      let sh := (t - e).toNat
      let q := m / 2 ^ sh
      let r := m % 2 ^ sh
      let h := 2 ^ (sh - 1)
      let q := if h < r ∨ (r = h ∧ q % 2 = 1) then q + 1 else q
      if q = 2 ^ p then (2 ^ (p - 1), t + 1) else (q, t)

/-- FP32 word nearest to ± m × 2^e, ties to even. -/
def fpRound (neg : Bool) (m : Nat) (e : Int) : Nat :=
  let (q, t) := fRound 24 (-149) m e
  let s := if neg then 2147483648 else 0
  if q < 8388608 then s + q
  else if 104 < t then fpInf neg
  else s + (t + 150).toNat * 8388608 + (q - 8388608)

/-- FP32 word of an integer, rounded to nearest-even. -/
def fpOfInt (i : Int) : Nat := fpRound (decide (i < 0)) i.natAbs 0

/-- Signed integer of a finite value over 2^e. -/
def fpInt (b : Nat) (e : Int) : Int :=
  let (m, x) := fpMag b
  let v : Int := ((m * 2 ^ (x - e).toNat : Nat) : Int)
  if fpNeg b then -v else v

/-- Exact sum of two finite values over a common exponent. -/
def fpSum (a b : Nat) : Int × Int :=
  let e := min (fpMag a).2 (fpMag b).2
  (fpInt a e + fpInt b e, e)

/-- FP32 addition, rounded to nearest-even, subnormals kept. -/
def fpAdd (a b : Nat) : Nat :=
  if fpIsNaN a || fpIsNaN b then fpNaN
  else if fpIsInf a then (if fpIsInf b && fpNeg a != fpNeg b then fpNaN else a)
  else if fpIsInf b then b
  else
    let (s, e) := fpSum a b
    if s = 0 then (if fpNeg a && fpNeg b then 0x80000000 else 0) else fpRound (decide (s < 0)) s.natAbs e

/-- The value with its sign changed. -/
def fpNegate (b : Nat) : Nat := if fpNeg b then b - 2147483648 else b + 2147483648

def fpAbs (b : Nat) : Nat := b % 2147483648

def fpSub (a b : Nat) : Nat := if fpIsNaN b then fpNaN else fpAdd a (fpNegate b)

/-- FP32 multiplication, rounded to nearest-even. -/
def fpMul (a b : Nat) : Nat :=
  let s := fpNeg a != fpNeg b
  if fpIsNaN a || fpIsNaN b then fpNaN
  else if fpIsInf a || fpIsInf b then (if fpIsZero a || fpIsZero b then fpNaN else fpInf s)
  else fpRound s ((fpMag a).1 * (fpMag b).1) ((fpMag a).2 + (fpMag b).2)

/-- FP32 division, rounded to nearest-even: 64 quotient bits and a sticky bit. -/
def fpDiv (a b : Nat) : Nat :=
  let s := fpNeg a != fpNeg b
  if fpIsNaN a || fpIsNaN b then fpNaN
  else if fpIsInf a then (if fpIsInf b then fpNaN else fpInf s)
  else if fpIsInf b then (if s then 0x80000000 else 0)
  else if fpIsZero b then (if fpIsZero a then fpNaN else fpInf s)
  else
    let n := (fpMag a).1 * 2 ^ 64
    let d := (fpMag b).1
    fpRound s (2 * (n / d) + (if n % d = 0 then 0 else 1)) ((fpMag a).2 - (fpMag b).2 - 65)

/-- Order of two values that are not NaN; +0 and −0 are equal. -/
def fpKey (b : Nat) : Int := if fpNeg b then -((b % 2147483648 : Nat) : Int) else ((b % 2147483648 : Nat) : Int)

def fpLt (a b : Nat) : Bool := decide (fpKey a < fpKey b)
def fpEq (a b : Nat) : Bool := fpKey a == fpKey b

/-- Order of 2 × a finite value against an integer. -/
def fpCmp2 (b : Nat) (s : Int) : Ordering :=
  let (m, e) := fpMag b
  let v : Int := if fpNeg b then -(m : Int) else m
  if 0 ≤ e + 1 then compare (v * ((2 ^ (e + 1).toNat : Nat) : Int)) s
  else compare v (s * ((2 ^ (-(e + 1)).toNat : Nat) : Int))

/-- Floor of a finite value that is not negative. -/
def fpFloor (b : Nat) : Nat :=
  let (m, e) := fpMag b
  if 0 ≤ e then m * 2 ^ e.toNat else m / 2 ^ (-e).toNat

/-- BF16 widened exactly to FP32. -/
def fpOfBf16 (h : Nat) : Nat := h * 65536

/-- Value nearest to a sum of FP32 words, added in ascending index. -/
def fpSumList (xs : List Nat) : Nat := xs.foldl fpAdd 0

/-- Pairwise tree sum by index over 2^k leaves, absent ones taken as `z`. -/
def treeSum {α : Type} (add : α → α → α) (z : α) : Nat → List α → α
  | 0, xs => xs.getD 0 z
  | k + 1, xs => add (treeSum add z k (xs.take (2 ^ k))) (treeSum add z k (xs.drop (2 ^ k)))

/-! ## LOG2P1 (Table 04.1) -/

/-- Binary digits of log2 z, z in [1, 2) over 2^300: fuel, z, digits so far. -/
def log2Digits : Nat → Nat → Nat → Nat × Nat
  | 0, z, acc => (z, acc)
  | k + 1, z, acc =>
    let y := z * z / 2 ^ 300
    if 2 ^ 301 ≤ y then log2Digits k (y / 2) (2 * acc + 1) else log2Digits k y (2 * acc)

/-- log2 (1 + x) for x ≥ 0 correctly rounded: 260 binary digits and a sticky bit decide the rounding (log 31). -/
def log2p1 (x : Nat) : Nat :=
  if fpIsNaN x then fpNaN
  else if fpIsInf x then x
  else if fpIsZero x then 0
  else
    let (m, e) := fpMag x
    -- 1 + x over 2^-149
    let y := 2 ^ 149 + m * 2 ^ (e + 149).toNat
    let c := Nat.log2 y - 149
    let z := if Nat.log2 y ≤ 300 then y * 2 ^ (300 - Nat.log2 y) else y / 2 ^ (Nat.log2 y - 300)
    let (r, d) := log2Digits 260 z 0
    fpRound false (2 * (c * 2 ^ 260 + d) + (if r = 2 ^ 300 then 0 else 1)) (-261)

/-! ## Formats (R111 to R115) -/

/-- Formats of Table 04.5. -/
inductive Fmt where
  | n4 | n8 | int8 | e4m3 | e5m2 | bf16 | fp32
  deriving DecidableEq, Repr

/-- The format of a code, none for a reserved one. -/
def Fmt.ofCode : Nat → Option Fmt
  | 0 => some .n4 | 1 => some .n8 | 2 => some .int8 | 3 => some .e4m3 | 4 => some .e5m2 | 5 => some .bf16
  | 6 => some .fp32 | _ => none

def Fmt.code : Fmt → Nat
  | .n4 => 0 | .n8 => 1 | .int8 => 2 | .e4m3 => 3 | .e5m2 => 4 | .bf16 => 5 | .fp32 => 6

/-- Bits of one code. -/
def Fmt.width : Fmt → Nat
  | .n4 => 4 | .bf16 => 16 | .fp32 => 32 | _ => 8

/-- Integer formats accumulate in INT32. -/
def Fmt.isInt : Fmt → Bool
  | .n4 | .n8 | .int8 => true
  | _ => false

/-- Levels of Table 04.6. -/
def n4Levels : List Int := [-127, -88, -64, -46, -31, -18, -8, 0, 7, 16, 27, 39, 54, 72, 96, 127]

/-- Magnitude of index m (Table 04.7). -/
def n8Mag (m : Nat) : Nat := if m < 16 then m else (16 + m % 16) * 2 ^ (m / 16 - 1)

/-- Integer level of a code of an integer format; the N8 NaN code multiplies as zero (R122). -/
def intLevel (f : Fmt) (c : Nat) : Int :=
  match f with
  | .n4 => n4Levels.getD (c % 16) 0
  | .n8 => if c.testBit 7 then -(n8Mag (c % 128) : Int) else n8Mag (c % 128)
  | _ => sgn 8 c

/-- FP32 word of an FP8 code with `p` significant bits, exponent of the lowest bit `mn`, given its 7 low bits. -/
def smallFloat (p : Nat) (mn : Int) (neg : Bool) (c : Nat) : Nat :=
  let ex := c / 2 ^ (p - 1)
  let fr := c % 2 ^ (p - 1)
  if ex = 0 then fpRound neg fr mn else fpRound neg (fr + 2 ^ (p - 1)) (mn + (ex : Int) - 1)

/-- The code is a NaN of its format. -/
def isNaNCode (f : Fmt) (c : Nat) : Bool :=
  match f with
  | .n8 => c == 0x80
  | .e4m3 => c % 128 == 0x7F
  | .e5m2 => decide (0x7C < c % 128)
  | .bf16 => decide (0x7F80 < c % 32768)
  | .fp32 => fpIsNaN c
  | _ => false

/-- The exact FP32 word of a code (R121); a NaN code gives 0x7FC0_0000. -/
def levelFp (f : Fmt) (c : Nat) : Nat :=
  if isNaNCode f c then fpNaN
  else
    match f with
    | .n4 | .n8 | .int8 => fpOfInt (intLevel f c)
    | .e4m3 => smallFloat 4 (-9) (c.testBit 7) (c % 128)
    | .e5m2 => if c % 128 = 0x7C then fpInf (c.testBit 7) else smallFloat 3 (-16) (c.testBit 7) (c % 128)
    | .bf16 => fpOfBf16 c
    | .fp32 => c

def zeroCode : Fmt → Nat
  | .n4 => 7
  | _ => 0

/-- The NaN code, or the zero code of a format without one (R119). -/
def nanCode : Fmt → Nat
  | .n4 => 7 | .n8 => 0x80 | .int8 => 0 | .e4m3 => 0x7F | .e5m2 => 0x7F | .bf16 => 0x7FC0 | .fp32 => fpNaN

/-- FP32 word of the greatest level. -/
def maxLevel : Fmt → Nat
  | .n4 => fpOfInt 127 | .n8 => fpOfInt 1984 | .int8 => fpOfInt 127 | .e4m3 => fpOfInt 448 | .e5m2 => fpOfInt 57344
  | .bf16 => 0x7F7F0000 | .fp32 => 0x7F7FFFFF

def minLevel : Fmt → Nat
  | .int8 => fpOfInt (-128)
  | f => fpNegate (maxLevel f)

def topCode : Fmt → Nat
  | .n4 => 15 | .n8 => 0x7F | .int8 => 0x7F | .e4m3 => 0x7E | .e5m2 => 0x7B | .bf16 => 0x7F7F | .fp32 => 0x7F7FFFFF

def bottomCode : Fmt → Nat
  | .n4 => 0 | .n8 => 0xFF | .int8 => 0x80 | .e4m3 => 0xFE | .e5m2 => 0xFB | .bf16 => 0xFF7F | .fp32 => 0xFF7FFFFF

/-- Index of the level nearest to `t` among ascending integer levels, ties to the even index. -/
def nearest (levels : List Int) (t : Nat) : Nat :=
  ((levels.zip (levels.drop 1)).zipIdx.filter fun p =>
    match fpCmp2 t (p.1.1 + p.1.2) with
    | .gt => true
    | .eq => (p.2 + 1) % 2 == 0
    | .lt => false).length

/-- Code of a floating format with `p` significant bits and lowest bit 2^mn nearest to a value within its levels. -/
def floatCode (p : Nat) (mn : Int) (width t : Nat) : Nat :=
  let (m, e) := fpMag t
  let (q, x) := fRound p mn m e
  let mag := if q < 2 ^ (p - 1) then q else (x - mn + 1).toNat * 2 ^ (p - 1) + (q - 2 ^ (p - 1))
  mag + if fpNeg t then 2 ^ (width - 1) else 0

/-- Code of the nearest level, for a value between the extremes (R119). -/
def nearestCode (f : Fmt) (t : Nat) : Nat :=
  match f with
  | .n4 => nearest n4Levels t
  | .n8 =>
    let m := nearest ((List.range 128).map fun i => (n8Mag i : Int)) (fpAbs t)
    if fpNeg t ∧ m ≠ 0 then m + 128 else m
  | .int8 => unsgn 8 ((nearest ((List.range 256).map fun i => (i : Int) - 128) t : Nat) - 128)
  | .e4m3 => floatCode 4 (-9) 8 t
  | .e5m2 => floatCode 3 (-16) 8 t
  | .bf16 => floatCode 8 (-133) 16 t
  | .fp32 => t

/-! ## Quantisation (R117 to R121) -/

/-- A scale entry (Table 04.9). -/
structure ScaleEntry where
  s        : Nat
  r        : Nat
  constant : Nat
  isConst  : Bool
  deriving DecidableEq, Repr

def ScaleEntry.ofBytes (bs : List Byte) : ScaleEntry :=
  { s := le bs 0 4, r := le bs 4 4, constant := le bs 8 4, isConst := (byteAt bs 12).toNat.testBit 0 }

/-- Result of one quantisation: code, saturation counted, NaN counted. -/
structure QRes where
  code : Nat
  sat  : Bool := false
  nan  : Bool := false
  deriving DecidableEq, Repr

/-- The procedure of R119. -/
def quantise (f : Fmt) (e : ScaleEntry) (x : Nat) : QRes :=
  if e.isConst then
    if fpIsNaN x then { code := zeroCode f, nan := true }
    else { code := zeroCode f, sat := !fpEq x e.constant }
  else if fpIsNaN x then { code := nanCode f, nan := true }
  else
    let t := fpMul x e.r
    if fpLt (maxLevel f) t then { code := topCode f, sat := true }
    else if fpLt t (minLevel f) then { code := bottomCode f, sat := true }
    else { code := nearestCode f t }

/-- R121. -/
def dequantise (f : Fmt) (e : ScaleEntry) (c : Nat) : Nat :=
  if e.isConst then e.constant else if isNaNCode f c then fpNaN else fpMul (levelFp f c) e.s

/-! ## Rotation (R123, R124) -/

/-- One butterfly stage. -/
def butterfly (st : Nat) (y : List Nat) : List Nat :=
  (List.range y.length).map fun i =>
    if i.testBit st then fpSub (y.getD (i - 2 ^ st) 0) (y.getD i 0) else fpAdd (y.getD i 0) (y.getD (i + 2 ^ st) 0)

/-- The stages 0 to k − 1 in order. -/
def hadamard (k : Nat) (y : List Nat) : List Nat := (List.range k).foldl (fun y st => butterfly st y) y

/-- ±2^64 in FP32. -/
def fp2p64 : Nat := 0x5F800000

/-- Clamp of R124: the value and whether it was clamped. -/
def rotClamp (x : Nat) : Nat × Bool :=
  if fpLt fp2p64 x then (fp2p64, true) else if fpLt x (fpNegate fp2p64) then (fpNegate fp2p64, true) else (x, false)

/-! ## Activation tables (R222) -/

/-- The activation of `x` by a table given as its bytes: header, then segments. -/
def activate (t : List Byte) (x : Nat) : Nat :=
  if fpIsNaN x then fpNaN
  else
    let n := le t 12 2
    let xmin := le t 0 4
    let i :=
      if fpLt x xmin then 0
      else if !fpLt x (le t 4 4) then n - 1
      else min (fpFloor (fpMul (fpSub x xmin) (le t 8 4))) (n - 1)
    let a := le t (64 + 8 * i) 4
    let b := le t (68 + 8 * i) 4
    if fpIsInf x && fpIsZero a then b else fpAdd (fpMul a x) b

/-- The rules of R222 on a table's header. -/
def actTableOk (t : List Byte) (tenant slot : Nat) : Bool :=
  let xmin := le t 0 4
  let xmax := le t 4 4
  let n := le t 12 2
  decide (fpExp xmin ≠ 255 ∧ fpExp xmax ≠ 255) && fpLt xmin xmax && fpPosNormal (le t 8 4) &&
  decide (1 ≤ n ∧ n ≤ 256) && le t 14 1 == tenant && le t 15 1 == slot && (slice t 16 48).all (· == 0)

/-! ## Long sums (R202, R203) -/

/-- R203. -/
def srBits (seed seqNo idx : Nat) : Nat :=
  let z : BitVec 64 :=
    BitVec.ofNat 64 seed + ((BitVec.ofNat 64 (seqNo * 2 ^ 32) ||| BitVec.ofNat 64 idx) + 1) * 0x9E3779B97F4A7C15
  let z := (z ^^^ (z >>> 30)) * 0xBF58476D1CE4E5B9
  let z := (z ^^^ (z >>> 27)) * 0x94D049BB133111EB
  let z := z ^^^ (z >>> 31)
  (z >>> 56).toNat

/-- R202: stochastic when `r` is given, else nearest-even. -/
def longAdd (a y : Nat) (r : Option Nat) : Nat :=
  if fpIsNaN a || fpIsNaN y then fpNaN
  else if fpIsInf a then (if fpIsInf y && fpNeg a != fpNeg y then fpNaN else a)
  else if fpIsInf y then y
  else
    let (s, e) := fpSum a y
    if s = 0 then (if fpNeg a && fpNeg y then 0x80000000 else 0)
    else
      let neg := decide (s < 0)
      -- 32 significant bits; below 2^-126 the extra bits lie below 2^-149
      let (q, t) := fRound 32 (-157) s.natAbs e
      let g := q % 256
      let b := q / 256
      let up := match r with
        | none => decide (128 < g) || (g == 128 && b % 2 == 1)
        | some r => decide (256 ≤ g + r)
      fpRound neg (b + if up then 1 else 0) (t + 8)

/-! ## binary16 -/

/-- binary16 nearest to an FP32 value, ties to even; overflow gives infinity, NaN gives 0x7E00. -/
def fpToHalf (x : Nat) : Nat :=
  let s := if fpNeg x then 0x8000 else 0
  if fpIsNaN x then 0x7E00
  else if fpIsInf x then s + 0x7C00
  else
    let (m, e) := fpMag x
    let (q, t) := fRound 11 (-24) m e
    if q < 1024 then s + q
    else if 5 < t then s + 0x7C00
    else s + (t + 25).toNat * 1024 + (q - 1024)

/-- A binary16 value widened exactly to FP32. -/
def fpOfHalf (h : Nat) : Nat :=
  let neg := h.testBit 15
  let ex := bits h 14 10
  let fr := h % 1024
  if ex = 31 then (if fr = 0 then fpInf neg else fpNaN)
  else if ex = 0 then fpRound neg fr (-24)
  else fpRound neg (fr + 1024) ((ex : Int) - 25)

end Sys2Proof.Machine
end

