-- ==== Sys2Proof/Machine/Slots.lean ====
section
/-!
DEFINITION. Machine/Slots.lean: access to model slots and their sides (R216 to R219), sequencer contexts, package headers
(Table 08.10), command records (Tables 08.3 to 08.5), descriptors in flight, and the undo log (R254).
-/

namespace Sys2Proof.Machine

open Sys2Proof

/-! ## Slots -/

/-- Context of a slot side. -/
def ctxOf (slot side : Nat) : Nat := 2 * slot + side
def ctxSlot (ctx : Nat) : Nat := ctx / 2
def ctxSide (ctx : Nat) : Nat := ctx % 2

def Chan.slotEnabled (ch : Chan) (n : Nat) : Bool := decide (n < 64) && ch.flag (R.CHN_SLOT_CFG n) F.CHN_SLOT_CFG_enable
/-- Tenant identifier of a slot, and its local tenant. -/
def Chan.slotTid (ch : Chan) (n : Nat) : Nat := ch.fld (R.CHN_SLOT_CFG n) F.CHN_SLOT_CFG_tenant
def Chan.slotTenant (ch : Chan) (n : Nat) : Nat := ch.slotTid n % 16
/-- Kind of a slot (Table 08.1): 0 FOREST, 1 NEURAL, 2 TRAINING. -/
def Chan.slotKind (ch : Chan) (n : Nat) : Nat := ch.fld (R.CHN_SLOT_CFG n) F.CHN_SLOT_CFG_kind
def Chan.servingSide (ch : Chan) (n : Nat) : Nat := ch.fld (R.CHN_SLOT_STATE n) F.CHN_SLOT_STATE_serving_side
def Chan.servingState (ch : Chan) (n : Nat) : Nat := ch.fld (R.CHN_SLOT_STATE n) F.CHN_SLOT_STATE_serving_state
def Chan.standbyState (ch : Chan) (n : Nat) : Nat := ch.fld (R.CHN_SLOT_STATE n) F.CHN_SLOT_STATE_standby_state
def Chan.setServing (ch : Chan) (n v : Nat) : Chan := ch.setFld (R.CHN_SLOT_STATE n) F.CHN_SLOT_STATE_serving_state v
def Chan.setStandby (ch : Chan) (n v : Nat) : Chan := ch.setFld (R.CHN_SLOT_STATE n) F.CHN_SLOT_STATE_standby_state v

/-- The side of a context is its slot's serving side. -/
def Chan.isServing (ch : Chan) (ctx : Nat) : Bool := ch.servingSide (ctxSlot ctx) == ctxSide ctx

/-- The side is neither NONE nor EMPTY (R131, R100). -/
def Chan.sideBusy (ch : Chan) (ctx : Nat) : Bool :=
  if ch.isServing ctx then ch.servingState (ctxSlot ctx) != 0 else ch.standbyState (ctxSlot ctx) != 0

def noSide (_ : Nat) : Side := {}
/-- What staging placed for a side. -/
def Chan.side (ch : Chan) (ctx : Nat) : Side := sget noSide ch.models.sides ctx
def Chan.setSide (ch : Chan) (ctx : Nat) (s : Side) : Chan :=
  { ch with models := { ch.models with sides := sset noSide ch.models.sides ctx s } }

def noRun (_ : Nat) : SideRun := {}
/-- Sequencer context of a side. -/
def Chan.seqr (ch : Chan) (ctx : Nat) : SideRun := sget noRun ch.models.runs ctx
/-- Batches waiting or running, over both sides of the slot (Table 08.20). -/
def Chan.runsOf (ch : Chan) (n : Nat) : Nat :=
  let one (c : Nat) : Nat := (if (ch.seqr c).batch.isSome then 1 else 0) + if (ch.seqr c).run.isSome then 1 else 0
  min 2 (one (2 * n) + one (2 * n + 1))
def Chan.setSeqr (ch : Chan) (ctx : Nat) (r : SideRun) : Chan :=
  let ch := { ch with models := { ch.models with runs := sset noRun ch.models.runs ctx r } }
  ch.setFld (R.CHN_SLOT_STATE (ctxSlot ctx)) F.CHN_SLOT_STATE_runs (ch.runsOf (ctxSlot ctx))

/-! ## Package header (Table 08.10) -/

def Side.tiles (s : Side) : Nat := le s.header 16 4
def Side.runBase (s : Side) : Nat := le s.header 24 4
def Side.runBytes (s : Side) : Nat := le s.header 28 4
def Side.batchCap (s : Side) : Nat := le s.header 36 2
def Side.prog (s : Side) : Nat := le s.header 38 1
/-- A side that holds a package, or whose staging has begun, has a header. -/
def Side.named (s : Side) : Bool := !s.header.isEmpty
def Side.outputs (s : Side) : Nat := le s.header 39 1
def Side.commands (s : Side) : Nat := le s.header 44 4
def Side.modelDigest (s : Side) : List Byte := slice s.header 104 48

/-! ## Windows (R218, R219) -/

/-- Window base and size in bytes. -/
def Chan.winBase (ch : Chan) (ctx : Nat) : Nat :=
  65536 * ch.fld (R.CHN_SLOT_WIN (ctxSlot ctx) (ctxSide ctx)) F.CHN_SLOT_WIN_base
def Chan.winSize (ch : Chan) (ctx : Nat) : Nat :=
  65536 * ch.fld (R.CHN_SLOT_WIN (ctxSlot ctx) (ctxSide ctx)) F.CHN_SLOT_WIN_size

/-- Absolute scratchpad address of window offset `a` for run `k` of a side: offsets in the run area move to the run's copy
(R219). -/
def Chan.winAddr (ch : Chan) (ctx k a : Nat) : Nat :=
  let s := ch.side ctx
  ch.winBase ctx + (if s.runBase ≤ a ∧ a < s.runBase + s.runBytes then a + k % 2 * s.runBytes else a)

/-- The range [a, a + n) of window offsets stays within the window (R218). -/
def Chan.winOk (ch : Chan) (ctx k a n : Nat) : Bool :=
  decide (ch.winAddr ctx k a + n ≤ ch.winBase ctx + ch.winSize ctx)

/-! ## Command records -/

/-- A command record of 64 bytes. -/
abbrev Cmd := List Byte

/-- Command `i` of a side, from the program cache. -/
def Side.cmd (s : Side) (i : Nat) : Cmd := slice s.program (64 * i) 64

def Cmd.opcode (c : Cmd) : Nat := le c 0 1
def Cmd.last (c : Cmd) : Bool := (le c 1 1).testBit 0
def Cmd.output (c : Cmd) : Bool := (le c 1 1).testBit 1
def Cmd.keep (c : Cmd) : Bool := (le c 1 1).testBit 2
def Cmd.layer (c : Cmd) : Nat := le c 4 2
def Cmd.operator (c : Cmd) : Nat := le c 6 2
def Cmd.unit (c : Cmd) : Nat := le c 8 1 % 32
def Cmd.engine (c : Cmd) : Nat := c.unit % 4
def Cmd.part (c : Cmd) : Nat := c.unit / 4
def Cmd.format (c : Cmd) : Nat := le c 9 1
/-- Operand words (Table 08.5). -/
def Cmd.w16 (c : Cmd) : Nat := le c 16 4
def Cmd.w20 (c : Cmd) : Nat := le c 20 4
def Cmd.w24 (c : Cmd) : Nat := le c 24 4
def Cmd.rowsField (c : Cmd) : Nat := le c 28 2
def Cmd.h30 (c : Cmd) : Nat := le c 30 2
def Cmd.h32 (c : Cmd) : Nat := le c 32 2
def Cmd.tile (c : Cmd) : Nat := le c 34 1 % 16
def Cmd.accOp (c : Cmd) : Nat := le c 34 1 / 16 % 4
def Cmd.mask (c : Cmd) : Nat := le c 35 1 % 16
def Cmd.w36 (c : Cmd) : Nat := le c 36 4
def Cmd.w40 (c : Cmd) : Nat := le c 40 4
/-- Rows of the command in a run of batch size m: 0 means m (R221). -/
def Cmd.rows (c : Cmd) (m : Nat) : Nat := if c.rowsField = 0 then m else c.rowsField

/-- Feature program that feeds the side's batches and candidate rows: the one its GATHER binds (R223). -/
def Side.gatherProg (s : Side) : Nat := if (s.cmd 0).opcode = 8 then (s.cmd 0).w16 % 64 else s.prog

/-- Feature programs that a side names: its header's (R100) and its GATHER's (R223). -/
def Side.progs (s : Side) : List Nat := if s.named then [s.prog, s.gatherProg].dedup else []

/-! ## Descriptors in flight -/

def Chan.job (ch : Chan) (id : Nat) : Option Job := ch.jobs.find? (·.id == id)
def Chan.setJob (ch : Chan) (j : Job) : Chan := { ch with jobs := ch.jobs.map fun k => if k.id = j.id then j else k }
def Chan.dropJob (ch : Chan) (id : Nat) : Chan := { ch with jobs := ch.jobs.filter fun k => k.id ≠ id }

/-- Change a descriptor in flight, if it still is. -/
def Chan.modJob (ch : Chan) (id : Nat) (f : Job → Job) : Chan :=
  { ch with jobs := ch.jobs.map fun k => if k.id = id then f k else k }

/-! ## Training contexts -/

def Chan.trnCtx (ch : Chan) (g : Nat) : TrnCtx := sget (fun _ => ({} : TrnCtx)) ch.trn g
def Chan.setTrn (ch : Chan) (g : Nat) (t : TrnCtx) : Chan :=
  { ch with trn := sset (fun _ => ({} : TrnCtx)) ch.trn g t }

/-- The enabled training context whose TRAINING slot a side belongs to (R272). -/
def Chan.trainG (ch : Chan) (ctx : Nat) : Option Nat :=
  if ch.slotKind (ctxSlot ctx) != 2 then none
  else (List.range 4).find? fun g => ch.flag (R.TRN_CFG g) F.TRN_CFG_enable &&
    ch.fld (R.TRN_CFG g) F.TRN_CFG_train_slot == ctxSlot ctx

/-! ## Parity bytes (Tables 03.3 and 04.4) -/

/-- Even parity of the bits of some bytes. -/
def parityOf (bs : List Byte) : Bool := bs.foldl (fun a b => a != (popcount b.toNat 8 % 2 == 1)) false

/-- Parity byte over `g` groups of 16 bytes, the last one without its last byte. -/
def parityByte (g : Nat) (bs : List Byte) : Byte :=
  byte ((List.range g).foldl (fun a i =>
    if parityOf (slice bs (16 * i) (if i + 1 = g then 15 else 16)) then a + 2 ^ i else a) 0)

/-! ## Tree pseudo-LRU (R79) -/

/-- Bits after way `w` is used: they point away from it. -/
def plruTouch (b w : Nat) : Nat :=
  let b := putBit b 0 (decide (w < 2))
  putBit b (1 + w / 2) (w % 2 == 0)

/-- The way the bits point to. -/
def plruVictim (b : Nat) : Nat :=
  if b.testBit 0 then (if b.testBit 2 then 3 else 2) else (if b.testBit 1 then 1 else 0)

/-! ## Undo log (R254) -/

/-- Entries the log holds. -/
def undoSize : Nat := 262144

/-- Bytes of an undo log entry (R254). A peer delta has the same form: a place in the entity tables stands for the flow handle, and the
origin's device beside the word index (DESIGN CHOICE, log 32). -/
def Delta.bytes : Delta → List Byte
  | .flow handle word tenant epoch old seqNo _ =>
    leBytes 4 handle ++ [byte word, byte tenant] ++ leBytes 2 epoch ++ leBytes 4 old ++ leBytes 4 seqNo
  | .peer _ device _ lookup bucket way word tid epoch old seqNo =>
    leBytes 4 (way + 8 * bucket + 2 ^ 29 * lookup + 2 ^ 31) ++ [byte (word + 16 * device), byte tid] ++ leBytes 2 epoch ++
      leBytes 4 old ++ leBytes 4 seqNo

/-- Update the occupancy that CHK_UNDO shows. -/
def Chan.undoCount (ch : Chan) : Chan := ch.setFld R.CHK_UNDO F.CHK_UNDO_occupancy ch.chk.undo.length

/-- Append an entry: entry n of the log's life lies at base + 16 × (n mod 262,144) (log 32). -/
def Chan.undoPush (ch : Chan) (d : Delta) : Chan :=
  let a := ch.fld R.CHK_UNDO F.CHK_UNDO_base + 16 * (ch.chk.undoPos % undoSize)
  let ch := ch.setBytes 0 chanKey a d.bytes
  let ch := { ch with chk := { ch.chk with undo := ch.chk.undo ++ [d], undoPos := ch.chk.undoPos + 1 } }
  ch.undoCount

/-- Free the entries of a descriptor whose verdict has passed its checks. -/
def Chan.undoFree (ch : Chan) (job : Nat) : Chan :=
  let keep (d : Delta) : Bool := match d with
    | .flow _ _ _ _ _ _ j => j != job
    | .peer .. => true
  { ch with chk := { ch.chk with undo := ch.chk.undo.filter keep } }.undoCount

/-- Current epoch (R252). -/
def Chan.epoch (ch : Chan) : Nat := (ch.rd R.CHK_EPOCH).toNat

end Sys2Proof.Machine
end

