-- ==== Sys2Proof/Machine/Features.lean ====
section
/-!
DEFINITION. Machine/Features.lean: the Feature Engine (chapter 04): feature programs (R100 to R106), flow feature state
(R107, R108), per-entity lookups (R95, R96, R109, R110), scale tables (R116 to R118), quantisation with its counters and
drift windows (R119, R126), rotation (R123, R124).
-/

namespace Sys2Proof.Machine

open Sys2Proof

/-! ## Feature slots -/

/-- What a feature program reads of a descriptor: the metadata bus, whether the flow lookup was a HIT and the record as
earlier descriptors left it, the results of the four entity lookups (value bytes of an exact or prefix result), the lookup
reason, the extended timestamp, and the operations on the state words. -/
structure FeatIn where
  bus    : List Byte
  hit    : Bool
  rec_   : List Byte
  ents   : List (Option (List Byte))
  kinds  : List Nat
  reason : Nat
  ts     : Nat
  ops    : Word
  deriving DecidableEq, Repr

/-- A feature of a descriptor: its FP32 value and missing bit, and what it adds to FTR_CNT_RESERVED. -/
structure Feat where
  value    : Nat := 0
  missing  : Bool := false
  reserved : Nat := 0
  deriving DecidableEq, Repr

/-- Bytes of a type (Table 04.2); BIT and reserved types have none. -/
def typeBytes : Nat → Nat
  | 0 => 1 | 1 => 2 | 2 => 4 | 3 => 8 | 4 => 4 | 5 => 4 | _ => 0

/-- A field's value from its bytes read as a number. -/
def typeValue (t n : Nat) : Nat :=
  match t with
  | 4 => fpOfInt (sgn 32 n)
  | 5 => n
  | _ => fpOfInt n

/-- The value of a field, none where it is out of range (R102). -/
def fieldOf (src : List Byte) (bus : Bool) (t off : Nat) : Option Nat :=
  if t = 6 then
    if off < 8 * src.length then some (if (byteAt src (off / 8)).toNat.testBit (off % 8) then fpOfInt 1 else 0) else none
  else
    let w := typeBytes t
    if w = 0 ∨ src.length < off + w then none
    else if bus then
      if off + w ≤ 16 ∨ 58 ≤ off then some (typeValue t (be src off w))
      else if 16 ≤ off ∧ off + w ≤ 58 then some (typeValue t (le src off w))
      else none
    else some (typeValue t (le src off w))

/-- Operation on state word `i`: kind and k (R107). -/
def stateKind (ops : Word) (i : Nat) : Nat := getF ops (F.FTR_STATE_op i) % 16
def stateShift (ops : Word) (i : Nat) : Nat := getF ops (F.FTR_STATE_op i) / 16

/-- The derived operations of Table 04.3. -/
def derived (x : FeatIn) (sel off : Nat) : Feat :=
  let ts : Int := x.ts
  let q (a b : Nat) : Feat := if b = 0 then { missing := true } else { value := fpDiv (fpOfInt a) (fpOfInt b) }
  let pf := le x.rec_ 64 4
  let pr := le x.rec_ 68 4
  if sel = 4 then { value := fpOfInt x.reason }
  else if 5 < sel then { missing := true, reserved := 1 }
  else if !x.hit then { missing := true }
  else
    match sel with
    | 0 => { value := fpOfInt (ts - le x.rec_ 56 8) }
    | 1 => { value := fpOfInt (ts - le x.rec_ 48 8) }
    | 2 => q (le x.rec_ 72 8 + le x.rec_ 80 8) (pf + pr)
    | 3 => q pr (pf + pr)
    | _ =>
      let w := le x.rec_ (88 + 4 * (off % 8)) 4
      let k := stateKind x.ops (off % 8)
      { value := if k = 1 ∨ k = 2 then w else fpOfInt w }

/-- One feature slot on a descriptor (R101 to R105): `s` its eight bytes. An ENTITY slot whose lookup is OFF is missing, and its offset is
held to the bounds of an exact result (DESIGN CHOICE, log 147). -/
def featureOf (x : FeatIn) (s : List Byte) : Feat :=
  let source := le s 0 1 % 16
  let t := le s 0 1 / 16
  let sel := le s 1 1
  let off := le s 2 2
  let tr := le s 4 1
  if source = 0 then {}
  else
    let get (src : List Byte) (bus : Bool) (off : Nat) : Feat :=
      match fieldOf src bus t off with
      | some v => { value := v }
      | none => { missing := true, reserved := 1 }
    let unit (o : Nat) : Nat := if t = 6 then o else 4 * o
    let base : Feat :=
      match source with
      | 1 => get x.bus true off
      | 2 =>
        let f := get (if x.hit then x.rec_ else List.replicate 128 0) false off
        if x.hit then f else { f with missing := true }
      | 3 =>
        let n := if x.kinds.getD (sel % 4) 0 = 2 then 8 else 24
        match x.ents.getD (sel % 4) none with
        | some v => get v false (unit off)
        | none => { get (List.replicate n 0) false (unit off) with missing := true }
      | 4 => derived x sel off
      | _ => { missing := true, reserved := 1 }
    let base := if 2 ≤ tr then { base with reserved := base.reserved + 1 } else base
    let base :=
      if tr = 1 ∧ ¬ base.missing then
        if !fpIsNaN base.value && fpLt base.value 0 then { base with missing := true }
        else { base with value := log2p1 base.value }
      else base
    if (le s 5 1).testBit 0 ∧ fpIsZero base.value ∧ ¬ base.missing then { base with missing := true } else base

/-- Slot `i` of a program's bytes. -/
def progSlot (p : List Byte) (i : Nat) : List Byte := slice p (8 * i) 8

/-- Fill value of a slot widened to FP32 (R101, R106). -/
def slotFill (s : List Byte) : Nat := fpOfBf16 (le s 6 2)

/-- The features of a descriptor under a program of `n` slots. While FTR_CTRL.enable is 0 every feature is missing
(R131). -/
def runProgram (enabled : Bool) (x : FeatIn) (p : List Byte) (n : Nat) : List Feat :=
  (List.range n).map fun i => if enabled then featureOf x (progSlot p i) else { missing := true }

/-- Count what a run of a program counts (R131): missing features, reserved settings, and a reserved rotation. -/
def Chan.countFeatures (ch : Chan) (prog : Nat) (fs : List Feat) : Chan :=
  let miss := (fs.filter (·.missing)).length
  let res := (fs.map (·.reserved)).foldl (· + ·) 0 + if ch.fld (R.FTR_PROG prog) F.FTR_PROG_rotation = 3 then 1 else 0
  (ch.inc R.FTR_CNT_MISSING miss).inc R.FTR_CNT_RESERVED res

/-! ## Flow feature state (R107, R108) -/

/-- The new value of a state word, none for a kind that leaves it. -/
def stateNew (kind k w iat len flags : Nat) : Option Nat :=
  let a := fpRound false 1 (-((if k = 0 then 1 else k : Nat) : Int))
  match kind with
  | 1 => some (fpAdd w (fpMul (fpSub iat w) a))
  | 2 => some (fpAdd w (fpMul (fpSub (fpOfInt len) w) a))
  | 3 => some (min w len)
  | 4 => some (max w len)
  | 5 => some (w ||| flags)
  | _ => none

/-- The writes of one descriptor on a record: word index, old and new value. -/
def stateWrites (ops : Word) (rec : List Byte) (iat len flags : Nat) : List (Nat × Nat × Nat) :=
  (List.range 8).filterMap fun i =>
    let w := le rec (88 + 4 * i) 4
    (stateNew (stateKind ops i) (stateShift ops i) w iat len flags).map fun v => (i, w, v)

/-- Put `bs` at position `i` of a byte list of the same length. -/
def putBytes (xs : List Byte) (i : Nat) (bs : List Byte) : List Byte :=
  xs.take i ++ bs ++ xs.drop (i + bs.length)

/-- A record with its parity byte recomputed (Table 03.3). -/
def recParity (rec : List Byte) : List Byte := putBytes rec 127 [parityByte 8 rec]

/-- The record's parity is good. -/
def recGood (rec : List Byte) : Bool := byteAt rec 127 == parityByte 8 rec

/-! ## Per-entity lookups -/

/-- Kind of lookup k of local tenant i: 0 OFF, 1 EXACT, 2 PREFIX4, 3 PREFIX6; log2_buckets 0 acts as OFF (Table 04.15). -/
def Chan.lookupKind (ch : Chan) (i k : Nat) : Nat :=
  let r := R.FTR_LOOKUP (4 * i + k)
  if ch.fld r F.FTR_LOOKUP_log2_buckets = 0 then 0 else ch.fld r F.FTR_LOOKUP_kind

/-- Padded key of an exact lookup (R109). -/
def Chan.entityKey (ch : Chan) (i k : Nat) (bus : List Byte) : List Byte :=
  let r := R.FTR_LOOKUP (4 * i + k)
  let n := ch.fld r F.FTR_LOOKUP_key_len + 1
  slice ((slice bus (ch.fld r F.FTR_LOOKUP_key_offset) n)) 0 32

/-- Candidate buckets of a padded key in an exact table, by the seeds of its lookup (R78, R109, R451). -/
def Chan.entityBuckets (ch : Chan) (i k : Nat) (key : List Byte) : Nat × Nat :=
  let b := ch.fld (R.FTR_LOOKUP (4 * i + k)) F.FTR_LOOKUP_log2_buckets
  let seeds := ch.rd (R.LDS_ENT_SEED (4 * i + k))
  let s1 := seeds.extractLsb' 0 32
  let s2 := seeds.extractLsb' 32 32
  let h1 := (~~~crcRun 0x82F63B78 s1 key).toNat % 2 ^ b
  let h2 := (~~~crcRun 0x82F63B78 s2 key).toNat % 2 ^ b
  (h1, if h2 = h1 then Nat.xor h1 1 else h2)

/-- T1 byte address of a bucket of an exact table. -/
def Chan.entityAddr (ch : Chan) (i k b : Nat) : Nat :=
  65536 * ch.fld (R.FTR_LOOKUP (4 * i + k)) F.FTR_LOOKUP_table_base + 512 * b

/-- Parity byte of an entity entry (Table 04.4). -/
def entGood (e : List Byte) : Bool := byteAt e 63 == parityByte 4 e
def entParity (e : List Byte) : List Byte := putBytes e 63 [parityByte 4 e]

/-- Entry `w` of a bucket line. -/
def entAt (line : List Byte) (w : Nat) : List Byte := slice line (64 * w) 64

/-- An entry names the key (R109), parity apart. -/
def entNames (e key : List Byte) (len tid : Nat) : Bool :=
  (byteAt e 34).toNat.testBit 0 && slice e 0 32 == key && le e 32 1 == len && le e 33 1 == tid

/-- Index of a cached line of the tenant's part: set and way (R109). -/
def entKey (i set way : Nat) : Nat := 256 * i + 4 * set + way

/-- Way of a cached bucket line. -/
def Chan.entWay (ch : Chan) (i k b : Nat) : Option Nat :=
  (List.range 4).find? fun w =>
    match sget (fun _ => none) ch.ftr.cache (entKey i (b % 64) w) with
    | some l => l.lookup == k && l.bucket == b
    | none => false

/-- A cached bucket line's bytes. -/
def Chan.entLine (ch : Chan) (i k b : Nat) : Option (List Byte) :=
  match ch.entWay i k b with
  | some w => (sget (fun _ => none) ch.ftr.cache (entKey i (b % 64) w)).map (·.data)
  | none => none

/-- Touch the replacement bits of a cached line. -/
def Chan.entTouch (ch : Chan) (i b w : Nat) : Chan :=
  let s := 64 * i + b % 64
  { ch with ftr := { ch.ftr with plru := sset (fun _ => 0) ch.ftr.plru s (plruTouch (sget (fun _ => 0) ch.ftr.plru s) w) } }

/-- A lock holds bucket b of lookup k of tenant i (R92, R110): table k + 1. -/
def Chan.locked (ch : Chan) (i table b : Nat) : Bool :=
  ch.flow.locks.any fun l => l.tenant == i && l.table == table && l.bucket == b

/-- Start the fill of a bucket that is neither cached, being filled, nor locked (R109). -/
def Chan.entFill (ch : Chan) (i k b : Nat) : Chan :=
  if (ch.entWay i k b).isSome || ch.ftr.fills.contains (i, k, b) || ch.locked i (k + 1) b then ch
  else ({ ch with ftr := { ch.ftr with fills := ch.ftr.fills ++ [(i, k, b)] } }).inc R.FTR_CNT_ENTITY_FILL

/-- The entry of a line that answers a key, and how many valid entries of the line fail parity (R110). -/
def entFind (line key : List Byte) (len tid : Nat) : Option Nat × Nat :=
  let bad := (List.range 8).filter fun w => (byteAt (entAt line w) 34).toNat.testBit 0 && !entGood (entAt line w)
  ((List.range 8).find? fun w => entNames (entAt line w) key len tid && entGood (entAt line w), bad.length)

/-- One exact lookup (R109, R110): the entry found (bucket, way, bytes), and the channel after it. It never waits; one that finds a
candidate bucket locked returns no record (R92). -/
def Chan.exactLookup (ch : Chan) (i k : Nat) (bus : List Byte) : Option (Nat × Nat × List Byte) × Chan :=
  let key := ch.entityKey i k bus
  let len := ch.fld (R.FTR_LOOKUP (4 * i + k)) F.FTR_LOOKUP_key_len + 1
  let (b1, b2) := ch.entityBuckets i k key
  let try_ (ch : Chan) (b : Nat) : Option (Nat × Nat × List Byte) × Chan :=
    match ch.entLine i k b, ch.entWay i k b with
    | some line, some way =>
      let (f, bad) := entFind line key len (ch.tid i)
      let ch := (List.range bad).foldl (fun (ch : Chan) _ => ch.raise EV_FTR_ENTITY_PARITY (some i)) ch
      match f with
      | some w => (some (b, w, entAt line w), ch.entTouch i b way)
      | none => (none, ch)
    | _, _ => (none, ch)
  if ch.locked i (k + 1) b1 || ch.locked i (k + 1) b2 then (none, (ch.entFill i k b1).entFill i k b2)
  else match try_ ch b1 with
  | (some r, ch) => (some r, ch)
  | (none, ch) =>
    match try_ ch b2 with
    | (some r, ch) => (some r, ch)
    | (none, ch) =>
      if (ch.entWay i k b1).isSome && (ch.entWay i k b2).isSome then (none, ch)
      else (none, (ch.entFill i k b1).entFill i k b2)

/-- A masked prefix of `len` bits of an address of 16 bytes. -/
def maskPrefix (addr : List Byte) (len : Nat) : List Byte :=
  let n := beNat addr
  beBytes 16 (n / 2 ^ (128 - len) * 2 ^ (128 - len))

/-- One prefix lookup (R95, R96): the 8-byte result, and the channel with bad filter lengths counted. -/
def Chan.prefixLookup (ch : Chan) (i k : Nat) (bus : List Byte) : List Byte × Chan :=
  let r := R.FTR_LOOKUP (4 * i + k)
  let v6 := ch.fld r F.FTR_LOOKUP_kind == 3
  let maxLen := if v6 then 128 else 32
  let p := ch.fld r F.FTR_LOOKUP_log2_buckets
  let base := 65536 * ch.fld r F.FTR_LOOKUP_table_base
  let off := ch.fld r F.FTR_LOOKUP_key_offset
  let addr := slice (slice bus off (if v6 then 16 else 4)) 0 16
  let word := ch.spad (base + 8 * be addr 0 2) 8
  let lens := word.map (·.toNat)
  let bad := (lens.filter fun l => decide (maxLen < l ∧ l ≠ 255)).length
  let ch := ch.inc R.FLW_CNT_LPM_BAD_LENGTH bad
  let probe (l : Nat) : Option (Nat × List Byte) :=
    let pre := maskPrefix addr l
    let h := (crc32c (pre ++ [byte l, byte (ch.tid i)])).toNat % 2 ^ p
    let bucket := ch.spad (base + 524288 + (l * 2 ^ p + h) * 256) 256
    ((List.range 8).find? fun w =>
      let e := slice bucket (32 * w) 32
      (byteAt e 18).toNat.testBit 0 && slice e 0 16 == pre && le e 16 1 == l && le e 17 1 == ch.tid i).map
      fun w => (l, slice bucket (32 * w + 24) 8)
  let hits := (lens.filter fun l => decide (l ≤ maxLen)).filterMap probe
  let best := hits.foldl (fun (b : Option (Nat × List Byte)) h =>
    match b with
    | some x => if x.1 < h.1 then some h else b
    | none => some h) none
  (match best with
   | some x => x.2
   | none => leBytes 8 (Config.prefixDefault ch.idx (4 * i + k)), ch)

/-- The four lookups of local tenant `i` on a metadata bus, in parallel: value bytes by lookup, the entries found by exact
lookups (lookup, bucket, way), and the channel after them. -/
def Chan.entityLookups (ch : Chan) (i : Nat) (bus : List Byte) :
    List (Option (List Byte)) × List (Nat × Nat × Nat) × Chan :=
  (List.range 4).foldl (fun (acc : List (Option (List Byte)) × List (Nat × Nat × Nat) × Chan) k =>
    let (vs, found, ch) := acc
    match ch.lookupKind i k with
    | 0 => (vs ++ [none], found, ch)
    | 1 =>
      match ch.exactLookup i k bus with
      | (some (b, w, e), ch) => (vs ++ [some (slice e 36 24)], found ++ [(k, b, w)], ch)
      | (none, ch) => (vs ++ [none], found, ch)
    | _ =>
      let (r, ch) := ch.prefixLookup i k bus
      (vs ++ [some r], found, ch)) ([], [], ch)

/-! ## Scale tables and quantised tensors -/

/-- Scale entry `j` of the table at scratchpad address `a` (R117). -/
def Chan.scaleEntry (ch : Chan) (a j : Nat) : ScaleEntry := ScaleEntry.ofBytes (ch.tab (a + 64 + 16 * j) 16)

/-- Add to a 32-bit little-endian count in the scratchpad that stops at 2^32 − 1 (R118). -/
def Chan.spadCount (ch : Chan) (a n : Nat) : Chan :=
  if n = 0 then ch else ch.setBytes 0 chanKey a (leBytes 4 (min (leNat (ch.spad a 4) + n) (2 ^ 32 - 1)))

/-- Advance the drift window of a table by saturations and NaNs (R126): a new window opens first when the old one has
ended; each event is raised when its count first exceeds its limit within the window. A length of 0 disables the two checks and nothing
else (Table 04.8). -/
def Chan.driftWindow (ch : Chan) (a sats nans : Nat) (tenant : Nat) : Chan :=
  let us := leNat (ch.tab (a + 20) 2)
  let start := leNat (ch.spad (a + 40) 8)
  let ch := if start + 1000 * us ≤ ch.ns then
      ch.setBytes 0 chanKey (a + 32) (leBytes 8 0 ++ leBytes 8 ch.ns)
    else ch
  let s0 := leNat (ch.spad (a + 32) 4)
  let n0 := leNat (ch.spad (a + 36) 4)
  let ch := (ch.spadCount (a + 32) sats).spadCount (a + 36) nans
  let sl := leNat (ch.tab (a + 12) 4)
  let nl := leNat (ch.tab (a + 16) 4)
  let ch := if us ≠ 0 ∧ s0 ≤ sl ∧ sl < s0 + sats then ch.raise EV_FTR_SAT_DRIFT (some tenant) else ch
  if us ≠ 0 ∧ n0 ≤ nl ∧ nl < n0 + nans then ch.raise EV_FTR_NAN_DRIFT (some tenant) else ch

/-- Quantise FP32 values of columns `j0` on under the table at `a`, whose column counters lie at `counters`: the codes,
the saturations, and the channel after the counts. -/
def Chan.quantRow (ch : Chan) (f : Fmt) (a counters tenant j0 : Nat) (xs : List Nat) : List Nat × Nat × Chan :=
  let rs := xs.zipIdx.map fun p => quantise f (ch.scaleEntry a (j0 + p.2)) p.1
  let sats := (rs.filter (·.sat)).length
  let nans := (rs.filter (·.nan)).length
  let ch := rs.zipIdx.foldl (fun (ch : Chan) p =>
    (ch.spadCount (counters + 8 * (j0 + p.2)) (if p.1.sat then 1 else 0)).spadCount (counters + 8 * (j0 + p.2) + 4)
      (if p.1.nan then 1 else 0)) ch
  (rs.map (·.code), sats, ch.driftWindow a sats nans tenant)

/-- Pack codes of a format into bytes: an N4 byte holds the lower index in its low half (R230). -/
def packCodes (f : Fmt) (cs : List Nat) : List Byte :=
  match f with
  | .n4 => (List.range ((cs.length + 1) / 2)).map fun i => byte (cs.getD (2 * i) 0 + 16 * cs.getD (2 * i + 1) 0)
  | .bf16 => cs.flatMap fun c => leBytes 2 c
  | .fp32 => cs.flatMap fun c => leBytes 4 c
  | _ => cs.map byte

/-- Code `i` of packed bytes. -/
def codeAt (f : Fmt) (bs : List Byte) (i : Nat) : Nat :=
  match f with
  | .n4 => let b := (byteAt bs (i / 2)).toNat; if i % 2 = 0 then b % 16 else b / 16
  | .bf16 => le bs (2 * i) 2
  | .fp32 => le bs (4 * i) 4
  | _ => le bs i 1

/-- Bytes of `n` codes. -/
def codeBytes (f : Fmt) (n : Nat) : Nat := (n * f.width + 7) / 8

/-! ## The neural route of one descriptor (R106, R123, R124) -/

/-- Input vector of a program: missing features take their fill; then the blocks are rotated. Answers the values, the NaN
inputs replaced (by position) and how many inputs were clamped. A fill value goes through the rotation as an input does: one beyond
±2^64 is clamped and counted (DESIGN CHOICE, log 148). -/
def neuralVector (p : List Byte) (rotation : Nat) (fs : List Feat) : List Nat × List Nat × Nat :=
  let xs := fs.zipIdx.map fun f => if f.1.missing then slotFill (progSlot p f.2) else f.1.value
  if rotation = 1 ∨ rotation = 2 then
    let k := if rotation = 1 then 6 else 7
    let nans := (List.range xs.length).filter fun i => fpIsNaN (xs.getD i 0)
    let xs := xs.zipIdx.map fun x => if fpIsNaN x.1 then slotFill (progSlot p x.2) else x.1
    let cl := xs.map rotClamp
    let clamps := (cl.filter (·.2)).length
    let xs := cl.map (·.1)
    let nb := (xs.length + 2 ^ k - 1) / 2 ^ k
    let xs := xs ++ List.replicate (nb * 2 ^ k - xs.length) 0
    ((List.range nb).flatMap fun b => hadamard k ((xs.drop (b * 2 ^ k)).take (2 ^ k)), nans, clamps)
  else (xs, [], 0)

/-! ## Commands of this family -/

/-- FTR_PROG_WRITE (R131, R483): `v` reaches FTR_PROG_n through the physical function (`vf` none) or local tenant `vf`'s VF. -/
def Chan.ftrProgWrite (ch : Chan) (n : Nat) (vf : Option Nat) (v : Word) : Chan :=
  let r := R.FTR_PROG n
  let owned : Bool := match vf with
    | none => true
    | some i => ch.fld r F.FTR_PROG_count == 0 || ch.fld r F.FTR_PROG_owner == ch.tid i
  if !owned then ch.raise EV_CHN_VF_DENIED vf
  else
    let v := match vf with
      | some i => setF v F.FTR_PROG_owner (ch.tid i)
      | none => v
    let cnt := getF v F.FTR_PROG_count
    let used := (List.range 128).any fun ctx => ch.sideBusy ctx && (ch.side ctx).progs.contains n
    if used || decide (128 < cnt) || getF v F.FTR_PROG_slot_base % 64 != 0 then ch.raise EV_FTR_PROG_BUSY vf
    else
      let v := setF (v &&& 0x0001FFFFFFFFFFFF) F.FTR_PROG_loaded 0
      let ch := ch.wr r v
      let drop := ch.ftr.loading.filter fun p => p.1 ≠ n
      if cnt = 0 then { ch with ftr := { ch.ftr with loading := drop } }
      else { ch with ftr := { ch.ftr with loading := drop ++ [(n, ch.now)] } }

/-- FTR_PROG_LOADED (R131): the copy into program memory completes. -/
def Chan.ftrProgLoaded (ch : Chan) (n : Nat) : Chan :=
  if ch.ftr.loading.any (·.1 == n) then
    let r := R.FTR_PROG n
    let bs := ch.spad (ch.fld r F.FTR_PROG_slot_base) (8 * ch.fld r F.FTR_PROG_count)
    let ch := { ch with ftr := { ch.ftr with loading := ch.ftr.loading.filter fun p => p.1 ≠ n
                                             progs := sset (fun _ => []) ch.ftr.progs n bs } }
    ch.setFlag r F.FTR_PROG_loaded true
  else ch

/-- Put a line into the entity cache (R109): lowest invalid way, else the way the bits point to. -/
def Chan.entInstall (ch : Chan) (i k b : Nat) (data : List Byte) : Chan :=
  let s := b % 64
  let free := (List.range 4).find? fun w => (sget (fun _ => none) ch.ftr.cache (entKey i s w)).isNone
  let w := free.getD (plruVictim (sget (fun _ => 0) ch.ftr.plru (64 * i + s)))
  let ch := { ch with ftr := { ch.ftr with
    cache := sset (fun _ => none) ch.ftr.cache (entKey i s w) (some { lookup := k, bucket := b, data := data }) } }
  ch.entTouch i b w

/-- ENTITY_FILL_COMPLETE (R109): the bucket line arrives; after an uncorrectable read the entry is absent (Table 12.4), so no
line is installed, nor is one of a bucket that a lock has taken meanwhile (R92). -/
def Chan.entityFillComplete (ch : Chan) (i k b : Nat) (ok : Bool) : Chan :=
  if ch.ftr.fills.contains (i, k, b) then
    let ch := { ch with ftr := { ch.ftr with fills := ch.ftr.fills.filter (· ≠ (i, k, b)) } }
    let (data, ch) := ch.load 1 i (ch.entityAddr i k b) 512
    if ch.locked i (k + 1) b then ch
    else if ok then ch.entInstall i k b data else ch.uncorrectable 1 (ch.entityAddr i k b)
  else ch

end Sys2Proof.Machine
end

