-- ==== Sys2Proof/Machine/Flow.lean ====
section
/-!
DEFINITION. Machine/Flow.lean: flow tables: regions, hashes and the flow cache (R77 to R80), records (R75, R76), lookup
(R81), notifications and the pending filter (R86, R87), locks (R92 to R94) as the pipeline sees them, and the undo of flow
and peer deltas (R255, R259).
-/

namespace Sys2Proof.Machine

open Sys2Proof

/-! ## Regions and buckets -/

def Chan.regionBits (ch : Chan) (i : Nat) : Nat := ch.fld (R.FLW_REGION_A i) F.FLW_REGION_A_log2_buckets
def Chan.regionBase (ch : Chan) (i : Nat) : Nat := ch.fld (R.FLW_REGION_A i) F.FLW_REGION_A_base_bucket
/-- Local tenant `i` has a region (R77). -/
def Chan.hasRegion (ch : Chan) (i : Nat) : Bool := decide (i < 16) && ch.regionBits i != 0

/-- The seeded hashes of a key (R78). -/
def Chan.flowHash (ch : Chan) (key : List Byte) : Nat × Nat :=
  let h (s : Nat) : Nat := (~~~crcRun 0x82F63B78 (BitVec.ofNat 32 s) key).toNat
  (h (ch.fld R.FLW_HASH_SEED F.FLW_HASH_SEED_seed1), h (ch.fld R.FLW_HASH_SEED F.FLW_HASH_SEED_seed2))

/-- Low `b` bits of both hashes; equal candidates differ in bit 0 (R78). -/
def candidates (hs : Nat × Nat) (b : Nat) : Nat × Nat :=
  let x := hs.1 % 2 ^ b
  let y := hs.2 % 2 ^ b
  (x, if y = x then Nat.xor x 1 else y)

/-- Candidate buckets of an oriented key, numbered within the channel (R78). -/
def Chan.flowBuckets (ch : Chan) (i : Nat) (key : List Byte) : Nat × Nat :=
  let c := candidates (ch.flowHash key) (ch.regionBits i)
  (ch.regionBase i + c.1, ch.regionBase i + c.2)

/-- T1 byte address of a channel bucket (the flow area of T1 begins at 0, log 8). -/
def flowAddr (b : Nat) : Nat := 512 * b

/-! ## Records -/

/-- Record `w` of a bucket's 512 bytes. -/
def recAt (line : List Byte) (w : Nat) : List Byte := slice line (128 * w) 128
def putRecAt (line : List Byte) (w : Nat) (r : List Byte) : List Byte := putBytes line (128 * w) r
def recKey (r : List Byte) : List Byte := slice r 0 40
def recCtl (r : List Byte) : Nat := le r 40 4
def recValid (r : List Byte) : Bool := (recCtl r).testBit 0
def recHandle (r : List Byte) : Nat := le r 44 4
/-- Set or clear a control bit. -/
def recBit (r : List Byte) (i : Nat) (b : Bool) : List Byte := putBytes r 40 (leBytes 4 (putBit (recCtl r) i b))
/-- A valid record with this key, parity apart. -/
def recNames (r key : List Byte) : Bool := recValid r && recKey r == key
/-- An empty record. -/
def noRec : List Byte := List.replicate 128 0

/-- R76: what a hit of a descriptor writes: time, original length and class. -/
def recHit (r : List Byte) (time len : Nat) (cls : Bool) : List Byte :=
  let r := putBytes (recBit (recBit r 1 true) 2 false) 56 (leBytes 8 time)
  let (p, b) := if cls then (68, 80) else (64, 72)
  let r := putBytes r p (leBytes 4 (le r p 4 + 1))
  recParity (putBytes r b (leBytes 8 (le r b 8 + len)))

/-! ## The flow cache (R79) -/

/-- Cache set of a channel bucket. -/
def Chan.cacheSet (ch : Chan) (i b : Nat) : Nat :=
  let r := R.FLW_REGION_B i
  ch.fld r F.FLW_REGION_B_cache_set_base + b % 2 ^ ch.fld r F.FLW_REGION_B_log2_sets

def Chan.lineAt (ch : Chan) (k : Nat) : Option FlowLine := sget (fun _ => none) ch.flow.cache k
def Chan.setLine (ch : Chan) (k : Nat) (l : Option FlowLine) : Chan :=
  { ch with flow := { ch.flow with cache := sset (fun _ => none) ch.flow.cache k l } }

/-- Cache index of a bucket's line. -/
def Chan.flowWay (ch : Chan) (i b : Nat) : Option Nat :=
  ((List.range 4).map (4 * ch.cacheSet i b + ·)).find? fun k =>
    match ch.lineAt k with
    | some l => l.bucket == b && l.tenant == i
    | none => false

/-- The bucket's cached bytes. -/
def Chan.flowLine (ch : Chan) (i b : Nat) : Option (List Byte) :=
  match ch.flowWay i b with
  | some k => (ch.lineAt k).map (·.data)
  | none => none

/-- Point a line's set away from it. -/
def Chan.flowTouch (ch : Chan) (k : Nat) : Chan :=
  let m := sset (fun _ => 0) ch.flow.plru (k / 4) (plruTouch (sget (fun _ => 0) ch.flow.plru (k / 4)) (k % 4))
  { ch with flow := { ch.flow with plru := m } }

/-- Write a dirty line back to T1. -/
def Chan.writeBack (ch : Chan) (k : Nat) : Chan :=
  match ch.lineAt k with
  | some l =>
    if l.dirty then (ch.store 1 l.tenant (flowAddr l.bucket) l.data).setLine k (some { l with dirty := false }) else ch
  | none => ch

/-- Fill a bucket into the cache, evicting what R79 chooses. -/
def Chan.flowFill (ch : Chan) (i b : Nat) : Chan :=
  match ch.flowWay i b with
  | some _ => ch
  | none =>
    let s := ch.cacheSet i b
    let w := match (List.range 4).find? fun w => (ch.lineAt (4 * s + w)).isNone with
      | some w => w
      | none => plruVictim (sget (fun _ => 0) ch.flow.plru s)
    let k := 4 * s + w
    let ch := ch.writeBack k
    let (bs, ch) := ch.load 1 i (flowAddr b) 512
    (ch.setLine k (some { bucket := b, tenant := i, dirty := false, data := bs })).flowTouch k

/-- Bytes of a bucket: its cached line, else T1. -/
def Chan.bucketBytes (ch : Chan) (i b : Nat) : List Byte := (ch.flowLine i b).getD (ch.bytes 1 i (flowAddr b) 512)

/-- Change a bucket: its cached line, marked dirty, else T1 in place (R91). -/
def Chan.putBucket (ch : Chan) (i b : Nat) (bs : List Byte) : Chan :=
  match ch.flowWay i b with
  | some k => ch.setLine k (some { bucket := b, tenant := i, dirty := true, data := bs })
  | none => ch.store 1 i (flowAddr b) bs

/-- Put record `w` of a bucket. -/
def Chan.putRec (ch : Chan) (i b w : Nat) (r : List Byte) : Chan := ch.putBucket i b (putRecAt (ch.bucketBytes i b) w r)

/-! ## Search -/

/-- The record of a key in its candidate buckets: bucket, way and bytes, parity good (`good`) or failing. -/
def Chan.findRec (ch : Chan) (i : Nat) (key : List Byte) (good : Bool) : Option (Nat × Nat × List Byte) :=
  let (b1, b2) := ch.flowBuckets i key
  ([b1, b2].flatMap fun b => (List.range 4).map fun w => (b, w, recAt (ch.bucketBytes i b) w)).find? fun x =>
    recNames x.2.2 key && recGood x.2.2 == good

/-- A record that failed parity waits for the maintenance slot that invalidates it (R84). -/
def Chan.parityMaint (ch : Chan) (cold : Bool) (i b w : Nat) (key : List Byte) : Chan :=
  let op := MaintOp.invalidate cold b w i key
  if ch.flow.maint.any fun m => decide (m.1 = op) then ch
  else { ch with flow := { ch.flow with maint := ch.flow.maint ++ [(op, ch.now)] } }

/-! ## Cold tables (R80) -/

/-- The tenant's cold table serves. -/
def Chan.coldOn (ch : Chan) (i : Nat) : Bool :=
  ch.hasRegion i && ch.flag (R.FLW_REGION_B i) F.FLW_REGION_B_cold_enable && ch.tierServes 2

def Chan.coldBits (ch : Chan) (i : Nat) : Nat := ch.fld (R.FLW_REGION_B i) F.FLW_REGION_B_log2_cold
/-- T2 byte address of cold bucket `b`. -/
def Chan.coldAddr (ch : Chan) (i b : Nat) : Nat := 2097152 * ch.fld (R.FLW_REGION_B i) F.FLW_REGION_B_t2_base + 512 * b
def Chan.coldBytes (ch : Chan) (i b : Nat) : List Byte := ch.bytes 2 i (ch.coldAddr i b) 512
def Chan.putCold (ch : Chan) (i b w : Nat) (r : List Byte) : Chan :=
  ch.store 2 i (ch.coldAddr i b + 128 * w) r

/-- The records in a key's candidate buckets of the cold table: bucket, way and bytes. -/
def Chan.coldRecs (ch : Chan) (i : Nat) (key : List Byte) : List (Nat × Nat × List Byte) :=
  let (b1, b2) := candidates (ch.flowHash key) (ch.coldBits i)
  [b1, b2].flatMap fun b => (List.range 4).map fun w => (b, w, recAt (ch.coldBytes i b) w)

/-- The record of a key in the cold table. -/
def Chan.findCold (ch : Chan) (i : Nat) (key : List Byte) : Option (Nat × Nat × List Byte) :=
  (ch.coldRecs i key).find? fun x => recNames x.2.2 key && recGood x.2.2

/-- The record that a lookup's hit stands on: in T1, else in the cold table alone (log 55, R417). -/
def Chan.findAny (ch : Chan) (i : Nat) (key : List Byte) : Option (Bool × Nat × Nat × List Byte) :=
  match ch.findRec i key true with
  | some x => some (false, x)
  | none => if ch.coldOn i then (ch.findCold i key).map fun x => (true, x) else none

/-- Put record `w` of a bucket of the flow table, or with `cold` of the cold table. -/
def Chan.tblPut (ch : Chan) (cold : Bool) (i b w : Nat) (r : List Byte) : Chan :=
  if cold then ch.putCold i b w r else ch.putRec i b w r

/-! ## Notifications (R86, R87) -/

/-- learn_to of a tenant (Table 03.14). -/
def Chan.learnTo (ch : Chan) (i : Nat) : Nat := ch.fld (R.FLW_REGION_B i) F.FLW_REGION_B_learn_to

/-- Forget a pending key. -/
def Chan.unpend (ch : Chan) (i : Nat) (key : List Byte) : Chan :=
  { ch with flow := { ch.flow with pending := ch.flow.pending.filter fun p => !(p.1 == key && p.2.1 == i) } }

def Chan.isPending (ch : Chan) (i : Nat) (key : List Byte) : Bool := ch.flow.pending.any fun p => p.1 == key && p.2.1 == i

/-- Enter a key into the pending filter, replacing the earliest one when it is full. -/
def Chan.pend (ch : Chan) (i : Nat) (key : List Byte) : Chan :=
  let full := decide (4096 ≤ ch.flow.pending.length)
  let ch := if full then ch.inc R.FLW_CNT_FILTER_EVICT else ch
  let old := if full then ch.flow.pending.drop 1 else ch.flow.pending
  { ch with flow := { ch.flow with pending := old ++ [(key, i, ch.ns)] } }

/-- Records a notification ring holds. -/
def Chan.noteCount (ch : Chan) (i : Nat) : Nat :=
  (ch.fld (R.LDS_NOTE_IDX i) F.LDS_NOTE_IDX_prod + 2048 - ch.fld (R.LDS_NOTE_IDX i) F.LDS_NOTE_IDX_cons) % 2048

/-- Post a notification (R87): `f44` and `f56` are bytes 44–47 and 56–59. A reserved learn_to is counted each time a notification
would have been posted under it (DESIGN CHOICE, log 143). -/
def Chan.note (ch : Chan) (i : Nat) (key : List Byte) (type reason f44 f56 : Nat) : Chan :=
  let dst := ch.learnTo i
  if dst = 3 then ch.inc R.FLW_CNT_RESERVED
  else if dst = 0 then ch
  else if 1024 ≤ ch.noteCount i then (ch.count R.FLW_CNT_NOTE_DROP EV_FLW_NOTE_DROP (some i)).unpend i key
  else
    let p := ch.fld (R.LDS_NOTE_IDX i) F.LDS_NOTE_IDX_prod
    let rec_ := key ++ [byte type, byte (ch.tid i)] ++ leBytes 2 reason ++ leBytes 4 f44 ++ leBytes 8 ch.ns ++
      leBytes 4 f56 ++ leBytes 4 0
    let ch := ch.store 0 i (ch.fld (R.LDS_NOTE_BASE i) F.LDS_NOTE_BASE_base + 64 * (p % 1024)) rec_
    let ch := ch.setFld (R.LDS_NOTE_IDX i) F.LDS_NOTE_IDX_prod (p + 1)
    if dst = 1 then ch.vector 0 7 0 else if ch.fnLive (i + 1) then ch.vector (i + 1) 2 0 else ch

/-- EXPIRE of a record. -/
def Chan.expire (ch : Chan) (i : Nat) (r : List Byte) (reason : Nat) : Chan :=
  ch.note i (recKey r) 2 reason (recHandle r) (le r 64 4 + le r 68 4)

/-- Invalidate record `w` of a bucket. -/
def Chan.invalidate (ch : Chan) (i b w : Nat) (r : List Byte) : Chan := ch.putRec i b w (recParity (recBit r 0 false))

/-- LEARN of a missed key (R86): posted or not, and the channel. In Safe Serve none is posted (R417). One that a full ring drops leaves
learn_posted clear and replaces nothing in the pending filter (DEDUCED, log 145). -/
def Chan.learnNote (ch : Chan) (i : Nat) (key : List Byte) (reason seqNo : Nat) (test : Bool) : Bool × Chan :=
  let dst := ch.learnTo i
  if ch.safeServe || test || ch.isPending i key then (false, ch)
  else if dst = 1 ∨ dst = 2 then
    if 1024 ≤ ch.noteCount i then (false, ch.note i key 1 reason seqNo 0)
    else (true, (ch.pend i key).note i key 1 reason seqNo 0)
  else (false, ch.note i key 1 reason seqNo 0)

/-! ## Locks as the pipeline sees them (R92, R93) -/

/-- A flow bucket, numbered within the channel, is locked. -/
def Chan.flowLocked (ch : Chan) (i b : Nat) : Bool := ch.locked i 0 (b - ch.regionBase i)

/-- A parked lookup waits on the bucket. -/
def Chan.parkedOn (ch : Chan) (b : Nat) : Bool := ch.flow.parked.any fun l => l.b1 == b || l.b2 == b

/-- FLW_LOCK_STATUS's counts. -/
def Chan.lockStatus (ch : Chan) : Chan :=
  let k := R.FLW_LOCK_STATUS
  let n := ch.flow.parked.length
  ((ch.setFld k F.FLW_LOCK_STATUS_held ch.flow.locks.length).setFld k F.FLW_LOCK_STATUS_parked (min n 63)).setFlag k
    F.FLW_LOCK_STATUS_queue_full (decide (64 ≤ n))

/-! ## Undo (R255, R259) -/

/-- Put a word of feature_state back into the record of a key, if it still names the handle. -/
def Chan.restoreWord (ch : Chan) (i : Nat) (key : List Byte) (handle word old : Nat) : Chan :=
  match ch.findAny i key with
  | some (cold, b, w, r) =>
    if recHandle r = handle then ch.tblPut cold i b w (recParity (putBytes r (88 + 4 * word) (leBytes 4 old))) else ch
  | none => ch

/-- Job that wrote a flow delta. -/
def Delta.job? : Delta → Option Nat
  | .flow _ _ _ _ _ _ j => some j
  | .peer .. => none

/-- Undo a descriptor's flow-state deltas (R255): from its first entry on, every entry that names the flow it wrote, of its
tenant (R88: a handle names a flow within a tenant), in reverse order. -/
def Chan.undoJob (ch : Chan) (id : Nat) : Chan :=
  match ch.job id with
  | none => ch
  | some j =>
    let log := ch.chk.undo
    let tail := log.dropWhile fun d => d.job? != some id
    let head := log.take (log.length - tail.length)
    let hit (d : Delta) : Bool := match d with
      | .flow h _ t _ _ _ _ => decide (some h = j.handle ∧ t = ch.tid j.tenant)
      | .peer .. => false
    let ch := (tail.filter hit).reverse.foldl (fun (ch : Chan) d => match d with
      | .flow h w _ _ old _ _ => ch.restoreWord j.tenant j.flowKey h w old
      | .peer .. => ch) ch
    { ch with chk := { ch.chk with undo := head ++ tail.filter fun d => !hit d } }.undoCount

/-- Put an entity entry into its bucket in T1, and into the cached line (R110). -/
def Chan.putEntity (ch : Chan) (i k b w : Nat) (e : List Byte) : Chan :=
  let ch := ch.store 1 i (ch.entityAddr i k b + 64 * w) e
  match ch.entWay i k b with
  | none => ch
  | some way =>
    let key := entKey i (b % 64) way
    match sget (fun _ => none) ch.ftr.cache key with
    | none => ch
    | some l =>
      let m := sset (fun _ => none) ch.ftr.cache key (some { l with data := putBytes l.data (64 * w) e })
      { ch with ftr := { ch.ftr with cache := m } }

/-- Place of a peer delta: local tenant, lookup, bucket and way. -/
def Delta.place? : Delta → Option (Nat × Nat × Nat × Nat)
  | .peer _ _ t k b w _ _ _ _ _ => some (t, k, b, w)
  | .flow .. => none

/-- Share of a peer delta. -/
def Delta.share? : Delta → Option Nat
  | .peer s .. => some s
  | .flow .. => none

/-- Put the old value of a peer delta's word back. -/
def Chan.restoreEntity (ch : Chan) (d : Delta) : Chan :=
  match d with
  | .peer _ _ t k b w word _ _ old _ =>
    ch.putEntity t k b w (putBytes (ch.bytes 1 t (ch.entityAddr t k b + 64 * w) 64) (4 * word) (leBytes 4 old))
  | .flow .. => ch

/-- Undo a share's deltas (R259): every entry that names an entity entry it wrote, from its first one on, in reverse order; and the shares
whose deltas were undone. -/
def Chan.undoShare (ch : Chan) (num : Nat) : List Nat × Chan :=
  let log := ch.chk.undo
  let tail := log.dropWhile fun d => d.share? != some num
  let head := log.take (log.length - tail.length)
  let places := (tail.filter fun d => d.share? == some num).filterMap Delta.place?
  let hit (d : Delta) : Bool := match d.place? with
    | some p => places.contains p
    | none => false
  let undone := tail.filter hit
  let ch := undone.reverse.foldl Chan.restoreEntity ch
  ((undone.filterMap Delta.share?).dedup,
    { ch with chk := { ch.chk with undo := head ++ tail.filter fun d => !hit d } }.undoCount)

end Sys2Proof.Machine
end

