-- ==== Sys2Proof/Machine/Seals.lean ====
section
/-!
DEFINITION. Machine/Seals.lean: tiles and Tile Seals (R229 to R231), the copies of a side (R232), refetch and quarantine
(R233, R234).
-/

namespace Sys2Proof.Machine

open Sys2Proof

/-- Seal entry of tile `i` (Table 08.7). -/
def Side.sealOf (s : Side) (i : Nat) : List Byte := slice s.seals (16 * i) 16
def Side.sealKind (s : Side) (i : Nat) : Nat := le (s.sealOf i) 4 1

/-- CRC of a tile under its seal: bytes 32 to 47 of a table_start SCALE tile read as zero (Table 08.7). -/
def sealCrc (sl tile : List Byte) : Nat :=
  if le sl 4 1 = 4 ∧ (le sl 6 1).testBit 0 then
    (crc32c (tile.take 32 ++ List.replicate 16 0 ++ tile.drop 48)).toNat
  else (crc32c tile).toNat

/-- The tile verifies (R231). -/
def sealOk (sl tile : List Byte) : Bool := sealCrc sl tile == le sl 0 4

/-- Tile `i` of the working copy. -/
def Chan.workTile (ch : Chan) (ctx i : Nat) : List Byte := ch.spad (ch.winBase ctx + 2048 * i) 2048

/-- Tile `i` of the golden copy: the package in T1, its body after the 256-byte header (R235). -/
def Chan.goldTile (ch : Chan) (ctx i : Nat) : List Byte :=
  ch.bytes 1 (ch.slotTenant (ctxSlot ctx)) ((ch.side ctx).golden + 256 + 2048 * i) 2048

/-- Tile `i` of the backup copy, which holds the package as the golden copy does (log 33). -/
def Chan.backTile (ch : Chan) (ctx i : Nat) : List Byte :=
  let s := ch.side ctx
  ch.bytes s.backTier (ch.slotTenant (ctxSlot ctx)) (s.backAddr + 256 + 2048 * i) 2048

/-- Put a tile into the working copy, and into the golden one. -/
def Chan.putWork (ch : Chan) (ctx i : Nat) (t : List Byte) : Chan :=
  ch.store 0 (ch.slotTenant (ctxSlot ctx)) (ch.winBase ctx + 2048 * i) t
def Chan.putGold (ch : Chan) (ctx i : Nat) (t : List Byte) : Chan :=
  ch.store 1 (ch.slotTenant (ctxSlot ctx)) ((ch.side ctx).golden + 256 + 2048 * i) t

/-- A check of tile `i`'s working copy: does it verify, and the channel with the check counted. -/
def Chan.sealCheck (ch : Chan) (ctx i : Nat) : Bool × Chan :=
  (sealOk ((ch.side ctx).sealOf i) (ch.workTile ctx i), ch.inc R.CHK_CNT_SEAL_CHECK)

/-- A side's tiles leave the table cache. -/
def Chan.dropTables (ch : Chan) (ctx : Nat) : Chan :=
  { ch with models := { ch.models with tables := ch.models.tables.filter fun c => c.ctx ≠ ctx } }

/-- Clear `valid` of an ensemble descriptor. -/
def Chan.ensOff (ch : Chan) (n : Option Nat) : Chan :=
  match n with
  | some e => ch.setFlag (R.FST_ENS_CFG e) F.FST_ENS_CFG_valid false
  | none => ch

/-- Mark the run in progress of a side as failed, keeping the first failure (R227). -/
def Chan.failRun (ch : Chan) (ctx index status : Nat) : Chan :=
  let sr := ch.seqr ctx
  match sr.run with
  | none => ch
  | some r =>
    if r.failed.isSome then ch
    else
      let c := (ch.side ctx).cmd index
      let f := R.CHN_SLOT_FAIL (ctxSlot ctx)
      let ch := ch.setFld f F.CHN_SLOT_FAIL_index index
      let ch := ch.setFld f F.CHN_SLOT_FAIL_status status
      let ch := ch.setFld f F.CHN_SLOT_FAIL_layer_id c.layer
      let ch := ch.setFld f F.CHN_SLOT_FAIL_operator_id c.operator
      ch.setSeqr ctx { sr with run := some { r with failed := some (index, status) } }

/-- Send the vectors of a staging or slot state change (Table 14.6). -/
def Chan.slotChange (ch : Chan) (n : Nat) : Chan :=
  let ch := ch.vector 0 6 0
  if ch.fnLive (ch.slotTenant n + 1) then ch.vector (ch.slotTenant n + 1) 6 0 else ch

/-- End a staging with its reason (R237): allocations are released with the side's record. -/
def Chan.stageFail (ch : Chan) (step reason : Nat) : Chan :=
  match ch.models.staging with
  | none => ch
  | some st =>
    let ch := { ch with models := { ch.models with staging := none } }
    let ctx := ctxOf st.slot st.side
    let ch := ((ch.dropTables ctx).setSide ctx {}).setStandby st.slot 0
    let k := R.CHN_STAGE_STATUS
    let ch := ((ch.setFld k F.CHN_STAGE_STATUS_state 3).setFld k F.CHN_STAGE_STATUS_reason reason).setFld k
      F.CHN_STAGE_STATUS_step step
    (ch.count R.CHN_CNT_STAGE_FAIL EV_CHN_STAGE_FAIL (some (ch.slotTenant st.slot))).slotChange st.slot

/-- Quarantine a side (R234): the run in progress fails at command `index`, the one whose load failed (R227), or, where no command
loads, at the next one to issue. -/
def Chan.quarantine (ch : Chan) (ctx : Nat) (index : Option Nat := none) : Chan :=
  let n := ctxSlot ctx
  let ch := (ch.inc R.CHK_CNT_SEAL_QUARANTINE).raise EV_CHN_MODEL_QUARANTINE (some (ch.slotTenant n))
  let at_ := index.getD (match (ch.seqr ctx).run with | some r => r.next | none => 0)
  if ch.isServing ctx then (((ch.setServing n 2).ensOff (ch.side ctx).ens).slotChange n).failRun ctx at_ 5
  else if ch.standbyState n = 1 then ch.stageFail 6 8
  else if ch.standbyState n = 4 then (ch.setSide ctx { ch.side ctx with dead := true }).failRun ctx at_ 5
  else ch

/-- The backup tier can be read (R233, R337). -/
def Chan.backupServes (ch : Chan) (ctx : Nat) : Bool := ch.tierServes (ch.side ctx).backTier

/-- The refetch of one tile (R233) that command `index` waits for: whether the load resumes, and the channel after it. -/
def Chan.sealRefetch (ch : Chan) (ctx i : Nat) (index : Option Nat := none) : Bool × Chan :=
  let sl := (ch.side ctx).sealOf i
  let ch := { ch with models := { ch.models with tables := ch.models.tables.filter fun c => !(c.ctx == ctx && c.tile == i) } }
  let ch := ch.count R.CHK_CNT_SEAL_REFETCH_T1 EV_CHK_SEAL_REFETCH (some (ch.slotTenant (ctxSlot ctx)))
  let g := ch.goldTile ctx i
  if sealOk sl g then (true, ch.putWork ctx i g)
  else
    let ch := ch.inc R.CHK_CNT_SEAL_REFETCH_BACKUP
    let b := ch.backTile ctx i
    if ch.backupServes ctx && sealOk sl b then (true, (ch.putWork ctx i b).putGold ctx i b)
    else (false, ch.quarantine ctx index)

/-- Load a tile whose seal is verified (R231), refetched where it fails (R233). -/
def Chan.loadTile (ch : Chan) (ctx i : Nat) : Bool × Chan :=
  let (good, ch) := ch.sealCheck ctx i
  if good then (true, ch) else ch.sealRefetch ctx i

/-- Put a verified tile into the table cache, which holds 128 (R231; which one leaves: log 45). -/
def Chan.cacheTile (ch : Chan) (ctx i : Nat) : Chan :=
  let t : CachedTile := { ctx := ctx, tile := i, base := ch.winBase ctx + 2048 * i, data := ch.workTile ctx i }
  { ch with models := { ch.models with tables := (t :: ch.models.tables).take 128 } }

/-- A tile is in the table cache: a use of it does not verify again. -/
def Chan.tileCached (ch : Chan) (ctx i : Nat) : Bool := ch.models.tables.any fun c => c.ctx == ctx && c.tile == i

/-- Verify the golden copies of all tiles of a kind, as the repair and the scrub read them (R155, R269); one that fails is answered as
R233 says. -/
def Chan.goldenKind (ch : Chan) (ctx kind : Nat) : Bool × Chan :=
  let s := ch.side ctx
  ((List.range s.tiles).filter fun i => s.sealKind i == kind).foldl (fun (acc : Bool × Chan) i =>
    let (ok, ch) := acc
    let ch := ch.inc R.CHK_CNT_SEAL_CHECK
    if !ok || sealOk (s.sealOf i) (ch.goldTile ctx i) then (ok, ch) else ch.sealRefetch ctx i) (true, ch)

/-- Bytes of every tile of a kind in the golden copy, in order. -/
def Chan.goldBytes (ch : Chan) (ctx kind : Nat) : List Byte :=
  let s := ch.side ctx
  ((List.range s.tiles).filter fun i => s.sealKind i == kind).flatMap fun i => ch.goldTile ctx i

end Sys2Proof.Machine
end

