-- ==== Sys2Proof/Machine/Forest.lean ====
section
/-!
DEFINITION. Machine/Forest.lean: the Forest Engine (chapter 05): ensembles and placement (R134 to R136), bank claims (R137,
R138), cut-coding (R140 to R145), search, leaf values and sums (R150 to R152), parity, exclusion and repair (R154 to R156),
the Leaf CAM window (R159) and descriptor writes (R160).
-/

namespace Sys2Proof.Machine

open Sys2Proof

/-! ## Ensembles -/

def Chan.ensFld (ch : Chan) (n : Nat) (f : Fld) : Nat := ch.fld (R.FST_ENS_CFG n) f
def Chan.ensValid (ch : Chan) (n : Nat) : Bool := ch.flag (R.FST_ENS_CFG n) F.FST_ENS_CFG_valid
def Chan.ensBanks (ch : Chan) (n : Nat) : Nat := ch.fld (R.FST_ENS_BANKS n) F.FST_ENS_BANKS_bank_mask
def Chan.ensPasses (ch : Chan) (n : Nat) : Nat := 2 ^ ch.ensFld n F.FST_ENS_CFG_log2_passes

/-- Banks of a set that lie in half A and in half B. -/
def halfA (mask : Nat) : List Nat := (List.range 16).filter fun b => mask.testBit b
def halfB (mask : Nat) : List Nat := ((List.range 16).map (· + 16)).filter fun b => mask.testBit b
def allBanks (mask : Nat) : List Nat := (List.range 32).filter fun b => mask.testBit b

/-- A bank set is as R135 requires: with two copies the same number of banks in each half, at least one. -/
def bankSetOk (copies mask : Nat) : Bool :=
  if copies = 2 then decide ((halfA mask).length = (halfB mask).length ∧ (halfA mask).length ≠ 0)
  else decide (mask % 2 ^ 32 ≠ 0)

/-- Banks of one copy (R136): S is 16 times their number. -/
def copySize (copies mask : Nat) : Nat := if copies = 2 then (halfA mask).length else (allBanks mask).length

/-- Banks that the searches of a lane use: its own copy, or the healthy copy while a bank of its own is fenced (R135,
R263, R264). -/
def Chan.searchBanks (ch : Chan) (n : Nat) (laneB : Bool) : List Nat :=
  let m := ch.ensBanks n
  if ch.ensFld n F.FST_ENS_CFG_copies = 2 then
    let fenced := ch.fld R.CHK_FENCE_BANKS F.CHK_FENCE_BANKS_banks
    let ok (bs : List Nat) : Bool := bs.all fun b => !fenced.testBit b
    let own := if laneB then halfB m else halfA m
    let other := if laneB then halfA m else halfB m
    if ok own then own else if ok other then other else own
  else allBanks m

/-- A valid descriptor's registers obey R160: copies, trees, bank set, scale, tenant, no bank of another valid one. -/
def Chan.ensOk (ch : Chan) (n : Nat) : Bool :=
  let copies := ch.ensFld n F.FST_ENS_CFG_copies
  let m := ch.ensBanks n
  let trees := ch.ensFld n F.FST_ENS_CFG_trees
  decide (copies = 1 ∨ copies = 2) && bankSetOk copies m &&
  decide (1 ≤ trees ∧ trees ≤ 16 * copySize copies m * ch.ensPasses n) &&
  fpPosNormal (ch.fld (R.FST_ENS_SCALE n) F.FST_ENS_SCALE_scale) &&
  ch.ownsTid (ch.ensFld n F.FST_ENS_CFG_tenant) &&
  (List.range 32).all fun k => k == n || !ch.ensValid k || ch.ensBanks k &&& m == 0

/-- A valid descriptor owns the bank. -/
def Chan.bankOwned (ch : Chan) (b : Nat) : Bool :=
  (List.range 32).any fun n => ch.ensValid n && (ch.ensBanks n).testBit b

/-! ## Entries -/

def noEntry (_ : Nat) : CamEntry := {}
/-- The stored entry `e` of 65,536. -/
def Chan.cam (ch : Chan) (e : Nat) : CamEntry := sget noEntry ch.fst.cam e
def Chan.setCam (ch : Chan) (e : Nat) (x : CamEntry) : Chan :=
  { ch with fst := { ch.fst with cam := sset noEntry ch.fst.cam e x } }

/-- Parity bits of an entry (R154). -/
def CamEntry.parityOf (x : CamEntry) : BitVec 8 :=
  BitVec.ofNat 8 ((List.range 8).foldl (fun a k =>
    let p := popcount (x.value.extractLsb' (80 * k) 80).toNat 80 + popcount (x.care.extractLsb' (80 * k) 80).toNat 80 +
      if k = 0 ∧ x.valid then 1 else 0
    if p % 2 = 1 then a + 2 ^ k else a) 0)

/-- The entry with the parity and ECC that the device computes (R156, R159). -/
def CamEntry.sealed (x : CamEntry) : CamEntry := { x with parity := x.parityOf, ecc := eccOf x.leaf }

/-- The stored parity is good. -/
def CamEntry.good (x : CamEntry) : Bool := x.parity == x.parityOf

/-- Commit a whole entry between two compare cycles (R156): its exclusion, if any, ends. -/
def Chan.commitEntry (ch : Chan) (e : Nat) (x : CamEntry) : Chan :=
  let ch := ch.setCam e x.sealed
  { ch with fst := { ch.fst with excl := sset (fun _ => none) ch.fst.excl e none
                                 lateSaid := ch.fst.lateSaid.filter (· ≠ e) } }

/-- An entry is excluded from the search of a descriptor that is dispatched or re-enters now (R154): the search begins 4 cc or more
after that, so an upset that stands now lies more than 2 cc before it. -/
def Chan.excluded (ch : Chan) (e : Nat) : Bool := (sget (fun _ => none) ch.fst.excl e).isSome

/-- Update the queue fields of FST_REPAIR_STATUS. -/
def Chan.repairStatus (ch : Chan) : Chan :=
  (ch.setFld R.FST_REPAIR_STATUS F.FST_REPAIR_STATUS_queued ch.fst.repairs.length).setFlag R.FST_REPAIR_STATUS
    F.FST_REPAIR_STATUS_queue_full (decide (16 ≤ ch.fst.repairs.length))

/-- Queue the repair of an entry (R155): one without a golden image is reported late once, and one that finds the queue full is
reported late. The queue fills while repair_enable is 0 too; the repairs begin when it is 1. -/
def Chan.queueRepair (ch : Chan) (e : Nat) : Chan :=
  match sget (fun _ => none) ch.fst.golden (e / 2048) with
  | none =>
    if ch.fst.lateSaid.contains e then ch
    else { ch with fst := { ch.fst with lateSaid := e :: ch.fst.lateSaid } }.raise EV_FST_REPAIR_LATE
  | some _ =>
    if ch.fst.repairs.any (fun r => r.1 == e) then ch
    else if ch.fst.repairs.length < 16 then
      { ch with fst := { ch.fst with repairs := ch.fst.repairs ++ [(e, ch.now)] } }.repairStatus
    else ch.raise EV_FST_REPAIR_LATE

/-- The first search that sees an exclusion (R154): counted, reported, and queued for repair (R155). -/
def Chan.seeExclusion (ch : Chan) (e : Nat) : Chan :=
  match sget (fun _ => none) ch.fst.excl e with
  | none => ch
  | some x =>
    if x.counted then ch
    else
      let ch := { ch with fst := { ch.fst with excl := sset (fun _ => none) ch.fst.excl e (some { x with counted := true }) } }
      let ch := ch.count R.FST_CNT_PARITY_EXCL EV_FST_PARITY
      let ch := (ch.setFld R.FST_REPAIR_STATUS F.FST_REPAIR_STATUS_bank (e / 2048)).setFld R.FST_REPAIR_STATUS
        F.FST_REPAIR_STATUS_entry (e % 2048)
      ch.queueRepair e

/-! ## Cut-coding -/

/-- A cut field record (Table 05.3). -/
structure CutField where
  kind   : Nat
  slot   : Nat
  count  : Nat
  miss   : Bool
  values : List Nat
  deriving DecidableEq, Repr

/-- Read `k` cut field records from bytes. -/
def cutFields : Nat → List Byte → List CutField
  | 0, _ => []
  | k + 1, bs =>
    let n := le bs 2 1
    { kind := le bs 0 1, slot := le bs 1 1, count := n, miss := (le bs 3 1).testBit 0
      values := (List.range n).map fun i => le bs (16 + 4 * i) 4 } :: cutFields k (bs.drop (16 + (4 * n + 15) / 16 * 16))

/-- Bytes of cut memory from `a` on. -/
def Chan.cutBytes (ch : Chan) (a n : Nat) : List Byte := cellsGet ch.fst.cuts a n

/-- The cut fields of an ensemble. At most 80 records of at most 1,040 bytes. -/
def Chan.ensFields (ch : Chan) (n : Nat) : List CutField :=
  cutFields (ch.ensFld n F.FST_ENS_CFG_fields)
    (ch.cutBytes (64 * ch.fld (R.FST_ENS_BANKS n) F.FST_ENS_BANKS_cut_base) 83200)

/-- One coded field (R145): value over its bits, whether it is missing, and what was counted. -/
structure Coded where
  value  : Nat := 0
  miss   : Bool := false
  unseen : Nat := 0
  filled : Nat := 0
  deriving DecidableEq, Repr

/-- The procedure of R145 up to placing the bits: `fill` is the slot's fill value; the value is the interval index or the
category index. -/
def codeField (f : CutField) (x : Feat) (fill : Nat) : Coded :=
  let miss := x.missing || fpIsNaN x.value
  let idx := if f.kind = 2 ∧ ¬ miss then f.values.findIdx? (fpEq x.value) else none
  let unseen := if f.kind = 2 ∧ ¬ miss ∧ idx.isNone then 1 else 0
  let miss := miss || unseen == 1
  let fill? := miss && !f.miss
  let v := if fill? then fill else x.value
  let miss := miss && !fill?
  let filled := if fill? then 1 else 0
  if miss then { miss := true, unseen := unseen, filled := filled }
  else if f.kind = 2 then { value := idx.getD 0, unseen := unseen, filled := filled }
  else { value := (f.values.filter fun c => !fpLt v c).length, unseen := unseen, filled := filled }

/-- Place one T32 field at field number `i` (R143); a categorical field fills its span. -/
def placeT32 (k : Key) (i : Nat) (f : CutField) (c : Coded) : Key :=
  let lo := 32 * i
  if f.kind = 1 then
    if c.miss then { value := k.value + 2 ^ (lo + 31), masked := k.masked + (2 ^ 31 - 1) * 2 ^ lo }
    else { k with value := k.value + (2 ^ c.value - 1) * 2 ^ lo }
  else if f.kind = 2 then
    let span := (f.count + 30) / 31
    if c.miss then
      { value := k.value + 2 ^ (lo + 31)
        masked := k.masked + (List.range span).foldl (fun a j => a + (2 ^ 31 - 1) * 2 ^ (32 * (i + j))) 0 }
    else { k with value := k.value + 2 ^ (32 * (i + c.value / 31) + c.value % 31) }
  else k

/-- Place one P8 field at field number `i`, the `j`-th with a missing bit when it has one (R144). -/
def placeP8 (k : Key) (i : Nat) (j : Nat) (f : CutField) (c : Coded) : Key :=
  let mb := 8 * (79 - j / 8) + j % 8
  if f.kind = 1 ∨ f.kind = 2 then
    if c.miss then { value := k.value + 2 ^ mb, masked := k.masked + 255 * 2 ^ (8 * i) }
    else { k with value := k.value + c.value % 256 * 2 ^ (8 * i) }
  else k

/-- The key of an ensemble, with what its coding counts: unseen and filled (R143 to R145). -/
def codeKey (p8 : Bool) (fs : List CutField) (feats : List Feat) (prog : List Byte) : Key × Nat × Nat :=
  let r := fs.zipIdx.foldl (fun (acc : Key × Nat × Nat × Nat) p =>
    let (k, j, u, l) := acc
    let f := p.1
    if f.kind = 1 ∨ f.kind = 2 then
      let c := codeField f (feats.getD f.slot { missing := true }) (slotFill (progSlot prog f.slot))
      let k := if p8 then placeP8 k p.2 j f c else placeT32 k p.2 f c
      (k, if f.miss then j + 1 else j, u + c.unseen, l + c.filled)
    else acc) ({}, 0, 0, 0)
  (r.1, r.2.2.1, r.2.2.2)

/-! ## Search -/

/-- An entry matches a key: every cell that is cared for and not masked agrees (R145, R150). -/
def CamEntry.matches (x : CamEntry) (k : Key) : Bool :=
  x.valid && (x.care &&& ~~~BitVec.ofNat 640 k.masked) &&& (x.value ^^^ BitVec.ofNat 640 k.value) == 0

/-- Default word of a segment's window (R151), with its ECC. -/
def Chan.defaultWord (ch : Chan) (seg win : Nat) : BitVec 64 × BitVec 8 :=
  sget (fun _ => (0, 0)) ch.fst.defaults (8 * seg + win)

/-- Read a default word through its ECC: an uncorrectable default leaf has no other leaf to take its place; its word is read
as stored (log 34). -/
def Chan.defaultLeaf (ch : Chan) (seg win : Nat) : BitVec 64 × Chan :=
  let (w, e) := ch.defaultWord seg win
  match eccDecode w e with
  | .clean d => (d, ch)
  | .fixed d => (d, ch.inc R.FST_CNT_LEAF_ECC_CORR)
  | .bad => (w, ch.count R.FST_CNT_LEAF_ECC_UNCORR EV_FST_LEAF_ECC)

/-- One window's search (R150, R151): what the tree contributes. An uncorrectable leaf word gives the default leaf, and its entry is
repaired (R260). -/
def Chan.searchWindow (ch : Chan) (k : Key) (bank seg win w : Nat) : LeafUse × Chan :=
  let first := 2048 * bank + 128 * seg + win * w
  let es := (List.range w).map (first + ·)
  let ch := es.foldl (fun (ch : Chan) e => if ch.excluded e then ch.seeExclusion e else ch) ch
  let hits := es.filter fun e => !ch.excluded e && (ch.cam e).matches k
  match hits with
  | [] =>
    let (d, ch) := ch.defaultLeaf (16 * bank + seg) win
    ({ entry := none, leaf := d }, ch.inc R.FST_CNT_NO_MATCH)
  | e :: rest =>
    let ch := if rest.isEmpty then ch else ch.count R.FST_CNT_MULTI_MATCH EV_FST_MULTI_MATCH
    let x := ch.cam e
    let use (d : BitVec 64) : LeafUse := { entry := some e, leaf := d, word := x.leaf, ecc := x.ecc }
    match eccDecode x.leaf x.ecc with
    | .clean d => (use d, ch)
    | .fixed d => (use d, ch.inc R.FST_CNT_LEAF_ECC_CORR)
    | .bad =>
      let ch := (ch.count R.FST_CNT_LEAF_ECC_UNCORR EV_FST_LEAF_ECC).queueRepair e
      let (d, ch) := ch.defaultLeaf (16 * bank + seg) win
      (use d, ch)

/-- All trees of an ensemble in tree order on the banks of a lane (R136). A fenced bank searches nothing. -/
def Chan.searchTrees (ch : Chan) (n : Nat) (laneB : Bool) (k : Key) : List LeafUse × Chan :=
  let banks := ch.searchBanks n laneB
  let p := ch.ensPasses n
  let s := 16 * banks.length
  let w := 128 / p
  let fenced := ch.fld R.CHK_FENCE_BANKS F.CHK_FENCE_BANKS_banks
  (List.range (ch.ensFld n F.FST_ENS_CFG_trees)).foldl (fun (acc : List LeafUse × Chan) t =>
    let (us, ch) := acc
    let pass := t / s
    let q := t % s
    let bank := banks.getD (q / 16) 0
    let (u, ch) :=
      if ch.flag R.FST_CTRL F.FST_CTRL_enable && !fenced.testBit bank then ch.searchWindow k bank (q % 16) pass w
      else
        let (d, ch) := ch.defaultLeaf (16 * bank + q % 16) pass
        ({ entry := none, leaf := d }, ch)
    (us ++ [u], ch)) ([], ch)

/-- Output `o` of a leaf word, two's complement. -/
def leafOut (d : BitVec 64) (o : Nat) : Int := sgn 16 (d.extractLsb' (16 * o) 16).toNat

/-- Sum of output `o` over the leaves (R152): every integer sum is exact, so the order of addition leaves no trace. -/
def leafSum (us : List LeafUse) (o : Nat) : Int := us.foldl (fun a u => a + leafOut u.leaf o) 0

/-- The FP32 outputs of an ensemble from its leaves (R152). -/
def Chan.ensOutputs (ch : Chan) (n : Nat) (us : List LeafUse) : List Nat :=
  (List.range (ch.ensFld n F.FST_ENS_CFG_outputs + 1)).map fun o =>
    fpMul (fpOfInt (leafSum us o + sgn 16 (ch.fld (R.FST_ENS_BASE n) (F.FST_ENS_BASE_base o))))
      (ch.fld (R.FST_ENS_SCALE n) F.FST_ENS_SCALE_scale)

/-- Cut-code a descriptor's features for an ensemble (R145): the key, and the channel with unseen and filled fields counted. The features
stay FP32 values here: the forest route never widens (R129). -/
def Chan.forestKey (ch : Chan) (n : Nat) (feats : List Feat) : Key × Chan :=
  let prog := sget (fun _ => []) ch.ftr.progs (ch.ensFld n F.FST_ENS_CFG_program)
  let (k, unseen, filled) := codeKey (ch.ensFld n F.FST_ENS_CFG_cut_code == 1) (ch.ensFields n) feats prog
  (k, (ch.inc R.FST_CNT_UNSEEN unseen).inc R.FST_CNT_FILLED filled)

/-- Count the passes of a descriptor, those of its ensembles running side by side (R158, R427). -/
def Chan.countPasses (ch : Chan) (i p : Nat) : Chan :=
  if ch.flag R.FST_CTRL F.FST_CTRL_enable then
    ((ch.inc R.FST_CNT_SEARCH p).inc (R.OBS_TCNT i 4) p).work (if p = 0 then [] else [4])
  else ch

/-! ## Bank claims of dispatch (R137, R138) -/

/-- Ensembles that serve a local tenant. -/
def Chan.tenantEns (ch : Chan) (i : Nat) : List Nat :=
  (List.range 32).filter fun n => ch.ensValid n && ch.ensFld n F.FST_ENS_CFG_tenant == ch.tid i

/-- Claims of a descriptor with ensembles `ens` on a lane whose first pass enters key distribution in `off` cc (97 at its dispatch, 0 at
its re-entry): cycle and bank mask of each pass. -/
def Chan.claimsOf (ch : Chan) (off : Nat) (ens : List Nat) (laneB : Bool) : List (Nat × Nat) :=
  ens.flatMap fun n =>
    let m := (ch.searchBanks n laneB).foldl (fun a b => a + 2 ^ b) 0
    (List.range (ch.ensPasses n)).map fun p => (ch.coreNow / 240 + off + 18 * p, m)

/-- A claim meets one already made in the same cycle (R138). -/
def Chan.claimClash (ch : Chan) (off : Nat) (ens : List Nat) (laneB : Bool) : Bool :=
  (ch.claimsOf off ens laneB).any fun a => ch.fst.claims.any fun b => a.1 == b.1 && a.2 &&& b.2 != 0

/-- Enter the claims, forgetting those whose cycle has passed. -/
def Chan.claim (ch : Chan) (off : Nat) (ens : List Nat) (laneB : Bool) : Chan :=
  { ch with fst := { ch.fst with claims := (ch.fst.claims.filter fun c => decide (ch.coreNow / 240 ≤ c.1)) ++ ch.claimsOf off ens laneB } }

/-! ## Golden images (R155) -/

/-- The entry that 1,345 bits spell. -/
def camOfBits (x : Nat) : CamEntry :=
  CamEntry.sealed { value := BitVec.ofNat 640 x, care := BitVec.ofNat 640 (x / 2 ^ 640), valid := x.testBit 1280
                    leaf := BitVec.ofNat 64 (x / 2 ^ 1281) }

/-- Banks of the copy that holds bank `b` of ensemble `n`, in ascending order. -/
def Chan.copyBanks (ch : Chan) (n b : Nat) : List Nat :=
  let m := ch.ensBanks n
  if ch.ensFld n F.FST_ENS_CFG_copies = 2 then (if b < 16 then halfA m else halfB m) else allBanks m

/-- The golden entry of CAM entry `e`, none where its bank has none. -/
def Chan.goldenEntry (ch : Chan) (e : Nat) : Option CamEntry :=
  let b := e / 2048
  match sget (fun _ => none) ch.fst.golden b with
  | none => none
  | some g =>
    match (ch.side (ctxOf g.slot g.side)).ens with
    | none => none
    | some n =>
      match (ch.copyBanks n b).findIdx? (· == b) with
      | none => none
      | some j =>
        some (camOfBits (Config.camEntry (ch.goldBytes (ctxOf g.slot g.side) 6) (128 * (16 * j + e % 2048 / 128) + e % 128)))

/-! ## Commands of this family -/

/-- FST_ENS_WRITE (R158, R160): `part` 0 CFG, 1 BANKS, 2 SCALE, 3 BASE of descriptor `n`; `host` for a host write, whose
lock is open only while FST_CTRL.enable is 0 and which cannot set valid (Table 05.8). In Safe Serve it is closed (Table 18.1). -/
def Chan.fstEnsWrite (ch : Chan) (n part : Nat) (host : Bool) (v : Word) : Chan :=
  if (host && ch.flag R.FST_CTRL F.FST_CTRL_enable) || ch.safeServe || decide (32 ≤ n) then ch
  else
    let r := match part with
      | 0 => R.FST_ENS_CFG n | 1 => R.FST_ENS_BANKS n | 2 => R.FST_ENS_SCALE n | _ => R.FST_ENS_BASE n
    let m : Word := match part with
      | 0 => 0x00FFFFFFFFFFFFFF | 1 => 0x00003FFFFFFFFFFF | 2 => 0x00000000FFFFFFFF | _ => 0xFFFFFFFFFFFFFFFF
    let v := if part = 0 ∧ host = true ∧ ch.ensValid n = false then setF v F.FST_ENS_CFG_valid 0 else v
    let ch' := ch.wr r (v &&& m)
    if ch'.ensValid n && !ch'.ensOk n then ch.raise EV_FST_CFG_REJECT else ch'

/-- The holding buffer as a write to entry `e` finds it: another entry's content is replaced by the stored entry (R159). -/
def Chan.holdFor (ch : Chan) (e : Nat) : CamEntry :=
  match ch.fst.hold with
  | some (k, x) => if k = e then x else ch.cam e
  | none => ch.cam e

/-- Put word `w` (0 to 31, not 20) of a window entry's 256 bytes. Words 0 to 9 are the value, 10 to 19 the care cells, 21
the leaf; the rest is ignored. -/
def CamEntry.putWord (x : CamEntry) (w : Nat) (v : Word) : CamEntry :=
  let field (b : BitVec 640) (i : Nat) : BitVec 640 :=
    (b &&& ~~~((BitVec.setWidth 640 (BitVec.allOnes 64)) <<< (64 * i))) ||| ((v.setWidth 640) <<< (64 * i))
  if w < 10 then { x with value := field x.value w }
  else if w < 20 then { x with care := field x.care (w - 10) }
  else if w = 21 then { x with leaf := v }
  else x

/-- CAM_WINDOW_WRITE (R159): word `w` of entry `e`. -/
def Chan.camWindowWrite (ch : Chan) (e w : Nat) (v : Word) : Chan :=
  if ch.bankOwned (e / 2048) then ch.raise EV_FST_WINDOW_REJECT
  else if w < 20 ∨ w = 21 then { ch with fst := { ch.fst with hold := some (e, (ch.holdFor e).putWord w v) } }
  else ch

/-- CAM_WINDOW_COMMIT (R159): bytes 160 to 167 of entry `e`, whose bit 0 is valid. -/
def Chan.camWindowCommit (ch : Chan) (e : Nat) (v : Word) : Chan :=
  if ch.bankOwned (e / 2048) then ch.raise EV_FST_WINDOW_REJECT
  else
    let x := { ch.holdFor e with valid := v.getLsbD 0 }
    let ch := ch.commitEntry e x
    { ch with fst := { ch.fst with hold := some (e, x.sealed) } }

/-- Word `w` (0 to 31) of a window entry's 256 bytes as a read returns it (Table 05.12). -/
def CamEntry.getWord (x : CamEntry) (w : Nat) : Word :=
  if w < 10 then x.value.extractLsb' (64 * w) 64
  else if w < 20 then x.care.extractLsb' (64 * (w - 10)) 64
  else if w = 20 then BitVec.ofNat 64 ((if x.valid then 1 else 0) + 256 * x.parity.toNat)
  else if w = 21 then x.leaf
  else if w = 22 then x.ecc.setWidth 64
  else 0

/-- Flip stored bit `bit` of an entry, in the order value, care, valid, parity, leaf, ECC (R156's 1,361 bits). -/
def CamEntry.flip (x : CamEntry) (bit : Nat) : CamEntry :=
  if bit < 640 then { x with value := x.value ^^^ (1#640 <<< bit) }
  else if bit < 1280 then { x with care := x.care ^^^ (1#640 <<< (bit - 640)) }
  else if bit = 1280 then { x with valid := !x.valid }
  else if bit < 1289 then { x with parity := x.parity ^^^ (1#8 <<< (bit - 1281)) }
  else if bit < 1353 then { x with leaf := x.leaf ^^^ (1#64 <<< (bit - 1289)) }
  else { x with ecc := x.ecc ^^^ (1#8 <<< (bit - 1353)) }

/-- CAM_ENTRY_UPSET (R154): bits of an entry are upset; an entry whose parity fails is excluded from searches that begin
2 cc later, and stays so until it is rewritten. -/
def Chan.camUpset (ch : Chan) (e : Nat) (bits : List Nat) : Chan :=
  let x := bits.foldl CamEntry.flip (ch.cam e)
  let ch := ch.setCam e x
  let old := sget (fun _ => none) ch.fst.excl e
  if x.good || old.isSome then ch
  else { ch with fst := { ch.fst with excl := sset (fun _ => none) ch.fst.excl e (some {}) } }

/-- LEAF_CAM_REPAIR (R155): rewrite the oldest queued entry from its verified golden image and start its read-back test. -/
def Chan.leafCamRepair (ch : Chan) : Chan :=
  match ch.fst.repairs with
  | [] => ch
  | (e, _) :: rest =>
    if ch.safeServe || !ch.flag R.FST_CTRL F.FST_CTRL_repair_enable then ch
    else
      let ch := { ch with fst := { ch.fst with repairs := rest } }.repairStatus
      match sget (fun _ => none) ch.fst.golden (e / 2048) with
      | none => ch
      | some g =>
        let (ok, ch) := ch.goldenKind (ctxOf g.slot g.side) 6
        match ok, ch.goldenEntry e with
        | true, some x =>
          let ch := (ch.commitEntry e x).count R.FST_CNT_REPAIR EV_FST_REPAIRED
          { ch with chk := { ch.chk with
              tests := ch.chk.tests ++ [{ unit := .entry (e / 2048) (e % 2048), at_ := ch.now, hold := false }] } }
        | _, _ => ch

/-- A descriptor dispatched before a swap has still to search ensemble `n`. -/
def Chan.ensAwaited (ch : Chan) (n : Nat) : Bool :=
  ch.jobs.any fun j => j.ens.contains n &&
    (j.stage = .flowWait || j.stage = .parked || ch.vpe.wfq.any fun x => x.unit == 35 && x.index == j.id)

/-- ENSEMBLE_BANK_RELEASE (R157): 97 + 18 × P + 1 cc after the swap, the last descriptor dispatched before it having been searched,
the old ensemble's banks are released; its descriptor keeps no bank. -/
def Chan.bankRelease (ch : Chan) (n : Nat) : Chan :=
  match ch.fst.leaving.find? (·.1 == n) with
  | none => ch
  | some (_, t) =>
    if ch.sinceC t (97 + 18 * ch.ensPasses n + 1) && !ch.ensAwaited n then
      let m := ch.ensBanks n
      let ch := ch.setFld (R.FST_ENS_BANKS n) F.FST_ENS_BANKS_bank_mask 0
      { ch with fst := { ch.fst with
          leaving := ch.fst.leaving.filter (·.1 ≠ n)
          golden := (allBanks m).foldl (fun g b => sset (fun _ => none) g b none) ch.fst.golden } }
    else ch

end Sys2Proof.Machine
end

