-- ==== Sys2Proof/Machine/Parser.lean ====
section
/-!
DEFINITION. Machine/Parser.lean: the Parser's twelve stages (R65 to R72) and the indirect access to its tables (R73).
-/

namespace Sys2Proof.Machine

open Sys2Proof

/-- What goes from stage to stage with a descriptor: the metadata bus (Table 03.1), the slice cursor, whether key_locked
holds for the writes of the stage at work, whether the outermost IP header has been declared, and what is to be counted. -/
structure Parse where
  bus    : List Byte
  cursor : Nat := 0
  locked : Bool := false
  ipDone : Bool := false
  errs   : Nat := 0
  frags  : Nat := 0
  deriving DecidableEq, Repr

def Parse.flags (p : Parse) : Nat := le p.bus 56 2
/-- OR bits into parse_flags; bits [15:11] have no effect (Table 03.2). -/
def Parse.orFlags (p : Parse) (m : Nat) : Parse :=
  { p with bus := p.bus.take 56 ++ leBytes 2 ((p.flags ||| m) % 2048) ++ p.bus.drop 58 }

/-- Put bus bytes from `i` on. -/
def Parse.put (p : Parse) (i : Nat) (bs : List Byte) : Parse :=
  { p with bus := p.bus.take i ++ bs ++ p.bus.drop (i + bs.length) }

/-- Hardware writes of flow_key land only while key_locked is clear. -/
def Parse.fill (p : Parse) (i : Nat) (bs : List Byte) : Parse := if p.locked then p else p.put i bs

/-- The descriptor as the Parser reads it: its slice and whether slice_truncated is set. -/
structure SliceIn where
  bytes : List Byte
  trunc : Bool

/-- Read `n` slice bytes at an offset (R67). -/
def Parse.read (p : Parse) (x : SliceIn) (off n : Nat) : List Byte × Parse :=
  if off + n ≤ x.bytes.length then (slice x.bytes off n, p)
  else
    let q := p.orFlags (256 + if x.trunc then 1024 else 0)
    (slice x.bytes off n, { q with locked := q.locked || x.trunc })

/-! ## Stage keys (R72) -/

/-- One extract: `ex` its 12 bits of PRS_EXTRACT_n. -/
def Parse.extract (p : Parse) (x : SliceIn) (bus0 : List Byte) (ex : Nat) : Nat × Parse :=
  if ex % 2 = 0 then (0, p)
  else
    let w := bits ex 3 2 + 1
    let off := bits ex 11 4
    if bits ex 1 1 = 0 then (beNat (slice bus0 off w), p)
    else
      let (bs, p) := p.read x (p.cursor + off) w
      (beNat bs, p)

/-- The 160-bit key of a stage. -/
def Parse.key (p : Parse) (x : SliceIn) (ext : Word) : Nat × Parse :=
  let bus0 := p.bus
  let top := le bus0 56 4 * 2 ^ 128
  (List.range 4).foldl (fun (acc : Nat × Parse) e =>
    let (v, p) := acc.2.extract x bus0 (bits ext.toNat (12 * e + 11) (12 * e))
    (acc.1 + v * 2 ^ (32 * e), p)) (top, p)

/-- An entry of 96 bytes matches a key for a tenant (R72). -/
def entryMatches (ternary : Bool) (e : List Byte) (key tid : Nat) : Bool :=
  let flags := le e 41 1
  let k := be e 0 20
  let m := be e 20 20
  flags.testBit 0 && (flags.testBit 1 || le e 40 1 == tid) &&
  (if ternary then Nat.land (Nat.xor k key) m == 0 else k == key)

/-! ## Header declarations (R69, R70) -/

/-- l4_offset and l3_offset: 0xFF beyond 254. -/
def off8 (n : Nat) : Byte := byte (if n ≤ 254 then n else 255)

/-- A failed check. -/
def Parse.bad (p : Parse) : Parse :=
  let q := (p.fill 54 [0]).orFlags (512 + 1024)
  { q with locked := true, errs := q.errs + 1 }

/-- A fragmented outermost packet (R70). -/
def Parse.fragment (p : Parse) (keyType : Nat) (first : Bool) : Parse :=
  let p := p.orFlags (16 + if first then 32 else 0)
  let p := ((p.fill 54 [byte keyType]).fill 48 [0, 0, 0, 0]).put 59 [0xFF]
  let q := p.orFlags 1024
  { q with locked := true, frags := q.frags + 1 }

/-- Declare IPv4 at offset `o`. The declaration reads the header with its options, so that one a truncated slice cuts short anywhere
fills nothing (DEDUCED, log 140). -/
def Parse.ipv4 (p : Parse) (x : SliceIn) (o : Nat) : Parse :=
  let (h, p) := p.read x o 20
  let p := (p.orFlags 4).put 58 [off8 o]
  let ihl := le h 0 1 % 16
  let p := (p.read x (o + 20) (if le h 0 1 / 16 = 4 then 4 * ihl - 20 else 0)).2
  if le h 0 1 / 16 ≠ 4 ∨ ihl < 5 ∨ be h 2 2 < 4 * ihl then p.bad
  else
    let p := ((p.fill 16 (slice h 12 4 ++ List.replicate 12 0)).fill 32 (slice h 16 4 ++ List.replicate 12 0)).fill 52 [byteAt h 9]
    let p := (p.fill 54 [1]).put 59 [off8 (o + 4 * ihl)]
    let fo := be h 6 2 % 8192
    if (le h 6 1).testBit 5 ∨ fo ≠ 0 then p.fragment 3 (fo == 0) else p

/-- The extension chain from `o` with next header `nh`, at most `n` more headers: next header, offset, whether the walk stopped
at another kind, and the offset field of the first Fragment header passed. Each header passed is read whole (log 140). -/
def Parse.walk (x : SliceIn) : Nat → Parse → Nat → Nat → Option Nat → Nat × Nat × Bool × Option Nat × Parse
  | n, p, nh, o, fr =>
    if nh ≠ 0 ∧ nh ≠ 43 ∧ nh ≠ 60 ∧ nh ≠ 44 then (nh, o, true, fr, p)
    else match n with
    | 0 => (nh, o, false, fr, p)
    | n + 1 =>
      if nh = 44 then
        let (h, p) := p.read x o 8
        Parse.walk x n p (le h 0 1) (o + 8) (some (fr.getD (be h 2 2 / 8)))
      else
        let (h, p) := p.read x o 2
        let p := (p.read x (o + 2) (8 * le h 1 1 + 6)).2
        Parse.walk x n p (le h 0 1) (o + 8 * (le h 1 1 + 1)) fr

/-- Declare IPv6 at offset `o`; `chain` for code 4. Every read of the declaration comes before its fill. -/
def Parse.ipv6 (p : Parse) (x : SliceIn) (o : Nat) (chain : Bool) : Parse :=
  let (h, p) := p.read x o 40
  let p := (p.orFlags 8).put 58 [off8 o]
  if le h 0 1 / 16 ≠ 6 then p.bad
  else
    let (nh, e, stop, fr, p) :=
      if chain then p.walk x 8 (le h 6 1) (o + 40) none
      else if le h 6 1 = 44 then
        let (f, p) := p.read x (o + 40) 8
        (le f 0 1, o + 48, true, some (be f 2 2 / 8), p)
      else (le h 6 1, o + 40, true, none, p)
    let p := ((p.fill 16 (slice h 8 16)).fill 32 (slice h 24 16)).fill 52 [byte nh]
    let p := (p.fill 54 [2]).put 59 [if stop then off8 e else 0xFF]
    match fr with
    | some f => p.fragment 4 (f == 0)
    | none => p

/-- A header declaration at the stage's cursor. -/
def Parse.declare (p : Parse) (x : SliceIn) (code : Nat) : Parse :=
  if code = 1 then p.orFlags 1
  else if code = 2 ∨ code = 3 ∨ code = 4 then
    if p.ipDone then p
    else
      let p := { p with ipDone := true }
      if code = 2 then p.ipv4 x p.cursor else p.ipv6 x p.cursor (code == 4)
  else p

/-! ## Actions -/

/-- Bytes of a write width (Table 03.19). -/
def writeWidth : Nat → Nat
  | 1 => 1 | 2 => 2 | 3 => 4 | _ => 0

/-- One bus write of an action: its six bytes. -/
def Parse.busWrite (p : Parse) (x : SliceIn) (w : List Byte) : Parse :=
  let dest := le w 0 1 % 64
  let n := writeWidth (le w 0 1 / 64)
  if n = 0 then p
  else
    let (bs, p) := if (le w 1 1).testBit 0 then p.read x (p.cursor + le w 2 1) n else (slice w 2 n, p)
    let bs := if (le w 1 1).testBit 1 then bs.reverse else bs
    if 16 ≤ dest ∧ dest + n ≤ 56 then p.fill dest bs
    else if 60 ≤ dest ∧ dest + n ≤ 64 then p.put dest bs
    else p

/-- Apply an action of 32 bytes (R72). A key_locked that flags_set sets applies to later stages. -/
def Parse.act (p : Parse) (x : SliceIn) (a : List Byte) : Parse :=
  let p := (List.range 4).foldl (fun p w => p.busWrite x (slice a (4 + 6 * w) 6)) p
  let p := p.orFlags (le a 0 2)
  let p := p.declare x (le a 3 1 % 8)
  { p with cursor := p.cursor + le a 2 1 }

/-! ## Stages -/

/-- Entries in use of a stage, in index order. -/
def Chan.stageEntries (ch : Chan) (st : Nat) : List (List Byte) :=
  let r := R.PRS_STAGE st
  let cap := if ch.flag r F.PRS_STAGE_kind then 256 else 4096
  let n := min (ch.fld r F.PRS_STAGE_entries) cap
  (ch.parser.entries.filter fun e => decide (4096 * st ≤ e.1 ∧ e.1 < 4096 * st + n)).map (·.2)

/-- One stage. A stage that misses without a default applies no action; what its own slice extracts set under R67 stays set
(DESIGN CHOICE, log 141). -/
def Chan.parseStage (ch : Chan) (x : SliceIn) (tid : Nat) (p : Parse) (st : Nat) : Parse :=
  let r := R.PRS_STAGE st
  if !(ch.fld R.PRS_CTRL F.PRS_CTRL_stage_enable).testBit st then p
  else if ch.flag r F.PRS_STAGE_tenant_owned && ch.fld r F.PRS_STAGE_owner_tenant != tid then p
  else
    let p := { p with locked := p.flags.testBit 10 }
    let (key, p) := p.key x (ch.rd (R.PRS_EXTRACT st))
    match (ch.stageEntries st).find? fun e => entryMatches (ch.flag r F.PRS_STAGE_kind) e key tid with
    | some e => p.act x (slice e 64 32)
    | none =>
      if ch.flag r F.PRS_STAGE_has_default then p.act x (sget (fun _ => List.replicate 32 0) ch.parser.defaults st) else p

/-- The bus before stage 0 (R68). -/
def busOf (md : List Byte) : List Byte := md ++ List.replicate 42 0 ++ [0xFF, 0xFF] ++ List.replicate 4 0

/-- Parse a descriptor: the bus as it goes on, and the channel with errors, fragments and bad key types counted (R69 to R71). -/
def Chan.parse (ch : Chan) (md bytes : List Byte) (trunc : Bool) (tid i : Nat) : List Byte × Chan :=
  let x : SliceIn := { bytes := bytes, trunc := trunc }
  let p := (List.range 12).foldl (ch.parseStage x tid) { bus := busOf md }
  let ch := if p.errs = 0 then ch else ch.count R.PRS_CNT_PARSE_ERROR EV_PRS_PARSE_ERROR (some i) p.errs
  let ch := ch.inc R.PRS_CNT_FRAG p.frags
  if 5 < le p.bus 54 1 then ((p.put 54 [0]).bus, ch.inc R.PRS_CNT_BAD_KEY) else (p.bus, ch)

/-! ## Indirect access (R73) -/

/-- A write of an action of 32 bytes is acceptable: reserved bits zero, header below 5, bus writes inside their ranges. -/
def actionOk (a : List Byte) : Bool :=
  le a 3 1 / 8 == 0 && decide (le a 3 1 % 8 < 5) && (slice a 28 4).all (· == 0) &&
  (List.range 4).all fun w =>
    let b := slice a (4 + 6 * w) 6
    let dest := le b 0 1 % 64
    let n := writeWidth (le b 0 1 / 64)
    decide (le b 1 1 < 4) && (n == 0 || decide ((16 ≤ dest ∧ dest + n ≤ 56) ∨ (60 ≤ dest ∧ dest + n ≤ 64))) &&
    (!(le b 1 1).testBit 0 || (slice b 3 3).all (· == 0))

/-- A written entry of 96 bytes is acceptable for its stage. -/
def Chan.entryOk (ch : Chan) (st : Nat) (e : List Byte) : Bool :=
  let r := R.PRS_STAGE st
  le e 40 1 / 128 == 0 && decide (le e 41 1 < 4) && (slice e 42 22).all (· == 0) && actionOk (slice e 64 32) &&
  (!ch.flag r F.PRS_STAGE_tenant_owned || (le e 40 1 == ch.fld r F.PRS_STAGE_owner_tenant && !(le e 41 1).testBit 1))

/-- The item that PRS_IND_SEL of an instance names: result 2 out of range, 3 not permitted, 0 reachable. -/
def Chan.prsReach (ch : Chan) (inst st target index : Nat) : Nat :=
  let r := R.PRS_STAGE st
  let cap := if ch.flag r F.PRS_STAGE_kind then 256 else 4096
  if inst ≠ 0 ∧ (target = 1 ∨ st ≥ 12 ∨ ch.flag r F.PRS_STAGE_tenant_owned = false ∨
      ch.fld r F.PRS_STAGE_owner_tenant ≠ ch.tid (inst - 1)) then 3
  else if 12 ≤ st ∨ (target = 0 ∧ cap ≤ index) then 2
  else 0

/-- The item as stored, in the 96 bytes the DATA registers carry. -/
def Chan.prsItem (ch : Chan) (st target index : Nat) : List Byte :=
  if target = 1 then List.replicate 64 0 ++ sget (fun _ => List.replicate 32 0) ch.parser.defaults st
  else sget (fun _ => List.replicate 96 0) ch.parser.entries (4096 * st + index)

/-- The 96 bytes in an instance's DATA registers. -/
def Chan.prsData (ch : Chan) (inst : Nat) : List Byte :=
  (List.range 12).flatMap fun k => leBytes 8 (ch.rd (bank inst (R.PRS_IND_DATA k))).toNat

/-- End an access with a result. -/
def Chan.prsResult (ch : Chan) (inst res : Nat) : Chan :=
  let k := bank inst R.PRS_IND_SEL
  let ch := (ch.setFld k F.PRS_IND_SEL_result res).setFld k F.PRS_IND_SEL_start 0
  if res = 0 then ch else ch.raise EV_PRS_CFG_REJECT (if inst = 0 then none else some (inst - 1))

/-- A read or a write that PRS_IND_SEL starts (R73), through function instance `inst`; `v` is the word written to SEL. -/
def Chan.prsAccess (ch : Chan) (inst : Nat) (v : Word) (write : Bool) : Chan :=
  let st := getF v F.PRS_IND_SEL_stage
  let target := getF v F.PRS_IND_SEL_target
  let index := getF v F.PRS_IND_SEL_index
  let k := bank inst R.PRS_IND_SEL
  let ch := ch.wr k (mergeF (ch.rd k) v [F.PRS_IND_SEL_stage, F.PRS_IND_SEL_target, F.PRS_IND_SEL_index, F.PRS_IND_SEL_write])
  match ch.prsReach inst st target index with
  | 0 =>
    if write then
      let e := ch.prsData inst
      let e := if inst = 0 then e else
        e.take 40 ++ [byte (ch.tid (inst - 1)), byte (putBit (le e 41 1) 1 false)] ++ e.drop 42
      if target = 1 then
        if actionOk (slice e 64 32) then
          { ch with parser := { ch.parser with
            defaults := sset (fun _ => List.replicate 32 0) ch.parser.defaults st (slice e 64 32) } }.prsResult inst 0
        else ch.prsResult inst 1
      else if ch.entryOk st e then
        { ch with parser := { ch.parser with
          entries := sset (fun _ => List.replicate 96 0) ch.parser.entries (4096 * st + index) e } }.prsResult inst 0
      else ch.prsResult inst 1
    else
      let e := ch.prsItem st target index
      ((List.range 12).foldl (fun (ch : Chan) i =>
        ch.wr (bank inst (R.PRS_IND_DATA i)) (BitVec.ofNat 64 (le e (8 * i) 8))) ch).prsResult inst 0
  | r => ch.prsResult inst r

end Sys2Proof.Machine
end

