-- ==== Sys2Proof/Machine/Gates.lean ====
section
/-!
DEFINITION. Machine/Gates.lean: who holds a gated unit (R307 to R310), and fair queueing at it (R305, R306). Gated units are
numbered: 8 × engine + partition code for the Matrix Engine partitions, 32 and 33 the Ristretto units, 34 the vector path,
35 the forest re-entry.
-/

namespace Sys2Proof.Machine

open Sys2Proof

/-! ## Gate lists -/

/-- Entry `i` of list `l` (0 A, 1 B). -/
def Chan.gateEntry (ch : Chan) (l i : Nat) : GateEntry := sget (fun _ => {}) ch.vpe.gate.lists (64 * l + i)

def Chan.activeList (ch : Chan) : Nat := ch.fld R.VPE_GATE_STATUS F.VPE_GATE_STATUS_active_list

/-- The entry in force; none while the gate is off, and while no list has become operational (log 43). -/
def Chan.gateNow (ch : Chan) : Option GateEntry :=
  if ch.flag R.VPE_GATE_CTRL F.VPE_GATE_CTRL_enable && ch.vpe.gate.oper.isSome then
    some (ch.gateEntry ch.activeList (ch.fld R.VPE_GATE_STATUS F.VPE_GATE_STATUS_entry))
  else none

/-- Owner code of a unit in an entry (Table 11.6). -/
def GateEntry.owner (g : GateEntry) (unit : Nat) : Nat :=
  if unit < 32 then g.mxe.getD (unit / 8) 0 else if unit < 34 then g.rvu else if unit = 34 then g.vec else g.fst

/-- Group `g` is valid and has local tenant `i` as a member (R312). -/
def Chan.inGroup (ch : Chan) (g i : Nat) : Bool :=
  ch.flag (R.VPE_GROUP g) F.VPE_GROUP_valid && (ch.fld (R.VPE_GROUP g) F.VPE_GROUP_members).testBit i

/-- An owner code admits local tenant `i` (R307, R310). -/
def Chan.ownerAdmits (ch : Chan) (o i : Nat) : Bool :=
  if o < 0x10 then o == i else if o < 0x20 then ch.inGroup (o - 0x10) i else o == 0xFE

/-- Local tenant `i` holds a gated unit (R310). -/
def Chan.holdsUnit (ch : Chan) (unit i : Nat) : Bool :=
  match ch.gateNow with
  | none => true
  | some g => ch.ownerAdmits (g.owner unit) i

/-- Local tenant `i`'s host-bound queues may send (R313). -/
def Chan.hostOpen (ch : Chan) (i : Nat) : Bool :=
  match ch.gateNow with
  | none => true
  | some g => g.hostMask.testBit i

/-! ## Fair queueing -/

/-- Weight of local tenant `i` at a unit (R305); 0 acts as 1. -/
def Chan.wfqWeight (ch : Chan) (unit i : Nat) : Nat :=
  max 1 (ch.fld (R.VPE_WFQ i) (if unit < 32 then F.VPE_WFQ_w_mxe else if unit < 34 then F.VPE_WFQ_w_rvu
    else if unit = 34 then F.VPE_WFQ_w_vec else F.VPE_WFQ_w_fst))

def tagKey (unit i : Nat) : Nat := 16 * unit + i
def Chan.vtime (ch : Chan) (unit : Nat) : Nat := sget (fun _ => 0) ch.vpe.vtime unit
def Chan.wfqTag (ch : Chan) (unit i : Nat) : WfqTag := sget (fun _ => ({} : WfqTag)) ch.vpe.tags (tagKey unit i)
def Chan.setTag (ch : Chan) (unit i : Nat) (t : WfqTag) : Chan :=
  { ch with vpe := { ch.vpe with tags := sset (fun _ => ({} : WfqTag)) ch.vpe.tags (tagKey unit i) t } }

/-- The queue of local tenant `i` at a unit, oldest first. -/
def Chan.wfqQueue (ch : Chan) (unit i : Nat) : List WfqItem :=
  ch.vpe.wfq.filter fun x => x.unit == unit && x.tenant == i

/-- Finish tag of a command of a cost after start tag `s`. -/
def Chan.finishTag (ch : Chan) (unit i s cost : Nat) : Nat := s + ceilDiv (cost * 256) (ch.wfqWeight unit i)

/-- A command reaches the head of a queue (R306); `was`: the queue was empty. -/
def Chan.onHead (ch : Chan) (unit i cost : Nat) (was : Bool) : Chan :=
  let t := ch.wfqTag unit i
  let s :=
    if was then
      if ch.flag R.VPE_CTRL F.VPE_CTRL_credit_mode then
        max t.f (ch.vtime unit - ch.fld (R.VPE_WFQ i) F.VPE_WFQ_burst * 256 / ch.wfqWeight unit i)
      else max t.f (ch.vtime unit)
    else t.f
  ch.setTag unit i { s := s, f := ch.finishTag unit i s cost }

/-- Kind and age that order a tenant's queue (R226): NEURAL runs before TRAINING runs, older runs before newer ones. -/
def Chan.itemRank (ch : Chan) (x : WfqItem) : Nat × Nat :=
  if x.unit = 35 then (0, 0)
  else (ch.slotKind (ctxSlot x.ctx), match (ch.seqr x.ctx).run with | some r => r.at_ | none => ch.now)

/-- Rank `a` goes before rank `b`. -/
def rankLt (a b : Nat × Nat) : Bool := decide (a.1 < b.1 ∨ (a.1 = b.1 ∧ a.2 < b.2))

/-- Insert an item among those of its queue: behind every one of no later rank. -/
def insertItem (rank : WfqItem → Nat × Nat) (x : WfqItem) : List WfqItem → List WfqItem
  | [] => [x]
  | y :: ys =>
    if y.unit = x.unit ∧ y.tenant = x.tenant ∧ rankLt (rank x) (rank y) then x :: y :: ys
    else y :: insertItem rank x ys

/-- A command joins its tenant's queue at a unit (R305). One that goes before a waiting head takes over its start tag. -/
def Chan.wfqJoin (ch : Chan) (x : WfqItem) : Chan :=
  let q := ch.wfqQueue x.unit x.tenant
  let ch := { ch with vpe := { ch.vpe with wfq := insertItem ch.itemRank x ch.vpe.wfq } }
  match q with
  | [] => ch.onHead x.unit x.tenant x.cost true
  | y :: _ =>
    if (ch.wfqQueue x.unit x.tenant).head? = some y then ch
    else
      let t := ch.wfqTag x.unit x.tenant
      ch.setTag x.unit x.tenant { t with f := ch.finishTag x.unit x.tenant t.s x.cost }

/-- Local tenants whose queue at a unit holds work and who hold the unit. -/
def Chan.wfqEligible (ch : Chan) (unit : Nat) : List Nat :=
  (List.range 16).filter fun i => !(ch.wfqQueue unit i).isEmpty && ch.holdsUnit unit i

/-- The eligible queue with the smallest start tag, the lowest tenant on a tie (R306). -/
def Chan.wfqPick (ch : Chan) (unit : Nat) : Option Nat :=
  (ch.wfqEligible unit).foldl (fun b i => match b with
    | none => some i
    | some j => if (ch.wfqTag unit i).s < (ch.wfqTag unit j).s then some i else some j) none

/-- Remove the first occurrence of an item. -/
def dropItem (x : WfqItem) : List WfqItem → List WfqItem
  | [] => []
  | y :: ys => if y = x then ys else y :: dropItem x ys

/-- Take the head of the queue the unit chooses: the item and the channel with V and the tags advanced (R306). -/
def Chan.wfqTake (ch : Chan) (unit : Nat) : Option (WfqItem × Chan) :=
  match ch.wfqPick unit with
  | none => none
  | some i =>
    match ch.wfqQueue unit i with
    | [] => none
    | x :: rest =>
      let v := max (ch.vtime unit) (ch.wfqTag unit i).s
      let ch := { ch with vpe := { ch.vpe with vtime := sset (fun _ => 0) ch.vpe.vtime unit v
                                               wfq := dropItem x ch.vpe.wfq } }
      match rest with
      | [] => some (x, ch)
      | y :: _ => some (x, ch.onHead unit i y.cost false)

/-- Drop every item a test names; a queue whose head goes keeps its start tag for the next. -/
def Chan.wfqDrop (ch : Chan) (p : WfqItem → Bool) : Chan :=
  let gone := ch.vpe.wfq.filter p
  let ch := { ch with vpe := { ch.vpe with wfq := ch.vpe.wfq.filter fun x => !p x } }
  gone.foldl (fun (ch : Chan) x => match ch.wfqQueue x.unit x.tenant with
    | [] => ch
    | y :: _ =>
      let t := ch.wfqTag x.unit x.tenant
      ch.setTag x.unit x.tenant { t with f := ch.finishTag x.unit x.tenant t.s y.cost }) ch

end Sys2Proof.Machine
end

