-- ==== Sys2Proof/Machine/Verdict.lean ====
section
/-!
DEFINITION. Machine/Verdict.lean: composing verdicts (R294 to R298), meters (R300 to R304), host mirror copies (R313), and
handing records to the transmit lane (R42, R51, R250, R251).
-/

namespace Sys2Proof.Machine

open Sys2Proof

/-! ## Records -/

/-- vflags of a record (Table 02.4). -/
def VRec.flags (r : VRec) : Nat :=
  (if r.speculative then 2048 else 0) + (if r.dflt then 1024 else 0) + (if r.malformed then 512 else 0) +
  (if r.flowMiss then 256 else 0) + (if r.learn then 128 else 0) + (if r.widened then 64 else 0) + (if r.test then 32 else 0)

/-- The 16 bytes of a record (Table 02.3). -/
def VRec.bytes (r : VRec) : List Byte :=
  beBytes 4 r.seq.toNat ++ beBytes 2 (r.code.toNat * 4096 + r.flags) ++ beBytes 2 r.score.toNat ++
  beBytes 4 r.handle.toNat ++ [byte (r.colour.toNat * 64 + (if r.cls then 32 else 0) + r.classIdx.toNat), r.slot] ++
  beBytes 2 r.epoch.toNat

/-- The 16 bytes of a metadata block (Table 02.1). -/
def Meta.bytes (m : Meta) : List Byte :=
  beBytes 4 m.seq.toNat ++ beBytes 2 m.ingress.toNat ++ [byte (m.tenant.toNat + if m.cls then 128 else 0)] ++
  beBytes 2 m.origLen.toNat ++ beBytes 5 m.ts.toNat ++ [m.flags, m.sliceLen]

/-- Flag test of a descriptor (Table 02.2). -/
def Desc.test (d : Desc) : Bool := d.md.flags.getLsbD 3

/-! ## Slots of a descriptor -/

/-- What a slot contributes to a descriptor so far. -/
inductive Contribution where
  | pending | absent | present (ctx : Nat) (outs : List Nat)
  deriving DecidableEq, Repr

/-- Contribution of slot `n` to a descriptor in flight (R294). -/
def Job.contribution (j : Job) (n : Nat) : Contribution :=
  match j.forest.find? (fun c => ctxSlot c == n) with
  | some c =>
    (match sfind j.scores c with
      | some outs => .present c outs
      | none => if j.stage = .gateWait then .pending else .absent)
  | none =>
    match j.neural.find? (fun c => ctxSlot c == n) with
    | some c =>
      (match sfind j.nets c with
        | some (some outs) => .present c outs
        | some none => .absent
        | none => .pending)
    | none => .absent

/-- The contribution that decides, by primary and fallback slot (R294). -/
def Job.decide (j : Job) (primary fallback : Nat) : Contribution :=
  match j.contribution primary with
  | .absent => j.contribution fallback
  | c => c

/-! ## Score scaling (R295, R296) -/

/-- Index of the largest output that is a number, the lowest on a tie. -/
def argmax (outs : List Nat) : Option Nat :=
  outs.zipIdx.foldl (fun b x =>
    if fpIsNaN x.1 then b
    else match b with
      | none => some x.2
      | some i => if fpLt (outs.getD i 0) x.1 then some x.2 else b) none

/-- class_index and raw score (Table 11.1). -/
def rawScore (mode : Nat) (outs : List Nat) : Nat × Nat :=
  if outs.all fpIsNaN then (31, fpNaN)
  else if mode = 0 then (31, if fpIsNaN (outs.getD 0 0) then fpNaN else outs.getD 0 0)
  else
    match argmax outs with
    | none => (31, fpNaN)
    | some i =>
      let top := outs.getD i 0
      if mode = 1 then (i, top)
      else
        match argmax (outs.set i fpNaN) with
        | none => (i, fpNaN)
        | some k => (i, fpSub top (outs.getD k 0))

/-- The score field of a scaled score (R296). -/
def scoreField (x : Nat) : Nat :=
  let h := fpToHalf x
  if h = 0x7C00 then 0x7BFF else if h = 0xFC00 then 0xFBFF else h

/-! ## Meters (R300 to R304) -/

def noMeter (_ : Nat) : Meter := {}
def Chan.meter (ch : Chan) (n : Nat) : Meter := sget noMeter ch.vpe.meters n
def Chan.setMeter (ch : Chan) (n : Nat) (m : Meter) : Chan :=
  { ch with vpe := { ch.vpe with meters := sset noMeter ch.vpe.meters n m } }

/-- A meter update (R302): the colour (0 green, 1 yellow, 2 red) and the meter after it. -/
def Meter.update (m : Meter) (bytes pre now : Nat) : Nat × Meter :=
  let dt := min (now - m.last) (2 ^ 32 - 1)
  let m := { m with last := max m.last now }
  let b := bytes * 65536
  let pre := if m.aware then (if pre = 3 then 0 else pre) else 0
  if m.mode = 1 then
    let a := dt * m.cir
    let add := min a (m.cbs * 65536 - m.tc)
    let m := { m with tc := m.tc + add, te := min (m.te + (a - add)) (m.ebs * 65536) }
    if pre = 0 ∧ b ≤ m.tc then (0, { m with tc := m.tc - b })
    else if pre ≠ 2 ∧ b ≤ m.te then (1, { m with te := m.te - b })
    else (2, m)
  else
    let m := { m with te := min (m.te + dt * m.pir) (m.ebs * 65536), tc := min (m.tc + dt * m.cir) (m.cbs * 65536) }
    if pre = 2 ∨ m.te < b then (2, m)
    else if pre = 1 ∨ m.tc < b then (1, { m with te := m.te - b })
    else (0, { m with te := m.te - b, tc := m.tc - b })

/-- Advance the count of a colour. -/
def Meter.count (m : Meter) (c : Nat) : Meter :=
  match c with
  | 0 => { m with green := (m.green + 1) % 2 ^ 32 }
  | 1 => { m with yellow := (m.yellow + 1) % 2 ^ 32 }
  | _ => { m with red := (m.red + 1) % 2 ^ 32 }

/-- The meter a descriptor of local tenant `i` uses (R300); none when the index lies outside the tenant's region. -/
def Chan.meterOf (ch : Chan) (i : Nat) (a : Action) (handle : Option Nat) : Option Nat :=
  let r := R.VPE_MTR_REGION i
  let base := ch.fld r F.VPE_MTR_REGION_base
  let b := ch.fld r F.VPE_MTR_REGION_log2_meters
  let f := ch.fld r F.VPE_MTR_REGION_flow_log2
  if b = 0 then none
  else match (if a.meterMode = 2 ∧ f ≠ 0 then handle else none) with
    | some h => some (base + 2 ^ b - 2 ^ f + h % 2 ^ f)
    | none => if a.meterIdx < 2 ^ b then some (base + a.meterIdx) else none

/-- An uncorrectable error of a meter (R300): it is rewritten with its rates, bursts and buckets empty; `t` the tenant concerned. -/
def Chan.meterLost (ch : Chan) (n : Nat) (t : Option Nat) : Chan :=
  let ch := ch.setMeter n { ch.meter n with cir := 0, pir := 0, cbs := 0, ebs := 0, tc := 0, te := 0 }
  { ch with vpe := { ch.vpe with meterBad := ch.vpe.meterBad.filter (· ≠ n) } }.raise EV_VPE_METER_ECC t

/-- Colour a descriptor (R298, R300, R302): 3 when it is unmetered. A test descriptor that meets a meter with an uncorrectable error
has it rewritten, as any descriptor does (DESIGN CHOICE, log 146). -/
def Chan.colour (ch : Chan) (j : Job) (a : Action) : Nat × Chan :=
  match ch.meterOf j.tenant a j.handle with
  | none => (3, ch.inc R.VPE_CNT_REJECT)
  | some n =>
    let m := ch.meter n
    if ch.vpe.meterBad.contains n then (3, ch.meterLost n (some j.tenant))
    else if m.mode = 0 then (3, ch)
    else
      let adj := sgn 8 m.adjust
      let bytes := ((j.desc.md.origLen.toNat : Int) + adj).toNat
      let (c, m') := m.update bytes ((byteAt j.bus 60).toNat % 4) ch.ns
      let ch := if j.desc.test then ch else ch.setMeter n (m'.count c)
      (c, ch.inc (if c = 0 then R.VPE_CNT_GREEN else if c = 1 then R.VPE_CNT_YELLOW else R.VPE_CNT_RED))

/-! ## Composition -/

def Chan.action (ch : Chan) (n : Nat) : Action := sget (fun _ => {}) ch.vpe.actions n

/-- Tenant policy (R294). -/
def Chan.primarySlot (ch : Chan) (i : Nat) : Nat := ch.fld (R.VPE_TPOL i) F.VPE_TPOL_primary_slot
def Chan.fallbackSlot (ch : Chan) (i : Nat) : Nat := ch.fld (R.VPE_TPOL i) F.VPE_TPOL_fallback_slot
def Chan.defaultCode (ch : Chan) (i : Nat) : Nat := ch.fld (R.VPE_TPOL i) F.VPE_TPOL_default_code

/-- Local tenant `i` is in Gated mode (R249). -/
def Chan.gated (ch : Chan) (i : Nat) : Bool := (ch.fld R.CHK_VMODE F.CHK_VMODE_gated).testBit i

/-- The record with what every verdict of a descriptor carries. -/
def Chan.baseRec (ch : Chan) (j : Job) : VRec :=
  { seq := j.desc.md.seq, code := 0, flowMiss := decide (j.reason ≠ 0), learn := j.learn, widened := j.widened
    test := j.desc.test, handle := BitVec.ofNat 32 (j.handle.getD 0), cls := j.desc.md.cls
    epoch := BitVec.ofNat 16 ch.epoch }

/-- The default verdict (R294): no meter, score zero, class_index 31, slot 0xFF. -/
def Chan.defaultRec (ch : Chan) (j : Job) : VRec :=
  { ch.baseRec j with code := BitVec.ofNat 4 (ch.defaultCode j.tenant), dflt := true }

/-- Verdict of a contributing slot (R295 to R298): the record, the FP32 score, the action and the channel after metering. -/
def Chan.scoredRec (ch : Chan) (j : Job) (ctx : Nat) (outs : List Nat) : VRec × Nat × Action × Chan :=
  let n := ctxSlot ctx
  let (cls, raw) := rawScore (ch.fld (R.VPE_SLOT n) F.VPE_SLOT_score_mode) outs
  let score := fpMul raw (ch.fld (R.VPE_SLOT n) F.VPE_SLOT_score_mul)
  let a := ch.action (32 * n + cls)
  let r := { ch.baseRec j with score := BitVec.ofNat 16 (scoreField score), classIdx := BitVec.ofNat 5 cls
                               slot := BitVec.ofNat 8 n }
  if fpIsNaN score then
    ({ r with code := BitVec.ofNat 4 (ch.defaultCode j.tenant), dflt := true }, score, a,
      ch.count R.VPE_CNT_NAN_SCORE EV_VPE_NAN_SCORE (some j.tenant))
  else
    let t := a.threshold.toNat
    let base := if fpLt score t then a.low else a.high
    if a.meterMode ≠ 0 ∧ (base = 0 ∨ base = 2 ∨ base = 3 ∨ base = 4) then
      let (c, ch) := ch.colour j a
      let code := if c = 1 ∧ a.yellow ≠ 15 then a.yellow else if c = 2 ∧ a.red ≠ 15 then a.red else base
      ({ r with code := BitVec.ofNat 4 code, colour := BitVec.ofNat 2 c }, score, a, ch)
    else ({ r with code := BitVec.ofNat 4 base }, score, a, ch)

/-- Mirror record: metadata block, header slice, zeros, and the verdict record in bytes 240 to 255 (log 44). -/
def mirrorRec (d : Desc) (r : VRec) : List Byte := slice (d.md.bytes ++ d.slice) 0 240 ++ r.bytes

/-- Copy a descriptor into its tenant's mirror queue (R313). -/
def Chan.mirrorCopy (ch : Chan) (j : Job) (r : VRec) : Chan :=
  if j.desc.test then ch
  else
    let q := ch.hq j.tenant 0
    if q.length < 4096 then ch.setHq j.tenant 0 (q ++ [mirrorRec j.desc r])
    else ch.count R.VPE_CNT_MIRROR_DROP EV_VPE_HOST_DROP (some j.tenant)

/-- Link states of Table 02.9. -/
def Chan.linkState (ch : Chan) : Nat := ch.fld R.PDP_LINK_STATUS F.PDP_LINK_STATUS_link_state

/-- Hand a ready record to the transmit lane; a port that is DISABLED or DOWN takes none, and none leaves for a descriptor
dispatched before the port last was (R58, R59). -/
def Chan.pushTx (ch : Chan) (t : TxRec) : Chan :=
  let silent := match t.job with
    | some id => (match ch.job id with | some j => j.silent | none => false)
    | none => false
  if ch.linkState = 0 ∨ ch.linkState = 4 ∨ silent = true then ch
  else { ch with port := { ch.port with txq := ch.port.txq ++ [t] } }

/-- Is a verdict speculative: formed by the forest of a Speculative tenant, or on an unconfirmed peer delta (R250, R251, R258)? -/
def Chan.speculates (ch : Chan) (forest peer : Bool) (i : Nat) : Bool := (forest && !ch.gated i) || peer

/-- Send a composed verdict, or hold it for its check (R250, R251). -/
def Chan.dispatchVerdict (ch : Chan) (id : Nat) (r : VRec) (forest : Bool) (i : Nat) : Chan :=
  if forest ∧ ch.gated i = true then ch.modJob id fun j => { j with stage := .held, verdict := some r }
  else
    let ch := ch.modJob id fun j => { j with stage := .queued, verdict := some r, checked := !forest }
    let ch := if forest then ch else ch.undoFree id
    ch.pushTx { kind := .verdict, vr := r, job := some id }

/-- Count the epoch of a verdict on the sides it was formed on (R241). -/
def Chan.noteEpoch (ch : Chan) (ctxs : List Nat) : Chan :=
  ctxs.foldl (fun (ch : Chan) c => ch.setSide c { ch.side c with lastEpoch := some ch.epoch }) ch

/-- Results of a descriptor's slots that reach no record (R294). -/
def Job.shadows (j : Job) (decider : Option Nat) : Nat :=
  ((j.forest.filter fun c => some c ≠ decider ∧ (sfind j.scores c).isSome)).length +
  ((j.neural.filter fun c => some c != decider && (match sfind j.nets c with | some (some _) => true | _ => false))).length

/-- Compose the verdict of a descriptor if R294 decides it now. -/
def Chan.compose (ch : Chan) (id : Nat) : Chan :=
  match ch.job id with
  | none => ch
  | some j =>
    if j.verdict.isSome then ch
    else
      let d := if ch.flag R.VPE_CTRL F.VPE_CTRL_enable then j.decide (ch.primarySlot j.tenant) (ch.fallbackSlot j.tenant)
        else .absent
      match d with
      | .pending => ch
      | d =>
        let ch := (ch.inc (R.OBS_TCNT j.tenant 0)).work [25]
        let ch := ch.inc R.VPE_CNT_VERDICT
        let peer := !j.peers.isEmpty
        match d with
        | .present ctx outs =>
          let ch := ch.inc R.VPE_CNT_SHADOW (j.shadows (some ctx))
          let (r, score, a, ch) := ch.scoredRec j ctx outs
          let ch := ch.modJob id fun k => { k with score32 := score, epoch := ch.epoch, composed := ch.now }
          let ch := ch.noteEpoch [ctx]
          let forest := j.forest.contains ctx
          let r := { r with speculative := ch.speculates forest peer j.tenant }
          let ch := if a.hostCopy = false then ch
            else if forest ∧ ch.gated j.tenant = true then ch.modJob id fun k => { k with copy := true }
            else ch.mirrorCopy j r
          let ch := if r.dflt then ch.inc R.VPE_CNT_DEFAULT else ch
          ch.dispatchVerdict id r forest j.tenant
        | _ =>
          let ch := (ch.inc R.VPE_CNT_SHADOW (j.shadows none)).inc R.VPE_CNT_DEFAULT
          let ch := ch.modJob id fun k => { k with epoch := ch.epoch, composed := ch.now }
          ch.dispatchVerdict id { ch.defaultRec j with speculative := peer } false j.tenant

end Sys2Proof.Machine
end

