-- ==== Sys2Proof/Machine/Wire.lean ====
section
/-!
DEFINITION. Machine/Wire.lean: what the descriptor port puts on its lanes, byte by byte: control words and their blocks (R45, R47, R50),
blocks and frames of verdict records (R51, R53), and PAUSE frames (R54).
-/

namespace Sys2Proof.Machine

open Sys2Proof

/-! ## Control words (Table 02.6) -/

/-- The idle word. -/
def idleWord : List Byte := [0x00, 0x01] ++ List.replicate 14 0

/-- A credit grant. -/
def creditWord (limit : Nat) : List Byte := [0x01, 0x01] ++ List.replicate 6 0 ++ beBytes 8 limit

/-- A time word: its count, seconds and nanoseconds. -/
def timeWordBytes (count sec ns : Nat) : List Byte := [0x02, 0x01] ++ beBytes 2 count ++ beBytes 6 sec ++ beBytes 4 ns ++ [0, 0]

/-- An align word of a lane. -/
def alignWord (lane : Nat) : List Byte := [0x03, 0x01, byte lane] ++ List.replicate 13 0

/-! ## Blocks (Table 02.7) -/

/-- A control block: the words given, then idle words up to four. -/
def controlBlock (lane : Option Nat) (ws : List (List Byte)) : PortOut :=
  .block lane 2 ((ws ++ List.replicate 4 idleWord).take 4).flatten

/-- The alignment group, last lane first: on each lane a control block of align words (R50). -/
def alignGroup : List PortOut :=
  ((List.range 8).map fun l => controlBlock (some l) (List.replicate 4 (alignWord l))).reverse

/-- A block of one to three records and its trailer (R51). -/
def verdictBlock (lane : Option Nat) (rs : List VRec) : PortOut :=
  let body := slice (rs.flatMap VRec.bytes) 0 48 ++ [byte rs.length, 0, 0, 0]
  .block lane 1 (body ++ beBytes 4 (crc32c body).toNat ++ List.replicate 8 0)

/-! ## Frames -/

/-- A frame: addresses, what follows them, zeros up to the 64-byte minimum, and the FCS, least significant byte first as IEEE 802.3 sends
it. -/
def ethFrame (da sa : Nat) (body : List Byte) : PortOut :=
  let b := beBytes 6 da ++ beBytes 6 sa ++ body
  let b := b ++ List.replicate (60 - b.length) 0
  .frame (b ++ leBytes 4 (crc32 b).toNat)

/-- A frame of one to eight records (R53). -/
def verdictFrame (da sa : Nat) (rs : List VRec) : PortOut :=
  ethFrame da sa ([0x88, 0xB5, 0x02, 0x01, byte rs.length, 0] ++ rs.flatMap VRec.bytes)

/-- A frame that carries a time word in bytes 16 to 31 (R53). -/
def timeFrame (da sa count sec ns : Nat) : PortOut := ethFrame da sa ([0x88, 0xB5, 0x03, 0x01] ++ timeWordBytes count sec ns)

/-- A PAUSE frame of IEEE 802.3 Annex 31B (R54): its reserved group address, EtherType and opcode (PRESUMED, log 135: the standard's). -/
def pauseFrame (sa quanta : Nat) : PortOut := ethFrame 0x0180C2000001 sa ([0x88, 0x08, 0x00, 0x01] ++ beBytes 2 quanta)

end Sys2Proof.Machine
end

