-- ==== Sys2Proof/Machine/Port.lean ====
section
/-!
DEFINITION. Machine/Port.lean: the descriptor port and the Carafe (chapter 02): port states (R58, R59), receiving descriptors
with their checks and answers (R48, R49, R52, R61, R62), time words (R46), credits and PAUSE (R54, R55).
-/

namespace Sys2Proof.Machine

open Sys2Proof

/-! ## The Carafe -/

/-- Words of a record with slice length `n` (R48). -/
def recordWords (n : Nat) : Nat := max 6 ((n + 20 + 15) / 16)

/-- Carafe capacity and overrun slack in words (R55, R56). -/
def carafeWords : Nat := 524288
def carafeSlack : Nat := 4096

/-- Words held. -/
def Chan.carafeOcc (ch : Chan) : Nat := (ch.port.carafe.map (·.words)).foldl (· + ·) 0

/-- Show the occupancy in CRF_STATUS (Table 02.15). -/
def Chan.carafeStatus (ch : Chan) : Chan :=
  let n := ch.carafeOcc
  let ch := ch.setFld R.CRF_STATUS F.CRF_STATUS_occupancy n
  let ch := if ch.fld R.CRF_STATUS F.CRF_STATUS_high_water < n then ch.setFld R.CRF_STATUS F.CRF_STATUS_high_water n else ch
  ch.setFlag R.CRF_STATUS F.CRF_STATUS_slack_in_use (decide (carafeWords - carafeSlack < n))

def Chan.setCarafe (ch : Chan) (ds : List Desc) : Chan := { ch with port := { ch.port with carafe := ds } }.carafeStatus

/-! ## The port -/

/-- Ethernet mirror mode. -/
def Chan.mirror (ch : Chan) : Bool := ch.flag R.PDP_CTRL F.PDP_CTRL_mode

/-- Enter a link state; the fail pin is driven low in SERVING alone (R463). -/
def Chan.setLink (ch : Chan) (st : Nat) : Chan :=
  { ch.setFld R.PDP_LINK_STATUS F.PDP_LINK_STATUS_link_state st with pwr := { ch.pwr with failPin := st != 3 } }

/-- The port sends something. -/
def Chan.portSend (ch : Chan) (o : PortOut) : Chan := { ch with port := { ch.port with out := o :: ch.port.out } }

/-- Addresses of the device's frames (R53). -/
def Chan.ethDa (ch : Chan) : Nat := ch.fld R.PDP_ETH_DA F.PDP_ETH_DA_address
def Chan.ethSa (ch : Chan) : Nat := ch.fld R.PDP_ETH_SA F.PDP_ETH_SA_address

/-- Send a credit grant (R45, R55). -/
def Chan.sendCredit (ch : Chan) : Chan :=
  (ch.portSend (controlBlock none [creditWord ch.port.limit])).wr R.CRF_CREDIT (BitVec.ofNat 64 ch.port.limit)

/-- Credits are in use: native framing, CREDIT_INIT or SERVING. -/
def Chan.creditsOn (ch : Chan) : Bool := !ch.mirror && (ch.linkState == 2 || ch.linkState == 3)

/-- `n` words are freed, or were never stored: the limit grows, and is granted after 1,024 words (R55). -/
def Chan.freeWords (ch : Chan) (n : Nat) : Chan :=
  let ch := { ch with port := { ch.port with limit := ch.port.limit + n } }
  if ch.creditsOn && decide ((ch.rd R.CRF_CREDIT).toNat + 1024 ≤ ch.port.limit) then ch.sendCredit else ch

/-- Send the device's time word: in a frame, or in a control block that carries a credit grant where credits are in use (R46, R53, R55). -/
def Chan.sendTime (ch : Chan) : Chan :=
  let n := ch.port.timeCount.toNat
  let s := ch.ns / 1000000000
  let f := ch.ns % 1000000000
  let grant := if ch.creditsOn then [creditWord ch.port.limit] else []
  let ch := ch.portSend (if ch.mirror then timeFrame ch.ethDa ch.ethSa n s f else controlBlock none (grant ++ [timeWordBytes n s f]))
  let ch := { ch with port := { ch.port with timeCount := ch.port.timeCount + 1, timeAt := ch.now } }
  if ch.creditsOn then ch.wr R.CRF_CREDIT (BitVec.ofNat 64 ch.port.limit) else ch

/-- Stop answering what the port holds and what it has dispatched: on entry to DISABLED or DOWN (R56, R58). -/
def Chan.portDiscard (ch : Chan) : Chan :=
  let jobs := ch.jobs.map fun j => if j.stage = .sent ∨ j.stage = .done then j else { j with silent := true }
  let ch := { ch with jobs := jobs
                      port := { ch.port with txq := [], seqValid := false, framing := .lost, paused := false } }
  ch.setCarafe []

/-- No lane holds codeword lock and none is deskewed (Table 02.12). -/
def Chan.lanesClear (ch : Chan) : Chan :=
  (ch.setFld R.PDP_LINK_STATUS F.PDP_LINK_STATUS_lane_locked 0).setFlag R.PDP_LINK_STATUS F.PDP_LINK_STATUS_aligned false

/-- Enter DISABLED (R58): the lanes are idle. -/
def Chan.portDisable (ch : Chan) : Chan := if ch.linkState = 0 then ch else (ch.setLink 0).lanesClear.portDiscard

/-- Leave DISABLED for ALIGN (R58): the lanes lock anew, and the expected sequence restarts. -/
def Chan.portAlign (ch : Chan) : Chan :=
  let ch := (ch.setLink 1).lanesClear
  { ch with port := { ch.port with seqValid := false, framing := .lost } }

/-- The CHANNEL_DOWN record (R59). -/
def Chan.downRecord (ch : Chan) : VRec :=
  let w := ch.rd R.PDP_FAIL_POLICY
  { seq := ch.port.lastSeq, code := 7
    handle := BitVec.ofNat 32 (getF w F.PDP_FAIL_POLICY_fail_closed * 65536 + getF w F.PDP_FAIL_POLICY_tenant_present)
    epoch := BitVec.ofNat 16 (ch.ns / 2000) }

/-- Send CHANNEL_DOWN on every transmit lane: eight consecutive blocks, one a lane (R47, R59), or a frame. -/
def Chan.sendDown (ch : Chan) : Chan :=
  let r := ch.downRecord
  let ch := { ch with port := { ch.port with downAt := ch.now } }
  if ch.mirror then ch.portSend (verdictFrame ch.ethDa ch.ethSa [r])
  else (List.range 8).foldl (fun (ch : Chan) l => ch.portSend (verdictBlock (some l) [r])) ch

/-! ## Answers and sequence -/

def Chan.expected (ch : Chan) : BitVec 32 := BitVec.ofNat 32 (ch.fld R.PDP_LINK_STATUS F.PDP_LINK_STATUS_expected_seq)
def Chan.setExpected (ch : Chan) (q : BitVec 32) : Chan :=
  { ch.setFld R.PDP_LINK_STATUS F.PDP_LINK_STATUS_expected_seq q.toNat with port := { ch.port with seqValid := true } }

/-- A malformed answer (R61). -/
def Chan.malformed (ch : Chan) (q : BitVec 32) (cls unknown : Bool) : Chan :=
  let f := if unknown then F.PDP_CTRL_unknown_tenant_verdict else F.PDP_CTRL_malformed_verdict
  ch.pushTx { kind := .malformed
              vr := { seq := q, code := BitVec.ofNat 4 (ch.fld R.PDP_CTRL f), malformed := true, cls := cls
                      epoch := BitVec.ofNat 16 ch.epoch } }

/-- Answer a descriptor whose check failed before its sequence could be trusted: it takes the expected sequence, which advances
(R41, R61). The first descriptor of a service sets it. No class of it can be trusted either: class_echo is free (log 82). -/
def Chan.badPosition (ch : Chan) (m : Meta) : Chan :=
  let q := if ch.port.seqValid then ch.expected else m.seq
  (ch.setExpected (q + 1)).malformed q (Config.noClass ch.idx q.toNat) false

/-- The sequence rule (R41, R62): gaps of up to 4,096 are answered, any other mismatch restarts. -/
def Chan.sequence (ch : Chan) (q : BitVec 32) : Chan :=
  let e := if ch.port.seqValid then ch.expected else q
  let d := (q - e).toNat
  let ch := if 1 ≤ d ∧ d ≤ 4096 then
      let ch := (List.range d).foldl (fun (ch : Chan) k =>
        let s := e + BitVec.ofNat 32 k
        ch.malformed s (Config.noClass ch.idx s.toNat) false) ch
      ch.count R.PDP_CNT_SEQ_FILL EV_PDP_SEQ_GAP none d
    else if d ≠ 0 then ch.count R.PDP_CNT_SEQ_RESTART EV_PDP_SEQ_RESTART
    else ch
  ch.setExpected (q + 1)

/-- Metadata of 16 bytes (Table 02.1). -/
def metaOf (b : List Byte) : Meta :=
  { seq := BitVec.ofNat 32 (be b 0 4), ingress := BitVec.ofNat 16 (be b 4 2), cls := (be b 6 1).testBit 7
    tenant := BitVec.ofNat 7 (be b 6 1), origLen := BitVec.ofNat 16 (be b 7 2), ts := BitVec.ofNat 40 (be b 9 5)
    flags := BitVec.ofNat 8 (be b 14 1), sliceLen := BitVec.ofNat 8 (be b 15 1) }

/-- The full time of a 40-bit timestamp: the one nearest to the latest accepted time word (R46). Without one, to the Sidereal
counter (log 52). -/
def Chan.fullTime (ch : Chan) (ts : Nat) : Nat :=
  let ref := match ch.port.timeBase with | some b => b.1 | none => ch.ns
  let m := 2 ^ 40
  let back := (ref + m - ts) % m
  let half := m / 2
  if ref < back then ts
  else if half < back ∨ (half = back ∧ Config.tsTie ch.idx ref) then ref - back + m
  else ref - back

/-! ## PAUSE (R54) -/

/-- Occupancy levels of R54 in words. -/
def pauseHigh : Nat := 491520
def pauseLow : Nat := 458752

/-- PAUSE frames are in use. -/
def Chan.pausing (ch : Chan) : Bool := ch.mirror && ch.flag R.PDP_CTRL F.PDP_CTRL_pause_enable

/-- Send a PAUSE frame. -/
def Chan.sendPause (ch : Chan) (quanta : Nat) : Chan := ch.portSend (pauseFrame ch.ethSa quanta)

/-- Assert PAUSE when the occupancy, `old` before, rises above the upper level. -/
def Chan.pauseCheck (ch : Chan) (old : Nat) : Chan :=
  if ch.pausing && decide (old ≤ pauseHigh ∧ pauseHigh < ch.carafeOcc) then
    let ch := ch.sendPause 0xFFFF
    { ch with port := { ch.port with paused := true, pauseAt := ch.now } }
  else ch

/-! ## Receiving a descriptor -/

/-- Its port checks passed as far as the sequence: tenant, Carafe room and credits (R39, R61, R62). Table 02.10 does not order its rows:
of two violations the unknown tenant wins over the credit overrun, which is then not counted (DESIGN CHOICE, log 136). -/
def Chan.acceptDesc (ch : Chan) (m : Meta) (sl : List Byte) (words : Nat) : Chan :=
  let ch := ch.sequence m.seq
  let ch := if 16 ≤ m.flags.toNat then ch.count R.PDP_CNT_RESERVED EV_PDP_RESERVED else ch
  let m := { m with flags := m.flags &&& 0x0F }
  let t := m.tenant.toNat
  if !ch.ownsTid t || !ch.tenantExists (t % 16) then
    ((ch.count R.PDP_CNT_UNKNOWN_TENANT EV_PDP_UNKNOWN_TENANT).malformed m.seq m.cls true).freeWords words
  else
    let beyond := if ch.mirror then decide (carafeWords < ch.carafeOcc + words)
      else decide ((ch.rd R.CRF_CREDIT).toNat < (ch.rd R.CRF_RECEIVED).toNat)
    let ch := if beyond then ch.count R.PDP_CNT_CREDIT_OVERRUN EV_PDP_CREDIT_OVERRUN (some (t % 16)) else ch
    if carafeWords < ch.carafeOcc + words then (ch.malformed m.seq m.cls false).freeWords words
    else
      let d : Desc := { md := m, slice := sl, words := words, arrived := ch.ns
                        time := if m.flags.getLsbD 1 then ch.fullTime m.ts.toNat else ch.ns }
      let old := ch.carafeOcc
      let ch := ch.setCarafe (ch.port.carafe ++ [d])
      { ch with port := { ch.port with lastSeq := m.seq } }.pauseCheck old

/-- `n` words were received and stored nowhere (R62): their credits return. -/
def Chan.discardWords (ch : Chan) (n : Nat) : Chan :=
  ((ch.inc R.PDP_CNT_DISCARD_WORDS n).inc R.CRF_RECEIVED n).freeWords n

/-- Native framing is lost (R62); `n` words are discarded. -/
def Chan.framingLoss (ch : Chan) (n : Nat) : Chan :=
  let ch := { ch with port := { ch.port with framing := .lost } }
  if ch.linkState = 3 then (ch.count R.PDP_CNT_FRAMING_LOSS EV_PDP_FRAMING_LOSS).discardWords n else ch

/-- DESCRIPTOR_RECEIVE (R48, R49, R62): `bs` the bytes of a record, or as many as the tail block that ends them holds; `filler`:
its first word would fall in a tail block's filler. Of several violations the length is judged first, then the CRC, and the flags of a
descriptor that fails either are not looked at, reserved ones included (DESIGN CHOICE, log 136). -/
def Chan.descriptorReceive (ch : Chan) (bs : List Byte) (filler : Bool) : Chan :=
  if ch.mirror || ch.linkState != 3 || !ch.isOn then ch
  else
    let sl := be bs 15 1
    let l := recordWords sl
    let n := min l ((bs.length + 15) / 16)
    if ch.port.framing = .lost then ch.discardWords n
    else if filler then ch.framingLoss n
    else
      let ch := { ch with port := { ch.port with framing := .ok } }
      let ch := (ch.inc R.PDP_CNT_DESC).inc R.CRF_RECEIVED n
      let m := metaOf (slice bs 0 16)
      if 172 < sl ∨ bs.length < 16 * l then
        let ch := { ch with port := { ch.port with framing := .lost } }
        ((ch.count R.PDP_CNT_BAD_LENGTH EV_PDP_BAD_LENGTH).badPosition m).freeWords n
      else if (crc32c (bs.take (16 * l - 4))).toNat ≠ be bs (16 * l - 4) 4 then
        ((ch.count R.PDP_CNT_BAD_CRC EV_PDP_BAD_CRC).badPosition m).freeWords l
      else ch.acceptDesc m (slice bs 16 sl) l

/-- FOREIGN_FRAME (R52, R62). -/
def Chan.foreignFrame (ch : Chan) : Chan :=
  if ch.mirror && ch.linkState == 3 then ch.count R.PDP_CNT_FOREIGN EV_PDP_FOREIGN else ch

/-- MIRROR_RESERVED_FRAME (R53). -/
def Chan.mirrorReserved (ch : Chan) : Chan :=
  if ch.mirror && ch.linkState == 3 then ch.count R.PDP_CNT_RESERVED EV_PDP_RESERVED else ch

/-- PAUSE_FRAME_RECEIVE (R54). -/
def Chan.pauseReceive (ch : Chan) : Chan := if ch.mirror && ch.linkState == 3 then ch.inc R.PDP_CNT_PAUSE_RX else ch

/-- PAUSE_REPEAT (R54): after 10 µs above the lower level the frame is repeated; below it a PAUSE with quanta 0 ends it. None is sent
while pause_enable is 0. -/
def Chan.pauseRepeat (ch : Chan) : Chan :=
  if !ch.mirror || !ch.port.paused || ch.linkState == 0 then ch
  else if ch.carafeOcc < pauseLow then
    let ch := if ch.pausing then ch.sendPause 0 else ch
    { ch with port := { ch.port with paused := false } }
  else if pauseLow < ch.carafeOcc ∧ ch.since ch.port.pauseAt (10 * usG) = true ∧ ch.pausing = true then
    let ch := ch.sendPause 0xFFFF
    { ch with port := { ch.port with pauseAt := ch.now } }
  else ch

/-! ## Control words -/

/-- A control block has been seen: framing returns with the next data block (R49). -/
def Chan.controlSeen (ch : Chan) : Chan :=
  if ch.port.framing = .lost then { ch with port := { ch.port with framing := .control } } else ch

/-- Two time words agree: their difference is the time elapsed between their receipts within 100 ns (R62). -/
def timeAgrees (a b : Nat × Nat) : Bool :=
  let d : Int := ((b.1 : Int) - a.1) * 1000 - ((b.2 : Int) - a.2)
  decide (d.natAbs ≤ 100000)

/-- Enter SERVING (R58). -/
def Chan.portServe (ch : Chan) : Chan := ch.setLink 3

/-- TIME_WORD_RECEIVE (R45, R46, R58, R62): seconds and nanoseconds of a switch time word, as a control word or a frame. The receive time
elapsed between words is read from the Sidereal counter, steps and slews of R462 included (DESIGN CHOICE, log 138). -/
def Chan.timeWord (ch : Chan) (sec ns : Nat) : Chan :=
  if ch.linkState ≠ 3 ∧ (ch.mirror = true ∨ ch.linkState ≠ 2) then ch
  else
    let ch := if ch.mirror then ch else ch.controlSeen
    let w := (sec % 2 ^ 48 * 1000000000 + ns % 2 ^ 32, ch.ps)
    let good := match ch.port.timeBase with | some b => timeAgrees b w | none => true
    let ch :=
      if good then { ch with port := { ch.port with timeBase := some w, jumps := [] } }
      else
        let ch := ch.count R.PDP_CNT_TIME_JUMP EV_PDP_TIME_JUMP
        let keep := ch.port.jumps.takeWhile fun j => timeAgrees j w
        if 2 ≤ keep.length then { ch with port := { ch.port with timeBase := some w, jumps := [] } }
        else { ch with port := { ch.port with jumps := w :: keep } }
    if ch.linkState = 2 then ch.portServe else ch

/-- A frame of subtype 0x03 (R53): its bytes 16 to 31 are a control word, a time word or an ignored one (R45). One whose FCS fails tells
nothing and is discarded (DESIGN CHOICE, log 136: it holds the position of no descriptor). -/
def Chan.timeFrameReceive (ch : Chan) (bs : List Byte) : Chan :=
  let n := bs.length
  let w := slice bs 16 16
  if n < 64 ∨ (crc32 (bs.take (n - 4))).toNat ≠ le bs (n - 4) 4 then ch
  else if be w 0 1 ≠ 2 ∨ be w 1 1 ≠ 1 then ch.mirrorReserved
  else ch.timeWord (be w 4 6) (be w 10 4)

/-- MIRROR_DESCRIPTOR_FRAME (R52): the bytes of a frame from the destination address through the FCS. -/
def Chan.mirrorFrame (ch : Chan) (bs : List Byte) : Chan :=
  let n := bs.length
  if !ch.mirror || ch.linkState != 3 || !ch.isOn then ch
  else if be bs 12 2 ≠ 0x88B5 then ch.foreignFrame
  else if be bs 15 1 ≠ 1 ∨ (be bs 14 1 ≠ 1 ∧ be bs 14 1 ≠ 3) then ch.mirrorReserved
  else if be bs 14 1 = 3 then ch.timeFrameReceive bs
  else
    let m := metaOf (slice bs 16 16)
    let sl := m.sliceLen.toNat
    let ch := ch.inc R.PDP_CNT_DESC
    if (crc32 (bs.take (n - 4))).toNat ≠ le bs (n - 4) 4 then (ch.count R.PDP_CNT_BAD_CRC EV_PDP_BAD_CRC).badPosition m
    else if n < 96 ∨ 192 < n ∨ sl + 36 ≠ n then (ch.count R.PDP_CNT_BAD_LENGTH EV_PDP_BAD_LENGTH).badPosition m
    else (ch.inc R.CRF_RECEIVED (recordWords sl)).acceptDesc m (slice bs 32 sl) (recordWords sl)

/-- IGNORED_CONTROL_WORD (R45). -/
def Chan.ignoredControl (ch : Chan) : Chan :=
  if ch.creditsOn then ch.controlSeen.count R.PDP_CNT_RESERVED EV_PDP_RESERVED else ch

/-- IDLE_CONTROL_WORD (R49). -/
def Chan.idleControl (ch : Chan) : Chan := if ch.creditsOn then ch.controlSeen else ch

/-- ALIGN_GROUP_RECEIVE (R50): `order` the align numbers seen on lanes 0 to 7, in any order; the group deskews the lanes. -/
def Chan.alignReceive (ch : Chan) (order : List Nat) : Chan :=
  let ok := order.length == 8 && (List.range 8).all fun i => order.contains i
  if ch.mirror || ch.linkState == 0 || !ok then ch
  else
    let ch := { ch with port := { ch.port with laneOrder := order } }
    if ch.creditsOn then ch.controlSeen else ch

/-- DEVICE_TIME_WORD_SEND (R46): due 950 ns after the one before. -/
def Chan.timeSend (ch : Chan) : Chan :=
  if ch.linkState ≠ 0 ∧ ch.since ch.port.timeAt (950 * nsG) = true then ch.sendTime else ch

/-- ALIGN_GROUP_SEND (R50): 8,192 codewords of ten 2.56 ns blocks after the one before. -/
def Chan.alignSend (ch : Chan) : Chan :=
  if ch.mirror = false ∧ ch.linkState ≠ 0 ∧ ch.since ch.port.alignAt 13212058 = true then
    { ch with port := { ch.port with out := alignGroup ++ ch.port.out, alignAt := ch.now } }
  else ch

/-! ## Port state commands -/

/-- PDP_PORT_ENABLE (R58, R391): a channel that is not READY, or fail-stopped, keeps its port DISABLED. -/
def Chan.portEnable (ch : Chan) : Chan :=
  let ch := ch.setFlag R.PDP_CTRL F.PDP_CTRL_port_enable true
  if ch.linkState = 0 ∧ ch.pwr.ready = true ∧ ch.failStopped = false then ch.portAlign else ch

/-- PDP_PORT_DISABLE (R58). -/
def Chan.portDisableCmd (ch : Chan) : Chan := (ch.setFlag R.PDP_CTRL F.PDP_CTRL_port_enable false).portDisable

/-- PDP_CTRL as written: its mode is locked unless the port is DISABLED, and in Safe Serve (R64). -/
def Chan.pdpCtrlWrite (ch : Chan) (v : Word) : Chan :=
  let fs := [F.PDP_CTRL_malformed_verdict, F.PDP_CTRL_unknown_tenant_verdict, F.PDP_CTRL_pause_enable]
  let ch := ch.wr R.PDP_CTRL (mergeF (ch.rd R.PDP_CTRL) v (if ch.linkState = 0 ∧ ch.safeServe = false then F.PDP_CTRL_mode :: fs else fs))
  if getF v F.PDP_CTRL_port_enable = 1 then ch.portEnable else ch.portDisableCmd

/-- PDP_LANES_ALIGNED (R55, R58): CREDIT_INIT with its first grant and time word in native framing, SERVING in mirror mode. -/
def Chan.lanesAligned (ch : Chan) : Chan :=
  if ch.linkState = 0 then ch
  else
    let ch := (ch.setFld R.PDP_LINK_STATUS F.PDP_LINK_STATUS_lane_locked 0xFF).setFlag R.PDP_LINK_STATUS
      F.PDP_LINK_STATUS_aligned true
    if ch.linkState ≠ 1 then ch
    else if ch.mirror then ch.portServe
    else
      let ch := (ch.setLink 2).wr R.CRF_RECEIVED 0
      let ch := { ch with port := { ch.port with limit := carafeWords - ch.carafeOcc - carafeSlack, framing := .lost } }
      ch.sendTime

/-- Loss of alignment (R58): `locked` the lanes that keep codeword lock. -/
def Chan.alignmentLost (ch : Chan) (locked : Nat) : Chan :=
  if ch.linkState = 0 then ch
  else
    let ch := (ch.setFld R.PDP_LINK_STATUS F.PDP_LINK_STATUS_lane_locked locked).setFlag R.PDP_LINK_STATUS
      F.PDP_LINK_STATUS_aligned false
    if ch.linkState = 3 then
      let ch := ch.setLink 1
      { ch with port := { ch.port with framing := .lost } }
    else ch

/-- UNCORRECTABLE_CODEWORD (R49, R58, R62): on lane `lane`; `codeword` false for an invalid block header alone; `words`: words
discarded with it. More than 64 in 1 µs leave SERVING for ALIGN; lane_locked and aligned keep what they show until PDP_ALIGNMENT_LOST or
PDP_LANES_ALIGNED says otherwise (DESIGN CHOICE, log 137). -/
def Chan.badCodeword (ch : Chan) (lane : Nat) (codeword : Bool) (words : Nat) : Chan :=
  if ch.linkState = 0 then ch
  else
    let ch := if ch.mirror then ch else ch.framingLoss words
    if !codeword then ch
    else
      let bad : List (Nat × Nat) := ((lane, ch.now) :: ch.port.badWords).filter fun b => decide (ch.now < b.2 + usG)
      let ch := { ch with port := { ch.port with badWords := bad } }
      if ch.linkState = 3 ∧ 64 < (bad.filter fun b => b.1 == lane).length then
        let ch := ch.setLink 1
        { ch with port := { ch.port with framing := .lost } }
      else ch

/-- CRF_RESET_HIGH_WATER (R64). -/
def Chan.resetHighWater (ch : Chan) : Chan := ch.setFld R.CRF_STATUS F.CRF_STATUS_high_water ch.carafeOcc

/-- CHANNEL_DOWN_REPEAT (R59): due 950 ns after the one before, while the port is DOWN. -/
def Chan.downRepeat (ch : Chan) : Chan :=
  if ch.linkState = 4 ∧ ch.since ch.port.downAt (950 * nsG) = true then ch.sendDown else ch

end Sys2Proof.Machine
end

