-- ==== Sys2Proof/Machine/MxeMath.lean ====
section
/-!
DEFINITION. Machine/MxeMath.lean: shapes of tiles (Table 06.2), one streamed row against a stationary operand (R165, R176,
R122), the overflow shift (R204), the checksum compares (R245, R246), Ristretto dot products (R183, R185) and the drain path
(R200 to R202).
-/

namespace Sys2Proof.Machine

open Sys2Proof

/-! ## Shapes -/

/-- Quadrants of a partition code (Table 06.3): 0 NW, 1 NE, 2 SW, 3 SE. -/
def partQuads : Nat → List Nat
  | 0 => [0, 1, 2, 3] | 1 => [0, 2] | 2 => [1, 3] | 3 => [0] | 4 => [1] | 5 => [2] | 6 => [3] | _ => []

/-- Size class of a partition: 0 full, 1 half, 2 quadrant. -/
def partSize : Nat → Nat
  | 0 => 0 | 1 => 1 | 2 => 1 | _ => 2

/-- Mode that has the partition: FULL, HALVES, QUADRANTS (R168). -/
def partMode (p : Nat) : Nat := partSize p

/-- K_t × N_t (Table 06.2). -/
def tileShape (f : Fmt) (p : Nat) : Nat × Nat :=
  match f, partSize p with
  | .n4, 0 => (256, 128) | .n4, 1 => (256, 64) | .n4, _ => (128, 64)
  | .bf16, 0 => (64, 64) | .bf16, 1 => (64, 32) | .bf16, _ => (32, 32)
  | _, 0 => (128, 128) | _, 1 => (128, 64) | _, _ => (64, 64)

/-- Bytes of a stationary operand. -/
def stationaryBytes (f : Fmt) (p : Nat) : Nat := codeBytes f ((tileShape f p).1 * (tileShape f p).2)

/-- Bytes of a streamed row of `n` elements. -/
def rowBytes (f : Fmt) (n : Nat) : Nat := codeBytes f n

/-- k rows of a quadrant's row half, n columns of its column half. -/
def halfK : Fmt → Nat
  | .n4 => 128 | .bf16 => 32 | _ => 64
def halfN : Fmt → Nat
  | .bf16 => 32 | _ => 64

/-- Rows a WEIGHT_MXE tile holds (Table 08.8). -/
def tileRows (f : Fmt) (narrow : Bool) : Nat :=
  match f with
  | .n4 => if narrow then 64 else 32
  | _ => if narrow then 32 else 16

/-- Rows an accumulator set can hold (R189, Table 07.1). -/
def setRows (f : Fmt) (p : Nat) (mmt : Bool) : Nat :=
  let words := match partSize p with | 0 => 16384 | 1 => 8192 | _ => 4096
  words / (if mmt then (tileShape f p).1 else (tileShape f p).2)

/-- G of R174: spacing of passes with new weights. -/
def passGap (p : Nat) : Nat := match partSize p with | 0 => 266 | 1 => 200 | _ => 134

/-- Cycles of a drain read (Table 07.1). -/
def drainRead (p : Nat) : Nat := match partSize p with | 0 => 8 | 1 => 4 | _ => 2

/-! ## Levels -/

/-- Level divided by 2^s, halves to the even integer (R204). -/
def shiftLevel (s : Nat) (v : Int) : Int :=
  let d : Int := (2 ^ s : Nat)
  let q := v / d
  let r := v % d
  if d < 2 * r ∨ (2 * r = d ∧ q % 2 = 1) then q + 1 else q

/-- Streamed code as an integer level, NaN codes as zero. -/
def intOf (f : Fmt) (s : Nat) (c : Nat) : Int := if isNaNCode f c then 0 else shiftLevel s (intLevel f c)

/-- One product of floating formats and whether it marks (R122, R165). -/
def fpProd (f : Fmt) (a b : Nat) : Nat × Bool :=
  if isNaNCode f a || isNaNCode f b then (0, true)
  else
    let p := fpMul (levelFp f a) (levelFp f b)
    if fpIsNaN p then (0, true) else (p, false)

/-- Element (k, n) of a stationary operand. -/
def Weights.at (w : Weights) (f : Fmt) (p k n : Nat) : Nat := codeAt f w.data (k * (tileShape f p).2 + n)

/-- The code an operation multiplies on stationary axis position (stream index i, output index j). -/
def Weights.elem (w : Weights) (f : Fmt) (p : Nat) (mmt : Bool) (i j : Nat) : Nat :=
  if mmt then w.at f p j i else w.at f p i j

/-- Streamed codes of a row, zeros beyond the count. -/
def streamCodes (f : Fmt) (row : List Byte) (cnt n : Nat) : List Nat :=
  (List.range n).map fun i => if i < cnt then codeAt f row i else zeroCode f

/-- Sum of one output over stream positions from `lo` for `len`, with its mark: INT32 for integer formats. -/
def outSum (f : Fmt) (p : Nat) (mmt : Bool) (s : Nat) (w : Weights) (as : List Nat) (j lo len : Nat) : AccWord :=
  let is := (List.range len).map (· + lo)
  if f.isInt then
    let v := is.foldl (fun (a : Int) i => a + intOf f s (as.getD i 0) * intOf f 0 (w.elem f p mmt i j)) 0
    let nan := is.any fun i => isNaNCode f (as.getD i 0) || isNaNCode f (w.elem f p mmt i j)
    { bits := BitVec.ofInt 32 v, nan := nan }
  else
    let r := is.foldl (fun (a : Nat × Bool) i =>
      let (x, m) := fpProd f (as.getD i 0) (w.elem f p mmt i j)
      (fpAdd a.1 x, a.2 || m)) (0, false)
    { bits := BitVec.ofNat 32 r.1, nan := r.2 }

/-- The result row of an operation (R165): `sn` the stream width, `on` the output width. -/
def resultRow (f : Fmt) (p : Nat) (mmt : Bool) (s : Nat) (w : Weights) (as : List Nat) : List AccWord :=
  let (kt, nt) := tileShape f p
  let (sn, on) := if mmt then (nt, kt) else (kt, nt)
  (List.range on).map fun j => outSum f p mmt s w as j 0 sn

/-! ## Checksum compares (R245) -/

/-- Sum entry that the load port holds for stream index `i` over output half `h` (R162, R230, R279): from the tiles' sum
blocks, or computed from the operand when it carries no seal. -/
def Weights.sumOf (w : Weights) (f : Fmt) (p : Nat) (mmt : Bool) (i h : Nat) : Nat :=
  let (kt, _) := tileShape f p
  let hn := if mmt then halfK f else halfN f
  match w.sums with
  | some blocks =>
    let r := tileRows f w.narrow
    if mmt then
      -- checksum row of row half h at column i: col_sum over the tiles of that half
      let tiles := (List.range (kt / r)).filter fun t => t * r / halfK f == h
      if f.isInt then
        unsgn 32 (tiles.foldl (fun (a : Int) t => a + sgn 32 (le (blocks.getD t []) (256 + 4 * i) 4)) 0)
      else fpSumList (tiles.map fun t => le (blocks.getD t []) (256 + 4 * i) 4)
    else le (blocks.getD (i / r) []) (4 * (h * r + i % r)) 4
  | none =>
    let js := (List.range hn).map (· + h * hn)
    if f.isInt then unsgn 32 (js.foldl (fun (a : Int) j => a + intOf f 0 (w.elem f p mmt i j)) 0)
    else fpSumList (js.map fun j => let c := w.elem f p mmt i j; if isNaNCode f c then 0 else levelFp f c)

/-- Magnitude entry of stream index `i` over output half `h`. -/
def Weights.magOf (w : Weights) (f : Fmt) (p : Nat) (mmt : Bool) (i h : Nat) : Nat :=
  let hn := if mmt then halfK f else halfN f
  fpSumList (((List.range hn).map (· + h * hn)).map fun j =>
    let c := w.elem f p mmt i j; if isNaNCode f c then 0 else fpAbs (levelFp f c))

/-- Result of a compare. -/
inductive CheckResult where
  | pass | unchecked | fail
  deriving DecidableEq, Repr

/-- Compare of one quadrant (stream half `sh`, output half `oh`) on a row (R245): `err` is what a fault adds to one tapped
sum. -/
def checkQuad (f : Fmt) (p : Nat) (mmt : Bool) (s : Nat) (w : Weights) (as : List Nat) (sh oh err : Nat) : CheckResult :=
  let hs := if mmt then halfN f else halfK f
  let ho := if mmt then halfK f else halfN f
  let js := (List.range ho).map (· + oh * ho)
  let is := (List.range hs).map (· + sh * hs)
  if f.isInt then
    let t := js.foldl (fun (a : Int) j => a + (outSum f p mmt s w as j (sh * hs) hs).bits.toInt) 0
    let c := is.foldl (fun (a : Int) i => a + intOf f s (as.getD i 0) * sgn 32 (w.sumOf f p mmt i oh)) 0
    if (t + (err : Int) - c) % (2 ^ 32 : Nat) = 0 then .pass else .fail
  else
    let taps := js.map fun j => (outSum f p mmt s w as j (sh * hs) hs).bits.toNat
    let taps := match taps with
      | [] => []
      | x :: xs => (if err = 0 then x else fpAdd x err) :: xs
    let a (i : Nat) : Nat := let c := as.getD i 0; if isNaNCode f c then 0 else levelFp f c
    let sum := fpSumList taps
    let c := is.foldl (fun acc i => fpAdd acc (fpMul (a i) (w.sumOf f p mmt i oh))) 0
    let g := is.foldl (fun acc i => fpAdd acc (fpMul (fpAbs (a i)) (w.magOf f p mmt i oh))) 0
    if fpExp sum = 255 ∨ fpExp c = 255 ∨ fpExp g = 255 then .unchecked
    else if fpLt (fpMul g 0x3A800000) (fpAbs (fpSub sum c)) then .fail else .pass

/-- Halves (stream, output) of quadrant `q` within a partition: NW is row half 0 and column half 0. -/
def quadHalves (p q : Nat) (mmt : Bool) : Nat × Nat :=
  let h := if partSize p = 2 then 0 else q / 2
  let v := if partSize p = 0 then q % 2 else 0
  if mmt then (v, h) else (h, v)

/-! ## Ristretto (R183, R185) -/

/-- Bytes of a 256-element chunk. -/
def chunkBytes (f : Fmt) : Nat := codeBytes f 256

/-- One dot product of K elements: FP32 output and its mark. -/
def dotProduct (f : Fmt) (k : Nat) (xs ws : List Byte) : Nat × Bool :=
  let n := (k + 255) / 256
  let code (bs : List Byte) (c i : Nat) : Nat :=
    if 256 * c + i < k then codeAt f (bs.drop (c * chunkBytes f)) i else zeroCode f
  let inp (c i : Nat) : Nat := if 256 * c + i < k then codeAt f xs (256 * c + i) else zeroCode f
  if f.isInt then
    let v := (List.range n).foldl (fun (a : Int) c =>
      (List.range 256).foldl (fun a i => a + intOf f 0 (inp c i) * intOf f 0 (code ws c i)) a) 0
    let nan := (List.range n).any fun c => (List.range 256).any fun i =>
      isNaNCode f (inp c i) || isNaNCode f (code ws c i)
    (fpOfInt v, nan)
  else
    let r := (List.range n).foldl (fun (a : Nat × Bool) c =>
      let ps := (List.range 256).map fun i => fpProd f (inp c i) (code ws c i)
      (fpAdd a.1 (treeSum fpAdd 0 8 (ps.map (·.1))), a.2 || ps.any (·.2))) (0, false)
    (r.1, r.2)

/-! ## Drain path (R200, R201) -/

/-- A drain descriptor (Table 07.4). -/
structure DrainDesc where
  dest    : Nat
  rounding : Nat
  seqNo   : Nat
  addr    : Nat
  stride  : Nat
  dscale  : Nat
  act     : Nat
  out     : Nat
  deriving DecidableEq, Repr

def DrainDesc.ofBytes (b : List Byte) : DrainDesc :=
  { dest := le b 0 1, rounding := le b 1 1, seqNo := le b 4 4, addr := le b 8 8, stride := le b 16 4
    dscale := le b 24 8, act := le b 32 8, out := le b 40 8 }

/-- Form of a descriptor (R200): destination and rounding codes, and aligned addresses: a scale table to 64 bytes (R116), strides to 64
(Table 07.4), the destination to 64, and what holds FP32 values to 4 (log 156). -/
def DrainDesc.formOk (d : DrainDesc) : Bool :=
  decide (d.dest ≤ 2) && (d.dest != 2 || decide (d.rounding ≤ 1)) && d.stride % 64 == 0 && d.addr % 64 == 0 &&
  d.dscale % 4 == 0 && d.act % 4 == 0 && (d.dest != 0 || d.out % 64 == 0)

/-- Steps 1 to 3 of R201: element `v` with shift `s` and drain scale `dn`. -/
def drainScale (f : Fmt) (v : AccWord) (s dn : Nat) : Nat :=
  let x := if v.nan then fpNaN else if f.isInt then fpOfInt v.bits.toInt else v.bits.toNat
  fpMul (fpMul x (fpOfInt (2 ^ s : Nat))) dn

end Sys2Proof.Machine
end

