-- ==== Sys2Proof/Machine/Engines.lean ====
section
/-!
DEFINITION. Machine/Engines.lean: partitions of the Matrix Engines (R167 to R178), accumulator tiles and chains (R189 to
R196, R211), the run bookkeeping their commands need (R225, R227), overflow (R204, R206), failed compares (R247) and the
issue of operations.
-/

namespace Sys2Proof.Machine

open Sys2Proof

/-! ## Access -/

def noPart (_ : Nat) : Part := {}
def partKey (e p : Nat) : Nat := 8 * e + p
def Chan.part (ch : Chan) (k : Nat) : Part := sget noPart ch.eng.parts k
def Chan.setPart (ch : Chan) (k : Nat) (x : Part) : Chan :=
  { ch with eng := { ch.eng with parts := sset noPart ch.eng.parts k x } }
def Chan.modPart (ch : Chan) (k : Nat) (f : Part → Part) : Chan := ch.setPart k (f (ch.part k))

def tileKey (e t : Nat) : Nat := 16 * e + t
def Chan.tile (ch : Chan) (k : Nat) : Option Tile := sget (fun _ => none) ch.eng.tiles k
def Chan.tileState (ch : Chan) (k : Nat) : Nat := ch.fld (R.ACU_TILE_STATE (k / 16)) (F.ACU_TILE_STATE_state (k % 16))
def Chan.setTileState (ch : Chan) (k v : Nat) : Chan := ch.setFld (R.ACU_TILE_STATE (k / 16)) (F.ACU_TILE_STATE_state (k % 16)) v
def Chan.setTile (ch : Chan) (k : Nat) (t : Option Tile) : Chan :=
  { ch with eng := { ch.eng with tiles := sset (fun _ => none) ch.eng.tiles k t } }

/-- Make a tile FREE. -/
def Chan.freeTile (ch : Chan) (k : Nat) : Chan := (ch.setTile k none).setTileState k 0

/-- Set bits of a four-bit field of MXE_STATUS for the quadrants of a partition. -/
def Chan.setQuads (ch : Chan) (e p : Nat) (f : Fld) (b : Bool) : Chan :=
  ch.setFld (R.MXE_STATUS e) f ((partQuads p).foldl (fun m q => putBit m q b) (ch.fld (R.MXE_STATUS e) f))

/-- Set the dummy density of a partition's quadrants (R180). -/
def Chan.setLevel (ch : Chan) (e p v : Nat) : Chan :=
  (partQuads p).foldl (fun (ch : Chan) q => ch.setFld (R.MXE_STATUS e) ⟨16 + 5 * q, 5⟩ v) ch

/-- Count stalled cycles of a unit with its reason (R426). -/
def Chan.stall (ch : Chan) (unit reason n : Nat) : Chan :=
  { ch with obs := { ch.obs with stalls := sset (fun _ => 0) ch.obs.stalls (16 * unit + reason)
                                   (sget (fun _ => 0) ch.obs.stalls (16 * unit + reason) + n) } }

/-! ## Run bookkeeping (R225, R227, R435) -/

/-- The run in progress of a side. -/
def Chan.run (ch : Chan) (ctx : Nat) : Option Run := (ch.seqr ctx).run
def Chan.setRun (ch : Chan) (ctx : Nat) (r : Run) : Chan := ch.setSeqr ctx { ch.seqr ctx with run := some r }

/-- Trace value of a command (Table 17.4). -/
def cmdTraceValue (ctx index : Nat) (c : Cmd) (status : Nat) : Nat :=
  index + ctxSlot ctx * 2 ^ 16 + ctxSide ctx * 2 ^ 24 + c.opcode * 2 ^ 32 + status * 2 ^ 40

/-- CMD_ISSUE or CMD_COMPLETE record when cmd_trace is 1 (R435). -/
def Chan.traceCmd (ch : Chan) (type ctx index status : Nat) : Chan :=
  if ch.flag R.OBS_TRACE_CTRL F.OBS_TRACE_CTRL_cmd_trace then
    let c := (ch.side ctx).cmd index
    ch.trace { type := type, unit := 36, tenant := ch.slotTid (ctxSlot ctx), value := cmdTraceValue ctx index c status
               layer := c.layer, op := c.operator }
  else ch

/-- A command completes with a status of Table 08.6. -/
def Chan.cmdDone (ch : Chan) (ctx index status : Nat) : Chan :=
  match ch.run ctx with
  | none => ch
  | some r =>
    let ch := ch.setRun ctx { r with live := r.live.filter fun l => l.index ≠ index }
    let ch := ch.traceCmd 5 ctx index status
    if status = 0 then ch else ch.failRun ctx index status

/-- The status byte of a command that completes COMPLETE with abort_late set: Table 08.6 gives the bit no place (log 152). -/
def lateStatus : Nat := Config.lateStatus.toNat

/-- An abort lost against a command: counted, and abort_late is set in its completion (R212). -/
def Chan.lostAbort (ch : Chan) (ctx index : Nat) : Chan :=
  let ch := ch.count R.ACU_CNT_ABORT_LATE EV_ACU_ABORT_LATE (some (ch.slotTenant (ctxSlot ctx)))
  match ch.run ctx with
  | some r => ch.setRun ctx { r with late := r.late ++ [index] }
  | none => ch

/-- A command completes COMPLETE, with abort_late set where `late` says so (R212). -/
def Chan.cmdComplete (ch : Chan) (ctx index : Nat) (late : Bool) : Chan :=
  if late then
    let ch := ch.lostAbort ctx index
    match ch.run ctx with
    | none => ch
    | some r => (ch.setRun ctx { r with live := r.live.filter fun l => l.index ≠ index }).traceCmd 5 ctx index lateStatus
  else ch.cmdDone ctx index 0

/-- The format of a command, FP32 and reserved codes apart (R167). -/
def Cmd.engineFmt (c : Cmd) : Option Fmt :=
  match Fmt.ofCode c.format with
  | some .fp32 => none
  | f => f

/-- Window reader of a side's run: bytes at offset `a`. -/
def Chan.winBytes (ch : Chan) (ctx k a n : Nat) : List Byte := ch.spad (ch.winAddr ctx k a) n

/-- Table reader of a side's run: bytes at offset `a`, through the table cache (R231). -/
def Chan.tabBytes (ch : Chan) (ctx k a n : Nat) : List Byte := ch.tab (ch.winAddr ctx k a) n

/-- Drain descriptor at a window offset. A training step's round_seq is its step number (R280). -/
def Chan.drainDesc (ch : Chan) (ctx k a : Nat) : DrainDesc :=
  let d := DrainDesc.ofBytes (ch.tabBytes ctx k a 64)
  match ch.trainG ctx with
  | some g => { d with seqNo := (ch.rd (R.TRN_STEP g)).toNat % 2 ^ 32 }
  | none => d

/-- A table in the window names the side's tenant and slot (R116, R200, R222): `t` and `s` its bytes for them. -/
def Chan.tableOwned (ch : Chan) (ctx k a t s : Nat) : Bool :=
  leNat (ch.tabBytes ctx k (a + t) 1) == ch.slotTid (ctxSlot ctx) && leNat (ch.tabBytes ctx k (a + s) 1) == ctxSlot ctx

/-- A descriptor is acceptable (R200): its codes, its addresses and the owners of its tables. -/
def Chan.drainForm (ch : Chan) (ctx k a : Nat) : Bool :=
  let d := ch.drainDesc ctx k a
  a % 64 == 0 && d.formOk && (d.act == 0 || ch.tableOwned ctx k d.act 14 15) && (d.dest != 0 || ch.tableOwned ctx k d.out 6 7)

/-- Bytes of a destination row of `cols` results. -/
def Chan.destBytes (ch : Chan) (ctx k : Nat) (d : DrainDesc) (cols : Nat) : Nat :=
  if d.dest = 0 then codeBytes ((Fmt.ofCode (leNat (ch.tabBytes ctx k (d.out + 2) 1))).getD .n8) cols else 4 * cols

/-- What a descriptor names for `rows` rows of `cols` results lies in the window (R218): the descriptor, its destination rows, its drain
scales, and its tables with the column counters. -/
def Chan.drainIn (ch : Chan) (ctx k a rows cols : Nat) : Bool :=
  let d := ch.drainDesc ctx k a
  ch.winOk ctx k a 64 && ch.winOk ctx k d.addr ((rows - 1) * d.stride + ch.destBytes ctx k d cols) &&
  ch.winOk ctx k d.dscale (4 * cols) &&
  (d.act == 0 || ch.winOk ctx k d.act (64 + 8 * leNat (ch.tabBytes ctx k (d.act + 12) 2))) &&
  (d.dest != 0 || (ch.winOk ctx k d.out (64 + 16 * cols) && ch.winOk ctx k (leNat (ch.tabBytes ctx k (d.out + 48) 8)) (8 * cols)))

/-- The START of the chain that the DRAIN at `index` ends. -/
def Side.startIx (s : Side) (index : Nat) : Option Nat :=
  let c := s.cmd index
  ((List.range index).reverse).find? fun i =>
    let x := s.cmd i
    (x.opcode == 1 || x.opcode == 2) && x.accOp == 0 && x.unit == c.unit && x.tile == c.tile
def Side.chainStart (s : Side) (index : Nat) : Cmd :=
  match s.startIx index with
  | some i => s.cmd i
  | none => s.cmd index

/-! ## Widening (R127) -/

/-- Format a narrow one widens into. -/
def Fmt.widened : Fmt → Option Fmt
  | .n4 => some .int8
  | .n8 => some .bf16
  | .int8 => some .bf16
  | _ => none

/-- An MMA, MMT or MVR whose input is in a format that widens (R127, R130). -/
def Cmd.canWiden (c : Cmd) : Bool :=
  (c.opcode == 1 || c.opcode == 2 || c.opcode == 3) && ((Fmt.ofCode c.format).bind Fmt.widened).isSome

/-- Layers whose MMA, MMT or MVR streams from window offsets [a, a + n). -/
def Side.layersFrom (s : Side) (a n : Nat) : List Nat :=
  ((List.range s.commands).filter fun i =>
    let c := s.cmd i
    (c.opcode == 1 || c.opcode == 2 || c.opcode == 3) && decide (a ≤ c.w20 ∧ c.w20 < a + n)).map fun i => (s.cmd i).layer

/-- A tensor of FP32 rows has been quantised with `sats` saturations under the table at window offset `tab`, to rows at
offset `dst`: an Exacting tenant's tensor widens when the count exceeds its threshold (R127, R128). Answers the layers
that widen. -/
def Chan.widenTensor (ch : Chan) (ctx k tab dst stride sats : Nat) (rows : List (List Nat)) : List Nat × Chan :=
  let i := ch.slotTenant (ctxSlot ctx)
  let a := ch.winAddr ctx k tab
  let f := (Fmt.ofCode (leNat (ch.tab (a + 2) 1))).getD .n8
  match f.widened with
  | none => ([], ch)
  | some w =>
    if !ch.exacting i || !(leNat (ch.tab (a + 3) 1)).testBit 1 || decide (sats ≤ leNat (ch.tab (a + 8) 4)) then ([], ch)
    else
      let b := ch.winAddr ctx k (leNat (ch.tab (a + 24) 8))
      let cnt := ch.winAddr ctx k (leNat (ch.tab (b + 48) 8))
      let ch := rows.zipIdx.foldl (fun (ch : Chan) r =>
        let (cs, _, ch) := ch.quantRow w b cnt i 0 r.1
        ch.store 0 i (ch.winAddr ctx k dst + r.2 * stride) (packCodes w cs)) ch
      ((ch.side ctx).layersFrom dst (rows.length * stride), ch.count R.FTR_CNT_WIDEN EV_FTR_WIDENED (some i))

/-- Widen a tensor written within the run in progress of a side. -/
def Chan.widenInRun (ch : Chan) (ctx tab dst stride sats : Nat) (rows : List (List Nat)) : Chan :=
  match ch.run ctx with
  | none => ch
  | some r =>
    let (ls, ch) := ch.widenTensor ctx r.number tab dst stride sats rows
    if ls.isEmpty then ch
    else match ch.run ctx with
      | some r => ch.setRun ctx { r with wide := r.wide ++ ls }
      | none => ch

/-! ## Writing drained rows (R199, R201, R202) -/

/-- Activation of the drain path: 0 is the identity. -/
def Chan.drainAct (ch : Chan) (ctx k a x : Nat) : Nat :=
  if a = 0 then x else activate (ch.tabBytes ctx k a 2112) x

/-- Write FP32 results to columns `n0` on of row `m` of a destination (R201): OUT activates and quantises them under its table, RAW writes
FP32, ACC adds into the long sum with the random bits of `seed` (R203). Answers the saturations of OUT. -/
def Chan.drainRow (ch : Chan) (ctx k : Nat) (d : DrainDesc) (seed m n0 : Nat) (ys : List Nat) : Nat × Chan :=
  let i := ch.slotTenant (ctxSlot ctx)
  let at_ := ch.winAddr ctx k d.addr + m * d.stride
  match d.dest with
  | 0 =>
    let a := ch.winAddr ctx k d.out
    let f := (Fmt.ofCode (leNat (ch.tab (a + 2) 1))).getD .n8
    let cnt := ch.winAddr ctx k (leNat (ch.tab (a + 48) 8))
    let (cs, sats, ch) := ch.quantRow f a cnt i n0 (ys.map (ch.drainAct ctx k d.act))
    (sats, ch.store 0 i (at_ + codeBytes f n0) (packCodes f cs))
  | 1 => (0, ch.store 0 i (at_ + 4 * n0) (ys.flatMap fun y => leBytes 4 y))
  | _ =>
    let bs := ys.zipIdx.flatMap fun y =>
      let a := leNat (ch.spad (at_ + 4 * (n0 + y.2)) 4)
      let r := if d.rounding = 0 then none else some (srBits seed d.seqNo (4096 * m + n0 + y.2))
      leBytes 4 (longAdd a y.1 r)
    (0, ch.store 0 i (at_ + 4 * n0) bs)

/-- Scale a row of accumulator words by the drain scale vector. -/
def Chan.scaleRow (ch : Chan) (ctx k : Nat) (f : Fmt) (s : Nat) (d : DrainDesc) (ws : List AccWord) : List Nat :=
  ws.zipIdx.map fun w => drainScale f w.1 s (leNat (ch.tabBytes ctx k (d.dscale + 4 * w.2) 4))

/-! ## Placement: logical to physical (R226, R264) -/

/-- Physical engine and partition of a logical one, through CHK_REMAP. -/
def Chan.physical (ch : Chan) (e p : Nat) : Nat × Nat :=
  let q := (partQuads p).headD 0
  let j := (4 * e + q) % 8
  let r := if e < 2 then R.CHK_REMAP_0 else R.CHK_REMAP_1
  if ch.flag r (F.CHK_REMAP_0_remapped j) && partSize (ch.fld r (F.CHK_REMAP_0_partition j)) == partSize p then
    (ch.fld r (F.CHK_REMAP_0_engine j), ch.fld r (F.CHK_REMAP_0_partition j))
  else (e, p)

/-- Every quadrant of the partition is owned by the tenant (R168). -/
def Chan.partOwned (ch : Chan) (e p tid : Nat) : Bool :=
  (partQuads p).all fun q => ch.flag (R.MXE_PART e) (F.MXE_PART_assigned q) && ch.fld (R.MXE_PART e) (F.MXE_PART_owner q) == tid

/-- A quadrant of the partition is fenced. -/
def Chan.partFenced (ch : Chan) (e p : Nat) : Bool :=
  (partQuads p).any fun q => (ch.fld (R.MXE_STATUS e) F.MXE_STATUS_fenced).testBit q

/-- The partition exists in the engine's mode and serves the tenant. -/
def Chan.partServes (ch : Chan) (e p tid : Nat) : Bool :=
  ch.flag (R.MXE_CTRL e) F.MXE_CTRL_enable && decide (p < 7) && ch.fld (R.MXE_CTRL e) F.MXE_CTRL_part_mode == partMode p &&
  ch.partOwned e p tid && !ch.partFenced e p

/-- R167 and R218 on an MMA or MMT of run `k`, before it enters its partition. -/
def Chan.opForm (ch : Chan) (ctx k m : Nat) (c : Cmd) : Bool :=
  let (e, p) := ch.physical c.engine c.part
  match c.engineFmt with
  | none => false
  | some f =>
    let mmt := c.opcode == 2
    let (kt, nt) := tileShape f c.part
    let rows := c.rows m
    ch.partServes e p (ch.slotTid (ctxSlot ctx)) && !(mmt && f == .n4) && decide (1 ≤ rows ∧ rows ≤ 1024) &&
    decide (1 ≤ c.h30 ∧ c.h30 ≤ (if mmt then nt else kt) ∧ 1 ≤ c.h32 ∧ c.h32 ≤ (if mmt then kt else nt)) &&
    (c.keep || ch.winOk ctx k c.w16 (stationaryBytes f c.part)) &&
    ch.winOk ctx k c.w20 ((rows - 1) * c.w24 + rowBytes f (c.h30)) && (c.accOp != 2 || ch.drainIn ctx k c.w36 rows c.h32)

/-- R194 and R200 on an MMA or MMT, as far as they do not depend on its tile. -/
def Chan.accForm (ch : Chan) (ctx k m : Nat) (c : Cmd) : Bool :=
  c.accOp != 3 && (c.accOp == 2 || ch.flag R.ACU_CTRL F.ACU_CTRL_enable) &&
  (c.accOp != 0 || decide (c.rows m ≤ setRows (c.engineFmt.getD .n8) c.part (c.opcode == 2))) &&
  (c.accOp != 2 || ch.drainForm ctx k c.w36) && (c.mask == 0 || c.mask.testBit c.engine)

/-- An MMA or MMT may enter its partition. -/
def Chan.opOk (ch : Chan) (ctx k m : Nat) (c : Cmd) : Bool := ch.opForm ctx k m c && ch.accForm ctx k m c

/-- A DRAIN may enter its partition (R194, R200, R218). -/
def Chan.drainEnters (ch : Chan) (ctx k m index : Nat) : Bool :=
  let s := ch.side ctx
  let a := (s.cmd index).w36
  let st := s.chainStart index
  ch.drainForm ctx k a && ch.drainIn ctx k a (st.rows m) st.h32 && ch.flag R.ACU_CTRL F.ACU_CTRL_enable

/-- Refuse an operation: status REJECTED, counted and reported as R167 or R194 say. -/
def Chan.opReject (ch : Chan) (ctx index e : Nat) (acu : Bool) : Chan :=
  let i := ch.slotTenant (ctxSlot ctx)
  let ch := if acu then ch.count R.ACU_CNT_REJECT EV_ACU_CHAIN_REJECT (some i)
    else ch.count (R.MXE_CNT_REJECT e) EV_MXE_OP_REJECT (some i)
  ch.cmdDone ctx index 1

/-! ## Standby loads (R173) -/

/-- The weights of a command as loaded from window offset `a`, from the working copy, with the sum blocks of its tiles. -/
def Chan.weightsAt (ch : Chan) (ctx k : Nat) (c : Cmd) (a : Nat) : Weights :=
  let f := c.engineFmt.getD .n8
  let s := ch.side ctx
  let n := stationaryBytes f c.part
  let inImage := decide (a + n ≤ 2048 * s.tiles)
  { tenant := ch.slotTenant (ctxSlot ctx), slot := ctxSlot ctx, side := ctxSide ctx, run := k, addr := a
    format := c.format, narrow := partSize c.part != 0, data := ch.winBytes ctx k a n
    sums := if inImage then
        some ((List.range (n / 2048)).map fun j => slice s.sums (768 * le (s.sealOf (a / 2048 + j)) 8 4) 768)
      else none }

/-- The weights that a command loads. -/
def Chan.weightsOf (ch : Chan) (ctx k : Nat) (c : Cmd) : Weights := ch.weightsAt ctx k c c.w16

/-- The first tile of a load from window offset `a` whose seal fails, of the tiles that carry one (R231, R279). -/
def Chan.loadBad (ch : Chan) (ctx : Nat) (c : Cmd) (a : Nat) : Option Nat :=
  let f := c.engineFmt.getD .n8
  let s := ch.side ctx
  ((List.range (stationaryBytes f c.part / 2048)).map (a / 2048 + ·)).find? fun t =>
    decide (t < s.tiles) && !sealOk (s.sealOf t) (ch.workTile ctx t)

/-- A pending image or load serves the operation named. -/
def Standby.serves (s : Standby) (x : Nat × Nat × Nat) : Bool := (s.ctx, s.run, s.index) == x
def isFor (s : Option Standby) (x : Nat × Nat × Nat) : Bool :=
  match s with
  | some s => s.serves x
  | none => false

/-- An image or load that no queued operation will take may be overwritten: one that an abort left untaken (R175), or one of a run whose
first load has not reached the partition (R226, log 153). -/
def Part.mayDrop (p : Part) (s : Option Standby) : Bool :=
  match s with
  | some s => !(p.queue ++ p.parked).any s.serves
  | none => true

/-- Ask for the standby load of an operation (R173, R175): it goes to the standby registers when these are free, else it stages behind
the pending image. -/
def Chan.askStandby (ch : Chan) (k ctx run index : Nat) : Chan :=
  let p := ch.part k
  let x := (ctx, run, index)
  let load : Standby := { ctx := ctx, run := run, index := index, phase := .staging, at_ := ch.now }
  if isFor p.standby x || isFor p.next x then ch
  else if p.mayDrop p.standby then
    (ch.setPart k { p with standby := some load }).setQuads (k / 8) (k % 8) F.MXE_STATUS_standby_ready false
  else if p.mayDrop p.next then ch.setPart k { p with next := some load }
  else ch

/-- The pending image of a partition has been taken, or is dropped: the load behind it follows (R175). -/
def Chan.takeImage (ch : Chan) (k : Nat) : Chan :=
  (ch.modPart k fun p => { p with standby := p.next, next := none }).setQuads (k / 8) (k % 8) F.MXE_STATUS_standby_ready false

/-- Both images of a partition are dropped. -/
def Chan.dropImages (ch : Chan) (k : Nat) : Chan :=
  (ch.modPart k fun p => { p with standby := none, next := none }).setQuads (k / 8) (k % 8) F.MXE_STATUS_standby_ready false

/-! ## Issue -/

/-- Engines that a reduction mask names, rising; none for a mask of one engine. -/
def maskEngines (e mask : Nat) : List Nat :=
  if mask = 0 ∨ mask = 2 ^ e then [] else (List.range 4).filter fun x => mask.testBit x

/-- Partitions of the reduction group of an operation on partition `k`, the home, of the lowest engine, first (R192, R196). -/
def Chan.groupC (ch : Chan) (k : Nat) (c : Cmd) : List Nat :=
  match maskEngines c.engine c.mask with
  | [] => [k]
  | es => es.map fun e => let (e', p') := ch.physical e c.part; partKey e' p'

/-- Home of an operation on partition `k`. -/
def Chan.homeC (ch : Chan) (k : Nat) (c : Cmd) : Nat := (ch.groupC k c).headD k

/-- Key of the tile an operation on partition `k` names: it lies in the home engine (R196). -/
def Chan.tileOf (ch : Chan) (k : Nat) (c : Cmd) : Nat := tileKey (ch.homeC k c / 8) c.tile

/-- Output width of an operation. -/
def Cmd.outWidth (c : Cmd) : Nat :=
  let f := c.engineFmt.getD .n8
  if c.opcode = 2 then (tileShape f c.part).1 else (tileShape f c.part).2

/-- Operations of a chain on its home engine: at most 32 (R193). -/
def Chan.chainLen (ch : Chan) (t : Tile) : Nat :=
  (t.ops.filter fun o => let c := (ch.side t.ctx).cmd o.1; ch.homeC t.part c = t.part ∧
    (ch.physical c.engine c.part).1 = t.part / 8).length

/-- The keep rule of R167 for the head operation of partition `k`. -/
def Chan.keepOk (ch : Chan) (k ctx : Nat) (c : Cmd) : Bool :=
  !c.keep || (match (ch.part k).active with
    | some w => w.tenant == ch.slotTenant (ctxSlot ctx) && w.slot == ctxSlot ctx
    | none => false)

/-- The chain of a tile waits for its tenant's next slot (R207). -/
def Chan.chainSaved (ch : Chan) (tk ctx run : Nat) : Bool :=
  ch.eng.saved.any fun s => s.key == tk && s.tile.ctx == ctx && s.tile.run == run

/-- An OPEN tile whose chain a slot's end has cut: its set is about to be free (Table 07.6). -/
def Chan.cutOpen (ch : Chan) (tk : Nat) : Bool :=
  match ch.tile tk with
  | some t => t.cut && ch.tileState tk == 1
  | none => false

/-- The tile rules of R193 and R194 for operation `index` at the head of partition `k`. What waits is not refused: an operation of a saved
chain, and a START behind a chain that is about to be saved (R207). -/
def Chan.tileOk (ch : Chan) (k ctx run m index : Nat) (c : Cmd) : Bool :=
  let home := ch.homeC k c
  let tk := ch.tileOf k c
  match c.accOp with
  | 1 =>
    ch.chainSaved tk ctx run ||
    (match ch.tile tk with
    | some t =>
      let again := t.ops.any (·.1 == index)
      t.part == home && t.ctx == ctx && t.run == run && t.format == c.format && t.width == c.outWidth &&
        t.rows == c.rows m && t.group == ch.groupC k c && !t.dead &&
        (if again then ch.tileState tk == 1 || ch.tileState tk == 2
         else ch.tileState tk == 1 && (k != home || decide (ch.chainLen t < 32)))
    | none => false)
  | 0 =>
    k != home || ((ch.tileState tk != 1 || ch.cutOpen tk) && (match (ch.part home).tile with
      | some t => ch.tileState (tileKey (home / 8) t) != 1 || ch.cutOpen (tileKey (home / 8) t)
      | none => true))
  | _ => true

/-- The members of a reduction group agree: one format, output width, row count, acc_op and tile (R193). -/
def Chan.groupAgrees (ch : Chan) (g : List Nat) (ctx m : Nat) (c : Cmd) : Bool :=
  g.all fun k' => match (ch.part k').queue with
    | (_, _, ix) :: _ =>
      let x := (ch.side ctx).cmd ix
      x.format == c.format && x.outWidth == c.outWidth && x.rows m == c.rows m && x.accOp == c.accOp && (c.accOp == 2 || x.tile == c.tile)
    | [] => false

/-- A Night-sky pattern runs on engine `e` (R268). -/
def Chan.sweeping (ch : Chan) (e : Nat) : Bool :=
  match ch.chk.sweep with
  | some (.quadrant x _, _, _) => x == e
  | _ => false

/-- The partition's OPEN tile, if reduced over engines, has its last row landed before a START issued now delivers (R195). -/
def Chan.treeClear (ch : Chan) (k : Nat) : Bool :=
  match (ch.part k).tile, (ch.part k).lastIssue with
  | some t, some (at_, m) =>
    (match ch.tile (tileKey (k / 8) t) with
      | some x => decide (x.group.length ≤ 1) || ch.sinceC at_ (m + 11)
      | none => true)
  | _, _ => true

/-- Real rows of the latest operation still issue. -/
def Chan.streaming (ch : Chan) (k : Nat) : Bool :=
  match (ch.part k).lastIssue with
  | some (t, m) => !ch.sinceC t m
  | none => false

/-- The chain that an ACCUMULATE belongs to has stopped issuing: it restarts (R204, R247), or a slot's end has cut it (R207). -/
def Chan.chainStopped (ch : Chan) (k : Nat) (c : Cmd) : Bool :=
  c.accOp == 1 && (match ch.tile (ch.tileOf k c) with
    | some t => t.restart.isSome || t.waiting || t.cut
    | none => false)

/-- What keeps operation `x` at the head of partition `k`'s queue from issuing, as far as its own partition is concerned: reasons of Table
17.2, and 0 for one that has none there. While rows of the operation before it issue, it waits for its turn alone (R171). -/
def Chan.opStops (ch : Chan) (k : Nat) (x : Nat × Nat × Nat) : List Nat :=
  let p := ch.part k
  let c := (ch.side x.1).cmd x.2.2
  let tk := ch.tileOf k c
  let home := k == ch.homeC k c
  let start := c.accOp == 0 && home
  let stand := c.keep || (match p.standby with
    | some s => s.phase == .written && s.serves x
    | none => false)
  let spaced := c.keep || (match p.lastIssue with
    | some (t, _) => ch.sinceC t (passGap (k % 8))
    | none => true)
  let behindCut := start && (match p.tile with
    | some t => ch.cutOpen (tileKey (k / 8) t)
    | none => false)
  let when_ (b : Bool) (r : Nat) : List Nat := if b then [r] else []
  if ch.streaming k then [0]
  else
    when_ (ch.obs.dump.isSome || ch.partFenced (k / 8) (k % 8) || ch.chainStopped k c) 0 ++
    when_ (ch.models.holds.any fun h => h.part == some k) 3 ++
    when_ (!ch.holdsUnit k (ch.slotTenant (ctxSlot x.1))) 6 ++
    when_ (!(stand && spaced)) 8 ++
    when_ (start && ch.tileState tk != 0 && !ch.cutOpen tk) 9 ++
    when_ ((start && (behindCut || ch.cutOpen tk || !ch.treeClear k)) || (c.accOp == 1 && ch.chainSaved tk x.1 x.2.1)) 10 ++
    when_ (ch.sweeping (k / 8)) 13

/-- The head operation of a partition may issue now as far as its own partition is concerned: R171, R174, R178, R195, R211. -/
def Chan.headReady (ch : Chan) (k : Nat) : Bool :=
  match (ch.part k).queue with
  | [] => false
  | x :: _ => decide (((ch.side x.1).cmd x.2.2).opcode ≠ 0x0A) && (ch.opStops k x).isEmpty

/-- Dummy rows that a gap of `e` core cycles has carried (R179, R180). -/
def gapRows (e : Nat) : Nat :=
  min e 64 + ((List.range 16).foldl (fun a i => a + min (e - 64 - 16 * i) 16 * (15 - i)) 0) / 16

/-- Dummy rows of a partition's gap up to now that are not yet counted (R179). -/
def Chan.dueRows (ch : Chan) (k : Nat) : Nat :=
  match (ch.part k).drawn with
  | some (t, m) => gapRows (ch.cyclesSince t - m) - (ch.part k).dummies
  | none => 0

/-- Count a partition's dummy rows up to now. -/
def Chan.settleGap (ch : Chan) (k : Nat) : Chan :=
  let n := ch.dueRows k
  if n = 0 then ch
  else (ch.inc (R.MXE_CNT_DUMMY_ROWS (k / 8)) n).modPart k fun p => { p with dummies := p.dummies + n }

/-- Real rows, or a Night-sky pattern, of `m` cycles end a partition's gap: its dummy rows are counted, and its level is 16 again. -/
def Chan.endGap (ch : Chan) (k m : Nat) : Chan :=
  ((ch.settleGap k).modPart k fun p => { p with level := 16, dummies := 0, drawn := some (ch.now, m) }).setLevel (k / 8) (k % 8) 16

/-- A training context notes the quadrants its program uses (R286). -/
def Chan.noteUsed (ch : Chan) (k ctx : Nat) : Chan :=
  match ch.trainG ctx with
  | some g =>
    let t := ch.trnCtx g
    ch.setTrn g { t with used := (t.used ++ (partQuads (k % 8)).map fun q => (k / 8, q)).eraseDups }
  | none => ch

/-- Put an operation in flight on a partition with its weights (R171, R172). -/
def Chan.launch (ch : Chan) (k ctx run index rows shift : Nat) (w : Weights) (loads : Bool) : Chan :=
  let e := k / 8
  let ch := ch.endGap k rows
  let p := ch.part k
  -- the current tag is that of the partition's first quadrant (log 154)
  let old := (ch.fld (R.MXE_STATUS e) F.MXE_STATUS_tag).testBit ((partQuads (k % 8)).headD 0)
  let tag := if loads then !old else old
  let wide := match ch.run ctx with
    | some r => r.wide.contains ((ch.side ctx).cmd index).layer
    | none => false
  let fl : Flight := { ctx := ctx, run := run, index := index, issued := ch.now, landed := 0, rows := rows, shift := shift
                       w := w, wide := wide, seed := (ch.rd (R.ACU_SR_SEED (ch.slotTenant (ctxSlot ctx)))).toNat }
  let ch := ch.setPart k { p with active := some w, flights := p.flights ++ [fl], lastIssue := some (ch.now, rows) }
  let ch := ch.setQuads e (k % 8) F.MXE_STATUS_busy true
  let ch := ch.noteUsed k ctx
  let ch := ch.setQuads e (k % 8) F.MXE_STATUS_tag tag
  ch.inc (R.MXE_CNT_OPS e)

/-- Issue the head operation of a partition (R171, R172, R192). -/
def Chan.issueHead (ch : Chan) (k : Nat) : Chan :=
  let p := ch.part k
  match p.queue with
  | [] => ch
  | (ctx, run, index) :: rest =>
    let c := (ch.side ctx).cmd index
    let rows := c.rows (match ch.run ctx with | some r => r.m | none => 0)
    let i := ch.slotTenant (ctxSlot ctx)
    let home := ch.homeC k c
    let tk := ch.tileOf k c
    let w := match c.keep, p.standby with
      | false, some s => s.w.getD (ch.weightsOf ctx run c)
      | _, _ => p.active.getD (ch.weightsOf ctx run c)
    let shift := match ch.tile tk with | some t => (if c.accOp = 1 then t.shift else 0) | none => 0
    let ch := ch.setPart k { p with queue := rest
                                    tile := if c.accOp = 0 ∧ k = home then some c.tile else p.tile
                                    lastOwner := if c.accOp = 0 then some i else p.lastOwner }
    let ch := if c.keep then ch else ch.takeImage k
    let ch := ch.launch k ctx run index rows shift w (!c.keep)
    if c.accOp = 0 ∧ k = home then
      let t : Tile := { part := k, ctx := ctx, run := run, tenant := i, format := c.format, rows := rows, group := ch.groupC k c
                        width := c.outWidth, cols := c.h32, ops := [(index, w.addr)], issued := 1, shift := 0, firstAt := ch.now }
      ((ch.setTile tk (some t)).setTileState tk 1).inc R.ACU_CNT_CHAINS
    else if c.accOp = 2 then ch
    else match ch.tile tk with
      | some t => ch.setTile tk (some { t with
          ops := if t.ops.any (·.1 == index) then t.ops else t.ops ++ [(index, w.addr)], issued := t.issued + 1 })
      | none => ch

/-- Move a DRAIN at the head of the queue into the drain slot (R198), with its tenant's seed (R203). One that names a tile not OPEN here
is refused (R194), or completes OVERFLOW when its chain overflowed for good (R206), ABORTED when an abort discarded its chain (R213). -/
def Chan.takeDrain (ch : Chan) (k : Nat) : Chan :=
  let p := ch.part k
  match p.queue with
  | (ctx, run, index) :: rest =>
    let c := (ch.side ctx).cmd index
    let tkey := tileKey (k / 8) c.tile
    if c.opcode ≠ 0x0A ∨ p.drain.isSome ∨ ch.chainSaved tkey ctx run then ch
    else
      let ours := match ch.tile tkey with
        | some t => t.part == k && t.ctx == ctx && ch.tileState tkey == 1 && !t.dead
        | none => false
      let start := (ch.side ctx).startIx index
      let (spent, aborted) := match ch.run ctx, start with
        | some r, some i => (r.spent.contains i, decide (i < r.aborted))
        | _, _ => (false, false)
      let ch := ch.setPart k { p with queue := rest }
      if ours then
        let seed := (ch.rd (R.ACU_SR_SEED (ch.slotTenant (ctxSlot ctx)))).toNat
        (ch.modPart k fun p => { p with
          drain := some { ctx := ctx, run := run, index := index, tile := c.tile, taken := ch.now, seed := seed } }).setTileState tkey 2
      else if spent then ch.cmdDone ctx index 3
      else if aborted then ch.cmdDone ctx index 2
      else ch.opReject ctx index (k / 8) true
  | [] => ch

/-- The operation at the head of a partition's queue gives way when its tenant does not hold the partition: it waits aside, with what its
tenant queued behind it, for its tenant's next slot (R178, R226). -/
def Chan.park (ch : Chan) (k : Nat) : Chan :=
  let p := ch.part k
  match p.queue with
  | [] => ch
  | x :: _ =>
    let mine (y : Nat × Nat × Nat) : Bool := ch.slotTenant (ctxSlot y.1) == ch.slotTenant (ctxSlot x.1)
    ch.setPart k { p with parked := p.parked ++ p.queue.filter mine, queue := p.queue.filter fun y => !mine y }

/-- What waits aside for a tenant that now holds the partition goes back to the head of the queue. -/
def Chan.unpark (ch : Chan) (k : Nat) : Chan :=
  let p := ch.part k
  let back (y : Nat × Nat × Nat) : Bool := ch.holdsUnit k (ch.slotTenant (ctxSlot y.1))
  if p.parked.any back then
    ch.setPart k { p with queue := p.parked.filter back ++ p.queue, parked := p.parked.filter fun y => !back y }
  else ch

/-- Refuse the head operation of a partition. -/
def Chan.refuseHead (acu : Bool) (ch : Chan) (k : Nat) : Chan :=
  match (ch.part k).queue with
  | (ctx, _, index) :: rest => (ch.modPart k fun p => { p with queue := rest }).opReject ctx index (k / 8) acu
  | [] => ch

/-- The head of partition `k'` belongs to the reduction group of command `c`. -/
def Chan.memberHead (ch : Chan) (ctx run : Nat) (c : Cmd) (k' : Nat) : Bool :=
  match (ch.part k').queue with
  | (ctx', run', index') :: _ =>
    let x := (ch.side ctx').cmd index'
    ctx' == ctx && run' == run && (x.opcode == 1 || x.opcode == 2) && x.mask == c.mask
  | [] => false

/-- Ask for the load of the head operation of a partition, unless it keeps the active weights. -/
def Chan.askHead (ch : Chan) (k : Nat) : Chan :=
  match (ch.part k).queue with
  | (ctx, run, index) :: _ => if ((ch.side ctx).cmd index).keep then ch else ch.askStandby k ctx run index
  | [] => ch

/-- Let a partition go on: take a DRAIN, refuse the head operation where a rule of R167 or R194 fails (the whole of its
reduction group, log 41), ask for its standby load, and issue it once it and its group are ready. A fenced partition holds its queue for
the remap (R263, R264). `n` bounds how many queue heads one call passes. -/
def Chan.pumpN : Nat → Chan → Nat → Chan
  | 0, ch, _ => ch
  | n + 1, ch, k =>
    let len := (ch.part k).queue.length
    let ch := ch.takeDrain k
    match (ch.part k).queue with
    | [] => ch
    | (ctx, run, index) :: _ =>
      let c := (ch.side ctx).cmd index
      if c.opcode = 0x0A then
        (if (ch.part k).queue.length < len then Chan.pumpN n ch k
         else if ch.chainSaved (tileKey (k / 8) c.tile) ctx run && !ch.holdsUnit k (ch.slotTenant (ctxSlot ctx)) then
           Chan.pumpN n (ch.park k) k
         else ch)
      else if ch.partFenced (k / 8) (k % 8) then ch
      else if !ch.holdsUnit k (ch.slotTenant (ctxSlot ctx)) then Chan.pumpN n (ch.park k) k
      else
        let m := match ch.run ctx with | some r => r.m | none => 0
        let g := ch.groupC k c
        if !g.all (ch.memberHead ctx run c) then ch.askHead k
        else if !g.all (fun k' => match (ch.part k').queue with
            | (_, _, ix) :: _ => ch.keepOk k' ctx ((ch.side ctx).cmd ix)
            | [] => false) then Chan.pumpN n (g.foldl (Chan.refuseHead false) ch) k
        else if !ch.groupAgrees g ctx m c || !ch.tileOk (ch.homeC k c) ctx run m index c then
          Chan.pumpN n (g.foldl (Chan.refuseHead true) ch) k
        else
          let ch := g.foldl Chan.askHead ch
          if g.all ch.headReady then Chan.pumpN n (g.foldl Chan.issueHead ch) k else ch

/-- Let a partition go on as far as it can. -/
def Chan.pump (ch : Chan) (k : Nat) : Chan :=
  let ch := ch.unpark k
  ch.pumpN (2 * (ch.part k).queue.length + 1) k

/-- An MMA, MMT or DRAIN enters its partition's queue (R226), or is refused: under R167 and R218, or under R194 and R200. Where
rules of both hold, R167 counts (log 155). -/
def Chan.enterPart (ch : Chan) (ctx index : Nat) : Chan :=
  match ch.run ctx with
  | none => ch
  | some r =>
    let c := (ch.side ctx).cmd index
    let (e, p) := ch.physical c.engine c.part
    let k := partKey e p
    let drain := c.opcode == 0x0A
    if !drain && !ch.opForm ctx r.number r.m c then ch.opReject ctx index e false
    else if !(if drain then ch.drainEnters ctx r.number r.m index else ch.accForm ctx r.number r.m c) then ch.opReject ctx index e true
    else (ch.modPart k fun x => { x with queue := x.queue ++ [(ctx, r.number, index)] }).pump k

/-! ## Standby commands -/

/-- First MMA or MMT of a side's program that runs on partition `k` and loads weights (R226). -/
def Chan.firstLoad (ch : Chan) (ctx k : Nat) : Option Nat :=
  let s := ch.side ctx
  (List.range s.commands).find? fun i =>
    let c := s.cmd i
    (c.opcode == 1 || c.opcode == 2) && ch.physical c.engine c.part == (k / 8, k % 8) && !c.keep

/-- The next load of side `ctx` on partition `k`: of its first operation there that waits and loads weights, else of its next run's
first load (R175, R226). -/
def Chan.nextLoad (ch : Chan) (ctx k : Nat) : Option (Nat × Nat × Nat) :=
  let p := ch.part k
  let loads (x : Nat × Nat × Nat) : Bool :=
    let c := (ch.side ctx).cmd x.2.2
    x.1 == ctx && (c.opcode == 1 || c.opcode == 2) && !c.keep && !isFor p.standby x && !isFor p.next x
  let run := match ch.run ctx with | some r => r.number | none => (ch.seqr ctx).count
  let waiting := (ch.vpe.wfq.filter fun w => w.unit == k).map fun w => (w.ctx, run, w.index)
  ((p.queue ++ p.parked ++ waiting).find? loads).or ((ch.firstLoad ctx k).bind fun i => if loads (ctx, run, i) then some (ctx, run, i) else none)

/-- One staging load of a partition, at least 66 cc old, has been read and its seals checked: it is staged, or a tile whose seal fails
holds it (R173, R231, R233). -/
def Chan.stageLoad (ch : Chan) (k : Nat) (s : Standby) : Standby × Chan :=
  let c := (ch.side s.ctx).cmd s.index
  let n := stationaryBytes (c.engineFmt.getD .n8) c.part
  let ch := ch.inc R.CHK_CNT_SEAL_CHECK (n / 2048)
  match ch.loadBad s.ctx c c.w16 with
  | some t => ({ s with phase := .held }, { ch with models := { ch.models with
      holds := ch.models.holds ++ [{ ctx := s.ctx, tile := t, at_ := ch.now, part := some k }] } })
  | none => ({ s with phase := .staged, at_ := ch.now, w := some (ch.weightsOf s.ctx s.run c) },
      ch.watch 0 (ch.winAddr s.ctx s.run c.w16) n false)

/-- A load that the port has had time to read: 66 cc (R173). -/
def Chan.loadDue (ch : Chan) (s : Option Standby) : Option Standby :=
  s.filter fun s => s.phase == .staging && ch.sinceC s.at_ 66

/-- STANDBY_STAGE_COMPLETE (R173, R175, R226, R231): the load port has read and checked the tiles of the oldest load of a partition
that stages. With none staging, the next load of side `ctx` there begins. -/
def Chan.standbyStaged (ch : Chan) (k ctx : Nat) : Chan :=
  let p := ch.part k
  match ch.loadDue p.standby, ch.loadDue p.next with
  | some s, _ => let (s, ch) := ch.stageLoad k s; ch.modPart k fun p => { p with standby := some s }
  | none, some s => let (s, ch) := ch.stageLoad k s; ch.modPart k fun p => { p with next := some s }
  | none, none =>
    let staging (s : Option Standby) : Bool := match s with | some s => s.phase == .staging || s.phase == .held | none => false
    if staging p.standby || staging p.next || p.next.isSome || !ch.sideBusy ctx ||
        !ch.partServes (k / 8) (k % 8) (ch.slotTid (ctxSlot ctx)) then ch
    else match ch.nextLoad ctx k with
      | none => ch
      | some (_, run, i) =>
        let load : Standby := { ctx := ctx, run := run, index := i, phase := .staging, at_ := ch.now }
        ch.modPart k fun p => if p.standby.isNone then { p with standby := some load } else { p with next := some load }

/-- STANDBY_WRITE_COMPLETE (R173, R174): the staged image stands in the standby registers; the waiting operation may issue. -/
def Chan.standbyWritten (ch : Chan) (k : Nat) : Chan :=
  let p := ch.part k
  match p.standby with
  | some s =>
    let free := match p.lastIssue with
      | some (t, _) => ch.sinceC t (passGap (k % 8) - 1)
      | none => true
    if s.phase ≠ .staged ∨ ¬ ch.sinceC s.at_ 66 ∨ free = false then ch
    else
      let ch := ch.setPart k { p with standby := some { s with phase := .written, at_ := ch.now } }
      let ch := (ch.setQuads (k / 8) (k % 8) F.MXE_STATUS_standby_ready true).inc (R.MXE_CNT_LOADS (k / 8))
      ch.pump k
  | none => ch

/-! ## Landing rows -/

/-- Words of row `m` of a tile. -/
def Tile.row (t : Tile) (m : Nat) : List AccWord :=
  (List.range t.width).map fun n => sget (fun _ => ({} : AccWord)) t.words (256 * m + n)

def Tile.putRow (t : Tile) (m : Nat) (ws : List AccWord) : Tile :=
  { t with words := ws.zipIdx.foldl (fun m' w => sset (fun _ => ({} : AccWord)) m' (256 * m + w.2) w.1) t.words }

/-- Sum of two accumulator words: exact for integers, with the overflow found against INT32; FP32 nearest-even. -/
def accAdd (f : Fmt) (a b : AccWord) : AccWord × Bool :=
  if f.isInt then
    let v := a.bits.toInt + b.bits.toInt
    ({ bits := BitVec.ofInt 32 v, nan := a.nan || b.nan }, decide (v < -(2 ^ 31) ∨ 2 ^ 31 ≤ v))
  else ({ bits := BitVec.ofNat 32 (fpAdd a.bits.toNat b.bits.toNat), nan := a.nan || b.nan }, false)

/-- Pairwise sums of rows of engines 0 to 3, an absent member as zero (R196). -/
def reduceRows (f : Fmt) (width : Nat) (rows : List (Option (List AccWord))) : List AccWord × Bool :=
  let g (e n : Nat) : AccWord := match rows.getD e none with | some r => r.getD n {} | none => {}
  let cols := (List.range width).map fun n =>
    let (x, o1) := accAdd f (g 0 n) (g 1 n)
    let (y, o2) := accAdd f (g 2 n) (g 3 n)
    let (z, o3) := accAdd f x y
    (z, o1 || o2 || o3)
  (cols.map (·.1), cols.any (·.2))

/-- Format of a flight's operands: that of its command, or the one its layer has widened into (R127). -/
def Chan.flightFmt (ch : Chan) (fl : Flight) : Fmt :=
  let f := ((ch.side fl.ctx).cmd fl.index).engineFmt.getD .n8
  if fl.wide then f.widened.getD f else f

/-- Streamed codes of row `m` of a flight. -/
def Chan.streamRow (ch : Chan) (fl : Flight) (m : Nat) : List Nat :=
  let c := (ch.side fl.ctx).cmd fl.index
  let f := ch.flightFmt fl
  let (kt, nt) := tileShape f c.part
  let n := if c.opcode = 2 then nt else kt
  streamCodes f (ch.winBytes fl.ctx fl.run (c.w20 + m * c.w24) (rowBytes f n)) c.h30 n

/-- Quadrant of a flight whose compare of row `m` fails under an injected error, and how many quadrants' rows could not be bounded
(R245, R246). The widened rows of R127 are free values, whose compare fails when an error is injected. -/
def Chan.rowCheck (ch : Chan) (k : Nat) (fl : Flight) (as : List Nat) (errQ err : Nat) : Option Nat × Nat :=
  let c := (ch.side fl.ctx).cmd fl.index
  let f := c.engineFmt.getD .n8
  let mmt := c.opcode == 2
  if fl.wide then (if err = 0 then none else (partQuads (k % 8)).find? (· == errQ), 0)
  else
    let rs := (partQuads (k % 8)).map fun q =>
      let (sh, oh) := quadHalves c.part q mmt
      (q, checkQuad f c.part mmt fl.shift fl.w as sh oh (if q = errQ then err else 0))
    ((rs.find? (·.2 == .fail)).map (·.1), (rs.filter (·.2 == .unchecked)).length)

/-- Result row of a flight. That of a widened layer is a free value, since the spec does not say where widened weights lie (log 49); a NaN
operand marks it all the same (R122). -/
def Chan.flightRow (ch : Chan) (fl : Flight) (as : List Nat) : List AccWord :=
  let s := ch.side fl.ctx
  let c := s.cmd fl.index
  if fl.wide then (List.range c.outWidth).map fun n => { bits := Config.widened s.modelDigest fl.index as n, nan := as.any (isNaNCode (ch.flightFmt fl)) }
  else resultRow (c.engineFmt.getD .n8) c.part (c.opcode == 2) fl.shift fl.w as

/-- Change the flight at the head that still has rows to land. -/
def Part.modFlight (p : Part) (f : Flight → Flight) : Part :=
  { p with flights := match p.flights with | [] => [] | x :: xs => f x :: xs }

/-- Discard everything in flight of a chain or an operation. -/
def Chan.discard (ch : Chan) (k ctx run : Nat) (ops : List Nat) : Chan :=
  ch.modPart k fun p => { p with
    flights := p.flights.map fun x => if x.ctx = ctx ∧ x.run = run ∧ ops.contains x.index then { x with discard := true } else x }

/-- Discard what is in flight of a tile's chain, on every member of its reduction group (R204, R247). -/
def Chan.stopChain (ch : Chan) (t : Tile) : Chan :=
  (t.group).foldl (fun (ch : Chan) k => ch.discard k t.ctx t.run (t.ops.map (·.1))) ch

/-- Free a discarded chain once none of its rows is in flight (R213). -/
def Chan.reapTile (ch : Chan) (tkey : Nat) : Chan :=
  match ch.tile tkey with
  | none => ch
  | some t =>
    let busy := (t.group).any fun k => (ch.part k).flights.any fun x =>
      x.ctx == t.ctx && x.run == t.run && (t.ops.map (·.1)).contains x.index
    if t.dead ∧ busy = false then
      (ch.freeTile tkey).modPart t.part fun p => if p.tile = some (tkey % 16) then { p with tile := none } else p
    else ch

/-- Operations of a chain that have not completed. -/
def Chan.liveOps (ch : Chan) (t : Tile) : List Nat :=
  let live := match ch.run t.ctx with | some r => r.live.map fun (x : RunCmd) => x.index | none => []
  (t.ops.map (·.1)).filter live.contains

/-- Rows of a command are in flight and will land. -/
def Chan.flying (ch : Chan) (ctx index : Nat) : Bool :=
  ch.eng.parts.any fun x => x.2.flights.any fun f => f.ctx == ctx && f.index == index && !f.discard

/-- A command that has not completed is cancelled (R212). -/
def Chan.cancelOp (ch : Chan) (ctx index : Nat) : Chan :=
  let live := match ch.run ctx with | some r => r.live.any fun l => l.index == index | none => false
  if live then (ch.inc R.ACU_CNT_ABORTED).cmdDone ctx index 2 else ch

/-- The DRAIN of a discarded chain that waits in the drain slot ends as `f` says (R206, R213). -/
def Chan.dropDrain (ch : Chan) (tkey : Nat) (t : Tile) (f : Chan → Nat → Nat → Chan) : Chan :=
  match (ch.part t.part).drain with
  | some d =>
    if d.tile = tkey % 16 ∧ d.swap.isNone then f (ch.modPart t.part fun p => { p with drain := none }) d.ctx d.index
    else ch
  | none => ch

/-- Discard a chain: what has not completed of it completes with a status, its DRAIN too, and its tile is FREE once its rows have
landed (R213, R227). -/
def Chan.killChain (ch : Chan) (tkey status : Nat) : Chan :=
  match ch.tile tkey with
  | none => ch
  | some t =>
    let ch := (ch.liveOps t).foldl (fun (ch : Chan) i => ch.cmdDone t.ctx i status) (ch.stopChain t)
    let ch := (t.group).foldl (fun (ch : Chan) k => ch.modPart k fun p => { p with
      queue := p.queue.filter fun x => !(x.1 == t.ctx && (t.ops.map (·.1)).contains x.2.2) })
      (ch.dropDrain tkey t fun ch ctx i => ch.cmdDone ctx i status)
    (ch.setTile tkey (some { t with dead := true })).reapTile tkey

/-- Start a targeted self-test (R260); it holds dispatch where Table 09.6 says so (R265). -/
def Chan.startTest (ch : Chan) (u : TestUnit) (hold : Bool) : Chan :=
  { ch with chk := { ch.chk with tests := ch.chk.tests ++ [{ unit := u, at_ := ch.now, hold := hold }]
                                 holdAt := if hold ∧ ch.chk.holdAt.isNone then some ch.now else ch.chk.holdAt } }

/-- Record a failing unit in CHK_FAULT (Table 09.11), outcome testing. -/
def Chan.fault (ch : Chan) (unit engine quadrant bank entry row tid : Nat) : Chan :=
  let r := R.CHK_FAULT
  let ch := ((ch.setFld r F.CHK_FAULT_unit unit).setFld r F.CHK_FAULT_engine engine).setFld r F.CHK_FAULT_quadrant quadrant
  let ch := ((ch.setFld r F.CHK_FAULT_bank bank).setFld r F.CHK_FAULT_entry entry).setFld r F.CHK_FAULT_row row
  (ch.setFld r F.CHK_FAULT_outcome 0).setFld r F.CHK_FAULT_tenant tid

/-- Sum block of tile `t` from the golden copy (R235, R261). -/
def Chan.goldSums (ch : Chan) (ctx t : Nat) : Chan :=
  let s := ch.side ctx
  let a := 768 * le (s.sealOf t) 8 4
  if s.sealKind t = 1 ∧ a + 768 ≤ s.sums.length then
    let g := ch.bytes 1 (ch.slotTenant (ctxSlot ctx)) (s.golden + 256 + 2064 * s.tiles + a) 768
    ch.setSide ctx { s with sums := s.sums.take a ++ g ++ s.sums.drop (a + 768) }
  else ch

/-- The failures of an operation are its model's (R261): its weight tiles at window offset `addr` and their sum blocks are refetched, or
the side is quarantined at the third failure, `last`. -/
def Chan.suspect (ch : Chan) (ctx addr n : Nat) (last : Bool) : Chan :=
  let ch := (ch.setFld R.CHK_FAULT F.CHK_FAULT_outcome 3).raise EV_CHK_MODEL_SUSPECT (some (ch.slotTenant (ctxSlot ctx)))
  if last then ch.quarantine ctx
  else
    ((List.range (n / 2048)).map (addr / 2048 + ·)).foldl (fun (ch : Chan) t =>
      if t < (ch.side ctx).tiles then (ch.sealRefetch ctx t).2.goldSums ctx t else ch) ch

/-- Is this redo of a flight's operation? -/
def Redo.of (r : Redo) (fl : Flight) : Bool := r.ctx == fl.ctx && r.run == fl.run && r.ops.any fun o => o.2.1 == fl.index

/-- A slot whose operation failed in Safe Serve contributes no result until the Lodestar has returned (R265). -/
def Chan.mute (ch : Chan) (ctx : Nat) : Chan := { ch with chk := { ch.chk with muted := ctxSlot ctx :: ch.chk.muted } }

/-- The commands of a failed STREAM end with a status and it runs no more. -/
def Chan.endRedo (ch : Chan) (home : Nat) (r : Redo) (status : Nat) : Chan :=
  r.ops.foldl (fun (ch : Chan) o => ch.cmdDone r.ctx o.2.1 status)
    (ch.modPart home fun p => { p with redo := p.redo.filter fun x => x ≠ r })

/-- A STREAM fails its compare on quadrant `u` (R247, R261, R262): what is in flight of it is discarded on every member. -/
def Chan.streamFailed (ch : Chan) (home u n : Nat) (fl : Flight) (members : List (Nat × Flight)) : Chan :=
  let ch := members.foldl (fun (ch : Chan) x => ch.discard x.1 fl.ctx fl.run [x.2.index]) ch
  let old := (ch.part home).redo.find? fun r => r.of fl
  let r : Redo := old.getD { ctx := fl.ctx, run := fl.run, ops := members.map fun x => (x.1, x.2.index, x.2.w.addr) }
  let put (ch : Chan) (x : Redo) : Chan := ch.modPart home fun p => { p with redo := p.redo.filter (fun y => !y.of fl) ++ [x] }
  if ch.safeServe then ((put ch r).mute fl.ctx).endRedo home r 1
  else if !r.tested.contains u then
    (put ch { r with tested := u :: r.tested, restart := none }).startTest (.quadrant (u / 4) (u % 4)) true
  else
    let last := decide (1 ≤ r.fails)
    let ch := ch.suspect fl.ctx fl.w.addr n last
    if last then (put ch r).endRedo home r 5 else put ch { r with fails := r.fails + 1, restart := some ch.now }

/-- An operation of the chain of a tile fails its compare on quadrant `u` (R247, R261, R262). -/
def Chan.chainFailed (ch : Chan) (tkey u n : Nat) (fl : Flight) (t : Tile) : Chan :=
  let ch := ch.stopChain t
  if ch.safeServe then ((ch.mute fl.ctx).cmdDone fl.ctx fl.index 1).killChain tkey 1
  else if !t.tested.contains u then
    (ch.setTile tkey (some { t with waiting := true, restart := none, tested := u :: t.tested })).startTest (.quadrant (u / 4) (u % 4)) true
  else
    let last := decide (1 ≤ t.fails)
    let ch := ch.suspect fl.ctx fl.w.addr n last
    if last then (ch.cmdDone fl.ctx fl.index 5).killChain tkey 5
    else ch.setTile tkey (some { t with fails := t.fails + 1, restart := some ch.now, words := [], issued := 0 })

/-- Row `m` of an operation fails its compare on quadrant `q` of partition `k` (R247). A quadrant whose failure has not been tested is
tested; an operation that fails again on one that passed is the model's (R261) and runs again. In Safe Serve no test runs: the run
fails (R265). `members`: what is in flight of the operation, the home first. -/
def Chan.rowFailed (ch : Chan) (k q m : Nat) (fl : Flight) (members : List (Nat × Flight)) : Chan :=
  let c := (ch.side fl.ctx).cmd fl.index
  let i := ch.slotTenant (ctxSlot fl.ctx)
  let e := k / 8
  let n := stationaryBytes (c.engineFmt.getD .n8) c.part
  let ch := ch.fault 1 e q 0 0 m (ch.tid i)
  let ch := ch.count R.CHK_CNT_ARRAY_MISMATCH EV_CHK_ARRAY_MISMATCH (some i)
  let tkey := ch.tileOf k c
  match (if c.accOp = 2 then none else ch.tile tkey) with
  | none => ch.streamFailed ((members.headD (k, fl)).1) (4 * e + q) n fl members
  | some t => ch.chainFailed tkey (4 * e + q) n fl t

/-- Take a chain's operations out of the queues of its partitions. -/
def Chan.unqueueChain (ch : Chan) (t : Tile) : Chan :=
  let gone (x : Nat × Nat × Nat) : Bool := x.1 == t.ctx && x.2.1 == t.run && t.ops.any (·.1 == x.2.2)
  t.group.foldl (fun (ch : Chan) k => ch.modPart k fun p => { p with
    queue := p.queue.filter fun x => !gone x, parked := p.parked.filter fun x => !gone x }) ch

/-- A persistent overflow is noted for the DRAIN of its chain (R206). -/
def Chan.noteSpent (ch : Chan) (ctx start : Nat) : Chan :=
  match ch.run ctx with
  | some r => ch.setRun ctx { r with spent := r.spent ++ [start] }
  | none => ch

/-- Overflow of a chain (R204, R206). -/
def Chan.overflow (ch : Chan) (k tkey : Nat) (t : Tile) : Chan :=
  let i := t.tenant
  let s := min (t.shift + 1) 3
  let r := R.ACU_OVF_STATUS
  let ch := ((ch.setFld r F.ACU_OVF_STATUS_engine (k / 8)).setFld r F.ACU_OVF_STATUS_partition (k % 8)).setFld r
    F.ACU_OVF_STATUS_tile (tkey % 16)
  let ch := (ch.setFld r F.ACU_OVF_STATUS_shift s).setFlag r F.ACU_OVF_STATUS_persistent (decide (t.shift = 3))
  let ch := ch.stopChain t
  if t.shift = 3 then
    let ch := ch.count R.ACU_CNT_PERSISTENT EV_ACU_PERSISTENT_OVERFLOW (some i)
    let start := (t.ops.headD (0, 0)).1
    let ch := t.ops.foldl (fun (ch : Chan) o => ch.cmdDone t.ctx o.1 0) (ch.unqueueChain t)
    let ch := (ch.noteSpent t.ctx start).failRun t.ctx start 3
    let ch := ch.dropDrain tkey t fun ch ctx i => ch.cmdDone ctx i 3
    (ch.freeTile tkey).modPart t.part fun p => if p.tile = some (tkey % 16) then { p with tile := none } else p
  else
    let ch := ch.count R.ACU_CNT_REPLAY EV_ACU_REPLAY (some i)
    ch.setTile tkey (some { t with shift := s, restart := some ch.now, words := [], issued := 0 })

/-- Finish a flight whose rows have all landed. A STREAM to OUT ends its tensor (R127). -/
def Chan.flightDone (ch : Chan) (k : Nat) : Chan :=
  match (ch.part k).flights with
  | [] => ch
  | fl :: rest =>
    if fl.landed < fl.rows then ch
    else
      let c := (ch.side fl.ctx).cmd fl.index
      let ch := ch.modPart k fun p => { p with flights := rest }
      let ch := if rest.isEmpty then ch.setQuads (k / 8) (k % 8) F.MXE_STATUS_busy false else ch
      if fl.discard then ch.reapTile (ch.tileOf k c)
      else
        let ch := if c.accOp = 2 then
            let d := ch.drainDesc fl.ctx fl.run c.w36
            let ch := ch.modPart k fun p => { p with redo := p.redo.filter fun r => !r.of fl }
            if d.dest = 0 then ch.widenInRun fl.ctx d.out d.addr d.stride fl.sats fl.vals else ch
          else ch
        (ch.cmdComplete fl.ctx fl.index fl.late).reapTile (ch.tileOf k c)

/-- Put one row of results where the operation's acc_op sends it (R192, R193, R201, R204). -/
def Chan.putResult (ch : Chan) (k m : Nat) (fl : Flight) (row : List AccWord) (ovf : Bool) : Chan :=
  let c := (ch.side fl.ctx).cmd fl.index
  let f := ch.flightFmt fl
  let tkey := ch.tileOf k c
  if c.accOp = 2 then
    let d := ch.drainDesc fl.ctx fl.run c.w36
    let ys := (ch.scaleRow fl.ctx fl.run f fl.shift d row).take c.h32
    let (sats, ch) := ch.drainRow fl.ctx fl.run d fl.seed m 0 ys
    if d.dest = 0 then ch.modPart k fun p => p.modFlight fun x => { x with
        sats := x.sats + sats, vals := x.vals ++ [ys.map (ch.drainAct fl.ctx fl.run d.act)] }
    else ch
  else match ch.tile tkey with
    | none => ch
    | some t =>
      let sums := if c.accOp = 0 then row.map fun x => (x, false) else ((t.row m).zip row).map fun p => accAdd f p.1 p.2
      if ovf || sums.any (·.2) then ch.overflow k tkey t else ch.setTile tkey (some (t.putRow m (sums.map (·.1))))

/-- Note when a row of a tile's chain landed (R207). -/
def Chan.noteLanding (ch : Chan) (k : Nat) (fl : Flight) (c : Cmd) : Chan :=
  let tkey := ch.tileOf k c
  match (if c.accOp = 2 then none else ch.tile tkey) with
  | some t => if t.ctx = fl.ctx ∧ t.run = fl.run then ch.setTile tkey (some { t with landAt := some ch.now }) else ch
  | none => ch

/-- MXE_ROW_LAND (R171, R196, R201, R245): the next row of the oldest operation in flight on partition `k` lands. A fault adds
`err` to a tapped sum of quadrant `errQ`; without one `err` is 0. Rows of a reduction group land with its home. -/
def Chan.rowLand (ch : Chan) (k errQ err : Nat) : Chan :=
  match (ch.part k).flights with
  | [] => ch
  | fl :: _ =>
    let c := (ch.side fl.ctx).cmd fl.index
    let grp := ch.groupC k c
    let m := fl.landed
    if ch.homeC k c ≠ k ∨ ¬ ch.sinceC fl.issued (264 + m + if grp.length = 1 then 0 else 11) then ch
    else
      let ch := (grp.foldl (fun (ch : Chan) k' =>
        (ch.modPart k' fun p => p.modFlight fun x => { x with landed := x.landed + 1 }).inc (R.MXE_CNT_ROWS (k' / 8))) ch).noteLanding k fl c
      if fl.discard then grp.foldl Chan.flightDone ch
      else
        let heads := grp.filterMap fun k' => (ch.part k').flights.head?.map fun x => (k', x, ch.streamRow x m)
        let checks := heads.map fun h => (h.1, h.2.1, ch.rowCheck h.1 h.2.1 h.2.2 (if h.1 = k then errQ else 4) err)
        let unchecked := checks.foldl (fun n x => n + x.2.2.2) 0
        let ch := if unchecked = 0 then ch else ch.count R.CHK_CNT_UNCHECKED EV_CHK_UNCHECKED
            (some (ch.slotTenant (ctxSlot fl.ctx))) unchecked
        match checks.find? fun x => x.2.2.1.isSome with
        | some (k', x, q, _) => grp.foldl Chan.flightDone (ch.rowFailed k' (q.getD 0) m x (heads.map fun h => (h.1, h.2.1)))
        | none =>
          let of_ (k' : Nat) : Option (List AccWord) := (heads.find? fun h => h.1 == k').map fun h => ch.flightRow h.2.1 h.2.2
          let members := (maskEngines c.engine c.mask).zip grp
          let (row, ovf) := match grp with
            | [_] => ((of_ k).getD [], false)
            | _ => reduceRows (ch.flightFmt fl) c.outWidth ((List.range 4).map fun e =>
                (members.find? fun m => m.1 == e).bind fun m => of_ m.2)
          grp.foldl Chan.flightDone (ch.putResult k m fl row ovf)

end Sys2Proof.Machine
end

