-- ==== Sys2Proof/Machine/Chains.lean ====
section
/-!
DEFINITION. Machine/Chains.lean: replay of chains (R205, R262), draining (R198, R199), cut chains (R207 to R209), aborts
(R212, R213), supply ramps (R180), the Ristretto units (R182 to R186) and the ownership registers (R168, R170, R186, R210).
-/

namespace Sys2Proof.Machine

open Sys2Proof

/-! ## Replay (R205, R262) -/

/-- Reload weights for a restart on partition `k`: a tile whose seal fails holds the partition (R233). -/
def Chan.reload (ch : Chan) (k ctx run : Nat) (c : Cmd) (addr : Nat) : Option Weights × Chan :=
  let n := stationaryBytes (c.engineFmt.getD .n8) c.part
  let ch := ch.inc R.CHK_CNT_SEAL_CHECK (n / 2048)
  match ch.loadBad ctx c addr with
  | some t => (none, { ch with models := { ch.models with
      holds := ch.models.holds ++ [{ ctx := ctx, tile := t, at_ := ch.now, part := some k }] } })
  | none => (some (ch.weightsAt ctx run c addr), ch.watch 0 (ch.winAddr ctx run addr) n false)

/-- Reload the weights of every member (partition, command, address) of an operation that runs again: none while a tile's seal fails. -/
def Chan.reloadAll (ch : Chan) (ctx run : Nat) (ops : List (Nat × Nat × Nat)) : Option (List Weights) × Chan :=
  ops.foldl (fun (acc : Option (List Weights) × Chan) o =>
    let (w, ch) := acc.2.reload o.1 ctx run ((ch.side ctx).cmd o.2.1) o.2.2
    (acc.1.bind fun ws => w.map fun w => ws ++ [w], ch)) (some [], ch)

/-- A restart asked for at `t` may issue on partition `k`: 133 cc later, and not before R174, R178, R233 and R263 allow. -/
def Chan.restartDue (ch : Chan) (k t tenant : Nat) : Bool :=
  ch.sinceC t 133 && !ch.models.holds.any (fun h => h.part == some k) && ch.holdsUnit k tenant && ch.obs.dump.isNone &&
  !ch.partFenced (k / 8) (k % 8) && !ch.sweeping (k / 8) &&
  (match (ch.part k).lastIssue with
    | some (a, m) => ch.sinceC a (max m (passGap (k % 8)))
    | none => true)

/-- The members of an operation issue again with the weights reloaded for them. -/
def Chan.relaunch (ch : Chan) (ctx run rows shift : Nat) (ops : List (Nat × Nat × Nat)) (ws : List Weights) : Chan :=
  (ops.zip ws).foldl (fun (ch : Chan) x => (ch.dropImages x.1.1).launch x.1.1 ctx run x.1.2.1 rows shift x.2 true) ch

/-- Restart a failed STREAM on every member of its group (R262). -/
def Chan.redoStream (ch : Chan) (k : Nat) (r : Redo) : Chan :=
  match ch.reloadAll r.ctx r.run r.ops with
  | (none, ch) => ch
  | (some ws, ch) =>
    let rows := ((ch.side r.ctx).cmd ((r.ops.headD (0, 0, 0)).2.1)).rows (match ch.run r.ctx with | some x => x.m | none => 0)
    (ch.modPart k fun p => { p with redo := p.redo.map fun x => if x = r then { x with restart := none } else x }).relaunch
      r.ctx r.run rows 0 r.ops ws

/-- Operations of a chain on one member partition, in issue order. -/
def Chan.memberOps (ch : Chan) (t : Tile) (k : Nat) : List (Nat × Nat) :=
  t.ops.filter fun o => let c := (ch.side t.ctx).cmd o.1
    let (e, p) := ch.physical c.engine c.part
    partKey e p == k

/-- Put the later operations of a chain back at the head of a member's queue. -/
def Chan.requeue (t : Tile) (ch : Chan) (k : Nat) : Chan :=
  let rest := (ch.memberOps t k).drop 1
  let again (x : Nat × Nat × Nat) : Bool := rest.any fun o => x == (t.ctx, t.run, o.1)
  ch.modPart k fun p => { p with queue := rest.map (fun o => (t.ctx, t.run, o.1)) ++ p.queue.filter fun x => !again x
                                 parked := p.parked.filter fun x => !again x }

/-- A failed STREAM kept at a partition may issue again on all its members. -/
def Chan.redoDue (ch : Chan) (r : Redo) : Bool :=
  match r.restart with
  | some t => r.ops.all fun o => ch.restartDue o.1 t (ch.slotTenant (ctxSlot r.ctx))
  | none => false

/-- The chain of a tile may issue again on all its members. -/
def Chan.chainDue (ch : Chan) (k : Nat) (t : Tile) : Bool :=
  match t.restart with
  | some a => t.part == k && !t.dead && !t.cut && t.group.all fun k' => ch.restartDue k' a t.tenant
  | none => false

/-- CHAIN_REPLAY (R205, R262): the restart that waits on partition `k` issues: a failed STREAM, or the chain of a tile. -/
def Chan.chainReplay (ch : Chan) (k : Nat) : Chan :=
  match (ch.part k).redo.find? ch.redoDue with
  | some r => ch.redoStream k r
  | none =>
    match (List.range 16).findSome? fun n => (ch.tile (tileKey (k / 8) n)).bind fun t => if ch.chainDue k t then some (n, t) else none with
    | none => ch
    | some (n, t) =>
      let firsts := t.group.filterMap fun k' => ((ch.memberOps t k').head?).map fun o => (k', o.1, o.2)
      match ch.reloadAll t.ctx t.run firsts with
      | (none, ch) => ch
      | (some ws, ch) =>
        let ch := (t.group.foldl (Chan.requeue t) ch).relaunch t.ctx t.run t.rows t.shift firsts ws
        let ch := ch.setTile (tileKey (k / 8) n) (some { t with restart := none, waiting := false, words := [], issued := t.group.length })
        t.group.foldl Chan.pump ch

/-! ## Draining (R198, R199) -/

/-- No row of a chain is in flight. -/
def Chan.rowsLanded (ch : Chan) (t : Tile) : Bool :=
  !(t.group).any fun k => (ch.part k).flights.any fun x =>
    x.ctx == t.ctx && x.run == t.run && (t.ops.map (·.1)).contains x.index

/-- Rows of the partition's draining chain have all landed: no restart waits, every operation of the chain has issued and
none of its rows is in flight. -/
def Chan.chainLanded (ch : Chan) (t : Tile) : Bool :=
  t.restart.isNone && !t.waiting && !t.dead && !t.cut && t.issued == t.ops.length && ch.rowsLanded t

/-- DRAIN_SWAP (R198): the DRAIN in partition `k`'s drain slot swaps the sets. -/
def Chan.drainSwap (ch : Chan) (k : Nat) : Chan :=
  let p := ch.part k
  match p.drain with
  | none => ch
  | some d =>
    let tk := tileKey (k / 8) d.tile
    match ch.tile tk with
    | none => ch
    | some t =>
      if d.swap.isSome ∨ ch.chainLanded t = false ∨ p.crema.isSome ∨ ch.coreNow < p.bufAt then ch
      else
        let ch := ch.setPart k { p with drain := some { d with swap := some ch.now }, crema := some d.tile
                                        tile := if p.tile = some d.tile then none else p.tile }
        (ch.setTileState tk 3).pump k

/-- Write the rows of a drained tile: answers saturations and FP32 rows of an OUT. -/
def Chan.drainRows (ch : Chan) (t : Tile) (d : DrainDesc) (seed : Nat) : Nat × List (List Nat) × Chan :=
  let f := (Fmt.ofCode t.format).getD .n8
  (List.range t.rows).foldl (fun (acc : Nat × List (List Nat) × Chan) m =>
    let (sats, rows, ch) := acc
    let ys := ch.scaleRow t.ctx t.run f t.shift d ((t.row m).take t.cols)
    let (s, ch) := ch.drainRow t.ctx t.run d seed m 0 ys
    (sats + s, if d.dest = 0 then rows ++ [ys.map (ch.drainAct t.ctx t.run d.act)] else rows, ch)) (0, [], ch)

/-- A side's run is an abandoned training step, whose later gradient drains write nothing (R281). -/
def Chan.stepDead (ch : Chan) (ctx : Nat) : Bool :=
  (ch.trainG ctx).isSome && (match ch.run ctx with | some r => r.failed.isSome | none => false)

/-- DRAIN_READ_COMPLETE (R199, R201, R127): the Crema set of partition `k` has been read out: its outputs are written, the
tile is FREE and the DRAIN completes. -/
def Chan.drainReadComplete (ch : Chan) (k : Nat) : Chan :=
  let p := ch.part k
  match p.drain with
  | some { ctx := ctx, run := run, index := index, tile := n, seed := seed, swap := some x, late := late, .. } =>
    let tk := tileKey (k / 8) n
    match ch.tile tk with
    | none => ch
    | some t =>
      if ch.sinceC x (drainRead (k % 8) - 1) = false then ch
      else
        let d := ch.drainDesc ctx run ((ch.side ctx).cmd index).w36
        let (sats, rows, ch) := if d.dest = 2 && ch.stepDead ctx then (0, [], ch) else ch.drainRows t d seed
        let ch := if d.dest = 0 then ch.widenInRun ctx d.out d.addr d.stride sats rows else ch
        let words := t.rows * t.width
        let ch := ch.modPart k fun p => { p with drain := none, crema := none
                                                 bufAt := if d.dest = 2 then coreAt ch.core x + coreCycles (drainRead (k % 8) + words / 512) else p.bufAt }
        let ch := (ch.freeTile tk).inc R.ACU_CNT_DRAINS
        (ch.cmdComplete ctx index late).pump k
  | _ => ch

/-! ## Cut chains (R207 to R209) -/

/-- The next command of a chain's tile after its last issued one, in its run's program: an operation that adds to it. -/
def Chan.chainMore (ch : Chan) (t : Tile) : Bool :=
  let s := ch.side t.ctx
  let last := (t.ops.map (·.1)).foldl max 0
  match (List.range s.commands).find? fun i =>
      let c := s.cmd i
      let (e, p) := ch.physical c.engine c.part
      last < i && (c.opcode == 1 || c.opcode == 2 || c.opcode == 0x0A) && partKey e p == t.part &&
      (c.opcode == 0x0A || c.accOp != 2) && tileKey (t.part / 8) c.tile == tileKey (t.part / 8) (s.cmd last).tile with
  | some i => (s.cmd i).opcode != 0x0A && (s.cmd i).accOp == 1
  | none => false

/-- Keys of the tiles on partition `k` that are not FREE. -/
def Chan.tilesOn (ch : Chan) (k : Nat) : List Nat :=
  ((List.range 16).map (tileKey (k / 8))).filter fun tk => match ch.tile tk with
    | some t => t.part == k
    | none => false

/-- Operations of a chain have yet to issue: a restart waits, operations are queued to run again, or its program goes on with it. -/
def Chan.unissued (ch : Chan) (tk : Nat) (t : Tile) : Bool :=
  t.restart.isSome || t.waiting || decide (t.issued < t.ops.length) || (ch.tileState tk == 1 && ch.chainMore t)

/-- Mark as cut the chains of partition `k` whose tenant has lost it and that still have operations to issue (R207). -/
def Chan.cutChains (ch : Chan) (k : Nat) : Chan :=
  (ch.tilesOn k).foldl (fun (ch : Chan) tk => match ch.tile tk with
    | some t =>
      if (ch.tileState tk = 1 ∨ ch.tileState tk = 2) ∧ t.dead = false ∧ ch.holdsUnit k t.tenant = false ∧ ch.unissued tk t = true then
        ch.setTile tk (some { t with cut := true })
      else ch
    | none => ch) ch

/-- Address of a tenant's save area for engine `e`, if it has one (R208). -/
def Chan.saveBase (ch : Chan) (i e : Nat) : Option Nat :=
  if ch.flag (R.ACU_SAVE_BASE i) F.ACU_SAVE_BASE_valid then
    some (ch.fld (R.ACU_SAVE_BASE i) F.ACU_SAVE_BASE_base + 69632 * e)
  else none

/-- `n` bytes that the spec leaves open (log 37). -/
def freeBytes (c draw n : Nat) : List Byte := (List.range n).map (Config.savedByte c draw)

/-- Image of a tile's set (R208): its words in the column order of a drain (R199, R207; log 37). -/
def Tile.image (t : Tile) : List Byte :=
  (List.range t.width).flatMap fun n => (List.range t.rows).flatMap fun m =>
    leBytes 4 (sget (fun _ => ({} : AccWord)) t.words (256 * m + n)).bits.toNat

/-- The tile with the words of an image; marks of R122 are kept beside it (log 37). -/
def Tile.ofImage (t : Tile) (b : List Byte) : Tile :=
  { t with words := (List.range (t.width * t.rows)).foldl (fun ws j =>
      let key := 256 * (j % t.rows) + j / t.rows
      sset (fun _ => ({} : AccWord)) ws key { (sget (fun _ => ({} : AccWord)) t.words key) with bits := BitVec.ofNat 32 (le b (4 * j) 4) }) t.words }

/-- Header record of a saved chain (R208; layout: log 37): tile, shift, the place in the chain of the next unissued operation, the number
of operations, zero, the CRC-32C, then command index and weight address of each operation. -/
def Tile.record (t : Tile) (tk crc : Nat) : List Byte :=
  let b := [byte (tk % 16), byte t.shift] ++ leBytes 2 t.issued ++ leBytes 2 t.ops.length ++ leBytes 2 0 ++ leBytes 4 crc ++
    t.ops.flatMap fun o => leBytes 2 o.1 ++ leBytes 4 o.2
  (b ++ List.replicate (1024 - b.length) 0).take 1024

/-- CRC-32C over a record, its CRC read as zero, and an image. -/
def saveCrc (rec img : List Byte) : Nat := (crc32c (rec.take 8 ++ List.replicate 4 0 ++ rec.drop 12 ++ img)).toNat

/-- Where a partition's record and image lie in an engine's save area: the record's offset, and the image's with its length; its
quadrants lie behind one another but in the halves, whose two quadrants lie apart. -/
def saveRecord (p : Nat) : Nat := 65536 + 1024 * (partQuads p).headD 0
def saveParts (p : Nat) : List Nat := (partQuads p).map (16384 * ·)

/-- Write a saved chain: the tile's words, then the words of the set it left unwritten, and its record. -/
def Chan.saveChain (ch : Chan) (a tk : Nat) (t : Tile) : Chan :=
  let qs := saveParts (t.part % 8)
  let (d, ch) := ch.draw
  let img := t.image ++ freeBytes ch.idx d (16384 * qs.length - t.image.length)
  let crc := saveCrc (t.record tk 0) img
  let ch := qs.zipIdx.foldl (fun (ch : Chan) q => ch.store 0 t.tenant (a + q.1) (slice img (16384 * q.2) 16384)) ch
  ch.store 0 t.tenant (a + saveRecord (t.part % 8)) (t.record tk crc)

/-- Read a saved chain back: none when its CRC fails. -/
def Chan.loadChain (ch : Chan) (a : Nat) (t : Tile) : Option Tile :=
  let rec_ := ch.spad (a + saveRecord (t.part % 8)) 1024
  let img := (saveParts (t.part % 8)).flatMap fun q => ch.spad (a + q) 16384
  if saveCrc rec_ img = le rec_ 8 4 then
    some ({ t with shift := le rec_ 1 1, issued := le rec_ 2 2
                   ops := (List.range (le rec_ 4 2)).map fun j => (le rec_ (12 + 6 * j) 2, le rec_ (14 + 6 * j) 4) }.ofImage img)
  else none

/-- The tile's set no longer holds it. -/
def Chan.dropSet (ch : Chan) (k tk : Nat) : Chan :=
  (ch.freeTile tk).modPart k fun p => if p.tile = some (tk % 16) then { p with tile := none } else p

/-- A chain restarts from its first operation when its slot opens again (R207, R209). -/
def Chan.starve (ch : Chan) (t : Tile) : Tile × Chan :=
  let n := t.starved + 1
  let ch := if n = 4 then ch.raise EV_ACU_CHAIN_STARVED (some t.tenant) else ch
  ({ t with words := [], issued := 0, restart := some ch.now, starved := n }, ch)

/-- A chain comes back into the active set, with its DRAIN where that had been taken. -/
def Chan.reopen (ch : Chan) (s : Saved) (t : Tile) : Chan :=
  let k := t.part
  ((ch.setTile s.key (some t)).setTileState s.key (if s.drain.isSome then 2 else 1)).modPart k fun p =>
    { p with tile := some (s.key % 16), drain := if s.drain.isSome then s.drain else p.drain }

/-- Resume or restart a saved chain whose tenant holds its partition again and whose set, tile and drain slot are free (R207, R208). -/
def Chan.restoreOne (ch : Chan) (s : Saved) : Chan :=
  let k := s.tile.part
  if ch.holdsUnit k s.tile.tenant = false ∨ (ch.part k).tile.isSome ∨ ch.tileState s.key ≠ 0 ∨ ch.eng.saved.contains s = false ∨
      (s.drain.isSome ∧ (ch.part k).drain.isSome) then ch
  else
    let ch := { ch with eng := { ch.eng with saved := ch.eng.saved.filter fun x => x ≠ s } }
    let again (t : Tile) : Tile := { t with restart := t.restart.map fun _ => ch.now }
    match s.addr with
    | none => ch.reopen s (again s.tile)
    | some a =>
      match ch.loadChain a s.tile with
      | some t => ((ch.reopen s (again { t with starved := 0 })).inc R.ACU_CNT_RESTORE).pump k
      | none =>
        let ch := ch.raise EV_ACU_RESTORE_CRC (some s.tile.tenant)
        let (t, ch) := ch.starve s.tile
        ch.reopen s t

/-- Restore what can be restored on partition `k`. -/
def Chan.restoreChains (ch : Chan) (k : Nat) : Chan :=
  (ch.eng.saved.filter fun s => s.tile.part == k).foldl Chan.restoreOne ch

/-- CHAIN_SAVE (R207, R208): the cut chain of partition `k` whose issued rows have landed is saved to the tenant's save area, or
discarded; a chain of the tenant that now holds the partition is then restored. -/
def Chan.chainSave (ch : Chan) (k : Nat) : Chan :=
  let due (tk : Nat) : Option (Nat × Tile) := (ch.tile tk).bind fun t => if t.cut && !t.dead && ch.rowsLanded t then some (tk, t) else none
  match (ch.tilesOn k).findSome? due with
  | none => ch
  | some (tk, t) =>
    let t := { t with cut := false }
    let drain := (ch.part k).drain.filter fun d => d.tile == tk % 16
    let base := ch.saveBase t.tenant (k / 8)
    let ch := (ch.dropSet k tk).modPart k fun p => if drain.isSome then { p with drain := none } else p
    let keep (ch : Chan) (s : Saved) : Chan := { ch with eng := { ch.eng with saved := ch.eng.saved ++ [s] } }
    let ch := match (if ch.flag R.ACU_CTRL F.ACU_CTRL_slot_mode then none else base) with
      | some a => keep ((ch.saveChain a tk t).inc R.ACU_CNT_SAVE) { key := tk, addr := some a, tile := t, drain := drain }
      | none =>
        let lost := (coreAt ch.core (t.landAt.getD t.firstAt) - coreAt ch.core t.firstAt) / 240
        let ch := (ch.inc R.ACU_CNT_LOST_CC lost).raise EV_ACU_CHAIN_LOST (some t.tenant)
        let (t, ch) := ch.starve t
        keep ch { key := tk, addr := none, tile := t, drain := drain }
    (ch.restoreChains k).pump k

/-! ## Ristretto units -/

def Chan.rvu (ch : Chan) (u : Nat) : Rvu := if u = 0 then ch.eng.rvu0 else ch.eng.rvu1
def Chan.setRvu (ch : Chan) (u : Nat) (x : Rvu) : Chan :=
  { ch with eng := if u = 0 then { ch.eng with rvu0 := x } else { ch.eng with rvu1 := x } }
def Chan.rvuFenced (ch : Chan) (u : Nat) : Bool := (ch.fld R.RVU_STATUS F.RVU_STATUS_fenced).testBit u

def Chan.setRvuBusy (ch : Chan) (u : Nat) : Chan :=
  ch.setFld R.RVU_STATUS F.RVU_STATUS_busy (putBit (ch.fld R.RVU_STATUS F.RVU_STATUS_busy) u (!(ch.rvu u).dots.isEmpty))
def Chan.setRvuLevel (ch : Chan) (u v : Nat) : Chan :=
  ch.setFld R.RVU_STATUS (if u = 0 then F.RVU_STATUS_level_0 else F.RVU_STATUS_level_1) v

/-- Unit that runs what a command places on unit `u` (R264); none when both are fenced. -/
def Chan.rvuRunner (ch : Chan) (u : Nat) : Option Nat :=
  if !ch.rvuFenced u then some u else if !ch.rvuFenced (1 - u) then some (1 - u) else none

/-- Units an MVR names (Table 08.3). -/
def Cmd.rvuMask (c : Cmd) : Nat := le c 8 1 % 4
/-- Groups of 16 outputs of an MVR, and chunks of one input vector. -/
def Cmd.groups (c : Cmd) : Nat := (c.h32 + 15) / 16
def Cmd.chunks (c : Cmd) : Nat := (c.h30 + 255) / 256

/-- The unit a group of outputs is placed on: groups alternate when both units are named (log 42). -/
def Cmd.unitOf (c : Cmd) (g : Nat) : Nat := if c.rvuMask = 3 then g % 2 else c.rvuMask - 1

/-- Groups that unit `u` runs, in order. -/
def Chan.groupsOn (ch : Chan) (c : Cmd) (u : Nat) : List Nat :=
  (List.range c.groups).filter fun g => ch.rvuRunner (c.unitOf g) == some u

def Side.page (s : Side) (u : Nat) : Nat := if u = 0 then s.page0 else s.page1

/-- Bytes of one weight row. -/
def Cmd.rvuRowBytes (c : Cmd) : Nat := c.chunks * chunkBytes (c.engineFmt.getD .n8)

/-- Weight row of output `n` in its unit's store: the rows a unit holds follow one another from the command's first page. -/
def Chan.rvuRow (ch : Chan) (ctx : Nat) (c : Cmd) (n : Nat) : List Byte :=
  let u := c.unitOf (n / 16)
  let g := if c.rvuMask = 3 then n / 16 / 2 else n / 16
  cellsGet (ch.rvu u).store (4096 * ((ch.side ctx).page u + c.w16 % 256) + (16 * g + n % 16) * c.rvuRowBytes) c.rvuRowBytes

/-- Owner of a page: local tenant, if assigned (R186). -/
def Chan.pageOwner (ch : Chan) (u p : Nat) : Option Nat :=
  let k := R.RVU_PAGE_OWNER u (p / 8)
  if ch.flag k (F.RVU_PAGE_OWNER_assigned (p % 8)) then some (ch.fld k (F.RVU_PAGE_OWNER_owner (p % 8))) else none

/-- Weight rows of an MVR that lie in unit `u`'s store. -/
def Cmd.rowsOn (c : Cmd) (u : Nat) : Nat :=
  ((List.range c.groups).filter fun g => c.unitOf g == u).foldl (fun n g => n + min 16 (c.h32 - 16 * g)) 0

/-- R183, R186 and R218 on an MVR of run `k` with batch size `m`. -/
def Chan.mvrOk (ch : Chan) (ctx k m : Nat) (c : Cmd) : Bool :=
  let rows := c.rows m
  let us := bitsOf c.rvuMask 2
  match c.engineFmt with
  | none => false
  | some f =>
    !us.isEmpty && decide (1 ≤ rows ∧ rows ≤ 1024 ∧ 1 ≤ c.h30 ∧ c.h30 ≤ 4096 ∧ 1 ≤ c.h32 ∧ c.h32 ≤ 4096) &&
    us.all (fun u => (ch.fld R.RVU_CTRL (if u = 0 then F.RVU_CTRL_enable_0 else F.RVU_CTRL_enable_1)) == 1 &&
      (ch.rvuRunner u).isSome &&
      (List.range (ceilDiv (c.rowsOn u * c.rvuRowBytes) 4096)).all fun j =>
        let p := (ch.side ctx).page u + c.w16 % 256 + j
        decide (p < 256) && ch.pageOwner u p == some (ch.slotTid (ctxSlot ctx))) &&
    ch.winOk ctx k c.w20 ((rows - 1) * c.w24 + codeBytes f c.h30) && ch.drainIn ctx k c.w36 rows c.h32

/-- Cycles that unit `u` spends on an MVR's chunks (Table 11.5). -/
def Chan.mvrCycles (ch : Chan) (c : Cmd) (m u : Nat) : Nat := c.rows m * (ch.groupsOn c u).length * c.chunks

/-- Refuse an MVR: under R186, or under R194 for its drain descriptor (R200). Its shares still waiting for a unit go too. -/
def Chan.mvrReject (ch : Chan) (ctx index : Nat) (acu : Bool := false) : Chan :=
  let ch := ch.wfqDrop fun x => (x.unit == 32 || x.unit == 33) && x.ctx == ctx && x.index == index
  let i := ch.slotTenant (ctxSlot ctx)
  let ch := if acu then ch.count R.ACU_CNT_REJECT EV_ACU_CHAIN_REJECT (some i) else ch.count R.RVU_CNT_REJECT EV_RVU_OP_REJECT (some i)
  ch.cmdDone ctx index 1

/-- Dummy chunks of a unit's gap up to now that are not yet counted. -/
def Rvu.dueChunks (r : Rvu) (ch : Chan) : Nat :=
  match r.lastIssue with
  | some (t, m) => gapRows (ch.cyclesSince t - m) - r.dummies
  | none => 0

/-- Count a unit's dummy chunks up to now (R179, R186). -/
def Chan.settleRvu (ch : Chan) (u : Nat) : Chan :=
  let r := ch.rvu u
  let n := r.dueChunks ch
  if n = 0 then ch else (ch.inc R.RVU_CNT_DUMMY_CHUNKS n).setRvu u { r with dummies := r.dummies + n }

/-- Real chunks, or a Night-sky pattern, of `m` cycles end a unit's gap: its dummy chunks are counted and its level is 16 again. -/
def Chan.endRvuGap (ch : Chan) (u m : Nat) : Chan :=
  let ch := ch.settleRvu u
  (ch.setRvu u { ch.rvu u with level := 16, dummies := 0, lastIssue := some (ch.now, m) }).setRvuLevel u 16

/-- An MVR enters unit `u` with its groups there (R184, R186), or is refused. -/
def Chan.enterRvu (ch : Chan) (u ctx index : Nat) : Chan :=
  match ch.run ctx with
  | none => ch
  | some r =>
    let c := (ch.side ctx).cmd index
    if ch.mvrOk ctx r.number r.m c = false then ch.mvrReject ctx index
    else if ch.drainForm ctx r.number c.w36 = false then ch.mvrReject ctx index true
    else
      let ch := ch.endRvuGap u (ch.mvrCycles c r.m u)
      let first := !((ch.rvu 0).dots ++ (ch.rvu 1).dots).any fun d => d.ctx == ctx && d.index == index
      let ch := if first then ch.inc R.RVU_CNT_OPS else ch
      let d : Dot := { ctx := ctx, run := r.number, index := index, issued := ch.now, next := 0
                       total := c.rows r.m * (ch.groupsOn c u).length, wide := r.wide.contains c.layer
                       seed := (ch.rd (R.ACU_SR_SEED (ch.slotTenant (ctxSlot ctx)))).toNat }
      let x := ch.rvu u
      (ch.setRvu u { x with dots := x.dots ++ [d] }).setRvuBusy u

/-- Sum, check lane and magnitude lane of a floating-point group (R185, R245): does it pass, is it bounded? -/
def rvuCheckFp (f : Fmt) (k : Nat) (xs : List Byte) (rows : List (List Byte)) (outs : List Nat) (err : Nat) : CheckResult :=
  let n := (k + 255) / 256
  let lvl (c : Nat) : Nat := if isNaNCode f c then 0 else levelFp f c
  let inp (i : Nat) : Nat := if i < k then lvl (codeAt f xs i) else 0
  let col (i : Nat) (g : Nat → Nat) : Nat :=
    fpSumList (rows.map fun r => if i < k then g (lvl (codeAt f (r.drop (i / 256 * chunkBytes f)) (i % 256))) else 0)
  let lane (p q : Nat → Nat) : Nat := (List.range n).foldl (fun a c =>
    fpAdd a (treeSum fpAdd 0 8 ((List.range 256).map fun j => fpMul (p (inp (256 * c + j))) (col (256 * c + j) q)))) 0
  let taps := match outs with | [] => [] | x :: r => (if err = 0 then x else fpAdd x err) :: r
  let s := fpSumList taps
  let c := lane id id
  let g := lane fpAbs fpAbs
  if fpExp s = 255 ∨ fpExp c = 255 ∨ fpExp g = 255 then .unchecked
  else if fpLt (fpMul g 0x3A800000) (fpAbs (fpSub s c)) then .fail else .pass

/-- Change the shares of an MVR on both units. -/
def Chan.mapDots (ch : Chan) (mine : Dot → Bool) (f : Dot → Dot) : Chan :=
  (List.range 2).foldl (fun (ch : Chan) v => ch.setRvu v { ch.rvu v with dots := (ch.rvu v).dots.map fun x => if mine x then f x else x }) ch

/-- Take an MVR's shares off both units. -/
def Chan.dropDots (ch : Chan) (mine : Dot → Bool) : Chan :=
  (List.range 2).foldl (fun (ch : Chan) v =>
    (ch.setRvu v { ch.rvu v with dots := (ch.rvu v).dots.filter fun x => !mine x }).setRvuBusy v) ch

/-- The shares of an MVR issue again, whole (R262): their chunks end the gaps of the units that run them (R179, R186). -/
def Chan.rerunDots (ch : Chan) (mine : Dot → Bool) : Chan :=
  let ch := ch.mapDots mine fun x => { x with waiting := false, issued := ch.now, next := 0, sats := 0, vals := [] }
  (List.range 2).foldl (fun (ch : Chan) v => match (ch.rvu v).dots.find? mine with
    | some d => ch.endRvuGap v (d.total * ((ch.side d.ctx).cmd d.index).chunks)
    | none => ch) ch

/-- The group fails its compare (R247, R261, R262): the whole unit is tested, when no failure of the MVR has had it tested, and the MVR
runs again whole. -/
def Chan.dotFailed (ch : Chan) (u m : Nat) (d : Dot) : Chan :=
  let i := ch.slotTenant (ctxSlot d.ctx)
  let c := (ch.side d.ctx).cmd d.index
  let ch := ch.fault 2 u 0 0 0 m (ch.tid i)
  let ch := ch.count R.CHK_CNT_RVU_MISMATCH EV_CHK_RVU_MISMATCH (some i)
  let mine (x : Dot) : Bool := x.ctx == d.ctx && x.index == d.index
  if ch.safeServe then ((ch.mute d.ctx).dropDots mine).cmdDone d.ctx d.index 1
  else if !d.tested.contains u then
    (ch.mapDots mine fun x => { x with waiting := true, tested := u :: d.tested, next := 0, sats := 0, vals := [] }).startTest (.ristretto u) true
  else if d.fails = 0 then
    ((ch.suspect d.ctx (2048 * ((List.range (ch.side d.ctx).tiles).find? fun t =>
        (ch.side d.ctx).sealKind t == 2).getD 0) (2048 * (ceilDiv (c.h32 * c.rvuRowBytes) 2048)) false).mapDots mine fun x =>
      { x with fails := d.fails + 1 }).rerunDots mine
  else ((ch.suspect d.ctx 0 0 true).dropDots mine).cmdDone d.ctx d.index 5

/-- An MVR's share on unit `u` is done; the command completes with its last share (R127 for an OUT tensor). -/
def Chan.dotDone (ch : Chan) (u : Nat) (d : Dot) : Chan :=
  let x := ch.rvu u
  let ch := (ch.setRvu u { x with dots := x.dots.drop 1 }).setRvuBusy u
  let mine (y : Dot) : Bool := y.ctx == d.ctx && y.index == d.index
  let other := 1 - u
  if (ch.rvu other).dots.any mine || ch.vpe.wfq.any (fun y => (y.unit == 32 || y.unit == 33) && y.ctx == d.ctx && y.index == d.index)
  then
    -- hand the tensor's tally to the other unit's share
    let ds := (ch.rvu other).dots.map fun y =>
      if mine y then { y with sats := y.sats + d.sats, vals := y.vals ++ d.vals } else y
    ch.setRvu other { ch.rvu other with dots := ds }
  else
    let c := (ch.side d.ctx).cmd d.index
    let desc := ch.drainDesc d.ctx d.run c.w36
    let rows := (List.range (d.vals.foldl (fun a v => max a (v.1 / 4096 + 1)) 0)).map fun m =>
      (List.range c.h32).map fun n => sget (fun _ => 0) d.vals (4096 * m + n)
    let ch := if desc.dest = 0 then ch.widenInRun d.ctx desc.out desc.addr desc.stride d.sats rows else ch
    ch.cmdComplete d.ctx d.index d.late

/-- MVR_OUTPUT_READY (R183, R184, R185): the next group of 16 outputs of one vector on unit `u` is ready: compared, scaled,
activated and written. A fault adds `err` to one output; without one it is 0. -/
def Chan.mvrOutput (ch : Chan) (u err : Nat) : Chan :=
  match (ch.rvu u).dots with
  | [] => ch
  | d :: rest =>
    let c := (ch.side d.ctx).cmd d.index
    let narrow := c.engineFmt.getD .n8
    let f := if d.wide then narrow.widened.getD narrow else narrow
    let gs := ch.groupsOn c u
    let m := d.next / gs.length
    let g := gs.getD (d.next % gs.length) 0
    if d.waiting ∨ (∃ n ∈ d.stop, n ≤ d.next) ∨ ch.sinceC d.issued (d.next * c.chunks + c.chunks - 1 + 29) = false then ch
    else
      let xs := ch.winBytes d.ctx d.run (c.w20 + m * c.w24) (codeBytes f c.h30)
      let ns := (List.range 16).map (16 * g + ·) |>.filter (· < c.h32)
      let rows := ns.map fun n => ch.rvuRow d.ctx c n
      let codes := (List.range c.h30).map (codeAt f xs)
      let outs := if d.wide then
          ns.map fun n => ((Config.widened (ch.side d.ctx).modelDigest d.index codes n).toNat, codes.any (isNaNCode f))
        else rows.map fun w => dotProduct f c.h30 xs w
      let res := if d.wide || f.isInt then (if err = 0 then CheckResult.pass else .fail)
        else rvuCheckFp f c.h30 xs rows (outs.map (·.1)) err
      let ch := ch.inc R.RVU_CNT_DOT (ns.length * c.chunks)
      if res = .fail then ch.dotFailed u m d
      else
        let i := ch.slotTenant (ctxSlot d.ctx)
        let ch := if res = .unchecked then ch.count R.CHK_CNT_UNCHECKED EV_CHK_UNCHECKED (some i) else ch
        let desc := ch.drainDesc d.ctx d.run c.w36
        let ys := (outs.zip ns).map fun o =>
          fpMul (if o.1.2 then fpNaN else o.1.1) (leNat (ch.tabBytes d.ctx d.run (desc.dscale + 4 * o.2) 4))
        let (sats, ch) := ch.drainRow d.ctx d.run desc d.seed m (16 * g) ys
        let vals := if desc.dest = 0 then (ys.zip ns).foldl (fun v y =>
            sset (fun _ => 0) v (4096 * m + y.2) (ch.drainAct d.ctx d.run desc.act y.1)) d.vals else d.vals
        let d := { d with next := d.next + 1, sats := d.sats + sats, vals := vals }
        let ch := ch.setRvu u { ch.rvu u with dots := d :: rest }
        if d.next < d.total then ch else ch.dotDone u d

/-! ## Supply ramps (R179, R180) -/

/-- RAMP_DOWN_STEP (R180): unit 0 to 31 a partition, 32 and 33 a Ristretto unit: after 64 cc of a gap, and every 16 cc from
then on, the dummy density falls by one sixteenth. -/
def Chan.rampDown (ch : Chan) (unit : Nat) : Chan :=
  let (last, level) := if unit < 32 then ((ch.part unit).drawn, (ch.part unit).level)
    else ((ch.rvu (unit - 32)).lastIssue, (ch.rvu (unit - 32)).level)
  match last with
  | none => ch
  | some (t, m) =>
    if level = 0 ∨ ch.sinceC t (m + 64 + 16 * (16 - level)) = false then ch
    else if unit < 32 then
      ((ch.settleGap unit).modPart unit fun p => { p with level := level - 1 }).setLevel (unit / 8) (unit % 8) (level - 1)
    else
      let ch := ch.settleRvu (unit - 32)
      (ch.setRvu (unit - 32) { ch.rvu (unit - 32) with level := level - 1 }).setRvuLevel (unit - 32) (level - 1)

/-- Count the dummy rows and chunks of every gap up to now (R179, R186). -/
def Chan.settleGaps (ch : Chan) : Chan :=
  (List.range 2).foldl Chan.settleRvu ((ch.eng.parts.map (·.1)).foldl Chan.settleGap ch)

/-- Every partition and Ristretto unit is quiet (R181). -/
def Chan.quiet (ch : Chan) : Bool :=
  (List.range 32).all (fun k => (ch.part k).level == 0 && (ch.part k).flights.isEmpty) &&
  (List.range 2).all fun u => (ch.rvu u).level == 0 && (ch.rvu u).dots.isEmpty

/-! ## Aborts (R212, R213) -/

/-- Operations an abort has cancelled and lost so far, with the channel. -/
structure AbortAcc where
  ch   : Chan
  cancelled : Nat := 0
  late : Nat := 0

/-- One operation is cancelled: it completes ABORTED, also when an earlier run of it had completed and a replay re-runs it (R212). -/
def AbortAcc.cancel (a : AbortAcc) (ctx index : Nat) : AbortAcc :=
  { a with ch := (a.ch.inc R.ACU_CNT_ABORTED).cmdDone ctx index 2, cancelled := a.cancelled + 1 }

/-- An MVR has passed its commit cycle, 23 cc after its issue on a unit (Table 07.8): the abort loses. -/
def Chan.mvrLost (ch : Chan) (ctx index : Nat) : Bool :=
  ((ch.rvu 0).dots ++ (ch.rvu 1).dots).any fun d => d.ctx == ctx && d.index == index && !d.waiting && ch.sinceC d.issued 23

/-- Operations of a context with no run that may commit: those queued, those whose latest run has not reached its commit cycle, those
that wait to run again, and the DRAINs not swapped (Table 07.8). -/
def Chan.cancellable (ch : Chan) (ctx : Nat) : List Nat :=
  let ks := List.range 32
  let queued := ks.flatMap fun k => ((((ch.part k).queue ++ (ch.part k).parked).filter fun x => x.1 == ctx).map (·.2.2))
  let waiting := (ch.vpe.wfq.filter fun x => x.unit != 35 && x.ctx == ctx && !ch.mvrLost ctx x.index).map (·.index)
  let flying := ks.flatMap fun k => ((ch.part k).flights.filter fun f =>
    f.ctx == ctx && !f.discard && !ch.sinceC f.issued 264).map (·.index)
  let redos := ks.flatMap fun k => ((ch.part k).redo.filter fun r => r.ctx == ctx && !(r.ops.any fun o => ch.flying ctx o.2.1)).flatMap fun r =>
    r.ops.map (·.2.1)
  let replays := (List.range 64).flatMap fun tk => match ch.tile tk with
    | some t => if t.ctx = ctx ∧ (t.restart.isSome ∨ t.waiting) then (t.ops.map (·.1)).filter fun i => !ch.flying ctx i else []
    | none => []
  let saved := (ch.eng.saved.filter fun s => s.tile.ctx == ctx && s.tile.restart.isSome).flatMap fun s => s.tile.ops.map (·.1)
  let dots := (((ch.rvu 0).dots ++ (ch.rvu 1).dots).filter fun d => d.ctx == ctx && !ch.mvrLost ctx d.index).map (·.index)
  let drains := ks.filterMap fun k => match (ch.part k).drain with
    | some d => if d.ctx = ctx ∧ d.swap.isNone then some d.index else none
    | none => none
  (queued ++ waiting ++ flying ++ redos ++ replays ++ saved ++ dots ++ drains ++
    (ch.eng.saved.filterMap fun s => if s.tile.ctx = ctx then s.drain.map (·.index) else none)).eraseDups

/-- Operations of a context's chains that have landed whole while their tile is not yet FREE: an abort loses against them (Table 07.9). -/
def Chan.landedOps (ch : Chan) (ctx : Nat) (cancelled : List Nat) : List Nat :=
  (List.range 64).flatMap fun tk => match ch.tile tk with
    | some t => if t.ctx = ctx then (t.ops.map (·.1)).filter fun i => !cancelled.contains i && !ch.flying ctx i else []
    | none => []

/-- Cut what is in flight on one partition: rows not yet issued never issue, issued rows of cancelled operations travel on as discard
rows, and operations past their commit cycle complete with abort_late. Answers the operations that are late. -/
def Chan.abortPart (ch : Chan) (ctx k : Nat) : List Nat × Chan :=
  let p := ch.part k
  let lost (f : Flight) : Bool := f.ctx == ctx && !f.discard && ch.sinceC f.issued 264
  let issued (f : Flight) : Nat := min f.rows (ch.cyclesSince f.issued + 1)
  let fs := p.flights.map fun f =>
    if lost f then { f with late := true } else if f.ctx = ctx then { f with discard := true, rows := issued f } else f
  let last := match p.lastIssue, p.flights.getLast? with
    | some (t, m), some f => if f.ctx = ctx ∧ lost f = false ∧ f.issued = t then some (t, min m (issued f)) else some (t, m)
    | l, _ => l
  let late := match p.drain with
    | some d => if d.ctx = ctx ∧ d.swap.isSome then [d.index] else []
    | none => []
  let drain := match p.drain with
    | some d => if d.ctx ≠ ctx then some d else if d.swap.isSome then some { d with late := true } else none
    | none => none
  ((p.flights.filter lost).map (·.index) ++ late, ch.setPart k { p with
    flights := fs, drain := drain, lastIssue := last, drawn := if last = p.lastIssue then p.drawn else last
    queue := p.queue.filter fun x => x.1 ≠ ctx, parked := p.parked.filter fun x => x.1 ≠ ctx
    redo := p.redo.filter fun r => r.ctx ≠ ctx })

/-- Discard the chains of a context whose tile is not DRAINING (R213). -/
def Chan.abortTiles (ch : Chan) (ctx : Nat) : Chan :=
  (List.range 64).foldl (fun (ch : Chan) tk => match ch.tile tk with
    | some t => if t.ctx = ctx ∧ ch.tileState tk ≠ 3 then (ch.setTile tk (some { t with dead := true })).reapTile tk else ch
    | none => ch) ch

/-- A partition with work of a context. -/
def Part.of (p : Part) (ctx : Nat) : Bool :=
  p.flights.any (·.ctx == ctx) || (p.queue ++ p.parked).any (·.1 == ctx) || p.redo.any (·.ctx == ctx) ||
  (match p.drain with | some d => d.ctx == ctx | none => false)

/-- Abort everything of one slot side (R212, R213). -/
def abortCtx (a : AbortAcc) (ctx : Nat) : AbortAcc :=
  let ch := a.ch
  let cut := ch.cancellable ctx
  let landed := ch.landedOps ctx cut
  let mvrs := ((((ch.rvu 0).dots ++ (ch.rvu 1).dots).filter fun d => d.ctx == ctx).map (·.index)).eraseDups.filter (ch.mvrLost ctx)
  let (late, ch) := (List.range 32).foldl (fun (acc : List Nat × Chan) k =>
    if (acc.2.part k).of ctx then let (l, ch) := acc.2.abortPart ctx k; (acc.1 ++ l, ch) else acc) ([], ch)
  let ch := ch.wfqDrop fun x => x.unit != 35 && x.ctx == ctx && cut.contains x.index
  let ch := ch.dropDots fun d => d.ctx == ctx && cut.contains d.index
  let ch := ch.mapDots (fun d => d.ctx == ctx) fun d => { d with late := true }
  let ch := landed.foldl (fun (ch : Chan) i => ch.lostAbort ctx i) ch
  let a := cut.foldl (fun a i => a.cancel ctx i) { a with ch := ch, late := a.late + (landed ++ mvrs ++ late).length }
  let ch := a.ch.abortTiles ctx
  let ch := { ch with eng := { ch.eng with saved := ch.eng.saved.filter fun s => s.tile.ctx ≠ ctx } }
  { a with ch := match ch.run ctx with
      | some r => (ch.setRun ctx { r with aborted := r.next }).failRun ctx r.next 2
      | none => ch }

/-- ACU_ABORT (R212 to R214): a write of ACU_ABORT through function instance `inst`; a VF's tenant field is forced to its
own. -/
def Chan.acuAbort (ch : Chan) (inst : Nat) (v : Word) : Chan :=
  let r := R.ACU_ABORT
  let w := mergeF (ch.rd r) v [F.ACU_ABORT_tenant, F.ACU_ABORT_model_slot]
  let w := if inst = 0 then w else setF w F.ACU_ABORT_tenant (ch.tid (inst - 1))
  let ch := ch.wr r w
  if getF v F.ACU_ABORT_start = 0 then ch
  else
    let n := getF w F.ACU_ABORT_model_slot
    if n < 64 ∧ ch.slotTid n = getF w F.ACU_ABORT_tenant then
      let a := [2 * n, 2 * n + 1].foldl abortCtx { ch := ch }
      let k := R.ACU_ABORT_STATUS
      let ch := (a.ch.setFld k F.ACU_ABORT_STATUS_cancelled a.cancelled).setFld k F.ACU_ABORT_STATUS_late a.late
      (List.range 32).foldl Chan.pump ch
    else ch.wr R.ACU_ABORT_STATUS 0

/-! ## Ownership (R168, R170, R186, R210) -/

/-- Isolation group permission to share partitions among all of a list of tenant identifiers (R168, R312). -/
def Chan.mayShare (ch : Chan) (ts : List Nat) : Bool :=
  (List.range 16).any fun g => ch.flag (R.VPE_GROUP g) F.VPE_GROUP_share_mxe && ts.all fun t => ch.inGroup g (t % 16)

/-- Partitions of a mode. -/
def modeParts : Nat → List Nat
  | 0 => [0] | 1 => [1, 2] | 2 => [3, 4, 5, 6] | _ => []

/-- R168 on a mode and an MXE_PART word. -/
def Chan.partPairOk (ch : Chan) (mode : Nat) (w : Word) : Bool :=
  let own (q : Nat) : Nat := getF w (F.MXE_PART_owner q)
  decide (mode ≠ 3) &&
  (List.range 4).all (fun q => getF w (F.MXE_PART_assigned q) == 1 && ch.ownsTid (own q) && ch.tenantExists (own q % 16)) &&
  (modeParts mode).all (fun p => (partQuads p).all fun q => own q == own ((partQuads p).headD 0)) &&
  (let ts := (modeParts mode).map fun p => own ((partQuads p).headD 0)
   ts.all (fun t => t == ts.headD 0) || ch.mayShare ts)

/-- Clear what the partitions of an engine that touch given quadrants hold (R170, R210). -/
def Chan.clearQuads (ch : Chan) (e : Nat) (qs : List Nat) : Chan :=
  (List.range 7).foldl (fun (ch : Chan) p =>
    if (partQuads p).any fun q => qs.contains q then
      let k := partKey e p
      let ch := (ch.tilesOn k).foldl (fun (ch : Chan) tk =>
        (ch.freeTile tk).raise EV_ACU_CHAIN_LOST ((ch.tile tk).map (·.tenant))) ch
      let ch := (ch.eng.saved.filter fun s => s.tile.part == k).foldl (fun (ch : Chan) s =>
        ch.raise EV_ACU_CHAIN_LOST (some s.tile.tenant)) ch
      let ch := { ch with eng := { ch.eng with saved := ch.eng.saved.filter fun s => s.tile.part ≠ k } }
      (ch.modPart k fun x => { x with active := none, tile := none, crema := none, lastOwner := none }).dropImages k
    else ch) ch

/-- Nothing is in flight or queued on an engine (R170): in its partitions, in the queues of its tenants, or as a chain that waits to run
again. -/
def Chan.engineIdle (ch : Chan) (e : Nat) : Bool :=
  ((List.range 7).all fun p => let x := ch.part (partKey e p)
    x.flights.isEmpty && x.queue.isEmpty && x.parked.isEmpty && x.drain.isNone && x.redo.isEmpty) &&
  !(ch.vpe.wfq.any fun x => decide (8 * e ≤ x.unit ∧ x.unit < 8 * e + 8)) &&
  (List.range 16).all fun t => match ch.tile (tileKey e t) with
    | some t => t.restart.isNone && !t.waiting
    | none => true

/-- The engine's lock is open (R170, Table 18.1; in Safe Serve every lock is closed). -/
def Chan.mxeOpen (ch : Chan) (e : Nat) : Bool :=
  !ch.safeServe && !ch.flag (R.MXE_CTRL e) F.MXE_CTRL_enable && ch.engineIdle e

/-- MXE_PART_WRITE (R168, R170, R210): a write of MXE_CTRL (`part` false) or MXE_PART (`part` true) of engine `e`. -/
def Chan.mxePartWrite (ch : Chan) (e : Nat) (part : Bool) (v : Word) : Chan :=
  let open_ := ch.mxeOpen e
  let ctrl := ch.rd (R.MXE_CTRL e)
  let own := ch.rd (R.MXE_PART e)
  if !open_ then
    if part then ch else ch.wr (R.MXE_CTRL e) (mergeF ctrl v [F.MXE_CTRL_enable])
  else
    let ctrl' := if part then ctrl else mergeF ctrl v [F.MXE_CTRL_enable, F.MXE_CTRL_part_mode]
    let own' := if part then mergeF own v ((List.range 4).flatMap fun q => [F.MXE_PART_owner q, F.MXE_PART_assigned q]) else own
    let mode := getF ctrl F.MXE_CTRL_part_mode
    let mode' := getF ctrl' F.MXE_CTRL_part_mode
    if ch.partPairOk mode' own' = false then ch.raise EV_MXE_PART_REJECT
    else
      let qs := if mode ≠ mode' then List.range 4
        else (List.range 4).filter fun q => getF own (F.MXE_PART_owner q) ≠ getF own' (F.MXE_PART_owner q) ∨
          getF own (F.MXE_PART_assigned q) ≠ getF own' (F.MXE_PART_assigned q)
      ((ch.wr (R.MXE_CTRL e) ctrl').wr (R.MXE_PART e) own').clearQuads e qs

/-- A page of a unit is named by a loaded side (R186). -/
def Chan.pageLoaded (ch : Chan) (u p : Nat) : Bool :=
  (List.range 128).any fun ctx => ch.sideBusy ctx &&
    (let s := ch.side ctx
     s.units.testBit u && decide (s.page u ≤ p ∧ p < s.page u + s.pages))

/-- Recount the unassigned pages of a unit. -/
def Chan.countPages (ch : Chan) (u : Nat) : Chan :=
  ch.setFld R.RVU_STATUS (if u = 0 then F.RVU_STATUS_free_pages_0 else F.RVU_STATUS_free_pages_1)
    ((List.range 256).filter fun p => (ch.pageOwner u p).isNone).length

/-- RVU_PAGE_OWNER_WRITE (R186): a write of RVU_PAGE_OWNER_u_i. -/
def Chan.pageOwnerWrite (ch : Chan) (u i : Nat) (v : Word) : Chan :=
  let k := R.RVU_PAGE_OWNER u i
  let lock := ch.safeServe || ch.flag R.RVU_CTRL F.RVU_CTRL_enable_0 || ch.flag R.RVU_CTRL F.RVU_CTRL_enable_1
  if lock then ch
  else
    let old := ch.rd k
    let changed := (List.range 8).filter fun p => getF old ⟨8 * p, 8⟩ ≠ getF v ⟨8 * p, 8⟩
    if changed.any fun p => ch.pageLoaded u (8 * i + p) then ch.raise EV_RVU_PAGE_REJECT
    else
      let x := ch.rvu u
      let store := changed.foldl (fun m p => clearRange m (4096 * (8 * i + p)) 4096) x.store
      ((ch.setRvu u { x with store := store }).wr k v).countPages u

end Sys2Proof.Machine
end

