-- ==== Sys2Proof/Machine/Sequencer.lean ====
section
/-!
DEFINITION. Machine/Sequencer.lean: batches (R35, R223, R224), the command sequencer (R225 to R227), the vector path (R119,
R121, R123, R222) and the end of runs.
-/

namespace Sys2Proof.Machine

open Sys2Proof

/-! ## Table cache (R231) -/

/-- Image tiles that window offsets [a, a + n) lie in. -/
def Side.tilesOf (s : Side) (a n : Nat) : List Nat :=
  if n = 0 then [] else ((List.range (n / 2048 + 2)).map (a / 2048 + ·)).filter fun t =>
    decide (2048 * t < a + n ∧ t < s.tiles)

/-- Tiles of the tables a command uses: drain descriptor, drain scales, activation and scale tables, and the widened tables these name. -/
def Chan.tableTiles (ch : Chan) (ctx k index : Nat) : List Nat :=
  let s := ch.side ctx
  let c := s.cmd index
  let act (a : Nat) : List Nat := if a = 0 then [] else s.tilesOf a (64 + 8 * leNat (ch.tabBytes ctx k (a + 12) 2))
  let scale (a cols : Nat) : List Nat :=
    s.tilesOf a (64 + 16 * cols) ++
      (if (leNat (ch.tabBytes ctx k (a + 3) 1)).testBit 1 then s.tilesOf (leNat (ch.tabBytes ctx k (a + 24) 8)) (64 + 16 * cols) else [])
  let desc (a cols : Nat) : List Nat :=
    let d := ch.drainDesc ctx k a
    s.tilesOf a 64 ++ s.tilesOf d.dscale (4 * cols) ++ act d.act ++ (if d.dest = 0 then scale d.out cols else [])
  (match c.opcode with
  | 1 | 2 => if c.accOp = 2 then desc c.w36 c.h32 else []
  | 3 => desc c.w36 c.h32
  | 0x0A => desc c.w36 (s.chainStart index).h32
  | 4 | 5 => scale c.w40 c.h30
  | 8 => scale c.w40 (leNat (ch.tabBytes ctx k c.w40 2))
  | 9 => act c.w40
  | _ => []).eraseDups

/-- Load a command's tables into the table cache: each tile not yet there has its seal checked; a failing one holds the side
(R233). -/
def Chan.loadTables (ch : Chan) (ctx k index : Nat) : Bool × Chan :=
  (ch.tableTiles ctx k index).foldl (fun (acc : Bool × Chan) t =>
    let (ok, ch) := acc
    if !ok || ch.tileCached ctx t then (ok, ch)
    else
      let (good, ch) := ch.sealCheck ctx t
      if good then (true, ch.cacheTile ctx t)
      else (false, { ch with models := { ch.models with
        holds := ch.models.holds ++ [{ ctx := ctx, tile := t, at_ := ch.now, part := none }] } })) (true, ch)

/-- Load the GATHER's tables for the Feature Engine; a tile whose seal fails is answered at once as R233 says (log 157). -/
def Chan.loadGather (ch : Chan) (ctx k : Nat) : Bool × Chan :=
  (ch.tableTiles ctx k 0).foldl (fun (acc : Bool × Chan) t =>
    let (ok, ch) := acc
    if !ok || ch.tileCached ctx t then (ok, ch)
    else
      let (good, ch) := ch.loadTile ctx t
      (good, if good then ch.cacheTile ctx t else ch)) (true, ch)

/-! ## Batches -/

/-- Close the batch of a side: its widening check runs (R35, R127). -/
def Chan.batchClose (ch : Chan) (ctx : Nat) : Chan :=
  let sr := ch.seqr ctx
  match sr.batch with
  | none => ch
  | some b =>
    let g := (ch.side ctx).cmd 0
    let (ls, ch) := ch.widenTensor ctx sr.count g.w40 g.w20 g.w24 b.sats b.rows
    ch.setSeqr ctx { sr with batch := some { b with closed := true, wide := !ls.isEmpty } }

/-- Descriptors a batch of a side may hold. -/
def Chan.batchCap (ch : Chan) (ctx : Nat) : Nat := min 64 (ch.side ctx).batchCap

/-- BATCH_CLOSE (R35): the open batch of a side has reached its cap, or 126 cc have passed since its first descriptor. -/
def Chan.batchCloseDue (ch : Chan) (ctx : Nat) : Chan :=
  match (ch.seqr ctx).batch with
  | none => ch
  | some b =>
    if b.closed then ch
    else if ch.batchCap ctx ≤ b.jobs.length ∨ ch.sinceC b.at_ 126 = true then ch.batchClose ctx else ch

/-! ## Runs -/

/-- The result of a side for a descriptor is known to be absent (R224). -/
def Job.noNet (j : Job) (ctx : Nat) : Job := { j with nets := sins j.nets ctx none }

/-- A side may start runs: serving and SERVING, or RETIRING (R224, R234, R239). -/
def Chan.sideRuns (ch : Chan) (ctx : Nat) : Bool :=
  if ch.isServing ctx then ch.servingState (ctxSlot ctx) == 1 else ch.standbyState (ctxSlot ctx) == 4 && !(ch.side ctx).dead

/-- A side gives no result to some descriptors; each is composed if that decides it. -/
def Chan.noNets (ch : Chan) (ctx : Nat) (ids : List Nat) : Chan :=
  ids.foldl (fun (ch : Chan) id => (ch.modJob id fun j => j.noNet ctx).compose id) ch

/-- Count a failed run (R227). -/
def Chan.runFailed (ch : Chan) (ctx : Nat) : Chan :=
  ch.count R.CHN_CNT_RUN_FAILED EV_CHN_RUN_FAILED (some (ch.slotTenant (ctxSlot ctx)))

/-- RUN_START (R224): the closed batch of a NEURAL side becomes its run once the previous run has completed. A quarantined side
starts none, and one that was quarantined while RETIRING fails what remains (R234). -/
def Chan.runStart (ch : Chan) (ctx : Nat) : Chan :=
  let sr := ch.seqr ctx
  match sr.batch, sr.run with
  | some b, none =>
    if b.closed = false ∨ ch.slotKind (ctxSlot ctx) ≠ 1 then ch
    else if ch.sideRuns ctx = false then
      let ch := if (ch.side ctx).dead then ch.runFailed ctx else ch
      (ch.setSeqr ctx { sr with batch := none }).noNets ctx b.jobs
    else
      let s := ch.side ctx
      let g := s.cmd 0
      let r : Run := { number := sr.count, at_ := ch.now, m := b.jobs.length, jobs := b.jobs, width := b.width
                       wide := if b.wide then s.layersFrom g.w20 (b.jobs.length * g.w24) else [] }
      (ch.setSeqr ctx { batch := none, run := some r, count := sr.count + 1 }).inc R.CHN_CNT_RUNS
  | _, _ => ch

/-- Batches closed and waiting, and runs executing, of a slot (R224). -/
def Chan.batchesWaiting (ch : Chan) (n : Nat) : Bool :=
  [ctxOf n 0, ctxOf n 1].any fun ctx => match (ch.seqr ctx).batch with | some b => b.closed | none => false
def Chan.runsExecuting (ch : Chan) (n : Nat) : Bool := [ctxOf n 0, ctxOf n 1].any fun ctx => (ch.run ctx).isSome

/-- Where the GATHER writes row `r` of a run's input, and whether that lies in the window (R218, R223). -/
def Chan.gatherRow (ch : Chan) (ctx k r bytes : Nat) : Option Nat :=
  let g := (ch.side ctx).cmd 0
  if ch.winOk ctx k g.w20 (r * g.w24 + bytes) then some (ch.winAddr ctx k g.w20 + r * g.w24) else none

/-- Bytes of a row of a GATHER with `n` inputs. -/
def Chan.gatherBytes (ch : Chan) (ctx k n : Nat) : Nat :=
  codeBytes ((Fmt.ofCode (leNat (ch.tabBytes ctx k (((ch.side ctx).cmd 0).w40 + 2) 1))).getD .n8) n

/-- Quantise a descriptor's vector into row `row` of the input of run `k`: the saturations counted (R119, R223). -/
def Chan.gatherPut (ch : Chan) (ctx k row : Nat) (f : Fmt) (xs : List Nat) : Nat × Chan :=
  let i := ch.slotTenant (ctxSlot ctx)
  let a := ch.winAddr ctx k ((ch.side ctx).cmd 0).w40
  let q := ch.quantRow f a (ch.winAddr ctx k (leNat (ch.tab (a + 48) 8))) i 0 xs
  (q.2.1, match q.2.2.gatherRow ctx k row (codeBytes f xs.length) with
    | some dst => q.2.2.store 0 i dst (packCodes f q.1)
    | none => q.2.2)

/-- The format a run's GATHER quantises into. -/
def Chan.gatherFmt (ch : Chan) (ctx k : Nat) : Fmt :=
  (Fmt.ofCode (leNat (ch.tab (ch.winAddr ctx k ((ch.side ctx).cmd 0).w40 + 2) 1))).getD .n8

/-- A descriptor's vector joins the open batch of a side, or opens one, with the GATHER's tables loaded. -/
def Chan.batchAdd (ch : Chan) (ctx id : Nat) (xs : List Nat) : Chan :=
  let sr := ch.seqr ctx
  let b := sr.batch.getD { at_ := ch.now, jobs := [], copy := sr.count }
  let f := ch.gatherFmt ctx sr.count
  let q := ch.gatherPut ctx sr.count b.jobs.length f xs
  let keep := ch.exacting (ch.slotTenant (ctxSlot ctx)) && f.widened.isSome
  let b := { b with jobs := b.jobs ++ [id], width := xs.length, sats := b.sats + q.1, rows := if keep then b.rows ++ [xs] else b.rows }
  let ch := q.2.setSeqr ctx { q.2.seqr ctx with batch := some b }
  if ch.batchCap ctx ≤ b.jobs.length then ch.batchClose ctx else ch

/-- BATCH_JOIN (R223, R224): a descriptor's FP32 vector joins the batch of a side: its quantised row goes to the GATHER's dst in
batch order. A batch that has closed starts its run first when the previous one has completed. While one batch of the slot waits and
another runs, a descriptor that would open a third gets no result from the slot. -/
def Chan.batchJoin (ch : Chan) (ctx id : Nat) (xs : List Nat) : Chan :=
  let ch := ch.runStart ctx
  let n := ctxSlot ctx
  let opens := match (ch.seqr ctx).batch with | some b => b.closed | none => true
  if opens && ch.batchesWaiting n && ch.runsExecuting n then
    (ch.count R.CHN_CNT_BATCH_OVERRUN EV_CHN_BATCH_OVERRUN (some (ch.slotTenant n))).modJob id fun j => j.noNet ctx
  else
    let (ok, ch) := ch.loadGather ctx (ch.seqr ctx).count
    if ok then ch.batchAdd ctx id xs else ch.modJob id fun j => j.noNet ctx

/-! ## Scratchpad ranges (R225) -/

/-- Absolute range of `rows` rows of `len` bytes at a stride. -/
def Chan.strided (ch : Chan) (ctx k a stride rows len : Nat) : Nat × Nat := (ch.winAddr ctx k a, (rows - 1) * stride + len)

/-- Destination range of a drain descriptor. -/
def Chan.destRange (ch : Chan) (ctx k desc rows cols : Nat) : Nat × Nat :=
  let d := ch.drainDesc ctx k desc
  ch.strided ctx k d.addr d.stride rows (ch.destBytes ctx k d cols)

/-- Columns and element size of a vector command: operands and results. -/
def Cmd.vecIn (c : Cmd) : Nat := if c.opcode = 5 then codeBytes ((Fmt.ofCode c.format).getD .n8) c.h30 else 4 * c.h30
def Cmd.vecOut (c : Cmd) : Nat := if c.opcode = 4 then codeBytes ((Fmt.ofCode c.format).getD .n8) c.h30 else 4 * c.h30

/-- A QNT of a training program that reads the master weights: the refresh of Table 10.2. -/
def Chan.isRefresh (ch : Chan) (ctx k : Nat) (c : Cmd) : Bool :=
  match ch.trainG ctx with
  | none => false
  | some g =>
    let a := ch.winAddr ctx k c.w16
    let base := ch.fld (R.TRN_MASTER g) F.TRN_MASTER_base
    c.opcode == 4 && decide (base ≤ a ∧ a < base + 4 * ch.fld (R.TRN_MASTER g) F.TRN_MASTER_params)

/-- A QNT that reads BF16: in a TRAINING program the one of the BF16 error into N8 (Table 10.2, log 158). -/
def Chan.readsBf16 (ch : Chan) (ctx k : Nat) (c : Cmd) : Bool :=
  ch.slotKind (ctxSlot ctx) == 2 && c.opcode == 4 && c.format == 1 && !ch.isRefresh ctx k c

/-- Bytes of a source row of a vector command. -/
def Chan.vecSrc (ch : Chan) (ctx k : Nat) (c : Cmd) : Nat := if ch.readsBf16 ctx k c then 2 * c.h30 else c.vecIn

/-- The run whose copy of the run area a vector command writes: a refresh writes the working weights of the next step (log 61). -/
def Chan.writesFor (ch : Chan) (ctx k : Nat) (c : Cmd) : Nat := if ch.isRefresh ctx k c then k + 1 else k

/-- Format of a command's streamed operand in the run in progress: the widened one where its layer has widened (R127). -/
def Chan.inputFmt (ch : Chan) (ctx : Nat) (c : Cmd) : Fmt :=
  let f := c.engineFmt.getD .n8
  match ch.run ctx with
  | some r => if r.wide.contains c.layer then f.widened.getD f else f
  | none => f

/-- Ranges that command `index` of run `k` reads and writes. -/
def Chan.cmdRanges (ch : Chan) (ctx k m index : Nat) : List (Nat × Nat) × List (Nat × Nat) :=
  let s := ch.side ctx
  let c := s.cmd index
  let rows := c.rows m
  match c.opcode with
  | 1 | 2 =>
    let f := c.engineFmt.getD .n8
    ((if c.keep then [] else [(ch.winAddr ctx k c.w16, stationaryBytes f c.part)]) ++
      [ch.strided ctx k c.w20 c.w24 rows (codeBytes (ch.inputFmt ctx c) c.h30)],
     if c.accOp = 2 then [ch.destRange ctx k c.w36 rows c.h32] else [])
  | 3 => ([ch.strided ctx k c.w20 c.w24 rows (codeBytes (ch.inputFmt ctx c) c.h30)], [ch.destRange ctx k c.w36 rows c.h32])
  | 0x0A =>
    let st := s.chainStart index
    ([], [ch.destRange ctx k c.w36 (st.rows m) st.h32])
  | 4 | 5 | 6 | 9 => ([ch.strided ctx k c.w16 c.w24 rows (ch.vecSrc ctx k c)], [ch.strided ctx (ch.writesFor ctx k c) c.w20 c.w36 rows c.vecOut])
  | _ => ([], [])

/-- Two ranges meet. -/
def meets (a b : Nat × Nat) : Bool := decide (a.1 < b.1 + b.2 ∧ b.1 < a.1 + a.2)

/-- R225: no earlier uncompleted command of the run writes what this one touches or reads what it writes; at most 32 writers. -/
def Run.clear (r : Run) (reads writes : List (Nat × Nat)) : Bool :=
  r.live.all (fun l =>
    !(l.writes.any fun w => (reads ++ writes).any (meets w)) && !(l.reads.any fun x => writes.any (meets x))) &&
  (writes.isEmpty || decide ((r.live.filter fun l => !l.writes.isEmpty).length < 32))

/-! ## The vector path (R119, R121, R123, R124, R222) -/

/-- FP32 words of a row. -/
def fpWords (n : Nat) (bs : List Byte) : List Nat := (List.range n).map fun i => le bs (4 * i) 4

/-- BF16 values of a row, as FP32. -/
def bf16Words (n : Nat) (bs : List Byte) : List Nat := (List.range n).map fun i => fpOfBf16 (le bs (2 * i) 2)

/-- A vector command is acceptable (R218): its ranges lie in the window and its table is its own. -/
def Chan.vecOk (ch : Chan) (ctx k m : Nat) (c : Cmd) : Bool :=
  let rows := c.rows m
  ch.winOk ctx k c.w16 ((rows - 1) * c.w24 + ch.vecSrc ctx k c) && ch.winOk ctx (ch.writesFor ctx k c) c.w20 ((rows - 1) * c.w36 + c.vecOut) &&
  (match c.opcode with
    | 4 | 5 => c.w40 % 64 == 0 && ch.winOk ctx k c.w40 (64 + 16 * c.h30) && ch.tableOwned ctx k c.w40 6 7
    | 9 => ch.winOk ctx k c.w40 (64 + 8 * leNat (ch.tabBytes ctx k (c.w40 + 12) 2)) && ch.tableOwned ctx k c.w40 14 15
    | _ => le c 34 1 == 6 || le c 34 1 == 7)

/-- Rotate a row in blocks of 2^k values, inputs beyond ±2^64 clamped (R123, R124): the values and how many were clamped. -/
def rotRow (k : Nat) (xs : List Nat) : List Nat × Nat :=
  let cl := xs.map fun x => if fpIsNaN x then (fpNaN, false) else rotClamp x
  let nb := (xs.length + 2 ^ k - 1) / 2 ^ k
  let ys := cl.map (·.1) ++ List.replicate (nb * 2 ^ k - xs.length) 0
  (((List.range nb).flatMap fun b => hadamard k ((ys.drop (b * 2 ^ k)).take (2 ^ k))).take xs.length,
    (cl.filter (·.2)).length)

/-- Carry out a vector command on its rows. -/
def Chan.vecRun (ch : Chan) (ctx k m : Nat) (c : Cmd) : Chan :=
  let i := ch.slotTenant (ctxSlot ctx)
  let f := (Fmt.ofCode c.format).getD .n8
  let a := ch.winAddr ctx k c.w40
  let cnt := ch.winAddr ctx k (leNat (ch.tab (a + 48) 8))
  let narrow := ch.readsBf16 ctx k c
  let src (ch : Chan) (r : Nat) : List Byte := ch.spad (ch.winAddr ctx k c.w16 + r * c.w24) (ch.vecSrc ctx k c)
  let put (ch : Chan) (r : Nat) (bs : List Byte) : Chan := ch.store 0 i (ch.winAddr ctx (ch.writesFor ctx k c) c.w20 + r * c.w36) bs
  let words (xs : List Nat) : List Byte := xs.flatMap fun x => leBytes 4 x
  let rs := List.range (c.rows m)
  match c.opcode with
  | 4 =>
    let (sats, rows, ch) := rs.foldl (fun (acc : Nat × List (List Nat) × Chan) r =>
      let (n, rows, ch) := acc
      let xs := if narrow then bf16Words c.h30 (src ch r) else fpWords c.h30 (src ch r)
      let (cs, s, ch) := ch.quantRow f a cnt i 0 xs
      (n + s, rows ++ [xs], put ch r (packCodes f cs))) (0, [], ch)
    ch.widenInRun ctx c.w40 c.w20 c.w36 sats rows
  | 5 => rs.foldl (fun (ch : Chan) r =>
      let bs := src ch r
      put ch r (words ((List.range c.h30).map fun j => dequantise f (ch.scaleEntry a j) (codeAt f bs j)))) ch
  | 6 => rs.foldl (fun (ch : Chan) r =>
      let (ys, n) := rotRow (le c 34 1) (fpWords c.h30 (src ch r))
      let ch := if n = 0 then ch else ch.count R.FTR_CNT_ROT_CLAMP EV_FTR_ROT_CLAMP (some i) n
      put ch r (words ys)) ch
  | _ => rs.foldl (fun (ch : Chan) r =>
      put ch r (words ((fpWords c.h30 (src ch r)).map (ch.drainAct ctx k c.w40)))) ch

/-- Cost of a vector command (Table 11.5). -/
def Cmd.vecCost (c : Cmd) (m : Nat) : Nat :=
  if c.opcode = 6 then c.rows m * ceilDiv c.h30 (2 ^ le c 34 1) else ceilDiv (c.rows m * c.h30) 512

/-- A vector command enters the vector path; the model completes it at once (log 46). -/
def Chan.enterVec (ch : Chan) (ctx index : Nat) : Chan :=
  match ch.run ctx with
  | none => ch
  | some r =>
    let c := (ch.side ctx).cmd index
    if ch.vecOk ctx r.number r.m c then
      let ch := { ch with eng := { ch.eng with vecAt := ch.coreNow + coreCycles (8 + c.vecCost r.m), vecHeld := some (ctx, index) } }
      let ch := ch.inc (R.OBS_TCNT (ch.slotTenant (ctxSlot ctx)) 3) (8 + c.vecCost r.m)
      (ch.vecRun ctx r.number r.m c).cmdDone ctx index 0
    else (ch.count R.ACU_CNT_REJECT EV_ACU_CHAIN_REJECT (some (ch.slotTenant (ctxSlot ctx)))).cmdDone ctx index 1

/-! ## The checks of a training step (R281) -/

/-- NaNs counted so far in the columns of the scale table at window offset `tab`. -/
def Chan.nanSum (ch : Chan) (ctx k tab : Nat) : Nat :=
  let a := ch.winAddr ctx k tab
  let cnt := ch.winAddr ctx k (leNat (ch.tab (a + 48) 8))
  (List.range (leNat (ch.tab a 2))).foldl (fun n j => n + leNat (ch.spad (cnt + 8 * j + 4) 4)) 0

/-- The forward phase of a TRAINING program ends at its first QNT or MMT, or gradient drain (Table 10.2). -/
def Chan.forwardEnd (ch : Chan) (ctx k : Nat) : Nat :=
  let s := ch.side ctx
  ((List.range s.commands).find? fun i =>
    let c := s.cmd i
    c.opcode == 2 || (c.opcode == 4 && !ch.isRefresh ctx k c) ||
      ((c.opcode == 0x0A || (c.opcode == 1 && c.accOp == 2)) && (ch.drainDesc ctx k c.w36).dest == 2)).getD s.commands

/-- The first command of the input-error phase (Table 10.2): the first QNT of the BF16 error, or MMT; in a program without that phase the
first gradient drain. -/
def Chan.errorStart (ch : Chan) (ctx k : Nat) : Nat :=
  let s := ch.side ctx
  ((List.range s.commands).find? fun i =>
    let c := s.cmd i
    c.opcode == 2 || ch.readsBf16 ctx k c ||
      ((c.opcode == 0x0A || (c.opcode == 1 && c.accOp == 2)) && (ch.drainDesc ctx k c.w36).dest == 2)).getD s.commands

/-- Scale tables that the forward phase quantises under: those of its destinations OUT. -/
def Chan.forwardTables (ch : Chan) (ctx k : Nat) : List Nat :=
  let s := ch.side ctx
  let cs := (List.range (ch.forwardEnd ctx k)).map s.cmd
  (cs.filter fun c => c.opcode == 0x0A || (c.opcode == 1 && c.accOp == 2)).filterMap fun c =>
    let d := ch.drainDesc ctx k c.w36
    if d.dest = 0 then some d.out else none

/-- Error scale tables of a layer: those of its QNT commands. -/
def Side.errorTables (s : Side) (layer : Nat) : List Nat :=
  (((List.range s.commands).map s.cmd).filter fun c => c.opcode == 4 && c.layer == layer).map fun c => c.w40

/-- The training control abandons the step before command `index`: a NaN was counted in a table it reads there. -/
def Chan.stepStops (ch : Chan) (ctx k index : Nat) : Bool :=
  match ch.trainG ctx with
  | none => false
  | some g =>
    let s := ch.side ctx
    let c := s.cmd index
    let base := (ch.trnCtx g).nanBase
    let grown (t : Nat) : Bool := decide (((sfind base t).getD 0) < ch.nanSum ctx k t)
    let drains := c.opcode == 0x0A || ((c.opcode == 1 || c.opcode == 2) && c.accOp == 2)
    if index = ch.errorStart ctx k ∧ (ch.forwardTables ctx k).any grown = true then true
    else drains && (ch.drainDesc ctx k c.w36).dest == 2 && (s.errorTables c.layer).any grown

/-! ## Issue (R225, R226) -/

/-- A gated unit can take a command now. -/
def Chan.unitFree (ch : Chan) (unit : Nat) : Bool :=
  if unit < 32 then (ch.part unit).queue.all fun q => ((ch.side q.1).cmd q.2.2).opcode == 0x0A
  else if unit < 34 then
    !ch.rvuFenced (unit - 32) && (match (ch.rvu (unit - 32)).lastIssue with
      | some (t, m) => ch.sinceC t m
      | none => true)
  else decide (ch.eng.vecAt ≤ ch.coreNow)

/-- WFQ_ISSUE (R306): a partition issues the operation at the head of its own queue once it may, and a unit that can accept work takes
the head of the eligible queue with the smallest start tag. -/
def Chan.wfqIssue (ch : Chan) (unit : Nat) : Chan :=
  let ch := if unit < 32 then ch.pump unit else ch
  if 35 ≤ unit ∨ ch.unitFree unit = false ∨ ch.obs.dump ≠ none then ch
  else match ch.wfqTake unit with
    | none => ch
    | some (x, ch) =>
      if unit < 32 then ch.enterPart x.ctx x.index
      else if unit < 34 then ch.enterRvu (unit - 32) x.ctx x.index
      else ch.enterVec x.ctx x.index

/-- Put a command into the queue of its unit, and let the unit take what it can. -/
def Chan.toUnit (ch : Chan) (unit ctx index cost : Nat) : Chan :=
  (ch.wfqJoin { unit := unit, tenant := ch.slotTenant (ctxSlot ctx), cost := cost, ctx := ctx, index := index }).wfqIssue unit

/-- Where the output command of a run writes: address and stride. -/
def Chan.outputOf (ch : Chan) (ctx k : Nat) (c : Cmd) : Nat × Nat :=
  if c.opcode = 9 then (c.w20, c.w36)
  else
    let d := ch.drainDesc ctx k c.w36
    (d.addr, d.stride)

/-- Send an issued command to its unit. -/
def Chan.toOwnUnit (ch : Chan) (ctx index m : Nat) : Chan :=
  let c := (ch.side ctx).cmd index
  match c.opcode with
  | 1 | 2 =>
    let (e, p) := ch.physical c.engine c.part
    ch.toUnit (partKey e p) ctx index (c.rows m)
  | 3 =>
    let us := (List.range 2).filter fun u => !(ch.groupsOn c u).isEmpty
    if us.isEmpty then ch.mvrReject ctx index
    else us.foldl (fun (ch : Chan) u => ch.toUnit (32 + u) ctx index (ch.mvrCycles c m u)) ch
  | 4 | 5 | 6 | 9 => ch.toUnit 34 ctx index (c.vecCost m)
  | 8 =>
    match ch.run ctx with
    | some r => ch.cmdDone ctx index
        (if m = 0 ∨ (ch.gatherRow ctx r.number (m - 1) (ch.gatherBytes ctx r.number r.width)).isSome then 0 else 1)
    | none => ch
  | 0x0A => ch.enterPart ctx index
  | _ => ch.cmdDone ctx index 0

/-- The sequencer issues command `index` of the run of side `ctx`, of opcode `op` (R225 to R227): nothing happens while it
must wait. In a failed run every command but DRAIN and SYNC is skipped. A DRAIN waits until the operations before it on its
partition have entered it (log 47). -/
def Chan.seqIssue (ch : Chan) (ctx index op : Nat) : Chan :=
  match ch.run ctx with
  | none => ch
  | some r =>
    let s := ch.side ctx
    let c := s.cmd index
    if index ≠ r.next ∨ s.commands ≤ index ∨ c.opcode ≠ op ∨ ch.obs.dump ≠ none then ch
    else if ch.models.holds.any (fun h => h.ctx == ctx && h.part.isNone) then ch
    else if r.failed.isNone && ch.stepStops ctx r.number index then ch.failRun ctx index 4
    else if r.failed.isSome && op != 0x0A && op != 0x0B then
      (ch.setRun ctx { r with next := index + 1 }).traceCmd 5 ctx index 4
    else
      let (reads, writes) := ch.cmdRanges ctx r.number r.m index
      let behind := op == 0x0A && ch.vpe.wfq.any fun x => x.ctx == ctx && decide (x.unit < 32) && (s.cmd x.index).unit == c.unit
      let sync := op == 0x0B && !r.live.isEmpty
      if r.clear reads writes = false ∨ behind = true ∨ sync = true then ch
      else
        let (ok, ch) := ch.loadTables ctx r.number index
        if !ok then ch
        else
          let r := { r with next := index + 1, live := r.live ++ [{ index := index, at_ := ch.now, reads := reads, writes := writes }]
                            out := if c.output then some (ch.outputOf ctx r.number c) else r.out }
          ((ch.setRun ctx r).traceCmd 4 ctx index 0).toOwnUnit ctx index r.m

/-! ## The end of a run (R227, R294) -/

/-- Outputs of row `m` of a run: FP32 values. -/
def Chan.runOutputs (ch : Chan) (ctx : Nat) (r : Run) (m : Nat) : List Nat :=
  match r.out with
  | some (a, stride) => fpWords (ch.side ctx).outputs (ch.winBytes ctx r.number (a + m * stride) (4 * (ch.side ctx).outputs))
  | none => []

/-- A NEURAL result reaches a descriptor: it is composed, or counts as a shadow (R294). -/
def Chan.netArrives (ch : Chan) (ctx : Nat) (wide : Bool) (id : Nat) (outs : Option (List Nat)) : Chan :=
  let shadow := match ch.job id with | some j => j.verdict.isSome && outs.isSome | none => false
  let ch := if shadow then ch.inc R.VPE_CNT_SHADOW else ch
  (ch.modJob id fun j => { j with nets := sins j.nets ctx outs, widened := j.widened || wide }).compose id

/-- RUN_COMPLETE (R227): every command of a NEURAL side's run has issued and completed: its descriptors get its outputs, or,
when it failed, no result from the slot; nor while the slot gives none (R265). -/
def Chan.runComplete (ch : Chan) (ctx : Nat) : Chan :=
  match ch.run ctx with
  | none => ch
  | some r =>
    if ch.slotKind (ctxSlot ctx) ≠ 1 ∨ r.next < (ch.side ctx).commands ∨ r.live.isEmpty = false then ch
    else
      let rows := (List.range r.jobs.length).map (ch.runOutputs ctx r)
      let ch := ch.setSeqr ctx { ch.seqr ctx with run := none }
      let ch := if r.failed.isSome then ch.runFailed ctx else ch
      let ch := ch.noteEpoch [ctx]
      (r.jobs.zip rows).foldl (fun (ch : Chan) x =>
        ch.netArrives ctx (!r.wide.isEmpty) x.1 (if r.failed.isSome || ch.chk.muted.contains (ctxSlot ctx) then none else some x.2)) ch

end Sys2Proof.Machine
end

