-- ==== Sys2Proof/Machine/Pipeline.lean ====
section
/-!
DEFINITION. Machine/Pipeline.lean: the path of a descriptor from the Carafe to its verdict (R27, R32): dispatch and what stops
it, flow lookup (R81 to R83, R93), features (R99 to R108), the forest (R150 to R152, R311), batches (R223), candidate rows
(R275) and composition (R294). Stages of fixed length are collapsed into the command that starts them (log 53).
-/

namespace Sys2Proof.Machine

open Sys2Proof

/-! ## What stops dispatch -/

/-- Descriptors in the forest wait buffer (R311). -/
def Chan.gateWaiting (ch : Chan) : Nat := (ch.vpe.wfq.filter fun x => x.unit == 35).length

/-- Why Carafe dispatch is stopped now: the code of Table 17.2 that applies first. -/
def Chan.dispatchStop (ch : Chan) : Option Nat :=
  if ch.chk.holdAt.isSome then some 1
  else if ch.now < ch.pwr.oppHold then some 2
  else if !ch.models.holds.isEmpty then some 3
  else if undoSize < ch.chk.undo.length + 8 then some 4
  else if 896 < ch.flow.miss.length then some 5
  else if 2048 ≤ ch.gateWaiting then some 6
  else none

/-- Number of the present core cycle. -/
def Chan.coreCycle (ch : Chan) : Nat := ch.coreNow / 240

/-- A lane can take a descriptor in this core cycle: each takes one per cycle (R27, R31). -/
def Chan.laneFree (ch : Chan) (laneB : Bool) : Bool := decide ((if laneB then ch.port.freeB else ch.port.freeA) ≤ ch.coreCycle)

/-- The slot of a lane in this core cycle has gone, to a descriptor or left empty; the other lane is next. -/
def Chan.useLane (ch : Chan) (laneB : Bool) : Chan :=
  let n := ch.coreCycle + 1
  { ch with port := if laneB then { ch.port with laneB := false, freeB := n } else { ch.port with laneB := true, freeA := n } }

/-- The lane that takes the next descriptor (R27): the lanes alternate; a fenced forest adder tree leaves the healthy one
(R263), two leave none. -/
def Chan.nextLane (ch : Chan) : Option Bool :=
  let f := ch.fld R.CHK_FENCE F.CHK_FENCE_trees
  let bad (b : Bool) : Bool := f.testBit (if b then 1 else 0)
  let l := ch.port.laneB
  if !bad l then some l else if !bad (!l) then some (!l) else none

/-! ## Keys and slots -/

/-- Orient a flow key (R74). -/
def orientKey (key : List Byte) (cls : Bool) (tid : Nat) : List Byte :=
  let key := putBytes key 37 [byte tid]
  if !cls then key
  else
    let kt := le key 38 1
    let ports := if kt = 1 ∨ kt = 2 then slice key 34 2 ++ slice key 32 2 else slice key 32 4
    slice key 16 16 ++ slice key 0 16 ++ ports ++ slice key 36 4

/-- Serving contexts of a tenant's slots of a kind (R239), of slots that may contribute (R265). -/
def Chan.servingCtxs (ch : Chan) (i kind : Nat) : List Nat :=
  ((List.range 64).filter fun n => ch.slotEnabled n && ch.slotTid n == ch.tid i && ch.slotKind n == kind &&
    ch.servingState n == 1 && !ch.chk.muted.contains n).map fun n => ctxOf n (ch.servingSide n)

/-- Enabled training contexts of a tenant whose TRAINING slot serves, with the context of that side (R100, R275). -/
def Chan.trainCtxs (ch : Chan) (i : Nat) : List (Nat × Nat) :=
  if !ch.flag R.TRN_CTRL F.TRN_CTRL_enable then []
  else
    ((List.range 4).filter fun g =>
      let n := ch.fld (R.TRN_CFG g) F.TRN_CFG_train_slot
      ch.flag (R.TRN_CFG g) F.TRN_CFG_enable && ch.slotTid n == ch.tid i && ch.servingState n == 1).map fun g =>
      let n := ch.fld (R.TRN_CFG g) F.TRN_CFG_train_slot
      (g, ctxOf n (ch.servingSide n))

/-! ## Step 7 onwards -/

/-- The share whose unconfirmed delta is the entry at a place of the entity tables (R258): the latest entry of the undo log
that names it. -/
def Chan.peerAt (ch : Chan) (i k b w : Nat) : Option Nat :=
  ch.chk.undo.foldl (fun a d => match d with
    | .peer s _ t lk bk wy .. => if t = i ∧ lk = k ∧ bk = b ∧ wy = w then some s else a
    | .flow .. => a) none

/-- Update the flow feature state on a HIT (R107, R108): one undo entry before each write. -/
def Chan.flowState (ch : Chan) (id : Nat) : Chan :=
  match ch.job id with
  | none => ch
  | some j =>
    match j.handle with
    | none => ch
    | some h =>
      if j.desc.test || !ch.flag R.FTR_CTRL F.FTR_CTRL_enable then ch
      else
        let i := j.tenant
        let ops := ch.rd (R.FTR_STATE i)
        let iat := fpOfInt ((j.desc.time : Int) - le j.record 56 8)
        let flags := j.desc.md.flags.toNat + 256 * le j.bus 56 1
        let reserved := ((List.range 8).filter fun k => decide (5 < stateKind ops k)).length
        let ch := ch.inc R.FTR_CNT_RESERVED reserved
        match ch.findAny i j.flowKey with
        | none => ch
        | some (cold, b, w, r) =>
          let ws := stateWrites ops r iat j.desc.md.origLen.toNat flags
          let ch := ws.foldl (fun (ch : Chan) x =>
            ch.undoPush (.flow h x.1 (ch.tid i) ch.epoch x.2.1 j.desc.md.seq.toNat id)) ch
          ch.tblPut cold i b w (recParity (ws.foldl (fun r x => putBytes r (88 + 4 * x.1) (leBytes 4 x.2.2)) r))

/-- A bank that the searches of a lane need is fenced, and no healthy copy takes its place: the slot contributes no result
(R264). -/
def Chan.ensDown (ch : Chan) (n : Nat) (laneB : Bool) : Bool :=
  (ch.searchBanks n laneB).any fun b => (ch.fld R.CHK_FENCE_BANKS F.CHK_FENCE_BANKS_banks).testBit b

/-- Ensemble `n` can still be searched by a descriptor that found it in service at its dispatch: it is valid, or leaves at a swap whose
last pass is not through (R157). -/
def Chan.ensServes (ch : Chan) (n : Nat) : Bool := ch.ensValid n || ch.fst.leaving.any (·.1 == n)

/-- Search the ensembles of a descriptor with its keys (R150 to R152): leaf uses by ensemble, outputs by FOREST side. -/
def Chan.runForest (ch : Chan) (id : Nat) : Chan :=
  match ch.job id with
  | none => ch
  | some j =>
    let ks := j.keys.filter fun x => ch.ensServes x.1 && !ch.ensDown x.1 j.laneB
    let ch := ch.countPasses j.tenant ((ks.map fun x => ch.ensPasses x.1).foldl max 0)
    let one (ch : Chan) (x : Nat × Key) : Chan :=
      let (us, ch) := ch.searchTrees x.1 j.laneB x.2
      let outs := ch.ensOutputs x.1 us
      let mine := j.forest.filter fun c => (ch.side c).ens == some x.1
      ch.modJob id fun j => { j with leaves := sins j.leaves x.1 us
                                     scores := mine.foldl (fun m c => sins m c outs) j.scores }
    (ks.foldl one ch).modJob id fun j => { j with stage := if j.verdict.isSome then j.stage else .neuralWait, keys := [] }

/-- The input vector of a program for the neural route, its NaN inputs replaced, and its clamped inputs (R106, R123, R124): made once for
each program of a descriptor, whatever names it. -/
def Chan.neuralOf (ch : Chan) (prog : Nat) (feats : List Feat) : List Nat × List Nat × Nat :=
  neuralVector (sget (fun _ => []) ch.ftr.progs prog) (ch.fld (R.FTR_PROG prog) F.FTR_PROG_rotation) feats

/-- Count the inputs that a program's rotation clamped (R124). -/
def Chan.countClamps (ch : Chan) (i n : Nat) : Chan :=
  if n = 0 then ch else ch.count R.FTR_CNT_ROT_CLAMP EV_FTR_ROT_CLAMP (some i) n

/-- Count replaced NaN inputs in a side's GATHER table: its columns and its window of R126. -/
def Chan.countNans (ch : Chan) (ctx : Nat) (nans : List Nat) : Chan :=
  let run := (ch.seqr ctx).count
  let a := ch.winAddr ctx run ((ch.side ctx).cmd 0).w40
  let counters := ch.winAddr ctx run (leNat (ch.tab (a + 48) 8))
  let ch := nans.foldl (fun (ch : Chan) k => ch.spadCount (counters + 8 * k + 4) 1) ch
  if nans.isEmpty then ch else ch.driftWindow a 0 nans.length (ch.slotTenant (ctxSlot ctx))

/-- A free place of the 1,024-row candidate ring (R275): the next one that no row, waiting or admitted and not yet sent, holds. -/
def TrnCtx.freePlace (t : TrnCtx) : Option Nat :=
  let held := (t.ring ++ t.admitted).map (·.place)
  ((List.range 1024).map fun i => (t.ringAt + i) % 1024).find? fun p => !held.contains p

/-- Scratchpad address of a row of the candidate ring, in the run area of a TRAINING side. -/
def Chan.ringAddr (ch : Chan) (ctx p : Nat) : Nat :=
  let s := ch.side ctx
  ch.winBase ctx + s.runBase + Config.candidateRow s.modelDigest p % max 1 s.runBytes

/-- A candidate row of training context `g` (R275); `nans`: its NaN inputs replaced before rotation (R124). -/
def Chan.candidate (ch : Chan) (id g ctx : Nat) (xs nans : List Nat) : Chan :=
  match ch.job id with
  | none => ch
  | some j =>
    let q := j.desc.md.seq.toNat
    if j.desc.test || q % 2 ^ ch.fld (R.TRN_LINK g) F.TRN_LINK_sample_shift != 0 then ch
    else match (ch.trnCtx g).freePlace with
      | none => ch.inc (R.TRN_CNT_ROW_DROP g)
      | some p =>
        let run := (ch.seqr ctx).count
        let ch := ch.countNans ctx nans
        let a := ch.winAddr ctx run ((ch.side ctx).cmd 0).w40
        let (cs, _, ch) := ch.quantRow .n8 a (ch.winAddr ctx run (leNat (ch.tab (a + 48) 8))) j.tenant 0 xs
        let row : TrnRow := { job := id, seqNo := q, epoch := ch.epoch, place := p, row := packCodes .n8 cs
                              vals := if ch.exacting j.tenant then xs else [] }
        let ch := ch.store 0 j.tenant (ch.ringAddr ctx p) row.row
        let t := ch.trnCtx g
        ch.setTrn g { t with ring := t.ring ++ [row], ringAt := (p + 1) % 1024 }

/-- The features of a descriptor under program `p`, from a list made once for each program. -/
def featsOf (all : List (Nat × List Feat)) (p : Nat) : List Feat := (sfind all p).getD []

/-- Steps 7 to 10 of a descriptor whose lookup has ended (R99, R100, R223, R275, R294, R311). -/
def Chan.afterLookup (ch : Chan) (id : Nat) : Chan :=
  match ch.job id with
  | none => ch
  | some j =>
    let i := j.tenant
    let (ents, found, ch) := (ch.work [3]).entityLookups i j.bus
    let peers := (found.filterMap fun f => ch.peerAt i f.1 f.2.1 f.2.2).dedup
    let x : FeatIn :=
      { bus := j.bus, hit := j.handle.isSome, rec_ := j.record, ents := ents
        kinds := (List.range 4).map fun k => min 2 (ch.lookupKind i k), reason := j.reason, ts := j.desc.time
        ops := ch.rd (R.FTR_STATE i) }
    let train := ch.trainCtxs i
    let ctxs := j.forest ++ j.neural ++ train.map (·.2)
    let progs := ((ctxs.flatMap fun c => (ch.side c).progs) ++ j.ens.map fun n => ch.ensFld n F.FST_ENS_CFG_program).dedup
    let on := ch.flag R.FTR_CTRL F.FTR_CTRL_enable
    let all := progs.map fun p =>
      (p, runProgram on x (sget (fun _ => []) ch.ftr.progs p) (ch.fld (R.FTR_PROG p) F.FTR_PROG_count))
    let vecs := all.map fun p => (p.1, ch.neuralOf p.1 p.2)
    let ch := all.foldl (fun (ch : Chan) p => ch.countFeatures p.1 p.2) ch
    let ch := vecs.foldl (fun (ch : Chan) v => ch.countClamps i v.2.2.2) ch
    let ch := ch.flowState id
    let (keys, ch) := j.ens.foldl (fun (a : List (Nat × Key) × Chan) n =>
      let (k, ch) := a.2.forestKey n (featsOf all (a.2.ensFld n F.FST_ENS_CFG_program))
      (a.1 ++ [(n, k)], ch)) ([], ch)
    let ch := ch.modJob id fun j => { j with peers := peers, keys := keys }
    let vec (c : Nat) : List Nat × List Nat × Nat := (sfind vecs (ch.side c).gatherProg).getD ([], [], 0)
    let ch := j.neural.foldl (fun (ch : Chan) c => (ch.countNans c (vec c).2.1).batchJoin c id (vec c).1) ch
    let ch := train.foldl (fun (ch : Chan) t => ch.candidate id t.1 t.2 (vec t.2).1 (vec t.2).2.1) ch
    let park := !(j.forest.isEmpty && j.ens.isEmpty) &&
      (!ch.holdsUnit 35 i || !(ch.wfqQueue 35 i).isEmpty)
    if park then
      let ch := (ch.modJob id fun j => { j with stage := .gateWait }).inc R.VPE_CNT_FST_PARK
      let passes := (j.ens.map ch.ensPasses).foldl max 1
      let ch := ch.wfqJoin { unit := 35, tenant := i, cost := passes, ctx := 0, index := id }
      let ch := if 2048 ≤ ch.gateWaiting then ch.raise EV_VPE_PARK_FULL (some i) else ch
      ch.compose id
    else (ch.runForest id).compose id

/-! ## Flow lookup -/

/-- Counter of a lookup outcome (Tables 03.4 and 03.16). -/
def reasonCounter : Nat → Nat
  | 0 => R.FLW_CNT_HIT
  | 1 => R.FLW_CNT_ABSENT
  | 2 => R.FLW_CNT_PARITY
  | 3 => R.FLW_CNT_LOCK_TIMEOUT
  | 4 => R.FLW_CNT_LOCK_QUEUE_FULL
  | 5 => R.FLW_CNT_NO_REGION
  | _ => R.FLW_CNT_NO_KEY

/-- A lookup ends without a record (R81, R86); ABSENT and PARITY may post a notification. -/
def Chan.lookupMiss (ch : Chan) (id reason : Nat) : Chan :=
  match ch.job id with
  | none => ch
  | some j =>
    let i := j.tenant
    let ch := ch.inc (reasonCounter reason)
    let ch := if reason = 3 then ch.raise EV_FLW_LOCK_TIMEOUT (some i) (some R.FLW_CNT_LOCK_TIMEOUT)
      else if reason = 4 then ch.raise EV_FLW_LOCK_QUEUE_FULL (some i) (some R.FLW_CNT_LOCK_QUEUE_FULL) else ch
    let (posted, ch) := if reason = 1 ∨ reason = 2 then ch.learnNote i j.flowKey reason j.desc.md.seq.toNat j.desc.test
      else (false, ch)
    (ch.modJob id fun j => { j with reason := reason, learn := posted }).afterLookup id

/-- A lookup ends HIT on the record `r` (R76, R81); `b`, `w` its place in T1, none in the cold table alone. -/
def Chan.lookupHit (ch : Chan) (id : Nat) (place : Option (Nat × Nat)) (r : List Byte) : Chan :=
  match ch.job id with
  | none => ch
  | some j =>
    let ch := ch.inc R.FLW_CNT_HIT
    let ch := match place with
      | some (b, w) =>
        if j.desc.test then ch
        else ch.putRec j.tenant b w (recHit r j.desc.time j.desc.md.origLen.toNat j.desc.md.cls)
      | none => ch
    (ch.modJob id fun j => { j with reason := 0, handle := some (recHandle r), record := r }).afterLookup id

/-- Records of a lookup's buckets that fail parity wait for their maintenance slot (R84). -/
def Chan.parityScan (ch : Chan) (i b1 b2 : Nat) : Chan :=
  ([b1, b2].flatMap fun b => (List.range 4).map fun w => (b, w)).foldl (fun (ch : Chan) x =>
    let r := recAt (ch.bucketBytes i x.1) x.2
    if recValid r && !recGood r then ch.parityMaint false i x.1 x.2 (recKey r) else ch) ch

/-- Compare and update of step 6 with both lines in the cache. A lookup that waits for the cold table keeps its place `k` in the miss
buffer, so that those linked behind it wait for it (R83). -/
def Chan.examine (ch : Chan) (l : Lookup) (k : Nat) : Chan :=
  let ch := ch.parityScan l.tenant l.b1 l.b2
  match ch.findRec l.tenant l.key true with
  | some (b, w, r) => ch.lookupHit l.job (some (b, w)) r
  | none =>
    if ch.coldOn l.tenant then
      { ch with flow := { ch.flow with miss := ch.flow.miss.take k ++ { l with cold := true } :: ch.flow.miss.drop k } }
    else ch.lookupMiss l.job (if (ch.findRec l.tenant l.key false).isSome then 2 else 1)

/-- A lookup of the miss buffer shares a bucket with another. -/
def Lookup.meets (a b : Lookup) : Bool := a.b1 == b.b1 || a.b1 == b.b2 || a.b2 == b.b1 || a.b2 == b.b2

/-- Start the fill of an uncached bucket with nothing pending (R82). -/
def Chan.startFill (ch : Chan) (i b : Nat) : Chan :=
  if (ch.flowWay i b).isSome || ch.flow.fills.contains b then ch
  else { ch with flow := { ch.flow with fills := ch.flow.fills ++ [b] } }

/-- Touch the replacement bits of a lookup's cached lines (R79). -/
def Chan.touchBoth (ch : Chan) (l : Lookup) : Chan :=
  [l.b1, l.b2].foldl (fun (ch : Chan) b => match ch.flowWay l.tenant b with
    | some k => ch.flowTouch k
    | none => ch) ch

/-- A bucket has a fill or a promotion pending; a lookup whose cold-table fetch runs counts as a promotion pending (R83, log 142). -/
def Chan.bucketPending (ch : Chan) (b : Nat) : Bool :=
  ch.flow.fills.contains b || ch.flow.miss.any fun k => k.cold && (k.b1 == b || k.b2 == b)

/-- Earlier lookups that a new one is linked behind (R82): those waiting on a candidate that has a fill or a promotion pending, and
those of its own flow, whose order R28 keeps (DEDUCED, log 142). -/
def Chan.linkedBehind (ch : Chan) (l : Lookup) : List Nat :=
  (ch.flow.miss.filter fun k =>
    (ch.bucketPending l.b1 && (k.b1 == l.b1 || k.b2 == l.b1)) || (ch.bucketPending l.b2 && (k.b1 == l.b2 || k.b2 == l.b2)) ||
    (k.tenant == l.tenant && k.key == l.key)).map (·.job)

/-- The cache read of step 6: compare at once, or take an entry of the miss buffer (R82). -/
def Chan.cacheRead (ch : Chan) (l : Lookup) : Chan :=
  let ch := ch.touchBoth l
  let cached := (ch.flowWay l.tenant l.b1).isSome && (ch.flowWay l.tenant l.b2).isSome
  let links := ch.linkedBehind l
  if cached && links.isEmpty && !ch.bucketPending l.b1 && !ch.bucketPending l.b2 then ch.examine l ch.flow.miss.length
  else
    let ch := { ch with flow := { ch.flow with miss := ch.flow.miss ++ [{ l with behind := links }] } }
    (ch.startFill l.tenant l.b1).startFill l.tenant l.b2

/-- Step 6 of a parsed descriptor (R81, R92, R93). -/
def Chan.flowLookup (ch : Chan) (id : Nat) : Chan :=
  match ch.job id with
  | none => ch
  | some j =>
    let i := j.tenant
    if le j.flowKey 38 1 = 0 then ch.lookupMiss id 6
    else if !ch.flag R.FLW_CTRL F.FLW_CTRL_enable || !ch.hasRegion i then ch.lookupMiss id 5
    else
      let (b1, b2) := ch.flowBuckets i j.flowKey
      let l : Lookup := { job := id, tenant := i, key := j.flowKey, b1 := b1, b2 := b2, at_ := ch.now }
      if ch.flowLocked i b1 || ch.flowLocked i b2 || ch.parkedOn b1 || ch.parkedOn b2 then
        if 64 ≤ ch.flow.parked.length then ch.lookupMiss id 4
        else
          let ch := { ch with flow := { ch.flow with parked := ch.flow.parked ++ [l] } }.lockStatus
          ch.modJob id fun j => { j with stage := .parked }
      else ch.cacheRead l

/-- Lookups of the miss buffer that can re-enter do so, oldest first (R82): both lines cached, no lookup it is linked behind
still waiting. A line evicted meanwhile is filled again. `n` bounds the number of re-entries. -/
def Chan.serveMiss : Nat → Chan → Chan
  | 0, ch => ch
  | n + 1, ch =>
    let ready (l : Lookup) (ahead : List Lookup) : Bool :=
      !l.cold && (ch.flowWay l.tenant l.b1).isSome && (ch.flowWay l.tenant l.b2).isSome && !ahead.any fun k => l.behind.contains k.job
    let idx := (List.range ch.flow.miss.length).find? fun k => match ch.flow.miss[k]? with
      | some l => ready l (ch.flow.miss.take k)
      | none => false
    match idx with
    | none => ch
    | some k =>
      match ch.flow.miss[k]? with
      | none => ch
      | some l =>
        let ch := { ch with flow := { ch.flow with miss := dropAt ch.flow.miss k } }
        Chan.serveMiss n (ch.examine l k)

/-- After a change of the cache: waiting lookups whose lines are gone start their fills again, and those that can re-enter. -/
def Chan.serveLookups (ch : Chan) : Chan :=
  let ch := Chan.serveMiss 1024 ch
  ch.flow.miss.foldl (fun (ch : Chan) l => if l.cold then ch else (ch.startFill l.tenant l.b1).startFill l.tenant l.b2) ch

/-! ## Dispatch -/

/-- DESCRIPTOR_DISPATCH (R27, R55 to R57, R138): the Carafe read side hands its oldest descriptor to a lane. `fixed`: single-bit
errors corrected as it was read; `bad`: an uncorrectable error. -/
def Chan.descriptorDispatch (ch : Chan) (fixed : Nat) (bad : Bool) : Chan :=
  match ch.port.carafe, ch.nextLane with
  | d :: rest, some lane =>
    let i := d.md.tenant.toNat % 16
    if !ch.clocked || ch.failStopped || ch.dispatchStop.isSome || decide (ch.coreNow < ch.flow.slotAt) ||
        !ch.laneFree lane then ch
    else if !bad && ch.claimClash 97 (ch.tenantEns i) lane then
      (ch.inc R.FST_CNT_BANK_HOLD).useLane lane
    else
      let ch := (ch.setCarafe rest).freeWords d.words
      let ch := ch.inc R.CRF_CNT_ECC fixed
      let ch := { (ch.useLane lane).work [0] with pwr := { ch.pwr with dispatchAt := ch.now } }
      if bad then (ch.count R.PDP_CNT_BAD_CRC EV_PDP_BAD_CRC).malformed d.md.seq (Config.noClass ch.idx d.md.seq.toNat) false
      else
        let ch := ch.claim 97 (ch.tenantEns i) lane
        let (bus, ch) := (ch.work [1, 2]).parse d.md.bytes d.slice (d.md.flags.getLsbD 0) (ch.tid i) i
        let id := ch.jobNum
        let j : Job :=
          { id := id, laneB := lane, desc := d, stage := .flowWait, tenant := i, bus := bus
            flowKey := orientKey (slice bus 16 40) d.md.cls (ch.tid i), at_ := ch.now
            ens := ch.tenantEns i, forest := ch.servingCtxs i 0, neural := ch.servingCtxs i 1 }
        { ch with jobs := ch.jobs ++ [j], jobNum := id + 1 }.flowLookup id
  | _, _ => ch

/-! ## Forest wait buffer -/

/-- Forest results that reach a descriptor composed before its re-entry, from its NEURAL slot, count as shadows (R294). -/
def Chan.lateShadow (ch : Chan) (id : Nat) : Chan :=
  match ch.job id with
  | none => ch
  | some j => if j.verdict.isSome then ch.inc R.VPE_CNT_SHADOW (j.forest.filter fun c => (sfind j.scores c).isSome).length else ch

/-- FOREST_REENTRY (R306, R311): the eligible tenant's oldest parked descriptor re-enters key distribution. -/
def Chan.forestReentry (ch : Chan) : Chan :=
  match ch.wfqPick 35 with
  | none => ch
  | some i =>
    match ch.wfqQueue 35 i with
    | [] => ch
    | x :: _ =>
      match ch.job x.index with
      | none => (ch.wfqDrop fun y => decide (y = x))
      | some j =>
        if ch.claimClash 0 j.ens j.laneB then ch.inc R.FST_CNT_BANK_HOLD
        else
          match ch.wfqTake 35 with
          | none => ch
          | some (_, ch) => (((ch.claim 0 j.ens j.laneB).runForest x.index).lateShadow x.index).compose x.index

end Sys2Proof.Machine
end

