-- ==== Sys2Proof/Machine/FlowCmds.lean ====
section
/-!
DEFINITION. Machine/FlowCmds.lean: the commands of the Flow Engine (chapter 03): fills and cold fetches (R82, R83), the insert
unit (R88, R89), maintenance slots (R84, R85), aging (R90, R91), bucket locks (R92 to R94), regions (R77, R79, R97) and rings
(R449, R450).
-/

namespace Sys2Proof.Machine

open Sys2Proof

/-! ## Fills -/

/-- The tenant whose region holds a channel bucket. -/
def Chan.bucketTenant (ch : Chan) (b : Nat) : Option Nat :=
  (List.range 16).find? fun i => ch.hasRegion i && decide (ch.regionBase i ≤ b ∧ b < ch.regionBase i + 2 ^ ch.regionBits i)

/-- A line whose read was uncorrectable: every record fails parity (Table 12.4). -/
def badLine (bs : List Byte) : List Byte :=
  (List.range 4).foldl (fun l w => let r := recAt l w
    putRecAt l w (putBytes r 127 [~~~(parityByte 8 r)])) bs

/-- FLOW_FILL_COMPLETE (R79, R82): the fill of bucket `b` arrives, uncorrectable unless `ok`. While the bucket is locked the
fill waits (log 54). -/
def Chan.flowFillComplete (ch : Chan) (b : Nat) (ok : Bool) : Chan :=
  match ch.bucketTenant b with
  | none => ch
  | some i =>
    if !ch.flow.fills.contains b || ch.flowLocked i b then ch
    else
      let ch := { ch with flow := { ch.flow with fills := ch.flow.fills.filter (· ≠ b) } }
      let ch := ch.flowFill i b
      let ch := if ok then ch
        else
          let ch := ch.uncorrectable 1 (flowAddr b)
          match ch.flowWay i b with
          | some k => ch.setLine k (some { bucket := b, tenant := i, dirty := false, data := badLine (ch.bucketBytes i b) })
          | none => ch
      ch.serveLookups

/-! ## Two-hash tables (R77, R89): a tenant's flow region, and its cold table -/

def Chan.tblBytes (ch : Chan) (cold : Bool) (i b : Nat) : List Byte := if cold then ch.coldBytes i b else ch.bucketBytes i b
def Chan.tblRec (ch : Chan) (cold : Bool) (i b w : Nat) : List Byte := recAt (ch.tblBytes cold i b) w
def Chan.tblCand (ch : Chan) (cold : Bool) (i : Nat) (key : List Byte) : Nat × Nat :=
  if cold then candidates (ch.flowHash key) (ch.coldBits i) else ch.flowBuckets i key
def Chan.tblLocked (ch : Chan) (cold : Bool) (i b : Nat) : Bool := !cold && ch.flowLocked i b
/-- The insert unit first fills every bucket its path reads (R89). -/
def Chan.tblFill (ch : Chan) (cold : Bool) (i b : Nat) : Chan := if cold then ch else ch.flowFill i b
/-- The lowest way of a bucket without a valid record. -/
def Chan.tblFree (ch : Chan) (cold : Bool) (i b : Nat) : Option Nat :=
  (List.range 4).find? fun w => !recValid (ch.tblRec cold i b w)
/-- A key's record in a bucket, its parity good. -/
def Chan.tblHas (ch : Chan) (cold : Bool) (i b : Nat) (key : List Byte) : Bool :=
  (List.range 4).any fun w => let r := ch.tblRec cold i b w
    recNames r key && recGood r

/-- A step of a relocation path: bucket, way, and the key found there. -/
abbrev PathStep := Nat × Nat × List Byte

/-- What a search for room answers. -/
inductive Room where
  | free (path : List PathStep) (b w : Nat)
  | full
  | again
  deriving DecidableEq, Repr

/-- Extend a path from full bucket `b`: relocation `r` moves the record of way r mod 4 (R89). The path is kept newest first. -/
def Chan.findPath (cold : Bool) (i : Nat) : Nat → Nat → Nat → List PathStep → Chan → Room × Chan
  | 0, _, _, _, ch => (.full, ch)
  | n + 1, r, b, path, ch =>
    let v := r % 4
    let x := ch.tblRec cold i b v
    if !recValid x then (.again, ch)
    else
      let (c1, c2) := ch.tblCand cold i (recKey x)
      let nb := if b = c1 then c2 else c1
      if ch.tblLocked cold i nb then (.again, ch)
      else
        let ch := ch.tblFill cold i nb
        let path := (b, v, recKey x) :: path
        match ch.tblFree cold i nb with
        | some w => (.free path nb w, ch)
        | none => Chan.findPath cold i n (r + 1) nb path ch

/-- Move the records of a path from its far end (R89): the way freed last, none if a check fails. -/
def Chan.applyPath (cold : Bool) (i : Nat) : List PathStep → Nat → Nat → Chan → Option (Nat × Nat) × Chan
  | [], b, w, ch => (some (b, w), ch)
  | (sb, sv, key) :: rest, b, w, ch =>
    let x := ch.tblRec cold i sb sv
    if !recNames x key || recValid (ch.tblRec cold i b w) then (none, ch)
    else
      let ch := ch.tblPut cold i b w x
      let ch := ch.tblPut cold i sb sv (recParity (recBit x 0 false))
      Chan.applyPath cold i rest sb sv ch

/-- Results of Table 03.6 that the search and placement give. -/
inductive Ins where
  | inserted | exists_ | full | again
  deriving DecidableEq, Repr

/-- One attempt to place a record under its key. -/
def Chan.insertOnce (ch : Chan) (cold : Bool) (i : Nat) (r : List Byte) : Ins × Chan :=
  let key := recKey r
  let (b1, b2) := ch.tblCand cold i key
  if ch.tblLocked cold i b1 || ch.tblLocked cold i b2 then (.again, ch)
  else
    let ch := (ch.tblFill cold i b1).tblFill cold i b2
    if ch.tblHas cold i b1 key || ch.tblHas cold i b2 key then (.exists_, ch)
    else
      match ch.tblFree cold i b1, ch.tblFree cold i b2 with
      | some w, _ => (.inserted, ch.tblPut cold i b1 w r)
      | none, some w => (.inserted, ch.tblPut cold i b2 w r)
      | none, none =>
        match Chan.findPath cold i 8 0 b1 [] ch with
        | (.full, ch) => (.full, ch)
        | (.again, ch) => (.again, ch)
        | (.free path b w, ch) =>
          match Chan.applyPath cold i path b w ch with
          | (some (b, w), ch) => if recValid (ch.tblRec cold i b w) then (.again, ch) else (.inserted, ch.tblPut cold i b w r)
          | (none, ch) => (.again, ch)

/-- Insert with at most two restarts (R89). -/
def Chan.insertTry (cold : Bool) (i : Nat) (r : List Byte) : Nat → Chan → Ins × Chan
  | 0, ch => (.again, ch)
  | n + 1, ch =>
    match ch.insertOnce cold i r with
    | (.again, ch) => Chan.insertTry cold i r n ch
    | x => x

/-- Code of Table 03.6. -/
def Ins.code : Ins → Nat
  | .inserted => 0 | .exists_ => 1 | .full => 2 | .again => 3

/-! ## Insert rings -/

def Chan.insProd (ch : Chan) (r : Nat) : Nat := ch.fld (R.LDS_INS_IDX r) F.LDS_INS_IDX_prod
def Chan.insCons (ch : Chan) (r : Nat) : Nat := ch.fld (R.LDS_INS_IDX r) F.LDS_INS_IDX_cons
/-- Commands a ring holds. -/
def Chan.insCount (ch : Chan) (r : Nat) : Nat := (ch.insProd r + 512 - ch.insCons r) % 512
/-- Scratchpad address of entry `k` of a ring (R450). -/
def Chan.insAddr (ch : Chan) (r k : Nat) : Nat := ch.fld (R.LDS_INS_BASE r) F.LDS_INS_BASE_base + 128 * (k % 256)

/-- Write a result into the oldest command of a ring and pass it (R88, R450). -/
def Chan.insResult (ch : Chan) (r code i : Nat) : Chan :=
  let ch := ch.store 0 chanKey (ch.insAddr r (ch.insCons r) + 120) [byte code, 1]
  let ch := ch.setFld (R.LDS_INS_IDX r) F.LDS_INS_IDX_cons (ch.insCons r + 1)
  let ch := if code = 2 ∨ code = 3 then ch.raise EV_FLW_INSERT_FULL (some i) else ch
  if r = 17 then ch
  else
    let ch := ch.vector 0 8 0
    if r < 16 ∧ ch.fnLive (r + 1) = true then ch.vector (r + 1) 3 0 else ch

/-- INSERT_COMMAND (R88, R89): the insert unit takes one command from the rings of the tenants and the Stewards in turn,
promotions having none waiting. -/
def Chan.insertCommand (ch : Chan) : Chan :=
  if ch.safeServe || !ch.flow.promote.isEmpty then ch
  else
    match ((List.range 17).map fun k => (ch.flow.lastRing + 1 + k) % 17).find? fun r => ch.insCount r != 0 with
    | none => ch
    | some r =>
      let ch := { ch with flow := { ch.flow with lastRing := r } }
      let (x, ch) := ch.load 0 chanKey (ch.insAddr r (ch.insCons r)) 128
      let t := le x 37 1
      let i := if r < 16 then r else t % 16
      let own : Bool := if r < 16 then t == ch.tid r else t < 128 && ch.ownsTid t && ch.tenantExists (t % 16)
      let kt := le x 38 1
      if !own || !recValid x || recHandle x == 0 || kt == 0 || decide (5 < kt) then ch.insResult r 4 i
      else if !ch.hasRegion i then ch.insResult r 5 i
      else
        let y := recParity (putBytes (putBytes x 120 (List.replicate 7 0)) 48 (leBytes 8 ch.ns))
        let (a, ch) := Chan.insertTry false i y 3 ch
        let ch := if a = .inserted ∨ a = .exists_ then ch.unpend i (recKey x) else ch
        (ch.insResult r a.code i).serveLookups

/-! ## Cold tables (R80, R83) -/

/-- A lookup leaves the miss buffer. -/
def Chan.leaveMiss (ch : Chan) (id : Nat) : Chan :=
  { ch with flow := { ch.flow with miss := ch.flow.miss.filter fun l => l.job ≠ id } }

/-- A lookup waits for its promotion. -/
def Chan.promoting (ch : Chan) (l : Lookup) : Bool := ch.flow.promote.any fun p => p.1 == l.tenant && recKey p.2 == l.key

/-- COLD_FETCH_COMPLETE (R81, R83): the T2 fetch of the oldest waiting lookup returns, uncorrectable unless `ok`. A record found
is sent for promotion; in Safe Serve it serves from T2 (R417). After an uncorrectable read every record of the first candidate's line
fails parity (Table 12.4). -/
def Chan.coldFetchComplete (ch : Chan) (ok : Bool) : Chan :=
  match ch.flow.miss.find? fun l => l.cold && !ch.promoting l with
  | none => ch
  | some l =>
    let i := l.tenant
    let c := candidates (ch.flowHash l.key) (ch.coldBits i)
    let a := ch.coldAddr i c.1
    let ch := if ok || !ch.coldOn i then ch else (ch.uncorrectable 2 a).store 2 i a (badLine (ch.bytes 2 i a 512))
    match (if ch.coldOn i then ch.findCold i l.key else none) with
    | some (b, w, r) =>
      if ch.safeServe then
        let ch := match ch.job l.job with
          | some j => if j.desc.test then ch
            else ch.putCold i b w (recHit r j.desc.time j.desc.md.origLen.toNat j.desc.md.cls)
          | none => ch
        ((ch.leaveMiss l.job).lookupHit l.job none r).serveLookups
      else if 256 ≤ ch.insCount 17 then ch
      else
        let p := ch.insProd 17
        let ch := ch.store 0 chanKey (ch.insAddr 17 p) r
        let ch := ch.setFld (R.LDS_INS_IDX 17) F.LDS_INS_IDX_prod (p + 1)
        { ch with flow := { ch.flow with promote := ch.flow.promote ++ [(i, r)] } }
    | none =>
      let recs := if ch.coldOn i then ch.coldRecs i l.key else []
      let ch := recs.foldl (fun (ch : Chan) x =>
        if recValid x.2.2 && !recGood x.2.2 then ch.parityMaint true i x.1 x.2.1 (recKey x.2.2) else ch) ch
      let bad := (ch.findRec i l.key false).isSome || recs.any fun x => recNames x.2.2 l.key
      ((ch.leaveMiss l.job).lookupMiss l.job (if bad then 2 else 1)).serveLookups

/-- PROMOTION (R83): the insert unit places the oldest promoted record in T1 and removes it from T2. A record that finds no place
stays in T2, and its lookup ends HIT on it there (log 55). -/
def Chan.promotion (ch : Chan) : Chan :=
  match ch.flow.promote with
  | [] => ch
  | (i, r) :: rest =>
    if ch.safeServe then ch
    else if 16 ≤ i then { ch with flow := { ch.flow with promote := rest } }.insResult 17 5 0
    else
      let ch := { ch with flow := { ch.flow with promote := rest } }
      let key := recKey r
      let (a, ch) := Chan.insertTry false i (recParity (recBit r 4 false)) 3 ch
      let placed := a == .inserted || a == .exists_
      let ch := if placed then
          let ch := ch.unpend i key
          match ch.findCold i key with
          | some (b, w, c) => ch.putCold i b w (recParity (recBit c 0 false))
          | none => ch
        else ch
      let ch := ch.insResult 17 a.code i
      match ch.flow.miss.find? fun l => l.cold && l.tenant == i && l.key == key with
      | none => ch.serveLookups
      | some l =>
        let ch := ch.leaveMiss l.job
        let ch := match (if placed then ch.findRec i key true else none) with
          | some (b, w, r) => ch.lookupHit l.job (some (b, w)) r
          | none =>
            let ch := match ch.job l.job, ch.findCold i key with
              | some j, some (b, w, c) => if j.desc.test then ch
                else ch.putCold i b w (recHit c j.desc.time j.desc.md.origLen.toNat j.desc.md.cls)
              | _, _ => ch
            ch.lookupHit l.job none r
        ch.serveLookups

/-! ## Maintenance slots -/

/-- Carry out a waiting maintenance operation (R84). -/
def Chan.runMaint (ch : Chan) : Chan :=
  match ch.flow.maint with
  | [] => ch
  | (.invalidate cold b w i key, _) :: rest =>
    let ch := { ch with flow := { ch.flow with maint := rest } }
    let r := ch.tblRec cold i b w
    if recNames r key && !recGood r && !ch.tblLocked cold i b && (!cold || ch.coldOn i) then
      ((ch.tblPut cold i b w (recParity (recBit r 0 false))).expire i r 2).raise EV_FLW_PARITY (some i)
    else ch

/-- FLOW_PARITY_INVALIDATE (R84): the operation takes a slot that the Carafe leaves free. -/
def Chan.flowParityInvalidate (ch : Chan) : Chan := ch.runMaint

/-- force_interval in force (Table 03.12). -/
def Chan.forceInterval (ch : Chan) : Nat := min 1024 (max 64 (ch.fld R.FLW_MAINT F.FLW_MAINT_force_interval))

/-- MAINTENANCE_FORCE (R85): an operation that has waited force_interval cc takes the next slot; dispatch waits 1 cc. -/
def Chan.maintenanceForce (ch : Chan) : Chan :=
  match ch.flow.maint with
  | [] => ch
  | (_, t) :: _ =>
    if ch.sinceC t ch.forceInterval then
      let ch := ch.runMaint
      { ch with flow := { ch.flow with slotAt := ch.coreNow + coreCycles 1 } }
    else ch

/-- PENDING_KEY_EXPIRE (R86): keys posted 1 ms ago leave the filter. -/
def Chan.pendingKeyExpire (ch : Chan) : Chan :=
  { ch with flow := { ch.flow with pending := ch.flow.pending.filter fun p => decide (ch.ns < p.2.2 + 1000000) } }

/-! ## Aging (R90, R91) -/

/-- Period of a tenant in ns; 0: no aging. -/
def Chan.agePeriod (ch : Chan) (i : Nat) : Nat := 1000000 * ch.fld (R.FLW_REGION_B i) F.FLW_REGION_B_age_period

def Chan.aging (ch : Chan) (i : Nat) : Option Aging := sget (fun _ => none) ch.flow.aging i
def Chan.setAging (ch : Chan) (i : Nat) (a : Option Aging) : Chan :=
  { ch with flow := { ch.flow with aging := sset (fun _ => none) ch.flow.aging i a } }

/-- Buckets a period visits: the region's, then the cold table's. -/
def Chan.ageBuckets (ch : Chan) (i : Nat) : Nat :=
  (if ch.hasRegion i then 2 ^ ch.regionBits i else 0) + if ch.coldOn i then 2 ^ ch.coldBits i else 0

/-- A write of age_period that changes it starts a period at once, or ends aging. -/
def Chan.ageWritten (ch : Chan) (i old : Nat) : Chan :=
  if ch.agePeriod i = old then ch
  else ch.setAging i (if ch.agePeriod i = 0 then none else some { start := ch.ns, next := 0, late := false, moved := [] })

/-- AGE_PERIOD_START (R90): the next period begins when the one before ends. -/
def Chan.agePeriodStart (ch : Chan) (i : Nat) : Chan :=
  if 16 ≤ i ∨ ch.safeServe = true ∨ ch.agePeriod i = 0 then ch
  else
    match ch.aging i with
    | none => ch.setAging i (some { start := ch.ns, next := 0, late := false, moved := [] })
    | some a =>
      if a.start + ch.agePeriod i ≤ ch.ns ∧ ch.ageBuckets i ≤ a.next then
        ch.setAging i (some { start := if a.late then ch.ns else a.start + ch.agePeriod i, next := 0, late := false, moved := [] })
      else ch

/-- Age one record of a bucket (R90): in the cold table nothing is moved, and a record moved there in this period waits for the
next one. Answers the keys moved. -/
def Chan.ageRecord (ch : Chan) (i : Nat) (cold : Bool) (b w : Nat) (moved : List (List Byte)) : List (List Byte) × Chan :=
  let r := ch.tblRec cold i b w
  let c := recCtl r
  if !recValid r then (moved, ch)
  else if !recGood r then
    (moved, ((ch.tblPut cold i b w (recParity (recBit r 0 false))).expire i r 2).raise EV_FLW_PARITY (some i))
  else if c.testBit 3 || (cold && moved.contains (recKey r)) then (moved, ch)
  else if c.testBit 1 then (moved, ch.tblPut cold i b w (recParity (recBit r 1 false)))
  else if !c.testBit 2 then
    let r' := recParity (recBit r 2 true)
    if !cold && ch.coldOn i then
      let gone := recParity (recBit r 0 false)
      match Chan.insertTry true i (recParity (recBit r' 4 true)) 1 ch with
      | (.inserted, ch) => (recKey r :: moved, ch.tblPut cold i b w gone)
      | (.exists_, ch) => (recKey r :: moved, ch.tblPut cold i b w gone)
      | (_, ch) => (moved, (ch.tblPut cold i b w gone).expire i r 3)
    else (moved, ch.tblPut cold i b w r')
  else (moved, (ch.tblPut cold i b w (recParity (recBit r 0 false))).expire i r 1)

/-- SWEEP_VISIT (R90, R91): the sweeper's next visit for tenant `i`, at its share of the period: the buckets of a period count from 0,
so that the first is visited at its start (DESIGN CHOICE, log 144). Locked buckets are skipped. -/
def Chan.sweepVisit (ch : Chan) (i : Nat) : Chan :=
  match (if i < 16 ∧ ch.safeServe = false then ch.aging i else none) with
  | none => ch
  | some a =>
    let n := ch.ageBuckets i
    let p := ch.agePeriod i
    if n ≤ a.next ∨ p = 0 ∨ ch.ns < a.start + a.next * p / n then ch
    else
      let t1 := if ch.hasRegion i then 2 ^ ch.regionBits i else 0
      let cold := decide (t1 ≤ a.next)
      let b := if cold then a.next - t1 else ch.regionBase i + a.next
      let (moved, ch) := if !cold && ch.flowLocked i b then (a.moved, ch)
        else (List.range 4).foldl (fun (x : List (List Byte) × Chan) w => x.2.ageRecord i cold b w x.1) (a.moved, ch)
      let late := decide (a.next + 1 = n ∧ a.start + p < ch.ns)
      let ch := if late && !a.late then ch.raise EV_FLW_SWEEP_LATE (some i) else ch
      ch.setAging i (some { a with next := a.next + 1, late := a.late || late, moved := moved })

/-! ## Bucket locks (R92 to R94, R373) -/

/-- T1 byte address of a lock's bucket. -/
def Chan.lockAddr (ch : Chan) (l : Lock) : Nat :=
  if l.table = 0 then flowAddr (ch.regionBase l.tenant + l.bucket) else ch.entityAddr l.tenant (l.table - 1) l.bucket

/-- A started DMA command of the lock's holder writes its bucket (R373). -/
def Chan.lockBusy (ch : Chan) (l : Lock) : Bool :=
  let a := ch.lockAddr l
  ch.host.dma.any fun d => d.inst == l.holder && d.cmd.op == 1 && d.cmd.tier == 1 &&
    decide (d.cmd.dev < a + 512 ∧ a < d.cmd.dev + d.cmd.len)

/-- The bucket that a request names: local tenant, table and bucket; none outside region or table (R92). -/
def Chan.lockTarget (ch : Chan) (tid table b : Nat) : Option (Nat × Nat × Nat) :=
  let i := tid % 16
  if !ch.ownsTid tid then none
  else if table = 0 then (if ch.hasRegion i && decide (b < 2 ^ ch.regionBits i) then some (i, 0, b) else none)
  else if table ≤ 4 then
    (if ch.lookupKind i (table - 1) = 1 ∧ b < 2 ^ ch.fld (R.FTR_LOOKUP (4 * i + (table - 1))) F.FTR_LOOKUP_log2_buckets
      then some (i, table, b) else none)
  else none

/-- Record the result of a request of a function instance; a VF reads its own latest one (R446). -/
def Chan.lockResult (ch : Chan) (inst res : Nat) : Chan :=
  let ch := ch.setFld R.FLW_LOCK_STATUS F.FLW_LOCK_STATUS_last_result res
  let ch := if inst = 0 then ch else ch.setFld (bank inst R.FLW_LOCK_STATUS) F.FLW_LOCK_STATUS_last_result res
  ch.lockStatus

/-- The fields of a request word as the function writes them: a VF's tenant is its own (Table 03.15). -/
def Chan.lockWord (ch : Chan) (inst : Nat) (v : Word) : Word :=
  let v := if inst = 0 then v else setF v F.FLW_LOCK_REQ_tenant (ch.tid (inst - 1))
  v &&& 0x0000001DFFFFFFFF

/-- FLW_LOCK_REQUEST (R92) through function instance `inst`. -/
def Chan.lockRequest (ch : Chan) (inst : Nat) (v : Word) : Chan :=
  let v := ch.lockWord inst v
  let ch := ch.wr R.FLW_LOCK_REQ v
  let held := (ch.flow.locks.filter fun l => l.holder == inst).length
  match ch.lockTarget (getF v F.FLW_LOCK_REQ_tenant) (getF v F.FLW_LOCK_REQ_table) (getF v F.FLW_LOCK_REQ_bucket) with
  | none => ch.lockResult inst 1
  | some (i, table, b) =>
    if ch.locked i table b then ch.lockResult inst 2
    else if 16 ≤ ch.flow.locks.length then ch.lockResult inst 3
    else if inst ≠ 0 ∧ 4 ≤ held then ch.lockResult inst 5
    else
      let ch :=
        if table = 0 then
          match ch.flowWay i (ch.regionBase i + b) with
          | some k => (ch.writeBack k).setLine k none
          | none => ch
        else
          match ch.entWay i (table - 1) b with
          | some w => { ch with ftr := { ch.ftr with
              cache := sset (fun _ => none) ch.ftr.cache (entKey i (b % 64) w) none } }
          | none => ch
      let l : Lock := { tenant := i, table := table, bucket := b, holder := inst, at_ := ch.now }
      { ch with flow := { ch.flow with locks := ch.flow.locks ++ [l] } }.lockResult inst 0

/-- Change the lock of a bucket. -/
def Chan.modLock (ch : Chan) (l : Lock) (f : Lock → Lock) : Chan :=
  { ch with flow := { ch.flow with locks := ch.flow.locks.map fun k => if k = l then f k else k } }

/-- The RW fields of FLW_LOCK_REL after a write; start is RW1S and stays as it is (R11). -/
def Chan.lockRelWrite (ch : Chan) (inst : Nat) (v : Word) : Chan :=
  let start := ch.fld R.FLW_LOCK_REL F.FLW_LOCK_REL_start
  (ch.wr R.FLW_LOCK_REL (ch.lockWord inst v)).setFld R.FLW_LOCK_REL F.FLW_LOCK_REL_start start

/-- FLW_LOCK_RELEASE (R94) through function instance `inst`: start stays set until the release completes, and a second start meanwhile
starts nothing (R11). -/
def Chan.lockRelease (ch : Chan) (inst : Nat) (v : Word) : Chan :=
  let pending := ch.flag R.FLW_LOCK_REL F.FLW_LOCK_REL_start
  let ch := ch.lockRelWrite inst v
  let w := ch.rd R.FLW_LOCK_REL
  if pending then ch
  else match ch.lockTarget (getF w F.FLW_LOCK_REL_tenant) (getF w F.FLW_LOCK_REL_table) (getF w F.FLW_LOCK_REL_bucket) with
  | none => ch.lockResult inst 1
  | some (i, table, b) =>
    match ch.flow.locks.find? fun l => l.tenant == i && l.table == table && l.bucket == b with
    | none => ch.lockResult inst 4
    | some l =>
      if l.holder ≠ inst then ch.lockResult inst 6
      else if l.release.isSome then ch
      else (ch.modLock l fun k => { k with release := some ch.now }).setFlag R.FLW_LOCK_REL F.FLW_LOCK_REL_start true

/-- Check what the host left in a flow bucket (R94). -/
def Chan.fixBucket (ch : Chan) (i b : Nat) : Chan :=
  (List.range 4).foldl (fun (ch : Chan) w =>
    let r := recAt (ch.bucketBytes i b) w
    let kt := le r 38 1
    let c := ch.flowBuckets i (recKey r)
    if !recValid r then ch
    else if le r 37 1 ≠ ch.tid i ∨ kt = 0 ∨ 5 < kt ∨ (c.1 ≠ b ∧ c.2 ≠ b) then
      ((ch.invalidate i b w r).raise EV_FLW_RELEASE_FIXUP (some i)).expire i r 4
    else ch.putRec i b w (recParity r)) ch

/-- Check what the host left in an entity bucket (R94). -/
def Chan.fixEntity (ch : Chan) (i k b : Nat) : Chan :=
  (List.range 8).foldl (fun (ch : Chan) w =>
    let a := ch.entityAddr i k b + 64 * w
    let e := ch.bytes 1 i a 64
    let c := ch.entityBuckets i k (slice e 0 32)
    if !(le e 34 1).testBit 0 then ch
    else if le e 33 1 ≠ ch.tid i ∨ le e 32 1 ≠ ch.fld (R.FTR_LOOKUP (4 * i + k)) F.FTR_LOOKUP_key_len + 1 ∨
        (c.1 ≠ b ∧ c.2 ≠ b) then
      (ch.store 1 i a (entParity (putBytes e 34 [byte (putBit (le e 34 1) 0 false)]))).raise EV_FLW_RELEASE_FIXUP (some i)
    else ch.store 1 i a (entParity e)) ch

/-- Replay parked lookups that no lock and no earlier parked lookup holds back, in the order of parking; one whose 4,200 cc ended
before leaves as LOCK_TIMEOUT (R93). -/
def Chan.replay : Nat → Chan → Chan
  | 0, ch => ch
  | n + 1, ch =>
    let idx := (List.range ch.flow.parked.length).find? fun k => match ch.flow.parked[k]? with
      | some l => !ch.flowLocked l.tenant l.b1 && !ch.flowLocked l.tenant l.b2 && !(ch.flow.parked.take k).any (·.meets l)
      | none => false
    match idx with
    | none => ch
    | some k =>
      match ch.flow.parked[k]? with
      | none => ch
      | some l =>
        let ch := { ch with flow := { ch.flow with parked := dropAt ch.flow.parked k } }.lockStatus
        let ch := ch.modJob l.job fun j => { j with stage := .flowWait }
        Chan.replay n (if (ch.sinceC l.at_ 4200 && coreAt ch.core l.at_ + coreCycles 4200 != ch.coreNow) then ch.lookupMiss l.job 3 else ch.cacheRead l)

/-- End a lock whose release is due. -/
def Chan.endLock (ch : Chan) (l : Lock) : Chan :=
  let ch := if l.noCheck then ch
    else if l.table = 0 then ch.fixBucket l.tenant (ch.regionBase l.tenant + l.bucket)
    else ch.fixEntity l.tenant (l.table - 1) l.bucket
  let ch := { ch with flow := { ch.flow with locks := ch.flow.locks.filter (· ≠ l) } }
  let ch := if l.forced then ch.lockStatus
    else (ch.setFlag R.FLW_LOCK_REL F.FLW_LOCK_REL_start false).lockResult l.holder 0
  Chan.replay 64 ch

/-- FLW_RELEASE_COMPLETE (R94, R373): the first release whose checks have had their 336 cc, its holder's started writes of the
bucket having completed. -/
def Chan.releaseComplete (ch : Chan) : Chan :=
  let due (l : Lock) : Bool := match l.release with
    | some t => !ch.lockBusy l && (l.noCheck || ch.sinceC t 336)
    | none => false
  match ch.flow.locks.find? due with
  | some l => ch.endLock l
  | none => ch

/-- LOCK_MAX_HOLD_EXPIRE (R94): the oldest lock held beyond max_hold is released. -/
def Chan.lockMaxHold (ch : Chan) : Chan :=
  let us := min 1000 (max 1 (ch.fld R.FLW_LOCK_CTRL F.FLW_LOCK_CTRL_max_hold))
  match ch.flow.locks.find? fun l => l.release.isNone && ch.since l.at_ (us * usG) with
  | some l => (ch.modLock l fun k => { k with release := some ch.now, forced := true }).raise EV_FLW_LOCK_EXPIRED (some l.tenant)
  | none => ch

/-- LOCK_TIMEOUT (R93): the oldest lookup parked 4,200 cc leaves as LOCK_TIMEOUT. -/
def Chan.lockTimeout (ch : Chan) : Chan :=
  match ch.flow.parked.find? fun l => ch.sinceC l.at_ 4200 with
  | some l =>
    let ch := { ch with flow := { ch.flow with parked := ch.flow.parked.filter fun k => k.job ≠ l.job } }.lockStatus
    let ch := ch.modJob l.job fun j => { j with stage := .flowWait }
    Chan.replay 64 (ch.lookupMiss l.job 3)
  | none => ch

/-! ## Regions (R77, R79, R97) -/

/-- Two ranges of numbers meet. -/
def rangesMeet (a n b m : Nat) : Bool := decide (a < b + m ∧ b < a + n)

def Chan.setBase (ch : Chan) (i : Nat) : Nat := ch.fld (R.FLW_REGION_B i) F.FLW_REGION_B_cache_set_base
def Chan.setCount (ch : Chan) (i : Nat) : Nat := 2 ^ ch.fld (R.FLW_REGION_B i) F.FLW_REGION_B_log2_sets

/-- Tenants other than `i` that have a region. -/
def Chan.otherRegions (ch : Chan) (i : Nat) : List Nat := (List.range 16).filter fun j => j != i && ch.hasRegion j

/-- The region of 2^b buckets at `base` may be added for tenant `i` (R77, R79). -/
def Chan.regionOk (ch : Chan) (i base b : Nat) : Bool :=
  let others := ch.otherRegions i
  decide (12 ≤ b ∧ b ≤ 26) && base % 2 ^ b == 0 && decide (base + 2 ^ b ≤ 2 ^ 26) &&
  (others.all fun j => !rangesMeet base (2 ^ b) (ch.regionBase j) (2 ^ ch.regionBits j)) &&
  decide (((others.map fun j => 2 ^ ch.regionBits j).foldl (· + ·) 0) + 2 ^ b ≤ 2 ^ 26) &&
  (others.all fun j => !rangesMeet (ch.setBase i) (ch.setCount i) (ch.setBase j) (ch.setCount j))

/-- FLW_REGION_REMOVE (R97): log2_buckets 0 is accepted at any time. -/
def Chan.regionRemove (ch : Chan) (i : Nat) : Chan :=
  if 16 ≤ i ∨ ch.hasRegion i = false then ch
  else
    let mine := ch.flow.locks.filter fun l => l.tenant == i && l.table == 0
    let wait := mine.filter fun l => ch.lockBusy l
    let waiting := (ch.flow.parked.filter fun l => l.tenant == i) ++ ch.flow.miss.filter fun l => l.tenant == i
    let lo := ch.regionBase i
    let hi := lo + 2 ^ ch.regionBits i
    let ch := ch.setFld (R.FLW_REGION_A i) F.FLW_REGION_A_log2_buckets 0
    let keep := (ch.flow.locks.filter fun l => !(l.tenant == i && l.table == 0)) ++
      wait.map fun l => { l with release := some ch.now, noCheck := true, forced := l.forced || l.release.isNone }
    let ended := (mine.filter fun l => !ch.lockBusy l).any fun l => l.release.isSome && !l.forced
    let fl := { ch.flow with
      cache := ch.flow.cache.filter fun x => match x.2 with | some l => l.tenant != i | none => true
      fills := ch.flow.fills.filter fun b => !(decide (lo ≤ b) && decide (b < hi))
      miss := ch.flow.miss.filter fun l => l.tenant != i
      parked := ch.flow.parked.filter fun l => l.tenant != i
      pending := ch.flow.pending.filter fun p => p.2.1 != i
      promote := ch.flow.promote.map fun p => if p.1 = i then (16, p.2) else p
      maint := ch.flow.maint.filter fun m => match m.1 with | .invalidate _ _ _ t _ => t != i
      locks := keep }
    let ch := { ch with flow := fl }.lockStatus
    let ch := if ended then ch.setFlag R.FLW_LOCK_REL F.FLW_LOCK_REL_start false else ch
    waiting.foldl (fun (ch : Chan) l => ch.lookupMiss l.job 5) ch

/-- A write of FLW_REGION_A_i (R77, R97): one that sets log2_buckets to 0 leaves the other fields as they stand. -/
def Chan.regionAWrite (ch : Chan) (i : Nat) (v : Word) : Chan :=
  let b := getF v F.FLW_REGION_A_log2_buckets
  let base := getF v F.FLW_REGION_A_base_bucket
  if 16 ≤ i then ch
  else if b = 0 then if ch.hasRegion i then ch.regionRemove i else ch
  else if ch.hasRegion i ∨ ch.safeServe = true then ch
  else if ch.regionOk i base b then
    (ch.setFld (R.FLW_REGION_A i) F.FLW_REGION_A_base_bucket base).setFld (R.FLW_REGION_A i) F.FLW_REGION_A_log2_buckets b
  else ch.raise EV_FLW_REGION_REJECT (some i)

/-- FLW_REGION_B_i with these locked fields may stand (R79, R330, Table 03.14). -/
def Chan.regionBOk (ch : Chan) (i : Nat) (v : Word) : Bool :=
  let s := getF v F.FLW_REGION_B_log2_sets
  let base := getF v F.FLW_REGION_B_cache_set_base
  let c := getF v F.FLW_REGION_B_log2_cold
  decide (s ≤ 12) && base % 2 ^ s == 0 && decide (base + 2 ^ s ≤ 4096) &&
  ((ch.otherRegions i).all fun j => !rangesMeet base (2 ^ s) (ch.setBase j) (ch.setCount j)) &&
  (getF v F.FLW_REGION_B_cold_enable == 0 || (decide (12 ≤ c ∧ c ≤ 26) &&
    ch.inRegion 2 i (2097152 * getF v F.FLW_REGION_B_t2_base) (512 * 2 ^ c)))

/-- A write of FLW_REGION_B_i (R79, R90, R97). -/
def Chan.regionBWrite (ch : Chan) (i : Nat) (v : Word) : Chan :=
  let r := R.FLW_REGION_B i
  if 16 ≤ i then ch
  else
    let old := ch.agePeriod i
    if ch.hasRegion i || ch.safeServe then
      (ch.wr r (mergeF (ch.rd r) v [F.FLW_REGION_B_age_period, F.FLW_REGION_B_learn_to])).ageWritten i old
    else if ch.regionBOk i v then (ch.wr r v).ageWritten i old
    else ch.raise EV_FLW_REGION_REJECT (some i)

/-- FLW_REGION_WRITE (R77): `part` 0 FLW_REGION_A_i, 1 FLW_REGION_B_i. -/
def Chan.regionWrite (ch : Chan) (i part : Nat) (v : Word) : Chan :=
  if part = 0 then ch.regionAWrite i v else ch.regionBWrite i v

/-! ## Ring indices (R449, R450) -/

/-- Who writes a register of the mailbox: the firmware, or a host function instance. -/
inductive Writer where
  | firmware
  | host (inst : Nat)
  deriving DecidableEq, Repr

/-- LDS_NOTE_CONS_WRITE (R449). -/
def Chan.noteConsWrite (ch : Chan) (w : Writer) (i : Nat) (v : Word) : Chan :=
  let r := R.LDS_NOTE_IDX i
  let ok : Bool := match w with
    | .firmware => ch.learnTo i == 1
    | .host inst => ch.learnTo i == 2 && (inst == 0 || inst == i + 1)
  let cons := getF v F.LDS_NOTE_IDX_cons
  if 16 ≤ i ∨ ok = false then ch
  else if 1024 < (ch.fld r F.LDS_NOTE_IDX_prod + 2048 - cons) % 2048 then ch.raise EV_CHN_CFG_REJECT (some i)
  else ch.setFld r F.LDS_NOTE_IDX_cons cons

/-- LDS_INS_PROD_WRITE (R450): ring `k`, 0 to 16. -/
def Chan.insProdWrite (ch : Chan) (k : Nat) (v : Word) : Chan :=
  let r := R.LDS_INS_IDX k
  let prod := getF v F.LDS_INS_IDX_prod
  let n := (prod + 512 - ch.insCons k) % 512
  if 17 ≤ k then ch
  else if 256 < n ∨ n < ch.insCount k then ch.raise EV_CHN_CFG_REJECT (if k < 16 then some k else none)
  else ch.setFld r F.LDS_INS_IDX_prod prod

end Sys2Proof.Machine
end

