-- ==== Sys2Proof/Machine/Dma.lean ====
section
/-!
DEFINITION. Machine/Dma.lean: host DMA (R370 to R373), tenants and function resets (R363, R364, R377), and the host rings'
vectors (R376).
-/

namespace Sys2Proof.Machine

open Sys2Proof

/-! ## Queues (R370, R371) -/

/-- Key of a queue of a function instance. -/
def qKey (inst q : Nat) : Nat := 4 * inst + q

/-- Statuses of Table 14.3. -/
def dmaDone : Nat := 1
def dmaRefused : Nat := 2
def dmaBad : Nat := 3
def dmaHostError : Nat := 4
def dmaTierError : Nat := 5
def dmaFlushed : Nat := 6

def Chan.hqBits (ch : Chan) (inst q : Nat) : Nat := ch.fld (bank inst (R.CHN_HQ_BASE q)) F.CHN_HQ_BASE_log2_size
def Chan.hqProd (ch : Chan) (inst q : Nat) : Nat := ch.fld (bank inst (R.CHN_HQ_PROD q)) F.CHN_HQ_PROD_prod
def Chan.hqCons (ch : Chan) (inst q : Nat) : Nat := ch.fld (bank inst (R.CHN_HQ_CONS q)) F.CHN_HQ_CONS_cons
/-- Ring index of the next command to start. -/
def Chan.hqNext (ch : Chan) (inst q : Nat) : Nat := sget (fun _ => 0) ch.host.dmaNext (qKey inst q)
/-- The function instance owns the queue: four for the physical function, one for a VF (R370). -/
def hqExists (inst q : Nat) : Bool := decide (q < 4 ∧ (inst = 0 ∨ q = 0))

/-- Commands of a queue in flight. -/
def Chan.hqLive (ch : Chan) (inst q : Nat) : List DmaRun := ch.host.dma.filter fun d => d.inst == inst && d.q == q && d.live

/-- Show the commands in flight (Table 14.12). -/
def Chan.hqFlight (ch : Chan) (inst q : Nat) : Chan :=
  ch.setFld (bank inst (R.CHN_HQ_CONS q)) F.CHN_HQ_CONS_in_flight (ch.hqLive inst q).length

/-- Advance cons past every entry whose status has been written (R371). -/
def Chan.hqAdvance (inst q : Nat) : Nat → Chan → Chan
  | 0, ch => ch
  | n + 1, ch =>
    let x := (qKey inst q, ch.hqCons inst q)
    if ch.host.dmaDone.contains x then
      let ch := ch.setFld (bank inst (R.CHN_HQ_CONS q)) F.CHN_HQ_CONS_cons (x.2 + 1)
      Chan.hqAdvance inst q n { ch with host := { ch.host with dmaDone := ch.host.dmaDone.filter (· ≠ x) } }
    else ch

/-- Vector of a queue (Table 14.6). -/
def hqVector (inst q : Nat) : Nat := if inst = 0 then 2 + q else 1

/-- Write a command's status into its entry; cons advances, and the queue's vector is sent when the command asks for it. -/
def Chan.dmaStatus (ch : Chan) (inst q index status : Nat) (irq : Bool) : Chan :=
  let k := ch.hqBits inst q
  let ch : Chan := { ch with ev := ch.ev.send (.dmaStatus inst q (index % 2 ^ k) status) }
  let ch : Chan := { ch with host := { ch.host with dmaDone := (qKey inst q, index) :: ch.host.dmaDone } }
  let ch := (ch.hqAdvance inst q 65536).hqFlight inst q
  if irq then ch.vector inst (hqVector inst q) 0 else ch

/-- DMA_DOORBELL (R370): an advance of CHN_HQ_PROD_q by function instance `inst`. -/
def Chan.dmaDoorbell (ch : Chan) (inst q : Nat) (v : Word) : Chan :=
  if hqExists inst q && ch.fnLive inst then
    ch.setFld (bank inst (R.CHN_HQ_PROD q)) F.CHN_HQ_PROD_prod (getF v F.CHN_HQ_PROD_prod)
  else ch

/-! ## Starting a command (R371, R372) -/

/-- A 32-byte entry (Table 14.3). -/
def dmaOf (b : List Byte) : DmaCmd :=
  { op := le b 0 1, flags := le b 1 1, tier := le b 2 1, len := le b 4 4, host := le b 8 8, dev := le b 16 8, tag := le b 24 8 }

def DmaCmd.irq (d : DmaCmd) : Bool := d.flags.testBit 0
def DmaCmd.fence (d : DmaCmd) : Bool := d.flags.testBit 1

/-- The entry completes BAD_COMMAND (Table 14.3). A NOP moves nothing and is DONE whatever its other fields hold (log 63). -/
def DmaCmd.bad (d : DmaCmd) : Bool :=
  decide (2 < d.op) || (d.op != 0 && decide (3 < d.tier ∨ d.len < 64 ∨ 16777216 < d.len ∨ d.len % 64 ≠ 0 ∨
    d.host % 64 ≠ 0 ∨ d.dev % 64 ≠ 0))

/-- Buckets of flow tables and exact entity tables that a T1 range meets: local tenant, table and bucket. -/
def Chan.bucketsIn (ch : Chan) (a n : Nat) : List (Nat × Nat × Nat) :=
  let span (base size : Nat) : List Nat :=
    (List.range ((n + 511) / 512 + 1)).filterMap fun j =>
      let x := a / 512 * 512 + 512 * j
      if base ≤ x ∧ x < base + 512 * size ∧ x < a + n then some ((x - base) / 512) else none
  (List.range 16).flatMap fun i =>
    (if ch.hasRegion i then (span (flowAddr (ch.regionBase i)) (2 ^ ch.regionBits i)).map fun b => (i, 0, b) else []) ++
    (List.range 4).flatMap fun k =>
      if ch.lookupKind i k = 1 then
        (span (ch.entityAddr i k 0) (2 ^ ch.fld (R.FTR_LOOKUP (4 * i + k)) F.FTR_LOOKUP_log2_buckets)).map fun b => (i, k + 1, b)
      else []

/-- Every table bucket that the range meets is locked by the function, with no release asked (R372, R373). -/
def Chan.dmaLocked (ch : Chan) (inst a n : Nat) : Bool :=
  (ch.bucketsIn a n).all fun (x : Nat × Nat × Nat) => ch.flow.locks.any fun l =>
    l.tenant == x.1 && l.table == x.2.1 && l.bucket == x.2.2 && l.holder == inst && l.release.isNone

/-- Take the next index of a queue. -/
def Chan.hqTake (ch : Chan) (inst q : Nat) : Chan :=
  { ch with host := { ch.host with
    dmaNext := sset (fun _ => 0) ch.host.dmaNext (qKey inst q) ((ch.hqNext inst q + 1) % 65536) } }

/-- Tenant an event of a function instance concerns. -/
def instTenant (inst : Nat) : Option Nat := if inst = 0 then none else some (inst - 1)

/-- A range meets the trace region, once tracing has been set up, or the dump area, once one is in use (R429). -/
def Chan.observes (ch : Chan) (tier a n : Nat) : Bool :=
  let b := ch.rd R.OBS_TRACE_BASE
  let d := ch.fld R.OBS_DUMP_BASE F.OBS_DUMP_BASE_base
  (tier == 1 && (b != regReset ch.idx R.OBS_TRACE_BASE || ch.flag R.OBS_TRACE_CTRL F.OBS_TRACE_CTRL_enable) &&
    rangesMeet a n (getF b F.OBS_TRACE_BASE_base) (2 ^ getF b F.OBS_TRACE_BASE_log2_size)) ||
  (tier == 0 && (d != 0 || ch.flag R.OBS_DUMP_STATUS F.OBS_DUMP_STATUS_valid) && rangesMeet a n d 0xE3000)

/-- Local tenant whose region entries a Tier Mover transfer of a command must lie in, and the checks of R372: may it start,
and the channel with its refusal counted and reported. -/
def Chan.dmaAllowed (ch : Chan) (inst : Nat) (d : DmaCmd) (priv : Bool) : Bool × Chan :=
  let t := instTenant inst
  if ch.fnLive inst = false then (false, ch.raise EV_CHN_DMA_REFUSED t)
  else if d.op = 0 then (true, ch)
  else if ch.moverAllows d.tier (ownerOf inst) d.dev d.len = false then
    (false, (ch.count R.MEM_CNT_REFUSED EV_MEM_ACCESS_REFUSED t).raise EV_CHN_DMA_REFUSED t)
  else if d.op = 1 ∧ d.tier = 1 ∧ ch.dmaLocked inst d.dev d.len = false then (false, ch.raise EV_CHN_DMA_REFUSED t)
  else if inst = 0 ∧ priv = false ∧ d.op = 2 ∧ ch.observes d.tier d.dev d.len = true then (false, ch)
  else (true, ch)

/-- A command of the queue may start now: the queue is on, an entry waits, fewer than 8 are in flight, a fenced command has
every earlier one completed, the function is not in D3hot, and no dump has stopped the Tier Mover (R361, R371, R440). -/
def Chan.dmaMayStart (ch : Chan) (inst q : Nat) (d : DmaCmd) : Bool :=
  hqExists inst q && ch.hqBits inst q != 0 && ch.hqNext inst q != ch.hqProd inst q &&
  decide ((ch.hqLive inst q).length < 8) && (!d.fence || ch.hqCons inst q == ch.hqNext inst q) && !ch.host.d3hot.contains inst &&
  ch.obs.dump.isNone

/-- DMA_COMMAND_START (R371, R372, R429): the next entry of a queue, as read from host memory, starts, or completes REFUSED or
BAD_COMMAND; `priv`: the channel's bit of HIF_PF_PRIV. -/
def Chan.dmaStart (ch : Chan) (inst q : Nat) (entry : List Byte) (priv : Bool) : Chan :=
  let d := dmaOf entry
  if ch.dmaMayStart inst q d then
    let index := ch.hqNext inst q
    let ch := ch.hqTake inst q
    if d.bad then ch.dmaStatus inst q index dmaBad d.irq
    else
      let (ok, ch) := ch.dmaAllowed inst d priv
      if ok then
        let run : DmaRun := { inst := inst, q := q, index := index, cmd := d, at_ := ch.now }
        { ch with host := { ch.host with dma := ch.host.dma ++ [run] } }.hqFlight inst q
      else ch.dmaStatus inst q index dmaRefused d.irq
  else ch

/-! ## Completing a command -/

/-- Clear the region entries whose clearing waited for started commands that have all completed (R373); a T1 or scratchpad
entry of a tenant is zero-filled (R333). -/
def Chan.clearEntry (ch : Chan) (i : Nat) : Chan :=
  let r := ch.region i
  let ch := ch.setFlag (R.MEM_REGION_A i) F.MEM_REGION_A_valid false
  let ch : Chan := { ch with mem := { ch.mem with clearing := ch.mem.clearing.filter (· ≠ i) } }
  if r.tier < 2 ∧ r.owner < 16 then
    let f : Fill := { entry := i, tier := r.tier, base := r.base, len := r.len }
    { ch with mem := { ch.mem with fills := ch.mem.fills ++ [f] } }.setFlag (R.MEM_REGION_A i) F.MEM_REGION_A_filling true
  else ch

/-- A started command moves data of a region entry. -/
def Chan.entryBusy (ch : Chan) (i : Nat) : Bool :=
  let r := ch.region i
  ch.host.dma.any fun d => d.cmd.op != 0 && d.cmd.tier == r.tier && rangesMeet d.cmd.dev d.cmd.len r.base r.len

def Chan.settleClears (ch : Chan) : Chan :=
  (ch.mem.clearing.filter fun i => !ch.entryBusy i).foldl (fun (ch : Chan) i => ch.clearEntry i) ch

/-- End a command in flight with its status: its holder's releases of the buckets it wrote begin their checks (R373), and
clearings that waited for it take place. -/
def Chan.dmaEnd (ch : Chan) (r : DmaRun) (status : Nat) : Chan :=
  let mine := ch.flow.locks.filter fun l => l.release.isSome && l.holder == r.inst && r.cmd.op == 1 && r.cmd.tier == 1 &&
    rangesMeet r.cmd.dev r.cmd.len (ch.lockAddr l) 512
  let ch : Chan := { ch with host := { ch.host with dma := ch.host.dma.filter (· ≠ r) } }
  let ch := if r.live then ch.dmaStatus r.inst r.q r.index status r.cmd.irq
    else { ch with ev := ch.ev.send (.dmaStatus r.inst r.q r.index status) }
  let ch := mine.foldl (fun (ch : Chan) l => ch.modLock l fun k => { k with release := some ch.now }) ch
  ch.settleClears

/-- The command of a queue in flight with a ring index. -/
def Chan.dmaFind (ch : Chan) (inst q index : Nat) : Option DmaRun :=
  ch.host.dma.find? fun d => d.inst == inst && d.q == q && d.index == index

/-- The commands in flight with a ring index and what its tier or the host answers: the data moves and its status is written
(R371, R372); `data`: what the host returned to a TO_DEVICE command, zero beyond it (log 63). -/
def Chan.dmaComplete (ch : Chan) (inst q index : Nat) (data : List Byte) (e : DmaEnd) : Chan :=
  match ch.dmaFind inst q index with
  | none => ch
  | some r =>
    let d := r.cmd
    let owner := ownerOf inst
    match e with
    | .hostError => ch.dmaEnd r (if d.op = 0 then dmaDone else dmaHostError)
    | .tierError => if d.op = 0 then ch.dmaEnd r dmaDone else (ch.uncorrectable d.tier d.dev).dmaEnd r dmaTierError
    | .done =>
      if d.op = 0 then ch.dmaEnd r dmaDone
      else if ch.tierServes d.tier = false then (ch.uncorrectable d.tier d.dev).dmaEnd r dmaTierError
      else if d.op = 1 then (ch.store d.tier owner d.dev (slice data 0 d.len)).dmaEnd r dmaDone
      else
        let (bs, ch) := ch.load d.tier owner d.dev d.len
        { ch with ev := ch.ev.send (.data d.host bs) }.dmaEnd r dmaDone

/-- DMA_HOST_TIMEOUT (R372): a host read unanswered for 10 ms. -/
def Chan.dmaTimeout (ch : Chan) (inst q index : Nat) : Chan :=
  match ch.dmaFind inst q index with
  | some r => if r.cmd.op = 1 ∧ ch.since r.at_ (10 * msG) = true then ch.dmaEnd r dmaHostError else ch
  | none => ch

/-! ## Function resets (R363, R377) -/

/-- Complete the unstarted commands of a queue with a status (R373, R377). -/
def Chan.hqFlush (inst q status : Nat) : Nat → Chan → Chan
  | 0, ch => ch
  | n + 1, ch =>
    let i := ch.hqNext inst q
    if ch.hqBits inst q = 0 ∨ i = ch.hqProd inst q then ch
    else Chan.hqFlush inst q status n ((ch.hqTake inst q).dmaStatus inst q i status false)

/-- Reset the banked instance of a function: its registers, queues and rings (R367, R377). -/
def Chan.bankReset (ch : Chan) (inst : Nat) : Chan :=
  let h := { ch.host with
    dma := ch.host.dma.map fun (d : DmaRun) => if d.inst = inst then { d with live := false } else d
    dmaNext := ch.host.dmaNext.filter fun x => x.1 / 4 != inst
    dmaDone := ch.host.dmaDone.filter fun x => x.1 / 4 != inst
    d3hot := ch.host.d3hot.filter (· ≠ inst) }
  let e := { ch.ev with
    phase := ch.ev.phase.filter fun x => x.1 != inst
    vecAt := ch.ev.vecAt.filter fun x => x.1 / 64 != inst
    vecDue := ch.ev.vecDue.filter fun k => k / 64 != inst }
  let banked (off : Nat) : Bool :=
    (decide (R.CHN_HQ_BASE 0 ≤ off) && decide (off < 0x3300)) || off == R.MEM_SPAD_APERTURE ||
    off == R.PRS_IND_SEL || (List.range 12).any (fun i => off == R.PRS_IND_DATA i) ||
    off == R.VPE_IND_SEL || (List.range 12).any (fun i => off == R.VPE_IND_DATA i) ||
    (decide (R.LDS_ATT_REQ ≤ off) && decide (off < R.LDS_ATT_REMAINING)) ||
    (decide (R.OBS_METEOR_SEL ≤ off) && decide (off ≤ R.OBS_METEOR_DATA 3))
  { ch with host := h, ev := e, boot := { ch.boot with requests := ch.boot.requests.filter (· ≠ inst) }
            regs := ch.regs.filter fun x => !(x.1 / 4294967296 == inst && banked (x.1 % 4294967296)) }

/-- A Function Level Reset of VF `i` (R377). -/
def Chan.flrVf (ch : Chan) (i : Nat) : Chan :=
  let ch := ch.hqFlush (i + 1) 0 dmaFlushed 65536
  let ls := ch.flow.locks.map fun (l : Lock) => if l.holder = i + 1 ∧ l.release = none then
      { l with release := some ch.now, forced := true } else l
  let ch : Chan := { ch with flow := { ch.flow with locks := ls } }
  ch.bankReset (i + 1)

/-- VF_ENABLE_CHANGE (R363): a write of VF Enable and NumVFs; VFs that no longer answer are reset. -/
def Chan.vfEnable (ch : Chan) (enable : Bool) (n : Nat) : Chan :=
  let gone := (List.range 16).filter fun i =>
    ch.host.vfEnable && decide (i < ch.host.numVFs) && !(enable && decide (i < n))
  let ch := gone.foldl (fun (ch : Chan) i => ch.flrVf i) ch
  { ch with host := { ch.host with vfEnable := enable, numVFs := min 16 n } }

/-- A Function Level Reset of the channel's physical function (R377). -/
def Chan.flrPf (ch : Chan) : Chan :=
  let ch := (List.range 16).foldl (fun (ch : Chan) i => ch.flrVf i) ch
  let ch := ch.bankReset 0
  { ch with host := { ch.host with vfEnable := false, numVFs := 0 } }

/-- What a reset of the host port does to a channel (Table 14.7): every banked instance, and commands in flight end without
status. -/
def Chan.portReset (ch : Chan) : Chan :=
  let ls := ch.flow.locks.map fun (l : Lock) =>
    if l.release.isSome && ch.lockBusy l then { l with release := some ch.now } else l
  let ch := (List.range 17).foldl (fun (ch : Chan) i => ch.bankReset i) ch
  let ch : Chan := { ch with host := { ch.host with dma := [], vfEnable := false, numVFs := 0 } }
  { ch with flow := { ch.flow with locks := ls } }.settleClears

/-! ## Tenants (R364) -/

/-- TENANT_CREATE (R364, R427): a write of CHN_TENANT_i by the physical function; refused in Safe Serve (Table 16.7). -/
def Chan.tenantCreate (ch : Chan) (i : Nat) (v : Word) : Chan :=
  let r := R.CHN_TENANT i
  let cls := getF v F.CHN_TENANT_class
  if 16 ≤ i then ch
  else if getF v F.CHN_TENANT_create = 1 then
    if ch.tenantExists i || (ch.mem.erase.any fun e => e.1 == i) || ch.safeServe then ch.raise EV_CHN_TENANT_REJECT
    else
      let ch := (ch.setFld r F.CHN_TENANT_class cls).setFlag r F.CHN_TENANT_exists true
      let p := R.PDP_FAIL_POLICY
      let ch := ch.setFld p F.PDP_FAIL_POLICY_tenant_present (putBit (ch.fld p F.PDP_FAIL_POLICY_tenant_present) i true)
      let ch := (List.range 6).foldl (fun (ch : Chan) k => ch.wr (R.OBS_TCNT i k) 0) ch
      ch.drawKey i
  else if ch.tenantExists i then ch
  else ch.setFld r F.CHN_TENANT_class cls

/-! ## Vectors (R376) -/

/-- Holdoff in µs of the ring a vector of a function instance belongs to (Table 14.6). -/
def Chan.holdoff (ch : Chan) (inst vec : Nat) : Nat :=
  if inst = 0 then (if vec < 2 then ch.fld R.CHN_EVQ_CTRL F.CHN_EVQ_CTRL_holdoff else 0)
  else if vec = 0 then ch.fld (bank inst R.CHN_EVQ_CTRL) F.CHN_EVQ_CTRL_holdoff
  else if vec = 4 ∨ vec = 5 then ch.fld (bank inst (R.CHN_HRING_IDX (vec - 4))) F.CHN_HRING_IDX_holdoff
  else 0

/-- MSIX_HOLDOFF_EXPIRE (R376): a vector withheld by its ring's holdoff is sent once that has ended. -/
def Chan.holdoffExpire (ch : Chan) (inst vec : Nat) : Chan :=
  let k := vecKey inst vec
  if ch.ev.vecDue.contains k then
    match sget (fun _ => none) ch.ev.vecAt k with
    | some t =>
      if ch.since t (ch.holdoff inst vec * usG) then
        { ch with ev := { ch.ev with vecDue := ch.ev.vecDue.filter (· ≠ k) } }.vector inst vec 0
      else ch
    | none => { ch with ev := { ch.ev with vecDue := ch.ev.vecDue.filter (· ≠ k) } }.vector inst vec 0
  else ch

/-- D3HOT (R361): a function instance moves into or out of D3hot. -/
def Chan.setD3hot (ch : Chan) (inst : Nat) (on : Bool) : Chan :=
  let d := ch.host.d3hot.filter (· ≠ inst)
  { ch with host := { ch.host with d3hot := if on then inst :: d else d } }

end Sys2Proof.Machine
end

