-- ==== Sys2Proof/Machine/Sign.lean ====
section
/-!
DEFINITION. Machine/Sign.lean: verification of signature blocks (R385, R386): ECDSA over P-384 (FIPS 186-5) and HSS/LMS
(RFC 8554 with the SHA-256 parameter sets of NIST SP 800-208).
-/

namespace Sys2Proof.Machine

open Sys2Proof

/-! ## ECDSA P-384 -/

/-- The prime of P-384. -/
def p384P : Nat := 2 ^ 384 - 2 ^ 128 - 2 ^ 96 + 2 ^ 32 - 1
/-- The order of its base point. -/
def p384N : Nat :=
  0xffffffffffffffffffffffffffffffffffffffffffffffffc7634d81f4372ddf581a0db248b0a77aecec196accc52973
def p384B : Nat :=
  0xb3312fa7e23ee7e4988e056be3f82d19181d9c6efe8141120314088f5013875ac656398d8a2ed19d2a85c8edd3ec2aef
def p384Gx : Nat :=
  0xaa87ca22be8b05378eb1c71ef320ad746e1d3b628ba79b9859f741e082542a385502f25dbf55296c3a545e3872760ab7
def p384Gy : Nat :=
  0x3617de4a96262c6f5d9e98bf9292dc29f8f41dbd289a147ce9da3113b5f0b8c00a60b1ce1d7e819d7a431d7c90ea0e5f

/-- b^e mod m, the low `k` bits of e. -/
def powMod (m : Nat) : Nat → Nat → Nat → Nat
  | 0, _, _ => 1 % m
  | k + 1, b, e => let r := powMod m k (b * b % m) (e / 2); if e % 2 = 1 then b * r % m else r

/-- Inverse modulo a prime. -/
def invMod (m a : Nat) : Nat := powMod m 384 (a % m) (m - 2)

/-- Sum of two affine points of P-384; none is the point at infinity. -/
def ecAdd : Option (Nat × Nat) → Option (Nat × Nat) → Option (Nat × Nat)
  | none, q => q
  | p, none => p
  | some (x1, y1), some (x2, y2) =>
    let p := p384P
    if x1 = x2 ∧ (y1 + y2) % p = 0 then none
    else
      let l := if x1 = x2 then (3 * x1 * x1 + (p - 3)) * invMod p (2 * y1) % p
        else (y2 + (p - y1)) * invMod p (x2 + (p - x1)) % p
      let x3 := (l * l + (p - x1) + (p - x2)) % p
      some (x3, (l * (x1 + (p - x3)) + (p - y1)) % p)

/-- k × P over the low `n` bits of k. -/
def ecMul : Nat → Nat → Option (Nat × Nat) → Option (Nat × Nat)
  | 0, _, _ => none
  | n + 1, k, q => let r := ecMul n (k / 2) (ecAdd q q); if k % 2 = 1 then ecAdd q r else r

/-- ECDSA verification of the 48-byte hash `m` under key X ‖ Y and signature r ‖ s. -/
def ecdsaVerify (key sig m : List Byte) : Bool :=
  let x := be key 0 48
  let y := be key 48 48
  let r := be sig 0 48
  let s := be sig 48 48
  let p := p384P
  let n := p384N
  decide (x < p ∧ y < p ∧ (y * y) % p = (x * x * x + (p - 3) * x + p384B) % p ∧ 0 < r ∧ r < n ∧ 0 < s ∧ s < n) &&
  (let w := invMod n s
   let q := ecAdd (ecMul 384 (beNat m * w % n) (some (p384Gx, p384Gy))) (ecMul 384 (r * w % n) (some (x, y)))
   match q with
   | none => false
   | some (qx, _) => qx % n == r)

/-! ## LMS and HSS (RFC 8554) -/

/-- Parameters of an LM-OTS type with SHA-256 and 32 bytes: type, Winternitz w, chains p, left shift. -/
def lmotsParams : Nat → Option (Nat × Nat × Nat)
  | 1 => some (1, 265, 7)
  | 2 => some (2, 133, 6)
  | 3 => some (4, 67, 4)
  | 4 => some (8, 34, 0)
  | _ => none

/-- Height of an LMS type LMS_SHA256_M32_H5 to H25. -/
def lmsHeight : Nat → Option Nat
  | 5 => some 5 | 6 => some 10 | 7 => some 15 | 8 => some 20 | 9 => some 25
  | _ => none

/-- Digit i of width w of a byte string (coef of RFC 8554). -/
def coef (bs : List Byte) (i w : Nat) : Nat :=
  (byteAt bs (i * w / 8)).toNat / 2 ^ (8 - (w * (i % (8 / w)) + w)) % 2 ^ w

/-- Q with its checksum. -/
def lmotsQ (q : List Byte) (w ls : Nat) : List Byte :=
  let s := ((List.range (256 / w)).map fun i => 2 ^ w - 1 - coef q i w).foldl (· + ·) 0
  q ++ beBytes 2 (s * 2 ^ ls)

/-- Chain from step a for n steps. -/
def lmotsChain (pre : List Byte) : Nat → Nat → List Byte → List Byte
  | 0, _, t => t
  | n + 1, a, t => lmotsChain pre n (a + 1) (sha256 (pre ++ [byte a] ++ t))

/-- Candidate LM-OTS public key hash of a message under signature `sig` (type, C, y). -/
def lmotsKc (i : List Byte) (q : Nat) (msg sig : List Byte) : Option (List Byte) :=
  match lmotsParams (be sig 0 4) with
  | none => none
  | some (w, p, ls) =>
    let pre := i ++ beBytes 4 q
    let h := sha256 (pre ++ beBytes 2 0x8181 ++ slice sig 4 32 ++ msg)
    let d := lmotsQ h w ls
    let ys := (List.range p).flatMap fun j =>
      let a := coef d j w
      lmotsChain (pre ++ beBytes 2 j) (2 ^ w - 1 - a) a (slice sig (36 + 32 * j) 32)
    some (sha256 (pre ++ beBytes 2 0x8080 ++ ys))

/-- Climb the tree: node number, hash, path. -/
def lmsClimb (i : List Byte) : Nat → Nat → List Byte → List Byte → List Byte
  | 0, _, t, _ => t
  | h + 1, node, t, path =>
    let s := path.take 32
    let t := if node % 2 = 1 then sha256 (i ++ beBytes 4 (node / 2) ++ beBytes 2 0x8383 ++ s ++ t)
      else sha256 (i ++ beBytes 4 (node / 2) ++ beBytes 2 0x8383 ++ t ++ s)
    lmsClimb i h (node / 2) t (path.drop 32)

/-- Bytes of an LMS signature whose first bytes are `sig`, none where a parameter is not supported. -/
def lmsSigLen (sig : List Byte) : Option Nat :=
  match lmotsParams (be sig 4 4) with
  | none => none
  | some (_, p, _) =>
    match lmsHeight (be sig (8 + 32 + 32 * p) 4) with
    | none => none
    | some h => some (8 + 32 + 32 * p + 4 + 32 * h)

/-- LMS verification: public key (type, otstype, I, T1) of 56 bytes. -/
def lmsVerify (pub msg sig : List Byte) : Bool :=
  match lmotsParams (be sig 4 4), lmsHeight (be pub 0 4) with
  | some (_, p, _), some h =>
    let q := be sig 0 4
    let ots := slice sig 4 (36 + 32 * p)
    let i := slice pub 8 16
    be sig 4 4 == be pub 4 4 && be sig (40 + 32 * p) 4 == be pub 0 4 && decide (q < 2 ^ h) &&
    (match lmotsKc i q msg ots with
     | none => false
     | some kc =>
       let leaf := sha256 (i ++ beBytes 4 (2 ^ h + q) ++ beBytes 2 0x8282 ++ kc)
       lmsClimb i h (2 ^ h + q) leaf (sig.drop (44 + 32 * p)) == slice pub 24 32)
  | _, _ => false

/-- HSS levels: `n` signed public keys under `pub`, then the message. -/
def hssLevels (msg : List Byte) : Nat → List Byte → List Byte → Bool
  | 0, pub, sig => (lmsSigLen sig == some sig.length) && lmsVerify pub msg sig
  | n + 1, pub, sig =>
    match lmsSigLen sig with
    | none => false
    | some l =>
      let next := slice sig l 56
      lmsVerify pub next (sig.take l) && hssLevels msg n next (sig.drop (l + 56))

/-- HSS verification: public key L ‖ LMS key (60 bytes), L from 1 to 3 (R386). -/
def hssVerify (pub msg sig : List Byte) : Bool :=
  let l := be pub 0 4
  decide (1 ≤ l ∧ l ≤ 3) && be sig 0 4 == l - 1 && hssLevels msg (l - 1) (pub.drop 4) (sig.drop 4)

/-! ## Signature blocks (R385) -/

/-- Keys of a signature block. -/
def sigEcKey (b : List Byte) : List Byte := slice b 8 96
def sigHssKey (b : List Byte) : List Byte := slice b 200 60

/-- Magic, version and length of the block (Table 15.4). -/
def sigForm (b : List Byte) : Bool :=
  slice b 0 4 == [0x59, 0x5A, 0x53, 0x42] && le b 4 2 == 1 && decide (1 ≤ le b 260 4 ∧ le b 260 4 ≤ 16384)

/-- The ECDSA half of a block over a structure whose SHA-384 is `m`. -/
def sigEcOk (b m : List Byte) : Bool := ecdsaVerify (sigEcKey b) (slice b 104 96) m

/-- The HSS half. -/
def sigHssOk (b m : List Byte) : Bool := hssVerify (sigHssKey b) m (slice b 264 (le b 260 4))

end Sys2Proof.Machine
end

