-- ==== Sys2Proof/Machine/Staging.lean ====
section
/-!
DEFINITION. Machine/Staging.lean: the checks of a model package (R235 to R237, R220 to R230, R111, R116, R117, R130, R149)
and what its steps 9 and 10 allocate and write. The steps are those of Table 08.11.
-/

namespace Sys2Proof.Machine

open Sys2Proof

/-- Why a staging step fails: step, reason, and the engine event it raises beside EV_CHN_STAGE_FAIL. -/
structure StageFault where
  step   : Nat
  reason : Nat
  ev     : Option Ev := none
  deriving DecidableEq, Repr

/-- Package bytes [a, a + n) and image bytes at window offset `a`. -/
def Chan.packBytes (ch : Chan) (st : Staging) (a n : Nat) : List Byte := ch.bytes 1 (ch.slotTenant st.slot) (st.src + a) n
def Chan.imgBytes (ch : Chan) (st : Staging) (a n : Nat) : List Byte := ch.packBytes st (256 + a) n

/-- Sum blocks of a package: bytes between the seal table and the signature block. -/
def headSig (h : List Byte) : Nat := le h 52 4
def headSums (h : List Byte) : Nat := headSig h - (256 + 2064 * le h 16 4)

/-- The side that a package describes, before anything is allocated for it. -/
def Chan.sideOfPackage (ch : Chan) (st : Staging) : Side :=
  let h := ch.packBytes st 0 256
  let t := le h 16 4
  { golden := st.src, bytes := le h 8 8, backTier := st.tier, backAddr := st.back, header := h
    seals := ch.packBytes st (256 + 2048 * t) (16 * t), sums := ch.packBytes st (256 + 2064 * t) (headSums h)
    program := ch.imgBytes st (2048 * le h 40 4) (64 * le h 44 4) }

/-! ## Steps 2 to 6 -/

/-- Step 2: the header. -/
def Chan.stageHeader (ch : Chan) (st : Staging) : Option StageFault :=
  let h := ch.packBytes st 0 256
  let t := le h 16 4
  let n := st.slot
  let kind := ch.slotKind n
  let ok := slice h 0 4 == [0x59, 0x5A, 0x4D, 0x50] && le h 4 2 == 1 && le h 6 1 == kind && le h 7 1 == ch.slotTid n &&
    decide (1 ≤ t ∧ t ≤ 81920 ∧ st.src + le h 8 8 ≤ ch.tierSize 1) &&
    decide (256 + 2064 * t ≤ headSig h ∧ headSums h % 768 = 0 ∧ headSig h + 264 ≤ le h 8 8) &&
    le h 28 4 % 65536 == 0 && decide (le h 38 1 < 64 ∧ 1 ≤ le h 39 1 ∧ le h 39 1 ≤ 31) &&
    decide (1 ≤ le h 44 4 ∧ le h 44 4 ≤ 1024 ∧ 2048 * le h 40 4 + 64 * le h 44 4 ≤ 2048 * t) &&
    decide (le h 48 2 ≤ 256 ∧ le h 50 1 ≤ 32 ∧ le h 51 1 ≤ 1) &&
    (kind != 1 || decide (1 ≤ le h 36 2 ∧ le h 36 2 ≤ 64))
  let win := ch.winSize (ctxOf n st.side)
  if !ok then some { step := 2, reason := 4 }
  else if win < le h 20 4 ∨ win < 2048 * t ∨ win < le h 24 4 + 2 * le h 28 4 then some { step := 2, reason := 15 }
  else none

/-- A signature block is accepted with the model keys: both its keys match one programmed slot 4 to 7 that is not revoked
(R388). -/
def Chan.modelKeyOk (ch : Chan) (b : List Byte) : Bool :=
  let hs := sha384 (sigEcKey b) ++ sha384 (sigHssKey b)
  [4, 5, 6, 7].any fun k => ch.fuses.programmed.testBit k && !ch.fuses.revoked.testBit k &&
    sget (fun _ => []) ch.fuses.slots k == hs

/-- Steps 3 and 4: the signatures. Keys that match no slot fail step 3 (log 48). -/
def Chan.stageSigs (ch : Chan) (st : Staging) : Option StageFault :=
  let h := ch.packBytes st 0 256
  let b := ch.packBytes st (headSig h) (le h 8 8 - headSig h)
  let m := sha384 h
  if !(sigForm b && ch.modelKeyOk b && sigEcOk b m) then some { step := 3, reason := 5 }
  else if !sigHssOk b m then some { step := 4, reason := 6 }
  else none

/-- A SCALE tile as the model digest reads it (R236). -/
def digestTile (sl t : List Byte) : List Byte :=
  if (le sl 6 1).testBit 0 then t.take 32 ++ List.replicate 16 0 ++ t.drop 48 else t

/-- The model digest of a seal table, sum blocks and tiles (R236). -/
def modelDigestOf (s : Side) (tile : Nat → List Byte) : List Byte :=
  sha384 (s.seals ++ s.sums ++ ((List.range s.tiles).filter fun i => s.sealKind i == 4).flatMap fun i =>
    digestTile (s.sealOf i) (tile i))

/-- Form of a seal entry (Table 08.7). -/
def Side.sealFormOk (s : Side) (i : Nat) : Bool :=
  let e := s.sealOf i
  let k := le e 4 1
  let blocks := s.sums.length / 768
  decide (k < 8) && (if k = 1 ∨ k = 2 then decide (le e 5 1 < 6) else le e 5 1 == 0) && decide (le e 6 1 < 4) &&
  (k == 4 || !(le e 6 1).testBit 0) && (k == 1 || !(le e 6 1).testBit 1) &&
  (if k = 1 then decide (le e 8 4 < blocks) else le e 8 4 == 0xFFFFFFFF)

/-- Steps 5 and 6: content hash, seals, model digest. -/
def Chan.stageHashes (ch : Chan) (st : Staging) (s : Side) : Option StageFault :=
  let tile (i : Nat) : List Byte := ch.imgBytes st (2048 * i) 2048
  if sha384 (ch.packBytes st 256 (headSig s.header - 256)) != slice s.header 56 48 then some { step := 5, reason := 7 }
  else if !((List.range s.tiles).all fun i => s.sealFormOk i && sealOk (s.sealOf i) (tile i)) then
    some { step := 6, reason := 8 }
  else if modelDigestOf s tile != s.modelDigest then some { step := 6, reason := 9 }
  else none

/-! ## Step 7: commands -/

/-- Bytes [a, b) of a record are zero. -/
def Cmd.zero (c : Cmd) (a b : Nat) : Bool := (slice c a (b - a)).all (· == 0)

/-- Operand bytes of a record by opcode (Table 08.5). -/
def Cmd.operandsOk (c : Cmd) : Bool :=
  match c.opcode with
  | 1 | 2 => c.w24 % 64 == 0 && decide (le c 34 1 < 64) && decide (le c 35 1 < 16) && c.zero 40 64
  | 3 => c.zero 17 20 && c.w24 % 64 == 0 && c.zero 34 36 && c.zero 40 64
  | 4 | 5 | 9 => c.w24 % 64 == 0 && c.w36 % 64 == 0 && c.zero 32 36 && c.zero 44 64
  | 6 => c.w24 % 64 == 0 && c.w36 % 64 == 0 && c.zero 32 34 && (le c 34 1 == 6 || le c 34 1 == 7) && c.zero 35 36 && c.zero 40 64
  | 7 => decide (le c 16 4 < 32) && c.zero 20 64
  | 8 => decide (le c 16 4 < 64) && c.w24 % 64 == 0 && c.zero 28 40 && c.zero 44 64
  | 0x0A => c.zero 16 34 && decide (le c 34 1 < 16) && c.zero 35 36 && c.zero 40 64
  | 0x0B => c.zero 16 64
  | _ => false

/-- Common bytes of record `i` of `n` (Table 08.3). -/
def Cmd.commonOk (c : Cmd) (tid slot i n : Nat) : Bool :=
  decide (1 ≤ c.opcode ∧ c.opcode ≤ 0x0B) && decide (le c 1 1 < 8) && c.last == decide (i + 1 = n) &&
  (!c.keep || c.opcode == 1 || c.opcode == 2) && le c 2 1 == tid && le c 3 1 == slot && c.zero 10 16 &&
  ((c.opcode == 8) == (c.layer == 0xFFFF)) &&
  (match c.opcode with
   | 1 | 2 | 0x0A => decide (le c 8 1 < 32)
   | 3 => decide (1 ≤ le c 8 1 ∧ le c 8 1 < 4)
   | _ => le c 8 1 == 0) &&
  ((c.opcode != 7 && c.opcode != 0x0B) || c.format == 0)

/-- A table of the image: its first `n` bytes when the range lies in the image, none otherwise. -/
def Chan.imgTable (ch : Chan) (st : Staging) (s : Side) (a n : Nat) : Option (List Byte) :=
  if a + n ≤ 2048 * s.tiles then some (ch.imgBytes st a n) else none

/-- Drain descriptor of a command, when it lies in the image. -/
def Chan.imgDrain (ch : Chan) (st : Staging) (s : Side) (c : Cmd) : Option DrainDesc :=
  if c.opcode = 0x0A ∨ c.opcode = 3 ∨ ((c.opcode = 1 ∨ c.opcode = 2) ∧ c.accOp = 2) then
    (ch.imgTable st s c.w36 64).map DrainDesc.ofBytes
  else none

/-- Activation table that a command names: an ACT always names one; 0 in a drain descriptor is the identity (R222). -/
def Chan.cmdAct (ch : Chan) (st : Staging) (s : Side) (c : Cmd) : Option Nat :=
  if c.opcode = 9 then some c.w40
  else match ch.imgDrain st s c with
    | some d => if d.act = 0 then none else some d.act
    | none => none

/-- The activation table at image offset `a` lies in the image with its segments and obeys R222. -/
def Chan.actOk (ch : Chan) (st : Staging) (s : Side) (a : Nat) : Bool :=
  match ch.imgTable st s a 64 with
  | some t => actTableOk t (ch.slotTid st.slot) st.slot && decide (a + 64 + 8 * le t 12 2 ≤ 2048 * s.tiles)
  | none => false

/-- Output command (R223): a DRAIN, MVR or STREAM whose descriptor says RAW, or an ACT. -/
def Chan.outputOk (ch : Chan) (st : Staging) (s : Side) (c : Cmd) : Bool :=
  c.opcode == 9 ||
  ((c.opcode == 0x0A || c.opcode == 3 || ((c.opcode == 1 || c.opcode == 2) && c.accOp == 2)) &&
    (match ch.imgDrain st s c with | some d => d.dest == 1 | none => false))

def Side.cmds (s : Side) : List Cmd := (List.range s.commands).map s.cmd

/-- Tiles at which a scale table starts. -/
def Side.tables (s : Side) : List Nat := (List.range s.tiles).filter fun i => s.sealKind i == 4 && (le (s.sealOf i) 6 1).testBit 0

/-- Formats of a TRAINING program (R278, Table 10.2): no MVR; MMA in N8 up to the first QNT or MMT and in BF16 from there on; MMT with keep in
N8; QNT into N8 or BF16; the input rows and the forward phase's activations in N8. -/
def Chan.trainForm (ch : Chan) (st : Staging) (s : Side) : Bool :=
  let cs := s.cmds
  let fwd := cs.takeWhile fun c => c.opcode != 2 && c.opcode != 4
  let table (a : Nat) : Bool := le (ch.imgBytes st a 64) 2 1 == 1
  let out (c : Cmd) : Bool :=
    let d := DrainDesc.ofBytes (ch.imgBytes st c.w36 64)
    d.dest != 0 || table d.out
  cs.all (fun c => c.opcode != 3 && (c.opcode != 2 || (c.format == 1 && c.keep)) && (c.opcode != 4 || c.format == 1 || c.format == 5)) &&
  fwd.all (fun c => (c.opcode != 1 || (c.format == 1 && (c.accOp != 2 || out c))) && (c.opcode != 0x0A || out c)) &&
  (cs.drop fwd.length).all (fun c => c.opcode != 1 || c.format == 5) && table (cs.getD 0 []).w40

/-- Commands and activation tables (reason COMMAND). -/
def Chan.stageCommands (ch : Chan) (st : Staging) (s : Side) : Bool :=
  let cs := s.cmds
  let n := cs.length
  let kind := ch.slotKind st.slot
  let layers := (cs.filter fun c => c.opcode == 1 || c.opcode == 2 || c.opcode == 3).map Cmd.layer
  let common := cs.zipIdx.all fun x => x.1.commonOk (ch.slotTid st.slot) st.slot x.2 n && x.1.operandsOk &&
    (ch.cmdAct st s x.1).all (ch.actOk st s)
  let outs := cs.filter Cmd.output
  let shape :=
    if kind = 0 then n == 1 && cs.all fun c => c.opcode == 7 && c.output && decide (le c 16 4 < max 1 (le s.header 51 1))
    else (cs.getD 0 []).opcode == 8 && (cs.drop 1).all (fun c => c.opcode != 8) && cs.all (fun c => c.opcode != 7) &&
      (kind != 1 || (outs.length == 1 && outs.all fun c => ch.outputOk st s c)) && (kind != 2 || ch.trainForm st s)
  let tabs := s.tables.all fun i =>
    let l := le (ch.imgBytes st (2048 * i) 64) 4 2
    if l = 0xFFFF then kind != 0 && (cs.getD 0 []).w40 == 2048 * i else layers.contains l
  common && shape && tabs

/-- Image offset of the widened table that the table in tile `i` names (R127, R130); none where it names none. -/
def Chan.widenedOf (ch : Chan) (st : Staging) (i : Nat) : Option Nat :=
  let h := ch.imgBytes st (2048 * i) 64
  if (le h 3 1).testBit 1 then some (le h 24 8) else none

/-- Formats (reason FORMAT): no reserved code or FP32 as an engine operand (R111); for an Exacting tenant every layer whose input can
widen has its widened table and its widened weights (R130). A widened table widens no further (R127). Whether a layer has widened weights
is a free value (log 49). -/
def Chan.stageFormats (ch : Chan) (st : Staging) (s : Side) : Bool :=
  let cmds := s.cmds.all fun c =>
    if c.opcode = 6 ∨ c.opcode = 9 ∨ c.opcode = 8 ∨ c.opcode = 0x0A then decide (c.format ≤ 6)
    else if c.opcode = 7 ∨ c.opcode = 0x0B then true
    else decide (c.format ≤ 5)
  let tabs := s.tables.all fun i => decide (le (ch.imgBytes st (2048 * i) 64) 2 1 ≤ 5)
  let targets := s.tables.filterMap fun i => ch.widenedOf st i
  let wideTabs := s.tables.all fun i =>
    match (Fmt.ofCode (le (ch.imgBytes st (2048 * i) 64) 2 1)).bind Fmt.widened with
    | none => true
    | some w => targets.contains (2048 * i) || (match ch.widenedOf st i with
      | some a => a % 2048 == 0 && s.tables.contains (a / 2048) && le (ch.imgBytes st a 64) 2 1 == w.code
      | none => false)
  let weights := s.cmds.all fun c => !c.canWiden || Config.widenedWeights s.modelDigest c.layer
  cmds && tabs && (!ch.exacting (ch.slotTenant st.slot) || (wideTabs && weights))

/-- Scale tables (reason SCALE): columns, and entries that are constant or hold positive normals (R116, R117). -/
def Chan.stageScales (ch : Chan) (st : Staging) (s : Side) : Bool :=
  s.tables.all fun i =>
    let n := le (ch.imgBytes st (2048 * i) 64) 0 2
    decide (1 ≤ n ∧ n ≤ 4096 ∧ 2048 * i + 64 + 16 * n ≤ 2048 * s.tiles) &&
    (List.range n).all fun j =>
      let e := ch.imgBytes st (2048 * i + 64 + 16 * j) 16
      (le e 12 1).testBit 0 || (fpPosNormal (le e 0 4) && fpPosNormal (le e 4 4))

/-! ## Step 7: the ensemble (R149) -/

/-- Image bytes of every tile of a kind, in order. -/
def Chan.imgKind (ch : Chan) (st : Staging) (s : Side) (kind : Nat) : List Byte :=
  ((List.range s.tiles).filter fun i => s.sealKind i == kind).flatMap fun i => ch.imgBytes st (2048 * i) 2048

/-- Bytes that `k` cut field records take. -/
def cutSize : Nat → List Byte → Nat
  | 0, _ => 0
  | k + 1, bs =>
    let n := 16 + (4 * le bs 2 1 + 15) / 16 * 16
    n + cutSize k (bs.drop n)

/-- FP32 values strictly rising, none NaN or infinite. -/
def risingFinite : List Nat → Bool
  | [] => true
  | [x] => decide (fpExp x ≠ 255)
  | x :: y :: r => decide (fpExp x ≠ 255) && fpLt x y && risingFinite (y :: r)

/-- No NaN and no two equal values. -/
def distinctFp : List Nat → Bool
  | [] => true
  | x :: r => !fpIsNaN x && r.all (fun y => !fpEq x y) && distinctFp r

/-- One cut field record obeys R149; `fill` its slot's fill value. -/
def CutField.ok (p8 : Bool) (f : CutField) (fill : Nat) : Bool :=
  match f.kind with
  | 1 => decide (f.count ≤ if p8 then 255 else 31) && risingFinite f.values && (f.miss || (p8 && !fpIsNaN fill))
  | 2 => decide (f.count ≤ 64) && distinctFp f.values && f.miss
  | 0 | 3 => true
  | _ => false

/-- A program is loaded and belongs to a tenant identifier. -/
def Chan.progReady (ch : Chan) (p tid : Nat) : Bool :=
  ch.flag (R.FTR_PROG p) F.FTR_PROG_loaded && ch.fld (R.FTR_PROG p) F.FTR_PROG_count != 0 &&
    ch.fld (R.FTR_PROG p) F.FTR_PROG_owner == tid

/-- FST_ENS_CFG of a staged ensemble: its image's fields with the slot, its tenant, the header's program and valid clear. -/
def Chan.ensWordOf (ch : Chan) (st : Staging) (s : Side) : Word :=
  let w := BitVec.ofNat 64 (Config.ensWord (ch.imgKind st s 6) 0) &&& 0x00FFFFFFFFFFFFFF
  let w := setF (setF w F.FST_ENS_CFG_valid 0) F.FST_ENS_CFG_tenant (ch.slotTid st.slot)
  setF (setF w F.FST_ENS_CFG_model_slot st.slot) F.FST_ENS_CFG_program s.prog

/-- The ensemble obeys R149 and the descriptor rules of R160. Only fields of kinds 1 and 2 take a missing bit (R144). -/
def Chan.stageEnsemble (ch : Chan) (st : Staging) (s : Side) : Bool :=
  let w := ch.ensWordOf st s
  let p8 := getF w F.FST_ENS_CFG_cut_code == 1
  let copies := getF w F.FST_ENS_CFG_copies
  let fs := cutFields (getF w F.FST_ENS_CFG_fields) (ch.imgKind st s 7)
  let m := (fs.filter fun f => f.miss && (f.kind == 1 || f.kind == 2)).length
  let prog := sget (fun _ => []) ch.ftr.progs s.prog
  let cnt := ch.fld (R.FTR_PROG s.prog) F.FTR_PROG_count
  let ready := ch.progReady s.prog (ch.slotTid st.slot)
  le s.header 51 1 == 1 && (copies == 1 || copies == 2) && bankSetOk copies st.banks &&
  decide (1 ≤ getF w F.FST_ENS_CFG_trees ∧
    getF w F.FST_ENS_CFG_trees ≤ 16 * copySize copies st.banks * 2 ^ getF w F.FST_ENS_CFG_log2_passes) &&
  fpPosNormal (Config.ensWord (ch.imgKind st s 6) 1 % 2 ^ 32) &&
  decide (fs.length ≤ if p8 then 80 - (m + 7) / 8 else 20) &&
  fs.all fun f => f.ok p8 (slotFill (progSlot prog f.slot)) && (!ready || decide (f.slot < cnt))

/-! ## Step 7: the budget (R35, R129, R130) -/

/-- Passes of one command in its own format, or in the one it widens into: its k and n counts over the format's tile (R164). -/
def Cmd.passes (c : Cmd) (wide : Bool) : Nat :=
  let f := c.engineFmt.getD .n8
  let (kt, nt) := tileShape (if wide then f.widened.getD f else f) c.part
  if c.opcode = 2 then ceilDiv c.h30 nt * ceilDiv c.h32 kt else ceilDiv c.h30 kt * ceilDiv c.h32 nt

/-- Cost of a layer's commands on one partition for `m` descriptors (Table 01.7; 11 cc more when it is reduced across engines). -/
def partCost (m : Nat) (wide : Bool) (cs : List Cmd) : Nat :=
  if cs.isEmpty then 0
  else
    let spaced := cs.flatMap fun c => List.replicate (c.passes wide) (if c.keep then m else max m (passGap c.part))
    264 + (spaced.drop 1).foldl (· + ·) 0 + m - 1 + 16 + if cs.any fun c => 1 < (maskEngines c.engine c.mask).length then 11 else 0

/-- Cost of an MVR for `m` descriptors (Table 01.7, R183): each unit completes 16 dot products of 256 terms in a cycle. -/
def Cmd.mvrCost (c : Cmd) (m : Nat) : Nat := ceilDiv (m * c.h32 * ceilDiv c.h30 256) (16 * max 1 (popcount (le c 8 1) 2)) - 1 + 24 + 6

/-- What a layer adds to the core-clock portion: its cost, or, where it can widen, that of its widened format with the quantisation again
(R129). -/
def Side.layerCost (s : Side) (m : Nat) (exacting : Bool) (layer : Nat) : Nat :=
  let cs := s.cmds.filter fun c => (c.opcode == 1 || c.opcode == 2 || c.opcode == 3) && c.layer == layer
  let cost (wide : Bool) : Nat :=
    max (((List.range 32).map fun u => partCost m wide (cs.filter fun c => c.opcode != 3 && c.unit == u)).foldl max 0)
      (((cs.filter fun c => c.opcode == 3).map fun c => c.mvrCost m).foldl max 0)
  if exacting && cs.any Cmd.canWiden then max (cost true) (cost false) + ceilDiv m 8 + 4 else cost false

/-- Core-clock portion of a per-descriptor model with the bound of R129 for every layer that can widen (R35). -/
def Side.corePortion (s : Side) (exacting : Bool) : Nat :=
  let layers := ((s.cmds.filter fun c => c.opcode == 1 || c.opcode == 2 || c.opcode == 3).map Cmd.layer).dedup
  97 + 126 + 40 + (layers.map (s.layerCost s.batchCap exacting)).foldl (· + ·) 0

/-- The declared budget is within R35's, and that of an Exacting tenant's model covers its widening (R130; DEDUCED, log 149). -/
def Chan.budgetOk (ch : Chan) (st : Staging) (s : Side) : Bool :=
  let b := le s.header 32 4
  decide (b ≤ 1218) && (!ch.exacting (ch.slotTenant st.slot) || !(s.cmds.any Cmd.canWiden) || decide (s.corePortion true ≤ b))

/-- Steps 7 and 8. -/
def Chan.stageContent (ch : Chan) (st : Staging) (s : Side) : Option StageFault :=
  let forest := ch.slotKind st.slot == 0
  if !ch.stageCommands st s then some { step := 7, reason := 10 }
  else if !ch.stageFormats st s then some { step := 7, reason := 11, ev := some EV_FTR_BAD_FORMAT }
  else if !ch.stageScales st s then some { step := 7, reason := 12, ev := some EV_FTR_BAD_SCALE }
  else if forest && !ch.stageEnsemble st s then some { step := 7, reason := 13, ev := some EV_FST_BAD_ENSEMBLE }
  else if ch.slotKind st.slot = 1 ∧ ch.budgetOk st s = false then
    some { step := 7, reason := 14, ev := some EV_CHN_BUDGET_REFUSED }
  else if !(s.progs.all fun p => ch.progReady p (ch.slotTid st.slot)) then some { step := 8, reason := 19 }
  else none

/-! ## Step 9: resources -/

/-- Sides that hold something. -/
def Chan.busySides (ch : Chan) : List Nat := (List.range 128).filter fun c => ch.sideBusy c

/-- A bank is free (step 9): owned by no ensemble descriptor of a busy side, not fenced, not held by a rebuild; a descriptor
that firmware made valid owns its banks too (R157). -/
def Chan.bankFree (ch : Chan) (b : Nat) : Bool :=
  (ch.busySides.all fun c => !(ch.side c).banks.testBit b) && !ch.bankOwned b &&
  !(ch.fld R.CHK_FENCE_BANKS F.CHK_FENCE_BANKS_banks).testBit b && (ch.chk.rebuilds.all fun r => !r.target.contains b)

/-- A page of a unit is free for a tenant: assigned to nobody, or to the tenant and named by no busy side (log 50). -/
def Chan.pageFree (ch : Chan) (u p tid : Nat) : Bool :=
  match ch.pageOwner u p with
  | none => true
  | some t => t == tid && ch.busySides.all fun c =>
      let s := ch.side c
      !(s.units.testBit u && decide (s.page u ≤ p ∧ p < s.page u + s.pages))

/-- First page of the lowest run of `n` free pages of a unit. -/
def Chan.pageRun (ch : Chan) (u n tid : Nat) : Option Nat :=
  (List.range (257 - n)).find? fun p => (List.range n).all fun i => ch.pageFree u (p + i) tid

/-- Lowest free span of `n` 64-byte units of cut memory. -/
def Chan.cutSpan (ch : Chan) (n : Nat) : Option Nat :=
  (List.range (16385 - n)).find? fun a => ch.busySides.all fun c =>
    let s := ch.side c
    s.cutLen == 0 || decide (a + n ≤ s.cutBase ∨ s.cutBase + s.cutLen ≤ a)

/-- The descriptor staging writes (R157). -/
def Chan.freeDesc (ch : Chan) : Option Nat :=
  (List.range 32).find? fun n => !ch.ensValid n && ch.busySides.all fun c => (ch.side c).ens != some n

/-- Ristretto units that a program uses. -/
def Side.unitMask (s : Side) : Nat :=
  s.cmds.foldl (fun m (c : Cmd) => if c.opcode = 3 then m ||| le c 8 1 % 4 else m) 0

/-- Step 9: the side with what it is given. -/
def Chan.stageAlloc (ch : Chan) (st : Staging) (s : Side) : Except StageFault Side :=
  let forest := ch.slotKind st.slot == 0
  let tid := ch.slotTid st.slot
  if forest && !((allBanks st.banks).all ch.bankFree && decide (le s.header 50 1 ≤ (allBanks st.banks).length)) then
    .error { step := 9, reason := 16 }
  else
    let units := s.unitMask
    let n := le s.header 48 2
    let p0 := if units.testBit 0 then ch.pageRun 0 n tid else some 0
    let p1 := if units.testBit 1 then ch.pageRun 1 n tid else some 0
    match p0, p1 with
    | some p0, some p1 =>
      let s := { s with units := units, page0 := p0, page1 := p1, pages := n }
      if forest then
        let w := ch.ensWordOf st s
        let len := ceilDiv (cutSize (getF w F.FST_ENS_CFG_fields) (ch.imgKind st s 7)) 64
        match ch.cutSpan len, ch.freeDesc with
        | some a, some e => .ok { s with banks := st.banks, cutBase := a, cutLen := len, ens := some e }
        | none, _ => .error { step := 9, reason := 18 }
        | _, none => .error { step := 9, reason := 16 }
      else .ok s
    | _, _ => .error { step := 9, reason := 17 }

/-! ## Step 10: copies and stores -/

/-- Assign a page to a tenant, zeroed when its owner changes (R186). -/
def Chan.assignPage (u tid : Nat) (ch : Chan) (p : Nat) : Chan :=
  let k := R.RVU_PAGE_OWNER u (p / 8)
  ch.wr k (setF (ch.rd k) ⟨8 * (p % 8), 8⟩ (tid + 128))

/-- Write a list of bytes into a unit's store. -/
def Chan.putStore (ch : Chan) (u a : Nat) (bs : List Byte) : Chan :=
  ch.setRvu u { ch.rvu u with store := cellsPut (ch.rvu u).store a bs }

/-- Ristretto stores: the WEIGHT_RVU tiles fill unit 0's pages, then unit 1's (log 42). -/
def Chan.stageStores (ch : Chan) (st : Staging) (s : Side) : Chan :=
  let bs := ch.imgKind st s 2
  let n := 4096 * s.pages
  let tid := ch.slotTid st.slot
  let one (ch : Chan) (u p : Nat) (bs : List Byte) : Chan :=
    let ch := (List.range s.pages).foldl (fun (ch : Chan) i => Chan.assignPage u tid ch (p + i)) ch
    ch.putStore u (4096 * p) (slice bs 0 n)
  let ch := if s.units.testBit 0 then one ch 0 s.page0 bs else ch
  let ch := if s.units.testBit 1 then one ch 1 s.page1 (if s.units.testBit 0 then bs.drop n else bs) else ch
  (ch.countPages 0).countPages 1

/-- Leaf CAM entries and default words of one copy's banks from the ensemble image. -/
def Chan.stageCopy (ch : Chan) (st : Staging) (img : List Byte) (bs : List Nat) : Chan :=
  bs.zipIdx.foldl (fun (ch : Chan) x =>
    let (b, j) := x
    let ch := (List.range 2048).foldl (fun (ch : Chan) e =>
      ch.commitEntry (2048 * b + e) (camOfBits (Config.camEntry img (2048 * j + e)))) ch
    let defs := (List.range 128).foldl (fun m i =>
      let d := BitVec.ofNat 64 (Config.camDefault img (128 * j + i))
      sset (fun _ => (0, 0)) m (128 * b + i) (d, eccOf d)) ch.fst.defaults
    { ch with fst := { ch.fst with defaults := defs
                                   golden := sset (fun _ => none) ch.fst.golden b (some ⟨st.slot, st.side⟩) } }) ch

/-- The ensemble: Leaf CAM, cut memory and descriptor (R155, R157). -/
def Chan.stageForest (ch : Chan) (st : Staging) (s : Side) : Chan :=
  match s.ens with
  | none => ch
  | some e =>
    let img := ch.imgKind st s 6
    let w := ch.ensWordOf st s
    let copies := if getF w F.FST_ENS_CFG_copies = 2 then [halfA s.banks, halfB s.banks] else [allBanks s.banks]
    let cuts := slice (ch.imgKind st s 7) 0 (64 * s.cutLen)
    let ch := copies.foldl (fun (ch : Chan) bs => ch.stageCopy st img bs) ch
    let ch := { ch with fst := { ch.fst with cuts := cellsPut ch.fst.cuts (64 * s.cutBase) cuts } }
    let ch := ch.wr (R.FST_ENS_CFG e) w
    let ch := ch.wr (R.FST_ENS_BANKS e) (BitVec.ofNat 64 (s.banks + s.cutBase * 2 ^ 32))
    let ch := ch.wr (R.FST_ENS_SCALE e) (BitVec.ofNat 64 (Config.ensWord img 1 % 2 ^ 32))
    ch.wr (R.FST_ENS_BASE e) (BitVec.ofNat 64 (Config.ensWord img 2))

/-- Zero the column counter arrays of a side's scale tables, in both run copies (R118, R219). -/
def Chan.zeroCounters (ch : Chan) (st : Staging) (s : Side) : Chan :=
  let ctx := ctxOf st.slot st.side
  s.tables.foldl (fun (ch : Chan) i =>
    let h := ch.imgBytes st (2048 * i) 64
    let n := 8 * le h 0 2
    (ch.setBytes 0 chanKey (ch.winAddr ctx 0 (le h 48 8)) (List.replicate n 0)).setBytes 0 chanKey
      (ch.winAddr ctx 1 (le h 48 8)) (List.replicate n 0)) ch

/-- The named backup address can hold the package (R237 step 10, R330, R337). -/
def Chan.backupOk (ch : Chan) (st : Staging) (s : Side) : Bool :=
  (st.tier == 2 || st.tier == 3) && ch.inRegion st.tier (ch.slotTenant st.slot) st.back s.bytes && ch.tierServes st.tier

/-- Step 10 after the backup has been accepted. The tiles that a Ristretto store, the program cache and cut memory load have their seals
verified (R231). -/
def Chan.stageCopies (ch : Chan) (st : Staging) (s : Side) : Chan :=
  let i := ch.slotTenant st.slot
  let ctx := ctxOf st.slot st.side
  let ch := ch.store st.tier i st.back (ch.packBytes st 0 s.bytes)
  let ch := ch.store 0 i (ch.winBase ctx) (ch.imgBytes st 0 (2048 * s.tiles))
  let ch := ch.setSide ctx s
  let loads := (List.range s.tiles).filter fun i => s.sealKind i == 2 || s.sealKind i == 3 || s.sealKind i == 7
  let ch := loads.foldl (fun (ch : Chan) i => (ch.loadTile ctx i).2) ch
  ((ch.stageStores st s).stageForest st s).zeroCounters st s

end Sys2Proof.Machine
end

