-- ==== Sys2Proof/Machine/Models.lean ====
section
/-!
DEFINITION. Machine/Models.lean: staging requests and their completion (R237), slot commands (R238), swaps, unloads and
releases (R239 to R241), and the end of a tile's refetch (R233, R234).
-/

namespace Sys2Proof.Machine

open Sys2Proof

/-! ## Staging -/

/-- A VF names a slot of another tenant (R237, R238, R242). -/
def Chan.slotForeign (ch : Chan) (inst n : Nat) : Bool := inst != 0 && ch.slotTid n != ch.tid (inst - 1)

/-- An accepted UNLOAD of the slot waits for its boundary: its standby side is taken (log 51). -/
def Chan.unloading (ch : Chan) (n : Nat) : Bool := ch.models.swaps.any fun x => x.1 == n && x.2.2

/-- Step 1 of Table 08.11: the reason it fails for, if any. -/
def Chan.stageStep1 (ch : Chan) (n : Nat) : Option Nat :=
  if ch.models.staging.isSome then some 1
  else if !ch.slotEnabled n || ch.standbyState n != 0 || ch.unloading n then some 2
  else if ch.safeServe then some 3
  else none

/-- CHN_STAGE_STATUS. -/
def Chan.stageStatus (ch : Chan) (state reason step slot : Nat) : Chan :=
  let k := R.CHN_STAGE_STATUS
  (((ch.setFld k F.CHN_STAGE_STATUS_state state).setFld k F.CHN_STAGE_STATUS_reason reason).setFld k
    F.CHN_STAGE_STATUS_step step).setFld k F.CHN_STAGE_STATUS_slot slot

/-- Begin or refuse a staging into slot `n` with the source, backup and banks given. The side being staged names the feature programs of
its package from now on (R131). -/
def Chan.stageBegin (ch : Chan) (n src tier back banks : Nat) : Chan :=
  match ch.stageStep1 n with
  | some r =>
    ((ch.stageStatus 3 r 1 n).count R.CHN_CNT_STAGE_FAIL EV_CHN_STAGE_FAIL (some (ch.slotTenant n))).slotChange n
  | none =>
    let st : Staging := { slot := n, side := 1 - ch.servingSide n, src := src, tier := tier, back := back, banks := banks
                          at_ := ch.now }
    let ch := { ch with models := { ch.models with staging := some st } }
    let s := ch.sideOfPackage st
    let ch := ch.setSide (ctxOf n st.side) { header := s.header, program := s.program }
    ((ch.setStandby n 1).stageStatus 1 0 2 n).slotChange n

/-- STAGE_REQUEST (R237): a write of CHN_STAGE_REQ through function instance `inst`. -/
def Chan.stageRequest (ch : Chan) (inst : Nat) (v : Word) : Chan :=
  let n := getF v F.CHN_STAGE_REQ_slot
  if ch.slotForeign inst n then ch.raise EV_CHN_VF_DENIED (some (inst - 1))
  else
    let ch := ch.setFld R.CHN_STAGE_REQ F.CHN_STAGE_REQ_slot n
    if getF v F.CHN_STAGE_REQ_start = 0 then ch
    else ch.stageBegin n (ch.fld R.CHN_STAGE_SRC F.CHN_STAGE_SRC_address / 4096 * 4096)
      (ch.fld R.CHN_STAGE_BACKUP F.CHN_STAGE_BACKUP_tier) (ch.fld R.CHN_STAGE_BACKUP F.CHN_STAGE_BACKUP_address / 4096 * 4096)
      (ch.fld R.CHN_STAGE_BANKS F.CHN_STAGE_BANKS_bank_mask)

/-- FOREST (R223): staging reads the one FOREST record of a FOREST slot's program and binds the ensemble it names. -/
def Chan.forestBind (ch : Chan) : Chan :=
  match ch.models.staging with
  | none => ch
  | some st =>
    if ch.slotKind st.slot = 0 ∧ ch.safeServe = false ∧ ((ch.sideOfPackage st).cmd 0).opcode = 7 then
      { ch with models := { ch.models with staging := some { st with bound := true } } }
    else ch

/-- First fault of steps 2 to 8. -/
def Chan.stageChecks (ch : Chan) (st : Staging) : Option StageFault :=
  match ch.stageHeader st with
  | some f => some f
  | none =>
    match ch.stageSigs st with
    | some f => some f
    | none =>
      let s := ch.sideOfPackage st
      match ch.stageHashes st s with
      | some f => some f
      | none => ch.stageContent st s

/-- A staging ends at a fault. -/
def Chan.stageFault (ch : Chan) (f : StageFault) : Chan :=
  let i := ch.models.staging.map fun st => ch.slotTenant st.slot
  let ch := match f.ev with | some e => ch.raise e i | none => ch
  ch.stageFail f.step f.reason

/-- STAGE_COMPLETE (R237): steps 2 to 10; `err`: the backup's read-back is uncorrectable. A FOREST slot's staging waits
until its record has bound the ensemble; Safe Serve suspends staging (R417). -/
def Chan.stageComplete (ch : Chan) (err : Bool) : Chan :=
  match ch.models.staging with
  | none => ch
  | some st =>
    if ch.safeServe then ch
    else match ch.stageChecks st with
    | some f =>
      let ch := if 6 ≤ f.step then ch.inc R.CHK_CNT_SEAL_CHECK (ch.sideOfPackage st).tiles else ch
      ch.stageFault f
    | none =>
      if ch.slotKind st.slot = 0 ∧ st.bound = false then ch
      else
        let ch := ch.inc R.CHK_CNT_SEAL_CHECK (ch.sideOfPackage st).tiles
        match ch.stageAlloc st (ch.sideOfPackage st) with
        | .error f => ch.stageFault f
        | .ok s =>
          if ch.backupOk st s = false then ch.stageFault { step := 10, reason := 20 }
          else if err then ch.stageFault { step := 10, reason := 21 }
          else
            let ch := ch.stageCopies st s
            let ch := { ch with models := { ch.models with staging := none } }
            let ch := (ch.setStandby st.slot 2).stageStatus 2 0 10 st.slot
            (ch.raise EV_CHN_STAGED (some (ch.slotTenant st.slot))).slotChange st.slot

/-! ## Slot commands -/

/-- Free what a side holds (R241): its pages become unassigned and zero (R186), its banks lose their golden image. -/
def Chan.sideFree (ch : Chan) (ctx : Nat) : Chan :=
  let s := ch.side ctx
  let drop (u : Nat) (ch : Chan) : Chan :=
    if s.units.testBit u then
      let ch := (List.range s.pages).foldl (fun (ch : Chan) i =>
        let p := s.page u + i
        ch.setFld (R.RVU_PAGE_OWNER u (p / 8)) (F.RVU_PAGE_OWNER_assigned (p % 8)) 0) ch
      (ch.setRvu u { ch.rvu u with store := clearRange (ch.rvu u).store (4096 * s.page u) (4096 * s.pages) }).countPages u
    else ch
  let ch := drop 1 (drop 0 ch)
  let mine (b : Nat) : Bool := match sget (fun _ => none) ch.fst.golden b with
    | some g => ctxOf g.slot g.side == ctx
    | none => false
  let g := (allBanks s.banks).foldl (fun g b => if mine b then sset (fun _ => none) g b none else g) ch.fst.golden
  (({ ch with fst := { ch.fst with golden := g } }).dropTables ctx).setSide ctx {}

/-- First epoch boundary at or after a time in Sidereal units, in ns. -/
def boundaryAt (units : Nat) : Nat := 2000 * ceilDiv units (2000 * 63000000000)

/-- What Table 08.12 answers to a command: 0 accepted, 1 wrong state, 2 Safe Serve; a TRAINING slot whose context is enabled takes neither
SWAP nor UNLOAD (R291). -/
def Chan.slotAnswer (ch : Chan) (n cmd : Nat) : Nat :=
  match cmd with
  | 1 => if (ch.trainG (2 * n)).isSome ∨ ch.standbyState n ≠ 2 then 1 else if ch.safeServe then 2 else 0
  | 2 => if ch.standbyState n = 1 ∨ ch.standbyState n = 2 ∨ ch.standbyState n = 3 then 0 else 1
  | 3 =>
    if (ch.trainG (2 * n)).isSome ∨ (ch.servingState n ≠ 1 ∧ ch.servingState n ≠ 2) ∨ ch.standbyState n ≠ 0 ∨ ch.unloading n = true then 1
    else if ch.safeServe then 2 else 0
  | _ => 1

/-- SWAP: the standby waits for boundary B (R239). -/
def Chan.slotSwap (ch : Chan) (n : Nat) : Chan :=
  let b := boundaryAt (ch.sid.unitsAt (ch.now + ch.cc 64))
  let ch := { ch with models := { ch.models with swaps := ch.models.swaps ++ [(n, b, false)] } }
  (ch.setStandby n 3).slotChange n

/-- DISCARD: staging or the waiting swap ends and the standby is EMPTY. -/
def Chan.slotDiscard (ch : Chan) (n : Nat) : Chan :=
  let ctx := ctxOf n (1 - ch.servingSide n)
  let mine := match ch.models.staging with | some st => st.slot == n | none => false
  let ch := if mine then ({ ch with models := { ch.models with staging := none } }).stageStatus 0 0 0 n else ch
  let ch := { ch with models := { ch.models with swaps := ch.models.swaps.filter fun x => x.1 ≠ n } }
  ((ch.sideFree ctx).setStandby n 0).slotChange n

/-- UNLOAD: the serving side leaves at the next epoch boundary. -/
def Chan.slotUnload (ch : Chan) (n : Nat) : Chan :=
  let b := 2000 * (ch.ns / 2000 + 1)
  { ch with models := { ch.models with swaps := ch.models.swaps ++ [(n, b, true)] } }

/-- A write of CHN_SLOT_CMD_n with start set through function instance `inst`: command `cmd` (R238). -/
def Chan.slotCmd (ch : Chan) (inst n cmd : Nat) : Chan :=
  if ch.slotForeign inst n then ch.raise EV_CHN_VF_DENIED (some (inst - 1))
  else
    let ch := ch.setFld (R.CHN_SLOT_CMD n) F.CHN_SLOT_CMD_command cmd
    if cmd = 0 then ch
    else
      let a := ch.slotAnswer n cmd
      let ch := ch.setFld (R.CHN_SLOT_CMD n) F.CHN_SLOT_CMD_last_result a
      if a ≠ 0 then ch
      else if cmd = 1 then ch.slotSwap n
      else if cmd = 2 then ch.slotDiscard n
      else ch.slotUnload n

/-! ## The boundary and after it -/

/-- The old side's descriptor stops serving and its banks wait for the last pass (R157). -/
def Chan.ensLeaves (ch : Chan) (ens : Option Nat) : Chan :=
  match ens with
  | none => ch
  | some e =>
    { ch.setFlag (R.FST_ENS_CFG e) F.FST_ENS_CFG_valid false with
      fst := { ch.fst with leaving := (ch.fst.leaving.filter (·.1 ≠ e)) ++ [(e, ch.now)] } }

/-- Exchange the sides of a slot (R239, R240). -/
def Chan.exchange (ch : Chan) (n : Nat) (unload : Bool) : Chan :=
  let old := ctxOf n (ch.servingSide n)
  let new := ctxOf n (1 - ch.servingSide n)
  let had := ch.servingState n != 0
  let open_ := match (ch.seqr old).batch with | some b => !b.closed | none => false
  let ch := if open_ && ch.slotKind n == 1 then ch.batchClose old else ch
  let ch := ch.ensLeaves (ch.side old).ens
  let ch := match (ch.side new).ens with
    | some e => if unload then ch else ch.setFlag (R.FST_ENS_CFG e) F.FST_ENS_CFG_valid true
    | none => ch
  let ch := ch.setFld (R.CHN_SLOT_STATE n) F.CHN_SLOT_STATE_serving_side (ctxSide new)
  let ch := (ch.setServing n (if unload then 0 else 1)).setStandby n (if had then 4 else 0)
  let ch := if had then ch.setSide old { ch.side old with retired := some ch.now } else ch
  let ch :=
    if unload then ch
    else
      let k := R.CHN_SLOT_STATE n
      (ch.setFld k F.CHN_SLOT_STATE_swaps (ch.fld k F.CHN_SLOT_STATE_swaps + 1)).count R.CHN_CNT_SWAPS EV_CHN_SWAPPED
        (some (ch.slotTenant n))
  ch.slotChange n

/-- SWAP_TAKE_EFFECT (R239): the accepted SWAP or UNLOAD of slot `n` takes effect once its boundary has come. -/
def Chan.swapTakeEffect (ch : Chan) (n : Nat) : Chan :=
  match ch.models.swaps.find? (·.1 == n) with
  | none => ch
  | some (_, b, unload) =>
    if ch.ns < b then ch
    else { ch with models := { ch.models with swaps := ch.models.swaps.filter fun x => x.1 ≠ n } }.exchange n unload

/-- Every verdict that a side could still form is composed, and the epoch of its last one has closed (R241). -/
def Chan.sideSettled (ch : Chan) (ctx : Nat) : Bool :=
  ch.jobs.all (fun j => j.verdict.isSome || !(j.forest.contains ctx || j.neural.contains ctx)) &&
  (match (ch.side ctx).lastEpoch with
   | some e => ch.chk.closedAny && decide (e ≤ (ch.rd R.CHK_EPOCH_CLOSED).toNat)
   | none => true)

/-- SIDE_RELEASE (R241): the RETIRING side of slot `n` becomes EMPTY. -/
def Chan.sideRelease (ch : Chan) (n : Nat) : Chan :=
  let ctx := ctxOf n (1 - ch.servingSide n)
  let sr := ch.seqr ctx
  let banks := match (ch.side ctx).ens with
    | some e => ch.fst.leaving.any (·.1 == e)
    | none => false
  if ch.standbyState n = 4 ∧ sr.run = none ∧ sr.batch = none ∧ banks = false ∧ ch.sideSettled ctx = true then
    ((ch.sideFree ctx).setStandby n 0).slotChange n
  else ch

/-! ## Seal failures -/

/-- A load of a partition that a failing tile holds. -/
def heldLoad (s : Option Standby) : Option Standby := s.filter fun s => s.phase == .held

/-- The operation whose load a failing tile held fails with it: SEAL_FAIL (R233, R234). -/
def Chan.dropHeld (ch : Chan) (k : Nat) : Chan :=
  let p := ch.part k
  let drop (s : Standby) (ch : Chan) : Chan :=
    let waits := (p.queue ++ p.parked).any s.serves
    let ch := ch.modPart k fun p => { p with queue := p.queue.filter fun q => !s.serves q, parked := p.parked.filter fun q => !s.serves q }
    if waits then (ch.cmdDone s.ctx s.index 5).pump k else ch
  match heldLoad p.standby, heldLoad p.next with
  | some s, _ => drop s (ch.takeImage k)
  | none, some s => drop s (ch.modPart k fun p => { p with next := none })
  | none, none => ch

/-- A held load stages again. -/
def stageAgain (s : Option Standby) : Option Standby := s.map fun s => { s with phase := if s.phase = .held then .staging else s.phase }

/-- SEAL_REFETCH_COMPLETE (R233): the oldest hold's tile comes from the golden or the backup copy and its load resumes, or the
side is quarantined (R234), its run failing at the command whose load failed (R227). -/
def Chan.sealRefetchComplete (ch : Chan) : Chan :=
  match ch.models.holds with
  | [] => ch
  | h :: rest =>
    let ch := { ch with models := { ch.models with holds := rest } }
    let waits := h.part.bind fun k => (heldLoad (ch.part k).standby).or (heldLoad (ch.part k).next)
    let index := waits.bind fun s => match ch.run s.ctx with
      | some r => if s.ctx = h.ctx ∧ r.number = s.run then some s.index else none
      | none => none
    let (ok, ch) := ch.sealRefetch h.ctx h.tile index
    match h.part with
    | none => ch
    | some k =>
      if ok then ch.modPart k fun p => { p with standby := stageAgain p.standby, next := stageAgain p.next } else ch.dropHeld k

end Sys2Proof.Machine
end

