-- ==== Sys2Proof/Machine/ZlkBase.lean ====
section
/-!
DEFINITION. Machine/ZlkBase.lean: the sending side of the Zorbex Links (chapter 13): boards and routes (R342, R343), messages
(R349, R350), queues, credits and codeword groups (R344, R346, R347), leaving UP (R348) and shares (R352).
-/

namespace Sys2Proof.Machine

open Sys2Proof

/-! ## Ports -/

def Chan.zp (ch : Chan) (p : Nat) : ZPort := if p = 0 then ch.zlk.p0 else if p = 1 then ch.zlk.p1 else ch.zlk.p2
def Chan.setZp (ch : Chan) (p : Nat) (x : ZPort) : Chan :=
  { ch with zlk := if p = 0 then { ch.zlk with p0 := x } else if p = 1 then { ch.zlk with p1 := x } else { ch.zlk with p2 := x } }
def Chan.modZp (ch : Chan) (p : Nat) (f : ZPort → ZPort) : Chan := ch.setZp p (f (ch.zp p))

/-- Port state (Table 13.4). -/
def Chan.zState (ch : Chan) (p : Nat) : Nat := ch.fld (R.ZLK_PORT_STATUS p) F.ZLK_PORT_STATUS_state
def Chan.setZState (ch : Chan) (p v : Nat) : Chan := ch.setFld (R.ZLK_PORT_STATUS p) F.ZLK_PORT_STATUS_state v
def Chan.zOut (ch : Chan) (p : Nat) (o : ZOut) : Chan := ch.modZp p fun x => { x with out := o :: x.out }

def laneOf {α : Type} (x : α × α) (vl : Bool) : α := if vl then x.2 else x.1
def setLane {α : Type} (x : α × α) (vl : Bool) (v : α) : α × α := if vl then (x.1, v) else (v, x.2)

/-! ## Boards and routes (R342, R343) -/

def Chan.zTopo (ch : Chan) : Nat := ch.fld R.ZLK_CTRL F.ZLK_CTRL_topology
def Chan.zDev (ch : Chan) : Nat := ch.fld R.ZLK_CTRL F.ZLK_CTRL_device

/-- Devices a topology numbers. -/
def zDevices : Nat → Nat
  | 1 => 4
  | 2 => 8
  | _ => 1

/-- Device and port that port `p` of device `d` connects to (Table 13.1). -/
def zPartner (topo d p : Nat) : Option (Nat × Nat) :=
  if topo = 1 then some ((d + p + 1) % 4, 2 - p)
  else if topo = 2 then some (Nat.xor d (2 ^ p), p)
  else none

/-- First port of the route to device `e`. -/
def zPortTo (topo d e : Nat) : Option Nat :=
  if e = d ∨ zDevices topo ≤ e then none
  else if topo = 1 then some ((e + 3 - d) % 4)
  else if topo = 2 then (List.range 3).find? fun p => (Nat.xor d e).testBit p
  else none

/-- Relays on the route to device `e`. -/
def zHops (topo d e : Nat) : Nat := if topo = 2 then popcount (Nat.xor d e) 3 - 1 else 0

/-- The word that ZLK_ROUTE reports. -/
def zRouteWord (topo d : Nat) : Nat :=
  (List.range 8).foldl (fun a e => a + ((zPortTo topo d e).getD 3 + 4 * (if (zPortTo topo d e).isSome then zHops topo d e else 0)) * 16 ^ e) 0

/-! ## Messages -/

/-- Words of a message, header and trailer included (Table 13.6). -/
def ZMsg.words (m : ZMsg) : Nat := m.length.toNat

/-- A message of a type with its payload, from this channel to a device. -/
def Chan.zMsg (ch : Chan) (typ dest : Nat) (vl : Bool) (context args : Nat) (payload : List Byte) : ZMsg :=
  { typ := BitVec.ofNat 8 typ, dest := BitVec.ofNat 3 dest, src := BitVec.ofNat 3 ch.zDev
    hops := BitVec.ofNat 2 (zHops ch.zTopo ch.zDev dest), length := BitVec.ofNat 24 (2 + ceilDiv payload.length 16), vl := vl
    channel := BitVec.ofNat 3 ch.idx, context := BitVec.ofNat 16 context, args := BitVec.ofNat 64 args, payload := payload }

/-- Header bytes (Table 13.5). -/
def ZMsg.header (m : ZMsg) : List Byte :=
  [byte m.typ.toNat, byte (m.dest.toNat * 32 + m.src.toNat * 4 + m.hops.toNat)] ++ beBytes 3 m.length.toNat ++
  [byte ((if m.vl then 128 else 0) + m.channel.toNat)] ++ beBytes 2 m.context.toNat ++ beBytes 8 m.args.toNat

/-- The bytes of a message: header, payload in whole words, and trailer; a PAD is its header alone (R349). -/
def ZMsg.bytes (m : ZMsg) : List Byte :=
  if m.typ = 1 then m.header
  else
    let b := m.header ++ slice m.payload 0 (16 * ceilDiv m.payload.length 16) ++ List.replicate 12 0
    b ++ beBytes 4 (crc32c b).toNat

/-! ## Sending groups (R344, R346, R347) -/

/-- Words of data blocks a codeword group holds: 40 blocks of four. -/
def groupWords : Nat := 160

/-- Show the groups held for replay. -/
def Chan.zUnacked (ch : Chan) (p : Nat) : Chan :=
  ch.setFld (R.ZLK_PORT_STATUS p) F.ZLK_PORT_STATUS_unacked (ch.zp p).unacked.length

def ZPort.queue (x : ZPort) (vl : Bool) : List ZQueued := if vl then x.queue1 else x.queue0
def ZPort.setQueue (x : ZPort) (vl : Bool) (q : List ZQueued) : ZPort :=
  if vl then { x with queue1 := q } else { x with queue0 := q }

/-- The next words of a virtual lane's stream, `n` at most: message follows message at once (R344). Answers the words, what of the queue
is left, and how many messages they end. -/
def takeWords : Nat → List ZQueued → List (List Byte) × List ZQueued × Nat
  | _, [] => ([], [], 0)
  | n, q :: qs =>
    if n = 0 then ([], q :: qs, 0)
    else
      let b := q.msg.bytes
      let k := min n (q.msg.words - q.sent)
      let ws := (List.range k).map fun i => slice b (16 * (q.sent + i)) 16
      if q.sent + k < q.msg.words then (ws, { q with sent := q.sent + k } :: qs, 0)
      else
        let (vs, rest, e) := takeWords (n - k) qs
        (ws ++ vs, rest, e + 1)

/-- Words of a lane as blocks of four with its header code; `pad` completes a partly filled one (R344). -/
def wordBlocks (vl : Bool) (pad : List Byte) (ws : List (List Byte)) : List (Nat × List Byte) :=
  (List.range (ceilDiv ws.length 4)).map fun i =>
    (if vl then 3 else 1, (((ws.drop (4 * i)).take 4) ++ List.replicate (4 - (ws.drop (4 * i)).length) pad).flatten)

/-- The blocks a lane puts into a group that has room for `room` words of it, within its credits: the blocks and the port after them. -/
def ZPort.laneBlocks (x : ZPort) (vl : Bool) (pad : List Byte) (room : Nat) : List (Nat × List Byte) × Nat × ZPort :=
  let credit := laneOf x.txLimit vl - laneOf x.txWords vl
  let (ws, rest, ends) := takeWords (4 * (min room credit / 4)) (x.queue vl)
  let bs := wordBlocks vl pad ws
  let x := x.setQueue vl rest
  (bs, ends, { x with txWords := setLane x.txWords vl (laneOf x.txWords vl + 4 * bs.length) })

/-- Send one group, of the urgent lane first; none when nothing may be sent. `pad`: the PAD message of each lane. -/
def ZPort.sendGroup (pad : Bool → List Byte) (x : ZPort) : Option ZPort :=
  if 128 ≤ x.unacked.length then none
  else
    let (b1, e1, x) := x.laneBlocks true (pad true) groupWords
    let (b0, e0, x) := x.laneBlocks false (pad false) (groupWords - 4 * b1.length)
    if (b1 ++ b0).isEmpty then none
    else
      let g : ZGroup := { num := x.txNum, blocks := b1 ++ b0, ends := e1 + e0 }
      some { x with txNum := x.txNum + 1, unacked := x.unacked ++ [g], out := .group g :: x.out }

/-- Send groups while any may be sent; at most 128 are. -/
def ZPort.pump (pad : Bool → List Byte) : Nat → ZPort → ZPort
  | 0, x => x
  | n + 1, x => match x.sendGroup pad with
    | some y => ZPort.pump pad n y
    | none => x

/-- The PAD message of a port and lane: one header word, to the neighbour (R344, R349). -/
def Chan.zPad (ch : Chan) (p : Nat) (vl : Bool) : List Byte :=
  ZMsg.header { ch.zMsg 1 (match zPartner ch.zTopo ch.zDev p with | some x => x.1 | none => ch.zDev) vl 0 0 [] with length := 1, hops := 0 }

/-- Words of messages received on a lane of port `p` that still wait for their outgoing port. -/
def Chan.relayHeld (ch : Chan) (p : Nat) (vl : Bool) : Nat :=
  (((List.range 3).flatMap fun o => ((ch.zp o).queue vl).filter fun q => q.src == p).map fun q => q.msg.words - q.sent).sum

/-- Receive buffer of a lane in words (R346). -/
def zBuffer (vl : Bool) : Nat := if vl then 2048 else 16384

/-- The limit that a lane of a port can grant now: the words received that no relay still holds, and its buffer; never less than it
granted before (R346, log 57). -/
def Chan.zLimit (ch : Chan) (p : Nat) (vl : Bool) : Nat :=
  max (laneOf (ch.zp p).rxLimit vl) (laneOf (ch.zp p).rxWords vl - ch.relayHeld p vl + zBuffer vl)

/-- A credit word, and an ack word (Table 13.3). -/
def zCreditWord (vl : Bool) (limit : Nat) : List Byte := [0x01, 0x01, if vl then 1 else 0] ++ List.replicate 5 0 ++ beBytes 8 limit
def zAckWord (nak : Bool) (num : BitVec 16) : List Byte :=
  [0x02, 0x01, if nak then 1 else 0, 0] ++ beBytes 2 num.toNat ++ List.replicate 10 0

/-- Send a control block: the words given, both lanes' grants, and idle words up to four (R345 to R347). -/
def Chan.zBlockOut (ch : Chan) (p : Nat) (ws : List (List Byte)) : Chan :=
  let lim := (ch.zLimit p false, ch.zLimit p true)
  let ch := ch.modZp p fun x => { x with rxLimit := lim }
  ch.zOut p (.control none
    ((ws ++ [zCreditWord false lim.1, zCreditWord true lim.2] ++ List.replicate 4 idleWord).take 4).flatten)

/-- A control block with the ack of the highest group received in order, once one has been (R347). -/
def Chan.zControl (ch : Chan) (p : Nat) : Chan :=
  ch.zBlockOut p (if (ch.zp p).rxAny then [zAckWord false ((ch.zp p).rxNum - 1)] else [])

/-- Buffers emptied raise the limits of a port; a grant is sent when one has grown by 256 words (R346). -/
def Chan.zGrant (ch : Chan) (p : Nat) : Chan :=
  let x := ch.zp p
  if x.rxLimit.1 + 256 ≤ ch.zLimit p false ∨ x.rxLimit.2 + 256 ≤ ch.zLimit p true then ch.zControl p else ch

/-- The alignment group of a port that is not DISABLED, every 8,192 codewords: on each lane a control block of align words (R50, R341). -/
def Chan.zAlign (ch : Chan) (p : Nat) : Chan :=
  if ch.zState p ≠ 0 ∧ ch.since (ch.zp p).alignAt 13212058 = true then
    ((List.range 4).foldl (fun (ch : Chan) l => ch.zOut p (.control (some l) (List.replicate 4 (alignWord l)).flatten)) ch).modZp p
      fun x => { x with alignAt := ch.now }
  else ch

/-- Let a port send what it can, and give back the credits of what it relayed. -/
def Chan.zPump (ch : Chan) (p : Nat) : Chan :=
  let ch := (ch.modZp p (ZPort.pump (ch.zPad p) 128)).zUnacked p
  (List.range 3).foldl (fun (ch : Chan) o => if ch.zState o = 3 ∧ o ≠ p then ch.zGrant o else ch) ch

/-- Put a message into the queue of port `p`; a SHARE that finds 4,096 waiting is dropped (R352). -/
def Chan.zQueue (ch : Chan) (p : Nat) (m : ZMsg) (src : Nat) : Chan :=
  if m.typ = 2 ∧ src = 3 ∧ 4096 ≤ ((ch.zp p).queue1.filter fun q => q.msg.typ == 2 && q.src == 3).length then
    ch.count R.ZLK_CNT_SHARE_DROP EV_ZLK_SHARE_DROP (some (m.context.toNat % 16))
  else
    (ch.modZp p fun x => x.setQueue m.vl (x.queue m.vl ++ [{ msg := m, src := src }])).zPump p

/-- A message that cannot be forwarded (R343). -/
def Chan.zUnroutable (ch : Chan) : Chan := ch.count R.ZLK_CNT_UNROUTABLE EV_ZLK_UNROUTABLE

/-- Send a message on its destination's fixed route (R343). -/
def Chan.zSend (ch : Chan) (m : ZMsg) (src : Nat := 3) : Chan :=
  match zPortTo ch.zTopo ch.zDev m.dest.toNat with
  | none => ch.zUnroutable
  | some p => if ch.zState p = 3 then ch.zQueue p m src else ch.zUnroutable

/-! ## Leaving UP (R348) -/

/-- Messages that a port loses: waiting, sent and unacknowledged, and partly received. -/
def ZPort.lost (x : ZPort) : Nat :=
  x.queue0.length + x.queue1.length + (x.unacked.map (·.ends)).sum +
  (if x.part0.bytes.isEmpty then 0 else 1) + (if x.part1.bytes.isEmpty then 0 else 1)

/-- Devices whose route begins at port `p` are out of reach: their offsets are no longer known (log 58). -/
def Chan.zForget (ch : Chan) (p : Nat) : Chan :=
  (List.range 8).foldl (fun (ch : Chan) e =>
    if zPortTo ch.zTopo ch.zDev e = some p then ch.wr (R.ZLK_OFFSET e) 0 else ch) ch

/-- A port enters another state than UP; what it held is lost. -/
def Chan.zLeave (ch : Chan) (p st : Nat) : Chan :=
  let x := ch.zp p
  let up := ch.zState p == 3
  let ch := (ch.setZp p { since := ch.now, alignAt := x.alignAt, out := x.out }).setZState p st
  let ch := (ch.zUnacked p).setFld (R.ZLK_PORT_STATUS p) F.ZLK_PORT_STATUS_lane_locked (if st = 2 ∨ st = 4 then 15 else 0)
  if up then ((ch.inc R.ZLK_CNT_LOST x.lost).raise EV_ZLK_LINK_DOWN).zForget p else ch

/-! ## Shares (R258, R352) -/

def Chan.shareFld (ch : Chan) (i : Nat) (f : Fld) : Nat := ch.fld (R.ZLK_SHARE i) f

/-- The entity entry that a verdict's SHARE carries (R352). -/
def Chan.shareEntry (ch : Chan) (j : Job) (r : VRec) : List Byte :=
  let n := ch.shareFld j.tenant F.ZLK_SHARE_key_len + 1
  let key := slice (slice j.bus (ch.shareFld j.tenant F.ZLK_SHARE_key_offset) n) 0 32
  key ++ [byte n, byte (16 * ch.idx.val + ch.shareFld j.tenant F.ZLK_SHARE_peer_tenant), 1, 0] ++
  leBytes 4 (r.code.toNat + 16 * r.classIdx.toNat + 512 * r.colour.toNat) ++ leBytes 4 j.score32 ++ leBytes 8 j.desc.time ++
  leBytes 4 r.seq.toNat ++ leBytes 4 (j.epoch % 2 ^ 32) ++ List.replicate 4 0

/-- Devices of a tenant's share relation. -/
def Chan.shareDests (ch : Chan) (i : Nat) : List Nat := bitsOf (ch.shareFld i F.ZLK_SHARE_dest_mask) 8

/-- A verdict is exported: its code is in the mask, it is no test, it read no unconfirmed peer delta, and the channel serves
(R258, R352, R353). -/
def Chan.exports (ch : Chan) (j : Job) (r : VRec) : Bool :=
  !j.desc.test && j.peers.isEmpty && !r.malformed && ch.linkState == 3 &&
  (ch.shareFld j.tenant F.ZLK_SHARE_code_mask).testBit r.code.toNat

/-- Export a verdict that has left the transmit lane (R258, R352): one SHARE to each device, unless it read an unconfirmed peer
delta or is no verdict of its code mask. -/
def Chan.exportShare (ch : Chan) (j : Job) (r : VRec) : Chan :=
  if !ch.exports j r then ch
  else
    (ch.shareDests j.tenant).foldl (fun (ch : Chan) d =>
      let m := ch.zMsg 2 d true j.tenant (r.seq.toNat * 2 ^ 32 + j.epoch % 2 ^ 32) (ch.shareEntry j r)
      let dropped := ch.rd R.ZLK_CNT_SHARE_DROP
      let lost := ch.rd R.ZLK_CNT_UNROUTABLE
      let ch := ch.zSend m
      if ch.rd R.ZLK_CNT_SHARE_DROP = dropped ∧ ch.rd R.ZLK_CNT_UNROUTABLE = lost then
        let ch := ch.inc R.ZLK_CNT_SHARES_SENT
        let x := (j.epoch, j.tenant, d)
        if ch.zlk.sharesSent.contains x then ch
        else { ch with zlk := { ch.zlk with sharesSent := ch.zlk.sharesSent ++ [x] } }
      else ch) ch

/-- Tell the peers that hold shares of an epoch something about it: a RETRACT of one verdict (R258, R259). -/
def Chan.shareRetract (ch : Chan) (j : Job) (r : VRec) : Chan :=
  if !ch.exports j r then ch
  else (ch.zlk.sharesSent.filter fun x => x.1 == j.epoch && x.2.1 == j.tenant).foldl (fun (ch : Chan) x =>
    ch.zSend (ch.zMsg 3 x.2.2 true j.tenant (j.desc.md.seq.toNat * 2 ^ 32 + j.epoch % 2 ^ 32) [])) ch

/-- The EPOCH_CLOSE messages of a closed epoch (R258). -/
def Chan.shareClose (ch : Chan) (e : Nat) : Chan :=
  let ch := if ch.linkState = 3 then (ch.zlk.sharesSent.filter fun x => x.1 == e).foldl (fun (ch : Chan) x =>
    ch.zSend (ch.zMsg 4 x.2.2 true x.2.1 e [])) ch else ch
  { ch with zlk := { ch.zlk with sharesSent := ch.zlk.sharesSent.filter fun x => x.1 != e } }

end Sys2Proof.Machine
end

