-- ==== Sys2Proof/Machine/Chk.lean ====
section
/-!
DEFINITION. Machine/Chk.lean: the Check Engine's answers (chapter 09): the forest check (R33, R251), retractions (R255 to
R257), epochs (R252, R253), peers' shares and their undo (R258, R259, R352), the transmit lane (R51, R53), and the admission
of training rows at an epoch's close (R275).
-/

namespace Sys2Proof.Machine

open Sys2Proof

/-! ## Retraction (R255 to R257) -/

/-- The RETRACT record of a verdict (Table 09.3). -/
def retractRec (r : VRec) (epoch reason : Nat) : VRec :=
  { seq := r.seq, code := 6, test := r.test, score := BitVec.ofNat 16 (r.code.toNat * 4096 + reason * 256), handle := r.handle
    colour := 3, cls := r.cls, classIdx := 31, slot := r.slot, epoch := BitVec.ofNat 16 epoch }

/-- Put a RETRACT behind those waiting and ahead of every other record (R257). -/
def insertRetract (t : TxRec) (q : List TxRec) : List TxRec :=
  q.takeWhile (fun x => decide (x.kind = .retract)) ++ [t] ++ q.dropWhile (fun x => decide (x.kind = .retract))

/-- Withdraw the verdict of a descriptor whose record has been sent: a RETRACT to the switch and to the peers that hold its
share (R257, R258); a channel that stops serving sends none. -/
def Chan.sendRetract (ch : Chan) (j : Job) (r : VRec) (reason : Nat) : Chan :=
  if ch.linkState ≠ 3 then ch
  else
    let t : TxRec := { kind := .retract, vr := retractRec r j.epoch reason, job := some j.id }
    let ch := { ch with port := { ch.port with txq := insertRetract t ch.port.txq } }
    (ch.count R.CHK_CNT_RETRACT EV_CHK_RETRACT (some j.tenant)).shareRetract j r

/-- Replace a record still held in the device by the tenant's default verdict (R251), its score zero for the peers too (R248). -/
def Chan.gatedDefault (ch : Chan) (j : Job) : Chan :=
  let r := { ch.defaultRec j with epoch := BitVec.ofNat 16 j.epoch }
  let ch := ch.count R.CHK_CNT_GATED_DEFAULT EV_CHK_GATED_DEFAULT (some j.tenant)
  let held := decide (j.stage = .held)
  let ch := ch.modJob j.id fun x => { x with stage := .queued, verdict := some r, score32 := 0, checked := true, retracted := true }
  if held then ch.pushTx { kind := .verdict, vr := r, job := some j.id }
  else { ch with port := { ch.port with
      txq := ch.port.txq.map fun t => if t.job = some j.id ∧ t.kind = .verdict then { t with vr := r } else t } }

/-- Answer an error found in the verdict of a descriptor (R251, R255, R257): its flow-state deltas are undone; a record still in
the device is replaced, one that has been sent is retracted, once. -/
def Chan.withdraw (ch : Chan) (id reason : Nat) : Chan :=
  match ch.job id with
  | none => ch
  | some j =>
    match j.verdict with
    | none => ch
    | some r =>
      let ch := ch.undoJob id
      if j.retracted then ch.modJob id fun x => { x with checked := true }
      else if j.stage = .held ∨ j.stage = .queued then ch.gatedDefault j
      else
        let ch := ch.modJob id fun x => { x with checked := true, retracted := true }
        if j.silent then ch else ch.sendRetract j r reason

/-! ## The forest check (R33, R244, R251) -/

/-- The side whose leaves made a verdict. -/
def Job.decider (j : Job) : Option Nat :=
  match j.verdict with
  | some r => j.forest.find? fun c => ctxSlot c == r.slot.toNat
  | none => none

/-- The leaf word of a matched entry, read again, passes: it is the word used, or the stored word has not changed since the search read
it. An upset that the ECC corrects fails too (R33). -/
def Chan.rereadOk (ch : Chan) (e : Nat) (u : LeafUse) : Bool :=
  let x := ch.cam e
  (match eccDecode x.leaf x.ecc with
    | .clean d => d == u.leaf
    | _ => false) || (x.leaf == u.word && x.ecc == u.ecc)

/-- What the check of a descriptor's leaves finds (R33, Table 09.4): reason and, for 1 and 2, the entry. -/
def Chan.forestFault (ch : Chan) (us : List LeafUse) (sumErr : Bool) : Option (Nat × Nat) :=
  let es := us.filterMap fun u => u.entry.map fun e => (e, u)
  match es.find? fun x => !(ch.cam x.1).good with
  | some x => some (1, x.1)
  | none =>
    match es.find? fun x => !ch.rereadOk x.1 x.2 with
    | some x => some (2, x.1)
    | none => if sumErr then some (3, 0) else none

/-- Every matched entry of a descriptor, in whichever ensemble (R33, R156). -/
def Job.leafUses (j : Job) : List LeafUse := j.leaves.flatMap (·.2)

/-- The check of a descriptor's leaves is due: 37 cc after its record was composed. -/
def Chan.checkDue (ch : Chan) (j : Job) : Bool :=
  j.verdict.isSome && !j.leafDone && !j.leaves.isEmpty && ch.sinceC j.composed 37

/-- A descriptor's forest verdict has passed its check: its deltas stand, and a Gated one leaves, with its host copy. -/
def Chan.forestPassed (ch : Chan) (j : Job) : Chan :=
  let ch := (ch.modJob j.id fun x => { x with checked := true }).undoFree j.id
  if j.stage = .held then
    let ch := ch.modJob j.id fun x => { x with stage := .queued }
    match j.verdict with
    | some r =>
      let ch := if j.copy then ch.mirrorCopy j r else ch
      ch.pushTx { kind := .verdict, vr := r, job := some j.id }
    | none => ch
  else ch

/-- FOREST_CHECK_COMPLETE (R33, R244, R251, R260): the check of the oldest descriptor whose check is due ends; `sumErr`: the adder's
recomputed sum differs. A failure withdraws the verdict that the forest formed; a verdict formed by something else stands (DEDUCED, log
139). -/
def Chan.forestCheck (ch : Chan) (sumErr : Bool) : Chan :=
  match ch.jobs.find? ch.checkDue with
  | none => ch
  | some j =>
    let ch := ch.modJob j.id fun x => { x with leafDone := true }
    match ch.forestFault j.leafUses sumErr with
    | none => if j.checked then ch else ch.forestPassed j
    | some (reason, e) =>
      let lane := if j.laneB then 1 else 0
      let ch := ch.inc R.CHK_CNT_FOREST_MISMATCH
      let ch := if reason = 3 then ch.fault 4 lane 0 0 0 0 (ch.tid j.tenant)
        else ch.fault 5 0 0 (e / 2048) (e % 2048) 0 (ch.tid j.tenant)
      let ch := if j.decider.isSome then ch.withdraw j.id reason else ch
      if reason = 3 then (if ch.safeServe then ch else ch.startTest (.tree lane) true) else ch.queueRepair e

/-! ## Peers' shares (R258, R259, R352) -/

/-- Epoch `e` has closed (R253). -/
def Chan.epochClosed (ch : Chan) (e : Nat) : Bool := ch.chk.closedAny && decide (e ≤ (ch.rd R.CHK_EPOCH_CLOSED).toNat)

/-- Undo a share (R259): its deltas, with those that later shares made in the same entries; every verdict of an open epoch that read a
delta undone is withdrawn. A verdict not composed yet is marked (0), and withdrawn when it has left. -/
def Chan.peerUndo (ch : Chan) (s : PeerShare) : Chan :=
  let (nums, ch) := ch.undoShare s.num
  let ch := { ch with chk := { ch.chk with shares := ch.chk.shares.filter fun x => x.num != s.num } }
  let ch := ch.count R.CHK_CNT_PEER_UNDO EV_CHK_PEER_UNDO
  let hit := ch.jobs.filter fun j => j.peers.any nums.contains
  hit.foldl (fun (ch : Chan) j =>
    let ch := ch.modJob j.id fun x => { x with peers := x.peers.filter (fun n => !nums.contains n) ++ if j.verdict.isSome then [] else [0] }
    if j.verdict.isSome && !ch.epochClosed j.epoch then ch.withdraw j.id 4 else ch) ch

/-- A link goes down: the shares it carried whose EPOCH_CLOSE has not arrived are undone (R259). -/
def Chan.zDown (ch : Chan) (p st : Nat) : Chan :=
  let up := ch.zState p == 3
  let ch := ch.zLeave p st
  if up then (ch.chk.shares.filter fun s => s.port == p).foldl Chan.peerUndo ch else ch

/-- Sidereal offset of a device in ps (Table 13.12), 0 while it is not known. -/
def Chan.zOffset (ch : Chan) (d : Nat) : Int :=
  if ch.flag (R.ZLK_OFFSET d) F.ZLK_OFFSET_valid then sgn 63 (ch.fld (R.ZLK_OFFSET d) F.ZLK_OFFSET_offset) else 0

/-- PEER_EPOCH_DEADLINE (R259, R356): 10 µs after the end of their origin's epoch, shares not confirmed are undone. -/
def Chan.peerDeadline (ch : Chan) : Chan :=
  let late (s : PeerShare) : Bool :=
    decide ((2000000 * (s.epoch + 1) : Nat) - ch.zOffset s.device + 10000000 ≤ (ch.ps : Int))
  (ch.chk.shares.filter late).foldl Chan.peerUndo ch

/-- The epoch whose low 32 bits are `e`, nearest to the current one. -/
def Chan.fullEpoch (ch : Chan) (e : Nat) : Nat :=
  let base := ch.epoch + 2 ^ 31 - e
  if ch.epoch + 2 ^ 31 < e then e else base / 2 ^ 32 * 2 ^ 32 + e

/-- A share not accepted (Table 13.8). -/
def Chan.shareRefused (ch : Chan) : Chan := ch.count R.ZLK_CNT_SHARE_REFUSED EV_ZLK_SHARE_REFUSED

/-- Bytes of an entity bucket as T1 holds them. -/
def Chan.entBucket (ch : Chan) (i k b : Nat) : List Byte := ch.bytes 1 i (ch.entityAddr i k b) 512

/-- Place of an entry in its candidate buckets: the entry of the same key, else a way that is not valid (R352, log 59). -/
def Chan.sharePlace (ch : Chan) (i k : Nat) (e : List Byte) : Option (Nat × Nat) :=
  let (b1, b2) := ch.entityBuckets i k (slice e 0 32)
  let all := [b1, b2].flatMap fun b => (List.range 8).map fun w => (b, w, entAt (ch.entBucket i k b) w)
  match all.find? fun x => entNames x.2.2 (slice e 0 32) (le e 32 1) (le e 33 1) with
  | some x => some (x.1, x.2.1)
  | none => (all.find? fun x => !(byteAt x.2.2 34).toNat.testBit 0).map fun x => (x.1, x.2.1)

/-- SHARE (R352): a share received on port `p` is checked, inserted and logged as unconfirmed peer deltas, one for each word of the
entry, or refused; also when the log has no room for them (log 32). -/
def Chan.recvShare (ch : Chan) (p : Nat) (m : ZMsg) : Chan :=
  let e := entParity (slice m.payload 0 64)
  let t := le e 33 1 % 128
  let i := t % 16
  let a := R.ZLK_ACCEPT i
  let k := ch.fld a F.ZLK_ACCEPT_lookup
  let ok := t / 16 == ch.idx.val && (ch.fld a F.ZLK_ACCEPT_from_mask).testBit m.src.toNat &&
    ch.fld a F.ZLK_ACCEPT_origin_tenant == m.context.toNat % 16 && ch.lookupKind i k == 1
  let (b1, b2) := ch.entityBuckets i k (slice e 0 32)
  if !ok || ch.locked i (k + 1) b1 || ch.locked i (k + 1) b2 || decide (undoSize < ch.chk.undo.length + 16) then ch.shareRefused
  else match ch.sharePlace i k e with
    | none => ch.shareRefused
    | some (b, w) =>
      let num := ch.chk.shareNum + 1
      let old := entAt (ch.entBucket i k b) w
      let s : PeerShare := { num := num, device := m.src.toNat, origin := m.context.toNat % 16, seqNo := m.args.toNat / 2 ^ 32
                             epoch := ch.fullEpoch (m.args.toNat % 2 ^ 32), port := p, at_ := ch.now }
      let ch := (List.range 16).foldl (fun (ch : Chan) x =>
        ch.undoPush (.peer num s.device i k b w x (ch.tid i) s.epoch (le old (4 * x) 4) s.seqNo)) ch
      let ch := { ch with chk := { ch.chk with shareNum := num, shares := ch.chk.shares ++ [s] } }
      ch.putEntity i k b w e

/-- RETRACT message (R259): the named share is undone; for a sequence with no applied share it is stale. -/
def Chan.recvRetract (ch : Chan) (m : ZMsg) : Chan :=
  match ch.chk.shares.find? fun s => s.device == m.src.toNat && s.origin == m.context.toNat % 16 &&
      s.seqNo == m.args.toNat / 2 ^ 32 && s.epoch % 2 ^ 32 == m.args.toNat % 2 ^ 32 with
  | some s => ch.peerUndo s
  | none => ch.inc R.ZLK_CNT_STALE

/-- EPOCH_CLOSE message (R259): the deltas of that epoch's shares are confirmed and their log entries freed; for an epoch at or
below the last closed from that origin it is stale. -/
def Chan.recvClose (ch : Chan) (m : ZMsg) : Chan :=
  let o := 16 * m.src.toNat + m.context.toNat % 16
  let e := m.args.toNat
  if e < sget (fun _ => 0) ch.chk.peerClosed o then ch.inc R.ZLK_CNT_STALE
  else
    let mine (s : PeerShare) : Bool := s.device == m.src.toNat && s.origin == m.context.toNat % 16 && s.epoch == e
    let nums := (ch.chk.shares.filter mine).map (·.num)
    let keep (d : Delta) : Bool := match d with
      | .peer n .. => !nums.contains n
      | .flow .. => true
    { ch with chk := { ch.chk with peerClosed := sset (fun _ => 0) ch.chk.peerClosed o (e + 1)
                                   shares := ch.chk.shares.filter fun s => !mine s
                                   undo := ch.chk.undo.filter keep } }.undoCount

/-! ## The transmit lane (R51, R53) -/

/-- Mark the descriptors of framed records as sent, and export their shares; one that read a peer delta undone since is
withdrawn (R258, R259). -/
def Chan.recordSent (ch : Chan) (t : TxRec) : Chan :=
  match t.kind, t.job with
  | .verdict, some id =>
    (match ch.job id with
      | none => ch
      | some j =>
        let ch := ch.modJob id fun x => { x with stage := .sent }
        let ch := ch.exportShare j t.vr
        if j.peers.contains 0 && !j.retracted then ch.withdraw id 4 else ch)
  | _, _ => ch

/-- Two descriptors belong to one flow: they have a key, and the same one in the same tenant. -/
def Job.sameFlow (a b : Job) : Bool := a.tenant == b.tenant && a.flowKey == b.flowKey && le a.flowKey 38 1 != 0

/-- Model slot `n` serves a descriptor, or may still: it is the slot of its record or, before one is composed, one of the tenant's two
slots that runs for it. -/
def Chan.servedBy (ch : Chan) (j : Job) (n : Nat) : Bool :=
  match j.verdict with
  | some r => r.slot.toNat == n
  | none => (ch.primarySlot j.tenant == n || ch.fallbackSlot j.tenant == n) && (j.forest ++ j.neural).any fun c => ctxSlot c == n

/-- A verdict record waits for that of an earlier descriptor of its flow and model slot, which has neither left nor is among those taken
for this block or frame (R28). -/
def Chan.txWaits (ch : Chan) (taken : List TxRec) (t : TxRec) : Bool :=
  match t.kind, t.job.bind ch.job with
  | .verdict, some j => t.vr.slot != 0xFF && ch.jobs.any fun k =>
      decide (k.id < j.id) && !k.silent && k.stage != .sent && k.stage != .done && k.sameFlow j && ch.servedBy k t.vr.slot.toNat &&
      !taken.any fun x => x.job == some k.id
  | _, _ => false

/-- The records that the next block or frame of at most `n` carries, and those left: in the order they became ready, but for those that
wait (R28). -/
def Chan.pickTx (ch : Chan) (n : Nat) : List TxRec × List TxRec :=
  ch.port.txq.foldl (fun x t =>
    if x.1.length < n && !ch.txWaits x.1 t then (x.1 ++ [t], x.2) else (x.1, x.2 ++ [t])) ([], [])

/-- Frame the records `ts`, and leave `rest` in the transmit queue. -/
def Chan.transmit (ch : Chan) (ts rest : List TxRec) : Chan :=
  let ch := { ch with port := { ch.port with txq := rest } }
  let rs := ts.map (·.vr)
  let ch := ch.portSend (if ch.mirror then verdictFrame ch.ethDa ch.ethSa rs else verdictBlock none rs)
  ts.foldl Chan.recordSent ch

/-- EPOCH_CLOSE of every closed epoch whose last share has gone: no record of it that could still be exported waits (R258). -/
def Chan.sendCloses (ch : Chan) : Chan :=
  let waits (e : Nat) : Bool := ch.jobs.any fun j => j.epoch == e && j.verdict.isSome && !j.silent && j.stage != .sent && j.stage != .done
  let es := (((ch.zlk.sharesSent.map (·.1)).filter fun e => ch.epochClosed e && !waits e).dedup).insertionSort (· ≤ ·)
  es.foldl Chan.shareClose ch

/-- Records a block or a frame carries. -/
def Chan.frameMax (ch : Chan) : Nat := if ch.mirror then 8 else 3

/-- Descriptors that need no more: answered in a closed epoch, their record sent or none to send, every NEURAL result in, their leaves
checked. -/
def Chan.dropDone (ch : Chan) : Chan :=
  let netsIn (j : Job) : Bool := j.neural.all fun c => (sfind j.nets c).isSome
  let parked (j : Job) : Bool := ch.vpe.wfq.any fun x => x.unit == 35 && x.index == j.id
  let done (j : Job) : Bool := j.verdict.isSome && !parked j && ch.epochClosed j.epoch && netsIn j && (j.leafDone || j.leaves.isEmpty) &&
    (decide (j.stage = .sent) || j.silent)
  { ch with jobs := ch.jobs.filter fun j => !done j }

/-- VERDICT_TRANSMIT (R28, R51, R53): the records ready are framed in order, as many as a block or frame carries. -/
def Chan.verdictTransmit (ch : Chan) : Chan :=
  let (ts, rest) := ch.pickTx ch.frameMax
  if ch.linkState ≠ 3 ∨ ts.isEmpty = true then ch else (ch.transmit ts rest).sendCloses.dropDone

/-- RETRACT_TRANSMIT (R257): the RETRACT records at the head of the queue are sent ahead of every verdict not yet framed. -/
def Chan.retractTransmit (ch : Chan) : Chan :=
  let n := min (ch.port.txq.takeWhile fun x => decide (x.kind = .retract)).length ch.frameMax
  if ch.linkState ≠ 3 ∨ n = 0 then ch else (ch.transmit (ch.port.txq.take n) (ch.port.txq.drop n)).dropDone

/-! ## Epochs (R249, R252, R253, R275) -/

/-- EPOCH_BOUNDARY (R252, R249): CHK_EPOCH reads the epoch of the Sidereal time, and pending verdict modes take effect. -/
def Chan.epochBoundary (ch : Chan) : Chan :=
  let e := ch.ns / 2000
  if e = ch.epoch then ch
  else
    let ch := ch.wr R.CHK_EPOCH (BitVec.ofNat 64 e)
    match ch.chk.vmodeNext with
    | none => ch
    | some v =>
      let ch := (ch.setFld R.CHK_VMODE F.CHK_VMODE_gated v).setFld R.CHK_VMODE F.CHK_VMODE_pending 0
      { ch with chk := { ch.chk with vmodeNext := none } }

/-- CHK_VMODE_WRITE (R249): the modes wait for the next epoch boundary. -/
def Chan.vmodeWrite (ch : Chan) (v : Word) : Chan :=
  let w := getF v F.CHK_VMODE_gated
  let ch := { ch with chk := { ch.chk with vmodeNext := some w } }
  ch.setFld R.CHK_VMODE F.CHK_VMODE_pending (Nat.xor w (ch.fld R.CHK_VMODE F.CHK_VMODE_gated))

/-- A verdict keeps its epoch open (R253): it is not yet checked, a peer delta it read is neither confirmed nor undone, or it is still to
be withdrawn for one that was undone before it was composed (R259). -/
def Chan.keepsOpen (ch : Chan) (j : Job) : Bool :=
  j.verdict.isSome && ((!j.checked && !j.retracted) || (j.peers.contains 0 && !j.retracted && !j.silent) ||
    ch.chk.shares.any fun s => j.peers.contains s.num)

/-- A training context admits a row (R275): its verdict's code, colour and score are as the policy asks and it was not
retracted. -/
def Chan.admits (ch : Chan) (g : Nat) (j : Job) (r : VRec) : Bool :=
  let k := R.TRN_POLICY g
  (ch.fld k F.TRN_POLICY_code_mask).testBit r.code.toNat && !j.retracted &&
  (r.colour == 0 || (r.colour == 1 && ch.flag k F.TRN_POLICY_allow_yellow)) &&
  !fpLt (fpOfHalf (ch.fld k F.TRN_POLICY_score_max)) (fpOfHalf r.score.toNat)

/-- At the close of epochs up to `e`, the candidate rows whose verdicts belong to them are admitted or dropped; so are rows whose
descriptor is gone (log 60). -/
def Chan.admitRows (ch : Chan) (e : Nat) : Chan :=
  (List.range 4).foldl (fun (ch : Chan) g =>
    let t := ch.trnCtx g
    let state (x : TrnRow) : Option Bool := match ch.job x.job with
      | none => some false
      | some j => (match j.verdict with
        | some r => if j.epoch ≤ e then some (ch.admits g j r) else none
        | none => none)
    if t.ring.isEmpty then ch
    else ch.setTrn g { t with
      admitted := t.admitted ++ t.ring.filter fun x => state x == some true
      ring := t.ring.filter fun x => state x == none }) ch

/-- Close every epoch up to `last` (R253): their EPOCH_CLOSE messages go out once their last shares have (R258). -/
def Chan.closeEpochs (ch : Chan) (last : Nat) : Chan :=
  let ch := ch.wr R.CHK_EPOCH_CLOSED (BitVec.ofNat 64 last)
  ((({ ch with chk := { ch.chk with closedAny := true } } : Chan).sendCloses).admitRows last).dropDone

/-- EPOCH_CLOSES (R253): every epoch that has ended and keeps no verdict open closes, in order. -/
def Chan.epochCloses (ch : Chan) : Chan :=
  let next := if ch.chk.closedAny then (ch.rd R.CHK_EPOCH_CLOSED).toNat + 1 else 0
  let stop := (ch.jobs.filter ch.keepsOpen).foldl (fun a j => min a j.epoch) (min ch.epoch (ch.ns / 2000))
  if next < stop then ch.closeEpochs (stop - 1) else ch

end Sys2Proof.Machine
end

