-- ==== Sys2Proof/Machine/Recovery.lean ====
section
/-!
DEFINITION. Machine/Recovery.lean: what follows a failed check (R260 to R265): self-tests, fences, remaps, rebuilds of Leaf
CAM banks and the dispatch hold; the model digest re-check (R266), the Night-sky sweep and the scrub (R267 to R269).
-/

namespace Sys2Proof.Machine

open Sys2Proof

/-! ## Units -/

/-- The two runs of a targeted self-test that began at time `t` have ended (Table 09.6). -/
def Chan.testDue (ch : Chan) (t : Nat) : TestUnit → Bool
  | .quadrant .. => ch.sinceC t 2120
  | .ristretto _ => ch.since t (800 * nsG)
  | .tree _ => ch.since t (400 * nsG)
  | .entry .. => ch.since t (80 * nsG)
  | .bank _ => ch.since t (1600 * nsG)

/-- Partition of engine `e` in its present mode that contains quadrant `q`. -/
def Chan.partOfQuad (ch : Chan) (e q : Nat) : Nat :=
  ((List.range 7).find? fun p => partMode p == ch.fld (R.MXE_CTRL e) F.MXE_CTRL_part_mode && (partQuads p).contains q).getD 0

/-- The ensemble descriptor that owns a bank. -/
def Chan.bankEns (ch : Chan) (b : Nat) : Option Nat := (List.range 32).find? fun n => ch.ensValid n && (ch.ensBanks n).testBit b

/-- A bank belongs to a one-copy ensemble, whose test and rebuild hold dispatch (Table 09.6). -/
def Chan.oneCopy (ch : Chan) (b : Nat) : Bool :=
  match ch.bankEns b with
  | some n => ch.ensFld n F.FST_ENS_CFG_copies == 1
  | none => false

/-- The hold of R265 ends once no test, remap or rebuild that holds dispatch remains. -/
def Chan.holdEnds (ch : Chan) : Chan :=
  if ch.chk.tests.any (·.hold) || ch.chk.remaps.any (·.hold) || ch.chk.rebuilds.any (·.hold) then ch
  else { ch with chk := { ch.chk with holdAt := none } }

/-- Set or clear the fence of a unit (R263, Table 09.12). -/
def Chan.setFence (ch : Chan) (u : TestUnit) (b : Bool) : Chan :=
  let put (ch : Chan) (r : Nat) (f : Fld) (i : Nat) : Chan := ch.setFld r f (putBit (ch.fld r f) i b)
  match u with
  | .quadrant e q => put (put ch R.CHK_FENCE F.CHK_FENCE_quadrants (4 * e + q)) (R.MXE_STATUS e) F.MXE_STATUS_fenced q
  | .ristretto v => put (put ch R.CHK_FENCE F.CHK_FENCE_rvu v) R.RVU_STATUS F.RVU_STATUS_fenced v
  | .tree l => put ch R.CHK_FENCE F.CHK_FENCE_trees l
  | .bank x => put ch R.CHK_FENCE_BANKS F.CHK_FENCE_BANKS_banks x
  | .entry .. => ch

/-- Fence a unit whose fault is lasting, and leave its work to the Lodestar's remap (R263, R264). -/
def Chan.fence (ch : Chan) (u : TestUnit) (hold : Bool) : Chan :=
  let ch := (ch.setFence u true).setFld R.CHK_FAULT F.CHK_FAULT_outcome 2
  let ch := ch.count R.CHK_CNT_FENCE EV_CHK_FENCE
  { ch with chk := { ch.chk with
      remaps := ch.chk.remaps ++ [{ unit := u, at_ := ch.now, hold := hold, target := [], source := [] }]
      holdAt := if hold ∧ ch.chk.holdAt.isNone then some ch.now else ch.chk.holdAt } }

/-! ## Work that waits for a unit -/

/-- Change every chain: those of the tiles, and those that wait for a slot (R207). -/
def Chan.mapChains (ch : Chan) (f : Tile → Tile) : Chan :=
  { ch with eng := { ch.eng with
      tiles := ch.eng.tiles.map fun x => (x.1, x.2.map f)
      saved := ch.eng.saved.map fun s => { s with tile := f s.tile } } }

/-- Change every failed STREAM. -/
def Chan.mapRedos (ch : Chan) (f : Redo → Redo) : Chan :=
  (List.range 32).foldl (fun (ch : Chan) k =>
    if (ch.part k).redo.isEmpty then ch else ch.modPart k fun p => { p with redo := p.redo.map f }) ch

/-- A failed STREAM waits for the test of quadrant `u`, 4 × engine + quadrant. -/
def Chan.redoWaits (ch : Chan) (u : Nat) (r : Redo) : Bool :=
  r.restart.isNone && r.tested.head? == some u && !r.ops.any fun o => ch.flying r.ctx o.2.1

/-- A chain waits for the test of quadrant `u`. -/
def Tile.waitsFor (t : Tile) (u : Nat) : Bool := t.waiting && !t.dead && t.restart.isNone && t.tested.head? == some u

/-- A chain restarts from its first operation (R262). -/
def Tile.again (now : Nat) (t : Tile) : Tile := { t with restart := some now, words := [], issued := 0 }

/-- A unit has passed its tests: what waited for it starts again (R262). -/
def Chan.resume (ch : Chan) (u : TestUnit) : Chan :=
  match u with
  | .quadrant e q =>
    (ch.mapChains fun t => if t.waitsFor (4 * e + q) then t.again ch.now else t).mapRedos fun r =>
      if ch.redoWaits (4 * e + q) r then { r with restart := some ch.now } else r
  | .ristretto v => ch.rerunDots fun d => d.waiting && d.tested.head? == some v
  | _ => ch

/-! ## Self-tests (R260) -/

/-- Transients of a unit within the last second, and those kept. -/
def Chan.transientsOf (ch : Chan) (u : TestUnit) : Nat :=
  (ch.chk.transients.filter fun t => decide (t.1 = u) && decide (ch.now < t.2 + 1000 * msG)).length

/-- A unit passed both runs: it was hit by a transient (R260). More than transient_limit of them within 1 s fence it; of an entry,
they test its bank. -/
def Chan.transient (ch : Chan) (t : SelfTest) : Chan :=
  let ch := (ch.count R.CHK_CNT_TRANSIENT EV_CHK_TRANSIENT).setFld R.CHK_FAULT F.CHK_FAULT_outcome 1
  let ch := { ch with chk := { ch.chk with
      transients := (t.unit, ch.now) :: ch.chk.transients.filter fun x => decide (ch.now < x.2 + 1000 * msG) } }
  let lim := max 1 (ch.fld R.CHK_CTRL F.CHK_CTRL_transient_limit)
  let over_ := decide (lim < ch.transientsOf t.unit)
  let forget (ch : Chan) : Chan :=
    { ch with chk := { ch.chk with transients := ch.chk.transients.filter fun x => decide (x.1 ≠ t.unit) } }
  match t.unit with
  | .entry b _ => if over_ then (forget ch).startTest (.bank b) (ch.oneCopy b) else ch
  | .bank _ => ch
  | u => if over_ then (forget ch).fence u t.hold else ch.resume u

/-- An entry fails its read-back, or a unit either run (R260, R263). -/
def Chan.lasting (ch : Chan) (t : SelfTest) : Chan :=
  match t.unit with
  | .entry b _ => (ch.fault 3 0 0 b 0 0 0).startTest (.bank b) (ch.oneCopy b)
  | u => ch.fence u t.hold

/-- Clear the pending bit of an unfence test (Table 00.2, RW1S). -/
def Chan.unfenceDone (ch : Chan) (u : TestUnit) : Chan :=
  let put (r : Nat) (f : Fld) (i : Nat) : Chan := ch.setFld r f (putBit (ch.fld r f) i false)
  match u with
  | .quadrant e q => put R.CHK_UNFENCE F.CHK_UNFENCE_unfence (4 * e + q)
  | .ristretto v => put R.CHK_UNFENCE F.CHK_UNFENCE_unfence (16 + v)
  | .tree l => put R.CHK_UNFENCE F.CHK_UNFENCE_unfence (18 + l)
  | .bank b => put R.CHK_UNFENCE_BANKS F.CHK_UNFENCE_BANKS_unfence b
  | .entry .. => ch

/-- SELF_TEST_COMPLETE (R260, R263, R265): the oldest self-test whose two runs have taken their time ends; `pass`: both passed.
In Safe Serve no test runs. -/
def Chan.selfTestComplete (ch : Chan) (pass : Bool) : Chan :=
  if ch.safeServe then ch
  else match ch.chk.tests.find? fun t => ch.testDue t.at_ t.unit with
  | none => ch
  | some t =>
    let ch := { ch with chk := { ch.chk with tests := ch.chk.tests.erase t } }
    let ch :=
      if t.un then (if pass then ch.setFence t.unit false else ch).unfenceDone t.unit
      else if pass then ch.transient t
      else ch.lasting t
    ch.holdEnds

/-- Start the tests of a CHK_UNFENCE write (R263, R270): of bits that are fenced and not pending. -/
def Chan.unfence (ch : Chan) (reg : Nat) (f : Fld) (n : Nat) (unit : Nat → TestUnit) (fenced : Nat) (v : Word) : Chan :=
  (bitsOf (getF v f) n).foldl (fun (ch : Chan) i =>
    if fenced.testBit i ∧ (ch.fld reg f).testBit i = false then
      let ch := ch.setFld reg f (putBit (ch.fld reg f) i true)
      { ch with chk := { ch.chk with tests := ch.chk.tests ++ [{ unit := unit i, at_ := ch.now, hold := false, un := true }] } }
    else ch) ch

/-- Unit of a bit of CHK_FENCE. -/
def fenceUnit (i : Nat) : TestUnit :=
  if i < 16 then .quadrant (i / 4) (i % 4) else if i < 18 then .ristretto (i - 16) else .tree (i - 18)

/-- CHK_UNFENCE (R263). -/
def Chan.unfenceWrite (ch : Chan) (v : Word) : Chan :=
  ch.unfence R.CHK_UNFENCE F.CHK_UNFENCE_unfence 20 fenceUnit ((ch.rd R.CHK_FENCE).toNat % 2 ^ 20) v

/-- CHK_UNFENCE_BANKS (R263). -/
def Chan.unfenceBanksWrite (ch : Chan) (v : Word) : Chan :=
  ch.unfence R.CHK_UNFENCE_BANKS F.CHK_UNFENCE_BANKS_unfence 32 (fun i => .bank i) ((ch.rd R.CHK_FENCE_BANKS).toNat % 2 ^ 32) v

/-! ## Remapping a partition (R264) -/

/-- What a search for a remap target answers. -/
inductive Target where
  | owned (e p : Nat)
  | fresh (e : Nat)
  | none_
  deriving DecidableEq, Repr

/-- First target for partition `p` of engine `e`: one of the same shape and tenant, else one of an engine the host left off. -/
def Chan.remapTarget (ch : Chan) (e p tid : Nat) : Target :=
  let all := (List.range 4).flatMap fun x => (List.range 7).map fun y => (x, y)
  match all.find? fun x => x != (e, p) && partSize x.2 == partSize p && ch.partServes x.1 x.2 tid with
  | some x => .owned x.1 x.2
  | none =>
    match (List.range 4).find? fun x => x != e && !ch.flag (R.MXE_CTRL x) F.MXE_CTRL_enable && ch.engineIdle x &&
        !ch.partFenced x p with
    | some x => .fresh x
    | none => .none_

/-- Configure an engine for a tenant as engine `e` is (R168, R170). -/
def Chan.configureFor (ch : Chan) (x e tid : Nat) : Chan :=
  let mode := ch.fld (R.MXE_CTRL e) F.MXE_CTRL_part_mode
  let ch := (ch.setFld (R.MXE_CTRL x) F.MXE_CTRL_part_mode mode).setFlag (R.MXE_CTRL x) F.MXE_CTRL_enable true
  let ch := (List.range 4).foldl (fun (ch : Chan) q =>
    (ch.setFld (R.MXE_PART x) (F.MXE_PART_owner q) tid).setFlag (R.MXE_PART x) (F.MXE_PART_assigned q) true) ch
  ch.clearQuads x (List.range 4)

/-- Point every logical partition that runs on (e, p) to (x, y) in CHK_REMAP. -/
def Chan.pointTo (ch : Chan) (e p x y : Nat) : Chan :=
  let logical := (List.range 4).flatMap fun l => (List.range 7).map fun m => (l, m)
  (logical.filter fun l => ch.physical l.1 l.2 == (e, p) && partMode l.2 == ch.fld (R.MXE_CTRL l.1) F.MXE_CTRL_part_mode).foldl
    (fun (ch : Chan) l =>
      let j := (4 * l.1 + (partQuads l.2).headD 0) % 8
      let r := if l.1 < 2 then R.CHK_REMAP_0 else R.CHK_REMAP_1
      ((ch.setFld r (F.CHK_REMAP_0_engine j) x).setFld r (F.CHK_REMAP_0_partition j) y).setFlag r (F.CHK_REMAP_0_remapped j) true) ch

/-- A failed STREAM with an operation on partition `k` runs again on `k'` there; failures count afresh on the new unit (R261). -/
def Redo.moved (now k k' : Nat) (r : Redo) : Redo :=
  if r.ops.any (·.1 == k) then
    { r with ops := r.ops.map (fun o => if o.1 = k then (k', o.2) else o), restart := some now, fails := 0 }
  else r

/-- A chain with operations on partition `k` goes to `k'` there and starts from its first operation (R262). -/
def Tile.moved (now k k' : Nat) (t : Tile) : Tile :=
  if t.group.contains k ∧ t.dead = false then
    { t.again now with part := if t.part = k then k' else t.part, group := t.group.map fun x => if x = k then k' else x, fails := 0 }
  else t

/-- Put the tile of a chain that has moved from partition `k` to `k'` where its new home engine keeps it. -/
def Chan.moveTile (k' : Nat) (ch : Chan) (tk : Nat) : Chan :=
  match ch.tile tk with
  | some t =>
    let st := ch.tileState tk
    ((ch.freeTile tk).setTile (tileKey (k' / 8) (tk % 16)) (some t)).setTileState (tileKey (k' / 8) (tk % 16)) st
  | none => ch

/-- Move the work of partition `k` to partition `k'`: what is queued, its drain slot, its failed STREAMs, and its chains, which restart. -/
def Chan.moveWork (ch : Chan) (k k' : Nat) : Chan :=
  let tks := ch.tilesOn k
  let ch := ch.mapRedos (Redo.moved ch.now k k')
  let a := ch.part k
  let b := ch.part k'
  let ch := (ch.setPart k { a with queue := [], parked := [], drain := none, redo := [], tile := none }).dropImages k
  let ch := ch.setPart k' { b with queue := b.queue ++ a.queue, parked := b.parked ++ a.parked, drain := a.drain, tile := a.tile
                                   redo := b.redo ++ a.redo }
  let ch := { ch with
    vpe := { ch.vpe with wfq := ch.vpe.wfq.map fun (x : WfqItem) => if x.unit = k then { x with unit := k' } else x }
    eng := { ch.eng with saved := ch.eng.saved.map fun (s : Saved) =>
      if s.tile.part = k then { s with key := tileKey (k' / 8) (s.key % 16), addr := none } else s } }
  let ch := tks.foldl (Chan.moveTile k') (ch.mapChains (Tile.moved ch.now k k'))
  ch.pump k'

/-- A partition can take over the work of another now: nothing of its own stands in its accumulators, the tiles are free, and what is in
flight or being read out of the other has ended. -/
def Chan.canTake (ch : Chan) (k k' : Nat) : Bool :=
  let a := ch.part k
  let b := ch.part k'
  a.flights.isEmpty && a.crema.isNone && b.tile.isNone && b.crema.isNone && b.drain.isNone &&
  (ch.tilesOn k).all fun tk => (ch.tile (tileKey (k' / 8) (tk % 16))).isNone

/-- Failed STREAMs with their home partitions. -/
def Chan.redos (ch : Chan) : List (Nat × Redo) := (List.range 32).flatMap fun k => (ch.part k).redo.map fun r => (k, r)

/-- A chain that has nowhere to run: its operations are refused under R167 (the whole of its group, log 41), and its tile is FREE once its
rows have landed. -/
def Chan.refuseChain (k : Nat) (ch : Chan) (tk : Nat) : Chan :=
  match ch.tile tk with
  | some t =>
    if t.group.contains k ∧ t.dead = false then
      let ch := (ch.liveOps t).foldl (fun (ch : Chan) i => ch.opReject t.ctx i (k / 8) false) ((ch.stopChain t).unqueueChain t)
      let ch := ch.dropDrain tk t fun ch ctx i => ch.opReject ctx i (k / 8) false
      (ch.setTile tk (some { t with dead := true })).reapTile tk
    else ch
  | none => ch

/-- The same for a chain that waits for its tenant's slot (R207). -/
def Chan.refuseSaved (k : Nat) (ch : Chan) (s : Saved) : Chan :=
  if s.tile.group.contains k then
    let ch := (ch.liveOps s.tile).foldl (fun (ch : Chan) i => ch.opReject s.tile.ctx i (k / 8) false) (ch.unqueueChain s.tile)
    let ch := match s.drain with | some d => ch.opReject d.ctx d.index (k / 8) false | none => ch
    { ch with eng := { ch.eng with saved := ch.eng.saved.filter fun x => x ≠ s } }
  else ch

/-- Work aimed at a partition of a fenced unit is refused under R167, and its runs fail (R227). -/
def Chan.dropWork (ch : Chan) (k : Nat) : Chan :=
  let ch := (List.range 64).foldl (Chan.refuseChain k) ch
  let ch := ch.eng.saved.foldl (Chan.refuseSaved k) ch
  let ch := ch.redos.foldl (fun (ch : Chan) x =>
    if x.2.ops.any (·.1 == k) then
      x.2.ops.foldl (fun (ch : Chan) o => ch.opReject x.2.ctx o.2.1 (k / 8) false) (ch.modPart x.1 fun p => { p with redo := p.redo.filter fun r => r ≠ x.2 })
    else ch) ch
  let p := ch.part k
  let ch := ch.modPart k fun p => { p with queue := [], parked := [] }
  (p.queue ++ p.parked).foldl (fun (ch : Chan) q => ch.opReject q.1 q.2.2 (k / 8) false) ch

/-- Work that has nowhere to run (R264). -/
def Chan.refuseWork (ch : Chan) (k : Nat) : Chan := (ch.raise EV_CHK_REMAP_NONE).dropWork k

/-- Work that waits for the self-test of quadrant `u` fails, since Safe Serve runs none, and its slot gives no result (R265). -/
def Chan.dropWaiting (ch : Chan) (u : Nat) : Chan :=
  let ch := ch.redos.foldl (fun (ch : Chan) x => if ch.redoWaits u x.2 then (ch.mute x.2.ctx).endRedo x.1 x.2 1 else ch) ch
  let ch := (List.range 64).foldl (fun (ch : Chan) tk => match ch.tile tk with
    | some t => if t.waitsFor u then (ch.mute t.ctx).killChain tk 1 else ch
    | none => ch) ch
  ch.eng.saved.foldl (fun (ch : Chan) s =>
    if s.tile.waitsFor u then
      let ch := (ch.liveOps s.tile).foldl (fun (ch : Chan) i => ch.cmdDone s.tile.ctx i 1) (ch.unqueueChain s.tile)
      let ch := match s.drain with | some d => ch.cmdDone d.ctx d.index 1 | none => ch
      { ch.mute s.tile.ctx with eng := { ch.eng with saved := ch.eng.saved.filter fun x => x ≠ s } }
    else ch) ch

/-- The remap of a fenced quadrant's partition: none while its target cannot take it yet. -/
def Chan.remapPart (ch : Chan) (e q : Nat) : Option Chan :=
  let p := ch.partOfQuad e q
  let k := partKey e p
  let tid := ch.fld (R.MXE_PART e) (F.MXE_PART_owner q)
  match ch.remapTarget e p tid with
  | .owned x y =>
    if ch.canTake k (partKey x y) then some ((ch.pointTo e p x y).moveWork k (partKey x y)) else none
  | .fresh x =>
    if ch.canTake k (partKey x p) then some (((ch.configureFor x e tid).pointTo e p x p).moveWork k (partKey x p)) else none
  | .none_ => some (ch.refuseWork k)

/-! ## Remapping a Ristretto unit (R264) -/

/-- MVR commands with work on a unit: context and command. -/
def Chan.mvrsOn (ch : Chan) (u : Nat) : List (Nat × Nat) :=
  (((ch.rvu u).dots.map fun d => (d.ctx, d.index)) ++
    ((ch.vpe.wfq.filter fun x => x.unit == 32 + u).map fun x => (x.ctx, x.index))).dedup

/-- Take an MVR off both units. -/
def Chan.mvrOff (ch : Chan) (c : Nat × Nat) : Chan :=
  (ch.wfqDrop fun (x : WfqItem) => (x.unit == 32 || x.unit == 33) && x.ctx == c.1 && x.index == c.2).dropDots fun d =>
    (d.ctx, d.index) == c

/-- Run the MVRs of a fenced unit again, whole, on the healthy one; without one they are refused (R262, R264). -/
def Chan.remapRvu (ch : Chan) (u : Nat) : Chan :=
  let cs := ch.mvrsOn u
  let ch := if (ch.rvuRunner u).isNone then ch.raise EV_CHK_REMAP_NONE else ch
  cs.foldl (fun (ch : Chan) c =>
    let m := match ch.run c.1 with | some r => r.m | none => 0
    (ch.mvrOff c).toOwnUnit c.1 c.2 m) ch

/-- Safe Serve begins (R265, R418): the hold ends at once, and work whose remap is incomplete, or that waits for a test, fails. -/
def Chan.safeWork (ch : Chan) : Chan :=
  let mvrs (status : Nat) (cs : List (Nat × Nat)) (ch : Chan) : Chan :=
    cs.foldl (fun (ch : Chan) c => if status = 0 then (ch.mvrOff c).mvrReject c.1 c.2 else ((ch.mute c.1).mvrOff c).cmdDone c.1 c.2 status)
      ch
  let ch := ch.chk.remaps.foldl (fun (ch : Chan) r => match r.unit with
    | .quadrant e q => ch.dropWork (partKey e (ch.partOfQuad e q))
    | .ristretto u => mvrs 0 (ch.mvrsOn u) ch
    | _ => ch) ch
  let ch := ch.chk.tests.foldl (fun (ch : Chan) t => match t.unit with
    | .quadrant e q => ch.dropWaiting (4 * e + q)
    | .ristretto u =>
      mvrs 1 ((((ch.rvu u).dots.filter fun (d : Dot) => d.waiting).map fun (d : Dot) => (d.ctx, d.index)).eraseDups) ch
    | _ => ch) ch
  let k := { ch.chk with
    tests := ch.chk.tests.map fun (t : SelfTest) => { t with hold := false }
    remaps := ch.chk.remaps.map fun (r : Remap) => { r with hold := false }
    rebuilds := ch.chk.rebuilds.map fun (r : Remap) => { r with hold := false }
    holdAt := none }
  { ch with chk := k }

/-! ## Rebuilding Leaf CAM banks (R264) -/

/-- A bank that a rebuild may take. -/
def Chan.rebuildFree (ch : Chan) (b : Nat) : Bool :=
  ch.bankFree b && (match ch.models.staging with | some s => !s.banks.testBit b | none => true)

/-- Lowest free bank of `cands` between the neighbours of bank `b` in a copy. -/
def Chan.between (ch : Chan) (copy cands : List Nat) (b : Nat) : Option Nat :=
  let lo := ((copy.filter fun x => decide (x < b)).foldl (fun a x => max a (x + 1)) 0)
  let hi := ((copy.filter fun x => decide (b < x)).foldl min 32)
  cands.find? fun f => decide (lo ≤ f ∧ f < hi) && ch.rebuildFree f

/-- What the Lodestar decides for a fenced bank: targets and the banks they replace; none when nothing is rebuilt. -/
def Chan.rebuildPlan (ch : Chan) (b : Nat) : Option (List Nat × List Nat) :=
  match ch.bankEns b, sget (fun _ => none) ch.fst.golden b with
  | some n, some _ =>
    let copy := ch.copyBanks n b
    let two := ch.ensFld n F.FST_ENS_CFG_copies == 2
    let cands := if two then (if b < 16 then List.range 16 else (List.range 16).map (· + 16)) else List.range 32
    match ch.between copy cands b with
    | some f => some ([f], [b])
    | none =>
      let free := cands.filter ch.rebuildFree
      if copy.length ≤ free.length then some (free.take copy.length, copy) else none
  | _, _ => none

/-- The Lodestar begins the rebuild of a fenced bank, one at a time: none while another runs. -/
def Chan.remapBank (ch : Chan) (b : Nat) (hold : Bool) : Option Chan :=
  if !ch.chk.rebuilds.isEmpty then none
  else match ch.rebuildPlan b with
    | some (target, source) =>
      let keep := hold && target.length == 1
      some { ch with chk := { ch.chk with
        rebuilds := [{ unit := .bank b, at_ := ch.now, hold := keep, target := target, source := source }] } }
    | none => some (if ch.oneCopy b then ch.raise EV_CHK_REMAP_NONE else ch)

/-- REMAP_COMPLETE (R264, R265): the Lodestar finishes the oldest remap it can, and the hold may end. In Safe Serve it waits. -/
def Chan.remapStep : List Remap → Chan → Chan
  | [], ch => ch
  | r :: rest, ch =>
    let done := match r.unit with
      | .quadrant e q => ch.remapPart e q
      | .ristretto u => some (ch.remapRvu u)
      | .bank b => ch.remapBank b r.hold
      | _ => some ch
    match done with
    | some ch => { ch with chk := { ch.chk with remaps := ch.chk.remaps.erase r } }.holdEnds
    | none => Chan.remapStep rest ch

def Chan.remapComplete (ch : Chan) : Chan := if ch.safeServe then ch else ch.remapStep ch.chk.remaps

/-- Write one bank of an image, at its position in the copy. -/
def Chan.rebuildBank (ch : Chan) (img : List Byte) (g : Golden) (b j : Nat) : Chan :=
  let ch := (List.range 2048).foldl (fun (ch : Chan) e =>
    ch.commitEntry (2048 * b + e) (camOfBits (Config.camEntry img (2048 * j + e)))) ch
  let defs := (List.range 128).foldl (fun m i =>
    let d := BitVec.ofNat 64 (Config.camDefault img (128 * j + i))
    sset (fun _ => (0, 0)) m (128 * b + i) (d, eccOf d)) ch.fst.defaults
  { ch with fst := { ch.fst with defaults := defs, golden := sset (fun _ => none) ch.fst.golden b (some g) } }

/-- BANK_REBUILD_COMPLETE (R264, R265): the image has been written into the target banks, and bank_mask names them in place of
the old ones. An image whose seals fail every copy is not used. -/
def Chan.rebuildStep (ch : Chan) : Chan :=
  match ch.chk.rebuilds with
  | [] => ch
  | r :: rest =>
    let ch := { ch with chk := { ch.chk with rebuilds := rest } }
    let b := r.source.headD 0
    match ch.bankEns b, sget (fun _ => none) ch.fst.golden b with
    | some n, some g =>
      let (ok, ch) := ch.goldenKind (ctxOf g.slot g.side) 6
      if !ok then ch.holdEnds
      else
        let img := ch.goldBytes (ctxOf g.slot g.side) 6
        let copy := ch.copyBanks n b
        let js := if r.target.length = 1 then [(copy.findIdx? (· == b)).getD 0] else List.range r.target.length
        let ch := (r.target.zip js).foldl (fun (ch : Chan) x => ch.rebuildBank img g x.1 x.2) ch
        let m := r.source.foldl (fun m x => putBit m x false) (ch.ensBanks n)
        let m := r.target.foldl (fun m x => putBit m x true) m
        let ch := ch.setFld (R.FST_ENS_BANKS n) F.FST_ENS_BANKS_bank_mask m
        let ctx := ctxOf g.slot g.side
        let ch := ch.setSide ctx { ch.side ctx with banks := m }
        let ch := { ch with fst := { ch.fst with
            golden := r.source.foldl (fun g x => sset (fun _ => none) g x none) ch.fst.golden } }
        ch.holdEnds
    | _, _ => ch.holdEnds

def Chan.rebuildComplete (ch : Chan) : Chan := if ch.safeServe then ch else ch.rebuildStep

/-! ## Digest re-check (R266) -/

/-- Contexts of the serving sides. -/
def Chan.servingCtxsAll (ch : Chan) : List Nat :=
  ((List.range 64).filter fun n => ch.slotEnabled n && ch.servingState n == 1).map fun n => ctxOf n (ch.servingSide n)

/-- Seal table and sum blocks of a copy of a side, and its tiles, read from a reader of package offsets. -/
def Side.copyOf (s : Side) (rd : Nat → Nat → List Byte) : Side :=
  { s with seals := rd (256 + 2048 * s.tiles) (16 * s.tiles), sums := rd (256 + 2064 * s.tiles) s.sums.length }

/-- Rewrite what differs in the working copy of a side from a copy: seal table, sum blocks and SCALE tiles, of which the counters
the device writes stay. -/
def Chan.repairSide (ch : Chan) (ctx : Nat) (c : Side) (rd : Nat → Nat → List Byte) : Chan :=
  let ch := ch.setSide ctx { ch.side ctx with seals := c.seals, sums := c.sums }
  ((List.range c.tiles).filter fun i => c.sealKind i == 4).foldl (fun (ch : Chan) i =>
    let t := rd (256 + 2048 * i) 2048
    let w := ch.workTile ctx i
    if digestTile (c.sealOf i) t = digestTile (c.sealOf i) w then ch
    else ch.putWork ctx i (if (le (c.sealOf i) 6 1).testBit 0 then t.take 32 ++ slice w 32 16 ++ t.drop 48 else t)) ch

/-- Re-check one side: a mismatch is repaired from the golden copy, else from the backup, else the side is quarantined. -/
def Chan.recheck (ch : Chan) (ctx : Nat) : Chan :=
  let s := ch.side ctx
  if modelDigestOf s (ch.workTile ctx) == s.modelDigest then ch
  else
    let ch := ch.count R.CHK_CNT_DIGEST_MISMATCH EV_CHK_DIGEST_MISMATCH (some (ch.slotTenant (ctxSlot ctx)))
    let own := ch.slotTenant (ctxSlot ctx)
    let gold (a n : Nat) : List Byte := ch.bytes 1 own (s.golden + a) n
    let back (a n : Nat) : List Byte := ch.bytes s.backTier own (s.backAddr + a) n
    let good (rd : Nat → Nat → List Byte) : Bool := modelDigestOf (s.copyOf rd) (fun i => rd (256 + 2048 * i) 2048) == s.modelDigest
    if good gold then ch.repairSide ctx (s.copyOf gold) gold
    else if ch.backupServes ctx && good back then
      let ch := ch.repairSide ctx (s.copyOf back) back
      ch.store 1 own (s.golden + 256) (back 256 (2064 * s.tiles + s.sums.length))
    else ch.quarantine ctx

/-- DIGEST_RECHECK (R266): the digest period has ended; each serving side is re-checked. -/
def Chan.digestRecheck (ch : Chan) : Chan :=
  let period := max 1 (ch.fld R.CHK_CTRL F.CHK_CTRL_digest_period) * msG
  if !ch.flag R.CHK_CTRL F.CHK_CTRL_digest_enable || !ch.since ch.chk.digestAt period then ch
  else ch.servingCtxsAll.foldl Chan.recheck { ch with chk := { ch.chk with digestAt := ch.now } }

/-! ## The Night-sky sweep (R267, R268) -/

/-- A partition has been quiet for 2 µs: its ramp-down ended, and 320 cc and 2 µs have passed since its last row (R180). -/
def Chan.partQuiet (ch : Chan) (k : Nat) : Bool :=
  let p := ch.part k
  p.flights.isEmpty && p.queue.isEmpty && p.level == 0 && (match p.drawn with
    | some (t, m) => ch.sinceC (t + 2 * usG) (m + 320)
    | none => true)

/-- A partition holds active weights that a run not yet completed has loaded (R268). -/
def Chan.weightsLive (ch : Chan) (k : Nat) : Bool :=
  match (ch.part k).active with
  | some w => (match ch.run (ctxOf w.slot w.side) with | some r => r.number == w.run | none => false)
  | none => false

/-- The unit that a Night-sky pattern may test now (R267, R268): 0 to 3 a Matrix Engine, 4 and 5 a Ristretto unit, 8 + b a bank. -/
def Chan.sweepUnit (ch : Chan) (n : Nat) : Option TestUnit :=
  if n < 4 then
    if (List.range 7).all (fun p => ch.partQuiet (partKey n p) && !ch.weightsLive (partKey n p)) then some (.quadrant n 0) else none
  else if n < 6 then
    let x := ch.rvu (n - 4)
    if x.dots.isEmpty && x.level == 0 && (match x.lastIssue with
        | some (t, m) => ch.sinceC (t + 2 * usG) (m + 320)
        | none => true) then some (.ristretto (n - 4)) else none
  else if 8 ≤ n ∧ n < 40 ∧ ch.bankOwned (n - 8) = false ∧
      (match ch.models.staging with | some s => s.banks.testBit (n - 8) | none => false) = false then some (.bank (n - 8))
  else none

/-- The next unit in turn that may be tested (R267). -/
def Chan.sweepNext (ch : Chan) : Option Nat :=
  ((List.range 40).map fun i => (ch.chk.sweepLast + 1 + i) % 40).find? fun n => (ch.sweepUnit n).isSome

/-- Core cycles of a pattern of 1.5 µs at the point in force. -/
def Chan.patternCycles (ch : Chan) : Nat := freqKhz ch.point * 3 / 2000

/-- A pattern draws current as real rows do (R268): the gaps of the unit's partitions end. -/
def Chan.drawPattern (ch : Chan) (u : TestUnit) : Chan :=
  match u with
  | .quadrant e _ => (modeParts (ch.fld (R.MXE_CTRL e) F.MXE_CTRL_part_mode)).foldl (fun (ch : Chan) p =>
      ch.endGap (partKey e p) ch.patternCycles) ch
  | .ristretto v => ch.endRvuGap v ch.patternCycles
  | _ => ch

/-- A pattern that began at `t` stops drawing current now. -/
def Chan.stopPattern (ch : Chan) (u : TestUnit) (t : Nat) : Chan :=
  let d := some (t, min ch.patternCycles (ch.cyclesSince t))
  match u with
  | .quadrant e _ => (modeParts (ch.fld (R.MXE_CTRL e) F.MXE_CTRL_part_mode)).foldl (fun (ch : Chan) p =>
      ch.modPart (partKey e p) fun x => { x with drawn := d }) ch
  | .ristretto v => ch.setRvu v { ch.rvu v with lastIssue := d }
  | _ => ch

/-- SWEEP_TEST_START (R267, R268): the next unit in turn, `n`, is tested. The pattern uses, and so clears, the active weights of the engine
it tests, and draws current as real rows do. -/
def Chan.sweepStart (ch : Chan) (n : Nat) : Chan :=
  if !ch.flag R.CHK_CTRL F.CHK_CTRL_sweep_enable || ch.safeServe || ch.chk.sweep.isSome || ch.sweepNext != some n then ch
  else match ch.sweepUnit n with
    | none => ch
    | some u =>
      let ch := match u with
        | .quadrant e _ => (List.range 7).foldl (fun (ch : Chan) p => ch.modPart (partKey e p) fun x => { x with active := none }) ch
        | _ => ch
      let ch := ch.drawPattern u
      { ch with chk := { ch.chk with sweep := some (u, ch.now, false), sweepLast := n } }

/-- Real work waits for a unit. -/
def Chan.workWaits (ch : Chan) (u : TestUnit) : Bool :=
  match u with
  | .quadrant e _ => (List.range 7).any fun p =>
      !(ch.part (partKey e p)).queue.isEmpty || (ch.vpe.wfq.any fun x => x.unit == partKey e p) ||
      (ch.redos.any fun r => r.2.restart.isSome && r.2.ops.any (·.1 == partKey e p)) ||
      (List.range 64).any fun tk => match ch.tile tk with
        | some t => t.restart.isSome && t.group.contains (partKey e p)
        | none => false
  | .ristretto v => ch.vpe.wfq.any fun x => x.unit == 32 + v
  | _ => false

/-- Let the partitions of a unit go on. -/
def Chan.pumpUnit (ch : Chan) (u : TestUnit) : Chan :=
  match u with
  | .quadrant e _ => (List.range 7).foldl (fun (ch : Chan) p => ch.pump (partKey e p)) ch
  | .ristretto v => ch.wfqIssue (32 + v)
  | _ => ch

/-- SWEEP_TEST_COMPLETE (R267): a pattern has run its 1.5 µs: it passes, or runs once more, or fences the unit: of a Matrix
Engine, quadrant `q`. -/
def Chan.sweepComplete (ch : Chan) (pass : Bool) (q : Nat) : Chan :=
  match ch.chk.sweep with
  | none => ch
  | some (u, t, again) =>
    if !ch.since t (1500 * nsG) then ch
    else if pass then ({ ch with chk := { ch.chk with sweep := none } }.inc R.CHK_CNT_SWEEP_PASS).pumpUnit u
    else if !again then { ch.drawPattern u with chk := { ch.chk with sweep := some (u, ch.now, true) } }
    else
      let v : TestUnit := match u with
        | .quadrant e _ => .quadrant e (q % 4)
        | x => x
      let ch := { ch with chk := { ch.chk with sweep := none } }
      ((ch.raise EV_CHK_SWEEP_FAIL).fence v (ch.workWaits u)).pumpUnit u

/-- SWEEP_YIELD (R268): a real operation that is ready stops the pattern, which is repeated later. -/
def Chan.sweepYield (ch : Chan) : Chan :=
  match ch.chk.sweep with
  | some (u, t, _) =>
    if ch.workWaits u then { ch.stopPattern u t with chk := { ch.chk with sweep := none } }.pumpUnit u else ch
  | none => ch

/-! ## The scrub (R269) -/

/-- Valid ensembles as a mask. -/
def Chan.validEns (ch : Chan) : Nat := (List.range 32).foldl (fun m n => if ch.ensValid n then putBit m n true else m) 0

/-- Banks that the scrub visits: those of ensembles valid since the period began, with a golden image. -/
def Chan.scrubBanks (ch : Chan) : List Nat :=
  (List.range 32).filter fun b => (sget (fun _ => none) ch.fst.golden b).isSome && (match ch.bankEns b with
    | some n => ch.chk.scrubEns.testBit n
    | none => false)

/-- Compare one entry with its golden image and rewrite it when it differs. -/
def Chan.scrubEntry (ch : Chan) (e : Nat) : Chan :=
  match sget (fun _ => none) ch.fst.golden (e / 2048) with
  | none => ch
  | some g =>
    let (ok, ch) := ch.goldenKind (ctxOf g.slot g.side) 6
    match ok, ch.goldenEntry e with
    | true, some x =>
      if ch.cam e = x.sealed then ch
      else
        let ch := (ch.commitEntry e x).count R.CHK_CNT_SCRUB_FIX EV_CHK_SCRUB_FIX
        let ch := { ch with fst := { ch.fst with repairs := ch.fst.repairs.filter fun r => r.1 ≠ e } }.repairStatus
        if ch.safeServe then ch else ch.startTest (.entry (e / 2048) (e % 2048)) false
    | _, _ => ch

/-- SCRUB_VISIT (R269): the next entry of the period is due and is compared; the period after the last one begins 50 ms after its
start. -/
def Chan.scrubVisit (ch : Chan) : Chan :=
  let bs := ch.scrubBanks
  let n := 2048 * bs.length
  let i := ch.chk.scrubPos
  if !ch.flag R.CHK_CTRL F.CHK_CTRL_scrub_enable || ch.safeServe then ch
  else if i < n then
    if ch.since ch.chk.scrubAt (i * 50 * msG / n) then
      { ch with chk := { ch.chk with scrubPos := i + 1 } }.scrubEntry (2048 * bs.getD (i / 2048) 0 + i % 2048)
    else ch
  else if ch.since ch.chk.scrubAt (50 * msG) then
    { ch with chk := { ch.chk with scrubAt := ch.chk.scrubAt + 50 * msG, scrubPos := 0, scrubEns := ch.validEns } }
  else ch

end Sys2Proof.Machine
end

