-- ==== Sys2Proof/Machine/Trn.lean ====
section
/-!
DEFINITION. Machine/Trn.lean: training contexts and replica groups (chapter 10): batches and feeders (R275 to R277), steps (R278 to
R281), checkpoints and the vote (R282 to R284), expulsion and rejoining (R285 to R288) and the serving copy (R289).
-/

namespace Sys2Proof.Machine

open Sys2Proof

/-! ## Contexts and members (R272, R273) -/

def Chan.trnFld (ch : Chan) (g : Nat) (f : Fld) : Nat := ch.fld (R.TRN_CFG g) f
def Chan.trnState (ch : Chan) (g : Nat) : Nat := ch.fld (R.TRN_STATUS g) F.TRN_STATUS_state
def Chan.trnActive (ch : Chan) (g : Nat) : Nat := ch.fld (R.TRN_STATUS g) F.TRN_STATUS_active
def Chan.setTrnActive (ch : Chan) (g v : Nat) : Chan := ch.setFld (R.TRN_STATUS g) F.TRN_STATUS_active v
def Chan.trnRank (ch : Chan) (g : Nat) : Nat := ch.trnFld g F.TRN_CFG_rank
def Chan.trnSlot (ch : Chan) (g : Nat) : Nat := ch.trnFld g F.TRN_CFG_train_slot
/-- The TRAINING side of a context and its tenant. -/
def Chan.trnSide (ch : Chan) (g : Nat) : Nat := ctxOf (ch.trnSlot g) (ch.servingSide (ch.trnSlot g))
/-- The side whose run is the step in progress (R239), else the TRAINING side. -/
def Chan.stepSide (ch : Chan) (g : Nat) : Nat := if (ch.trnCtx g).running then (ch.trnCtx g).runCtx else ch.trnSide g
def Chan.trnTenant (ch : Chan) (g : Nat) : Nat := ch.slotTenant (ch.trnSlot g)
/-- A context enters a state; a change sends vector 7 of its tenant's VF (Table 14.6). -/
def Chan.setTrnState (ch : Chan) (g v : Nat) : Chan :=
  let i := ch.trnTenant g
  let n := ch.setFld (R.TRN_STATUS g) F.TRN_STATUS_state v
  if ch.trnState g ≠ v ∧ ch.fnLive (i + 1) = true then n.vector (i + 1) 7 0 else n
def Chan.trnStep (ch : Chan) (g : Nat) : Nat := (ch.rd (R.TRN_STEP g)).toNat
def Chan.setTrnStep (ch : Chan) (g k : Nat) : Chan := ch.wr (R.TRN_STEP g) (BitVec.ofNat 64 k)
def Chan.trnParams (ch : Chan) (g : Nat) : Nat := ch.fld (R.TRN_MASTER g) F.TRN_MASTER_params
def Chan.trnBase (ch : Chan) (g : Nat) : Nat := ch.fld (R.TRN_MASTER g) F.TRN_MASTER_base
def Chan.modTrn (ch : Chan) (g : Nat) (f : TrnCtx → TrnCtx) : Chan := ch.setTrn g (f (ch.trnCtx g))

/-- A context may act: it and the channel's training are enabled, and the channel runs outside Safe Serve (R291). -/
def Chan.trnOn (ch : Chan) (g : Nat) : Bool :=
  decide (g < 4) && ch.clocked && !ch.failStopped && !ch.safeServe && ch.flag R.TRN_CTRL F.TRN_CTRL_enable &&
    ch.flag (R.TRN_CFG g) F.TRN_CFG_enable

/-- Other ranks of a group. -/
def Chan.trnOthers (ch : Chan) (g : Nat) : List Nat := (List.range 3).filter fun r => r != ch.trnRank g

/-- Device of another rank: the partner of the port that TRN_LINK names for it. -/
def Chan.trnDevice (ch : Chan) (g r : Nat) : Option Nat :=
  let f := if r = (ch.trnRank g + 1) % 3 then F.TRN_LINK_port_next else F.TRN_LINK_port_prev
  (zPartner ch.zTopo ch.zDev (ch.fld (R.TRN_LINK g) f)).map (·.1)

/-- Send a group message to a rank (Tables 10.1 and 13.6). -/
def Chan.trnSend (ch : Chan) (g r typ : Nat) (vl : Bool) (args : Nat) (payload : List Byte) : Chan :=
  match ch.trnDevice g r with
  | none => ch.zUnroutable
  | some d => ch.zSend (ch.zMsg typ d vl (ch.trnFld g F.TRN_CFG_group_id) args payload)

/-- Send a group message to both other members. -/
def Chan.trnSendAll (ch : Chan) (g typ : Nat) (vl : Bool) (args : Nat) (payload : List Byte) : Chan :=
  (ch.trnOthers g).foldl (fun (ch : Chan) r => ch.trnSend g r typ vl args payload) ch

/-- Context and rank of the sender that a group message names; none for a message of another group. -/
def Chan.trnFrom (ch : Chan) (m : ZMsg) : Option (Nat × Nat) :=
  match (List.range 4).find? fun g => ch.flag (R.TRN_CFG g) F.TRN_CFG_enable &&
      ch.trnFld g F.TRN_CFG_group_id == m.context.toNat && (ch.trnOthers g).any fun r => ch.trnDevice g r == some m.src.toNat with
  | none => none
  | some g => ((ch.trnOthers g).find? fun r => ch.trnDevice g r == some m.src.toNat).map fun r => (g, r)

def Chan.trnForeign (ch : Chan) : Chan := ch.inc R.TRN_CNT_FOREIGN

/-- A member becomes STOPPED. -/
def Chan.trnStop (ch : Chan) (g : Nat) : Chan := (ch.setTrnState g 6).raise EV_TRN_STOPPED (some (ch.trnTenant g))

/-- End the run of a context's step. -/
def Chan.trnHalt (ch : Chan) (g : Nat) : Chan :=
  let ctx := ch.stepSide g
  if (ch.trnCtx g).running = false then ch
  else
    let ch := (abortCtx { ch := ch } ctx).ch
    let ch := (ch.setSeqr ctx { ch.seqr ctx with run := none }).modTrn g fun t => { t with running := false }
    (List.range 32).foldl Chan.pump ch

/-! ## The training area (R274) -/

/-- Bytes up to the next 2 MiB boundary. -/
def align2M (n : Nat) : Nat := 2097152 * ceilDiv n 2097152

/-- T1 address of checkpoint area 0 or 1, of the batch log, and of the publish copy. -/
def Chan.trnArea (ch : Chan) (g a : Nat) : Nat :=
  ch.fld (R.TRN_T1 g) F.TRN_T1_base + a * align2M (64 + 4 * ch.trnParams g)
def Chan.trnLog (ch : Chan) (g : Nat) : Nat := ch.trnArea g 2
def Chan.trnPubCopy (ch : Chan) (g : Nat) : Nat := ch.trnLog g + align2M (2 * ch.trnFld g F.TRN_CFG_interval * 8192)

/-- The master weights as bytes, and what puts them. -/
def Chan.trnMasters (ch : Chan) (g : Nat) : List Byte := ch.spad (ch.trnBase g) (4 * ch.trnParams g)

/-- The refresh (Table 10.2) by the training control: the QNT commands that read the masters, into the working weights of the
next step (log 61). -/
def Chan.refreshSide (ch : Chan) (ctx : Nat) : Chan :=
  let k := (ch.seqr ctx).count - 1
  let cs := (List.range (ch.side ctx).commands).map (ch.side ctx).cmd
  (cs.filter fun c => ch.isRefresh ctx k c && ch.vecOk ctx k 1 c).foldl (fun (ch : Chan) c => ch.vecRun ctx k 1 c) ch
def Chan.trnRefresh (ch : Chan) (g : Nat) : Chan := ch.refreshSide (ch.trnSide g)

/-- Restore the masters from a checkpoint area and refresh. -/
def Chan.trnRestore (ch : Chan) (g a : Nat) : Chan :=
  let i := ch.trnTenant g
  (ch.store 0 i (ch.trnBase g) (ch.bytes 1 i (ch.trnArea g a + 64) (4 * ch.trnParams g))).trnRefresh g

/-- The 64-byte checkpoint header (R282). -/
def Chan.ckptHeader (ch : Chan) (g c : Nat) : List Byte :=
  leBytes 2 (ch.trnFld g F.TRN_CFG_group_id) ++ leBytes 2 0 ++ leBytes 4 (ch.trnParams g) ++ leBytes 8 c ++
    (ch.side (ch.trnSide g)).modelDigest

/-- Show the last agreed step and digest. -/
def Chan.setAgreed (ch : Chan) (g c : Nat) (d : List Byte) : Chan :=
  (List.range 6).foldl (fun (ch : Chan) i => ch.wr (R.TRN_DIGEST g i) (BitVec.ofNat 64 (le d (8 * i) 8)))
    (ch.wr (R.TRN_AGREED g) (BitVec.ofNat 64 c))
def Chan.agreedDigest (ch : Chan) (g : Nat) : List Byte :=
  (List.range 6).flatMap fun i => leBytes 8 (ch.rd (R.TRN_DIGEST g i)).toNat

/-! ## Batches and turns (R276, R277) -/

/-- The feeder of a turn: rank t mod 3, or the next ACTIVE one in ascending cyclic order. -/
def feederOf (turn active : Nat) : Option Nat :=
  ([turn % 3, (turn + 1) % 3, (turn + 2) % 3]).find? fun r => active.testBit r

/-- Step of the next BATCH: the one after the log's last, or the next step. -/
def Chan.nextBatch (ch : Chan) (g : Nat) : Nat :=
  match (ch.trnCtx g).log.getLast? with
  | some b => max (ch.trnStep g) (b.step + 1)
  | none => ch.trnStep g

/-- Payload of a BATCH (Table 13.6). -/
def TrnBatch.payload (b : TrnBatch) : List Byte :=
  beBytes 8 b.turn ++ beBytes 2 b.m ++ beBytes 2 b.bytes ++ leBytes 4 0 ++
    b.rows.flatMap fun r => slice r 0 (16 * ceilDiv b.bytes 16)

/-- The batch that a BATCH message carries, none when its payload does not hold M rows. -/
def batchOf (step : Nat) (p : List Byte) : Option TrnBatch :=
  let m := be p 8 2
  let n := be p 10 2
  let w := 16 * ceilDiv n 16
  if 1 ≤ m ∧ m ≤ 64 ∧ p.length = 16 + m * w then
    some { step := step, turn := be p 0 8, m := m, bytes := n, rows := (List.range m).map fun i => slice p (16 + i * w) n }
  else none

/-- Put a batch into the log: the model keeps it, and its 8 KiB of the log area hold it in a form the spec leaves open. -/
def Chan.trnKeep (ch : Chan) (g : Nat) (b : TrnBatch) : Chan :=
  let (n, ch) := ch.draw
  let a := ch.trnLog g + 8192 * (b.step % (2 * ch.trnFld g F.TRN_CFG_interval))
  (ch.setBytes 1 chanKey a (freeBytes ch.idx n 8192)).modTrn g fun t => { t with log := t.log ++ [b] }

/-- Begin the next turn. -/
def Chan.trnTurn (ch : Chan) (g turn : Nat) : Chan := ch.modTrn g fun t => { t with turn := turn, turnAt := ch.now }

/-- The turn of a message is the expected one (R277). A member that rejoins does not know its group's turn until the first message that it
takes as ACTIVE, and takes until then any that is not behind the last (log 159). -/
def Chan.turnOk (ch : Chan) (g turn : Nat) : Bool :=
  let t := ch.trnCtx g
  if t.resync then decide (t.turn ≤ turn) else turn == t.turn

/-- A turn ends with the message of turn `turn`. -/
def Chan.tookTurn (ch : Chan) (g turn : Nat) : Chan :=
  (ch.trnTurn g (turn + 1)).modTrn g fun t => { t with resync := t.resync && ch.trnState g != 1 }

/-- This member feeds the present turn. -/
def Chan.trnFeeds (ch : Chan) (g : Nat) : Bool :=
  ch.trnOn g && ch.trnState g == 1 && feederOf (ch.trnCtx g).turn (ch.trnActive g) == some (ch.trnRank g)

/-- The window of the turn has passed. -/
def Chan.trnWindow (ch : Chan) (g : Nat) : Bool :=
  ch.since (ch.trnCtx g).turnAt (max 1 (ch.fld (R.TRN_LINK g) F.TRN_LINK_batch_window) * usG)

/-- FEEDER_SEND_BATCH (R276): the feeder sends admitted rows in their order of admission. -/
def Chan.feederBatch (ch : Chan) (g : Nat) : Chan :=
  let t := ch.trnCtx g
  let n := min 64 (max 1 (ch.trnFld g F.TRN_CFG_batch_rows))
  let full := decide (n ≤ t.admitted.length)
  let some_ := ch.trnWindow g && decide (max 1 (ch.trnFld g F.TRN_CFG_min_rows) ≤ t.admitted.length)
  if !ch.trnFeeds g || t.vote.isSome || !(full || some_) then ch
  else
    let rows := (t.admitted.take n).map (·.row)
    let b : TrnBatch := { step := ch.nextBatch g, turn := t.turn, m := rows.length, bytes := (rows.headD []).length, rows := rows }
    let ch := ch.modTrn g fun t => { t with admitted := t.admitted.drop n }
    ((ch.trnKeep g b).trnSendAll g 5 false b.step b.payload).trnTurn g (t.turn + 1)

/-- FEEDER_SEND_PASS (R276): the window passed with fewer than min_rows rows. -/
def Chan.feederPass (ch : Chan) (g : Nat) : Chan :=
  let t := ch.trnCtx g
  if ch.trnFeeds g && ch.trnWindow g && decide (t.admitted.length < max 1 (ch.trnFld g F.TRN_CFG_min_rows)) then
    (ch.trnSendAll g 6 true t.turn []).trnTurn g (t.turn + 1)
  else ch

/-- A received BATCH (R277): kept when it is for the expected step, and turn of an ACTIVE member; a REJOINING member expects the
steps after the checkpoint it asked for. A donor passes it on to whoever catches up (R287). -/
def Chan.recvBatch (ch : Chan) (m : ZMsg) : Chan :=
  match ch.trnFrom m, batchOf m.args.toNat m.payload with
  | some (g, _), some b =>
    let t := ch.trnCtx g
    let st := ch.trnState g
    let next := if st = 3 then
        (match t.log.getLast?, t.wanted with
          | some x, _ => x.step + 1
          | none, some w => w.1 + 1
          | none, none => 0)
      else ch.nextBatch g
    let ok := b.step == next && (st == 1 || st == 3 || st == 4) && ch.turnOk g b.turn
    if !ok then ch.trnForeign
    else
      let ch := (ch.trnKeep g b).tookTurn g b.turn
      (t.feeds.filter fun r => ch.trnDevice g r != some m.src.toNat).foldl (fun (ch : Chan) r =>
        ch.trnSend g r 5 false b.step b.payload) ch
  | _, _ => ch.trnForeign

/-- A received PASS (R276, R277): of the expected turn; while catching up only the one right behind the last BATCH, since a donor replays
none. -/
def Chan.recvPass (ch : Chan) (m : ZMsg) : Chan :=
  match ch.trnFrom m with
  | none => ch.trnForeign
  | some (g, _) =>
    let st := ch.trnState g
    let turn := m.args.toNat
    if (st = 1 ∧ ch.turnOk g turn = true) ∨ (st = 4 ∧ turn = (ch.trnCtx g).turn) then ch.tookTurn g turn else ch.trnForeign

/-! ## Steps (R278 to R281) -/

/-- Turns of a tenant's contexts: ascending cyclic order after the one that ran last. -/
def Chan.trnReady (ch : Chan) (g : Nat) : Bool :=
  let t := ch.trnCtx g
  let ctx := ch.trnSide g
  ch.trnOn g && (ch.trnState g == 1 || ch.trnState g == 4) && t.log.any (fun b => b.step == ch.trnStep g) && t.vote.isNone &&
    !t.running && (ch.seqr ctx).run.isNone && ch.servingState (ch.trnSlot g) == 1 && ch.slotKind (ch.trnSlot g) == 2

/-- The context of a tenant whose step may start next. -/
def Chan.trnNext (ch : Chan) (i : Nat) : Option Nat :=
  let last := (sfind ch.trnLast i).getD 3
  (([1, 2, 3, 4].map fun d => (last + d) % 4).find? fun g => ch.trnReady g && ch.trnTenant g == i)

/-- NaN counts of the scale tables that R281 reads. -/
def Chan.nanCounts (ch : Chan) (ctx k : Nat) : List (Nat × Nat) :=
  let s := ch.side ctx
  let errs := (((List.range s.commands).map s.cmd).filter fun c => c.opcode == 4).map fun c => c.w40
  (ch.forwardTables ctx k ++ errs).foldl (fun m t => sins m t (ch.nanSum ctx k t)) []

/-- TRAINING_STEP_START (R277, R280): the next step runs on the bytes of its batch. -/
def Chan.stepStart (ch : Chan) (g : Nat) : Chan :=
  let i := ch.trnTenant g
  let busy := (List.range 4).any fun h => (ch.trnCtx h).running && ch.trnTenant h == i
  if busy || ch.trnNext i != some g then ch
  else match (ch.trnCtx g).log.find? fun b => b.step == ch.trnStep g with
    | none => ch
    | some b =>
      let ctx := ch.trnSide g
      let sr := ch.seqr ctx
      let c := (ch.side ctx).cmd 0
      let ch := ch.wr (R.ACU_SR_SEED i) (ch.rd (R.TRN_SEED g) + ch.rd (R.TRN_STEP g))
      let ch := b.rows.zipIdx.foldl (fun (ch : Chan) x => ch.store 0 i (ch.winAddr ctx sr.count c.w20 + x.2 * c.w24) x.1) ch
      let nans := ch.nanCounts ctx sr.count
      let ch := (ch.setSeqr ctx { sr with run := some { number := sr.count, at_ := ch.now, m := b.m, jobs := [] }
                                          count := sr.count + 1 }).inc R.CHN_CNT_RUNS
      let ch : Chan := { ch with trnLast := sins ch.trnLast i g }
      let ch := ch.modTrn g fun t => { t with running := true, runCtx := ctx, nanBase := nans }
      if ch.trnState g = 1 ∧ ch.trnStep g = 0 then ch.setTrnActive g 7 else ch

/-- Step `k` is a compare step (R282). -/
def Chan.isCompare (ch : Chan) (g k : Nat) : Bool := k % max 8 (ch.trnFld g F.TRN_CFG_interval) == 0

/-- A compare step has completed: an ACTIVE member opens its vote; one that caught up before the group decided becomes ACTIVE
(R282, R287). -/
def Chan.compareStep (ch : Chan) (g c : Nat) : Chan :=
  let t := ch.trnCtx g
  let late := match t.heard with | some h => decide (c ≤ h) | none => false
  let vote (ch : Chan) : Chan :=
    (ch.modTrn g fun t => { t with vote := some { c := c }, snapshot := some ch.now }).setFlag (R.TRN_STATUS g)
      F.TRN_STATUS_vote_open true
  if ch.trnState g = 1 then vote ch
  else if ch.trnState g = 4 ∧ late = false then
    let ch := (ch.setTrnState g 1).setTrnActive g (putBit (ch.trnActive g) (ch.trnRank g) true)
    vote ((ch.inc (R.TRN_CNT_REJOIN g)).raise EV_TRN_REJOINED (some (ch.trnTenant g)) (some (R.TRN_CNT_REJOIN g)))
  else ch

/-- TRAINING_STEP_COMPLETE (R278, R281): the run's commands have all issued and completed; an abandoned step counts, and its refresh
still runs. A step that was in progress at a swap ends on the old side (R239). -/
def Chan.stepComplete (ch : Chan) (g : Nat) : Chan :=
  let ctx := ch.stepSide g
  match ch.run ctx with
  | none => ch
  | some r =>
    if (ch.trnCtx g).running = false ∨ r.next < (ch.side ctx).commands ∨ r.live.isEmpty = false then ch
    else
      let k := ch.trnStep g
      let i := ch.trnTenant g
      let ch := (ch.setSeqr ctx { ch.seqr ctx with run := none }).modTrn g fun t => { t with running := false }
      let ch := if r.failed.isSome then
          ((ch.runFailed ctx).refreshSide ctx).count (R.TRN_CNT_ABANDONED g) EV_TRN_STEP_ABANDONED (some i)
        else ch
      let ch := (ch.inc (R.TRN_CNT_STEPS g)).setTrnStep g (k + 1)
      if ch.isCompare g k then ch.compareStep g k else ch

/-! ## The vote (R282 to R284) -/

/-- Bits of a list of ranks. -/
def rankMask (rs : List Nat) : Nat := rs.foldl (fun m r => putBit m r true) 0

/-- The vote of R283 over the digests held: outcome (0 agree, 1 rollback, 2 lone) and agreeing set. -/
def tally (s : List (Nat × List Byte)) : Nat × Nat :=
  match s with
  | [a, b, c] =>
    if a.2 = b.2 ∧ b.2 = c.2 then (0, rankMask [a.1, b.1, c.1])
    else if a.2 = b.2 then (0, rankMask [a.1, b.1])
    else if a.2 = c.2 then (0, rankMask [a.1, c.1])
    else if b.2 = c.2 then (0, rankMask [b.1, c.1])
    else (1, rankMask [a.1, b.1, c.1])
  | [a, b] => if a.2 = b.2 then (0, rankMask [a.1, b.1]) else (1, rankMask [a.1, b.1])
  | _ => (2, rankMask (s.map (·.1)))

/-- A rank's digest of step `c`, if held. -/
def TrnCtx.digestOf (t : TrnCtx) (c r : Nat) : Option (List Byte) :=
  (t.digests.find? fun d => d.1 == r && d.2.1 == c).map (·.2.2)

/-- The lowest rank of a set, and the digest of step `c` that one of its ranks sent. -/
def lowestRank (mask : Nat) : Nat := ((List.range 3).find? fun r => mask.testBit r).getD 0
def TrnCtx.digestIn (t : TrnCtx) (c mask : Nat) : List Byte :=
  (((List.range 3).filter fun r => mask.testBit r).findSome? fun r => t.digestOf c r).getD []

/-- What the serving copy is told of an agreed checkpoint (R289). -/
def Chan.pubDue (ch : Chan) (g c : Nat) (always : Bool) : Chan :=
  if ch.trnFld g F.TRN_CFG_publish = 0 then ch
  else
    let n := (ch.trnCtx g).published + 1
    if always || decide (max 1 (ch.trnFld g F.TRN_CFG_publish_every) ≤ n) then
      (ch.modTrn g fun t => { t with published := 0, pubWait := some c }).setFlag (R.TRN_STATUS g) F.TRN_STATUS_publish_wait true
    else ch.modTrn g fun t => { t with published := n }

/-- A vote is over. -/
def Chan.closeVote (ch : Chan) (g : Nat) : Chan :=
  (ch.modTrn g fun t => { t with vote := none, snapshot := none }).setFlag (R.TRN_STATUS g) F.TRN_STATUS_vote_open false

/-- Ask the donor for a checkpoint (R287). -/
def Chan.ckptAsk (ch : Chan) (g : Nat) : Chan :=
  let t := ch.trnCtx g
  match t.wanted with
  | none => ch
  | some w => (ch.modTrn g fun t => { t with ckptSegs := 0 }).trnSend g t.donor 9 true w.1 []

/-- A member becomes REJOINING and asks. -/
def Chan.trnRejoin (ch : Chan) (g : Nat) : Chan :=
  ((ch.setTrnState g 3).modTrn g fun t => { t with again := false, log := [], missed := false, turn := 0, resync := true }).ckptAsk g

/-- This member is outside the agreeing set of step `c` (R286, R288). -/
def Chan.trnExpel (ch : Chan) (g c mask : Nat) : Chan :=
  let t := ch.trnCtx g
  let w := (c, t.digestIn c mask)
  let ch := (ch.trnHalt g).modTrn g fun t =>
    { t with donor := lowestRank mask, wanted := some w, expels := t.expels ++ [c], testAt := ch.now, again := false }
  let ch := ((ch.setTrnState g 2).setTrnActive g mask).count (R.TRN_CNT_EXPEL g) EV_TRN_EXPELLED (some (ch.trnTenant g))
  if 4 ≤ ((ch.trnCtx g).expels.filter fun x => decide (c < x + 1024)).length then ch.trnStop g else ch

/-- Rollback (R284): the masters return to the last agreed checkpoint; without one the group stops. -/
def Chan.trnRollback (ch : Chan) (g : Nat) (any : Bool) (area agreed : Nat) : Chan :=
  if !any then ch.trnStop g
  else
    let ch := ((ch.trnHalt g).trnRestore g area).setTrnStep g (agreed + 1)
    let ch := ch.modTrn g fun t => { t with log := [], ring := [], admitted := [] }
    ch.count (R.TRN_CNT_ROLLBACK g) EV_TRN_ROLLBACK (some (ch.trnTenant g))

/-- Apply an outcome of the vote on `d.c` to the state before the decision, of which `d` keeps the last agreed checkpoint; `was`
is the outcome applied before, if any (R283, R284). -/
def Chan.trnApply (ch : Chan) (g : Nat) (d : Decided) (outcome mask : Nat) (was : Option Nat) : Chan :=
  let ch := (ch.setAgreed g d.agreed d.digest).modTrn g fun t =>
    { t with area := d.area, agreedAny := d.any, decided := some { d with outcome := outcome, mask := mask } }
  if mask.testBit (ch.trnRank g) = false then ch.trnExpel g d.c mask
  else if outcome = 0 then
    let out := (List.range 3).any fun r => (ch.trnActive g).testBit r && !mask.testBit r
    let ch := if out then ch.raise EV_TRN_PEER_EXPELLED (some (ch.trnTenant g)) else ch
    let ch := if was = some 1 then ((ch.trnHalt g).trnRestore g (1 - d.area)).setTrnStep g (d.c + 1) else ch
    let ch := ((ch.setTrnState g 1).setTrnActive g mask).setAgreed g d.c d.own
    let ch := ch.modTrn g fun t => { t with
      area := 1 - d.area, agreedAny := true, used := [], log := t.log.filter fun b => decide (d.c < b.step) }
    if was = some 0 then ch else ch.pubDue g d.c false
  else if outcome = 1 then
    if was = some 1 then ch.setTrnActive g mask
    else ((ch.setTrnState g 1).setTrnActive g mask).trnRollback g d.any d.area d.agreed
  else ((ch.trnHalt g).setTrnState g 5).setTrnActive g mask

/-- vote_timeout of a context, in grains (Table 10.9). -/
def Chan.voteTime (ch : Chan) (g : Nat) : Nat := max 1 (ch.fld (R.TRN_LINK g) F.TRN_LINK_vote_timeout) * msG

/-- A DECISION heard within the time of R283 replaces this member's own. -/
def Chan.trnAdopt (ch : Chan) (g r c mask outcome : Nat) : Chan :=
  match (ch.trnCtx g).decided with
  | none => ch
  | some d =>
    let better := decide (popcount d.mask 3 < popcount mask 3) ||
      (popcount d.mask 3 == popcount mask 3 && decide (r < ch.trnRank g) && (mask, outcome) != (d.mask, d.outcome))
    let due := !ch.since d.at_ (ch.voteTime g + 1)
    if d.c = c ∧ better = true ∧ due = true then ch.trnApply g d outcome mask (some d.outcome) else ch

/-- Arguments of a DECISION (Table 13.6). -/
def decisionArgs (c mask outcome : Nat) : Nat := c % 2 ^ 48 * 65536 + mask * 256 + outcome

/-- Decide the open vote with the digests held (R283), and send the DECISION. -/
def Chan.voteDecide (ch : Chan) (g : Nat) : Chan :=
  let t := ch.trnCtx g
  match t.vote with
  | none => ch
  | some v =>
    let me := ch.trnRank g
    let s := (List.range 3).filterMap fun r =>
      if r = me then some (r, v.own)
      else if (ch.trnActive g).testBit r then (t.digestOf v.c r).map fun d => (r, d) else none
    let (outcome, mask) := tally s
    let d : Decided := { c := v.c, mask := mask, outcome := outcome, at_ := ch.now, own := v.own, area := t.area, any := t.agreedAny
                         agreed := (ch.rd (R.TRN_AGREED g)).toNat, digest := ch.agreedDigest g }
    let ch := (ch.closeVote g).inc (R.TRN_CNT_VOTES g)
    let ch := ch.trnApply g d outcome mask none
    let ch := ch.trnSendAll g 8 true (decisionArgs v.c mask outcome) []
    let early := (ch.trnCtx g).early
    (early.filter fun x => x.2.1 == v.c && !ch.since x.2.2.2.2 (ch.voteTime g + 1)).foldl
      (fun (ch : Chan) x => ch.trnAdopt g x.1 x.2.1 x.2.2.1 x.2.2.2.1)
      (ch.modTrn g fun t => { t with early := t.early.filter fun x => decide (v.c < x.2.1) })

/-- Decide once the digests of every other ACTIVE member are held. -/
def Chan.voteTry (ch : Chan) (g : Nat) : Chan :=
  match (ch.trnCtx g).vote with
  | none => ch
  | some v =>
    let have_ := (ch.trnOthers g).all fun r => !(ch.trnActive g).testBit r || ((ch.trnCtx g).digestOf v.c r).isSome
    if v.ready.isSome && have_ then ch.voteDecide g else ch

/-- CHECKPOINT_DIGEST_READY (R282): the checkpoint has been read, at 20 GB/s, into the area that does not hold the last agreed one,
and hashed; the DIGEST is sent. -/
def Chan.digestReady (ch : Chan) (g : Nat) : Chan :=
  let t := ch.trnCtx g
  match t.vote, t.snapshot with
  | some v, some at_ =>
    let n := 64 + 4 * ch.trnParams g
    if !ch.trnOn g || ch.trnState g != 1 || v.ready.isSome || !ch.since at_ (n * nsG / 20) then ch
    else
      let bs := ch.ckptHeader g v.c ++ ch.trnMasters g
      let own := sha384 bs
      let ch := ch.store 1 (ch.trnTenant g) (ch.trnArea g (1 - t.area)) bs
      let ch := ch.modTrn g fun t => { t with vote := some { v with ready := some ch.now, own := own } }
      (ch.trnSendAll g 7 true v.c own).voteTry g
  | _, _ => ch

/-- VOTE_TIMEOUT (R283). -/
def Chan.voteTimeout (ch : Chan) (g : Nat) : Chan :=
  match (ch.trnCtx g).vote with
  | some v =>
    (match v.ready with
      | some at_ =>
        if ch.trnOn g && ch.since at_ (ch.voteTime g) then ch.voteDecide g else ch
      | none => ch)
  | none => ch

/-- The compare step whose vote this member expects: the open one, else the next. -/
def Chan.wantVote (ch : Chan) (g : Nat) : Nat :=
  match (ch.trnCtx g).vote with
  | some v => v.c
  | none =>
    let n := max 8 (ch.trnFld g F.TRN_CFG_interval)
    n * ceilDiv (ch.trnStep g) n

/-- A DIGEST or DECISION of step `c` is of a step that this member expects (R277): an ACTIVE one expects the vote that is open or next and, of
a DECISION, the one it decided last; one that rejoins or catches up, any vote still ahead of it; one outside the group, any. -/
def Chan.voteStep (ch : Chan) (g c : Nat) (decision : Bool) : Bool :=
  let t := ch.trnCtx g
  let last := match t.decided with | some d => d.c == c | none => false
  match ch.trnState g with
  | 1 => c == ch.wantVote g || (decision && last) || (ch.safeServe && decide (ch.wantVote g ≤ c))
  | 3 => (match t.wanted with | some w => decide (w.1 < c) | none => true)
  | 4 => decide (ch.wantVote g ≤ c)
  | 6 => false
  | _ => true

/-- A received DIGEST (R277, R283): held for the vote; one of a step that this member does not expect is discarded. -/
def Chan.recvDigest (ch : Chan) (m : ZMsg) : Chan :=
  match ch.trnFrom m with
  | none => ch.trnForeign
  | some (g, r) =>
    let c := m.args.toNat
    if ch.voteStep g c false = false then ch.trnForeign
    else
      let ch := ch.modTrn g fun t => { t with digests := (t.digests.filter fun d => d.1 != r) ++ [(r, c, slice m.payload 0 48)]
                                              feeds := t.feeds.filter fun x => x != r }
      if ch.trnState g = 1 then
        let ch := ch.setTrnActive g (putBit (ch.trnActive g) r true)
        if ch.trnOn g then ch.voteTry g else ch
      else ch

/-- A received DECISION (R277, R283, R288, R291): one of a step that this member does not expect is discarded. -/
def Chan.recvDecision (ch : Chan) (m : ZMsg) : Chan :=
  match ch.trnFrom m with
  | none => ch.trnForeign
  | some (g, r) =>
    let a := m.args.toNat
    let c := a / 65536
    let mask := a / 256 % 8
    let outcome := a % 256
    let t := ch.trnCtx g
    let st := ch.trnState g
    let me := ch.trnRank g
    let mine := match t.decided with | some d => d.c == c | none => false
    if ch.voteStep g c true = false then ch.trnForeign
    else
      let ch := ch.modTrn g fun t => { t with heard := some c }
      if ch.safeServe = true ∧ st = 1 then
        if outcome = 0 ∧ mask.testBit me = false then
          ch.modTrn g fun t => { t with missed := true, donor := lowestRank mask, wanted := some (c, t.digestIn c mask) }
        else ch
      else
        let ch := if mine && (st == 1 || st == 2 || st == 5) then ch.trnAdopt g r c mask outcome
          else if st = 1 then ch.modTrn g fun t => { t with early := t.early ++ [(r, c, mask, outcome, ch.now)] }
          else ch
        if ch.trnState g = 5 ∧ outcome ≤ 1 then
          let w := if outcome = 0 then (c, t.digestIn c mask) else ((ch.rd (R.TRN_AGREED g)).toNat, ch.agreedDigest g)
          (ch.modTrn g fun t => { t with donor := if outcome = 0 then lowestRank mask else r, wanted := some w }).trnRejoin g
        else ch

/-! ## Expulsion and rejoining (R286 to R288) -/

/-- EXPEL_SELF_TEST_COMPLETE (R286): the tests of the quadrants, one after another, and the digest check have taken their time; `bad`
names the quadrants (bit 4e + q) that failed. -/
def Chan.expelTested (ch : Chan) (g bad : Nat) : Chan :=
  let ctx := ch.trnSide g
  let qs := (ch.trnCtx g).used
  let digest := 2048 * (ch.side ctx).tiles * nsG / 20
  if !ch.trnOn g || ch.trnState g != 2 || !ch.sinceC ((ch.trnCtx g).testAt + digest) (2120 * qs.length) then ch
  else
    let fails := qs.filter fun x => bad.testBit (4 * x.1 + x.2)
    let tid := ch.slotTid (ch.trnSlot g)
    let (lost, ch) := fails.foldl (fun (acc : Bool × Chan) x =>
      let ch := acc.2.fence (.quadrant x.1 x.2) false
      (acc.1 || ch.remapTarget x.1 (ch.partOfQuad x.1 x.2) tid == .none_, ch)) (false, ch)
    let ch := ch.recheck ctx
    if lost || ch.servingState (ch.trnSlot g) != 1 then ch.trnStop g else ch.trnRejoin g

/-- Segments of a checkpoint: at most 1 MiB of masters each. -/
def ckptCount (params : Nat) : Nat := max 1 (ceilDiv (4 * params) 1048576)

/-- Segment `i` of a checkpoint area: the header stands before the masters of segment 0. -/
def Chan.ckptSegment (ch : Chan) (g a i : Nat) : List Byte :=
  let base := ch.trnArea g a
  let own := ch.trnTenant g
  let n := min 1048576 (4 * ch.trnParams g - 1048576 * i)
  (if i = 0 then ch.bytes 1 own base 64 else []) ++ ch.bytes 1 own (base + 64 + 1048576 * i) n

/-- A received CKPT_REQ (R287): the donor sends the agreed checkpoint, then its logged batches. -/
def Chan.recvCkptReq (ch : Chan) (m : ZMsg) : Chan :=
  match ch.trnFrom m with
  | none => ch.trnForeign
  | some (g, r) =>
    let t := ch.trnCtx g
    let c := m.args.toNat
    if ch.trnState g ≠ 1 ∨ t.agreedAny = false ∨ c ≠ (ch.rd (R.TRN_AGREED g)).toNat then ch.trnForeign
    else
      let n := ckptCount (ch.trnParams g)
      let ch := (List.range n).foldl (fun (ch : Chan) i =>
        ch.trnSend g r 10 false (i * 2 ^ 32 + n) (ch.ckptSegment g t.area i)) ch
      let ch := (t.log.filter fun b => decide (c < b.step)).foldl (fun (ch : Chan) b => ch.trnSend g r 5 false b.step b.payload) ch
      ch.modTrn g fun t => { t with feeds := if t.feeds.contains r then t.feeds else t.feeds ++ [r] }

/-- A checkpoint has come whole: it is hashed, restored, refreshed and published (R287). -/
def Chan.ckptInstall (ch : Chan) (g : Nat) (w : Nat × List Byte) : Chan :=
  let t := ch.trnCtx g
  let a := 1 - t.area
  let bs := ch.bytes 1 (ch.trnTenant g) (ch.trnArea g a) (64 + 4 * ch.trnParams g)
  if sha384 bs = w.2 then
    let ch := ((ch.trnRestore g a).setTrnStep g (w.1 + 1)).setAgreed g w.1 w.2
    let ch := ch.modTrn g fun t => { t with area := a, agreedAny := true, used := [], wanted := none, ckptSegs := 0 }
    (ch.pubDue g w.1 true).setTrnState g 4
  else if t.again then ch.trnStop g
  else (ch.modTrn g fun t => { t with again := true }).ckptAsk g

/-- A received CKPT_DATA segment (R287, Table 13.6). -/
def Chan.recvCkptData (ch : Chan) (m : ZMsg) : Chan :=
  match ch.trnFrom m with
  | none => ch.trnForeign
  | some (g, r) =>
    let t := ch.trnCtx g
    let i := m.args.toNat / 2 ^ 32
    let n := m.args.toNat % 2 ^ 32
    match t.wanted with
    | none => ch.trnForeign
    | some w =>
      if ch.trnState g ≠ 3 ∨ r ≠ t.donor ∨ i ≠ t.ckptSegs ∨ n ≠ ckptCount (ch.trnParams g) then ch.trnForeign
      else
        let len := (if i = 0 then 64 else 0) + min 1048576 (4 * ch.trnParams g - 1048576 * i)
        let at_ := ch.trnArea g (1 - t.area) + (if i = 0 then 0 else 64 + 1048576 * i)
        let ch := ch.store 1 (ch.trnTenant g) at_ (slice m.payload 0 len)
        let ch := ch.modTrn g fun t => { t with ckptSegs := i + 1 }
        if i + 1 = n then ch.ckptInstall g w else ch

/-! ## Enabling a context (R274, R288, R292) -/

/-- Values of TRN_CFG that R292 refuses. -/
def Chan.trnCfgBad (ch : Chan) (g : Nat) (w : Word) : Bool :=
  let n := getF w F.TRN_CFG_interval
  let rows := getF w F.TRN_CFG_batch_rows
  ch.slotKind (getF w F.TRN_CFG_train_slot) != 2 || getF w F.TRN_CFG_rank == 3 || decide (n < 8 ∨ 1024 < n) ||
    decide (rows = 0 ∨ 64 < rows) || (getF w F.TRN_CFG_publish == 1 && decide (ch.fld (R.TRN_PUB g) F.TRN_PUB_tier < 2))

/-- Fields of TRN_CFG that are open while enable is 0. -/
def trnCfgLocked : List Fld :=
  [F.TRN_CFG_train_slot, F.TRN_CFG_serve_slot, F.TRN_CFG_publish, F.TRN_CFG_rank, F.TRN_CFG_group_id, F.TRN_CFG_interval,
    F.TRN_CFG_publish_every, F.TRN_CFG_batch_rows, F.TRN_CFG_min_rows]

/-- The master weights of a first enable: the package's FP32 DATA tiles (R274). -/
def Chan.trnFirst (ch : Chan) (g : Nat) : Chan :=
  let ctx := ch.trnSide g
  let d := (ch.side ctx).modelDigest
  let n := 4 * ch.trnParams g
  let bs := (List.range (ceilDiv n 2048)).flatMap fun j => ch.workTile ctx (Config.masterTile d j)
  let ch := ch.store 0 (ch.trnTenant g) (ch.trnBase g) (slice bs 0 n)
  ((ch.trnRefresh g).setTrnStep g 0).setTrnState g 1

/-- A context starts: at step 0, or as a REJOINING member when some member of the group holds the agreed checkpoint named by
`held`: its rank, the step and the digest (R288). -/
def Chan.trnStart (ch : Chan) (g : Nat) (held : Option (Nat × Nat × List Byte)) : Chan :=
  let t : TrnCtx := { turnAt := ch.now }
  match held with
  | none => ((ch.setTrn g t).setTrnActive g 7).trnFirst g
  | some (r, c, d) => (ch.setTrn g { t with donor := r, wanted := some (c, d), expels := (ch.trnCtx g).expels }).trnRejoin g

/-- TRN_CONTEXT_ENABLE (R288, R292): a write of TRN_CFG_g. -/
def Chan.trnCfgWrite (ch : Chan) (g : Nat) (v : Word) (held : Option (Nat × Nat × List Byte)) : Chan :=
  let k := R.TRN_CFG g
  let old := ch.rd k
  let was := ch.flag k F.TRN_CFG_enable
  let w := mergeF old v (F.TRN_CFG_enable :: if was || ch.safeServe then [] else trnCfgLocked)
  if 4 ≤ g then ch
  else if was = false ∧ ch.trnCfgBad g w = true then ch.raise EV_TRN_CFG_REJECT
  else
    let ch := if was ∧ getF w F.TRN_CFG_enable = 0 then ch.trnHalt g else ch
    let ch := ch.wr k w
    if was = false ∧ getF w F.TRN_CFG_enable = 1 then ch.trnStart g held
    else if was ∧ getF w F.TRN_CFG_enable = 0 then
      (((ch.closeVote g).setTrnState g 0).wr (R.TRN_STATUS g) 0).modTrn g fun t => { t with pubWait := none, ring := [], admitted := [] }
    else ch

/-- The checkpoint a re-enabled context knows of, for a write that names none: what it had asked for. -/
def Chan.trnHeld (ch : Chan) (g : Nat) : Option (Nat × Nat × List Byte) :=
  let t := ch.trnCtx g
  t.wanted.map fun w => (t.donor, w.1, w.2)

/-- Safe Serve has ended: a member that missed a vote rejoins (R291). -/
def Chan.trnReturn (ch : Chan) : Chan :=
  (List.range 4).foldl (fun (ch : Chan) g =>
    if (ch.trnCtx g).missed && ch.trnOn g then (ch.closeVote g).trnRejoin g else ch) ch

/-! ## The serving copy (R289) -/

/-- Element `i` of a tile as its sums add it (R230). -/
def tileSum (f : Fmt) (cs : List Nat) : Nat :=
  if f.isInt then unsgn 32 ((cs.map (intLevel f)).foldl (· + ·) 0) else fpSumList (cs.map (levelFp f))

/-- The sum block of a WEIGHT_MXE tile (Table 08.9). -/
def sumBlock (f : Fmt) (narrow : Bool) (t : List Byte) : List Byte :=
  let rows := tileRows f narrow
  let n := 2048 * 8 / f.width / max 1 rows
  let at_ (k j : Nat) : Nat := codeAt f t (k * n + j)
  let hs := if narrow then 1 else 2
  let rowSum (h k : Nat) : Nat := tileSum f ((List.range (n / hs)).map fun j => at_ k (h * (n / hs) + j))
  let colSum (j : Nat) : Nat := tileSum f ((List.range rows).map fun k => at_ k j)
  slice ((List.range hs).flatMap fun h => (List.range rows).flatMap fun k => leBytes 4 (rowSum h k)) 0 256 ++
    slice ((List.range n).flatMap fun j => leBytes 4 (colSum j)) 0 512

/-- Entry `j` of the publish map: serving tile, first master, scale table. -/
def Chan.pubEntry (ch : Chan) (g j : Nat) : Nat × Nat × Nat :=
  let ctx := ch.trnSide g
  let m := Config.publishMap (ch.side ctx).modelDigest
  let e := ch.spad (ch.winBase ctx + 2048 * m.1 + 16 * j) 16
  (le e 0 4, le e 4 4, le e 8 4)
def Chan.pubEntries (ch : Chan) (g : Nat) : Nat := (Config.publishMap (ch.side (ch.trnSide g)).modelDigest).2

/-- One mapped tile: the masters of the agreed checkpoint quantised in its seal's format, element e in column e modulo the table's
columns (log 62). -/
def Chan.pubTile (ch : Chan) (g : Nat) (s : Side) (e : Nat × Nat × Nat) : List Byte :=
  let ctx := ch.trnSide g
  let f := (Fmt.ofCode (le (s.sealOf e.1) 5 1)).getD .n8
  let a := ch.winAddr ctx 0 e.2.2
  let cols := max 1 (leNat (ch.spad a 2))
  let n := 2048 * 8 / f.width
  let ms := fpWords n (ch.bytes 1 (ch.trnTenant g) (ch.trnArea g (ch.trnCtx g).area + 64 + 4 * e.2.1) (4 * n))
  packCodes f (ms.zipIdx.map fun x => (quantise f (ch.scaleEntry a (x.2 % cols)) x.1).code)

/-- Image, seal table and sum blocks of the published side: those of the serving side with the mapped tiles replaced. -/
def Chan.pubParts (ch : Chan) (g old : Nat) : List Byte × Side :=
  let s := ch.side old
  let img := ch.spad (ch.winBase old) (2048 * s.tiles)
  (List.range (ch.pubEntries g)).foldl (fun (acc : List Byte × Side) j =>
    let (img, s) := acc
    let e := ch.pubEntry g j
    if s.tiles ≤ e.1 then (img, s)
    else
      let t := ch.pubTile g s e
      let sl := s.sealOf e.1
      let f := (Fmt.ofCode (le sl 5 1)).getD .n8
      let sums := if le sl 4 1 = 1 then putBytes s.sums (768 * le sl 8 4) (sumBlock f ((le sl 6 1).testBit 1) t) else s.sums
      (putBytes img (2048 * e.1) t, { s with seals := putBytes s.seals (16 * e.1) (leBytes 4 (crc32c t).toNat), sums := sums })) (img, s)

/-- PUBLICATION (R289, R291): the waiting publication builds the standby side of the serving slot once it is EMPTY, and swaps it in. -/
def Chan.publication (ch : Chan) (g : Nat) : Chan :=
  let n := ch.trnFld g F.TRN_CFG_serve_slot
  let old := ctxOf n (ch.servingSide n)
  let new := ctxOf n (1 - ch.servingSide n)
  let i := ch.trnTenant g
  let serves := ch.slotEnabled n && ch.slotKind n == 1 && ch.slotTid n == ch.slotTid (ch.trnSlot g) && ch.servingState n == 1 &&
    ch.standbyState n == 0 && !ch.unloading n
  match (ch.trnCtx g).pubWait with
  | none => ch
  | some c =>
    if !ch.trnOn g || !serves || ch.pubEntries g == 0 then ch
    else
      let (img, s) := ch.pubParts g old
      let s := { s with header := s.header.take 104 ++ modelDigestOf s (fun j => slice img (2048 * j) 2048) ++ s.header.drop 152
                        signed := if s.published then s.signed else s.modelDigest
                        golden := ch.trnPubCopy g, bytes := 256 + img.length + s.seals.length + s.sums.length
                        backTier := ch.fld (R.TRN_PUB g) F.TRN_PUB_tier, backAddr := ch.fld (R.TRN_PUB g) F.TRN_PUB_address
                        published := true, step := c, digest := ch.agreedDigest g, retired := none, lastEpoch := none }
      let st : Staging := { slot := n, side := 1 - ch.servingSide n, src := s.golden, tier := s.backTier, back := s.backAddr
                            banks := 0, at_ := ch.now }
      match ch.stageAlloc st s with
      | .error _ => ch
      | .ok s =>
        let pack := s.header ++ img ++ s.seals ++ s.sums
        let ch := (ch.store 1 i s.golden pack).store s.backTier i s.backAddr pack
        let ch := (ch.store 0 i (ch.winBase new) img).setSide new s
        let ch := ((ch.stageStores st s).zeroCounters st s).setStandby n 2
        let ch := (ch.modTrn g fun t => { t with pubWait := none }).setFlag (R.TRN_STATUS g) F.TRN_STATUS_publish_wait false
        (ch.slotSwap n).count (R.TRN_CNT_PUBLISH g) EV_TRN_PUBLISHED (some i)

end Sys2Proof.Machine
end

