-- ==== Sys2Proof/Machine/VpeCmds.lean ====
section
/-!
DEFINITION. Machine/VpeCmds.lean: the commands of the Verdict and Policy Engine (chapter 11): gate lists (R307 to R310), indirect
access (R304, R318), isolation groups and policies (R312, R317), host-bound queues and shapers (R313 to R315).
-/

namespace Sys2Proof.Machine

open Sys2Proof

/-- A refused value of a VPE register (R316). -/
def Chan.vpeReject (ch : Chan) : Chan := ch.raise EV_VPE_CFG_REJECT

/-! ## Gate lists -/

/-- The bytes of a gate entry, and the entry that bytes spell (Table 11.6). -/
def GateEntry.bytes (g : GateEntry) : List Byte :=
  leBytes 4 g.duration ++ (List.range 4).map (fun i => byte (g.mxe.getD i 0)) ++ [byte g.rvu, byte g.fst, byte g.vec, 0] ++
    leBytes 2 g.hostMask ++ leBytes 2 0
def gateOf (b : List Byte) : GateEntry :=
  { duration := le b 0 4, mxe := (List.range 4).map fun i => le b (4 + i) 1, rvu := le b 8 1, fst := le b 9 1, vec := le b 10 1
    hostMask := le b 12 2 }

/-- Owner codes of an entry. -/
def GateEntry.owners (g : GateEntry) : List Nat := g.mxe ++ [g.rvu, g.fst, g.vec]

/-- A valid group may own gate entries. -/
def Chan.sharesGate (ch : Chan) (g : Nat) : Bool :=
  ch.flag (R.VPE_GROUP g) F.VPE_GROUP_valid && ch.flag (R.VPE_GROUP g) F.VPE_GROUP_share_gate

/-- The result of a commit (R309): 0, or the first condition that refuses it. -/
def Chan.commitResult (ch : Chan) : Nat :=
  let n := ch.fld R.VPE_GATE_ADMIN F.VPE_GATE_ADMIN_count
  let es := (List.range n).map (ch.gateEntry (1 - ch.activeList))
  let os := es.flatMap GateEntry.owners
  if n = 0 ∨ 64 < n then 1
  else if es.any (fun e => decide (e.duration < 100)) then 2
  else if os.any (fun o => decide (0x20 ≤ o ∧ o ≤ 0xFD)) then 3
  else if os.any (fun o => decide (0x10 ≤ o ∧ o < 0x20) && !ch.sharesGate (o - 0x10)) then 4
  else if ch.fld R.VPE_GATE_ADMIN F.VPE_GATE_ADMIN_cycle_time < 100 then 5
  else if ch.vpe.gate.pending.isSome then 6
  else 0

/-- The first time base + k × cycle at or after now, in Sidereal ns (R308). -/
def Chan.gateStart (ch : Chan) (base cycle : Nat) : Nat :=
  let now := ceilDiv (ch.sid.unitsAt ch.now) 63000000000
  if now ≤ base then base else base + ceilDiv (now - base) cycle * cycle

/-- The owners of the units have changed: chains whose tenant lost its partition are cut, saved ones whose tenant holds it again come
back (R207, R208, R310). -/
def Chan.gateChanged (ch : Chan) : Chan :=
  (List.range 32).foldl (fun (ch : Chan) k => ((ch.cutChains k).restoreChains k).pump k) ch

/-- VPE_GATE_COMMIT (R308, R309): a write of VPE_GATE_CTRL; commit makes the admin list pending or is refused. -/
def Chan.gateCtrlWrite (ch : Chan) (v : Word) : Chan :=
  let old := ch.fld R.VPE_GATE_CTRL F.VPE_GATE_CTRL_enable
  let ch := ch.wr R.VPE_GATE_CTRL (mergeF (ch.rd R.VPE_GATE_CTRL) v [F.VPE_GATE_CTRL_enable])
  let ch := if ch.fld R.VPE_GATE_CTRL F.VPE_GATE_CTRL_enable = old then ch else ch.gateChanged
  if getF v F.VPE_GATE_CTRL_commit = 0 then ch
  else
    let r := ch.commitResult
    let ch := ch.setFld R.VPE_GATE_STATUS F.VPE_GATE_STATUS_last_result r
    if r ≠ 0 then ch.raise EV_VPE_GATE_REJECT
    else
      let cycle := ch.fld R.VPE_GATE_ADMIN F.VPE_GATE_ADMIN_cycle_time
      let p : GatePending := { cycle := cycle, count := ch.fld R.VPE_GATE_ADMIN F.VPE_GATE_ADMIN_count
                               start := ch.gateStart (ch.rd R.VPE_GATE_BASE).toNat cycle }
      { ch with vpe := { ch.vpe with gate := { ch.vpe.gate with pending := some p } } }.setFlag R.VPE_GATE_STATUS
        F.VPE_GATE_STATUS_pending true

/-- Enter entry `e` of the operational list at time `t`. -/
def Chan.gateEnter (ch : Chan) (e t : Nat) : Chan :=
  ({ ch with vpe := { ch.vpe with gate := { ch.vpe.gate with entryAt := t } } }.setFld R.VPE_GATE_STATUS F.VPE_GATE_STATUS_entry
    e).gateChanged

/-- GATE_LIST_SWITCH (R308): the pending list becomes operational at its start. -/
def Chan.gateSwitch (ch : Chan) : Chan :=
  match ch.vpe.gate.pending with
  | none => ch
  | some p =>
    if ch.ns < p.start then ch
    else
      let k := R.VPE_GATE_STATUS
      let ch : Chan := { ch with vpe := { ch.vpe with gate := { ch.vpe.gate with pending := none, oper := some p } } }
      let ch := (ch.setFld k F.VPE_GATE_STATUS_active_list (1 - ch.activeList)).setFlag k F.VPE_GATE_STATUS_pending false
      ((ch.setFld k F.VPE_GATE_STATUS_cycles 1).gateEnter 0 p.start).raise EV_VPE_GATE_SWITCHED

/-- GATE_ENTRY_START (R308): the next entry of the operational list, or its next cycle, begins. -/
def Chan.gateEntryStart (ch : Chan) : Chan :=
  match ch.vpe.gate.oper with
  | none => ch
  | some p =>
    let k := R.VPE_GATE_STATUS
    let e := ch.fld k F.VPE_GATE_STATUS_entry
    let next := ch.vpe.gate.entryAt + (ch.gateEntry ch.activeList e).duration
    let stop := p.start + p.cycle
    if e + 1 < p.count ∧ next < stop then (if ch.ns < next then ch else ch.gateEnter (e + 1) next)
    else if ch.ns < stop then ch
    else
      let ch : Chan := { ch with vpe := { ch.vpe with gate := { ch.vpe.gate with oper := some { p with start := stop } } } }
      (ch.setFld k F.VPE_GATE_STATUS_cycles (ch.fld k F.VPE_GATE_STATUS_cycles + 1)).gateEnter 0 stop

/-! ## Indirect access (R318) -/

/-- The bytes of a meter and the meter that bytes spell (Table 11.3). -/
def Meter.bytes (m : Meter) : List Byte :=
  [byte m.mode, if m.aware then 1 else 0, byte m.tenant, byte m.adjust] ++ leBytes 4 m.cir ++ leBytes 4 m.pir ++ leBytes 4 m.cbs ++
    leBytes 4 m.ebs ++ leBytes 4 0 ++ leBytes 8 m.tc ++ leBytes 8 m.te ++ leBytes 8 m.last ++ leBytes 4 m.green ++
    leBytes 4 m.yellow ++ leBytes 4 m.red ++ leBytes 4 0
def meterOfBytes (b : List Byte) : Meter :=
  { mode := le b 0 1, aware := (le b 1 1).testBit 0, tenant := le b 2 1, adjust := le b 3 1, cir := le b 4 4, pir := le b 8 4
    cbs := le b 12 4, ebs := le b 16 4, green := le b 48 4, yellow := le b 52 4, red := le b 56 4 }

/-- Meter `n` lies in the region of local tenant `i`. -/
def Chan.inMeters (ch : Chan) (i n : Nat) : Bool :=
  let r := R.VPE_MTR_REGION i
  let base := ch.fld r F.VPE_MTR_REGION_base
  let b := ch.fld r F.VPE_MTR_REGION_log2_meters
  b != 0 && decide (base ≤ n ∧ n < base + 2 ^ b)

/-- A written meter is acceptable (R301): its tenant owns it, and its mode, reserved bytes, rates and bursts are as Table 11.3 allows. -/
def Chan.meterOk (ch : Chan) (n : Nat) (b : List Byte) : Bool :=
  let m := meterOfBytes b
  decide (m.mode ≤ 2) && le b 1 1 / 2 == 0 && le b 20 4 == 0 && le b 60 4 == 0 &&
  m.tenant / 16 == ch.idx.val && ch.inMeters (m.tenant % 16) n &&
  (m.mode == 0 || (decide (1 ≤ m.cbs) && (m.mode != 1 || m.pir == 0) && (m.mode != 2 || decide (m.cbs ≤ m.ebs))))

/-- A meter write (R304): a change of mode, rate or burst fills the buckets and zeroes the counts; otherwise they are kept. -/
def Chan.meterWrite (ch : Chan) (n : Nat) (b : List Byte) : Chan :=
  let m := meterOfBytes b
  let old := ch.meter n
  let same := m.mode == old.mode && m.cir == old.cir && m.pir == old.pir && m.cbs == old.cbs && m.ebs == old.ebs
  let kept : Meter := { m with tc := old.tc, te := old.te, last := old.last, green := old.green, yellow := old.yellow, red := old.red }
  let full : Meter := { m with tc := m.cbs * 65536, te := m.ebs * 65536, last := ch.ns, green := 0, yellow := 0, red := 0 }
  let m := if same && !ch.vpe.meterBad.contains n then kept else full
  let ch := ch.setMeter n m
  { ch with vpe := { ch.vpe with meterBad := ch.vpe.meterBad.filter (· ≠ n) } }

/-- The bytes of an action entry, and the entry that bytes spell (Table 11.2). -/
def Action.bytes (a : Action) : List Byte :=
  leBytes 4 a.threshold.toNat ++ [byte (a.low + 16 * a.high), byte (a.yellow + 16 * a.red),
    byte (a.meterMode + if a.hostCopy then 4 else 0), 0] ++ leBytes 2 a.meterIdx ++ leBytes 6 0
def actionOf (b : List Byte) : Action :=
  { threshold := BitVec.ofNat 32 (le b 0 4), low := le b 4 1 % 16, high := le b 4 1 / 16, yellow := le b 5 1 % 16
    red := le b 5 1 / 16, meterMode := le b 6 1 % 4, hostCopy := (le b 6 1).testBit 2, meterIdx := le b 8 2 }

/-- A written action entry is acceptable (R297). -/
def actionEntryOk (b : List Byte) : Bool :=
  let a := actionOf b
  !fpIsNaN a.threshold.toNat && decide (a.low ≤ 5 ∧ a.high ≤ 5 ∧ a.meterMode ≤ 2) &&
  (decide (a.yellow ≤ 5) || a.yellow == 15) && (decide (a.red ≤ 5) || a.red == 15) &&
  le b 6 1 / 8 == 0 && le b 7 1 == 0 && le b 10 6 == 0

/-- What VPE_IND_SEL of an instance reaches: 2 out of range, 3 not permitted (R316, R318). -/
def Chan.vpeReach (ch : Chan) (inst target index : Nat) : Nat :=
  if 2 < target ∨ (target = 0 ∧ 32768 ≤ index) ∨ (target = 1 ∧ 2048 ≤ index) ∨ (target = 2 ∧ 64 ≤ index) then 2
  else if inst = 0 then 0
  else match target with
    | 0 => if ch.inMeters (inst - 1) index then 0 else 3
    | 1 => if ch.slotEnabled (index / 32) && ch.slotTid (index / 32) == ch.tid (inst - 1) then 0 else 3
    | _ => 3

/-- The item as VPE_IND_DATA carries it. -/
def Chan.vpeItem (ch : Chan) (target index : Nat) : List Byte :=
  match target with
  | 0 => (ch.meter index).bytes
  | 1 => (ch.action index).bytes
  | _ => (ch.gateEntry (1 - ch.activeList) index).bytes

/-- Write an item: its result of Table 11.9 and the channel. -/
def Chan.vpePut (ch : Chan) (target index : Nat) (b : List Byte) : Nat × Chan :=
  match target with
  | 0 => if ch.meterOk index b then (0, ch.meterWrite index b) else (1, ch)
  | 1 =>
    if actionEntryOk (slice b 0 16) then
      (0, { ch with vpe := { ch.vpe with actions := sset (fun _ => {}) ch.vpe.actions index (actionOf b) } })
    else (1, ch)
  | _ =>
    if ch.vpe.gate.pending.isSome then (4, ch)
    else if le b 11 1 ≠ 0 ∨ le b 14 2 ≠ 0 then (1, ch)
    else
      let l := sset (fun _ => ({} : GateEntry)) ch.vpe.gate.lists (64 * (1 - ch.activeList) + index) (gateOf b)
      (0, { ch with vpe := { ch.vpe with gate := { ch.vpe.gate with lists := l } } })

/-- An access that a write `v` of VPE_IND_SEL starts through function instance `inst` (R318). -/
def Chan.vpeAccess (ch : Chan) (inst : Nat) (v : Word) (write : Bool) : Chan :=
  let k := bank inst R.VPE_IND_SEL
  let target := getF v F.VPE_IND_SEL_target
  let index := getF v F.VPE_IND_SEL_index
  let ch := ch.wr k (mergeF (ch.rd k) v [F.VPE_IND_SEL_target, F.VPE_IND_SEL_index, F.VPE_IND_SEL_write])
  let data := (List.range 8).flatMap fun i => leBytes 8 (ch.rd (bank inst (R.VPE_IND_DATA i))).toNat
  let reach := ch.vpeReach inst target index
  let (res, ch) :=
    if reach ≠ 0 then (reach, ch)
    else if write then ch.vpePut target index data
    else
      let ch := if target = 0 ∧ ch.vpe.meterBad.contains index = true then
          ch.meterLost index ((List.range 16).find? fun i => ch.inMeters i index) else ch
      let b := ch.vpeItem target index
      (0, (List.range (if target = 0 then 8 else 2)).foldl (fun (ch : Chan) i =>
        ch.wr (bank inst (R.VPE_IND_DATA i)) (BitVec.ofNat 64 (le b (8 * i) 8))) ch)
  let ch := (ch.setFld k F.VPE_IND_SEL_result res).setFld k F.VPE_IND_SEL_start 0
  if res = 1 then ch.vpeReject else ch

/-! ## Groups and policies (R312, R317) -/

/-- A list that is operational or pending names group `g`. -/
def Chan.gateNames (ch : Chan) (g : Nat) : Bool :=
  let names (l n : Nat) : Bool := (List.range n).any fun i => (ch.gateEntry l i).owners.contains (0x10 + g)
  (match ch.vpe.gate.oper with | some p => names ch.activeList p.count | none => false) ||
  (match ch.vpe.gate.pending with | some p => names (1 - ch.activeList) p.count | none => false)

/-- Tenants that own quadrants of an engine. -/
def Chan.engineOwners (ch : Chan) (e : Nat) : List Nat :=
  (((List.range 4).filter fun q => ch.flag (R.MXE_PART e) (F.MXE_PART_assigned q)).map fun q =>
    ch.fld (R.MXE_PART e) (F.MXE_PART_owner q)).eraseDups

/-- VPE_GROUP_WRITE (R312). -/
def Chan.groupWrite (ch : Chan) (g : Nat) (v : Word) : Chan :=
  let k := R.VPE_GROUP g
  let old := ch.rd k
  let w := mergeF old v [F.VPE_GROUP_members, F.VPE_GROUP_share_gate, F.VPE_GROUP_share_mxe, F.VPE_GROUP_valid]
  let new := ch.wr k w
  let two := getF w F.VPE_GROUP_valid == 1 && (List.range 16).any fun i =>
    (getF w F.VPE_GROUP_members).testBit i && (List.range 16).any fun h => h != g && ch.inGroup h i
  let lost (f : Fld) : Bool := getF old f == 1 && getF w f == 0
  let shrinks := (List.range 16).any fun i => (getF old F.VPE_GROUP_members).testBit i && !(getF w F.VPE_GROUP_members).testBit i
  let mxe := (List.range 4).any fun e =>
    let ts := ch.engineOwners e
    decide (1 < ts.length) && ch.mayShare ts && !new.mayShare ts
  let gate := getF old F.VPE_GROUP_valid == 1 && (shrinks || lost F.VPE_GROUP_share_gate || lost F.VPE_GROUP_valid) && ch.gateNames g
  if 16 ≤ g then ch else if two || mxe || gate then ch.vpeReject else new

/-- A slot that a policy of local tenant `i` may name (R317). -/
def Chan.policySlot (ch : Chan) (i n : Nat) : Bool :=
  n == 0xFF || (decide (n < 64) && !(ch.slotEnabled n && ch.slotTid n != ch.tid i) && ch.slotKind n != 2)

/-- VPE_TPOL_WRITE (R317). -/
def Chan.tpolWrite (ch : Chan) (i : Nat) (v : Word) : Chan :=
  let k := R.VPE_TPOL i
  if 16 ≤ i then ch
  else if ch.policySlot i (getF v F.VPE_TPOL_primary_slot) && ch.policySlot i (getF v F.VPE_TPOL_fallback_slot) &&
      decide (getF v F.VPE_TPOL_default_code ≤ 5) then
    ch.wr k (mergeF (ch.rd k) v [F.VPE_TPOL_primary_slot, F.VPE_TPOL_fallback_slot, F.VPE_TPOL_default_code])
  else ch.vpeReject

/-- A write of VPE_SLOT_n (R295, R317). -/
def Chan.vpeSlotWrite (ch : Chan) (n : Nat) (v : Word) : Chan :=
  let k := R.VPE_SLOT n
  if getF v F.VPE_SLOT_score_mode = 3 ∨ fpPosNormal (getF v F.VPE_SLOT_score_mul) = false then ch.vpeReject
  else ch.wr k (mergeF (ch.rd k) v [F.VPE_SLOT_score_mode, F.VPE_SLOT_score_mul])

/-- A write of VPE_MTR_REGION_n while the block's lock is open (R316, R317). -/
def Chan.meterRegionWrite (ch : Chan) (n : Nat) (v : Word) : Chan :=
  let base := getF v F.VPE_MTR_REGION_base
  let b := getF v F.VPE_MTR_REGION_log2_meters
  let f := getF v F.VPE_MTR_REGION_flow_log2
  let k := R.VPE_MTR_REGION n
  let clash := (List.range 16).any fun j =>
    let kj := R.VPE_MTR_REGION j
    let bj := ch.fld kj F.VPE_MTR_REGION_log2_meters
    let sj := ch.fld kj F.VPE_MTR_REGION_base
    j != n && bj != 0 && decide (base < sj + 2 ^ bj ∧ sj < base + 2 ^ b)
  if ch.flag R.VPE_CTRL F.VPE_CTRL_enable || ch.safeServe then ch
  else if b < f ∨ (b ≠ 0 ∧ (base % 2 ^ b ≠ 0 ∨ 32768 < base + 2 ^ b ∨ clash = true)) then ch.vpeReject
  else ch.wr k (mergeF (ch.rd k) v [F.VPE_MTR_REGION_base, F.VPE_MTR_REGION_log2_meters, F.VPE_MTR_REGION_flow_log2])

/-! ## Host-bound queues and shapers (R313 to R315) -/

def noShaper (_ : Nat) : Shaper := {}
def Chan.shaper (ch : Chan) (i q : Nat) : Shaper := sget noShaper ch.vpe.shapers (hqKey i q)
def Chan.setShaper (ch : Chan) (i q : Nat) (s : Shaper) : Chan :=
  { ch with vpe := { ch.vpe with shapers := sset noShaper ch.vpe.shapers (hqKey i q) s } }

/-- Burst of a shaper in 2^−16 byte. -/
def Chan.shpCap (ch : Chan) (i q : Nat) : Nat := ch.fld (R.VPE_SHP i q) F.VPE_SHP_burst * 65536

/-- The bucket now: in the native mode tokens arrive continuously (R314); nothing arrives while VPE_CTRL.enable is 0 (R316). -/
def Chan.shpTokens (ch : Chan) (i q : Nat) : Nat :=
  let s := ch.shaper i q
  if ch.flag R.VPE_CTRL F.VPE_CTRL_xitar4_refill || !ch.flag R.VPE_CTRL F.VPE_CTRL_enable then s.tokens
  else min (s.tokens + (ch.ns - s.at_) * ch.fld (R.VPE_SHP i q) F.VPE_SHP_rate) (ch.shpCap i q)

/-- Bring every bucket up to now: called where tokens begin or cease to arrive (R316). -/
def Chan.shpSettle (ch : Chan) : Chan :=
  (List.range 32).foldl (fun (c : Chan) n =>
    if (ch.shaper (n / 2) (n % 2)) = {} then c
    else c.setShaper (n / 2) (n % 2) { ch.shaper (n / 2) (n % 2) with tokens := ch.shpTokens (n / 2) (n % 2), at_ := ch.ns }) ch

/-- A write of VPE_CTRL: xitar4_refill is open while enable is 0 (R316). -/
def Chan.vpeCtrlWrite (ch : Chan) (v : Word) : Chan :=
  let old := ch.rd R.VPE_CTRL
  let ch := if getF v F.VPE_CTRL_enable = getF old F.VPE_CTRL_enable then ch else ch.shpSettle
  ch.wr R.VPE_CTRL (mergeF old v ([F.VPE_CTRL_enable, F.VPE_CTRL_credit_mode] ++
    if getF old F.VPE_CTRL_enable = 0 ∧ ch.safeServe = false then [F.VPE_CTRL_xitar4_refill] else []))

def shpFields : List Fld := [F.VPE_SHP_rate, F.VPE_SHP_burst, F.VPE_SHP_enable, F.VPE_SHP_reset_to_full]

/-- VPE_SHP_WRITE (R314, R315): native writes fill or empty the bucket; with xitar4_refill the write is latched. -/
def Chan.shpWrite (ch : Chan) (i q : Nat) (v : Word) : Chan :=
  let k := R.VPE_SHP i q
  let w := mergeF (ch.rd k) v shpFields
  if 16 ≤ i ∨ 2 ≤ q then ch
  else if getF w F.VPE_SHP_enable = 1 ∧ getF w F.VPE_SHP_burst < 256 then ch.vpeReject
  else if ch.flag R.VPE_CTRL F.VPE_CTRL_xitar4_refill then ch.setShaper i q { ch.shaper i q with latched := some w }
  else
    let ch := ch.wr k w
    ch.setShaper i q { tokens := if getF w F.VPE_SHP_reset_to_full = 1 then ch.shpCap i q else 0, at_ := ch.ns }

/-- One shaper at a refill instant of the compatibility mode. -/
def Chan.shpRefill (ch : Chan) (i q : Nat) : Chan :=
  let s := ch.shaper i q
  if ch.ns / 1000 ≤ s.at_ / 1000 then ch
  else
    let ch := match s.latched with | some w => ch.wr (R.VPE_SHP i q) w | none => ch
    let t := min (s.tokens + 1000 * ch.fld (R.VPE_SHP i q) F.VPE_SHP_rate) (ch.shpCap i q)
    ch.setShaper i q { tokens := t, at_ := ch.ns / 1000 * 1000 }

/-- SHAPER_REFILL_TICK (R315): with xitar4_refill set, the refill instant that has come is carried out, once for each shaper. -/
def Chan.shpTick (ch : Chan) : Chan :=
  if ch.flag R.VPE_CTRL F.VPE_CTRL_xitar4_refill && ch.flag R.VPE_CTRL F.VPE_CTRL_enable then
    (List.range 32).foldl (fun (ch : Chan) n => ch.shpRefill (n / 2) (n % 2)) ch
  else ch

/-- A host-bound ring of a VF is on and not full (R376). -/
def Chan.hringRoom (ch : Chan) (i q : Nat) : Bool :=
  let k := ch.fld (bank (i + 1) (R.CHN_HRING_BASE q)) F.CHN_HRING_BASE_log2_size
  let x := bank (i + 1) (R.CHN_HRING_IDX q)
  k != 0 && ch.fnLive (i + 1) && !ringFull k (ch.fld x F.CHN_HRING_IDX_prod) (ch.fld x F.CHN_HRING_IDX_cons)

/-- HOST_QUEUE_SEND (R313, R314, R376): the head of a queue leaves when its gate is open, its shaper holds enough tokens and its
ring has room. -/
def Chan.hostQueueSend (ch : Chan) (i q : Nat) : Chan :=
  match ch.hq i q with
  | [] => ch
  | r :: rest =>
    let shaped := ch.flag (R.VPE_SHP i q) F.VPE_SHP_enable
    let t := ch.shpTokens i q
    let need := r.length * 65536
    if 16 ≤ i ∨ 2 ≤ q ∨ ch.hostOpen i = false ∨ ch.hringRoom i q = false ∨ (shaped = true ∧ t < need) then ch
    else
      let ch := ch.setHq i q rest
      let ch := if shaped && ch.flag R.VPE_CTRL F.VPE_CTRL_enable then
          let at_ := if ch.flag R.VPE_CTRL F.VPE_CTRL_xitar4_refill then (ch.shaper i q).at_ else ch.ns
          ch.setShaper i q { ch.shaper i q with tokens := t - need, at_ := at_ }
        else ch
      let x := bank (i + 1) (R.CHN_HRING_IDX q)
      let k := ch.fld (bank (i + 1) (R.CHN_HRING_BASE q)) F.CHN_HRING_BASE_log2_size
      let prod := ch.fld x F.CHN_HRING_IDX_prod
      let o : HostOut := if q = 0 then .mirror (i + 1) (prod % 2 ^ k) r else .telemetry (i + 1) (prod % 2 ^ k) r
      let ch : Chan := { ch with ev := ch.ev.send o }
      (ch.setFld x F.CHN_HRING_IDX_prod (prod + 1)).vector (i + 1) (4 + q) (ch.fld x F.CHN_HRING_IDX_holdoff)

end Sys2Proof.Machine
end

