-- ==== Sys2Proof/Machine/MemCmds.lean ====
section
/-!
DEFINITION. Machine/MemCmds.lean: the commands of the memory tiers (chapter 12): answers of a tier (R327, R328, R484), regions and
zero-fill (R329, R330, R333), tenant erase (R334), T2 states (R336 to R338, R323) and the T3 link (R324).
-/

namespace Sys2Proof.Machine

open Sys2Proof

/-! ## Answers of a tier (R327, R328, R484) -/

/-- One command of a side completes as an aborted command does (R213, Table 12.4). -/
def Chan.abortCommand (ch : Chan) (ctx index : Nat) : Chan :=
  let live := match ch.run ctx with | some r => r.live.any fun x => x.index == index | none => false
  if !live then ch
  else
    let mine (x : Nat × Nat × Nat) : Bool := x.1 == ctx && x.2.2 == index
    let again (r : Redo) : Bool := r.ctx == ctx && r.ops.any (·.2.1 == index)
    let redos := (List.range 32).flatMap fun k => ((ch.part k).redo.filter again).flatMap fun r => r.ops.map (·.2.1)
    let ch := (List.range 32).foldl (fun (ch : Chan) k => ch.modPart k fun (p : Part) =>
      { p with flights := p.flights.map fun (f : Flight) => if f.ctx = ctx ∧ f.index = index then { f with discard := true } else f
               queue := p.queue.filter fun x => !mine x
               parked := p.parked.filter fun x => !mine x
               redo := p.redo.filter fun (r : Redo) => !again r
               drain := match p.drain with
                 | some d => if d.ctx = ctx ∧ d.index = index then none else p.drain
                 | none => none }) ch
    let ch := ch.wfqDrop fun x => x.ctx == ctx && x.index == index
    let ch := (List.range 2).foldl (fun (ch : Chan) u =>
      let x := ch.rvu u
      (ch.setRvu u { x with dots := x.dots.filter fun (d : Dot) => !(d.ctx == ctx && d.index == index) }).setRvuBusy u) ch
    let ch := redos.foldl (fun (ch : Chan) i => ch.cancelOp ctx i) ch
    let ch := (List.range 64).foldl (fun (ch : Chan) tk => match ch.tile tk with
      | some t => if t.ctx = ctx ∧ (t.ops.any fun o => o.1 == index) ∧ ch.tileState tk ≠ 3 then
          let ch := ((ch.liveOps t).filter fun i => !ch.flying ctx i).foldl (fun (ch : Chan) i => ch.cancelOp ctx i) ch
          ((ch.dropDrain tk t Chan.cancelOp).setTile tk (some { t with dead := true })).reapTile tk else ch
      | none => ch) ch
    let ch := ch.eng.saved.foldl (fun (ch : Chan) (s : Saved) =>
      if s.tile.ctx = ctx ∧ (s.tile.ops.any fun o => o.1 == index) then
        let ch := (ch.liveOps s.tile).foldl (fun (ch : Chan) i => ch.cancelOp ctx i) (ch.unqueueChain s.tile)
        let ch := match s.drain with | some d => ch.cancelOp d.ctx d.index | none => ch
        { ch with eng := { ch.eng with saved := ch.eng.saved.filter fun x => x ≠ s } }
      else ch) ch
    let ch := match ch.run ctx with | some r => ch.setRun ctx { r with aborted := r.next } | none => ch
    (List.range 32).foldl Chan.pump (ch.cancelOp ctx index)

/-- Every record of a line fails parity (R84, Table 12.4). -/
def Chan.lineBad (ch : Chan) (tier i a : Nat) : Chan :=
  if tier = 1 then
    let b := a / 512
    if ch.bucketTenant b = some i then
      let ch := ch.putBucket i b (badLine (ch.bucketBytes i b))
      (List.range 4).foldl (fun (ch : Chan) w =>
        let r := recAt (ch.bucketBytes i b) w
        if recValid r then ch.parityMaint false i b w (recKey r) else ch) ch
    else ch
  else if tier = 2 then ch.store 2 i (a / 512 * 512) (badLine (ch.bytes 2 i (a / 512 * 512) 512))
  else ch

/-- What the requester of an uncorrectable read does (Table 12.4). -/
def Chan.requesterActs (ch : Chan) (tier a : Nat) : TierUser → Chan
  | .flow i => ch.lineBad tier i.val a
  | .entity => ch
  | .tile ctx t =>
    let reads (s : Option Standby) : Bool := match s with
      | some s => s.ctx == ctx.val && s.phase == .staging
      | none => false
    let held (s : Option Standby) : Option Standby := if reads s then s.map fun s => { s with phase := .held } else s
    let k := (List.range 32).find? fun k => reads (ch.part k).standby || reads (ch.part k).next
    let h : SealHold := { ctx := ctx.val, tile := t, at_ := ch.now, part := k }
    let ch : Chan := { ch with models := { ch.models with holds := ch.models.holds ++ [h] } }
    match k with
    | some k => ch.modPart k fun p =>
      if reads p.standby then { p with standby := held p.standby } else { p with next := held p.next }
    | none => ch
  | .command ctx index => ch.abortCommand ctx.val index
  | .training g => ch.failRun (ch.stepSide g.val) (match ch.run (ch.stepSide g.val) with | some r => r.next | none => 0) 4
  | .checkpoint g again => if again then ch.trnStop g.val else ch
  | .staging => if ch.models.staging.isSome then ch.stageFault { step := 10, reason := 21 } else ch
  | .evacuation =>
    { ch with mem := { ch.mem with evacBad := a / 64 * 64 :: ch.mem.evacBad } }.raise EV_MEM_EVAC_LOSS
  | .dma inst q index =>
    match ch.dmaFind inst.val q.val index.toNat with
    | some r => ch.dmaEnd r dmaTierError
    | none => ch
  | .other => ch

/-- What the requester of a refused access does (R320): as for an uncorrectable read, but a host DMA command completes REFUSED. -/
def Chan.refusedActs (ch : Chan) (tier a : Nat) (who : TierUser) : Chan :=
  match who with
  | .dma inst q index =>
    match ch.dmaFind inst.val q.val index.toNat with
    | some r => (ch.raise EV_CHN_DMA_REFUSED (instTenant inst.val)).dmaEnd r dmaRefused
    | none => ch
  | _ => ch.requesterActs tier a who

/-- TIER_READ_RETURN (R320, R324, R327, R328): a read of `n` bytes returns. A corrected line is written back as it reads and
counted; an uncorrectable one, as every read of a T3 whose link is down, is recorded and its requester acts. An access beyond the
tier's capacity is refused. -/
def Chan.tierReturn (ch : Chan) (tier a n : Nat) (who : TierUser) (st : ReadStatus) : Chan :=
  if ch.tierSize tier < a + n then (ch.refuseAccess).refusedActs tier a who
  else
    let ch := ch.watch tier a n false
    match (if tier = 3 ∧ ch.t3Up = false then .uncorrectable else st : ReadStatus) with
    | .ok => ch
    | .corrected => match corrCounter tier with | some k => ch.inc k | none => ch
    | .uncorrectable => (ch.uncorrectable tier a).requesterActs tier a who

/-- TIER_REQUEST_TIMEOUT (R484): a request unanswered for 1 ms: an uncorrectable read, or a write whose data is lost. -/
def Chan.tierTimeout (ch : Chan) (tier a : Nat) (write : Bool) (who : TierUser) : Chan :=
  let ch := ch.uncorrectable tier a
  match write, who with
  | true, .dma inst q index => ch.requesterActs tier a (.dma inst q index)
  | true, _ => ch
  | false, w => ch.requesterActs tier a w

/-! ## Regions (R329, R330, R333) -/

/-- Bytes of an entry meet a slot window (R218). -/
def Chan.meetsWindow (ch : Chan) (a n : Nat) : Bool :=
  (List.range 128).any fun c => ch.winSize c != 0 && rangesMeet a n (ch.winBase c) (ch.winSize c)

/-- Entry `i` may become valid with these words (R329). -/
def Chan.entryFits (ch : Chan) (i : Nat) (r : Region) : Bool :=
  r.len != 0 && decide (r.base + r.len ≤ ch.tierSize r.tier) &&
  ((List.range 64).all fun j =>
    let o := ch.region j
    j == i || !o.valid || o.tier != r.tier || !rangesMeet r.base r.len o.base o.len) &&
  !(r.tier == 0 && ch.meetsWindow r.base r.len)

/-- Bytes of the training area of context `g` before its publish copy (R274). -/
def Chan.trnAreaLen (ch : Chan) (g : Nat) : Nat := ch.trnPubCopy g - ch.fld (R.TRN_T1 g) F.TRN_T1_base

/-- A structure that R330 confines to entry `i` lies in it. -/
def Chan.confines (ch : Chan) (i : Nat) : Bool :=
  let r := ch.region i
  let lies (tier owner a n : Nat) : Bool := r.owner == owner && r.holds tier a n
  ((List.range 16).any fun t => ch.hasRegion t && ch.flag (R.FLW_REGION_B t) F.FLW_REGION_B_cold_enable &&
    lies 2 t (ch.coldAddr t 0) (512 * 2 ^ ch.coldBits t)) ||
  ((List.range 128).any fun c => ch.sideBusy c && (ch.side c).bytes != 0 &&
    lies (ch.side c).backTier (ch.slotTenant (ctxSlot c)) (ch.side c).backAddr (ch.side c).bytes) ||
  (match ch.models.staging with
    | some st => lies st.tier (ch.slotTenant st.slot) st.back 1
    | none => false) ||
  (List.range 4).any fun g => ch.flag (R.TRN_CFG g) F.TRN_CFG_enable &&
    (lies 1 (ch.trnTenant g) (ch.fld (R.TRN_T1 g) F.TRN_T1_base) (ch.trnAreaLen g) ||
      (ch.flag (R.TRN_CFG g) F.TRN_CFG_publish &&
        lies (ch.fld (R.TRN_PUB g) F.TRN_PUB_tier) (ch.trnTenant g) (ch.fld (R.TRN_PUB g) F.TRN_PUB_address) 1))

def regionAFields : List Fld := [F.MEM_REGION_A_valid, F.MEM_REGION_A_tier, F.MEM_REGION_A_owner]
def regionBFields : List Fld :=
  [F.MEM_REGION_B_base, F.MEM_REGION_B_size, F.MEM_REGION_B_move_to, F.MEM_REGION_B_move_valid]

/-- Start the zero-fill of entry `i` when it is a tenant's in T1 or the scratchpad (R333). -/
def Chan.startZero (ch : Chan) (i : Nat) : Chan :=
  let r := ch.region i
  if r.tier < 2 ∧ r.owner < 16 then
    let f : Fill := { entry := i, tier := r.tier, base := r.base, len := r.len }
    { ch with mem := { ch.mem with fills := ch.mem.fills ++ [f] } }.setFlag (R.MEM_REGION_A i) F.MEM_REGION_A_filling true
  else ch

/-- MEM_REGION_WRITE (R329, R333, R373): `part` 0 MEM_REGION_A_i, 1 MEM_REGION_B_i. Clearing valid waits for the started DMA
commands into the entry. -/
def Chan.memRegionWrite (ch : Chan) (i part : Nat) (v : Word) : Chan :=
  let ka := R.MEM_REGION_A i
  let kb := R.MEM_REGION_B i
  let a := if part = 0 then mergeF (ch.rd ka) v regionAFields else ch.rd ka
  let b := if part = 0 then ch.rd kb else mergeF (ch.rd kb) v regionBFields
  let old := ch.region i
  let new := regionOf a b
  let reject := ch.raise EV_MEM_REGION_REJECT
  if 64 ≤ i then ch
  else if 16 < new.owner then reject
  else if old.valid then
    if old.tier ≠ new.tier ∨ old.owner ≠ new.owner ∨ old.base ≠ new.base ∨ old.len ≠ new.len then reject
    else if (old.moveTo ≠ new.moveTo ∨ old.move ≠ new.move) ∧ ch.t2State = 1 then reject
    else if new.valid then ch.wr kb b
    else if ch.confines i then reject
    else { ch with mem := { ch.mem with clearing := i :: ch.mem.clearing.filter (· ≠ i) } }.settleClears
  else if new.valid then (if ch.entryFits i new then ((ch.wr ka a).wr kb b).startZero i else reject)
  else (ch.wr ka a).wr kb b

/-- ZERO_FILL_COMPLETE (R333): the fill of entry `i` ends. -/
def Chan.zeroFillComplete (ch : Chan) (i : Nat) : Chan :=
  match ch.mem.fills.find? fun f => f.entry == i with
  | none => ch
  | some f =>
    let m := { ch.mem with
      fills := ch.mem.fills.filter (· ≠ f)
      spad := if f.tier = 0 then clearRange ch.mem.spad f.base f.len else ch.mem.spad
      t1 := if f.tier = 1 then clearRange ch.mem.t1 f.base f.len else ch.mem.t1 }
    let ch : Chan := { ch with mem := m }
    let ch := if ch.mem.fills.any fun g => g.entry == i then ch
      else ch.setFlag (R.MEM_REGION_A i) F.MEM_REGION_A_filling false
    ch.inc R.MEM_CNT_FILL_BYTES f.len

/-! ## Removing a tenant (R334) -/

/-- Registers of local tenant `i`, which an erase returns to their reset values (R364). -/
def tenantRegs (i : Nat) : List Nat :=
  [R.CHN_TENANT i, R.FLW_REGION_A i, R.FLW_REGION_B i, R.FTR_STATE i, R.ACU_SR_SEED i, R.ACU_SAVE_BASE i, R.VPE_TPOL i,
    R.VPE_WFQ i, R.VPE_MTR_REGION i, R.VPE_SHP i 0, R.VPE_SHP i 1, R.ZLK_SHARE i, R.ZLK_ACCEPT i, R.LDS_NOTE_BASE i,
    R.LDS_NOTE_IDX i, R.LDS_INS_BASE i, R.LDS_INS_IDX i] ++
  ((List.range 4).flatMap fun k => [R.FTR_LOOKUP (4 * i + k), R.LDS_ENT_SEED (4 * i + k)]) ++
  (List.range 6).map fun k => R.OBS_TCNT i k

/-- An erase of tenant `i` must be refused (R334). -/
def Chan.eraseRefused (ch : Chan) (i : Nat) : Bool :=
  ((List.range 64).any fun n => ch.slotTid n == ch.tid i && (ch.servingState n != 0 || ch.standbyState n != 0)) ||
  (List.range 4).any fun g => ch.flag (R.TRN_CFG g) F.TRN_CFG_enable && ch.trnTenant g == i &&
    ch.ownsTid (ch.slotTid (ch.trnSlot g))

/-- TENANT_ERASE (R334): a write of MEM_KEY_CMD. Steps 1 and 2, and the tenant's VF's unstarted commands (R373). While an erase runs,
erase is pending and starts nothing (R11). -/
def Chan.tenantErase (ch : Chan) (v : Word) : Chan :=
  let k := R.MEM_KEY_CMD
  let i := getF v F.MEM_KEY_CMD_tenant
  let ch := ch.setFld k F.MEM_KEY_CMD_tenant i
  if ch.mem.erase.isSome || getF v F.MEM_KEY_CMD_erase == 0 then ch
  else if ch.eraseRefused i || ch.safeServe then ch.setFld k F.MEM_KEY_CMD_last_result 1
  else
    let ch := (ch.setFlag k F.MEM_KEY_CMD_erase true).drawKey i
    let base := ch.regionBase i
    let len := if ch.hasRegion i then 2 ^ ch.regionBits i else 0
    let ch := ((ch.regionRemove i).wr (R.FLW_REGION_A i) 0).wr (R.FLW_REGION_B i) 0
    let ch := ch.hqFlush (i + 1) 0 dmaFlushed 65536
    let ch := (List.range 64).foldl (fun (ch : Chan) e =>
      let r := ch.region e
      if r.valid && r.owner == i && decide (r.tier < 2) then ch.setFlag (R.MEM_REGION_A e) F.MEM_REGION_A_filling true else ch) ch
    { ch with mem := { ch.mem with erase := some (i, base, len) } }

/-- Clear a T1 or scratchpad entry of the tenant, and its registers. -/
def Chan.eraseEntry (i : Nat) (ch : Chan) (e : Nat) : Chan :=
  let r := ch.region e
  if r.owner ≠ i ∨ r.valid = false then ch
  else
    let m := { ch.mem with
      spad := if r.tier = 0 then clearRange ch.mem.spad r.base r.len else ch.mem.spad
      t1 := if r.tier = 1 then clearRange ch.mem.t1 r.base r.len else ch.mem.t1
      fills := ch.mem.fills.filter fun f => f.entry != e
      clearing := ch.mem.clearing.filter (· ≠ e) }
    let ch : Chan := { ch with mem := m }
    let ch := if r.tier < 2 then ch.inc R.MEM_CNT_FILL_BYTES r.len else ch
    (ch.wr (R.MEM_REGION_A e) 0).wr (R.MEM_REGION_B e) 0

/-- ERASE_COMPLETE (R334): steps 3 and 4, once the started commands of the tenant's VF have completed (R373); the tenant ceases to
exist (R364). -/
def Chan.eraseComplete (ch : Chan) : Chan :=
  match ch.mem.erase with
  | none => ch
  | some (i, base, len) =>
    if ch.host.dma.any fun d => d.inst == i + 1 then ch
    else
      let ch : Chan := { ch with mem := { ch.mem with erase := none, t1 := clearRange ch.mem.t1 (flowAddr base) (512 * len) } }
      let ch := ch.inc R.MEM_CNT_FILL_BYTES (512 * len)
      let ch := (List.range 64).foldl (Chan.eraseEntry i) ch
      let ch := (tenantRegs i).foldl (fun (ch : Chan) k => ch.wr k (regReset ch.idx k)) ch
      let p := R.PDP_FAIL_POLICY
      let ch := ch.setFld p F.PDP_FAIL_POLICY_tenant_present (putBit (ch.fld p F.PDP_FAIL_POLICY_tenant_present) i false)
      let ch := (((ch.setHq i 0 []).setHq i 1 []).setShaper i 0 {}).setShaper i 1 {}
      let ch := ch.setAging i none
      let k := R.MEM_KEY_CMD
      let ch := (ch.setFlag k F.MEM_KEY_CMD_erase false).setFld k F.MEM_KEY_CMD_last_result 0
      ch.count R.MEM_CNT_ERASE EV_MEM_ERASED

/-! ## T2 (R323, R336 to R338) -/

def Chan.setT2 (ch : Chan) (v : Nat) : Chan := ch.setFld R.MEM_STATUS F.MEM_STATUS_t2_state v

/-- Records that a tenant's cold table holds. -/
def Chan.coldHeld (ch : Chan) (i : Nat) : Nat :=
  ((List.range (2 ^ ch.coldBits i)).flatMap fun b => (List.range 4).filter fun w =>
    let r := recAt (ch.coldBytes i b) w
    recValid r && recGood r).length

/-- Tenants whose cold table is on, whatever the state of T2. -/
def Chan.coldTenants (ch : Chan) : List Nat :=
  (List.range 16).filter fun i => ch.hasRegion i && ch.flag (R.FLW_REGION_B i) F.FLW_REGION_B_cold_enable

/-- The cold tables go: their records are lost and counted (R80, R337). -/
def Chan.coldLost (ch : Chan) : Chan :=
  ch.coldTenants.foldl (fun (ch : Chan) i => ch.inc R.FLW_CNT_COLD_LOST (ch.coldHeld i)) ch

/-- T2_EVACUATE (R336, R337): from ONLINE into DRAINING. -/
def Chan.t2Evacuate (ch : Chan) : Chan :=
  if ch.t2State = 0 then
    let ch := (ch.coldLost.setT2 1).setFlag R.MEM_T2_CTRL F.MEM_T2_CTRL_evacuate true
    { ch with mem := { ch.mem with t2At := ch.now, evacBad := [] } }
  else ch

/-- Copy one moved entry of T2 into its T3 entry, with the backup addresses that lie in it (R337). -/
def Chan.evacuateEntry (ch : Chan) (e : Nat) : Chan :=
  let r := ch.region e
  let t := ch.region r.moveTo
  if r.valid = false ∨ r.tier ≠ 2 ∨ r.move = false then ch
  else if t.valid = false ∨ t.tier ≠ 3 ∨ t.owner ≠ r.owner ∨ t.len < r.len then ch.raise EV_MEM_EVAC_LOSS
  else if ch.t3Up = false then (ch.uncorrectable 3 t.base).raise EV_MEM_EVAC_LOSS
  else
    let bad := ch.mem.evacBad
    let bs := (List.range (r.len / 64)).flatMap fun l =>
      if bad.contains (r.base + 64 * l) then List.replicate 64 0 else ch.bytes 2 r.owner (r.base + 64 * l) 64
    let ch := (ch.setBytes 3 r.owner t.base bs).inc R.MEM_CNT_EVAC_BYTES r.len
    (List.range 128).foldl (fun (ch : Chan) c =>
      let s := ch.side c
      if s.backTier = 2 ∧ r.base ≤ s.backAddr ∧ s.backAddr < r.base + r.len ∧ s.bytes ≠ 0 then
        ch.setSide c { s with backTier := 3, backAddr := t.base + (s.backAddr - r.base) }
      else ch) ch

/-- EVACUATION_COMPLETE (R337): the copy is done; what was not moved is lost. -/
def Chan.evacuated (ch : Chan) : Chan :=
  if ch.t2State = 1 then
    let ch := (List.range 64).foldl (fun (ch : Chan) e => ch.evacuateEntry e) ch
    let ch : Chan := { ch with mem := { ch.mem with t2 := [], evacBad := [], t2At := ch.now } }
    ((ch.setT2 2).setFlag R.MEM_T2_CTRL F.MEM_T2_CTRL_evacuate false).raise EV_MEM_EVACUATED
  else ch

/-- DIMM_PWR_EN_c_k is high (R464): it follows MEM_T2_CTRL.dimmk_power, and is low in Off and in a reset of the channel. -/
def Chan.dimmPin (ch : Chan) (k : Nat) : Bool :=
  (ch.pwr.power == .on || ch.pwr.power == .ramping) &&
  ch.flag R.MEM_T2_CTRL (if k = 0 then F.MEM_T2_CTRL_dimm0_power else F.MEM_T2_CTRL_dimm1_power)

/-- T2_DIMM_POWER_WRITE (R336): the supply bits of a write of MEM_T2_CTRL. -/
def Chan.dimmPower (ch : Chan) (v : Word) : Chan :=
  let k := R.MEM_T2_CTRL
  if ch.t2State = 2 ∨ ch.t2State = 3 ∨ ch.t2State = 5 then
    let ch := ch.wr k (mergeF (ch.rd k) v [F.MEM_T2_CTRL_dimm0_power, F.MEM_T2_CTRL_dimm1_power])
    if ch.fld k F.MEM_T2_CTRL_dimm0_power = 0 ∧ ch.fld k F.MEM_T2_CTRL_dimm1_power = 0 ∧ ch.t2State ≠ 3 then
      { ch with mem := { ch.mem with t2 := [] } }.setT2 3
    else ch
  else ch

/-- T2_RESTORE (R336, R338): from EVACUATED, or from POWERED_DOWN with both supplies on. -/
def Chan.t2Restore (ch : Chan) : Chan :=
  let k := R.MEM_T2_CTRL
  if ch.t2State = 2 ∨ (ch.t2State = 3 ∧ ch.flag k F.MEM_T2_CTRL_dimm0_power ∧ ch.flag k F.MEM_T2_CTRL_dimm1_power) then
    { (ch.setT2 4).setFlag k F.MEM_T2_CTRL_restore true with mem := { ch.mem with t2At := ch.now } }
  else ch

/-- T2 enters FAILED (R323, R336). -/
def Chan.t2Failed (ch : Chan) : Chan :=
  (((ch.setT2 5).setFlag R.MEM_T2_CTRL F.MEM_T2_CTRL_restore false)).raise EV_MEM_T2_FAIL

/-- T2_RESTORE_COMPLETE (R323, R338): the modules have trained, or not; the bucket ranges of the cold tables still enabled are zero.
In Quarantine boot T2 stays offline (R392). -/
def Chan.t2Restored (ch : Chan) (ok : Bool) : Chan :=
  if ch.t2State ≠ 4 ∨ ch.boot.quarantined = true then ch
  else if ok then
    let ch := ch.coldTenants.foldl (fun (ch : Chan) i =>
      ch.setBytes 2 i (ch.coldAddr i 0) (List.replicate (512 * 2 ^ ch.coldBits i) 0)) ch
    ((ch.setT2 0).setFlag R.MEM_T2_CTRL F.MEM_T2_CTRL_restore false).raise EV_MEM_T2_ONLINE
  else ch.t2Failed

/-- T2_MODULE_FAIL (R336): a module fails, or more than 64 lines were uncorrectable within 1 s. -/
def Chan.t2ModuleFail (ch : Chan) (failed : Bool) : Chan :=
  let n := (ch.mem.t2Bad.filter fun t => decide (ch.now < t + 1000 * msG)).length
  if ch.t2State = 0 ∧ (failed = true ∨ 64 < n) then ch.coldLost.t2Failed else ch

/-- Grains between two lines of the patrol scrub: 2^33 lines in 24 h (R323). -/
def patrolG : Nat := 86400000 * msG / 8589934592

/-- T2_PATROL_SCRUB (R323): the next line is read when its time has come. -/
def Chan.t2Patrol (ch : Chan) (st : ReadStatus) : Chan :=
  if ch.t2State = 0 ∧ ch.since ch.mem.patrolAt patrolG = true then
    let a := ch.mem.patrol
    let ch : Chan := { ch with mem := { ch.mem with patrol := (a + 64) % 549755813888, patrolAt := ch.now } }
    ch.tierReturn 2 a 64 .other st
  else ch

/-! ## T3 (R324) -/

/-- T3_LINK_DOWN: the port tries to retrain without end. -/
def Chan.t3Down (ch : Chan) : Chan :=
  if ch.fld R.MEM_STATUS F.MEM_STATUS_t3_link = 2 then
    (ch.setFld R.MEM_STATUS F.MEM_STATUS_t3_link 1).raise EV_MEM_T3_LINK_DOWN
  else ch

/-- T3_LINK_UP: the link has trained and the HDM decoder covers the first 128 GiB of what the device reports. In Quarantine boot T3
stays offline (R392). -/
def Chan.t3LinkUp (ch : Chan) (gib : Nat) : Chan :=
  let k := R.MEM_STATUS
  if ch.fld k F.MEM_STATUS_t3_link = 2 ∨ ch.boot.quarantined = true then ch
  else ((ch.setFld k F.MEM_STATUS_t3_link 2).setFlag k F.MEM_STATUS_t3_hdm_ready true).setFld k F.MEM_STATUS_t3_gib (min 128 gib)

/-- A write of MEM_T2_CTRL: its supply bits when they change, then evacuate and restore. -/
def Chan.t2CtrlWrite (ch : Chan) (v : Word) : Chan :=
  let ch := ch.dimmPower v
  let ch := if getF v F.MEM_T2_CTRL_evacuate = 1 then ch.t2Evacuate else ch
  if getF v F.MEM_T2_CTRL_restore = 1 then ch.t2Restore else ch

end Sys2Proof.Machine
end

