-- ==== Sys2Proof/Machine/Zlk.lean ====
section
/-!
DEFINITION. Machine/Zlk.lean: the receiving side of the Zorbex Links (chapter 13): codeword groups, acknowledgements and credits
(R346, R347), port states and identity (R348), messages and relays (R343, R349 to R353, R357), and time probes (R355, R356).
-/

namespace Sys2Proof.Machine

open Sys2Proof

/-! ## Ports (R348) -/

/-- A port carries groups: in IDENTIFY and UP. -/
def Chan.zLive (ch : Chan) (p : Nat) : Bool := decide (p < 3) && (ch.zState p == 2 || ch.zState p == 3)

/-- The identity word of a port (Table 13.3). -/
def Chan.identityWord (ch : Chan) (p : Nat) : List Byte :=
  [0x04, 0x01, byte (ch.zDev * 32 + p * 8 + ch.idx.val), byte ch.zTopo] ++ beBytes 8 ch.fuses.deviceId ++ List.replicate 4 0

/-- Send the identity word of a port, with its first credits (R346, R348). -/
def Chan.zIdentity (ch : Chan) (p : Nat) : Chan := ch.zBlockOut p [ch.identityWord p]

/-- ZLK_PORT_ENABLE (R348): a write of 1 to port_enable; topology NONE refuses it (R358). -/
def Chan.zEnable (ch : Chan) (p : Nat) : Chan :=
  if 3 ≤ p then ch
  else if ch.zTopo = 0 then ch.raise EV_ZLK_CFG_REJECT
  else
    let ch := ch.setFlag (R.ZLK_PORT_CTRL p) F.ZLK_PORT_CTRL_port_enable true
    if ch.zState p = 0 ∧ ch.failStopped = false then (ch.modZp p fun x => { x with since := ch.now }).setZState p 1 else ch

/-- ZLK_PORT_DISABLE (R348). -/
def Chan.zDisable (ch : Chan) (p : Nat) : Chan :=
  if 3 ≤ p then ch else (ch.setFlag (R.ZLK_PORT_CTRL p) F.ZLK_PORT_CTRL_port_enable false).zDown p 0

/-- Every port goes to DISABLED: the channel stops serving or leaves Run. -/
def Chan.zAllDown (ch : Chan) : Chan := (List.range 3).foldl (fun (ch : Chan) p => if ch.zState p = 0 then ch else ch.zDown p 0) ch

/-- ZLK_LANES_ALIGNED (R348): the four lanes of a training port are aligned; it identifies itself and grants its credits. -/
def Chan.zAligned (ch : Chan) (p : Nat) : Chan :=
  if p < 3 ∧ ch.zState p = 1 then
    let ch := (ch.setZState p 2).setFld (R.ZLK_PORT_STATUS p) F.ZLK_PORT_STATUS_lane_locked 15
    ch.zIdentity p
  else ch

/-- ZLK_LINK_LOSS (R348): an UP port returns to TRAINING. -/
def Chan.zLoss (ch : Chan) (p : Nat) : Chan := if p < 3 ∧ ch.zState p = 3 then ch.zDown p 1 else ch

/-! ## Time probes (R355, R356) -/

/-- Half of a signed number of picoseconds. -/
def Chan.halfPs (ch : Chan) (x : Int) : Int := x / 2 + (if x % 2 = 1 ∧ Config.halfUp ch.idx x = true then 1 else 0)

/-- Send a TIME_PROBE on a port. -/
def Chan.zProbe (ch : Chan) (p : Nat) : Chan :=
  match zPartner ch.zTopo ch.zDev p with
  | none => ch
  | some (d, _) => (ch.modZp p fun x => { x with probe := some ch.ps, probeAt := ch.now }).zQueue p (ch.zMsg 11 d true 0 0 []) 3

/-- ZLK_PROBE_TIMER (R355): an UP port probes once per millisecond. -/
def Chan.zProbeTimer (ch : Chan) (p : Nat) : Chan :=
  if p < 3 ∧ ch.zState p = 3 ∧ ch.since (ch.zp p).probeAt msG = true then ch.zProbe p else ch

/-- A received TIME_PROBE is answered (R355, Table 13.6). -/
def Chan.recvProbe (ch : Chan) (p : Nat) (m : ZMsg) : Chan :=
  let t := beBytes 8 ch.ps
  let offs := (List.range 8).flatMap fun d => beBytes 8 (ch.rd (R.ZLK_OFFSET d)).toNat
  ch.zQueue p (ch.zMsg 12 m.src.toNat true 0 0 (t ++ t ++ offs)) 3

/-- Word of ZLK_OFFSET for an offset in ps. -/
def offsetWord (o : Int) : Word := BitVec.ofNat 64 (unsgn 63 o + 2 ^ 63)

/-- Offsets of the devices beyond the neighbour on port `p`: its own plus what the neighbour reported (R356). -/
def Chan.zFar (ch : Chan) (p : Nat) : Chan :=
  match zPartner ch.zTopo ch.zDev p with
  | none => ch
  | some (d, _) =>
    (List.range 8).foldl (fun (ch : Chan) e =>
      let w := (ch.zp p).reported.getD e 0
      if e = d ∨ zPortTo ch.zTopo ch.zDev e ≠ some p ∨ ch.flag (R.ZLK_OFFSET d) F.ZLK_OFFSET_valid = false then ch
      else if w.testBit 63 then ch.wr (R.ZLK_OFFSET e) (offsetWord (ch.zOffset d + sgn 63 w))
      else ch.wr (R.ZLK_OFFSET e) 0) ch

/-- Take a probe result as the offset of the neighbour and the delay of the port. -/
def Chan.zTake (ch : Chan) (p : Nat) (o d : Int) : Chan :=
  match zPartner ch.zTopo ch.zDev p with
  | none => ch
  | some (e, _) =>
    ((ch.wr (R.ZLK_OFFSET e) (offsetWord o)).setFld (R.ZLK_PORT_STATUS p) F.ZLK_PORT_STATUS_delay_ps (unsgn 44 d)).modZp p
      fun x => { x with jumps := [] }

/-- Median of eight results: the half sum of the middle two. -/
def Chan.median8 (ch : Chan) (xs : List Int) : Int :=
  let ys := xs.insertionSort (· ≤ ·)
  ch.halfPs (ys.getD 3 0 + ys.getD 4 0)

/-- A result in IDENTIFY: the eighth one brings the port UP (R348, R355). -/
def Chan.zIdentifyProbe (ch : Chan) (p : Nat) (o d : Int) : Chan :=
  let ps := (ch.zp p).probes ++ [(o, d)]
  let ch := ch.modZp p fun x => { x with probes := ps }
  if ps.length < 8 then ch.zProbe p
  else
    let ch := ch.zTake p (ch.median8 (ps.map (·.1))) (ch.median8 (ps.map (·.2)))
    let ch := (ch.setZState p 3).modZp p fun x => { x with probes := [], probeAt := ch.now }
    ch.raise EV_ZLK_LINK_UP

/-- A result while UP: one that jumps is held back; three in a row that agree within 10 ns replace the offset (R356). -/
def Chan.zUpProbe (ch : Chan) (p : Nat) (o d : Int) : Chan :=
  let e := match zPartner ch.zTopo ch.zDev p with | some x => x.1 | none => 0
  let known := ch.flag (R.ZLK_OFFSET e) F.ZLK_OFFSET_valid
  if known = false ∨ (o - ch.zOffset e).natAbs ≤ 100000 then ch.zTake p o d
  else
    let ch := ch.count R.ZLK_CNT_OFFSET_JUMP EV_ZLK_OFFSET_JUMP
    let js := ((o, d) :: (ch.zp p).jumps).take 3
    let ch := ch.modZp p fun x => { x with jumps := js }
    if js.length = 3 ∧ (js.all fun a => js.all fun b => decide ((a.1 - b.1).natAbs ≤ 10000)) = true then ch.zTake p o d else ch

/-- A received TIME_RESP (R355, R356). -/
def Chan.recvResp (ch : Chan) (p : Nat) (m : ZMsg) : Chan :=
  match (ch.zp p).probe with
  | none => ch
  | some t1 =>
    let t4 := ch.ps
    let diff (a b : Nat) : Int := sgn 64 (unsgn 64 ((a : Int) - (b : Int)))
    let t2 := be m.payload 0 8
    let t3 := be m.payload 8 8
    let o := ch.halfPs (diff t2 t1 - diff t4 t3)
    let d := ch.halfPs (diff t4 t1 - diff t3 t2)
    let rep := (List.range 8).map fun e => be m.payload (16 + 8 * e) 8
    let ch := ch.modZp p fun x => { x with probe := none, reported := rep }
    ((if ch.zState p = 2 then ch.zIdentifyProbe p o d else ch.zUpProbe p o d)).zFar p

/-! ## Identity (R26, R348) -/

/-- ZLK_IDENTITY_RECEIVE (R348): the partner is this device, another than Table 13.1 expects, or the expected one, which is probed. -/
def Chan.zIdentityReceive (ch : Chan) (p device port channel topology identity : Nat) : Chan :=
  if 3 ≤ p ∨ ch.zState p ≠ 2 ∨ (ch.zp p).known = true then ch
  else
    let s := R.ZLK_PORT_STATUS p
    let ch := ((ch.setFld s F.ZLK_PORT_STATUS_partner_device device).setFld s F.ZLK_PORT_STATUS_partner_port port).wr
      (R.ZLK_PARTNER_ID p) (BitVec.ofNat 64 identity)
    if identity = ch.fuses.deviceId then (ch.setZState p 4).raise EV_ZLK_SAME_DEVICE
    else if zPartner ch.zTopo ch.zDev p ≠ some (device, port) ∨ channel ≠ ch.idx ∨ topology ≠ ch.zTopo then
      (ch.setZState p 4).raise EV_ZLK_WIRING
    else (ch.modZp p fun x => { x with known := true }).zProbe p

/-! ## Messages (R343, R349, R350, R357) -/

/-- Virtual lane, shortest and longest length of a type (Table 13.6). -/
def zType : Nat → Option (Bool × Nat × Nat)
  | 2 => some (true, 6, 6)
  | 3 | 4 | 6 | 8 | 9 | 11 => some (true, 2, 2)
  | 5 => some (false, 3, 65538)
  | 7 => some (true, 5, 5)
  | 10 => some (false, 3, 65542)
  | 12 => some (true, 7, 7)
  | _ => none

/-- The header of a message is well formed (R349, R350); a PAD is one word. -/
def zHeaderOk (h : List Byte) (vl : Bool) : Bool :=
  let t := be h 0 1
  let n := be h 2 3
  ((be h 5 1).testBit 7 == vl) && decide (be h 5 1 / 8 % 16 = 0) &&
  (if t = 1 then n == 1
   else match zType t with
    | some (_, lo, hi) => decide (lo ≤ n ∧ n ≤ hi) && (t != 8 || decide (be h 15 1 ≤ 2))
    | none => false)

/-- The message that received bytes spell. -/
def zMsgOf (b : List Byte) : ZMsg :=
  { typ := BitVec.ofNat 8 (be b 0 1), dest := BitVec.ofNat 3 (be b 1 1 / 32), src := BitVec.ofNat 3 (be b 1 1 / 4)
    hops := BitVec.ofNat 2 (be b 1 1), length := BitVec.ofNat 24 (be b 2 3), vl := (be b 5 1).testBit 7
    channel := BitVec.ofNat 3 (be b 5 1), context := BitVec.ofNat 16 (be b 6 2), args := BitVec.ofNat 64 (be b 8 8)
    payload := slice b 16 (16 * (be b 2 3 - 2)) }

/-- The trailer of a message is right (R349). -/
def zTrailerOk (b : List Byte) : Bool :=
  let n := b.length - 16
  (slice b n 12).all (· == 0) && be b (n + 12) 4 == (crc32c (b.take (n + 12))).toNat

/-- What the engines of the channel do with a message for this device. -/
def Chan.zHandle (ch : Chan) (p : Nat) (m : ZMsg) : Chan :=
  match m.typ.toNat with
  | 2 => ch.recvShare p m
  | 3 => ch.recvRetract m
  | 4 => ch.recvClose m
  | 5 => ch.recvBatch m
  | 6 => ch.recvPass m
  | 7 => ch.recvDigest m
  | 8 => ch.recvDecision m
  | 9 => ch.recvCkptReq m
  | 10 => ch.recvCkptData m
  | 11 => ch.recvProbe p m
  | 12 => ch.recvResp p m
  | _ => ch

/-- RELAY_FORWARD (R343): a message for another device goes to its port, or is discarded. -/
def Chan.zRelay (ch : Chan) (p : Nat) (m : ZMsg) : Chan :=
  if m.hops = 0 ∨ zDevices ch.zTopo ≤ m.dest.toNat then ch.zUnroutable
  else
    let m := { m with hops := m.hops - 1 }
    match zPortTo ch.zTopo ch.zDev m.dest.toNat with
    | none => ch.zUnroutable
    | some o => if ch.zState o = 3 then (ch.zQueue o m p).inc R.ZLK_CNT_RELAYED else ch.zUnroutable

/-- A whole message arrives on port `p` (R343, R357): `h` is what this device does with one meant for it. Messages are carried in
UP, the probes in IDENTIFY too. -/
def Chan.zArrive (ch : Chan) (p : Nat) (m : ZMsg) (h : Chan → Chan) : Chan :=
  if !ch.zLive p || (ch.zState p == 2 && m.typ != 11 && m.typ != 12) then ch
  else if m.channel.toNat ≠ ch.idx then ch.zUnroutable
  else if m.dest.toNat ≠ ch.zDev then ch.zRelay p m
  else h ch

/-- A message delivered by its command: one whose length lies outside its type's range, or a DECISION of reserved outcome, is a header
error (R350). -/
def Chan.zDeliver (ch : Chan) (p typ : Nat) (hd : MsgHead) (payload : List Byte) (h : ZMsg → Chan → Chan) : Chan :=
  match zType typ with
  | none => ch
  | some (vl, lo, hi) =>
    let n := 2 + ceilDiv payload.length 16
    let m : ZMsg := { typ := BitVec.ofNat 8 typ, dest := hd.dest, src := hd.src, hops := hd.hops, length := BitVec.ofNat 24 n, vl := vl
                      channel := hd.channel, context := hd.context, args := hd.args, payload := slice payload 0 (16 * (n - 2)) }
    if !ch.zLive p then ch
    else if n < lo ∨ hi < n ∨ (typ = 8 ∧ 2 < hd.args.toNat % 256) then ch.count R.ZLK_CNT_BAD_MESSAGE EV_ZLK_BAD_MESSAGE
    else ch.zArrive p m (h m)

/-! ## Receiving groups (R344 to R347) -/

def ZPort.part (x : ZPort) (vl : Bool) : ZPartial := if vl then x.part1 else x.part0
def ZPort.setPart (x : ZPort) (vl : Bool) (q : ZPartial) : ZPort := if vl then { x with part1 := q } else { x with part0 := q }

/-- Send a nak for a group; eight in a row that name one group retrain the port. -/
def Chan.zNak (ch : Chan) (p : Nat) (num : BitVec 16) : Chan :=
  let x := ch.zp p
  let n := if x.sentNum = some num then x.sentCount + 1 else 1
  let ch := (ch.modZp p fun x => { x with naking := true, sentNum := some num, sentCount := n }).zBlockOut p [zAckWord true num]
  if 8 ≤ n then ch.zDown p 1 else ch

/-- A message fails (R347, R357): the group of its first word and every later one are discarded and asked for again; what has been
delivered of them is passed over when it comes again. -/
def Chan.zBad (ch : Chan) (p : Nat) (vl : Bool) : Chan :=
  let ch := ch.count R.ZLK_CNT_BAD_MESSAGE EV_ZLK_BAD_MESSAGE
  let x := ch.zp p
  let q := x.part vl
  let at_ := (x.rxLog.find? fun l => l.1 == q.group).getD (q.group, x.rxWords.1, x.rxWords.2)
  let start := (at_.2.1, at_.2.2)
  let skip (l : Bool) : Nat := (if l = vl then q.start else laneOf x.rxWords l) - laneOf start l
  let x := { x with skip := (skip false, skip true), rxWords := start, rxNum := BitVec.ofNat 16 q.group }
  let ch := ch.setZp p (x.setPart vl {})
  ch.zNak p (BitVec.ofNat 16 q.group)

/-- One word of a lane's stream; answers false when a message has failed. -/
def Chan.zWord (ch : Chan) (p num : Nat) (vl : Bool) (w : List Byte) : Bool × Chan :=
  let x := ch.zp p
  let n := laneOf x.rxWords vl
  if 0 < laneOf x.skip vl then
    (true, ch.setZp p { x with skip := setLane x.skip vl (laneOf x.skip vl - 1), rxWords := setLane x.rxWords vl (n + 1) })
  else
    let over_ := decide (laneOf x.rxLimit vl ≤ n)
    let q := x.part vl
    let q : ZPartial := if q.bytes.isEmpty then { bytes := w, group := num, start := n, overrun := over_ }
      else { q with bytes := q.bytes ++ w, overrun := q.overrun || over_ }
    let x := if over_ then x else { x with rxWords := setLane x.rxWords vl (n + 1) }
    let ch := ch.setZp p (x.setPart vl q)
    if !zHeaderOk q.bytes vl then (false, ch.zBad p vl)
    else if q.bytes.length < 16 * be q.bytes 2 3 then (true, ch)
    else if be q.bytes 0 1 = 1 then (true, ch.modZp p fun x => x.setPart vl {})
    else if !zTrailerOk q.bytes then (false, ch.zBad p vl)
    else
      let m := zMsgOf q.bytes
      let ch := ch.modZp p fun x => x.setPart vl {}
      if q.overrun then (true, ch.count R.ZLK_CNT_CREDIT_OVERRUN EV_ZLK_CREDIT_OVERRUN)
      else (true, ch.zArrive p m fun ch => ch.zHandle p m)

/-- ZLK_ACK_RECEIVE (R347): groups up to the one named leave the replay buffer; a nak frees those before it and sends again from it. -/
def Chan.zAck (ch : Chan) (p : Nat) (nak : Bool) (num : BitVec 16) : Chan :=
  if !ch.zLive p then ch
  else
    let x := ch.zp p
    let upTo (k : BitVec 16) (g : ZGroup) : Bool := decide ((k - g.num).toNat < 32768)
    if nak = false then
      let ch := ch.setZp p { x with unacked := x.unacked.filter fun g => !upTo num g, nakNum := none, nakCount := 0 }
      ch.zPump p
    else
      let n := if x.nakNum = some num then x.nakCount + 1 else 1
      if (x.unacked.any fun g => g.num == num) = false ∨ 8 ≤ n then ch.zDown p 1
      else
        let keep := x.unacked.filter fun g => !upTo (num - 1) g
        let ch := ch.setZp p { x with unacked := keep, nakNum := some num, nakCount := n }
        let ch := keep.foldl (fun (ch : Chan) g => ch.zOut p (.group g)) ch
        (ch.count R.ZLK_CNT_REPLAY EV_ZLK_REPLAY).zPump p

/-- ZLK_CREDIT_RECEIVE (R346). -/
def Chan.zCredit (ch : Chan) (p : Nat) (vl : Bool) (limit : Nat) : Chan :=
  if !ch.zLive p then ch
  else (ch.modZp p fun x => { x with txLimit := setLane x.txLimit vl (max (laneOf x.txLimit vl) limit) }).zPump p

/-- ZLK_RESERVED_CONTROL (R345). -/
def Chan.zReserved (ch : Chan) (p : Nat) : Chan := if p < 3 ∧ ch.zState p ≠ 0 then ch.inc R.ZLK_CNT_RESERVED else ch

/-- One control word (Table 13.3). -/
def Chan.zControlWord (ch : Chan) (p : Nat) (w : List Byte) : Chan :=
  if be w 1 1 ≠ 1 then ch.zReserved p
  else match be w 0 1 with
    | 0 | 3 => ch
    | 1 => ch.zCredit p ((be w 2 1).testBit 0) (be w 8 8)
    | 2 => ch.zAck p ((be w 2 1).testBit 0) (BitVec.ofNat 16 (be w 4 2))
    | 4 => ch.zIdentityReceive p (be w 2 1 / 32) (be w 2 1 / 8 % 4) (be w 2 1 % 8) (be w 3 1) (be w 4 8)
    | _ => ch.zReserved p

/-- One block of a group (Table 13.2); false once a message of the group has failed. -/
def Chan.zBlock (p num : Nat) (acc : Bool × Chan) (b : Nat × List Byte) : Bool × Chan :=
  if acc.1 = false then acc
  else if b.1 = 2 then (true, (List.range 4).foldl (fun (ch : Chan) i => ch.zControlWord p (slice b.2 (16 * i) 16)) acc.2)
  else (List.range 4).foldl (fun (acc : Bool × Chan) i =>
    if acc.1 then acc.2.zWord p num (b.1 == 3) (slice b.2 (16 * i) 16) else acc) acc

/-- ZLK_GROUP_RECEIVE (R347): group `num` of a port with its blocks (header code and 64 bytes); `bad`: it holds an uncorrectable
codeword. -/
def Chan.zGroup (ch : Chan) (p : Nat) (num : BitVec 16) (bad : Bool) (blocks : List (Nat × List Byte)) : Chan :=
  if !ch.zLive p then ch
  else
    let x := ch.zp p
    let invalid := bad || blocks.any fun b => b.1 == 0 || decide (3 < b.1)
    if num ≠ x.rxNum then
      if x.naking = false ∧ (num - x.rxNum).toNat < 32768 then ch.zNak p x.rxNum else ch
    else if invalid then ch.zNak p num
    else
      let log := ((num.toNat, x.rxWords.1, x.rxWords.2) :: x.rxLog).take 512
      let ch := ch.setZp p { x with rxNum := num + 1, rxAny := true, naking := false, rxLog := log }
      let (ok, ch) := blocks.foldl (Chan.zBlock p num.toNat) (true, ch)
      if !ch.zLive p then ch
      else if ok then
        let ch := ch.modZp p fun x => { x with sentNum := none, sentCount := 0 }
        ch.zControl p
      else ch

/-! ## Register writes (R342, R352, R358) -/

/-- Every port is DISABLED: the lock of the ZLK block is open. -/
def Chan.zOpen (ch : Chan) : Bool := (List.range 3).all fun p => ch.zState p == 0

/-- A write of ZLK_CTRL: the board and device number; ZLK_ROUTE follows. -/
def Chan.zlkCtrlWrite (ch : Chan) (v : Word) : Chan :=
  let topo := getF v F.ZLK_CTRL_topology
  let dev := getF v F.ZLK_CTRL_device
  if ch.zOpen = false ∨ ch.safeServe = true then ch
  else if topo = 3 ∨ (topo = 1 ∧ 3 < dev) then ch.raise EV_ZLK_CFG_REJECT
  else
    let ch := ch.wr R.ZLK_CTRL (mergeF (ch.rd R.ZLK_CTRL) v [F.ZLK_CTRL_topology, F.ZLK_CTRL_device])
    ch.wr R.ZLK_ROUTE (BitVec.ofNat 64 (zRouteWord topo dev))

/-- A write of ZLK_SHARE_n. -/
def Chan.zlkShareWrite (ch : Chan) (n : Nat) (v : Word) : Chan :=
  if (getF v F.ZLK_SHARE_dest_mask).testBit ch.zDev then ch.raise EV_ZLK_CFG_REJECT
  else ch.wr (R.ZLK_SHARE n) (mergeF (ch.rd (R.ZLK_SHARE n)) v [F.ZLK_SHARE_dest_mask, F.ZLK_SHARE_code_mask,
    F.ZLK_SHARE_peer_tenant, F.ZLK_SHARE_key_offset, F.ZLK_SHARE_key_len])

end Sys2Proof.Machine
end

