-- ==== Sys2Proof/Machine/Obs.lean ====
section
/-!
DEFINITION. Machine/Obs.lean: observation (chapter 17): the freeze (R430, R431), trace samples and markers (R435), debug mode (R438),
hung runs (R439), telemetry summaries (R428), and the dump (R440, R441). The fail-stop latch (R419, R420) stands here too, since a
declared hang sets it.
-/

namespace Sys2Proof.Machine

open Sys2Proof

/-! ## The fail-stop latch (R419, R420) -/

/-- Times of the automatic restarts within the last hour (R421). -/
def Chan.restartsNow (ch : Chan) : List Nat := ch.pwr.autoRestarts.filter fun t => decide (ch.now < t + 3600000 * msG)

/-- The latch sets with a reason of Table 16.8: the channel freezes (R430), its fail pin is asserted, its descriptor port enters DOWN
and its Zorbex ports DISABLED, and CHANNEL_DOWN is sent. -/
def Chan.failStop (ch : Chan) (reason : Nat) : Chan :=
  if ch.failStopped ∨ ch.pwr.power ≠ .on then ch
  else
    let ch := ((ch.setFlag R.PWR_STATUS F.PWR_STATUS_fail_stop true).setFld R.PWR_STATUS F.PWR_STATUS_fail_reason reason).coreNote
    let auto := ch.flag R.PWR_CTRL F.PWR_CTRL_auto_restart && decide (ch.restartsNow.length < 3)
    let ch : Chan := { ch with pwr := { ch.pwr with latchAt := ch.now, latchAuto := auto, failPin := true }, toHub := ch.toHub ++ [.failStop] }
    let ch := (ch.raise EV_PWR_FAIL_STOP).freeze .failStop
    let ch := if ch.linkState = 0 then ch else ((ch.setLink 4).portDiscard).sendDown
    ch.zAllDown

/-! ## Writes of OBS_FREEZE and the timed freeze (R430) -/

/-- OBS_FREEZE: a write of the freeze bit. -/
def Chan.obsFreeze (ch : Chan) : Chan := ch.freeze .host

/-- OBS_ARM: a write of the arm bit. -/
def Chan.obsArm (ch : Chan) : Chan := ch.setFlag R.OBS_FREEZE F.OBS_FREEZE_arm true

/-- A write of OBS_FREEZE. -/
def Chan.obsFreezeWrite (ch : Chan) (v : Word) : Chan :=
  let ch := if getF v F.OBS_FREEZE_unfreeze = 1 then ch.unfreeze else ch
  let ch := if getF v F.OBS_FREEZE_freeze = 1 then ch.obsFreeze else ch
  if getF v F.OBS_FREEZE_arm = 1 then ch.obsArm else ch

/-- TIMED_FREEZE: the armed time has come. -/
def Chan.timedFreeze (ch : Chan) : Chan :=
  if ch.flag R.OBS_FREEZE F.OBS_FREEZE_arm && decide ((ch.rd R.OBS_FREEZE_AT).toNat ≤ ch.ns) then
    (ch.setFlag R.OBS_FREEZE F.OBS_FREEZE_arm false).freeze .timed
  else ch

/-! ## Trace (R435) -/

/-- OBS_MARKER_WRITE: a MARKER with the value written. -/
def Chan.obsMarker (ch : Chan) (v : Word) : Chan :=
  let x := getF v F.OBS_MARKER_value
  (ch.setFld R.OBS_MARKER F.OBS_MARKER_value x).marker x

/-- The command that a unit of Table 17.1 holds: its context and index. -/
def Chan.heldCmd (ch : Chan) (unit : Nat) : Option (Nat × Nat) :=
  if 5 ≤ unit ∧ unit < 21 then
    let e := (unit - 5) / 4
    let k := partKey e (ch.partOfQuad e ((unit - 5) % 4))
    match (ch.part k).flights.head? with
    | some f => some (f.ctx, f.index)
    | none => ((ch.part k).queue ++ (ch.part k).parked).head?.map fun q => (q.1, q.2.2)
  else if unit = 21 ∨ unit = 22 then (ch.rvu (unit - 21)).dots.head?.map fun d => (d.ctx, d.index)
  else if unit = 23 then (if ch.coreNow < ch.eng.vecAt then ch.eng.vecHeld else none)
  else if unit = 24 then (ch.eng.parts.findSome? fun x => x.2.drain).map fun d => (d.ctx, d.index)
  else if unit = 36 then
    (List.range 128).findSome? fun c => (ch.run c).bind fun r => r.live.getLast?.map fun x => (c, x.index)
  else none

/-- TRACE_SAMPLE (R435, R437): every selected unit writes a sample; `pcs`: the program counters of the eight Stewards. A unit that holds
no command leaves value, layer and operator open: free values. -/
def Chan.traceSample (ch : Chan) (pcs : List Nat) : Chan :=
  let k := 2 ^ ch.fld R.OBS_TRACE_CTRL F.OBS_TRACE_CTRL_sample_log2
  if !ch.flag R.OBS_TRACE_CTRL F.OBS_TRACE_CTRL_enable || !ch.sinceC ch.obs.traceAt k then ch
  else
    let ch : Chan := { ch with obs := { ch.obs with traceAt := ch.now } }
    let mask := (ch.rd R.OBS_TRACE_UNITS).toNat
    ((List.range 37).filter fun u => mask.testBit u).foldl (fun (ch : Chan) u =>
      let st := ch.fld (R.OBS_UNIT_STATUS u) F.OBS_UNIT_STATUS_state + 4 * ch.fld (R.OBS_UNIT_STATUS u) F.OBS_UNIT_STATUS_reason
      if 28 ≤ u ∧ u < 36 then
        ch.trace { type := 1, unit := u, state := st, value := pcs.getD (u - 28) 0, layer := 65535 }
      else
        match ch.heldCmd u with
        | some (ctx, i) =>
          let c := (ch.side ctx).cmd i
          ch.trace { type := 2, unit := u, state := st, tenant := ch.slotTid (ctxSlot ctx), value := cmdTraceValue ctx i c 0
                     layer := c.layer, op := c.operator }
        | none =>
          let (n, ch) := ch.draw
          let b (i : Nat) : Byte := Config.savedByte ch.idx n i
          ch.trace { type := 2, unit := u, state := st, value := leNat ((List.range 8).map b), layer := leNat [b 8, b 9], op := leNat [b 10, b 11] }) ch

/-! ## Runs and summaries -/

/-- RUN_HUNG (R439): the run of a side has not completed within run_limit µs. -/
def Chan.runHung (ch : Chan) (ctx : Nat) : Chan :=
  let lim := ch.fld R.OBS_CTRL F.OBS_CTRL_run_limit
  match ch.run ctx with
  | none => ch
  | some r =>
    if lim = 0 ∨ r.hung = true ∨ ch.since r.at_ (lim * usG) = false then ch
    else
      let ch := (ch.setRun ctx { r with hung := true }).raise EV_OBS_RUN_HUNG (some (ch.slotTenant (ctxSlot ctx)))
      ch.marker (ctxSlot ctx + 256 * ctxSide ctx)

/-- SUMMARY telemetry record (Table 17.3). -/
def Chan.summaryRec (ch : Chan) (i : Nat) : List Byte :=
  [2, byte (ch.tid i)] ++ List.replicate 6 0 ++ leBytes 8 ch.ns ++
    (List.range 6).flatMap fun k => leBytes 8 (ch.rd (R.OBS_TCNT i k)).toNat

/-- TELEMETRY_SUMMARY (R428): a period has ended. -/
def Chan.telemetrySummary (ch : Chan) : Chan :=
  let p := ch.fld R.OBS_CTRL F.OBS_CTRL_summary_period * usG
  if p = 0 ∨ ch.since ch.obs.summaryAt p = false then ch
  else
    let ch : Chan := { ch with obs := { ch.obs with summaryAt := ch.obs.summaryAt + p } }
    ((List.range 16).filter fun i => ch.tenantExists i).foldl (fun (ch : Chan) i => ch.putTelemetry i (ch.summaryRec i)) ch

/-- OBS_DEBUG_WRITE (R13, R438). -/
def Chan.debugWrite (ch : Chan) (v : Word) : Chan :=
  if (List.range 16).any fun i => ch.tenantExists i then ch.raise EV_OBS_CFG_REJECT
  else if ch.rwo.contains R.OBS_DEBUG then ch
  else
    let on := getF v F.OBS_DEBUG_debug == 1
    let ch := ({ ch with rwo := R.OBS_DEBUG :: ch.rwo } : Chan).setFlag R.OBS_DEBUG F.OBS_DEBUG_debug on
    if on then ch.raise EV_OBS_DEBUG_ON else ch

/-! ## Hangs and dumps (R439 to R441) -/

/-- HANG_DECLARE (R439): a write of OBS_DUMP_CMD.declare; in Safe Serve it waits for the Lodestar. -/
def Chan.hangDeclare (ch : Chan) : Chan :=
  if ch.safeServe || decide (ch.pwr.lodestar ≠ .running) then
    { ch with pwr := { ch.pwr with declareWait := true } }.setFlag R.OBS_DUMP_CMD F.OBS_DUMP_CMD_declare true
  else
    let ch := ({ ch with pwr := { ch.pwr with declareWait := false } }.setFlag R.OBS_DUMP_CMD F.OBS_DUMP_CMD_declare false)
    (ch.failStop 6).raise EV_OBS_HANG_DECLARED

/-- The latch's reason takes a dump: STALL, SAFE_SERVE_TIMEOUT or LODESTAR. -/
def Chan.dumpReason (ch : Chan) : Bool :=
  let r := ch.fld R.PWR_STATUS F.PWR_STATUS_fail_reason
  r == 1 || r == 2 || r == 6

/-- Output groups of an MVR's share that have begun. -/
def Chan.dotBegun (ch : Chan) (d : Dot) : Nat :=
  if d.waiting then d.next
  else max d.next ((List.range d.total).filter fun n => ch.sinceC d.issued (n * ((ch.side d.ctx).cmd d.index).chunks)).length

/-- Begin a dump: nothing issues from here on, and a Ristretto unit stops after the groups that have begun (R440). -/
def Chan.dumpBegin (ch : Chan) : Chan :=
  let ch := (List.range 2).foldl (fun (a : Chan) u =>
    a.setRvu u { ch.rvu u with dots := (ch.rvu u).dots.map fun d => { d with stop := some (ch.dotBegun d) } }) ch
  { ch with obs := { ch.obs with dump := some { at_ := ch.now } } }

/-- DUMP_START (R440): by the latch when dump_on_fail is set, or by a write of OBS_DUMP_CMD.start (`host`). -/
def Chan.dumpStart (ch : Chan) (host : Bool) : Chan :=
  let k := R.OBS_DUMP_CMD
  let running := match ch.obs.dump with | some d => !d.done | none => false
  if host then
    if running then ch
    else if !ch.failStopped then ch.setFld k F.OBS_DUMP_CMD_result 1
    else if !ch.dumpReason then ch.setFld k F.OBS_DUMP_CMD_result 2
    else (ch.setFlag k F.OBS_DUMP_CMD_start true).dumpBegin
  else if ch.failStopped && ch.dumpReason && ch.flag R.OBS_CTRL F.OBS_CTRL_dump_on_fail && ch.obs.dump.isNone then ch.dumpBegin
  else ch

/-- An MVR's share has stopped for a dump (R440). -/
def Dot.stopped (d : Dot) : Bool := d.waiting || (match d.stop with | some n => decide (n ≤ d.next) | none => false)

/-- Units of Table 17.1 not quiet for a dump (R440). The vector path stops within a core cycle and the Tier Mover at its next 4 KiB: neither
keeps a dump waiting. -/
def Chan.dumpBusy (ch : Chan) : List Nat :=
  ((List.range 32).filter fun k => !(ch.part k).flights.isEmpty).flatMap (fun k => (partQuads (k % 8)).map (5 + 4 * (k / 8) + ·)) ++
  ((List.range 2).filter fun u => !(ch.rvu u).dots.all Dot.stopped).map (21 + ·) ++
  (if ch.eng.parts.any (fun x => x.2.drain.isSome) then [24] else []) ++
  (if ch.flow.miss.isEmpty && ch.flow.fills.isEmpty then [] else [2])

/-- Every unit is quiet for a dump (R440). -/
def Chan.dumpQuiet (ch : Chan) : Bool := ch.dumpBusy.isEmpty

/-- DUMP_QUIESCE_TIMEOUT (R440): 4 µs after the edge a unit is still busy. -/
def Chan.dumpTimeout (ch : Chan) : Chan :=
  match ch.obs.dump with
  | some d => if d.done = false ∧ ch.since d.at_ (4 * usG) = true ∧ ch.dumpQuiet = false then
      { ch with obs := { ch.obs with dump := some { d with partial_ := true, busy := ch.dumpBusy } } } else ch
  | none => ch

/-- Bytes of a section: what the spec lays out, then free values up to its size (Table 17.5 gives no inner layout). -/
def section_ (c draw off size : Nat) (known : List Byte) : List Byte :=
  known.take size ++ (List.range (size - known.length)).map fun i => Config.savedByte c draw (off + known.length + i)

/-- The dump (Table 17.5): the magic, the stall table, the Meteor rings and the trace buffer are laid out; every other byte is free. -/
def Chan.dumpBytes (ch : Chan) (draw : Nat) : List Byte :=
  let c := ch.idx.val
  let stalls := match ch.obs.frozen with | some f => f.2 | none => ch.obs.stalls
  let table := (List.range 1024).flatMap fun k => leBytes 8 (sget (fun _ => 0) stalls k)
  let meteors := (List.range 18).flatMap fun b =>
    slice ((sget (fun _ => []) ch.ev.meteor b).flatMap fun r => r.bytes false) 0 8192
  section_ c draw 0 0x11000 [0x59, 0x5A, 0x44, 0x4D] ++ section_ c draw 0x11000 0x2000 table ++
  section_ c draw 0x13000 0x13000 [] ++ section_ c draw 0x26000 0x24000 meteors ++ section_ c draw 0x4A000 0x9000 [] ++
  section_ c draw 0x53000 0x10000 (ch.obs.trace.flatMap id) ++
  (if ch.flag R.OBS_DEBUG F.OBS_DEBUG_debug then section_ c draw 0x63000 0x80000 [] else [])

/-- DUMP_COMPLETE (R440): every unit is quiet, or has timed out, and the sections are written. -/
def Chan.dumpComplete (ch : Chan) : Chan :=
  match ch.obs.dump with
  | none => ch
  | some d =>
    if d.done ∨ (d.partial_ = false ∧ ch.dumpQuiet = false) then ch
    else
      let (n, ch) := ch.draw
      let bs := ch.dumpBytes n
      let ch := ch.setBytes 0 chanKey (ch.fld R.OBS_DUMP_BASE F.OBS_DUMP_BASE_base) bs
      let k := R.OBS_DUMP_STATUS
      let ch := (ch.setFlag k F.OBS_DUMP_STATUS_valid true).setFld k F.OBS_DUMP_STATUS_reason
        (ch.fld R.PWR_STATUS F.PWR_STATUS_fail_reason)
      let ch := ((ch.setFlag k F.OBS_DUMP_STATUS_debug (ch.flag R.OBS_DEBUG F.OBS_DEBUG_debug)).setFlag k
        F.OBS_DUMP_STATUS_partial d.partial_).setFld k F.OBS_DUMP_STATUS_size bs.length
      let ch := (ch.setFlag R.OBS_DUMP_CMD F.OBS_DUMP_CMD_start false).setFld R.OBS_DUMP_CMD F.OBS_DUMP_CMD_result 0
      let ch : Chan := { ch with obs := { ch.obs with dump := some { d with done := true } } }
      let ch := ch.count R.OBS_CNT_DUMPS EV_OBS_DUMP_DONE
      if d.partial_ then ch.raise EV_OBS_DUMP_PARTIAL else ch

/-- A write of OBS_DUMP_CMD. -/
def Chan.dumpCmdWrite (ch : Chan) (v : Word) : Chan :=
  let ch := if getF v F.OBS_DUMP_CMD_declare = 1 then ch.hangDeclare else ch
  if getF v F.OBS_DUMP_CMD_start = 1 then ch.dumpStart true else ch

end Sys2Proof.Machine
end

