-- ==== Sys2Proof/Machine/Power.lean ====
section
/-!
DEFINITION. Machine/Power.lean: power states (R404 to R406), operating points (R407, R408), temperature (R409 to R411), the
Constellation watch and the Lodestar (R413 to R418), the fail-stop conditions (R419), and resets (R421, R422).
-/

namespace Sys2Proof.Machine

open Sys2Proof

/-! ## Idle (R405) -/

/-- A DMA command is queued or in flight. -/
def Chan.dmaWaits (ch : Chan) : Bool :=
  !ch.host.dma.isEmpty ||
  (List.range 17).any fun inst => (List.range 4).any fun q =>
    hqExists inst q && ch.hqBits inst q != 0 && ch.hqNext inst q != ch.hqProd inst q

/-- A maintenance operation of the flow tables is queued (R84). -/
def Chan.maintWaits (ch : Chan) : Bool :=
  !ch.flow.maint.isEmpty || !ch.flow.promote.isEmpty || (List.range 17).any fun r => ch.insCount r != 0

/-- A command, DMA command, maintenance operation, staging, training step or Night-sky test is queued or running (R405). -/
def Chan.working (ch : Chan) : Bool :=
  (ch.models.runs.any fun x => x.2.run.isSome) || !ch.vpe.wfq.isEmpty || ch.dmaWaits || ch.maintWaits ||
  ch.models.staging.isSome || (ch.trn.any fun x => x.2.running) || ch.chk.sweep.isSome

/-- The Idle conditions (R405). -/
def Chan.idleHolds (ch : Chan) : Bool :=
  ch.flag R.PWR_CTRL F.PWR_CTRL_idle_enable && ch.linkState != 3 && (List.range 3).all (fun p => ch.zState p == 0) &&
  ch.quiet && ch.port.carafe.isEmpty && !ch.working

def Chan.pwrState (ch : Chan) : Nat := ch.fld R.PWR_STATUS F.PWR_STATUS_state
def Chan.setPwrState (ch : Chan) (v : Nat) : Chan := (ch.setFld R.PWR_STATUS F.PWR_STATUS_state v).coreNote

/-- Note since when the Idle conditions have held. -/
def Chan.idleNote (ch : Chan) : Chan :=
  let since := if ch.pwrState = 0 ∧ ch.idleHolds = true then some (ch.pwr.idleSince.getD ch.now) else none
  { ch with pwr := { ch.pwr with idleSince := since } }

/-- IDLE_ENTRY (R405): the Idle conditions have held for 64 cc. -/
def Chan.idleEntry (ch : Chan) : Chan :=
  match ch.pwr.idleSince with
  | some t =>
    if ch.clocked && ch.pwrState == 0 && ch.sinceC t 64 && ch.idleHolds then
      { ch with pwr := { ch.pwr with idleSince := none } }.setPwrState 1
    else ch
  | none => ch

/-- A timer of R90, R266 or R269 is due. -/
def Chan.timerDue (ch : Chan) : Bool :=
  let n := 2048 * ch.scrubBanks.length
  (!ch.safeServe && ((List.range 16).any fun i => match ch.aging i with
    | some a =>
      if a.next < ch.ageBuckets i then decide (a.start + a.next * ch.agePeriod i / ch.ageBuckets i ≤ ch.ns)
      else decide (a.start + ch.agePeriod i ≤ ch.ns)
    | none => false)) ||
  (ch.flag R.CHK_CTRL F.CHK_CTRL_digest_enable &&
    ch.since ch.chk.digestAt (max 1 (ch.fld R.CHK_CTRL F.CHK_CTRL_digest_period) * msG)) ||
  (ch.flag R.CHK_CTRL F.CHK_CTRL_scrub_enable && !ch.safeServe &&
    ch.since ch.chk.scrubAt (if ch.chk.scrubPos < n then ch.chk.scrubPos * 50 * msG / n else 50 * msG))

/-- IDLE_EXIT (R405): an Idle condition fails, or a timer is due. -/
def Chan.idleExit (ch : Chan) : Chan :=
  if ch.isOn && ch.pwrState == 1 && (!ch.idleHolds || ch.timerDue) then ch.setPwrState 0 else ch

/-! ## Operating points (R407, R408) -/

/-- The VDD_CH setpoint of the point in force, or of a change under way: a raise ramps first, a lowering last. -/
def Chan.setpoint (ch : Chan) : Nat :=
  match ch.pwr.opp with
  | some o => Config.vdd ch.idx (if o.raising then o.target else ch.point)
  | none => Config.vdd ch.idx ch.point

def Chan.putVdd (ch : Chan) (mv : Nat) : Chan := ch.setFld R.PWR_STATUS F.PWR_STATUS_vdd mv

/-- The slower of the requested point and the thermal floor; a change starts when none is in progress and the core clock runs. -/
def Chan.oppReview (ch : Chan) : Chan :=
  let t := max (ch.fld R.PWR_OPP_REQ F.PWR_OPP_REQ_point) (ch.fld R.PWR_STATUS F.PWR_STATUS_floor)
  if !ch.clocked || ch.pwr.opp.isSome || t == ch.point then ch
  else
    let ch : Chan := { ch with pwr := { ch.pwr with opp := some { target := t, raising := decide (t < ch.point), at_ := ch.now } } }
    ch.putVdd ch.setpoint

/-- PWR_OPP_REQUEST: a write of PWR_OPP_REQ. A request made during a change waits for its end. -/
def Chan.oppRequest (ch : Chan) (v : Word) : Chan :=
  (ch.setFld R.PWR_OPP_REQ F.PWR_OPP_REQ_point (getF v F.PWR_OPP_REQ_point)).oppReview

/-- OPP_SWITCH: the divider switches after the ramp of a raise, or before the ramp of a lowering, holding dispatch for 64 cc of the old
clock. -/
def Chan.oppSwitch (ch : Chan) : Chan :=
  match ch.pwr.opp with
  | some o =>
    if !ch.clocked || o.switched || (o.raising && !o.ramped) then ch
    else
      let hold := ch.now + ch.cc 64
      let rest := if o.raising then none else some { o with switched := true, at_ := ch.now }
      let ch := (ch.setFld R.PWR_STATUS F.PWR_STATUS_point o.target).coreNote
      let ch : Chan := { ch with pwr := { ch.pwr with oppHold := hold, opp := rest } }
      (ch.putVdd ch.setpoint).oppReview
  | none => ch

/-- Grains of a ramp between two points, at 10 mV per µs (R407). -/
def Chan.rampTime (ch : Chan) (p q : Nat) : Nat :=
  let a := Config.vdd ch.idx p
  let b := Config.vdd ch.idx q
  (max a b - min a b) * usG / 10

/-- The ramp's time has passed; that of a lowering began at its switch, from a voltage no higher than P0's. -/
def Chan.rampDone (ch : Chan) (o : OppChange) : Bool := o.raising == false || ch.since o.at_ (ch.rampTime ch.point o.target)

/-- OPP_RAMP_COMPLETE: the VDD_CH ramp of a change ends. -/
def Chan.oppRamped (ch : Chan) : Chan :=
  match ch.pwr.opp with
  | some o =>
    if !ch.isOn || o.ramped || (!o.raising && !o.switched) || !ch.rampDone o then ch
    else if o.raising then { ch with pwr := { ch.pwr with opp := some { o with ramped := true } } }
    else { ch with pwr := { ch.pwr with opp := none } }.oppReview
  | none => ch

/-! ## Doze and Vault (R403, R405, R406) -/

/-- A go is refused (R405). -/
def Chan.goRefused (ch : Chan) (result : Nat) : Chan :=
  ((ch.setFlag R.PWR_CTRL F.PWR_CTRL_go false).setFld R.PWR_STATUS F.PWR_STATUS_last_result result).raise EV_PWR_REFUSED

/-- A go is accepted: go reads 1 until its target is reached. -/
def Chan.goTaken (ch : Chan) (pending : Bool) : Chan :=
  (ch.setFlag R.PWR_CTRL F.PWR_CTRL_go pending).setFld R.PWR_STATUS F.PWR_STATUS_last_result 0

/-- The conditions of an entry into Doze or Vault hold. -/
def Chan.sleepHolds (ch : Chan) : Bool := ch.idleHolds && ch.linkState == 0

/-- A wake begins from Doze or Vault. -/
def Chan.wakeStart (ch : Chan) : Chan :=
  if ch.isOn && decide (2 ≤ ch.pwrState) && ch.pwr.waking.isNone then
    { ch with pwr := { ch.pwr with waking := some (ch.pwrState, ch.now) } }
  else ch

/-- PWR_GO_RUN: at once in Run or Idle, by a wake from Doze or Vault. -/
def Chan.goRun (ch : Chan) : Chan :=
  if ch.safeServe then ch.goRefused 2
  else if ch.pwr.entering.isSome then ch.goRefused 1
  else if 2 ≤ ch.pwrState then (ch.goTaken true).wakeStart
  else ch.goTaken false

/-- Start an entry into Doze (1) or Vault (2) from Run or Idle. -/
def Chan.goSleep (ch : Chan) (target : Nat) : Chan :=
  if ch.safeServe then ch.goRefused 2
  else if ch.pwr.entering.isSome || decide (2 ≤ ch.pwrState) || !ch.sleepHolds then ch.goRefused 1
  else { ch.goTaken true with pwr := { ch.pwr with entering := some (target, ch.now) } }

/-- PWR_GO_DOZE. -/
def Chan.goDoze (ch : Chan) : Chan := ch.goSleep 1
/-- PWR_GO_VAULT. -/
def Chan.goVault (ch : Chan) : Chan := ch.goSleep 2

/-- A write of PWR_CTRL; target 3 is refused (R423). A go written while one is pending has no effect (R11). -/
def Chan.pwrCtrlWrite (ch : Chan) (v : Word) : Chan :=
  let k := R.PWR_CTRL
  if getF v F.PWR_CTRL_target = 3 then ch.raise EV_PWR_REFUSED
  else
    let busy := ch.flag k F.PWR_CTRL_go
    let ch := ch.wr k (mergeF (ch.rd k) v [F.PWR_CTRL_idle_enable, F.PWR_CTRL_target, F.PWR_CTRL_auto_restart,
      F.PWR_CTRL_safe_serve_limit])
    if getF v F.PWR_CTRL_go = 0 ∨ busy = true then ch
    else match getF v F.PWR_CTRL_target with
      | 0 => ch.goRun
      | 1 => ch.goDoze
      | _ => ch.goVault

/-- POWER_ENTRY_COMPLETE (R403, R405): the hardware sequence reaches Doze or Vault, with VDD_CH at retention in Vault; conditions that
no longer hold end it as a refusal. -/
def Chan.entryComplete (ch : Chan) : Chan :=
  match ch.pwr.entering with
  | some (target, _) =>
    let ok := ch.isOn && ch.sleepHolds
    let ch : Chan := { ch with pwr := { ch.pwr with entering := none, since := ch.now, idleSince := none } }
    if ok then
      let ch := (ch.setPwrState (target + 1)).setFlag R.PWR_CTRL F.PWR_CTRL_go false
      if target = 2 then ch.putVdd 550 else ch
    else ch.goRefused 1
  | none => ch

/-- The timers of R90, R266 and R269 resume from where they stood (R405): their starts move by the time asleep. -/
def Chan.shiftTimers (ch : Chan) (asleep : Nat) : Chan :=
  let ns := asleep / nsG
  let aging := ch.flow.aging.map fun (x : Nat × Option Aging) =>
    (x.1, x.2.map fun (a : Aging) => { a with start := a.start + ns })
  let k := { ch.chk with digestAt := ch.chk.digestAt + asleep, scrubAt := ch.chk.scrubAt + asleep }
  { ch with flow := { ch.flow with aging := aging }, chk := k }

/-- A wake ends in Idle (R405, Table 16.3). Accesses held for it are then served. -/
def Chan.wakeDone (ch : Chan) : Chan :=
  match ch.pwr.waking with
  | some _ =>
    let asleep := ch.now - ch.pwr.since
    let ch : Chan := { ch with pwr := { ch.pwr with waking := none } }
    let ch := ((ch.shiftTimers asleep).setPwrState 1).setFlag R.PWR_CTRL F.PWR_CTRL_go false
    (ch.putVdd ch.setpoint).oppReview
  | none => ch

/-- DOZE_ACCESS_WAKE (R378, R406): an access of function instance `inst` to a channel in Doze or Vault is held, and starts a wake; a
write carries its word. -/
def Chan.accessWake (ch : Chan) (inst off : Nat) (v : Option Word) : Chan :=
  if ch.isOn && decide (2 ≤ ch.pwrState) then
    { ch with host := { ch.host with held := ch.host.held ++ [(inst, off, v)] } }.wakeStart
  else ch

/-! ## Temperature (R409 to R411) -/

/-- How much hotter the channel is than its coolest powered neighbour whose frames come; a neighbour whose frames are missing counts as
being at the channel's own temperature. -/
def Chan.hotterBy (ch : Chan) : Nat :=
  let t := ch.fld R.PWR_STATUS F.PWR_STATUS_temp
  let d (n : Neighbour) : Nat := if n.powered && n.tempValid && n.misses == 0 then t - n.temp else 0
  max (d ch.pwr.prev) (d ch.pwr.next)

/-- At P3 and still more than 30 °C hotter than a neighbour: once per second. -/
def Chan.neighbourTemp (ch : Chan) : Chan :=
  let due := match ch.pwr.neighTempAt with | some t => ch.since t (1000 * msG) | none => true
  if ch.point = 3 ∧ 30 < ch.hotterBy ∧ due = true then
    { ch with pwr := { ch.pwr with neighTempAt := some ch.now } }.raise EV_PWR_NEIGHBOUR_TEMP
  else ch

/-- THERMAL_SAMPLE (R409): the four sensors are read every 10 µs. -/
def Chan.thermalSample (ch : Chan) (t : Nat) : Chan :=
  if !ch.isOn || !ch.since ch.pwr.sampleAt (10 * usG) then ch
  else
    let t := min 255 t
    let pwr := { ch.pwr with sampleAt := ch.now, throttled := ch.pwr.throttled || decide (100 ≤ t) }
    let ch := ({ ch with pwr := pwr } : Chan).setFld R.PWR_STATUS F.PWR_STATUS_temp t
    let ch := if 95 ≤ t then ch.raise EV_PWR_THERMAL_WARN else ch
    let ch := if 100 ≤ t then ch.raise EV_PWR_THROTTLE else ch
    let ch := ch.neighbourTemp
    if 110 ≤ t then ch.failStop 3 else ch

def Chan.floorPoint (ch : Chan) : Nat := ch.fld R.PWR_STATUS F.PWR_STATUS_floor

def Chan.setFloor (ch : Chan) (p : Nat) : Chan :=
  ({ ch with pwr := { ch.pwr with floorAt := ch.now } } : Chan).setFld R.PWR_STATUS F.PWR_STATUS_floor p |>.oppReview

/-- THROTTLE_STEP (R409, R411): every 100 µs at 100 °C or above, or more than 30 °C hotter than a neighbour. -/
def Chan.throttleStep (ch : Chan) : Chan :=
  let hot := decide (100 ≤ ch.fld R.PWR_STATUS F.PWR_STATUS_temp) || decide (30 < ch.hotterBy)
  if ch.isOn && hot && decide (ch.floorPoint < 3) && ch.since ch.pwr.floorAt (100 * usG) then ch.setFloor (ch.floorPoint + 1) else ch

/-- FLOOR_RAISE_STEP (R409, R411): every 1 ms at 95 °C or below and at most 25 °C hotter than any neighbour. -/
def Chan.floorRaise (ch : Chan) : Chan :=
  let cool := decide (ch.fld R.PWR_STATUS F.PWR_STATUS_temp ≤ 95) && decide (ch.hotterBy ≤ 25)
  if ch.isOn && cool && decide (0 < ch.floorPoint) && ch.since ch.pwr.floorAt msG then
    let p := ch.floorPoint - 1
    { ch with pwr := { ch.pwr with throttled := ch.pwr.throttled && p != 0 } }.setFloor p
  else ch

/-! ## The Constellation watch (R413, R414) -/

/-- CRC-8 with polynomial 0x07 over the upper 56 bits of a frame (Table 16.6). -/
def frameCrc (f : Nat) : Nat := (crc8 (beBytes 7 (f / 256))).toNat

/-- The watch frame of a channel (Table 16.6). -/
def Chan.watchFrame (ch : Chan) : Nat :=
  let b (x : Bool) : Nat := if x then 1 else 0
  let f := 0xC6 * 2 ^ 56 + ch.pwr.frameSeq % 256 * 2 ^ 48 + ch.pwrState * 2 ^ 45 + ch.point * 2 ^ 43 + b ch.safeServe * 2 ^ 42 +
    b ch.failStopped * 2 ^ 41 + b (ch.pwr.lodestar != .running) * 2 ^ 40 + ch.fld R.PWR_STATUS F.PWR_STATUS_temp * 2 ^ 32 +
    ch.fld R.PWR_STATUS F.PWR_STATUS_vdd * 2 ^ 22
  f + frameCrc f

/-- WATCH_FRAME_SEND (R413): every 10 µs ± 0.4 µs to both neighbours, by the Lodestar or, while it restarts or has stopped, by its ROM. -/
def Chan.frameSend (ch : Chan) : Chan :=
  if ch.isOn && ch.since ch.pwr.frameAt (9600 * nsG) then
    let f := ch.watchFrame
    let pwr := { ch.pwr with
      frameAt := ch.now, watchdogAt := ch.now, frameSeq := (ch.pwr.frameSeq + 1) % 256
      framesOut := (false, f) :: (true, f) :: ch.pwr.framesOut }
    { ch with pwr := pwr }
  else ch

/-- What the channel knows of ring_next or of ring_prev. -/
def Chan.neighbour (ch : Chan) (next : Bool) : Neighbour := if next then ch.pwr.next else ch.pwr.prev
def Chan.setNeighbour (ch : Chan) (next : Bool) (n : Neighbour) : Chan :=
  { ch with pwr := if next then { ch.pwr with next := n } else { ch.pwr with prev := n } }

/-- The view of a neighbour (Table 16.15): 0 ALIVE, 1 MISSED, 2 RESET_ISSUED, 3 ABSENT, 4 GIVEN_UP. -/
def Chan.setView (ch : Chan) (next : Bool) (v : Nat) : Chan :=
  ch.setFld R.LDS_WATCH_STATUS (if next then F.LDS_WATCH_STATUS_next else F.LDS_WATCH_STATUS_prev) v

/-- A frame is well formed: pattern and CRC. -/
def frameOk (f : Nat) : Bool := f / 2 ^ 56 % 256 == 0xC6 && f % 256 == frameCrc f

/-- WATCH_FRAME_RECEIVE (R411, R413): a good frame is recorded; a bad one counts as missing. -/
def Chan.frameReceive (ch : Chan) (next : Bool) (f : Nat) : Chan :=
  if !ch.isOn || !frameOk f then ch
  else
    let off := decide (4 ≤ f / 2 ^ 45 % 8)
    let n : Neighbour := { ch.neighbour next with
      lastAt := ch.now, misses := 0, seqNo := f / 2 ^ 48 % 256, absent := off, powered := !off
      point := f / 2 ^ 43 % 4, safeServe := f.testBit 42, failStop := f.testBit 41, restarting := f.testBit 40
      temp := f / 2 ^ 32 % 256, tempValid := true, vdd := f / 2 ^ 22 % 1024 }
    let ch := (ch.setNeighbour next n).setView next (if off then 3 else 0)
    ch.setFld R.PWR_STATUS (if next then F.PWR_STATUS_temp_next else F.PWR_STATUS_temp_prev) n.temp

/-- A frame of a neighbour is 0.8 µs late: it counts as missed. Answers whether the count has reached this side's threshold: 3 for
ring_prev, which watches its next, and 6 for ring_next. -/
def Chan.frameMissed (ch : Chan) (next : Bool) : Bool × Chan :=
  let n := ch.neighbour next
  if !ch.isOn || n.absent || !ch.since n.lastAt ((n.misses + 1) * 10 * usG + 800 * nsG) then (false, ch)
  else
    let m := n.misses + 1
    let ch := ch.setNeighbour next { n with misses := m }
    let ch := if ch.fld R.LDS_WATCH_STATUS (if next then F.LDS_WATCH_STATUS_next else F.LDS_WATCH_STATUS_prev) = 4 then ch
      else ch.setView next 1
    (ch.pwr.lodestar == .running && decide ((if next then 3 else 6) ≤ m), ch)

/-- The channel resets its neighbour's Lodestar (R414), or has done so 3 times within the last second and gives up. Answers whether the
line is asserted. -/
def Chan.neighbourReset (ch : Chan) (next : Bool) : Bool × Chan :=
  let n := ch.neighbour next
  let recent := n.resets.filter fun t => decide (ch.now < t + 1000 * msG)
  let fresh : Neighbour := { n with misses := 0, lastAt := ch.now }
  if 3 ≤ recent.length then
    (false, ((ch.setNeighbour next { fresh with resets := recent }).setView next 4).raise EV_LDS_RESTART_FAILED)
  else
    let k := R.LDS_WATCH_STATUS
    let ch := (ch.setNeighbour next { fresh with resets := ch.now :: recent }).setView next 2
    let ch := ch.setFld k F.LDS_WATCH_STATUS_resets_issued (min 255 (ch.fld k F.LDS_WATCH_STATUS_resets_issued + 1))
    let who := (ch.idx.val + if next then 1 else 7) % 8
    (true, { ch with pwr := { ch.pwr with resetsOut := who :: ch.pwr.resetsOut } }.raise EV_LDS_NEIGHBOUR_RESET)

/-! ## The Lodestar and Safe Serve (R415 to R418) -/

/-- Safe Serve begins (R238, R265, R416, R418). -/
def Chan.safeEnter (ch : Chan) : Chan :=
  if ch.safeServe then ch
  else
    let ch := ch.setFlag R.PWR_STATUS F.PWR_STATUS_safe_serve true
    let ch := ({ ch with pwr := { ch.pwr with safeSince := some ch.now } } : Chan).raise EV_LDS_SAFE_SERVE
    let ch := ch.safeWork
    (ch.models.swaps.filter fun x => !x.2.2).foldl (fun (ch : Chan) x =>
      let ch : Chan := { ch with models := { ch.models with swaps := ch.models.swaps.filter (· ≠ x) } }
      ((ch.setStandby x.1 2).setFld (R.CHN_SLOT_CMD x.1) F.CHN_SLOT_CMD_last_result 2).slotChange x.1) ch

/-- LODESTAR_RESET (R415, R416): from a neighbour's line or the channel's own watchdog. -/
def Chan.lodestarReset (ch : Chan) : Chan :=
  if ch.isOn then
    { ch with pwr := { ch.pwr with lodestar := .restarting, lodestarAt := ch.now, watchdogAt := ch.now } }.safeEnter
  else ch

/-- LODESTAR_WATCHDOG (R414): 100 µs without a frame sent. -/
def Chan.watchdog (ch : Chan) : Chan :=
  if ch.isOn && ch.since ch.pwr.watchdogAt (100 * usG) then ch.lodestarReset else ch

/-- Flip bits of the instruction memory. -/
def upset (bs : List Byte) (flips : List (Nat × Byte)) : List Byte :=
  flips.foldl (fun bs x => modAt bs x.1 fun b => b ^^^ x.2) bs

/-- LODESTAR_RESTART_COMPLETE (R415): the ROM compares the hash of the instruction memory, in which bits may have flipped, with the one
kept from boot; on a match the firmware restarts and reads the signature state area (R396), else the Lodestar stops. -/
def Chan.lodestarRestarted (ch : Chan) (flips : List (Nat × Byte)) : Chan :=
  if !ch.isOn || ch.pwr.lodestar != .restarting then ch
  else
    let fw := upset ch.pwr.fw flips
    let ch : Chan := { ch with pwr := { ch.pwr with fw := fw } }
    if sha384 fw = ch.pwr.fwHash then
      let k := R.LDS_WATCH_STATUS
      let ch := ch.setFld k F.LDS_WATCH_STATUS_restarts (min 255 (ch.fld k F.LDS_WATCH_STATUS_restarts + 1))
      ({ ch with pwr := { ch.pwr with lodestar := .running } } : Chan).raise EV_LDS_RESTARTED
    else { ch with pwr := { ch.pwr with lodestar := .stopped } }

/-- SAFE_SERVE_END (R416): the restarted firmware completes every remap still pending and restarts the sweeps. -/
def Chan.safeServeEnd (ch : Chan) : Chan :=
  if !ch.isOn || !ch.safeServe || ch.pwr.lodestar != .running then ch
  else
    let ch := ch.setFlag R.PWR_STATUS F.PWR_STATUS_safe_serve false
    let ch : Chan := { ch with pwr := { ch.pwr with safeSince := none } }
    let ch := (List.range (ch.chk.remaps.length + ch.chk.rebuilds.length)).foldl
      (fun (ch : Chan) _ => (ch.remapStep ch.chk.remaps).rebuildStep) ch
    let k := { ch.chk with sweep := none, muted := [], scrubAt := ch.now, scrubPos := 0, scrubEns := ch.validEns }
    let ch := ({ ch with chk := k } : Chan).raise EV_LDS_SAFE_SERVE_END
    let ch := ch.trnReturn
    if ch.pwr.declareWait then ch.hangDeclare else ch

/-! ## Fail-stop conditions (R419, Table 16.8) -/

/-- Dispatch is stopped for a reason whose cycles do not count: GATE_WAIT, a FENCE_HOLD of at most 40 µs, a SEAL_REFETCH of at most
10 µs. -/
def Chan.stallExempt (ch : Chan) : Bool :=
  match ch.dispatchStop with
  | some 1 => (match ch.chk.holdAt with | some t => !ch.since t (40 * usG) | none => false)
  | some 3 => !(ch.models.holds.any fun h => ch.since h.at_ (10 * usG))
  | some 6 => true
  | _ => false

/-- What `g` grains of idling do to the count of a stall: none runs while the Carafe is empty, and exempt cycles do not count. -/
def Chan.stallNote (ch : Chan) (g : Nat) : Chan :=
  if ch.port.carafe.isEmpty then { ch with pwr := { ch.pwr with dispatchAt := ch.now } }
  else if ch.stallExempt then { ch with pwr := { ch.pwr with dispatchAt := ch.pwr.dispatchAt + g } }
  else ch

/-- Since when the stall counts: a FENCE_HOLD or a SEAL_REFETCH that lasts too long counts from its start. -/
def Chan.stallStart (ch : Chan) : Nat :=
  match ch.dispatchStop with
  | some 1 => min ch.pwr.dispatchAt (ch.chk.holdAt.getD ch.now)
  | some 3 => ch.models.holds.foldl (fun a (h : SealHold) => min a h.at_) ch.pwr.dispatchAt
  | _ => ch.pwr.dispatchAt

/-- DISPATCH_STALL: the Carafe holds a descriptor and none has been dispatched for 25 ac. -/
def Chan.dispatchStall (ch : Chan) : Chan :=
  if ch.isOn && !ch.port.carafe.isEmpty && !ch.stallExempt && ch.since ch.stallStart (25 * acG) then ch.failStop 1 else ch

/-- SAFE_SERVE_TIMEOUT: Safe Serve has lasted safe_serve_limit ms. -/
def Chan.safeTimeout (ch : Chan) : Chan :=
  let lim := ch.fld R.PWR_CTRL F.PWR_CTRL_safe_serve_limit
  match ch.pwr.safeSince with
  | some t => if lim ≠ 0 ∧ ch.since t (lim * msG) = true then ch.failStop 2 else ch
  | none => ch

/-- VDD_CH_FAULT: VDD_CH more than 50 mV from its setpoint for 1 µs, outside a ramp. -/
def Chan.vddFault (ch : Chan) : Chan :=
  let ramp := match ch.pwr.opp with
    | some o => if o.raising then !o.ramped else o.switched
    | none => ch.pwr.waking.isSome || ch.pwr.entering.isSome
  if ramp then ch else ch.failStop 4

/-- CORE_PLL_UNLOCK. -/
def Chan.pllUnlock (ch : Chan) : Chan := if ch.clocked then ch.failStop 5 else ch

/-- LODESTAR_FAIL_DECLARE: firmware declares the channel unable to serve. -/
def Chan.failDeclare (ch : Chan) : Chan := if ch.pwr.lodestar = .running then ch.failStop 6 else ch

/-! ## Channel reset and power-off (R422, Table 16.10) -/

/-- A channel reset: what Table 16.10 keeps, beside the model's logs and the T2 and T3 cells whose keys it destroys. -/
def Chan.reset (ch : Chan) : Chan :=
  let dump := ch.regs.filter fun x => x.1 = R.OBS_DUMP_BASE ∨ x.1 = R.OBS_DUMP_STATUS
  let mem : Mem := { spad := ch.mem.spad, t1 := ch.mem.t1, t2 := ch.mem.t2, t3 := ch.mem.t3, keyGen := ch.mem.keyGen }
  let pwr : Pwr := { power := .inReset, since := ch.now, autoRestarts := ch.pwr.autoRestarts, failPin := true
                     framesOut := ch.pwr.framesOut, resetsOut := ch.pwr.resetsOut }
  let zlk : Zlk := { p0 := { out := ch.zlk.p0.out }, p1 := { out := ch.zlk.p1.out }, p2 := { out := ch.zlk.p2.out } }
  { idx := ch.idx, now := ch.now, sid := ch.sid, regs := dump, draws := ch.draws, toHub := ch.toHub
    ev := { meteor := ch.ev.meteor, out := ch.ev.out }
    host := { numVFs := ch.host.numVFs, vfEnable := ch.host.vfEnable, d3hot := ch.host.d3hot }
    port := { out := ch.port.out }, pwr := pwr, mem := mem, zlk := zlk, flash := ch.flash, fuses := ch.fuses }

/-- Power-off: nothing of the channel is kept but its flash and fuses; the configuration of its functions stands in the hub die. -/
def Chan.off (ch : Chan) : Chan :=
  let ch := ch.reset
  let pwr : Pwr := { power := .off, since := ch.now, framesOut := ch.pwr.framesOut, resetsOut := ch.pwr.resetsOut }
  { ch with
    sid := { at_ := ch.now }, regs := [], ev := { out := ch.ev.out }, mem := { keyGen := ch.mem.keyGen }, pwr := pwr }

/-- The automatic restart is due `g` grains after the latch set, for a fail-stop that does not wait for the host (R421). -/
def Chan.autoDue (ch : Chan) (g : Nat) : Bool :=
  ch.isOn && ch.failStopped && ch.flag R.PWR_CTRL F.PWR_CTRL_auto_restart && ch.pwr.latchAuto && ch.since ch.pwr.latchAt g

/-- The automatic restart itself: the event, the count, and the channel reset. -/
def Chan.autoRestart (ch : Chan) : Chan :=
  let ch := ch.raise EV_PWR_AUTO_RESTART
  { ch with pwr := { ch.pwr with autoRestarts := ch.now :: ch.restartsNow } }.reset

end Sys2Proof.Machine
end

