-- ==== Sys2Proof/Machine/Attest.lean ====
section
/-!
DEFINITION. Machine/Attest.lean: identity and attestation (R393 to R397): alias records, signature blocks and reports, whose keys and
signatures are free values (Config.signature), and the requests that functions make.
-/

namespace Sys2Proof.Machine

open Sys2Proof

/-! ## Keys and signature blocks (R385, R393, R394) -/

/-- `n` free bytes from byte `a` on of what key `k` of channel `c` makes of a message. -/
def signed (c k : Nat) (m : List Byte) (a n : Nat) : List Byte := (List.range n).map fun i => Config.signature (16 * c + k) m (a + i)

/-- An HSS public key of `l` levels with LMS_SHA256_M32_H15 and LMOTS_SHA256_N32_W4 (RFC 8554): its identifier and root are free. -/
def hssPub (c k l : Nat) (m : List Byte) : List Byte := beBytes 4 l ++ beBytes 4 7 ++ beBytes 4 3 ++ signed c k m 0 48

/-- An LMS signature at index `q`: 2,668 bytes. -/
def lmsSig (c k : Nat) (m : List Byte) (q a : Nat) : List Byte :=
  beBytes 4 q ++ beBytes 4 3 ++ signed c k m a 2176 ++ beBytes 4 7 ++ signed c k m (a + 2176) 480

/-- What the alias keys of a boot stand on: image measurement, security version and sequence. -/
structure Ident where
  mImg : List Byte
  sv   : Nat
  seq  : Nat
  deriving DecidableEq, Repr

/-- The unique device secret of channel `c` (R387). -/
def udsOf (c : Nat) : List Byte := (List.range 32).map (Config.uds c)

/-- The CDI of an identity (R393): the security version as the header's four bytes (DEDUCED, log 162). -/
def Ident.cdi (c : Nat) (d : Ident) : List Byte := hmac384 (udsOf c) (d.mImg ++ leBytes 4 d.sv)

/-- The identity of a booted channel; in Quarantine boot a measurement of 48 zero bytes and sequence 0 (R392). -/
def Chan.ident (ch : Chan) : Ident :=
  if ch.boot.header.isEmpty then { mImg := List.replicate 48 0, sv := 0, seq := 0 }
  else { mImg := sha384 ch.boot.header, sv := le ch.boot.header 16 4, seq := le ch.boot.header 8 8 }

/-- The alias public keys: of the CDI, the HSS key of the header's sequence too. -/
def aliasEc (c : Nat) (d : Ident) : List Byte := signed c 4 (d.cdi c) 0 96
def aliasHss (c : Nat) (d : Ident) : List Byte := hssPub c 6 2 (d.cdi c ++ leBytes 8 d.seq)

/-- The alias record (R394). -/
def aliasRecord (c device : Nat) (d : Ident) : List Byte :=
  aliasEc c d ++ aliasHss c d ++ d.mImg ++ leBytes 8 d.seq ++ leBytes 4 d.sv ++ leBytes 8 device ++ [byte c] ++ List.replicate 31 0

/-- A signature block (Table 15.4). -/
def sigBlock (ec ecSig hss hssSig : List Byte) : List Byte :=
  [0x59, 0x5A, 0x53, 0x42, 1, 0, 0, 0] ++ ec ++ ecSig ++ hss ++ leBytes 4 hssSig.length ++ hssSig

/-- The block in which the DeviceID keys sign an alias record: the `n`-th signature of the DeviceID HSS key. -/
def deviceBlock (c n : Nat) (rec : List Byte) : List Byte :=
  let m := udsOf c ++ sha384 rec
  sigBlock (signed c 0 (udsOf c) 0 96) (signed c 1 m 0 96) (hssPub c 2 1 (udsOf c)) (beBytes 4 0 ++ lmsSig c 3 m n 0)

/-- The block in which the alias keys sign a report, at index `q` of the alias HSS key. -/
def aliasBlock (c q : Nat) (d : Ident) (report : List Byte) : List Byte :=
  let m := d.cdi c ++ leBytes 8 d.seq ++ sha384 report
  sigBlock (aliasEc c d) (signed c 5 m 0 96) (aliasHss c d)
    (beBytes 4 1 ++ lmsSig c 7 m (q / 32768) 0 ++ beBytes 4 7 ++ beBytes 4 3 ++ signed c 7 m 4096 48 ++ lmsSig c 7 m (q % 32768) 8192)

/-- The kept alias record, with its block, whose keys are those the boot derived (R394). -/
def Chan.aliasKept (ch : Chan) : Option (List Byte) :=
  ch.flash.aliases.find? fun x => slice x 0 156 == aliasEc ch.idx ch.ident ++ aliasHss ch.idx ch.ident

/-! ## Requests (R395, R397) -/

/-- Signatures of the alias HSS key: 2^30 (R393). -/
def aliasLimit : Nat := 1073741824

/-- Show the signatures left in every instance's LDS_ATT_REMAINING. -/
def Chan.attShow (ch : Chan) : Chan :=
  (List.range 17).foldl (fun (ch : Chan) i =>
    ch.setFld (bank i R.LDS_ATT_REMAINING) F.LDS_ATT_REMAINING_remaining (aliasLimit - ch.boot.nextQ)) ch

/-- The destination of a function's request lies in a scratchpad entry of its tenant, or of the channel. -/
def Chan.attDestOk (ch : Chan) (inst : Nat) : Bool :=
  ch.inRegion 0 (ownerOf inst) (ch.fld (bank inst R.LDS_ATT_DEST) F.LDS_ATT_DEST_address) 24576

/-- A request is refused with a result of Table 15.13; a function's held request stays held. -/
def Chan.attRefuse (ch : Chan) (inst result : Nat) : Chan :=
  let k := bank inst R.LDS_ATT_STATUS
  let ch := ch.setFld k F.LDS_ATT_STATUS_result result
  let ch := if result = 1 then ch
    else (ch.setFld k F.LDS_ATT_STATUS_state 0).setFlag (bank inst R.LDS_ATT_REQ) F.LDS_ATT_REQ_start false
  ch.raise EV_LDS_ATTEST_REFUSED (instTenant inst)

/-- ATTEST_REQUEST (R395 to R397, R400): a write of LDS_ATT_REQ through function instance `inst`; a VF's scope and tenant are forced. -/
def Chan.attestRequest (ch : Chan) (inst : Nat) (v : Word) : Chan :=
  let k := bank inst R.LDS_ATT_REQ
  let start := getF v F.LDS_ATT_REQ_start = 1
  if ch.boot.requests.contains inst then (if start then ch.attRefuse inst 1 else ch)
  else
    let ch := ch.wr k (mergeF (ch.rd k) v [F.LDS_ATT_REQ_scope, F.LDS_ATT_REQ_tenant])
    let ch := if inst = 0 then ch
      else (ch.setFld k F.LDS_ATT_REQ_scope 1).setFld k F.LDS_ATT_REQ_tenant (ch.tid (inst - 1))
    if ¬start then ch
    else if aliasLimit ≤ ch.boot.nextQ then ch.attRefuse inst 2
    else if ch.boot.stateLost then ch.attRefuse inst 3
    else if ch.attDestOk inst = false then ch.attRefuse inst 4
    else
      let ch : Chan := { ch with boot := { ch.boot with requests := ch.boot.requests ++ [inst] } }
      (ch.setFlag k F.LDS_ATT_REQ_start true).setFld (bank inst R.LDS_ATT_STATUS) F.LDS_ATT_STATUS_state 1

/-! ## Reports (R395, Table 15.8) -/

/-- The entry of a slot. -/
def Chan.attSlot (ch : Chan) (n : Nat) : List Byte :=
  let s := ch.side (ctxOf n (ch.servingSide n))
  let digest := if s.published then s.signed else s.modelDigest
  [byte n, byte (ch.slotTid n), byte (ch.slotKind n), byte (ch.servingState n), if s.published then 1 else 0, 0, 0, 0] ++
  leBytes 8 (if s.published then s.step else 0) ++ slice digest 0 48 ++ (if s.published then slice s.digest 0 48 else List.replicate 48 0) ++
  List.replicate 16 0

/-- The report of a function's request, at index `q`. -/
def Chan.attReport (ch : Chan) (inst q : Nat) : List Byte :=
  let k := bank inst R.LDS_ATT_REQ
  let scope := ch.fld k F.LDS_ATT_REQ_scope
  let tenant := ch.fld k F.LDS_ATT_REQ_tenant
  let slots := (List.range 64).filter fun n => ch.slotEnabled n && (scope == 0 || ch.slotTid n == tenant)
  let nonce := (List.range 6).flatMap fun i => leBytes 8 (ch.rd (bank inst (R.LDS_ATT_NONCE i))).toNat
  let state : Byte := if ch.boot.quarantined then 1 else if ch.safeServe then 2 else 0
  let d := ch.ident
  [0x59, 0x5A, 0x41, 0x52, 1, 0] ++ leBytes 2 slots.length ++ nonce ++ leBytes 8 ch.fuses.deviceId ++
  [byte ch.idx, byte scope, if scope = 1 then byte tenant else 0, state] ++ leBytes 4 d.sv ++ leBytes 8 d.seq ++ d.mImg ++
  leBytes 8 ch.ns ++ leBytes 8 q ++ List.replicate 112 0 ++ slots.flatMap ch.attSlot

/-- First 8 bytes of the SHA-384 of the alias HSS key, which its state records carry (R396). -/
def Chan.stateKey (ch : Chan) : List Byte := (sha384 (aliasHss ch.idx ch.ident)).take 8

/-- Append the state record of index `q` (R396): the area's 32 sectors hold 32,768 records, and a full one is erased for the next. -/
def Chan.stateCommit (ch : Chan) (q : Nat) : Chan :=
  let old := if ch.flash.states.length < 32768 then ch.flash.states else ch.flash.states.take 31744
  let recs := { key := ch.stateKey, q := q + 1 } :: old
  { ch with flash := { ch.flash with states := recs }, boot := { ch.boot with nextQ := q + 1 } }.attShow

/-- A report may be released now: the firmware runs, the alias keys stand, and a second has passed since the last release. -/
def Chan.attDue (ch : Chan) : Bool :=
  ch.isOn && ch.pwr.lodestar == .running && (ch.boot.state == .ready || ch.boot.state == .quarantine || ch.boot.state == .programming) &&
  (match ch.boot.released with | some t => ch.since t (1000 * msG) | none => true)

/-- ATTEST_RELEASE (R395 to R397): the oldest held request is signed and released, its state record first. -/
def Chan.attestRelease (ch : Chan) : Chan :=
  match ch.boot.requests with
  | [] => ch
  | inst :: rest =>
    if !ch.attDue then ch
    else
      let q := ch.boot.nextQ
      let ch : Chan := { ch with boot := { ch.boot with requests := rest } }
      if aliasLimit ≤ q then ch.attRefuse inst 2
      else if ch.attDestOk inst = false then ch.attRefuse inst 4
      else
        let report := ch.attReport inst q
        let kept := ch.aliasKept.getD (aliasRecord ch.idx ch.fuses.deviceId ch.ident)
        let out := report ++ kept ++ aliasBlock ch.idx q ch.ident report
        let ch := ch.stateCommit q
        let k := bank inst R.LDS_ATT_STATUS
        let ch := ch.store 0 (ownerOf inst) (ch.fld (bank inst R.LDS_ATT_DEST) F.LDS_ATT_DEST_address) out
        let ch := ((ch.setFld k F.LDS_ATT_STATUS_state 3).setFld k F.LDS_ATT_STATUS_result 0).setFld k F.LDS_ATT_STATUS_length out.length
        let ch := (ch.setFld k F.LDS_ATT_STATUS_lms_index q).setFlag (bank inst R.LDS_ATT_REQ) F.LDS_ATT_REQ_start false
        let low := decide (aliasLimit - (q + 1) < 1048576) && !ch.boot.lowSaid
        let ch : Chan := { ch with boot := { ch.boot with released := some ch.now, lowSaid := ch.boot.lowSaid || low } }
        if low then ch.raise EV_LDS_LMS_LOW else ch

end Sys2Proof.Machine
end

