-- ==== Sys2Proof/Machine/Regs.lean ====
section
/-!
DEFINITION. Machine/Regs.lean: a register access from outside: who reaches a register (R366, R367, R392, R429, R446), what its
write does (R11 to R16, R445, R483), and the registers whose write does more than store. Chapter 18 gives the map.
-/

namespace Sys2Proof.Machine

open Sys2Proof

/-- Index of offset `off` in `n` registers from `base` on, `stride` bytes apart. -/
def idxOf (base stride n off : Nat) : Option Nat :=
  if base ≤ off ∧ (off - base) % stride = 0 ∧ (off - base) / stride < n then some ((off - base) / stride) else none

/-! ## Who reaches a register -/

/-- How an access through a function instance ends: at the register; refused with EV_CHN_VF_DENIED (R366); read-only for the
function; at no register (R14). -/
inductive Reach where
  | own | readOnly | denied | absent
  deriving DecidableEq, Repr

/-- Local tenant whose register an indexed own row holds: by tenant number, slot, training context or ring. -/
def Chan.regTenant (ch : Chan) (off : Nat) : Option Nat :=
  let bySlot (n : Nat) : Option Nat := some (ch.slotTid n % 128)
  let local_ (i : Nat) : Option Nat := some (ch.tid i)
  if 0x1000 ≤ off ∧ off < 0x2000 then bySlot ((off - 0x1000) / 64)
  else if 0x2000 ≤ off ∧ off < 0x2080 then local_ ((off - 0x2000) / 8)
  else if 0x400400 ≤ off ∧ off < 0x400600 then local_ ((off - 0x400400) / 32)
  else if 0x800200 ≤ off ∧ off < 0x800280 then local_ ((off - 0x800200) / 8)
  else if 0x900100 ≤ off ∧ off < 0x900180 then local_ ((off - 0x900100) / 8)
  else if 0x900200 ≤ off ∧ off < 0x900400 then bySlot ((off - 0x900200) / 8)
  else if 0x900400 ≤ off ∧ off < 0x900480 then local_ ((off - 0x900400) / 8)
  else if 0x900500 ≤ off ∧ off < 0x900600 then local_ ((off - 0x900500) / 16)
  else if 0xa00100 ≤ off ∧ off < 0xa00300 then bySlot (ch.trnSlot ((off - 0xa00100) / 128))
  else if 0xa00800 ≤ off ∧ off < 0xa00900 then bySlot (ch.trnSlot ((off - 0xa00800) / 64))
  else if 0x1001000 ≤ off ∧ off < 0x1001100 then local_ ((off - 0x1001000) / 16)
  else if 0x1001200 ≤ off ∧ off < 0x1001300 then local_ ((off - 0x1001200) / 16)
  else if 0xf01000 ≤ off ∧ off < 0xf01400 then local_ ((off - 0xf01000) / 64)
  else none

/-- Registers of the own column without an index of their own: a VF writes them, the defining chapter forcing or checking the tenant. -/
def ownPlain : List Nat :=
  [R.CHN_STAGE_REQ, R.CHN_STAGE_STATUS, R.CHN_STAGE_SRC, R.CHN_STAGE_BACKUP, R.CHN_STAGE_BANKS, R.FLW_LOCK_REQ, R.FLW_LOCK_REL,
    R.FLW_LOCK_STATUS, R.ACU_ABORT]

/-- Reach of VF instance `inst` to the register at `off` (R366, R446). FTR_PROG_n checks its owner itself (R131). -/
def Chan.vfReach (ch : Chan) (inst off : Nat) : Reach :=
  match findRow channelRows off with
  | none => .absent
  | some (r, _, _) =>
    let mine : Bool := ch.regTenant off == some (ch.tid (inst - 1))
    match r.vf with
    | .none => .denied
    | .read => .readOnly
    | .bank => if R.CHN_HQ_BASE 1 ≤ off ∧ off < R.CHN_EVQ_BASE then .absent else .own
    | .own => if ownPlain.contains off || (idxOf (R.FTR_PROG 0) 8 64 off).isSome || mine then .own else .denied
    | .ownRead => .denied

/-- Key of the instance a function instance reaches at `off`: its own for a banked register (R367). -/
def regKey (inst off : Nat) : Nat :=
  match findRow channelRows off with
  | some (r, _, _) => if r.vf = .bank then bank inst off else off
  | none => off

/-- Registers the physical function reaches in Quarantine boot (R392). -/
def Chan.quarantineReach (ch : Chan) (off : Nat) : Bool :=
  decide (off ≤ 0x10 ∨ (0x3000 ≤ off ∧ off < 0x3200) ∨ (0x1000000 ≤ off ∧ off < 0x1000100) ∨ off = R.MEM_CTRL ∨ off = R.MEM_STATUS) ||
  (decide (R.MEM_REGION_A 0 ≤ off ∧ off < R.MEM_REGION_A 64) &&
    ch.fld (R.MEM_REGION_A ((off - R.MEM_REGION_A 0) / 16)) F.MEM_REGION_A_owner == chanKey)

/-- A write of `v` that the physical function makes in Quarantine boot: also one that gives a region entry to the channel (R392). -/
def Chan.quarantineWrite (ch : Chan) (off : Nat) (v : Word) : Bool :=
  ch.quarantineReach off ||
  ((idxOf (R.MEM_REGION_A 0) 16 64 off).isSome && getF v F.MEM_REGION_A_owner == chanKey)

/-- OBS registers the physical function reaches only with its bit of HIF_PF_PRIV (R429). -/
def obsPriv (off : Nat) : Bool := decide (0xF00000 ≤ off ∧ off < 0xF01000)

/-! ## The generic write (R11 to R14) -/

/-- The lock of the block that holds `off` is open (Table 18.1); in Safe Serve every lock is closed. -/
def Chan.lockOpen (ch : Chan) (fw : Bool) (off : Nat) : Bool :=
  !ch.safeServe &&
  (if off < 0x200000 ∨ (0x200000 ≤ off ∧ off < 0x300000) ∨ (0xb00000 ≤ off ∧ off < 0xc00000) then ch.linkState == 0
   else if off < 0x400000 then true
   else if off < 0x500000 then !ch.flag R.FTR_CTRL F.FTR_CTRL_enable
   else if off < 0x600000 then fw || !ch.flag R.FST_CTRL F.FST_CTRL_enable
   else if off < 0x700000 then ch.mxeOpen ((off - 0x600000) / 0x40000)
   else if off < 0x800000 then !ch.flag R.RVU_CTRL F.RVU_CTRL_enable_0 && !ch.flag R.RVU_CTRL F.RVU_CTRL_enable_1
   else if off < 0x900000 then !ch.flag R.ACU_CTRL F.ACU_CTRL_enable && (List.range 4).all fun e => ch.engineIdle e
   else if off < 0xa00000 then !ch.flag R.VPE_CTRL F.VPE_CTRL_enable
   else if off < 0xb00000 then !ch.flag (R.TRN_CFG ((off - 0xa00100) / 128)) F.TRN_CFG_enable
   else if off < 0xe00000 then ch.zOpen
   else if off < 0x1000000 then !ch.flag R.OBS_TRACE_CTRL F.OBS_TRACE_CTRL_enable
   else if off < R.LDS_INS_BASE 0 then !ch.hasRegion ((off - R.LDS_NOTE_BASE 0) / 16)
   else if off < R.LDS_INS_BASE 16 then !ch.hasRegion ((off - R.LDS_INS_BASE 0) / 16)
   else !ch.flag R.FLW_CTRL F.FLW_CTRL_enable)

/-- A field of a register after a write of `v` (Table 00.2). Writes of 1 to RW1S fields start actions, which the registers that have them
carry out themselves. -/
def putField (open_ written : Bool) (old v : Word) (f : Acc × Nat × Nat) : Word :=
  let fl : Fld := ⟨f.2.1, f.2.2⟩
  match f.1 with
  | .ro | .rw1s => old
  | .rw => setF old fl (getF v fl)
  | .rw1c => old &&& ~~~(v &&& fl.mask)
  | .rwo => if written then old else setF old fl (getF v fl)
  | .rwl => if open_ then setF old fl (getF v fl) else old

/-- The word of a register after a write of `v`. -/
def putFields (open_ written : Bool) (old v : Word) (fs : List (Acc × Nat × Nat)) : Word :=
  fs.foldl (fun (w : Word) f => putField open_ written w v f) old

/-- A scratchpad range lies in an entry of local tenant `i`, or of the channel. -/
def Chan.spadOwned (ch : Chan) (i : Option Nat) (a n : Nat) : Bool :=
  (match i with | some i => ch.inRegion 0 i a n | none => false) || ch.inRegion 0 chanKey a n

/-- log2 of a host ring: 0 for none, else `lo` to `hi`. -/
def ringBits (w : Word) (lo hi : Nat) : Bool :=
  let k := getF w ⟨0, 5⟩
  k == 0 || decide (lo ≤ k ∧ k ≤ hi)

/-- The event that refuses a value `w` of a register without behaviour of its own, for a local tenant if any (R292, R339, R379, R442,
R449 to R451, R483). -/
def Chan.valueRefused (ch : Chan) (off : Nat) (w : Word) : Option Ev :=
  if (idxOf (R.CHN_HQ_BASE 0) 32 4 off).isSome then (if ringBits w 6 12 then none else some EV_CHN_CFG_REJECT)
  else if off = R.CHN_EVQ_BASE ∨ (idxOf (R.CHN_HRING_BASE 0) 16 2 off).isSome then (if ringBits w 6 16 then none else some EV_CHN_CFG_REJECT)
  else if (idxOf (R.ACU_SAVE_BASE 0) 8 16 off).isSome then
    (if getF w F.ACU_SAVE_BASE_base % 4096 = 0 then none else some EV_CHN_CFG_REJECT)
  else if off = R.CHK_UNDO then (if getF w F.CHK_UNDO_base % 4194304 = 0 then none else some EV_CHN_CFG_REJECT)
  else if (idxOf (R.TRN_LINK 0) 128 4 off).isSome then
    (if getF w F.TRN_LINK_port_next = 3 ∨ getF w F.TRN_LINK_port_prev = 3 then some EV_TRN_CFG_REJECT else none)
  else if (idxOf (R.TRN_MASTER 0) 128 4 off).isSome then
    (let p := getF w F.TRN_MASTER_params
     if getF w F.TRN_MASTER_base % 65536 ≠ 0 ∨ p = 0 ∨ 16777216 < p then some EV_TRN_CFG_REJECT else none)
  else match idxOf (R.TRN_T1 0) 128 4 off with
  | some g =>
    let a := getF w F.TRN_T1_base
    if a % 2097152 = 0 ∧ ch.inRegion 1 (ch.trnTenant g) a (ch.trnAreaLen g) then none else some EV_TRN_CFG_REJECT
  | none => match idxOf (R.TRN_PUB 0) 128 4 off with
  | some g =>
    let t := getF w F.TRN_PUB_tier
    if t < 2 then (if ch.flag (R.TRN_CFG g) F.TRN_CFG_publish then some EV_TRN_CFG_REJECT else none)
    else if ch.inRegion t (ch.trnTenant g) (getF w F.TRN_PUB_address) 1 then none else some EV_TRN_CFG_REJECT
  | none => match idxOf (R.LDS_NOTE_BASE 0) 16 16 off with
  | some i =>
    let a := getF w F.LDS_NOTE_BASE_base
    if a % 65536 = 0 ∧ ch.spadOwned (some i) a 65536 then none else some EV_CHN_CFG_REJECT
  | none => match idxOf (R.LDS_INS_BASE 0) 16 18 off with
  | some r =>
    let a := getF w F.LDS_INS_BASE_base
    if a % 32768 = 0 ∧ ch.spadOwned (if r < 16 then some r else none) a 32768 then none else some EV_CHN_CFG_REJECT
  | none => match idxOf (R.LDS_ENT_SEED 0) 8 64 off with
  | some j => if ch.fld (R.FTR_LOOKUP j) F.FTR_LOOKUP_kind ≠ 0 then some EV_CHN_CFG_REJECT else none
  | none =>
    if off = R.LDS_ATT_DEST then (if getF w F.LDS_ATT_DEST_address % 64 = 0 then none else some EV_CHN_CFG_REJECT)
    else if off = R.MEM_SPAD_APERTURE then
      (if getF w F.MEM_SPAD_APERTURE_page ≤ 9 then none else some EV_MEM_REGION_REJECT)
    else if off = R.OBS_TRACE_CTRL then
      (let k := getF w F.OBS_TRACE_CTRL_sample_log2
       if 6 ≤ k ∧ k ≤ 20 then none else some EV_OBS_CFG_REJECT)
    else if off = R.OBS_TRACE_BASE then
      (let a := getF w F.OBS_TRACE_BASE_base
       let k := getF w F.OBS_TRACE_BASE_log2_size
       if a % 2097152 = 0 ∧ 21 ≤ k ∧ k ≤ 34 ∧ ch.inRegion 1 chanKey a (2 ^ k) then none else some EV_OBS_CFG_REJECT)
    else if off = R.OBS_DUMP_BASE then
      (if getF w F.OBS_DUMP_BASE_base % 1048576 = 0 then none else some EV_OBS_CFG_REJECT)
    else none

/-- What follows a change of a register's value: periods begin at the write that sets them. -/
def Chan.afterWrite (ch : Chan) (off : Nat) (old : Word) : Chan :=
  if off = R.OBS_CTRL then
    if getF old F.OBS_CTRL_summary_period ≠ ch.fld R.OBS_CTRL F.OBS_CTRL_summary_period then
      { ch with obs := { ch.obs with summaryAt := ch.now } }
    else ch
  else if off = R.OBS_TRACE_CTRL then
    if getF old F.OBS_TRACE_CTRL_enable = 0 ∧ ch.flag R.OBS_TRACE_CTRL F.OBS_TRACE_CTRL_enable = true then
      { ch with obs := { ch.obs with traceAt := ch.now } }
    else ch
  else if off = R.CHK_CTRL then
    if getF old F.CHK_CTRL_scrub_enable = 0 ∧ ch.flag R.CHK_CTRL F.CHK_CTRL_scrub_enable = true then
      { ch with chk := { ch.chk with scrubAt := ch.now, scrubPos := 0, scrubEns := ch.validEns } }
    else ch
  else ch

/-- REGISTER_WRITE (R11): a register with no behaviour of its own takes the write by its access types, lock and range checks. -/
def Chan.plainWrite (ch : Chan) (inst : Nat) (fw : Bool) (off : Nat) (v : Word) : Chan :=
  match findRow channelRows off with
  | none => ch
  | some (r, _, _) =>
    let k := if r.vf = .bank then bank inst off else off
    let locked : Bool := r.fields.any fun f => f.1 == .rwl
    let once : Bool := r.fields.any fun f => f.1 == .rwo
    let open_ := ch.lockOpen fw off
    let old := ch.rd k
    let w := putFields open_ (ch.rwo.contains k) old v r.fields
    let ch : Chan := if once && !ch.rwo.contains k then { ch with rwo := k :: ch.rwo } else ch
    match (if locked && !open_ then none else ch.valueRefused off w) with
    | some e => ch.raise e (instTenant inst)
    | none => (ch.wr k w).afterWrite off old

/-! ## Model slots (Tables 08.18 and 08.19) -/

/-- A write of CHN_SLOT_CFG_n (R216, R317). -/
def Chan.slotCfgWrite (ch : Chan) (n : Nat) (v : Word) : Chan :=
  let k := R.CHN_SLOT_CFG n
  let old := ch.rd k
  let w := mergeF old v [F.CHN_SLOT_CFG_enable, F.CHN_SLOT_CFG_tenant, F.CHN_SLOT_CFG_kind]
  let kind := getF w F.CHN_SLOT_CFG_kind
  let named : Bool := (List.range 16).any fun i => ch.primarySlot i == n || ch.fallbackSlot i == n
  let busy := ch.sideBusy (ctxOf n 0) || ch.sideBusy (ctxOf n 1)
  if ch.ownsTid (getF w F.CHN_SLOT_CFG_tenant) = false ∨ kind = 3 ∨ (busy = true ∧ w ≠ old) ∨ (kind = 2 ∧ named = true) then
    ch.raise EV_CHN_SLOT_REJECT
  else ch.wr k w

/-- A write of CHN_SLOT_WIN_n_s (R218). -/
def Chan.slotWinWrite (ch : Chan) (n s : Nat) (v : Word) : Chan :=
  let k := R.CHN_SLOT_WIN n s
  let w := mergeF (ch.rd k) v [F.CHN_SLOT_WIN_base, F.CHN_SLOT_WIN_size]
  let base := getF w F.CHN_SLOT_WIN_base
  let size := getF w F.CHN_SLOT_WIN_size
  let clash : Bool := (List.range 128).any fun c =>
    let b := ch.fld (R.CHN_SLOT_WIN (c / 2) (c % 2)) F.CHN_SLOT_WIN_base
    let z := ch.fld (R.CHN_SLOT_WIN (c / 2) (c % 2)) F.CHN_SLOT_WIN_size
    c != ctxOf n s && decide (base < b + z ∧ b < base + size)
  if 2559 < base ∨ 2560 < base + size ∨ clash = true ∨ ch.sideBusy (ctxOf n s) = true then ch.raise EV_CHN_SLOT_REJECT
  else ch.wr k w

/-! ## The registers whose write does more, by block -/

/-- CHN registers. -/
def Chan.writeChn (ch : Chan) (inst off : Nat) (v : Word) : Option Chan :=
  if off = R.CHN_STAGE_REQ then some (ch.stageRequest inst v)
  else if 0x1000 ≤ off ∧ off < 0x2000 then
    let n := (off - 0x1000) / 64
    if off = R.CHN_SLOT_CFG n then some (ch.slotCfgWrite n v)
    else if off = R.CHN_SLOT_WIN n 0 then some (ch.slotWinWrite n 0 v)
    else if off = R.CHN_SLOT_WIN n 1 then some (ch.slotWinWrite n 1 v)
    else if off = R.CHN_SLOT_CMD n ∧ getF v F.CHN_SLOT_CMD_start = 1 then some (ch.slotCmd inst n (getF v F.CHN_SLOT_CMD_command))
    else none
  else match idxOf (R.CHN_TENANT 0) 8 16 off with
  | some i => some (ch.tenantCreate i v)
  | none => (idxOf (R.CHN_HQ_PROD 0) 32 4 off).map fun q => ch.dmaDoorbell inst q v

/-- PDP, CRF and PRS registers. -/
def Chan.writePort (ch : Chan) (inst off : Nat) (v : Word) : Option Chan :=
  if off = R.PDP_CTRL then some (ch.pdpCtrlWrite v)
  else if off = R.CRF_STATUS then some (if getF v F.CRF_STATUS_reset_high_water = 1 then ch.resetHighWater else ch)
  else if off = R.PRS_IND_SEL ∧ getF v F.PRS_IND_SEL_start = 1 then
    some (ch.prsAccess inst v (getF v F.PRS_IND_SEL_write == 1))
  else none

/-- FLW registers. -/
def Chan.writeFlw (ch : Chan) (inst off : Nat) (v : Word) : Option Chan :=
  if off = R.FLW_LOCK_REQ then
    some (if getF v F.FLW_LOCK_REQ_start = 1 then ch.lockRequest inst v else ch.wr off (ch.lockWord inst v))
  else if off = R.FLW_LOCK_REL then
    some (if getF v F.FLW_LOCK_REL_start = 1 then ch.lockRelease inst v else ch.lockRelWrite inst v)
  else match idxOf (R.FLW_REGION_A 0) 16 16 off with
  | some i => some (ch.regionWrite i 0 v)
  | none => (idxOf (R.FLW_REGION_B 0) 16 16 off).map fun i => ch.regionWrite i 1 v

/-- FTR and FST registers. -/
def Chan.writeFeature (ch : Chan) (inst : Nat) (fw : Bool) (off : Nat) (v : Word) : Option Chan :=
  match idxOf (R.FTR_PROG 0) 8 64 off with
  | some n => some (ch.ftrProgWrite n (instTenant inst) v)
  | none =>
    if 0x500100 ≤ off ∧ off < 0x500500 ∧ off % 8 = 0 then
      some (ch.fstEnsWrite ((off - 0x500100) / 32) ((off - 0x500100) % 32 / 8) (!fw) v)
    else none

/-- MXE, RVU and ACU registers. -/
def Chan.writeEngines (ch : Chan) (inst off : Nat) (v : Word) : Option Chan :=
  match idxOf (R.MXE_CTRL 0) 262144 4 off with
  | some e => some (ch.mxePartWrite e false v)
  | none => match idxOf (R.MXE_PART 0) 262144 4 off with
  | some e => some (ch.mxePartWrite e true v)
  | none => match idxOf (R.RVU_PAGE_OWNER 0 0) 8 32 off with
  | some i => some (ch.pageOwnerWrite 0 i v)
  | none => match idxOf (R.RVU_PAGE_OWNER 1 0) 8 32 off with
  | some i => some (ch.pageOwnerWrite 1 i v)
  | none => if off = R.ACU_ABORT then some (ch.acuAbort inst v) else none

/-- VPE registers. -/
def Chan.writeVpe (ch : Chan) (inst off : Nat) (v : Word) : Option Chan :=
  if off = R.VPE_CTRL then some (ch.vpeCtrlWrite v)
  else if off = R.VPE_GATE_CTRL then some (ch.gateCtrlWrite v)
  else if off = R.VPE_IND_SEL ∧ getF v F.VPE_IND_SEL_start = 1 then
    some (ch.vpeAccess inst v (getF v F.VPE_IND_SEL_write == 1))
  else match idxOf (R.VPE_TPOL 0) 8 16 off with
  | some i => some (ch.tpolWrite i v)
  | none => match idxOf (R.VPE_GROUP 0) 8 16 off with
  | some g => some (ch.groupWrite g v)
  | none => match idxOf (R.VPE_SLOT 0) 8 64 off with
  | some n => some (ch.vpeSlotWrite n v)
  | none => match idxOf (R.VPE_MTR_REGION 0) 8 16 off with
  | some n => some (ch.meterRegionWrite n v)
  | none => (idxOf (R.VPE_SHP 0 0) 8 32 off).map fun k => ch.shpWrite (k / 2) (k % 2) v

/-- TRN, CHK and MEM registers. -/
def Chan.writeTrnChkMem (ch : Chan) (off : Nat) (v : Word) : Option Chan :=
  if off = R.CHK_VMODE then some (ch.vmodeWrite v)
  else if off = R.CHK_UNFENCE then some (ch.unfenceWrite v)
  else if off = R.CHK_UNFENCE_BANKS then some (ch.unfenceBanksWrite v)
  else if off = R.MEM_T2_CTRL then some (ch.t2CtrlWrite v)
  else if off = R.MEM_KEY_CMD then some (ch.tenantErase v)
  else match idxOf (R.TRN_CFG 0) 128 4 off with
  | some g => some (ch.trnCfgWrite g v (ch.trnHeld g))
  | none => match idxOf (R.MEM_REGION_A 0) 16 64 off with
  | some i => some (ch.memRegionWrite i 0 v)
  | none => (idxOf (R.MEM_REGION_B 0) 16 64 off).map fun i => ch.memRegionWrite i 1 v

/-- A write of ZLK_PORT_CTRL_p (R348). -/
def Chan.zPortWrite (ch : Chan) (p : Nat) (v : Word) : Chan :=
  if getF v F.ZLK_PORT_CTRL_port_enable = 1 then ch.zEnable p else ch.zDisable p

/-- ZLK, PWR, LDS and OBS registers. -/
def Chan.writeControl (ch : Chan) (inst : Nat) (fw : Bool) (off : Nat) (v : Word) : Option Chan :=
  if off = R.ZLK_CTRL then some (ch.zlkCtrlWrite v)
  else if off = R.PWR_CTRL then some (ch.pwrCtrlWrite v)
  else if off = R.PWR_OPP_REQ then some (ch.oppRequest v)
  else if off = R.LDS_ATT_REQ then some (ch.attestRequest inst v)
  else if off = R.OBS_FREEZE then some (ch.obsFreezeWrite v)
  else if off = R.OBS_MARKER then some (ch.obsMarker v)
  else if off = R.OBS_DEBUG then some (ch.debugWrite v)
  else if off = R.OBS_DUMP_CMD then some (ch.dumpCmdWrite v)
  else match idxOf (R.ZLK_PORT_CTRL 0) 8 3 off with
  | some p => some (ch.zPortWrite p v)
  | none => match idxOf (R.ZLK_SHARE 0) 8 16 off with
  | some n => some (ch.zlkShareWrite n v)
  | none => match idxOf (R.LDS_NOTE_IDX 0) 16 16 off with
  | some i => some (ch.noteConsWrite (if fw then .firmware else .host inst) i v)
  | none => (idxOf (R.LDS_INS_IDX 0) 16 18 off).map fun k => ch.insProdWrite k v

/-- The effect of a write on the register itself: one with behaviour of its own, or the plain write. -/
def Chan.regWrite (ch : Chan) (inst : Nat) (fw : Bool) (off : Nat) (v : Word) : Chan :=
  let special :=
    if off < 0x100000 then ch.writeChn inst off v
    else if off < 0x300000 then ch.writePort inst off v
    else if off < 0x400000 then ch.writeFlw inst off v
    else if off < 0x600000 then ch.writeFeature inst fw off v
    else if off < 0x900000 then ch.writeEngines inst off v
    else if off < 0xa00000 then ch.writeVpe inst off v
    else if off < 0xd00000 then ch.writeTrnChkMem off v
    else ch.writeControl inst fw off v
  match special with
  | some ch => ch
  | none => ch.plainWrite inst fw off v

/-! ## The windows (R159, R339) -/

/-- Entry and word of an offset in the Leaf CAM window. -/
def camPlace (off : Nat) : Nat × Nat := ((off - 0x2000000) / 256, (off - 0x2000000) % 256 / 8)

/-- A write through the Leaf CAM window, as the physical function or the firmware makes it (R159). -/
def Chan.camWrite (ch : Chan) (off : Nat) (v : Word) : Chan :=
  let (e, w) := camPlace off
  if w = 20 then ch.camWindowCommit e v else ch.camWindowWrite e w v

/-- VF `inst` may touch `n` bytes of the scratchpad from `a` on: a slot window or a scratchpad entry of its tenant (R339). -/
def Chan.spadReach (ch : Chan) (inst a n : Nat) : Bool :=
  ch.inRegion 0 (inst - 1) a n ||
  (List.range 128).any fun c => ch.slotTid (ctxSlot c) == ch.tid (inst - 1) && ch.slotEnabled (ctxSlot c) &&
    decide (ch.winBase c ≤ a ∧ a + n ≤ ch.winBase c + ch.winSize c)

/-- Scratchpad address behind an offset in an instance's window. -/
def Chan.spadPlace (ch : Chan) (inst off : Nat) : Nat :=
  16777216 * ch.fld (bank inst R.MEM_SPAD_APERTURE) F.MEM_SPAD_APERTURE_page + (off - 0x3000000)

/-- A write through the scratchpad window (R339). -/
def Chan.spadWrite (ch : Chan) (inst off : Nat) (v : Word) : Chan :=
  let a := ch.spadPlace inst off
  if inst ≠ 0 ∧ ch.spadReach inst a 8 = false then ch.refuseAccess
  else ch.store 0 chanKey a (leBytes 8 v.toNat)

/-! ## A host or firmware write -/

/-- A write that reaches the channel awake: BAR0 registers, then the two windows. -/
def Chan.awakeWrite (ch : Chan) (inst : Nat) (off : Nat) (v : Word) (priv : Bool) : Chan :=
  if off % 8 ≠ 0 ∨ 0x4000000 ≤ off then ch
  else if 0x3000000 ≤ off then ch.spadWrite inst off v
  else if 0x2000000 ≤ off then (if inst = 0 then ch.camWrite off v else ch.raise EV_CHN_VF_DENIED (some (inst - 1)))
  else if inst = 0 then
    if obsPriv off && !priv then ch
    else if (idxOf (R.CHN_HRING_BASE 0) 8 4 off).isSome then ch
    else ch.regWrite 0 false off v
  else match ch.vfReach inst off with
    | .own => ch.regWrite inst false off v
    | .denied => ch.raise EV_CHN_VF_DENIED (some (inst - 1))
    | _ => ch

/-- What every host write through function instance `inst` meets before it takes effect as `f`: a function that answers as no tenant
ignores it (R363), a channel in Quarantine boot serves a few registers (R392), one in Doze or Vault holds it (R378). -/
def Chan.viaHost (ch : Chan) (inst off : Nat) (v : Word) (f : Chan → Chan) : Chan :=
  if !ch.isOn || !ch.fnLive inst then ch
  else if ch.boot.quarantined && !(inst == 0 && off % 8 == 0 && ch.quarantineWrite off v) then ch
  else if 2 ≤ ch.pwrState then ch.accessWake inst off (some v)
  else f ch

/-- A host write of 8 bytes to BAR0 of function instance `inst`; `priv`: the channel's bit of HIF_PF_PRIV. -/
def Chan.hostWrite (ch : Chan) (inst off : Nat) (v : Word) (priv : Bool) : Chan :=
  ch.viaHost inst off v fun ch => ch.awakeWrite inst off v priv

/-- A write by the Lodestar's firmware (R11): the whole channel map, past the rules for host functions. -/
def Chan.fwWrite (ch : Chan) (off : Nat) (v : Word) : Chan :=
  if !ch.isOn || ch.pwr.lodestar != .running || decide (off % 8 ≠ 0) then ch
  else if 0x4000000 ≤ off then ch
  else if 0x3000000 ≤ off then ch.spadWrite 0 off v
  else if 0x2000000 ≤ off then ch.camWrite off v
  else ch.regWrite 0 true off v

/-! ## Reading -/

/-- The ranges of the _CNT_ registers: base, strides and counts (R369, R447). -/
def cntRows : List (Nat × Nat × Nat × Nat × Nat) :=
  [ (0x800, 8, 6, 0, 1), (0x100100, 8, 13, 0, 1), (0x108018, 0, 1, 0, 1), (0x200800, 8, 3, 0, 1), (0x300400, 8, 12, 0, 1),
    (0x400800, 8, 5, 0, 1), (0x500800, 8, 10, 0, 1), (0x600800, 262144, 4, 8, 6), (0x700800, 8, 4, 0, 1), (0x800800, 8, 13, 0, 1),
    (0x900800, 8, 12, 0, 1), (0xa00800, 64, 4, 8, 8), (0xa00900, 0, 1, 0, 1), (0xb00400, 8, 4, 0, 1), (0xb00420, 8, 15, 0, 1),
    (0xc00800, 8, 12, 0, 1), (0xd00800, 8, 12, 0, 1), (0xf00900, 8, 6, 0, 1) ]

/-- `off` is a counter. -/
def isCounter (off : Nat) : Bool := cntRows.any fun r => inRow r.1 r.2.1 r.2.2.1 r.2.2.2.1 r.2.2.2.2 off

/-- A counter that belongs to no tenant (R368): every one but those of training contexts. -/
def isGlobalCounter (off : Nat) : Bool := isCounter off && !inRow 0xa00800 64 4 8 8 off

/-- Counters that a freeze holds: every _CNT_ register, the unit cycles of R425 and the tenant counters (R430). -/
def frozenRow (off : Nat) : Bool :=
  isCounter off || inRow 0xf00100 32 64 8 3 off || inRow 0xf01000 64 16 8 6 off

/-- The word of the register with key `k` as a reader sees it: counters as they stood at the edge while frozen (R430). -/
def Chan.seen (ch : Chan) (k : Nat) : Word :=
  match ch.obs.frozen with
  | some (regs, _) => if frozenRow k then sget (regReset ch.idx) regs k else ch.rd k
  | none => ch.rd k

/-- Word `i` of the Meteor record that an instance's OBS_METEOR_SEL names (R433); a VF sees records of its tenant only. -/
def Chan.meteorWord (ch : Chan) (inst i : Nat) : Word :=
  let k := bank inst R.OBS_METEOR_SEL
  let b := ch.fld k F.OBS_METEOR_SEL_block
  if 17 < b then 0
  else match (sget (fun _ => []) ch.ev.meteor b)[ch.fld k F.OBS_METEOR_SEL_index]? with
    | none => 0
    | some r =>
      if inst = 0 ∨ r.tenant = some (ch.tid (inst - 1)) then BitVec.ofNat 64 (le (r.bytes false) (8 * i) 8) else 0

/-- OBS_STALL_DATA: stalled cycles of the selected unit and reason (R426). -/
def Chan.stallData (ch : Chan) : Word :=
  let k := 16 * ch.fld R.OBS_STALL_SEL F.OBS_STALL_SEL_unit + ch.fld R.OBS_STALL_SEL F.OBS_STALL_SEL_reason
  if 16 ≤ ch.fld R.OBS_STALL_SEL F.OBS_STALL_SEL_reason then 0
  else match ch.obs.frozen with
    | some (_, st) => BitVec.ofNat 64 (sget (fun _ => 0) st k)
    | none => BitVec.ofNat 64 (sget (fun _ => 0) ch.obs.stalls k)

/-- What the register at `off` reads as for an instance that reaches it. -/
def Chan.readPlain (ch : Chan) (inst off : Nat) : Word :=
  if (findRow channelRows off).isNone then 0
  else match idxOf (R.OBS_METEOR_DATA 0) 8 4 off with
  | some i => ch.meteorWord inst i
  | none => if off = R.OBS_STALL_DATA then ch.stallData else ch.seen (regKey inst off)

/-- A register of the own column without an index reads for a VF only while its content concerns the VF's tenant (R446). -/
def Chan.concerns (ch : Chan) (inst off : Nat) : Bool :=
  let t := ch.tid (inst - 1)
  if off < 0x200 then ch.slotTid (ch.fld R.CHN_STAGE_REQ F.CHN_STAGE_REQ_slot) == t
  else if off = R.FLW_LOCK_REQ ∨ off = R.FLW_LOCK_REL then ch.fld off F.FLW_LOCK_REQ_tenant == t
  else ch.fld R.ACU_ABORT F.ACU_ABORT_tenant == t

/-- What a VF reads at `off` (R366, R446): zero where it reaches nothing. -/
def Chan.readVf (ch : Chan) (inst off : Nat) : Word :=
  match findRow channelRows off with
  | none => 0
  | some (r, _, _) =>
    let mine : Bool := ch.regTenant off == some (ch.tid (inst - 1))
    match r.vf with
    | .none => 0
    | .read => ch.readPlain 0 off
    | .bank => if R.CHN_HQ_BASE 1 ≤ off ∧ off < R.CHN_EVQ_BASE then 0 else ch.readPlain inst off
    | .ownRead =>
      if off = R.CHK_VMODE then
        BitVec.ofNat 64 (((ch.rd off).toNat / 2 ^ (inst - 1) % 2) * 2 ^ (inst - 1) +
          ((ch.rd off).toNat / 2 ^ (inst + 15) % 2) * 2 ^ (inst + 15))
      else if mine then ch.readPlain inst off else 0
    | .own =>
      if off = R.FLW_LOCK_STATUS then
        setF (setF 0 F.FLW_LOCK_STATUS_last_result (ch.fld (bank inst off) F.FLW_LOCK_STATUS_last_result)) F.FLW_LOCK_STATUS_held
          (ch.flow.locks.filter fun l => l.holder == inst).length
      else if ownPlain.contains off then (if ch.concerns inst off then ch.readPlain inst off else 0)
      else match idxOf (R.FTR_PROG 0) 8 64 off with
        | some n =>
          if ch.fld (R.FTR_PROG n) F.FTR_PROG_count = 0 ∨ ch.fld (R.FTR_PROG n) F.FTR_PROG_owner = ch.tid (inst - 1) then ch.rd off else 0
        | none => if mine then ch.readPlain inst off else 0

/-- A read of 8 bytes at a BAR0 offset below the windows through function instance `inst` (R366 to R368, R392, R429). -/
def Chan.readReg (ch : Chan) (inst off : Nat) (priv : Bool) : Word :=
  if !ch.isOn || !ch.fnLive inst || decide (off % 8 ≠ 0) then 0
  else if ch.boot.quarantined = true ∧ (inst ≠ 0 ∨ ch.quarantineReach off = false) then regReset ch.idx off
  else if inst ≠ 0 then ch.readVf inst off
  else if priv = false ∧ (isGlobalCounter off || obsPriv off) = true then 0
  else if (idxOf (R.CHN_HRING_BASE 0) 8 4 off).isSome then 0
  else ch.readPlain 0 off

/-- A read through a VF of a register that no chapter grants it, reported on the physical function (R366, R446). -/
def Chan.readDenied (ch : Chan) (inst off : Nat) : Bool :=
  match findRow channelRows off with
  | none => false
  | some (r, _, _) =>
    let mine : Bool := ch.regTenant off == some (ch.tid (inst - 1))
    match r.vf with
    | .none => true
    | .read | .bank => false
    | .ownRead => off != R.CHK_VMODE && !mine
    | .own => !(ownPlain.contains off || (idxOf (R.FTR_PROG 0) 8 64 off).isSome || mine)

/-- A read of 8 bytes at a BAR0 offset through function instance `inst`: a register, the stored Leaf CAM entry behind its window, which only
the physical function maps (R159), or the scratchpad behind its window, where a virtual function's access outside its tenant's granules
reads zero and is reported (R339). What a VF does not reach reads zero and is reported too (R366). -/
def Chan.barRead (ch : Chan) (inst off : Nat) (priv : Bool) : Word × Chan :=
  let heard := ch.isOn && ch.fnLive inst && !ch.boot.quarantined && decide (off % 8 = 0)
  if off < 0x2000000 then
    (ch.readReg inst off priv, if heard && inst != 0 && ch.readDenied inst off then ch.raise EV_CHN_VF_DENIED (some (inst - 1)) else ch)
  else if !ch.isOn || !ch.fnLive inst || ch.boot.quarantined || decide (off % 8 ≠ 0 ∨ 0x4000000 ≤ off) then (0, ch)
  else if off < 0x3000000 then
    (if inst = 0 then ((ch.cam (camPlace off).1).getWord (camPlace off).2, ch) else (0, ch.raise EV_CHN_VF_DENIED (some (inst - 1))))
  else
    let a := ch.spadPlace inst off
    if inst ≠ 0 ∧ ch.spadReach inst a 8 = false then (0, ch.refuseAccess) else (BitVec.ofNat 64 (leNat (ch.spad a 8)), ch)

/-- Half of a register that a 4-byte read at `off` returns (R15). -/
def halfAt (off : Nat) (w : Word) : Word := BitVec.ofNat 64 (if off % 8 < 4 then w.toNat % 2 ^ 32 else w.toNat / 2 ^ 32)

/-- A host read of 8 bytes, or of 4 with `half`, at a BAR0 offset (R15, R25, R378): no answer yet from a channel in Doze
or Vault, which holds it behind the writes that came before; all ones from one that is Off or in reset. -/
def Chan.hostRead (ch : Chan) (inst off : Nat) (half priv : Bool) : Option Word :=
  if !ch.isOn then some (BitVec.allOnes 64)
  else if ch.fnLive inst && !ch.boot.quarantined && decide (2 ≤ ch.pwrState) then none
  else if half then some (if off % 4 = 0 then halfAt off (ch.barRead inst (off - off % 8) priv).1 else 0)
  else some (ch.barRead inst off priv).1

/-- A held access takes its effect: a write, or a read that is answered now (R25, R378). -/
def Chan.heldAccess (ch : Chan) (priv : Bool) (x : Nat × Nat × Option Word) : Chan :=
  match x.2.2 with
  | some v => ch.hostWrite x.1 x.2.1 v priv
  | none =>
    if ch.fnLive x.1 then
      let (v, ch) := ch.barRead x.1 x.2.1 priv
      ch.setEv (ch.ev.send (.answer x.1 x.2.1 v))
    else ch

/-- WAKE_COMPLETE (R406): the wake ends, and the accesses held for it take effect in their order (R25, R378). -/
def Chan.wakeComplete (ch : Chan) (priv : Bool) : Chan :=
  let was := ch.pwr.waking.isSome
  let ch := ch.wakeDone
  if was && ch.pwr.waking.isNone then
    let held := ch.host.held
    let ch : Chan := { ch with host := { ch.host with held := [] } }
    held.foldl (fun (ch : Chan) x => ch.heldAccess priv x) ch
  else ch

end Sys2Proof.Machine
end

