-- ==== Sys2Proof/Machine/Boot.lean ====
section
/-!
DEFINITION. Machine/Boot.lean: images in flash and their checks (R382 to R390), the boot of a channel through CONFIG and its models
(R384, R391, R392, R399), and the boot and fuse commands of PF0 (R389, R398 to R400).
-/

namespace Sys2Proof.Machine

open Sys2Proof

/-! ## Images (R382, R383, R390) -/

/-- Erased flash reads as ones (DESIGN CHOICE, log 24). -/
def erased (_ : Nat) : Byte := 0xFF

def Flash.bank (f : Flash) (b : Nat) : List Host.Cell := if b = 0 then f.bankA else f.bankB

/-- Bytes of a bank. -/
def Flash.bytes (f : Flash) (b a n : Nat) : List Byte := (List.range n).map fun i => sget erased (f.bank b) (a + i)

/-- Write bytes into a bank from `a` on. -/
def flashPut (m : List Host.Cell) (a : Nat) : List Byte → List Host.Cell
  | [] => m
  | b :: bs => flashPut (sset erased m a b) (a + 1) bs

/-- A bank after an image has been programmed into it, or with what a flash error left. -/
def Flash.program (f : Flash) (b : Nat) (bs : List Byte) : Flash :=
  if b = 0 then { f with bankA := flashPut [] 0 bs } else { f with bankB := flashPut [] 0 bs }

/-- Section entries of a header: kind, offset, length, hash (Table 15.3). -/
structure ImgSection where
  kind : Nat
  off  : Nat
  len  : Nat
  hash : List Byte
  deriving DecidableEq, Repr

def sectionsOf (h : List Byte) : List ImgSection :=
  (List.range (min 15 (le h 6 2))).map fun i =>
    let e := slice h (64 + 64 * i) 64
    { kind := le e 0 1, off := le e 4 4, len := le e 8 4, hash := slice e 16 48 }

/-- Sequence a header counts with: 0 without valid magic (R390). -/
def imgSeq (h : List Byte) : Nat := if slice h 0 4 == [0x46, 0x4C, 0x4E, 0x47] then le h 8 8 else 0

/-- The rules of R383 on a header. -/
def headerOk (h : List Byte) : Bool :=
  let ss := sectionsOf h
  let n := le h 6 2
  let size := le h 24 4
  let kinds (k : Nat) : Nat := (ss.filter fun s => s.kind == k).length
  le h 4 2 == 1 && decide (1 ≤ n ∧ n ≤ 15) && le h 8 8 != 0 && decide (le h 16 4 ≤ 63) &&
  decide (size ≤ 29360128 ∧ 1024 ≤ le h 28 4 ∧ le h 28 4 + 264 ≤ size) &&
  (slice h 41 23).all (· == 0) && (slice h (64 + 64 * n) (960 - 64 * n)).all (· == 0) &&
  ((List.range n).all fun i => (slice h (65 + 64 * i) 3 ++ slice h (76 + 64 * i) 4).all (· == 0)) &&
  (ss.all fun s => decide (1 ≤ s.kind ∧ s.kind ≤ 4 ∧ s.off % 4096 = 0 ∧ 1024 ≤ s.off ∧ s.off + s.len ≤ le h 28 4)) &&
  kinds 1 == 1 && kinds 2 == 1 && decide (kinds 3 ≤ 1 ∧ kinds 4 ≤ 12) &&
  (ss.all fun s => decide ((s.kind = 1 → s.len ≤ 1048576) ∧ (s.kind = 2 → s.len ≤ 4194304))) &&
  ((List.range n).all fun i => (List.range i).all fun j =>
    match ss[i]?, ss[j]? with
    | some a, some b => !rangesMeet a.off a.len b.off b.len
    | _, _ => true)

/-- One image slot, programmed and not revoked, holds the hashes of both keys of a block (R388). -/
def Fuses.imageKeyOk (f : Fuses) (b : List Byte) : Bool :=
  let want := sha384 (sigEcKey b) ++ sha384 (sigHssKey b)
  (List.range 4).any fun s => f.programmed.testBit s && !f.revoked.testBit s && sget (fun _ => []) f.slots s == want

/-- The checks of Table 15.6 on an image given by its bytes: the first reason that holds, 0 for none. -/
def Chan.imageReason (ch : Chan) (rd : Nat → Nat → List Byte) : Nat :=
  let h := rd 0 1024
  let b := rd (le h 28 4) (min (le h 24 4 - le h 28 4) 16648)
  let m := sha384 h
  if slice h 0 4 != [0x46, 0x4C, 0x4E, 0x47] then 1
  else if !headerOk h then 2
  else if !(le h 40 1).testBit ch.idx || (le h 32 8 != 0 && le h 32 8 != ch.fuses.deviceId) then 3
  else if le h 16 4 < ch.fuses.security then 4
  else if !ch.fuses.imageKeyOk b then 5
  else if !(sigForm b && sigEcOk b m) then 6
  else if !sigHssOk b m then 7
  else if (sectionsOf h).all fun s => sha384 (rd s.off s.len) == s.hash then 0
  else 8

/-- Why the ROM skips a bank, 0 if it boots (R390). -/
def Chan.bankReason (ch : Chan) (b : Nat) (flashOk fuseOk : Bool) : Nat :=
  if !fuseOk then 11
  else if !flashOk then 9
  else if ch.flash.failed.contains (b, imgSeq (ch.flash.bytes b 0 1024)) then 10
  else ch.imageReason (ch.flash.bytes b)

/-! ## The boot (R390 to R393) -/

/-- Sections of the booted image of one kind. -/
def Chan.bootSections (ch : Chan) (kind : Nat) : List ImgSection := (sectionsOf ch.boot.header).filter fun s => s.kind == kind

/-- Bytes of a section of the booted image. -/
def Chan.sectionBytes (ch : Chan) (s : ImgSection) : List Byte := ch.flash.bytes ch.boot.bank s.off s.len

/-- T1 address to which the boot copies MODEL section `k`. -/
def Chan.modelAt (ch : Chan) (k : Nat) : Nat := Config.modelPlace ch.idx k % 16777216 * 4096

/-- Phase 5: the alias record is reused or signed, and the next index of the alias HSS key found (R393, R394, R396). -/
def Chan.bootIdentity (ch : Chan) : Chan :=
  let boot := ch.boot
  let ch' : Chan := match ch.aliasKept with
    | some _ =>
      match (ch.flash.states.filter fun r => r.key == ch.stateKey).map (·.q) with
      | [] => { ch with boot := { boot with nextQ := 0, stateLost := true } }
      | q :: qs => { ch with boot := { boot with nextQ := qs.foldl max q, stateLost := false } }
    | none =>
      let made := aliasRecord ch.idx ch.fuses.deviceId ch.ident
      let flash := { ch.flash with aliases := (made ++ deviceBlock ch.idx ch.flash.devSigs made) :: ch.flash.aliases
                                   devSigs := ch.flash.devSigs + 1 }
      { ch with boot := { boot with nextQ := 0, stateLost := false }, flash := flash }
  ch'.attShow

/-- Out of reset at P0: the ROM runs and picks a bank (R390), loads it (R391), or enters Quarantine boot (R392). -/
def Chan.bootStart (ch : Chan) (flashOk fuseOk : Bool) : Chan :=
  let pwr := { ch.pwr with power := .on, since := ch.now, lodestarAt := ch.now, frameAt := ch.now, watchdogAt := ch.now
                           dispatchAt := ch.now, sampleAt := ch.now }
  let ch : Chan := { ch with pwr := pwr, chk := { ch.chk with digestAt := ch.now, scrubAt := ch.now } }
  let ch := (ch.setFlag R.MEM_STATUS F.MEM_STATUS_t1_ready true).putVdd (Config.vdd ch.idx 0)
  let first := if imgSeq (ch.flash.bytes 0 0 1024) < imgSeq (ch.flash.bytes 1 0 1024) then 1 else 0
  let r1 := ch.bankReason first flashOk fuseOk
  let r2 := if r1 = 0 then 0 else ch.bankReason (1 - first) flashOk fuseOk
  let boot : Boot := { at_ := ch.now, reasonA := if first = 0 then r1 else r2, reasonB := if first = 0 then r2 else r1 }
  if r1 = 0 ∨ r2 = 0 then
    let b := if r1 = 0 then first else 1 - first
    let boot := { boot with state := .booting, bank := b, header := ch.flash.bytes b 0 1024, onTrial := ch.flash.trial == some b }
    let ch : Chan := { ch with boot := boot }
    let models := ch.bootSections 4
    let fw := (ch.bootSections 1).flatMap ch.sectionBytes
    let ch : Chan := { ch with boot := { ch.boot with models := List.range models.length }
                               pwr := { ch.pwr with fw := fw, fwHash := sha384 fw } }
    let ch := (List.range models.length).foldl (fun (ch : Chan) k =>
      match models[k]? with
      | some s => ch.setBytes 1 chanKey (ch.modelAt k) (ch.sectionBytes s)
      | none => ch) ch
    ch.bootIdentity
  else ({ ch with boot := { boot with state := .quarantine } }.raise EV_BOOT_QUARANTINE).bootIdentity

/-! ## CONFIG (R384) -/

/-- The events by which the channel refuses a register write. -/
def refusalEvents : List Nat :=
  [EV_CHN_SLOT_REJECT, EV_CHN_CFG_REJECT, EV_CHN_TENANT_REJECT, EV_PRS_CFG_REJECT, EV_FLW_REGION_REJECT, EV_FTR_PROG_BUSY,
    EV_FST_CFG_REJECT, EV_FST_WINDOW_REJECT, EV_MXE_PART_REJECT, EV_RVU_PAGE_REJECT, EV_VPE_CFG_REJECT, EV_VPE_GATE_REJECT,
    EV_TRN_CFG_REJECT, EV_MEM_REGION_REJECT, EV_ZLK_CFG_REJECT, EV_OBS_CFG_REJECT, EV_PWR_REFUSED, EV_CHN_STAGE_FAIL,
    EV_LDS_ATTEST_REFUSED].map (·.id)

/-- A refusal was raised between two states of a channel: a Meteor ring has a new record of such an event. -/
def refusedSince (a b : Chan) : Bool :=
  (List.range 18).any fun k =>
    let ra := sget (fun _ => []) a.ev.meteor k
    let rb := sget (fun _ => []) b.ev.meteor k
    ra != rb && (match rb with | r :: _ => refusalEvents.contains r.id | [] => false)

/-- Count a CONFIG record that was not carried out. -/
def Chan.configReject (ch : Chan) : Chan :=
  { ch with boot := { ch.boot with rejects := min 255 (ch.boot.rejects + 1) } }.raise EV_BOOT_CONFIG_REJECT

/-- Go on behind the current CONFIG record. -/
def Chan.configNext (ch : Chan) : Chan := { ch with boot := { ch.boot with configAt := ch.boot.configAt + 1, waiting := none } }

def Chan.configEnd (ch : Chan) : Chan := { ch with boot := { ch.boot with configDone := true, waiting := none } }

/-- Apply records from the current one on, until a WAIT that does not hold yet or the end of the section. -/
def Chan.configRun (priv : Bool) (sec : List Byte) : Nat → Chan → Chan
  | 0, ch => ch.configEnd
  | n + 1, ch =>
    let r := slice sec (24 * ch.boot.configAt) 24
    let off := le r 4 4
    let v := BitVec.ofNat 64 (le r 8 8)
    match le r 0 1 with
    | 0 => ch.configEnd
    | 1 =>
      if 0x2000000 ≤ off then ch.configReject.configNext.configRun priv sec n
      else
        let ch' := ch.hostWrite 0 off v priv
        (if refusedSince ch ch' then ch'.configReject else ch').configNext.configRun priv sec n
    | 2 =>
      if 0x2000000 ≤ off then ch.configReject.configNext.configRun priv sec n
      else if ch.readReg 0 off priv &&& BitVec.ofNat 64 (le r 16 8) = v then ch.configNext.configRun priv sec n
      else match ch.boot.waiting with
        | none => { ch with boot := { ch.boot with waiting := some ch.now } }
        | some t => if ch.since t (10 * msG) then ch.configReject.configNext.configRun priv sec n else ch
    | _ => ch.configReject.configEnd

/-- BOOT_CONFIG_APPLY (R384, R391): once T2 is trained or failed, and T3's link is up or `t3Failed`. -/
def Chan.bootConfig (ch : Chan) (t3Failed priv : Bool) : Chan :=
  if ch.isOn && ch.boot.state == .booting && !ch.boot.configDone && ch.t2State != 4 && (t3Failed || ch.t3Up) then
    match ch.bootSections 3 with
    | s :: _ =>
      let bs := ch.sectionBytes s
      ch.configRun priv bs (bs.length / 24 - ch.boot.configAt)
    | [] => ch.configEnd
  else ch

/-! ## Models and READY (R391) -/

/-- The enabled slot with an empty standby side that takes a package: of its tenant and its kind. -/
def Chan.slotFor (ch : Chan) (tid kind : Nat) : Option Nat :=
  (List.range 64).find? fun n => ch.slotEnabled n && ch.slotTid n == tid && ch.slotKind n == kind && ch.standbyState n == 0

/-- Stage the next MODEL section; one that no slot accepts raises the staging event. -/
def Chan.bootModel (ch : Chan) (k : Nat) : Chan :=
  let a := ch.modelAt k
  let h := ch.bytes 1 chanKey a 256
  match ch.slotFor (le h 7 1) (le h 6 1) with
  | some n =>
    ch.stageBegin n a (ch.fld R.CHN_STAGE_BACKUP F.CHN_STAGE_BACKUP_tier) (ch.fld R.CHN_STAGE_BACKUP F.CHN_STAGE_BACKUP_address / 4096 * 4096)
      (ch.fld R.CHN_STAGE_BANKS F.CHN_STAGE_BANKS_bank_mask)
  | none => ch.count R.CHN_CNT_STAGE_FAIL EV_CHN_STAGE_FAIL (if ch.ownsTid (le h 7 1) then some (le h 7 1 % 16) else none)

/-- BOOT_READY (R391, R399): the next MODEL section is staged; with none left and none in progress the Lodestar reports READY. -/
def Chan.bootReady (ch : Chan) : Chan :=
  if ch.isOn && ch.boot.state == .booting && ch.boot.configDone && ch.models.staging.isNone then
    match ch.boot.models with
    | k :: ks => ({ ch with boot := { ch.boot with models := ks } } : Chan).bootModel k
    | [] =>
      let flash := if ch.boot.onTrial then { ch.flash with trial := none } else ch.flash
      let ch : Chan := { ch with boot := { ch.boot with state := .ready, onTrial := false }, flash := flash
                                 pwr := { ch.pwr with ready := true } }
      let ch := ch.raise EV_BOOT_READY
      if ch.flag R.PDP_CTRL F.PDP_CTRL_port_enable then ch.portEnable else ch
  else ch

/-- BOOT_TRIAL_TIMEOUT (R399). -/
def Chan.trialTimeout (ch : Chan) : Chan :=
  if ch.isOn && ch.boot.state == .booting && ch.boot.onTrial && ch.since ch.boot.at_ (10000 * msG) then
    let mark := (ch.boot.bank, le ch.boot.header 8 8)
    let ch : Chan := { ch with flash := { ch.flash with failed := mark :: ch.flash.failed, trial := none } }
    (ch.raise EV_BOOT_TRIAL_FAILED).reset
  else ch

/-! ## The device's side -/

/-- PORN is high and the device powered: the hub die runs. -/
def State.hubRuns (s : State) : Bool := !s.pack.porn && !s.pack.unpowered

/-- Bit c of HIF_PF_PRIV. -/
def State.priv (s : State) (c : Fin 8) : Bool := (s.hub.fld R.HIF_PF_PRIV F.HIF_PF_PRIV_priv).testBit c

/-- Replace the hub die. -/
def State.onHub (s : State) (f : Hub → Hub) : State := { s with hub := f s.hub }

/-- Time of a regulator ramp of channel `c` to its P0 setpoint, 10 mV/µs (R407). -/
def rampGrains (c : Nat) : Nat := ceilDiv (Config.vdd c 0) 10 * usG

/-- BOOT_START (R390): the end of a ramp, or of the 10 µs of a reset. -/
def State.bootStart (s : State) (c : Fin 8) (flashOk fuseOk : Bool) : State :=
  let ch := s.chan c
  let ramped : Bool := ch.pwr.power == .ramping && ch.since ch.pwr.since (rampGrains c)
  let released : Bool := ch.pwr.power == .inReset && ch.since ch.pwr.since (10 * usG)
  if s.hubRuns && (ramped || released) then
    let s := s.onChan c fun ch => ch.bootStart flashOk fuseOk
    let s := s.onHub fun h => (h.setFld (R.SUP_CHN_CTRL c) F.SUP_CHN_CTRL_power_on 0).setFld (R.SUP_CHN_CTRL c) F.SUP_CHN_CTRL_reset 0
    if s.pack.ramping = some c.val then { s with pack := { s.pack with ramping := none } } else s
  else s

/-! ## Boot commands (R398, R399, Table 15.11) -/

/-- End a boot command with its result. -/
def Hub.bootResult (h : Hub) (result reason : Nat) : Hub :=
  ((h.setFld R.BOOT_CMD F.BOOT_CMD_start 0).setFld R.BOOT_CMD F.BOOT_CMD_result result).setFld R.BOOT_CMD F.BOOT_CMD_reason reason

/-- Show the command asked for. -/
def Hub.bootAsk (h : Hub) (c : Nat) (cmd : Nat) : Hub :=
  (h.setFld R.BOOT_CMD F.BOOT_CMD_channel c).setFld R.BOOT_CMD F.BOOT_CMD_command cmd

/-- A PROGRAM that its channel's reset cut short: a flash error (DESIGN CHOICE, log 66). -/
def State.programCut (s : State) (c : Fin 8) : State :=
  if s.hub.program = some c.val then
    s.onHub fun h => (({ h with program := none } : Hub).bootResult 3 0).raise EV_BOOT_PROGRAM_FAIL
  else s

/-- What a flash error leaves in the bank being programmed. -/
def Chan.flashSpoilt (ch : Chan) : Chan :=
  match ch.boot.program with
  | some (img, b) =>
    let (d, ch) := ch.draw
    { ch with flash := ch.flash.program b (freeBytes ch.idx d img.length) }
  | none => ch

/-- A channel reset (R422), the end of a PROGRAM under way included. -/
def State.resetChan (s : State) (c : Fin 8) : State := (s.onChan c fun ch => ch.flashSpoilt.reset).programCut c

/-- The image of a PROGRAM command as T1 holds it. -/
def Chan.progImage (ch : Chan) (a : Nat) : List Byte := ch.bytes 1 chanKey a (min 29360128 (le (ch.bytes 1 chanKey a 1024) 24 4))

/-- PROGRAM (R398): checked from T1, then written to the bank that does not run. -/
def State.program (s : State) (c : Fin 8) : State :=
  let ch := s.chan c
  if !s.hubRuns || s.hub.program.isSome then s
  else
    let s := s.onHub fun h => h.bootAsk c 1
    if !(ch.isOn && (ch.boot.state == .ready || ch.boot.state == .quarantine)) then s.onHub fun h => h.bootResult 1 0
    else
      let a := s.hub.fld R.BOOT_SRC F.BOOT_SRC_address / 4096 * 4096
      let why := ch.imageReason fun o n => ch.bytes 1 chanKey (a + o) n
      if why ≠ 0 then s.onHub fun h => (h.bootResult 2 why).raise EV_BOOT_PROGRAM_FAIL
      else
        let b := if ch.boot.state = .quarantine then 0 else 1 - ch.boot.bank
        let s := s.onChan c fun ch =>
          { ch with boot := { ch.boot with program := some (ch.progImage a, b), prior := ch.boot.state, state := .programming } }
        s.onHub fun h => { h with program := some c.val }.setFld R.BOOT_CMD F.BOOT_CMD_start 1

/-- PROGRAM_COMPLETE (R398). -/
def State.programComplete (s : State) (c : Fin 8) (flashErr : Bool) : State :=
  match (s.chan c).boot.program with
  | some (img, b) =>
    if s.hub.program ≠ some c.val then s
    else
      let s := s.onChan c fun ch =>
        let ch : Chan := if flashErr then ch.flashSpoilt
          else { ch with flash := { ch.flash.program b img with trial := some b } }
        { ch with boot := { ch.boot with program := none, state := ch.boot.prior } }
      s.onHub fun h =>
        (({ h with program := none } : Hub).bootResult (if flashErr then 3 else 0) 0).raise
          (if flashErr then EV_BOOT_PROGRAM_FAIL else EV_BOOT_PROGRAMMED)
  | none => s

/-- ACTIVATE (R398): a channel reset, unless another channel boots. -/
def State.activate (s : State) (c : Fin 8) : State :=
  if !s.hubRuns || s.hub.program.isSome then s
  else
    let others : Bool := (List.finRange 8).any fun d => d != c && (s.chan d).boot.state == .booting
    let s := s.onHub fun h => h.bootAsk c 2
    if others then s.onHub fun h => h.bootResult 4 0
    else if (s.chan c).isOn then (s.resetChan c).onHub fun h => h.bootResult 0 0
    else s.onHub fun h => h.bootResult 1 0

/-- COMMIT_SV (R399): the thermometer rises to the running image's security version. -/
def State.commitSv (s : State) (c : Fin 8) : State :=
  if !s.hubRuns || s.hub.program.isSome then s
  else
    let s := s.onHub fun h => h.bootAsk c 3
    if (s.chan c).isOn && (s.chan c).boot.state == .ready then
      let s := s.onChan c fun ch => { ch with fuses := { ch.fuses with security := max ch.fuses.security (le ch.boot.header 16 4) } }
      s.onHub fun h => h.bootResult 0 0
    else s.onHub fun h => h.bootResult 1 0

/-! ## Fuse commands (R389, Table 15.12) -/

/-- Show a fuse command and its result; a refusal raises its event. -/
def Hub.fuseResult (h : Hub) (c op slot result : Nat) : Hub :=
  let h := ((h.setFld R.BOOT_FUSE_CMD F.BOOT_FUSE_CMD_channel c).setFld R.BOOT_FUSE_CMD F.BOOT_FUSE_CMD_op op).setFld R.BOOT_FUSE_CMD
    F.BOOT_FUSE_CMD_slot slot
  let h := h.setFld R.BOOT_FUSE_CMD F.BOOT_FUSE_CMD_result result
  if result = 1 then h.raise EV_BOOT_FUSE_REJECT else h

/-- The 96 bytes of BOOT_FUSE_DATA. -/
def Hub.fuseData (h : Hub) : List Byte := (List.range 12).flatMap fun i => leBytes 8 (h.rd (R.BOOT_FUSE_DATA i)).toNat

/-- PROGRAM_SLOT: `ok` false is a fuse error, which leaves free bytes in a slot that stays not programmed. -/
def State.programSlot (s : State) (c : Fin 8) (slot : Fin 8) (ok : Bool) : State :=
  let ch := s.chan c
  if !s.hubRuns then s
  else if ch.fuses.programmed.testBit slot then s.onHub fun h => h.fuseResult c 1 slot 1
  else if !ch.isOn then s.onHub fun h => h.fuseResult c 1 slot 2
  else
    let d := s.hub.fuseData
    let s := s.onChan c fun ch =>
      let (k, ch) := ch.draw
      let bs := if ok then d else freeBytes ch.idx k 96
      { ch with fuses := { ch.fuses with slots := sset (fun _ => []) ch.fuses.slots slot bs
                                         programmed := if ok then putBit ch.fuses.programmed slot true else ch.fuses.programmed } }
    s.onHub fun h => h.fuseResult c 1 slot (if ok then 0 else 2)

/-- Slots of the same use as `slot` that are programmed and not revoked. -/
def Fuses.live (f : Fuses) (slot : Nat) : List Nat :=
  (List.range 8).filter fun k => k / 4 == slot / 4 && f.programmed.testBit k && !f.revoked.testBit k

/-- REVOKE_SLOT. -/
def State.revokeSlot (s : State) (c : Fin 8) (slot : Fin 8) (ok : Bool) : State :=
  let ch := s.chan c
  if !s.hubRuns then s
  else if ch.fuses.live slot = [slot.val] then s.onHub fun h => h.fuseResult c 2 slot 1
  else if !ch.isOn || !ok then s.onHub fun h => h.fuseResult c 2 slot 2
  else
    let s := s.onChan c fun ch => { ch with fuses := { ch.fuses with revoked := putBit ch.fuses.revoked slot true } }
    s.onHub fun h => h.fuseResult c 2 slot 0

/-- PROGRAM_DEVICE_ID: word 0 of the data; a fuse error leaves a free value. -/
def State.programDeviceId (s : State) (c : Fin 8) (ok : Bool) : State :=
  let ch := s.chan c
  if !s.hubRuns then s
  else if ch.fuses.deviceId ≠ 0 then s.onHub fun h => h.fuseResult c 3 (h.fld R.BOOT_FUSE_CMD F.BOOT_FUSE_CMD_slot) 1
  else if !ch.isOn then s.onHub fun h => h.fuseResult c 3 (h.fld R.BOOT_FUSE_CMD F.BOOT_FUSE_CMD_slot) 2
  else
    let v := (s.hub.rd (R.BOOT_FUSE_DATA 0)).toNat
    let s := s.onChan c fun ch =>
      let (k, ch) := ch.draw
      { ch with fuses := { ch.fuses with deviceId := if ok then v else leNat (freeBytes ch.idx k 8) } }
    s.onHub fun h => h.fuseResult c 3 (h.fld R.BOOT_FUSE_CMD F.BOOT_FUSE_CMD_slot) (if ok then 0 else 2)

end Sys2Proof.Machine
end

