-- ==== Sys2Proof/Machine/Package.lean ====
section
/-!
DEFINITION. Machine/Package.lean: what reaches the hub die and the package: PF0's registers (R379, R400, R423, R442), host-port resets
and faults (R377, R378), power and resets of channels (R421, R422, R457, R458), freezes of several channels (R431), time inputs (R461,
R462) and the test port (R465).
-/

namespace Sys2Proof.Machine

open Sys2Proof

/-! ## Power and resets of channels (R422, Table 16.16) -/

/-- Show the result of SUP_CHN_CTRL_c. -/
def State.supResult (s : State) (c : Fin 8) (result : Nat) : State :=
  s.onHub fun h => h.setFld (R.SUP_CHN_CTRL c) F.SUP_CHN_CTRL_result result

/-- CHANNEL_POWER_ON: from Off; the ramp follows when no other channel ramps. -/
def State.powerOn (s : State) (c : Fin 8) : State :=
  if !s.hubRuns || s.hub.flag (R.SUP_CHN_CTRL c) F.SUP_CHN_CTRL_power_on then s
  else if (s.chan c).pwr.power = .off then
    let s := s.supResult c 0
    s.onHub fun h =>
      { h with ramps := if h.ramps.contains c.val then h.ramps else h.ramps ++ [c.val] }.setFld (R.SUP_CHN_CTRL c)
        F.SUP_CHN_CTRL_power_on 1
  else s.supResult c 1

/-- CHANNEL_POWER_OFF: everything of the channel is lost but its flash and fuses. -/
def State.powerOff (s : State) (c : Fin 8) : State :=
  if !s.hubRuns then s
  else if (s.chan c).pwr.power = .off then s.supResult c 1
  else
    let s := (s.onChan c fun ch => ch.flashSpoilt.off).programCut c
    let s := (s.supResult c 0).onHub fun h =>
      (h.setFld (R.SUP_CHN_CTRL c) F.SUP_CHN_CTRL_power_on 0).setFld (R.SUP_CHN_CTRL c) F.SUP_CHN_CTRL_reset 0
    if s.pack.ramping = some c.val then { s with pack := { s.pack with ramping := none } } else s

/-- CHANNEL_RESET by SUP_CHN_CTRL_c.reset. -/
def State.supReset (s : State) (c : Fin 8) : State :=
  if !s.hubRuns || s.hub.flag (R.SUP_CHN_CTRL c) F.SUP_CHN_CTRL_reset then s
  else if (s.chan c).isOn then
    ((s.resetChan c).supResult c 0).onHub fun h => h.setFld (R.SUP_CHN_CTRL c) F.SUP_CHN_CTRL_reset 1
  else s.supResult c 1

/-- A write of SUP_CHN_CTRL_c. -/
def State.supCtrlWrite (s : State) (c : Fin 8) (v : Word) : State :=
  let s := if getF v F.SUP_CHN_CTRL_power_on = 1 then s.powerOn c else s
  let s := if getF v F.SUP_CHN_CTRL_power_off = 1 then s.powerOff c else s
  if getF v F.SUP_CHN_CTRL_reset = 1 then s.supReset c else s

/-- CHANNEL_RAMP_START (R422, R457): c × 100 µs after PORN is released, and no other channel ramping; a channel whose reference is absent
stays in Off. A channel that was powered off since starts its Sidereal counter again. -/
def State.rampStart (s : State) (c : Fin 8) (ref25 : Bool) : State :=
  let ch := s.chan c
  if s.hubRuns && s.hub.ramps.contains c.val && ch.pwr.power == .off && s.pack.ramping.isNone &&
      decide (s.pack.released + c.val * 100 * usG ≤ s.hub.now) then
    let s := s.onHub fun h => { h with ramps := h.ramps.filter (· ≠ c.val) }
    if ref25 then
      let s := s.onChan c fun ch =>
        let sid : Sidereal := if s.pack.released < ch.pwr.since then { at_ := ch.now } else ch.sid
        ({ ch with sid := sid, pwr := { ch.pwr with power := .ramping, since := ch.now } } : Chan).putVdd (Config.vdd c 0)
      { s with pack := { s.pack with ramping := some c.val } }
    else s.onHub fun h => h.setFld (R.SUP_CHN_CTRL c) F.SUP_CHN_CTRL_power_on 0
  else s

/-- AUTO_RESTART (R421): by the channel's own Lodestar 10 µs after the latch, else by ring_prev's, else by ring_next's 30 µs later; not
while VIN suspends it. -/
def State.autoRestart (s : State) (c : Fin 8) : State :=
  let ch := s.chan c
  let runs (d : Fin 8) : Bool := (s.chan d).isOn && (s.chan d).pwr.lodestar == .running
  let g := if runs c || runs (c - 1) then 10 else 40
  if s.hubRuns && !s.pack.suspended && ch.autoDue (g * usG) && (runs c || runs (c - 1) || runs (c + 1)) then
    let s := (s.onChan c fun ch => ch.flashSpoilt.autoRestart).programCut c
    s
  else s

/-- WATCH_FRAME_MISS (R414): channel `c` misses a frame of a neighbour, whose Lodestar it resets after enough of them. -/
def State.watchMiss (s : State) (c : Fin 8) (next : Bool) : State :=
  let d : Fin 8 := if next then c + 1 else c - 1
  let (reached, ch) := (s.chan c).frameMissed next
  let s := (s.setChan c ch).flush c
  let there : Bool := (s.chan d).pwr.power == .on || (s.chan d).pwr.power == .ramping
  if reached && there then
    let (asserted, ch) := (s.chan c).neighbourReset next
    let s := (s.setChan c ch).flush c
    if asserted then s.onChan d fun ch => ch.lodestarReset else s
  else s

/-! ## The package supply (R457, R458) -/

/-- Every channel. -/
def State.onAll (s : State) (f : Chan → Chan) : State := (List.finRange 8).foldl (fun (s : State) c => s.onChan c f) s

/-- All power and state of the dies is gone: flash, fuses, time and the logs of what was sent are left. -/
def State.dark (s : State) : State :=
  let s := s.onAll fun ch => { ch.flashSpoilt.off with host := {} }
  { s with hub := { now := s.hub.now, ev := { out := s.hub.ev.out } }, pack := { s.pack with vinLow := none, suspended := false, ramping := none } }

/-- What the TAP drives onto the pins: 0 nothing, 1 to 5 as EXTEST, EXTEST_PULSE, EXTEST_TRAIN, CLAMP and HIGHZ do, only while PORN is
low (R465). -/
def Package.driven (p : Package) : Nat :=
  if p.porn = false then 0
  else match p.ir with
    | .extest => 1 | .extestPulse => 2 | .extestTrain => 3 | .clamp => 4 | .highz => 5
    | .bypass | .sample => 0

/-- The pins follow the TAP. -/
def Package.follow (p : Package) : Package := { p with drive := p.driven }

/-- Select a TAP instruction. -/
def Package.select (p : Package) (ir : TapIr) : Package := ({ p with ir := ir } : Package).follow

/-- PACKAGE_POWER_ON (R457): PORN is released. The rise of VIN that ends a loss of power resets the TAP. -/
def State.packageOn (s : State) : State :=
  if s.pack.porn || s.pack.unpowered then
    let s := s.dark
    let p := s.pack
    let p : Package := { p with porn := false, released := s.hub.now, ir := if p.unpowered then .bypass else p.ir, unpowered := false }
    let s := { s with pack := p.follow }
    s.onAll fun ch => { ch with sid := { at_ := ch.now }, pwr := { ch.pwr with since := ch.now } }
  else s

/-- PORN_LOW (R457): the whole device is held in reset. -/
def State.pornLow (s : State) : State :=
  if s.pack.porn then s
  else
    let s := s.dark
    { s with pack := ({ s.pack with porn := true } : Package).follow }

/-- VIN_LOW (R458). -/
def State.vinLow (s : State) : State :=
  if s.hubRuns then
    let s := s.onAll fun ch => if ch.isOn then ch.failStop 4 else ch
    let s := s.onHub fun h => h.raise EV_SUP_VIN_LOW
    { s with pack := { s.pack with vinLow := some s.hub.now, suspended := true } }
  else s

/-- VIN_RECOVERED (R458): VIN has been within its range for 10 ms. -/
def State.vinRecovered (s : State) : State :=
  if s.hubRuns && s.pack.suspended then { s with pack := { s.pack with vinLow := none, suspended := false } } else s

/-- VIN_POWER_LOSS (R458): below 1.50 V the device is unpowered. -/
def State.vinLoss (s : State) : State :=
  let s := s.dark
  { s with pack := ({ s.pack with unpowered := true, ir := .bypass, boundary := [], pins := [], bypass := false } : Package).follow }

/-! ## Freezing several channels (R431) -/

/-- A write of SUP_FREEZE: its fields, then what it starts. -/
def State.supFreezeWrite (s : State) (v : Word) : State :=
  if !s.hubRuns then s
  else
    let s := s.onHub fun h => h.wr R.SUP_FREEZE (mergeF (h.rd R.SUP_FREEZE) v [F.SUP_FREEZE_channels, F.SUP_FREEZE_follow_fail])
    let m := getF v F.SUP_FREEZE_channels
    let s := if getF v F.SUP_FREEZE_unfreeze = 1 then s.unfreezeMask m else s
    if getF v F.SUP_FREEZE_freeze = 1 then s.freezeMask m else s

/-- The word of SUP_FREEZE that names a mask. -/
def supFreezeWord (mask : Nat) (follow freeze : Bool) : Word :=
  let w := setF (setF 0 F.SUP_FREEZE_channels mask) F.SUP_FREEZE_follow_fail (if follow then 1 else 0)
  if freeze then setF w F.SUP_FREEZE_freeze 1 else setF w F.SUP_FREEZE_unfreeze 1

/-! ## The host port (R361, R369, R377, R378) -/

/-- Send a vector of PF0. -/
def Hub.vector (h : Hub) (vec : Nat) : Hub := if h.d3hot then h else { h with ev := h.ev.vector h.now 0 vec 0 }

/-- The host link is up. -/
def Hub.linkUp (h : Hub) : Bool := h.fld R.HIF_LINK_STATUS F.HIF_LINK_STATUS_speed != 0

/-- PF0's event ring and its phase are reset. -/
def Hub.ringReset (h : Hub) : Hub :=
  let h := (h.wr R.HIF_EVQ_BASE 0).wr R.HIF_EVQ_CONS 0
  { h with ev := { h.ev with phase := [], vecAt := [], vecDue := [] } }

/-- HIF registers are those below BOOT's. -/
def Hub.hifReset (h : Hub) : Hub :=
  let h := h.ringReset
  { h with regs := h.regs.filter (fun r => decide (R.BOOT_STATUS 0 ≤ r.1)), d3hot := false, cntRead := none }

/-- HOST_PORT_RESET (R377): PERST#, a hot reset or DL_Down. -/
def State.portReset (s : State) : State :=
  if !s.hubRuns then s
  else
    let s := s.onAll fun ch =>
      let ch := ch.portReset
      { ch with host := { ch.host with d3hot := [], held := [] } }
    s.onHub Hub.hifReset

/-- FLR_PF0 (R377). -/
def State.flrPf0 (s : State) : State :=
  if !s.hubRuns then s
  else s.onHub fun h => { (h.ringReset).wr R.HIF_CNT_SEL 0 with d3hot := false, cntRead := none }

/-- HOST_LINK_DOWN (R378): as a reset of the port; the record of the event stays in the hub die's Meteor ring. -/
def State.linkDown (s : State) : State :=
  if s.hubRuns && s.hub.linkUp then s.portReset.onHub fun h => h.raise EV_HIF_LINK_DOWN else s

/-- Widths at which the port trains (R360). -/
def linkWidths : List Nat := [1, 2, 4, 8, 16]

/-- HOST_LINK_UP (R378): the link is in L0 at a speed of 1 to 6; at 64 GT/s in FLIT mode only (R360). -/
def State.linkUp (s : State) (speed : Fin 6) (width : Fin 17) (flit : Bool) : State :=
  if s.hubRuns && !s.hub.linkUp && linkWidths.contains width.val then
    s.onHub fun h =>
      let k := R.HIF_LINK_STATUS
      let h := (h.setFld k F.HIF_LINK_STATUS_speed (speed + 1)).setFld k F.HIF_LINK_STATUS_width width
      ((h.setFld k F.HIF_LINK_STATUS_flit (if flit || speed.val == 5 then 1 else 0)).raise EV_HIF_LINK_UP).vector 1
  else s

/-- MALFORMED_TLP (R378): a DMA read completion it carried ends HOST_ERROR. -/
def State.malformedTlp (s : State) (carried : Option (Fin 8 × Fin 17 × Fin 4 × BitVec 16)) : State :=
  if !s.hubRuns then s
  else
    let s := match carried with
      | some (c, inst, q, i) => s.onLive c fun ch => ch.dmaComplete inst q i.toNat [] .hostError
      | none => s
    s.onHub fun h => h.raise EV_HIF_AER_UNCORR

/-- UNSUPPORTED_REQUEST (R378). -/
def State.unsupported (s : State) : State :=
  if !s.hubRuns then s else s.onHub fun h => { h with ev := h.ev.send .unsupported }

/-- CHANNEL_NO_ANSWER (R378). -/
def State.noAnswer (s : State) (c : Fin 8) : State :=
  if !s.hubRuns then s
  else s.onHub fun h =>
    let k := R.HIF_BRIDGE_STATUS
    let old := h.fld k F.HIF_BRIDGE_STATUS_no_answer
    let h := (h.setFld k F.HIF_BRIDGE_STATUS_no_answer (putBit old c true)).raise EV_HIF_CHANNEL_NO_ANSWER
    if old.testBit c then h else h.vector 2

/-- SUP_WATCHDOG_RESTART (R378). -/
def State.supRestart (s : State) : State := if !s.hubRuns then s else s.onHub fun h => h.raise EV_HIF_SUP_RESTART

/-- HIF_COUNTER_READ (R369): a write of HIF_CNT_SEL; an offset that is no multiple of 8 refuses it (R483). -/
def State.cntSelWrite (s : State) (v : Word) : State :=
  if !s.hubRuns || decide (getF v F.HIF_CNT_SEL_offset % 8 ≠ 0) then s
  else s.onHub fun h =>
    let k := R.HIF_CNT_SEL
    let busy := h.flag k F.HIF_CNT_SEL_start
    let h := h.wr k (mergeF (h.rd k) v [F.HIF_CNT_SEL_offset, F.HIF_CNT_SEL_channel])
    if getF v F.HIF_CNT_SEL_start = 1 ∧ busy = false then
      let h := (h.setFld k F.HIF_CNT_SEL_start 1).setFld k F.HIF_CNT_SEL_done 0
      { h with cntRead := some (getF v F.HIF_CNT_SEL_channel, getF v F.HIF_CNT_SEL_offset) }
    else h

/-- HIF_COUNTER_READ_DONE (R369): zero for an offset that is no counter; all ones from a channel that does not answer (R378); a channel
in Doze or Vault is woken first. -/
def State.cntReadDone (s : State) : State :=
  match s.hub.cntRead with
  | none => s
  | some (n, off) =>
    let c : Fin 8 := Fin.ofNat 8 n
    let ch := s.chan c
    if ch.isOn && decide (2 ≤ ch.pwrState) then s.onChan c fun ch => ch.wakeStart
    else
      let v : Word := if !isCounter off then 0 else if !ch.isOn then BitVec.allOnes 64 else ch.readReg 0 off true
      s.onHub fun h =>
        let k := R.HIF_CNT_SEL
        { ((h.wr R.HIF_CNT_DATA v).setFld k F.HIF_CNT_SEL_start 0).setFld k F.HIF_CNT_SEL_done 1 with cntRead := none }

/-- D3HOT of PF0 (R361). -/
def State.hubD3hot (s : State) (on : Bool) : State := if !s.hubRuns then s else s.onHub fun h => { h with d3hot := on }

/-! ## PF0's registers -/

/-- A write of BOOT_CMD (Table 15.11). -/
def State.bootCmdWrite (s : State) (v : Word) : State :=
  let c : Fin 8 := Fin.ofNat 8 (getF v F.BOOT_CMD_channel)
  let cmd := getF v F.BOOT_CMD_command
  if s.hub.flag R.BOOT_CMD F.BOOT_CMD_start then s
  else if getF v F.BOOT_CMD_start = 0 ∨ cmd = 0 then s.onHub fun h => h.bootAsk c cmd
  else if cmd = 1 then s.program c
  else if cmd = 2 then s.activate c
  else if cmd = 3 then s.commitSv c
  else s.onHub fun h => (h.bootAsk c cmd).bootResult 1 0

/-- A write of BOOT_FUSE_CMD (Table 15.12), its fuse operation without error. -/
def State.fuseCmdWrite (s : State) (v : Word) : State :=
  let c : Fin 8 := Fin.ofNat 8 (getF v F.BOOT_FUSE_CMD_channel)
  let slot : Fin 8 := Fin.ofNat 8 (getF v F.BOOT_FUSE_CMD_slot)
  let op := getF v F.BOOT_FUSE_CMD_op
  if getF v F.BOOT_FUSE_CMD_start = 0 ∨ op = 0 then
    s.onHub fun h => h.wr R.BOOT_FUSE_CMD (mergeF (h.rd R.BOOT_FUSE_CMD) v [F.BOOT_FUSE_CMD_channel, F.BOOT_FUSE_CMD_op,
      F.BOOT_FUSE_CMD_slot])
  else if op = 1 then s.programSlot c slot true
  else if op = 2 then s.revokeSlot c slot true
  else if op = 3 then (s.onHub fun h => h.setFld R.BOOT_FUSE_CMD F.BOOT_FUSE_CMD_slot slot).programDeviceId c true
  else s.onHub fun h => h.fuseResult c op slot 1

/-- A PF0 register without behaviour of its own; a value outside its range is refused without an event (R379, R483). -/
def Hub.plainWrite (h : Hub) (off : Nat) (v : Word) : Hub :=
  match findRow hubRows off with
  | none => h
  | some (r, _, _) =>
    let old := h.rd off
    let w := putFields true true old v r.fields
    if off = R.HIF_EVQ_BASE ∧ ringBits w 6 16 = false then h
    else
      let h := h.wr off w
      if off = R.HIF_BRIDGE_STATUS ∧ w ≠ old then h.vector 2 else h

/-- A write of 8 bytes to BAR0 of PF0. -/
def State.hubWrite (s : State) (off : Nat) (v : Word) : State :=
  if !s.hubRuns then s
  else if off = R.HIF_CNT_SEL then s.cntSelWrite v
  else if off = R.BOOT_CMD then s.bootCmdWrite v
  else if off = R.BOOT_FUSE_CMD then s.fuseCmdWrite v
  else if off = R.SUP_FREEZE then s.supFreezeWrite v
  else match idxOf (R.SUP_CHN_CTRL 0) 8 8 off with
    | some c => s.supCtrlWrite (Fin.ofNat 8 c) v
    | none => s.onHub fun h => h.plainWrite off v

/-- BOOT_STATUS_c (Table 15.10). -/
def Chan.bootStatus (ch : Chan) : Word :=
  let b := ch.boot
  let st := match b.state with | .off => 0 | .booting => 1 | .ready => 2 | .quarantine => 3 | .programming => 4
  let w : Word := setF (setF 0 F.BOOT_STATUS_boot_state st) F.BOOT_STATUS_active_bank b.bank
  let w := setF (setF w F.BOOT_STATUS_reason_a b.reasonA) F.BOOT_STATUS_reason_b b.reasonB
  let w := setF (setF w F.BOOT_STATUS_security_version (le b.header 16 4)) F.BOOT_STATUS_min_security ch.fuses.security
  setF (setF w F.BOOT_STATUS_config_rejects b.rejects) F.BOOT_STATUS_sequence (le b.header 8 4)

/-- SUP_CHN_STATUS_c (Table 16.16). -/
def Chan.supStatus (ch : Chan) : Word :=
  let p := match ch.pwr.power with | .off => 0 | .ramping => 1 | .on => if ch.failStopped then 4 else 2 | .inReset => 3
  let w : Word := setF (setF 0 F.SUP_CHN_STATUS_power p) F.SUP_CHN_STATUS_fail_pin (if ch.pwr.failPin then 1 else 0)
  setF (setF w F.SUP_CHN_STATUS_fail_reason (ch.fld R.PWR_STATUS F.PWR_STATUS_fail_reason)) F.SUP_CHN_STATUS_auto_restarts
    ch.restartsNow.length

/-- The bridge of channel `c` is full: the accesses it holds fill its queue (R24, Table 14.9). -/
def State.bridgeFull (s : State) (c : Fin 8) : Bool := decide (Config.bridgeDepth c ≤ (s.chan c).host.held.length)

/-- HIF_BRIDGE_STATUS (Table 14.9): what each bridge reports is its own (R24). -/
def State.bridgeStatus (s : State) : Word :=
  let full := ((List.finRange 8).filter fun c => s.bridgeFull c).foldl (fun (m : Nat) c => m + 2 ^ c.val) 0
  setF (s.hub.rd R.HIF_BRIDGE_STATUS) F.HIF_BRIDGE_STATUS_backpressure full

/-- What an act on channel `c` made of `old` is `s`: a change of HIF_BRIDGE_STATUS sends PF0's vector 2 (Table 14.6). -/
def State.bridgeNote (old : State) (c : Fin 8) (s : State) : State :=
  if old.bridgeFull c = s.bridgeFull c then s else s.onHub fun h => h.vector 2

/-- A host access to channel `c`: one that sleeps may hold it (R378). -/
def State.hostAct (s : State) (c : Fin 8) (f : Chan → Chan) : State :=
  if 2 ≤ (s.chan c).pwrState then s.bridgeNote c (s.onChan c f) else s.onChan c f

/-- What PF0 reads at `off`. -/
def State.hubRead (s : State) (off : Nat) : Word :=
  if !s.hubRuns ∨ (findRow hubRows off).isNone then 0
  else match idxOf (R.BOOT_STATUS 0) 8 8 off with
  | some c => (s.chan (Fin.ofNat 8 c)).bootStatus
  | none => match idxOf (R.BOOT_FUSE_STATE 0) 8 8 off with
  | some c =>
    let f := (s.chan (Fin.ofNat 8 c)).fuses
    setF (setF 0 F.BOOT_FUSE_STATE_programmed f.programmed) F.BOOT_FUSE_STATE_revoked f.revoked
  | none => match idxOf (R.BOOT_DEVICE_ID 0) 8 8 off with
  | some c => BitVec.ofNat 64 (s.chan (Fin.ofNat 8 c)).fuses.deviceId
  | none => match idxOf (R.SUP_CHN_STATUS 0) 8 8 off with
  | some c => (s.chan (Fin.ofNat 8 c)).supStatus
  | none => if off = R.HIF_BRIDGE_STATUS then s.bridgeStatus else s.hub.rd off

/-- What a read of 4 bytes at `off` of PF0 returns: the half it names (R15). -/
def State.hubReadHalf (s : State) (off : Nat) : Word := if off % 4 = 0 then halfAt off (s.hubRead (off - off % 8)) else 0

/-- A host write shorter than 8 bytes (R15). -/
def State.partialWrite (s : State) : State :=
  if !s.hubRuns then s else s.onHub fun h => h.raise EV_HIF_PARTIAL_WRITE

/-- REGISTER_WRITE (R11): by whom, and where; a host write of fewer than 8 bytes (`whole` false) is discarded and reported (R15). -/
def State.registerWrite (s : State) (who : Agent) (off : Nat) (v : Word) (whole : Bool) : State :=
  match who with
  | .hub => if whole then s.hubWrite off v else s.partialWrite
  | .fn c inst => if whole then s.hostAct c fun ch => ch.hostWrite inst off v (s.priv c) else s.partialWrite
  | .firmware c => if whole then s.onChan c fun ch => ch.fwWrite off v else s

/-! ## Time of day (R461, R462) -/

/-- A time message: 16 bytes as received; its seconds if it is good. -/
def todSeconds (b : List Byte) : Option Nat :=
  if b.length = 16 ∧ slice b 0 3 = [0x59, 0x54, 0x01] ∧ (le b 3 1).testBit 0 = true ∧ crc8 (b.take 15) = byteAt b 15 then
    some (be b 4 6)
  else none

/-- TOD_MESSAGE (R461): its end must lie 100 ms to 900 ms after an edge. -/
def Chan.todMessage (ch : Chan) (b : List Byte) : Chan :=
  let timely : Bool := match ch.sid.lastEdge with
    | some t => decide (t + 100 * msG ≤ ch.now ∧ ch.now ≤ t + 900 * msG)
    | none => false
  match (if timely then todSeconds b else none) with
  | some n => { ch with sid := { ch.sid with announced := some n } }
  | none => ch.raise EV_LDS_TOD_BAD

/-- PPS_EDGE (R462). -/
def Chan.ppsEdge (ch : Chan) : Chan :=
  let u := ch.sid.unitsAt ch.now
  match ch.sid.announced with
  | none => { ch with sid := { ch.sid with lastEdge := some ch.now } }
  | some n =>
    let goal := n * 1000000000
    let e : Int := (u / 63000000000 : Nat) - (goal : Nat)
    let free : Bool := ch.linkState == 0 && (List.range 3).all fun p => ch.zState p == 0
    let slew : Int := max (-200000) (min 200000 e)
    let was := ch.sid.lost
    let sid : Sidereal :=
      { units := if free then goal * 63000000000 else u, at_ := ch.now
        rate := if free then 1000000000 else (1000000000 - slew).toNat
        announced := none, lastEdge := some ch.now, lastGood := some ch.now, lost := false }
    let ch : Chan := { ch with sid := sid }
    let ch := if !free ∧ 1000 < e.natAbs then ch.raise EV_LDS_TIME_STEP_DENIED else ch
    if was then ch.raise EV_LDS_PPS_OK else ch

/-- PPS_LOST (R462): 1.5 s without an accepted edge. -/
def Chan.ppsLost (ch : Chan) : Chan :=
  match ch.sid.lastGood with
  | some t =>
    if ch.sid.lost = false ∧ ch.since t (1500 * msG) = true then
      { ch with sid := { ch.sid with lost := true } }.raise EV_LDS_PPS_LOST
    else ch
  | none => ch

/-! ## The test port (R465) -/

/-- A TAP instruction other than TAP_RESET and SAMPLE/PRELOAD, from what Update-IR selects. -/
def State.tap (s : State) (ir : TapIr) : State := if s.pack.unpowered then s else { s with pack := s.pack.select ir }

/-- TAP_RESET (R465). -/
def State.tapReset (s : State) : State := { s with pack := ({ s.pack with bypass := false } : Package).select .bypass }

/-- SAMPLE_PRELOAD (R465): the pins are sampled and the boundary register loaded. -/
def State.samplePreload (s : State) (sampled preload : List Bool) : State :=
  if s.pack.unpowered then s
  else { s with pack := ({ s.pack with pins := sampled, boundary := preload } : Package).select .sample }

end Sys2Proof.Machine
end

