-- ==== Sys2Proof/Machine/Tick.lean ====
section
/-!
DEFINITION. Machine/Tick.lean: what the device does when no command waits: 60 grains pass (one core cycle at P0) and every
unit's cycle accounting goes on (R425 to R427). What happens at a later time is the effect of the command that names it
(DESIGN CHOICE, log 1).
-/

namespace Sys2Proof.Machine

open Sys2Proof

/-- Grains that pass in one step on an empty queue. -/
def tickG : Nat := 60

/-- Edges of the always-on clock in the next tick. -/
def edgesAc (now : Nat) : Nat := (now + tickG) / acG - now / acG

/-- Core cycles that end in the next tick. -/
def Chan.edges (ch : Chan) : Nat := coreAt ch.core (ch.now + tickG) / 240 - ch.coreNow / 240

/-! ## Why a partition waits -/

/-- The partition that holds quadrant `q` of engine `e` in the engine's present mode. -/
def Chan.quadPart (ch : Chan) (e q : Nat) : Option Nat :=
  ((modeParts (ch.fld (R.MXE_CTRL e) F.MXE_CTRL_part_mode)).find? fun p => (partQuads p).contains q).map (partKey e)

/-- What keeps the head of a partition's queue from going on: reasons of Table 17.2, and 0 for what has none there. A ready member of a
reduction group waits for the others as ACC_WAIT (R196), a DRAIN for the drain slot as TREE_WAIT (R198). -/
def Chan.headStops (ch : Chan) (k : Nat) : List Nat :=
  match (ch.part k).queue with
  | [] => []
  | x :: _ =>
    let c := (ch.side x.1).cmd x.2.2
    if c.opcode = 0x0A then (if (ch.part k).drain.isSome then [11] else [])
    else
      let rs := ch.opStops k x
      if rs.isEmpty && (ch.groupC k c).any (fun k' => k' != k && !(ch.memberHead x.1 x.2.1 c k' && ch.headReady k')) then [10] else rs

/-- A DRAIN in the drain slot waits for its swap (R198). -/
def Chan.drainStops (ch : Chan) (k : Nat) : List Nat :=
  match (ch.part k).drain with
  | some { swap := none, .. } => [11]
  | _ => []

/-- The lowest-coded reason of a list (R426). -/
def lowestReason (rs : List Nat) : Option Nat :=
  (rs.filter (· ≠ 0)).foldl (fun m r => match m with | none => some r | some x => some (min x r)) none

/-- Tenants whose head command waits at a gated unit that they do not hold (R310). -/
def Chan.gateStops (ch : Chan) (unit : Nat) : List Nat :=
  (List.range 16).filter fun i => !ch.holdsUnit unit i && (!(ch.wfqQueue unit i).isEmpty ||
    (decide (unit < 32) && (ch.part unit).parked.any fun x => ch.slotTenant (ctxSlot x.1) == i))

/-- The next command of a side's run waits for the scratchpad ranges of earlier ones, or, a SYNC, for their completion (R225). -/
def Chan.depWaits (ch : Chan) (ctx : Nat) : Bool :=
  match ch.run ctx with
  | none => false
  | some r =>
    if r.next < (ch.side ctx).commands then
      let (reads, writes) := ch.cmdRanges ctx r.number r.m r.next
      !r.clear reads writes || (((ch.side ctx).cmd r.next).opcode == 0x0B && !r.live.isEmpty)
    else false

/-- A command writes rows through the drain path: a DRAIN or a STREAM (R202). -/
def Cmd.drains (c : Cmd) : Bool := c.opcode == 0x0A || ((c.opcode == 1 || c.opcode == 2) && c.accOp == 2)

/-- The next command of a side's run is a DRAIN or STREAM whose destination meets one still being written by an earlier one (R202). -/
def Chan.accWaits (ch : Chan) (ctx : Nat) : Bool :=
  match ch.run ctx with
  | none => false
  | some r =>
    let s := ch.side ctx
    if r.next < s.commands ∧ (s.cmd r.next).drains = true then
      let writes := (ch.cmdRanges ctx r.number r.m r.next).2
      r.live.any fun l => (s.cmd l.index).drains && l.writes.any fun w => writes.any (meets w)
    else false

/-- What keeps a side's next command from issuing: its table cache is held by a failed seal (R233), its ranges (R225) or its destination
(R202). -/
def Chan.runStops (ch : Chan) (ctx : Nat) : List Nat :=
  (if ch.models.holds.any fun h => h.ctx == ctx && h.part.isNone then [3] else []) ++ (if ch.depWaits ctx then [7] else []) ++
  (if ch.accWaits ctx then [10] else [])

/-! ## The state of a unit -/

/-- State of a unit in a cycle: 0 BUSY, 1 STALLED, 2 IDLE, and the reason of a stall. -/
abbrev UnitState := Nat × Nat

def busyIf (b : Bool) (stop : Option Nat) : UnitState :=
  if b then (0, 0) else match stop with | some r => (1, r) | none => (2, 0)

def gateStop (g : List Nat) : Option Nat := if g.isEmpty then none else some 6

/-- State of a partition (R425): BUSY while real rows issue; STALLED while what it holds waits; BUSY while rows travel. -/
def Chan.partState (ch : Chan) (k : Nat) : UnitState :=
  if ch.streaming k then (0, 0)
  else match lowestReason (ch.headStops k ++ (ch.gateStops k).map fun _ => 6) with
    | some r => (1, r)
    | none => busyIf (!(ch.part k).flights.isEmpty) none

def Chan.rvuState (ch : Chan) (u : Nat) : UnitState :=
  busyIf (!(ch.rvu u).dots.isEmpty) (gateStop (ch.gateStops (32 + u)))

def Chan.vecState (ch : Chan) : UnitState := busyIf (decide (ch.coreNow < ch.eng.vecAt)) (gateStop (ch.gateStops 34))

/-- Drain path: a drain read runs, or a DRAIN waits for its swap. -/
def Chan.drainState (ch : Chan) : UnitState :=
  busyIf (ch.eng.parts.any fun x => match x.2.drain with | some d => d.swap.isSome | none => false)
    (lowestReason (ch.eng.parts.flatMap fun x => ch.drainStops x.1))

/-- Sides with a run. -/
def Chan.runners (ch : Chan) : List Nat := (ch.models.runs.filter fun x => x.2.run.isSome).map fun x => x.1

/-- State of a unit of Table 17.1 with no work that a command of this cycle brought and completed (`Obs.worked`), which makes it BUSY. What
the Stewards' firmware does is not modelled: they count as idle (log 64). -/
def Chan.unitState (ch : Chan) (u : Nat) : UnitState :=
  if u = 0 then
    if ch.port.carafe.isEmpty then (2, 0) else busyIf ch.dispatchStop.isNone ch.dispatchStop
  else if u = 2 then busyIf (!ch.flow.miss.isEmpty) none
  else if u = 4 then busyIf false (if ch.gateWaiting = 0 then none else some 6)
  else if 5 ≤ u ∧ u < 21 then
    match ch.quadPart ((u - 5) / 4) ((u - 5) % 4) with
    | some k => ch.partState k
    | none => (2, 0)
  else if u = 21 ∨ u = 22 then ch.rvuState (u - 21)
  else if u = 23 then ch.vecState
  else if u = 24 then ch.drainState
  else if u = 26 then busyIf (!ch.host.dma.isEmpty) none
  else if u = 27 then busyIf (!ch.chk.tests.isEmpty || ch.chk.sweep.isSome) none
  else if u = 36 then
    let rs := ch.runners.map ch.runStops
    busyIf (rs.any (·.isEmpty)) (lowestReason rs.flatten)
  else (2, 0)

/-! ## Accounting -/

/-- Count `n` cycles of a unit in a state (R425, R426). -/
def Chan.countUnit (n : Nat) (ch : Chan) (x : Nat × UnitState) : Chan :=
  let (u, st, why) := x
  let ch := (ch.inc (R.OBS_UNIT u st) n).setFld (R.OBS_UNIT_STATUS u) F.OBS_UNIT_STATUS_state st
  let ch := ch.setFld (R.OBS_UNIT_STATUS u) F.OBS_UNIT_STATUS_reason why
  if st = 1 then ch.stall u why n else ch

/-- The counters of waiting partitions: STANDBY_WAIT, TILE_WAIT, ACC_WAIT, TREE_WAIT and SWEEP_YIELD, each under its own rule, whichever
reason the stalled cycle carries (R426). -/
def Chan.countWait (n : Nat) (ch : Chan) (x : Nat × Nat) : Chan :=
  match x.2 with
  | 8 => ch.inc (R.MXE_CNT_STANDBY_WAIT (x.1 / 8)) n
  | 9 => ch.inc R.ACU_CNT_TILE_WAIT n
  | 10 => ch.inc R.ACU_CNT_ACC_WAIT n
  | 11 => ch.inc R.ACU_CNT_TREE_WAIT n
  | 13 => ch.inc R.CHK_CNT_SWEEP_YIELD n
  | _ => ch

/-- The local tenants charged with BUSY quadrants (one entry a quadrant) and BUSY Ristretto units (R427). -/
def Chan.busyQuads (ch : Chan) : List Nat :=
  (List.range 16).filterMap fun x => match ch.quadPart (x / 4) (x % 4) with
    | some k => if (ch.partState k).1 = 0 then (ch.part k).flights.getLast?.map (·.w.tenant) else none
    | none => none

def Chan.busyRvus (ch : Chan) : List Nat :=
  (List.range 2).filterMap fun u => (ch.rvu u).dots.head?.map fun d => ch.slotTenant (ctxSlot d.ctx)

/-- Charge `n` cycles to tenant counter `k` of each listed tenant. -/
def Chan.charge (k n : Nat) (ch : Chan) (ts : List Nat) : Chan :=
  ts.foldl (fun (ch : Chan) i => ch.inc (R.OBS_TCNT (i % 16) k) n) ch

/-- `n` core cycles of accounting; what each counts is settled by the state before. -/
def Chan.account (ch : Chan) (n : Nat) : Chan :=
  if n = 0 then ch
  else
    let units := (List.range 37).map fun u => (u, if ch.obs.worked.contains u then ((0, 0) : UnitState) else ch.unitState u)
    let waits := ch.eng.parts.flatMap fun x => (ch.headStops x.1 ++ ch.drainStops x.1).map fun r => (x.1, r)
    let gates := (List.range 36).map ch.gateStops
    let deps := (ch.runners.filter ch.depWaits).length
    let accs := (ch.runners.filter ch.accWaits).length
    let quads := ch.busyQuads
    let rvus := ch.busyRvus
    let hold := ch.chk.holdAt.isSome
    let undo := !ch.port.carafe.isEmpty && decide (undoSize < ch.chk.undo.length + 8)
    let full := decide (2048 ≤ ch.gateWaiting)
    let ch := units.foldl (Chan.countUnit n) { ch with obs := { ch.obs with worked := [] } }
    let ch := waits.foldl (Chan.countWait n) ch
    let ch := ch.inc R.VPE_CNT_GATE_WAIT (n * (gates.filter fun g => !g.isEmpty).length)
    let ch := gates.foldl (Chan.charge 5 n) ch
    let ch := (ch.charge 1 n quads).charge 2 n rvus
    let ch := (ch.inc R.CHN_CNT_DEP_WAIT (n * deps)).inc R.ACU_CNT_ACC_WAIT (n * accs)
    let ch := if hold then ch.inc R.CHK_CNT_HOLD_CC n else ch
    let ch := if undo then ch.inc R.CHK_CNT_UNDO_WAIT n else ch
    if full then ch.raise EV_VPE_PARK_FULL else ch

/-- A tick of a channel, with the alignment groups of its Zorbex ports (R341), which no row sends. -/
def Chan.tick (ch : Chan) : Chan :=
  let ch' :=
    if !ch.isOn then ch
    else if ch.clocked && ch.pwrState == 0 then (ch.account ch.edges).idleNote
    else if 1 ≤ ch.pwrState then ch.inc R.OBS_CNT_GATED_AC (edgesAc ch.now)
    else ch
  let ch' := if ch.isOn then ch'.stallNote tickG else ch'
  let ch' := if ch.isOn && (!ch.clocked || ch.edges != 0) then ch'.watchFlush else ch'
  let ch' := { ch' with now := ch'.now + tickG }
  if ch'.isOn && ch'.clocked && ch'.pwrState == 0 then ((((ch'.settleGaps).zAlign 0).zAlign 1).zAlign 2) else ch'

/-- A tick of the device: 60 grains pass on every die. -/
def State.tick (s : State) : State :=
  let s := (List.range 8).foldl (fun (s : State) c => s.onChan (Fin.ofNat 8 c) Chan.tick) s
  { s with hub := { s.hub with now := s.hub.now + tickG } }

end Sys2Proof.Machine
end

