-- ==== Sys2Proof/Machine/Rows.lean ====
section
/-!
DEFINITION. Machine/Rows.lean: what the commands of the table share: which of them act while the core clock runs, and what a
command that is a register access meets first (R11, R366, R367, R378, R392, R429).
-/

namespace Sys2Proof.Machine

open Sys2Proof

/-- A command of the fast domain: it acts only while the core clock can run (R9, Table 16.1). -/
def State.onClocked (s : State) (c : Fin 8) (f : Chan → Chan) : State :=
  s.onChan c fun ch => if ch.clocked then f ch else ch

/-- A command on the configuration of a channel's functions, which stands in the hub die (R361, R363, R377): it acts while the hub die
runs, whether or not the channel is powered. -/
def State.onConfig (s : State) (c : Fin 8) (f : Chan → Chan) : State := if s.hubRuns then s.onChan c f else s

/-- Function instance of a writer; the firmware counts as the physical function. -/
def writerInst : Option (Fin 17) → Nat
  | some i => i
  | none => 0

/-- The writer of a notification ring's index (R449). -/
def noteWriter : Option (Fin 17) → Writer
  | some i => .host i
  | none => .firmware

/-- A write that passed the channel's gate reaches the register at `off`: the physical function reaches all but the OBS registers
without its bit of HIF_PF_PRIV (R429), a VF those of R366. -/
def Chan.reachWrite (ch : Chan) (inst off : Nat) (priv : Bool) (f : Chan → Chan) : Chan :=
  if inst = 0 then (if obsPriv off && !priv then ch else f ch)
  else match ch.vfReach inst off with
    | .own => f ch
    | .denied => ch.raise EV_CHN_VF_DENIED (some (inst - 1))
    | _ => ch

/-- A command that is a write of `v` to the register at `off` of channel `c` by a function instance or, with `src` none, by the
firmware: `f` is what the register does with it. -/
def State.writeRow (s : State) (src : Option (Fin 17)) (c : Fin 8) (off : Nat) (v : Word) (f : Chan → Chan) : State :=
  match src with
  | some inst => s.hostAct c fun ch => ch.viaHost inst off v fun ch => ch.reachWrite inst off (s.priv c) f
  | none => s.onChan c fun ch => if ch.isOn && ch.pwr.lodestar == .running then f ch else ch

/-- A command that is a write of a word made from the register's present one. -/
def State.wordRow (s : State) (src : Option (Fin 17)) (c : Fin 8) (off : Nat) (mk : Word → Word) (f : Word → Chan → Chan) : State :=
  let v := mk ((s.chan c).rd off)
  s.writeRow src c off v (f v)

/-- Offset of a word of a Leaf CAM entry in its window (R159). -/
def camOffset (entry word : Nat) : Nat := 0x2000000 + 256 * entry + 8 * word

/-- A CHN_SLOT_CMD write that starts a slot command (R238). -/
def slotCmdWord (cmd : Nat) : Word := setF (setF 0 F.CHN_SLOT_CMD_command cmd) F.CHN_SLOT_CMD_start 1

/-- A PWR_CTRL write that asks for a power state (R405). -/
def goWord (target : Nat) (w : Word) : Word := setF (setF w F.PWR_CTRL_target target) F.PWR_CTRL_go 1

/-- A host access to a channel in Doze or Vault (R406): a write, or a read. -/
def State.dozeAccess (s : State) (c : Fin 8) (inst off : Nat) (v : Option Word) : State :=
  s.hostAct c fun ch => if ch.isOn && ch.fnLive inst then ch.accessWake inst off v else ch

/-- A dump starts by itself after a fail-stop, or by a write of OBS_DUMP_CMD.start (R440). -/
def State.dumpRow (s : State) (src : Option (Fin 17)) (c : Fin 8) (auto : Bool) : State :=
  if auto then s.onLive c fun ch => ch.dumpStart false
  else s.wordRow src c R.OBS_DUMP_CMD (fun _ => setF 0 F.OBS_DUMP_CMD_start 1) fun _ ch => ch.dumpStart true

/-- A write of the power state of PF0 (none) or of a function instance (R361). -/
def State.d3hotRow (s : State) (fn : Option (Fin 8 × Fin 17)) (on : Bool) : State :=
  match fn with
  | none => s.hubD3hot on
  | some (c, inst) => s.onConfig c fun ch => ch.setD3hot inst on

end Sys2Proof.Machine
end

