-- ==== Sys2Proof/Machine/BootRows.lean ====
section
/-!
DEFINITION. Machine/BootRows.lean: the meanings of the commands of boot and attestation (chapter 15).
-/

namespace Sys2Proof.Machine

open Sys2Proof

/-- BOOT_START (R390): at channel reset release the boot ROM reads both headers and verifies a bank, or enters Quarantine boot.
-/
def execBootStart (c : Fin 8) (flashOk : Bool) (fuseOk : Bool) (s : State) : Out :=
  .next (s.bootStart c flashOk fuseOk)

/-- BOOT_CONFIG_APPLY (R384): once T2 and T3 are ready or failed the CONFIG records are applied in order. -/
def execBootConfigApply (c : Fin 8) (t3Failed : Bool) (s : State) : Out :=
  .next (s.onLive c (fun ch => ch.bootConfig t3Failed (s.priv c)))

/-- BOOT_READY (R391): the boot's MODEL sections are staged and the Lodestar reports READY. -/
def execBootReady (c : Fin 8) (s : State) : Out :=
  .next (s.onLive c (fun ch => ch.bootReady))

/-- BOOT_TRIAL_TIMEOUT (R399): a trial bank that has not reported READY 10 s after reset is marked trial-failed and the channel
resets. -/
def execBootTrialTimeout (c : Fin 8) (s : State) : Out :=
  .next (s.onLive c (fun ch => ch.trialTimeout))

/-- PROGRAM (R398): a PROGRAM boot command checks an image in T1 and writes it into the inactive flash bank. -/
def execProgram (c : Fin 8) (s : State) : Out :=
  .next (s.program c)

/-- PROGRAM_COMPLETE (R398): the flash program and read-back end and raise EV_BOOT_PROGRAMMED or EV_BOOT_PROGRAM_FAIL. -/
def execProgramComplete (c : Fin 8) (flashErr : Bool) (s : State) : Out :=
  .next (s.programComplete c flashErr)

/-- ACTIVATE (R398): an ACTIVATE boot command resets the channel to boot the new image, or is refused while another channel
boots. -/
def execActivate (c : Fin 8) (s : State) : Out :=
  .next (s.activate c)

/-- COMMIT_SV (R399): a COMMIT_SV boot command raises min_security to the running image's security version. -/
def execCommitSv (c : Fin 8) (s : State) : Out :=
  .next (s.commitSv c)

/-- PROGRAM_SLOT (R389): a fuse command programs a key slot, or is refused. -/
def execProgramSlot (c : Fin 8) (slot : Fin 8) (ok : Bool) (s : State) : Out :=
  .next (s.programSlot c slot ok)

/-- REVOKE_SLOT (R389): a fuse command revokes a key slot, or is refused for the last slot of its use. -/
def execRevokeSlot (c : Fin 8) (slot : Fin 8) (ok : Bool) (s : State) : Out :=
  .next (s.revokeSlot c slot ok)

/-- PROGRAM_DEVICE_ID (R389): a fuse command programs the device_id, or is refused when already set. -/
def execProgramDeviceId (c : Fin 8) (ok : Bool) (s : State) : Out :=
  .next (s.programDeviceId c ok)

/-- ATTEST_REQUEST (R395): a write of LDS_ATT_REQ.start requests an attestation report, held or refused under the rate rule. -/
def execAttestRequest (c : Fin 8) (src : Option (Fin 17)) (v : Word) (s : State) : Out :=
  .next (s.writeRow src c (R.LDS_ATT_REQ) v (fun ch => ch.attestRequest (writerInst src) v))

/-- ATTEST_RELEASE (R396): when its second has passed the report is signed after a state-record commit and written to its
destination. -/
def execAttestRelease (c : Fin 8) (s : State) : Out :=
  .next (s.onLive c (fun ch => ch.attestRelease))

end Sys2Proof.Machine
end

