-- ==== Sys2Proof/Machine/CheckRows.lean ====
section
/-!
DEFINITION. Machine/CheckRows.lean: the meanings of the commands of the Check Engine and its recovery (chapter 09).
-/

namespace Sys2Proof.Machine

open Sys2Proof

/-- FOREST_CHECK_COMPLETE (R33): 37 cc after step 10 the Check Engine confirms the matched entries' parity, leaf words and sum
for a descriptor. -/
def execForestCheckComplete (c : Fin 8) (sumErr : Bool) (s : State) : Out :=
  .next (s.onClocked c (fun ch => ch.forestCheck sumErr))

/-- VERDICT_TRANSMIT (R51): ready verdict records are framed and sent on the transmit lane as soon as a slot is free. -/
def execVerdictTransmit (c : Fin 8) (s : State) : Out :=
  .next (s.onClocked c (fun ch => ch.verdictTransmit))

/-- RETRACT_TRANSMIT (R257): a queued RETRACT record is sent ahead of every unframed verdict. -/
def execRetractTransmit (c : Fin 8) (s : State) : Out :=
  .next (s.onClocked c (fun ch => ch.retractTransmit))

/-- EPOCH_BOUNDARY (R252): every 2,000 ns of Sidereal time a new epoch begins and pending verdict-mode changes take effect. -/
def execEpochBoundary (c : Fin 8) (s : State) : Out :=
  .next (s.onClocked c (fun ch => ch.epochBoundary))

/-- EPOCH_CLOSES (R253): an epoch closes once its interval has ended, its verdicts are checked or retracted, its peer deltas
resolved and its predecessor closed. -/
def execEpochCloses (c : Fin 8) (s : State) : Out :=
  .next (s.onClocked c (fun ch => ch.epochCloses))

/-- PEER_EPOCH_DEADLINE (R259): when no EPOCH_CLOSE has arrived 10 µs after an origin epoch ends, that epoch's share deltas are
undone and dependent verdicts retracted. -/
def execPeerEpochDeadline (c : Fin 8) (s : State) : Out :=
  .next (s.onClocked c (fun ch => ch.peerDeadline))

/-- SELF_TEST_COMPLETE (R260): a targeted self-test run of a failing unit ends and the unit returns as transient or is fenced.
-/
def execSelfTestComplete (c : Fin 8) (pass : Bool) (s : State) : Out :=
  .next (s.onClocked c (fun ch => ch.selfTestComplete pass))

/-- REMAP_COMPLETE (R264): the Lodestar finishes configuring a remap target and the dispatch hold ends. -/
def execRemapComplete (c : Fin 8) (s : State) : Out :=
  .next (s.onClocked c (fun ch => ch.remapComplete))

/-- BANK_REBUILD_COMPLETE (R264): a fenced bank's or copy's image is rebuilt into free banks and bank_mask is rewritten between
dispatch cycles. -/
def execBankRebuildComplete (c : Fin 8) (s : State) : Out :=
  .next (s.onClocked c (fun ch => ch.rebuildComplete))

/-- CHK_UNFENCE (R263): a write of a CHK_UNFENCE bit starts two test runs that clear the fence if both pass. -/
def execChkUnfence (c : Fin 8) (src : Option (Fin 17)) (v : Word) (s : State) : Out :=
  .next (s.writeRow src c (R.CHK_UNFENCE) v (fun ch => ch.unfenceWrite v))

/-- CHK_UNFENCE_BANKS (R263): a write of a CHK_UNFENCE_BANKS bit starts two test runs of a bank that clear its fence if both
pass. -/
def execChkUnfenceBanks (c : Fin 8) (src : Option (Fin 17)) (v : Word) (s : State) : Out :=
  .next (s.writeRow src c (R.CHK_UNFENCE_BANKS) v (fun ch => ch.unfenceBanksWrite v))

/-- CHK_VMODE_WRITE (R249): a write of CHK_VMODE marks a verdict-mode change pending until the next epoch boundary. -/
def execChkVmodeWrite (c : Fin 8) (src : Option (Fin 17)) (v : Word) (s : State) : Out :=
  .next (s.writeRow src c (R.CHK_VMODE) v (fun ch => ch.vmodeWrite v))

/-- DIGEST_RECHECK (R266): every digest_period the Check Engine recomputes each serving side's model digest and repairs or
quarantines on mismatch. -/
def execDigestRecheck (c : Fin 8) (s : State) : Out :=
  .next (s.onClocked c (fun ch => ch.digestRecheck))

/-- SWEEP_TEST_START (R267): the Lodestar starts a Night-sky test pattern on an idle unit. -/
def execSweepTestStart (c : Fin 8) (n : Fin 40) (s : State) : Out :=
  .next (s.onClocked c (fun ch => ch.sweepStart n))

/-- SWEEP_TEST_COMPLETE (R267): a Night-sky pattern ends and passes, repeats, or fences the unit on a second failure. -/
def execSweepTestComplete (c : Fin 8) (pass : Bool) (q : Fin 4) (s : State) : Out :=
  .next (s.onClocked c (fun ch => ch.sweepComplete pass q))

/-- SWEEP_YIELD (R268): a real operation that becomes ready stops a sweep pattern, which is repeated later. -/
def execSweepYield (c : Fin 8) (s : State) : Out :=
  .next (s.onClocked c (fun ch => ch.sweepYield))

/-- SCRUB_VISIT (R269): the scrub compares a Leaf CAM entry with its golden image and rewrites a differing one. -/
def execScrubVisit (c : Fin 8) (s : State) : Out :=
  .next (s.onClocked c (fun ch => ch.scrubVisit))

end Sys2Proof.Machine
end

