-- ==== Sys2Proof/Machine/EngineRows.lean ====
section
/-!
DEFINITION. Machine/EngineRows.lean: the meanings of the commands of the engines, the vector path and the accumulators (chapters 06, 07).
-/

namespace Sys2Proof.Machine

open Sys2Proof

/-- MXE_PART_WRITE (R168): a write of part_mode or MXE_PART is checked, and an accepted change zeroes the concerned quadrants'
weights and accumulators. -/
def execMxePartWrite (c : Fin 8) (src : Option (Fin 17)) (e : Fin 4) (second : Bool) (v : Word) (s : State) : Out :=
  .next (s.writeRow src c (if second then R.MXE_PART e else R.MXE_CTRL e) v (fun ch => ch.mxePartWrite e second v))

/-- RVU_PAGE_OWNER_WRITE (R186): a write of a Ristretto page owner zeroes changed pages or is refused for a loaded slot's page.
-/
def execRvuPageOwnerWrite (c : Fin 8) (src : Option (Fin 17)) (u : Fin 2) (i : Fin 32) (v : Word) (s : State) : Out :=
  .next (s.writeRow src c (R.RVU_PAGE_OWNER u i) v (fun ch => ch.pageOwnerWrite u i v))

/-- MMA (R166): an MMA command issues its streamed rows against the partition's stationary weights. -/
def execMma (c : Fin 8) (ctx : Fin 128) (index : Nat) (s : State) : Out :=
  .next (s.onClocked c (fun ch => ch.seqIssue ctx index 0x01))

/-- MMT (R176): an MMT command issues its rows against the transpose of the active weights. -/
def execMmt (c : Fin 8) (ctx : Fin 128) (index : Nat) (s : State) : Out :=
  .next (s.onClocked c (fun ch => ch.seqIssue ctx index 0x02))

/-- MVR (R183): an MVR command runs matrix-vector products on the Ristretto units. -/
def execMvr (c : Fin 8) (ctx : Fin 128) (index : Nat) (s : State) : Out :=
  .next (s.onClocked c (fun ch => ch.seqIssue ctx index 0x03))

/-- QNT (R119): a QNT command quantises FP32 values into codes under a scale table on the vector path. -/
def execQnt (c : Fin 8) (ctx : Fin 128) (index : Nat) (s : State) : Out :=
  .next (s.onClocked c (fun ch => ch.seqIssue ctx index 0x04))

/-- DQT (R121): a DQT command dequantises codes into FP32 on the vector path. -/
def execDqt (c : Fin 8) (ctx : Fin 128) (index : Nat) (s : State) : Out :=
  .next (s.onClocked c (fun ch => ch.seqIssue ctx index 0x05))

/-- ROT (R123): a ROT command applies the block Hadamard rotation on the vector path. -/
def execRot (c : Fin 8) (ctx : Fin 128) (index : Nat) (s : State) : Out :=
  .next (s.onClocked c (fun ch => ch.seqIssue ctx index 0x06))

/-- ACT (R222): an ACT command applies an activation table on the vector path. -/
def execAct (c : Fin 8) (ctx : Fin 128) (index : Nat) (s : State) : Out :=
  .next (s.onClocked c (fun ch => ch.seqIssue ctx index 0x09))

/-- GATHER (R223): a GATHER command binds the feature program and completes when the batch closes. -/
def execGather (c : Fin 8) (ctx : Fin 128) (index : Nat) (s : State) : Out :=
  .next (s.onClocked c (fun ch => ch.seqIssue ctx index 0x08))

/-- DRAIN (R198): a DRAIN moves into the partition's drain slot and closes its tile. -/
def execDrain (c : Fin 8) (ctx : Fin 128) (index : Nat) (s : State) : Out :=
  .next (s.onClocked c (fun ch => ch.seqIssue ctx index 0x0A))

/-- SYNC (R225): a SYNC issues once every earlier command of its run has completed. -/
def execSync (c : Fin 8) (ctx : Fin 128) (index : Nat) (s : State) : Out :=
  .next (s.onClocked c (fun ch => ch.seqIssue ctx index 0x0B))

/-- STANDBY_STAGE_COMPLETE (R173): a partition's load port finishes reading and seal-checking stationary tiles into its staging
buffer. -/
def execStandbyStageComplete (c : Fin 8) (k : Fin 32) (ctx : Fin 128) (s : State) : Out :=
  .next (s.onClocked c (fun ch => ch.standbyStaged k ctx))

/-- STANDBY_WRITE_COMPLETE (R173): the staged image has been written into the standby registers row by row, and an operation
with new weights may issue. -/
def execStandbyWriteComplete (c : Fin 8) (k : Fin 32) (s : State) : Out :=
  .next (s.onClocked c (fun ch => ch.standbyWritten k))

/-- MXE_ROW_LAND (R171): a streamed row's result lands in the accumulators or reduce tree and its checksum compare runs. -/
def execMxeRowLand (c : Fin 8) (k : Fin 32) (errQ : Fin 4) (err : BitVec 32) (s : State) : Out :=
  .next (s.onClocked c (fun ch => ch.rowLand k errQ err.toNat))

/-- CHAIN_REPLAY (R205): after restaging the first operation's weights, the chain issues again from its first operation with
shift s. -/
def execChainReplay (c : Fin 8) (k : Fin 64) (s : State) : Out :=
  .next (s.onClocked c (fun ch => ch.chainReplay k))

/-- MVR_OUTPUT_READY (R184): a Ristretto dot product completes, is compared with its check lanes, activated and written. -/
def execMvrOutputReady (c : Fin 8) (u : Fin 2) (err : BitVec 32) (s : State) : Out :=
  .next (s.onClocked c (fun ch => ch.mvrOutput u err.toNat))

/-- RAMP_DOWN_STEP (R180): every 16 cc after a gap reaches 64 cc the partition lowers its dummy density by one sixteenth until
quiet. -/
def execRampDownStep (c : Fin 8) (unit : Fin 34) (s : State) : Out :=
  .next (s.onClocked c (fun ch => ch.rampDown unit))

/-- DRAIN_SWAP (R198): once the chain has landed and the Crema set and drain buffer are free, the DRAIN swaps the sets and the
tile becomes DRAINING. -/
def execDrainSwap (c : Fin 8) (k : Fin 32) (s : State) : Out :=
  .next (s.onClocked c (fun ch => ch.drainSwap k))

/-- DRAIN_READ_COMPLETE (R199): the Crema set's read-out ends, outputs are scaled, activated and written, and the tile becomes
FREE. -/
def execDrainReadComplete (c : Fin 8) (k : Fin 32) (s : State) : Out :=
  .next (s.onClocked c (fun ch => ch.drainReadComplete k))

/-- CHAIN_SAVE (R207): after a cut chain's issued rows land, its set image and state are saved to the tenant's save area, or
discarded under DEBUG_ONLY. -/
def execChainSave (c : Fin 8) (k : Fin 64) (s : State) : Out :=
  .next (s.onClocked c (fun ch => ch.chainSave k))

/-- ACU_ABORT (R212): a write of ACU_ABORT.start cancels a model slot's operations before their commit cycles and lets later
ones complete abort_late. -/
def execAcuAbort (c : Fin 8) (src : Option (Fin 17)) (v : Word) (s : State) : Out :=
  .next (s.writeRow src c (R.ACU_ABORT) v (fun ch => ch.acuAbort (writerInst src) v))

end Sys2Proof.Machine
end

