-- ==== Sys2Proof/Machine/FeatureRows.lean ====
section
/-!
DEFINITION. Machine/FeatureRows.lean: the meanings of the commands of the Feature and Forest Engines (chapters 04, 05).
-/

namespace Sys2Proof.Machine

open Sys2Proof

/-- ENTITY_FILL_COMPLETE (R109): an entity bucket line arrives in the tenant's part of the entity cache. -/
def execEntityFillComplete (c : Fin 8) (i : Fin 16) (k : Fin 4) (bucket : BitVec 32) (ok : Bool) (s : State) : Out :=
  .next (s.onClocked c (fun ch => ch.entityFillComplete i k bucket.toNat ok))

/-- FTR_PROG_WRITE (R131): a write of FTR_PROG_n is refused while the program is in use, or starts copying its slots into
program memory. -/
def execFtrProgWrite (c : Fin 8) (src : Option (Fin 17)) (n : Fin 64) (v : Word) (s : State) : Out :=
  .next (s.writeRow src c (R.FTR_PROG n) v (fun ch => ch.ftrProgWrite n (instTenant (writerInst src)) v))

/-- FTR_PROG_LOADED (R131): the copy of a feature program's slots completes and loaded reads 1. -/
def execFtrProgLoaded (c : Fin 8) (n : Fin 64) (s : State) : Out :=
  .next (s.onClocked c (fun ch => ch.ftrProgLoaded n))

/-- FST_ENS_WRITE (R160): a write of an ensemble descriptor register is checked against the descriptor as it would stand and
applied or refused. -/
def execFstEnsWrite (c : Fin 8) (src : Option (Fin 17)) (n : Fin 32) (part : Fin 4) (v : Word) (s : State) : Out :=
  .next (s.writeRow src c (R.FST_ENS_CFG n + 8 * part.val) v (fun ch => ch.fstEnsWrite n part src.isSome v))

/-- CAM_WINDOW_WRITE (R159): a host write to an entry's value, care or leaf bytes goes to the one-entry holding buffer. -/
def execCamWindowWrite (c : Fin 8) (src : Option (Fin 17)) (entry : BitVec 16) (word : Fin 22) (v : Word) (s : State) : Out :=
  .next (s.writeRow src c (camOffset entry.toNat word) v (fun ch => ch.camWindowWrite entry.toNat word v))

/-- CAM_WINDOW_COMMIT (R159): a write of an entry's bytes 160–167 commits the entry with device-computed parity and ECC, or is
ignored for an owned bank. -/
def execCamWindowCommit (c : Fin 8) (src : Option (Fin 17)) (entry : BitVec 16) (v : Word) (s : State) : Out :=
  .next (s.writeRow src c (camOffset entry.toNat 20) v (fun ch => ch.camWindowCommit entry.toNat v))

/-- CAM_ENTRY_UPSET (R154): an upset makes a Leaf CAM entry fail parity and it is excluded from searches that begin 2 cc later.
-/
def execCamEntryUpset (c : Fin 8) (entry : BitVec 16) (bits : List Nat) (s : State) : Out :=
  .next (s.onLive c (fun ch => ch.camUpset entry.toNat bits))

/-- LEAF_CAM_REPAIR (R155): the Lodestar rewrites an excluded entry from its verified golden image and starts its read-back
test. -/
def execLeafCamRepair (c : Fin 8) (s : State) : Out :=
  .next (s.onClocked c (fun ch => ch.leafCamRepair))

/-- ENSEMBLE_BANK_RELEASE (R157): after the last pass dispatched before a swap leaves, the old ensemble's banks are released.
-/
def execEnsembleBankRelease (c : Fin 8) (n : Fin 32) (s : State) : Out :=
  .next (s.onClocked c (fun ch => ch.bankRelease n))

end Sys2Proof.Machine
end

