-- ==== Sys2Proof/Machine/FlowRows.lean ====
section
/-!
DEFINITION. Machine/FlowRows.lean: the meanings of the commands of the Flow Engine (chapter 03).
-/

namespace Sys2Proof.Machine

open Sys2Proof

/-- DESCRIPTOR_DISPATCH (R27): the Carafe read side hands the next descriptor to lane A or lane B, which runs it through
parser, flow, feature, forest and verdict stages. -/
def execDescriptorDispatch (c : Fin 8) (fixed : Nat) (bad : Bool) (s : State) : Out :=
  .next (s.onClocked c (fun ch => ch.descriptorDispatch fixed bad))

/-- MAINTENANCE_FORCE (R85): a maintenance operation that has waited force_interval cc takes the next lookup slot and delays
one dispatch by 1 cc. -/
def execMaintenanceForce (c : Fin 8) (s : State) : Out :=
  .next (s.onClocked c (fun ch => ch.maintenanceForce))

/-- FLOW_FILL_COMPLETE (R82): a bucket fill from T1 arrives in the flow cache and lookups waiting on it re-enter step 6. -/
def execFlowFillComplete (c : Fin 8) (bucket : BitVec 32) (ok : Bool) (s : State) : Out :=
  .next (s.onClocked c (fun ch => ch.flowFillComplete bucket.toNat ok))

/-- COLD_FETCH_COMPLETE (R83): a cold-table fetch from T2 completes; a found record is sent for promotion or the key is absent.
-/
def execColdFetchComplete (c : Fin 8) (ok : Bool) (s : State) : Out :=
  .next (s.onClocked c (fun ch => ch.coldFetchComplete ok))

/-- FLOW_PARITY_INVALIDATE (R84): a record that failed parity is invalidated in the next maintenance slot and posted as EXPIRE
with reason PARITY. -/
def execFlowParityInvalidate (c : Fin 8) (s : State) : Out :=
  .next (s.onClocked c (fun ch => ch.flowParityInvalidate))

/-- PENDING_KEY_EXPIRE (R86): a pending-filter entry is freed 1 ms after posting. -/
def execPendingKeyExpire (c : Fin 8) (s : State) : Out :=
  .next (s.onClocked c (fun ch => ch.pendingKeyExpire))

/-- INSERT_COMMAND (R88): the insert unit takes one command from a tenant or Steward ring, searches, relocates and places the
record, and writes the result. -/
def execInsertCommand (c : Fin 8) (s : State) : Out :=
  .next (s.onClocked c (fun ch => ch.insertCommand))

/-- PROMOTION (R83): a cold-table hit is inserted into T1 ahead of ring commands and then removed from T2. -/
def execPromotion (c : Fin 8) (s : State) : Out :=
  .next (s.onClocked c (fun ch => ch.promotion))

/-- AGE_PERIOD_START (R90): a tenant's aging period begins on an age_period write or at the end of the previous period. -/
def execAgePeriodStart (c : Fin 8) (i : Fin 16) (s : State) : Out :=
  .next (s.onClocked c (fun ch => ch.agePeriodStart i))

/-- SWEEP_VISIT (R90): the sweeper visits a bucket and clears hit, sets aged_once, moves to cold, removes with EXPIRE, or
invalidates a parity failure. -/
def execSweepVisit (c : Fin 8) (i : Fin 16) (s : State) : Out :=
  .next (s.onClocked c (fun ch => ch.sweepVisit i))

/-- FLW_LOCK_REQUEST (R92): a write of FLW_LOCK_REQ.start writes back and invalidates the bucket line and sets its lock bit, or
is refused. -/
def execFlwLockRequest (c : Fin 8) (src : Option (Fin 17)) (v : Word) (s : State) : Out :=
  .next (s.writeRow src c (R.FLW_LOCK_REQ) v (fun ch => ch.lockRequest (writerInst src) v))

/-- FLW_LOCK_RELEASE (R94): a write of FLW_LOCK_REL.start by the locking function starts a release, which waits for its started
DMA writes. -/
def execFlwLockRelease (c : Fin 8) (src : Option (Fin 17)) (v : Word) (s : State) : Out :=
  .next (s.writeRow src c (R.FLW_LOCK_REL) v (fun ch => ch.lockRelease (writerInst src) v))

/-- FLW_RELEASE_COMPLETE (R94): the release reads back and fixes up the bucket, recomputes parity, unlocks it and replays
parked lookups in order. -/
def execFlwReleaseComplete (c : Fin 8) (s : State) : Out :=
  .next (s.onClocked c (fun ch => ch.releaseComplete))

/-- LOCK_MAX_HOLD_EXPIRE (R94): a lock held beyond max_hold is released in the same way and raises EV_FLW_LOCK_EXPIRED. -/
def execLockMaxHoldExpire (c : Fin 8) (s : State) : Out :=
  .next (s.onClocked c (fun ch => ch.lockMaxHold))

/-- LOCK_TIMEOUT (R93): a parked lookup still parked 4,200 cc after parking leaves as LOCK_TIMEOUT. -/
def execLockTimeout (c : Fin 8) (s : State) : Out :=
  .next (s.onClocked c (fun ch => ch.lockTimeout))

/-- FLW_REGION_WRITE (R77): a write of a tenant's flow region fields adds the region or is refused for overlap or size. -/
def execFlwRegionWrite (c : Fin 8) (src : Option (Fin 17)) (i : Fin 16) (second : Bool) (v : Word) (s : State) : Out :=
  .next (s.writeRow src c (if second then R.FLW_REGION_B i else R.FLW_REGION_A i) v (fun ch => ch.regionWrite i (if second then
    1 else 0) v))

/-- FLW_REGION_REMOVE (R97): a write that sets log2_buckets to 0 removes the region, invalidates cache lines, discards pending
and parked lookups and releases locks. -/
def execFlwRegionRemove (c : Fin 8) (src : Option (Fin 17)) (i : Fin 16) (s : State) : Out :=
  .next (s.wordRow src c (R.FLW_REGION_A i) (fun w => setF w F.FLW_REGION_A_log2_buckets 0) (fun _ ch => ch.regionRemove i))

/-- LDS_NOTE_CONS_WRITE (R449): a consumer write of a notification ring's cons index frees records or is refused. -/
def execLdsNoteConsWrite (c : Fin 8) (src : Option (Fin 17)) (i : Fin 16) (v : Word) (s : State) : Out :=
  .next (s.writeRow src c (R.LDS_NOTE_IDX i) v (fun ch => ch.noteConsWrite (noteWriter src) i v))

/-- LDS_INS_PROD_WRITE (R450): a producer write of an insert ring's prod index submits commands or is refused. -/
def execLdsInsProdWrite (c : Fin 8) (src : Option (Fin 17)) (k : Fin 17) (v : Word) (s : State) : Out :=
  .next (s.writeRow src c (R.LDS_INS_IDX k) v (fun ch => ch.insProdWrite k v))

end Sys2Proof.Machine
end

