-- ==== Sys2Proof/Machine/HostRows.lean ====
section
/-!
DEFINITION. Machine/HostRows.lean: the meanings of the commands of the host interface (chapter 14).
-/

namespace Sys2Proof.Machine

open Sys2Proof

/-- FLR_CHANNEL_PF (R377): a Function Level Reset of a channel function resets it and all its VFs and sets NumVFs to 0. -/
def execFlrChannelPf (c : Fin 8) (s : State) : Out :=
  .next (s.onConfig c (fun ch => ch.flrPf))

/-- FLR_VF (R377): a Function Level Reset of a VF resets its instance, releases its locks and flushes its unstarted DMA
commands. -/
def execFlrVf (c : Fin 8) (i : Fin 16) (s : State) : Out :=
  .next (s.onConfig c (fun ch => ch.flrVf i))

/-- VF_ENABLE_CHANGE (R363): clearing VF Enable or lowering NumVFs acts on the affected VFs as a Function Level Reset. -/
def execVfEnableChange (c : Fin 8) (enable : Bool) (num : Fin 17) (s : State) : Out :=
  .next (s.onConfig c (fun ch => ch.vfEnable enable num))

/-- HOST_LINK_UP (R378): the host link returns to L0 and raises EV_HIF_LINK_UP. -/
def execHostLinkUp (speed : Fin 6) (width : Fin 17) (flit : Bool) (s : State) : Out :=
  .next (s.linkUp speed width flit)

/-- MALFORMED_TLP (R378): a malformed, poisoned or ECRC-failed TLP is discarded and reported through AER. -/
def execMalformedTlp (carried : Option (Fin 8 × Fin 17 × Fin 4 × BitVec 16)) (s : State) : Out :=
  .next (s.malformedTlp carried)

/-- CHANNEL_NO_ANSWER (R378): a channel that does not answer within 200 µs has its reads return all ones and its
HIF_BRIDGE_STATUS bit set. -/
def execChannelNoAnswer (c : Fin 8) (s : State) : Out :=
  .next (s.noAnswer c)

/-- TENANT_CREATE (R364): a write of CHN_TENANT_n.create creates the tenant with its class and key pair, or is refused. -/
def execTenantCreate (c : Fin 8) (src : Option (Fin 17)) (i : Fin 16) (v : Word) (s : State) : Out :=
  .next (s.writeRow src c (R.CHN_TENANT i) v (fun ch => ch.tenantCreate i v))

/-- DMA_DOORBELL (R370): an advance of CHN_HQ_PROD_q submits new DMA commands to a queue. -/
def execDmaDoorbell (c : Fin 8) (src : Option (Fin 17)) (q : Fin 4) (v : Word) (s : State) : Out :=
  .next (s.writeRow src c (R.CHN_HQ_PROD q) v (fun ch => ch.dmaDoorbell (writerInst src) q v))

/-- DMA_COMMAND_START (R371): a DMA command starts in ring order when fewer than 8 are in flight and its fence allows, or
completes REFUSED or BAD_COMMAND. -/
def execDmaCommandStart (c : Fin 8) (inst : Fin 17) (q : Fin 4) (entry : List Byte) (s : State) : Out :=
  .next (s.onClocked c (fun ch => ch.dmaStart inst q entry (s.priv c)))

/-- DMA_COMMAND_COMPLETE (R371): a DMA command's data becomes visible, its status is written, cons advances and its vector is
sent. -/
def execDmaCommandComplete (c : Fin 8) (inst : Fin 17) (q : Fin 4) (index : BitVec 16) (data : List Byte) (e : DmaEnd) (s :
    State) : Out :=
  .next (s.onClocked c (fun ch => ch.dmaComplete inst q index.toNat data e))

/-- DMA_HOST_TIMEOUT (R372): a host read unanswered within 10 ms completes the command HOST_ERROR. -/
def execDmaHostTimeout (c : Fin 8) (inst : Fin 17) (q : Fin 4) (index : BitVec 16) (s : State) : Out :=
  .next (s.onClocked c (fun ch => ch.dmaTimeout inst q index.toNat))

/-- HIF_COUNTER_READ (R369): a write of HIF_CNT_SEL.start begins an indirect snapshot read of a channel counter. -/
def execHifCounterRead (v : Word) (s : State) : Out :=
  .next (s.cntSelWrite v)

/-- MSIX_HOLDOFF_EXPIRE (R376): a ring's holdoff ends and its vector may be sent again. -/
def execMsixHoldoffExpire (c : Fin 8) (inst : Fin 17) (vec : Fin 64) (s : State) : Out :=
  .next (s.onLive c (fun ch => ch.holdoffExpire inst vec))

/-- D3HOT (R361): a host write of a function's power state moves it into or out of D3hot, in which it sends no interrupt and
starts no DMA. -/
def execD3hot (fn : Option (Fin 8 × Fin 17)) (on : Bool) (s : State) : Out :=
  .next (s.d3hotRow fn on)

/-- HOST_PORT_RESET (R377): PERST#, a hot reset or DL_Down resets the port, configuration spaces, banked instances and HIF
registers. -/
def execHostPortReset (s : State) : Out :=
  .next (s.portReset)

/-- FLR_PF0 (R377): a Function Level Reset of PF0 resets its configuration, event ring and HIF_CNT_SEL. -/
def execFlrPf0 (s : State) : Out :=
  .next (s.flrPf0)

/-- HOST_LINK_DOWN (R378): the host link goes down; host-bound rings stop while descriptor paths keep serving. -/
def execHostLinkDown (s : State) : Out :=
  .next (s.linkDown)

/-- UNSUPPORTED_REQUEST (R378): a request outside any BAR or to a function that is not enabled gets an Unsupported Request
completion. -/
def execUnsupportedRequest (s : State) : Out :=
  .next (s.unsupported)

/-- SUP_WATCHDOG_RESTART (R378): the Package Supervisor's watchdog restarts it within 1 ms. -/
def execSupWatchdogRestart (s : State) : Out :=
  .next (s.supRestart)

/-- HIF_COUNTER_READ_DONE (R369): the indirect read places its value in HIF_CNT_DATA and sets done. -/
def execHifCounterReadDone (s : State) : Out :=
  .next (s.cntReadDone)

end Sys2Proof.Machine
end

