-- ==== Sys2Proof/Machine/MemoryRows.lean ====
section
/-!
DEFINITION. Machine/MemoryRows.lean: the meanings of the commands of the memory tiers (chapter 12).
-/

namespace Sys2Proof.Machine

open Sys2Proof

/-- TIER_READ_RETURN (R328): a tier read returns; correctable errors are fixed and uncorrectable ones are logged and answered
per requester. -/
def execTierReadReturn (c : Fin 8) (tier : Fin 4) (addr : BitVec 48) (len : BitVec 32) (who : TierUser) (st : ReadStatus) (s :
    State) : Out :=
  .next (s.onClocked c (fun ch => ch.tierReturn tier addr.toNat len.toNat who st))

/-- TIER_REQUEST_TIMEOUT (R484): a tier request unanswered after 1 ms is answered as an uncorrectable read or failed write. -/
def execTierRequestTimeout (c : Fin 8) (tier : Fin 4) (addr : BitVec 48) (write : Bool) (who : TierUser) (s : State) : Out :=
  .next (s.onClocked c (fun ch => ch.tierTimeout tier addr.toNat write who))

/-- MEM_REGION_WRITE (R329): a region entry write is applied or refused, and a new tenant T1 or scratchpad entry starts a
zero-fill. -/
def execMemRegionWrite (c : Fin 8) (src : Option (Fin 17)) (i : Fin 64) (second : Bool) (v : Word) (s : State) : Out :=
  .next (s.writeRow src c (if second then R.MEM_REGION_B i else R.MEM_REGION_A i) v (fun ch => ch.memRegionWrite i (if second
    then 1 else 0) v))

/-- ZERO_FILL_COMPLETE (R333): the zero-fill of a region entry ends and its filling bit clears. -/
def execZeroFillComplete (c : Fin 8) (i : Fin 64) (s : State) : Out :=
  .next (s.onClocked c (fun ch => ch.zeroFillComplete i))

/-- TENANT_ERASE (R334): a write of MEM_KEY_CMD.erase destroys the tenant's keys, clears its flow region and starts
zero-filling its entries, or is refused. -/
def execTenantErase (c : Fin 8) (src : Option (Fin 17)) (v : Word) (s : State) : Out :=
  .next (s.writeRow src c (R.MEM_KEY_CMD) v (fun ch => ch.tenantErase v))

/-- ERASE_COMPLETE (R334): the erase clears every region entry of the tenant and raises EV_MEM_ERASED. -/
def execEraseComplete (c : Fin 8) (s : State) : Out :=
  .next (s.onClocked c (fun ch => ch.eraseComplete))

/-- T2_EVACUATE (R337): a write of MEM_T2_CTRL.evacuate enters DRAINING, disables cold tables and starts copying moved entries
to T3. -/
def execT2Evacuate (c : Fin 8) (src : Option (Fin 17)) (s : State) : Out :=
  .next (s.wordRow src c (R.MEM_T2_CTRL) (fun w => setF w F.MEM_T2_CTRL_evacuate 1) (fun _ ch => ch.t2Evacuate))

/-- EVACUATION_COMPLETE (R337): the evacuation copy ends and T2 enters EVACUATED. -/
def execEvacuationComplete (c : Fin 8) (s : State) : Out :=
  .next (s.onClocked c (fun ch => ch.evacuated))

/-- T2_DIMM_POWER_WRITE (R336): a write of the dimm_power bits switches the DIMM supplies and may enter POWERED_DOWN, or is
refused. -/
def execT2DimmPowerWrite (c : Fin 8) (src : Option (Fin 17)) (v : Word) (s : State) : Out :=
  .next (s.writeRow src c (R.MEM_T2_CTRL) v (fun ch => ch.dimmPower v))

/-- T2_RESTORE (R338): a write of MEM_T2_CTRL.restore enters RESTORING and starts module training. -/
def execT2Restore (c : Fin 8) (src : Option (Fin 17)) (s : State) : Out :=
  .next (s.wordRow src c (R.MEM_T2_CTRL) (fun w => setF w F.MEM_T2_CTRL_restore 1) (fun _ ch => ch.t2Restore))

/-- T2_RESTORE_COMPLETE (R338): training and cold-table zeroing end and T2 returns to ONLINE, or training fails and T2 enters
FAILED. -/
def execT2RestoreComplete (c : Fin 8) (ok : Bool) (s : State) : Out :=
  .next (s.onLive c (fun ch => ch.t2Restored ok))

/-- T2_MODULE_FAIL (R336): a module failure or more than 64 uncorrectable lines in 1 s puts T2 in FAILED. -/
def execT2ModuleFail (c : Fin 8) (failed : Bool) (s : State) : Out :=
  .next (s.onLive c (fun ch => ch.t2ModuleFail failed))

/-- T2_PATROL_SCRUB (R323): the patrol scrub reads T2 lines on its 24 h schedule and corrects errors. -/
def execT2PatrolScrub (c : Fin 8) (st : ReadStatus) (s : State) : Out :=
  .next (s.onClocked c (fun ch => ch.t2Patrol st))

/-- T3_LINK_DOWN (R324): the CXL link goes down; T3 reads are answered uncorrectable and writes discarded. -/
def execT3LinkDown (c : Fin 8) (s : State) : Out :=
  .next (s.onLive c (fun ch => ch.t3Down))

/-- T3_LINK_UP (R324): the CXL link retrains and T3 serves again. -/
def execT3LinkUp (c : Fin 8) (gib : BitVec 16) (s : State) : Out :=
  .next (s.onLive c (fun ch => ch.t3LinkUp gib.toNat))

end Sys2Proof.Machine
end

