-- ==== Sys2Proof/Machine/ModelRows.lean ====
section
/-!
DEFINITION. Machine/ModelRows.lean: the meanings of the commands of the model slots, runs and staging (chapter 08).
-/

namespace Sys2Proof.Machine

open Sys2Proof

/-- FOREST (R223): a FOREST command record binds a FOREST slot's ensemble at staging. -/
def execForest (c : Fin 8) (s : State) : Out :=
  .next (s.onClocked c (fun ch => ch.forestBind))

/-- BATCH_CLOSE (R35): a batch closes when 64 descriptors, the batch cap or 126 cc since its first descriptor is reached, and
its widening check runs. -/
def execBatchClose (c : Fin 8) (ctx : Fin 128) (s : State) : Out :=
  .next (s.onClocked c (fun ch => ch.batchCloseDue ctx))

/-- RUN_START (R224): a run of a slot side begins when its batch has closed and the previous run of the side has completed. -/
def execRunStart (c : Fin 8) (ctx : Fin 128) (s : State) : Out :=
  .next (s.onClocked c (fun ch => ch.runStart ctx))

/-- RUN_COMPLETE (R227): a run's last command completes, its verdicts are composed, or the run fails and its descriptors get no
result. -/
def execRunComplete (c : Fin 8) (ctx : Fin 128) (s : State) : Out :=
  .next (s.onClocked c (fun ch => ch.runComplete ctx))

/-- STAGE_REQUEST (R237): a write of CHN_STAGE_REQ.start begins staging a package into a slot's standby side, or fails at step
1. -/
def execStageRequest (c : Fin 8) (src : Option (Fin 17)) (v : Word) (s : State) : Out :=
  .next (s.writeRow src c (R.CHN_STAGE_REQ) v (fun ch => ch.stageRequest (writerInst src) v))

/-- STAGE_COMPLETE (R237): staging finishes its checks, allocation and copies and the standby side becomes STAGED, or fails and
returns to EMPTY. -/
def execStageComplete (c : Fin 8) (err : Bool) (s : State) : Out :=
  .next (s.onClocked c (fun ch => ch.stageComplete err))

/-- SWAP (R238): a SWAP slot command makes a STAGED standby side SWAP_PENDING. -/
def execSwap (c : Fin 8) (src : Option (Fin 17)) (n : Fin 64) (s : State) : Out :=
  .next (s.wordRow src c (R.CHN_SLOT_CMD n) (fun _ => slotCmdWord 1) (fun _ ch => ch.slotCmd (writerInst src) n 1))

/-- DISCARD (R238): a DISCARD slot command stops staging and returns the standby side to EMPTY. -/
def execDiscard (c : Fin 8) (src : Option (Fin 17)) (n : Fin 64) (s : State) : Out :=
  .next (s.wordRow src c (R.CHN_SLOT_CMD n) (fun _ => slotCmdWord 2) (fun _ ch => ch.slotCmd (writerInst src) n 2))

/-- UNLOAD (R238): an UNLOAD slot command arranges for the serving side to leave at the next epoch boundary. -/
def execUnload (c : Fin 8) (src : Option (Fin 17)) (n : Fin 64) (s : State) : Out :=
  .next (s.wordRow src c (R.CHN_SLOT_CMD n) (fun _ => slotCmdWord 3) (fun _ ch => ch.slotCmd (writerInst src) n 3))

/-- SWAP_TAKE_EFFECT (R239): at the first epoch boundary at least 64 cc after acceptance the sides exchange and the old side
becomes RETIRING. -/
def execSwapTakeEffect (c : Fin 8) (n : Fin 64) (s : State) : Out :=
  .next (s.onClocked c (fun ch => ch.swapTakeEffect n))

/-- SIDE_RELEASE (R241): a RETIRING side whose runs, banks and last epoch are done is freed and becomes EMPTY. -/
def execSideRelease (c : Fin 8) (n : Fin 64) (s : State) : Out :=
  .next (s.onClocked c (fun ch => ch.sideRelease n))

/-- SEAL_REFETCH_COMPLETE (R233): a tile refetched from the golden or backup copy verifies and the load resumes, or the side is
quarantined. -/
def execSealRefetchComplete (c : Fin 8) (s : State) : Out :=
  .next (s.onClocked c (fun ch => ch.sealRefetchComplete))

end Sys2Proof.Machine
end

