-- ==== Sys2Proof/Machine/ObserveRows.lean ====
section
/-!
DEFINITION. Machine/ObserveRows.lean: the meanings of the commands of observation (chapter 17).
-/

namespace Sys2Proof.Machine

open Sys2Proof

/-- OBS_FREEZE (R430): a write of OBS_FREEZE.freeze freezes every counter of the channel on the next core-clock edge. -/
def execObsFreeze (c : Fin 8) (src : Option (Fin 17)) (s : State) : Out :=
  .next (s.wordRow src c (R.OBS_FREEZE) (fun _ => setF 0 F.OBS_FREEZE_freeze 1) (fun _ ch => ch.obsFreeze))

/-- OBS_UNFREEZE (R430): a write of OBS_FREEZE.unfreeze makes the live counter values readable again. -/
def execObsUnfreeze (c : Fin 8) (src : Option (Fin 17)) (s : State) : Out :=
  .next (s.wordRow src c (R.OBS_FREEZE) (fun _ => setF 0 F.OBS_FREEZE_unfreeze 1) (fun _ ch => ch.unfreeze))

/-- OBS_ARM (R430): a write of OBS_FREEZE.arm arms a timed freeze at OBS_FREEZE_AT. -/
def execObsArm (c : Fin 8) (src : Option (Fin 17)) (s : State) : Out :=
  .next (s.wordRow src c (R.OBS_FREEZE) (fun _ => setF 0 F.OBS_FREEZE_arm 1) (fun _ ch => ch.obsArm))

/-- TIMED_FREEZE (R430): at the first core-clock edge at or after the armed time the channel freezes; without a running core clock
the always-on domain does. -/
def execTimedFreeze (c : Fin 8) (s : State) : Out :=
  .next (s.onLive c (fun ch => ch.timedFreeze))

/-- SUP_FREEZE (R431): a write of SUP_FREEZE.freeze freezes the included channels within 2 ac of each other. -/
def execSupFreeze (mask : BitVec 8) (follow : Bool) (s : State) : Out :=
  .next (s.supFreezeWrite (supFreezeWord mask.toNat follow true))

/-- SUP_UNFREEZE (R431): a write of SUP_FREEZE.unfreeze unfreezes the included channels. -/
def execSupUnfreeze (mask : BitVec 8) (follow : Bool) (s : State) : Out :=
  .next (s.supFreezeWrite (supFreezeWord mask.toNat follow false))

/-- TRACE_SAMPLE (R435): every 2^sample_log2 cc each selected unit writes a trace sample, or drops it beyond the share. -/
def execTraceSample (c : Fin 8) (pcs : List Nat) (s : State) : Out :=
  .next (s.onClocked c (fun ch => ch.traceSample pcs))

/-- OBS_MARKER_WRITE (R435): a write of OBS_MARKER emits a MARKER trace record. -/
def execObsMarkerWrite (c : Fin 8) (src : Option (Fin 17)) (v : Word) (s : State) : Out :=
  .next (s.writeRow src c (R.OBS_MARKER) v (fun ch => ch.obsMarker v))

/-- RUN_HUNG (R439): a run not completed run_limit µs after it began raises EV_OBS_RUN_HUNG and writes a MARKER. -/
def execRunHung (c : Fin 8) (ctx : Fin 128) (s : State) : Out :=
  .next (s.onClocked c (fun ch => ch.runHung ctx))

/-- TELEMETRY_SUMMARY (R428): at the end of each summary period every tenant gets a summary record in its telemetry queue. -/
def execTelemetrySummary (c : Fin 8) (s : State) : Out :=
  .next (s.onClocked c (fun ch => ch.telemetrySummary))

/-- HANG_DECLARE (R439): a write of OBS_DUMP_CMD.declare makes the Lodestar set the latch with reason LODESTAR. -/
def execHangDeclare (c : Fin 8) (src : Option (Fin 17)) (s : State) : Out :=
  .next (s.wordRow src c (R.OBS_DUMP_CMD) (fun _ => setF 0 F.OBS_DUMP_CMD_declare 1) (fun _ ch => ch.hangDeclare))

/-- DUMP_START (R440): a fail-stop with dump_on_fail, or a write of OBS_DUMP_CMD.start, stops issue and quiesces the units for
a dump. -/
def execDumpStart (c : Fin 8) (src : Option (Fin 17)) (auto : Bool) (s : State) : Out :=
  .next (s.dumpRow src c auto)

/-- DUMP_QUIESCE_TIMEOUT (R440): 4 µs after the freeze edge the units still busy are recorded not_quiesced and the dump is
written. -/
def execDumpQuiesceTimeout (c : Fin 8) (s : State) : Out :=
  .next (s.onLive c (fun ch => ch.dumpTimeout))

/-- DUMP_COMPLETE (R440): the dump sections are written, valid is set and EV_OBS_DUMP_DONE is raised. -/
def execDumpComplete (c : Fin 8) (s : State) : Out :=
  .next (s.onLive c (fun ch => ch.dumpComplete))

/-- OBS_DEBUG_WRITE (R438): a write of OBS_DEBUG sets or clears debug mode once while no tenant exists, or is ignored. -/
def execObsDebugWrite (c : Fin 8) (src : Option (Fin 17)) (v : Word) (s : State) : Out :=
  .next (s.writeRow src c (R.OBS_DEBUG) v (fun ch => ch.debugWrite v))

end Sys2Proof.Machine
end

