-- ==== Sys2Proof/Machine/PackageRows.lean ====
section
/-!
DEFINITION. Machine/PackageRows.lean: the meanings of the commands of the package pins, supplies, time of day and the TAP (chapter 19).
-/

namespace Sys2Proof.Machine

open Sys2Proof

/-- CHANNEL_RAMP_START (R422): c × 100 µs after PORN release, or after another ramp ends, channel c ramps its regulators and
boots. -/
def execChannelRampStart (c : Fin 8) (ref25 : Bool) (s : State) : Out :=
  .next (s.rampStart c ref25)

/-- CHANNEL_POWER_ON (R422): a write of SUP_CHN_CTRL_c.power_on powers a channel from Off and boots it. -/
def execChannelPowerOn (c : Fin 8) (s : State) : Out :=
  .next (s.powerOn c)

/-- CHANNEL_POWER_OFF (R422): a write of SUP_CHN_CTRL_c.power_off takes the channel to Off within 20 µs. -/
def execChannelPowerOff (c : Fin 8) (s : State) : Out :=
  .next (s.powerOff c)

/-- CHANNEL_RESET (R422): a channel reset clears the channel's registers, keys, regions and tenants and asserts for 10 µs
before boot. -/
def execChannelReset (c : Fin 8) (s : State) : Out :=
  .next (s.supReset c)

/-- PPS_EDGE (R462): a PPS edge announced by an accepted message steps or slews the Sidereal counter. -/
def execPpsEdge (c : Fin 8) (s : State) : Out :=
  .next (s.onLive c (fun ch => ch.ppsEdge))

/-- TOD_MESSAGE (R461): a time-of-day message is received and accepted, or discarded with EV_LDS_TOD_BAD. -/
def execTodMessage (c : Fin 8) (bytes : List Byte) (s : State) : Out :=
  .next (s.onLive c (fun ch => ch.todMessage bytes))

/-- PPS_LOST (R462): no accepted edge for 1.5 s makes the counter free-run and raises EV_LDS_PPS_LOST. -/
def execPpsLost (c : Fin 8) (s : State) : Out :=
  .next (s.onLive c (fun ch => ch.ppsLost))

/-- SAMPLE_PRELOAD (R465): the SAMPLE/PRELOAD instruction samples or preloads the boundary register. -/
def execSamplePreload (sampled : List Bool) (preload : List Bool) (s : State) : Out :=
  .next (s.samplePreload sampled preload)

/-- VIN_LOW (R458): VIN below 1.62 V for 1 µs sets every powered channel's latch, suspends auto restarts and raises
EV_SUP_VIN_LOW. -/
def execVinLow (s : State) : Out :=
  .next (s.vinLow)

/-- VIN_RECOVERED (R458): VIN within range for 10 ms resumes automatic restarts. -/
def execVinRecovered (s : State) : Out :=
  .next (s.vinRecovered)

/-- PACKAGE_POWER_ON (R457): release of PORN starts the hub die and schedules the channel ramps. -/
def execPackagePowerOn (s : State) : Out :=
  .next (s.packageOn)

/-- TAP_RESET (R465): TRST_N low or VIN rising resets the TAP to BYPASS. -/
def execTapReset (s : State) : Out :=
  .next (s.tapReset)

/-- EXTEST (R465): the EXTEST instruction drives the pins from the boundary register while PORN is low. -/
def execExtest (s : State) : Out :=
  .next (s.tap .extest)

/-- EXTEST_PULSE (R465): the EXTEST_PULSE instruction tests AC-coupled lanes under IEEE 1149.6 while PORN is low. -/
def execExtestPulse (s : State) : Out :=
  .next (s.tap .extestPulse)

/-- EXTEST_TRAIN (R465): the EXTEST_TRAIN instruction tests AC-coupled lanes with pulse trains while PORN is low. -/
def execExtestTrain (s : State) : Out :=
  .next (s.tap .extestTrain)

/-- CLAMP (R465): the CLAMP instruction holds the pins at boundary values while PORN is low. -/
def execClamp (s : State) : Out :=
  .next (s.tap .clamp)

/-- HIGHZ (R465): the HIGHZ instruction places the outputs in high impedance while PORN is low. -/
def execHighz (s : State) : Out :=
  .next (s.tap .highz)

/-- BYPASS (R465): the BYPASS instruction, and every other opcode, selects the one-bit bypass register. -/
def execBypass (s : State) : Out :=
  .next (s.tap .bypass)

/-- PORN_LOW (R457): PORN is driven low, holding the whole device in reset and letting the JTAG EXTEST-class instructions act
on the pins. -/
def execPornLow (s : State) : Out :=
  .next (s.pornLow)

/-- VIN_POWER_LOSS (R458): VIN falls below 1.50 V and the device behaves as unpowered, so the next rise of VIN is a package
power-on. -/
def execVinPowerLoss (s : State) : Out :=
  .next (s.vinLoss)

end Sys2Proof.Machine
end

