-- ==== Sys2Proof/Machine/PolicyRows.lean ====
section
/-!
DEFINITION. Machine/PolicyRows.lean: the meanings of the commands of the Verdict and Policy Engine (chapter 11).
-/

namespace Sys2Proof.Machine

open Sys2Proof

/-- GATE_ENTRY_START (R308): at each gate entry's start time the unit owners and host masks change and cut chains are saved or
discarded. -/
def execGateEntryStart (c : Fin 8) (s : State) : Out :=
  .next (s.onClocked c (fun ch => ch.gateEntryStart))

/-- VPE_GATE_COMMIT (R309): a write of VPE_GATE_CTRL.commit makes the admin list pending, or is refused. -/
def execVpeGateCommit (c : Fin 8) (src : Option (Fin 17)) (v : Word) (s : State) : Out :=
  .next (s.writeRow src c (R.VPE_GATE_CTRL) v (fun ch => ch.gateCtrlWrite v))

/-- GATE_LIST_SWITCH (R308): at the first base_time plus k cycle_time after a commit the pending list becomes operational. -/
def execGateListSwitch (c : Fin 8) (s : State) : Out :=
  .next (s.onClocked c (fun ch => ch.gateSwitch))

/-- WFQ_ISSUE (R306): each cycle a gated unit issues the head of the eligible queue with the smallest start tag and advances
its virtual time. -/
def execWfqIssue (c : Fin 8) (unit : Fin 36) (s : State) : Out :=
  .next (s.onClocked c (fun ch => ch.wfqIssue unit))

/-- FOREST_REENTRY (R311): a parked descriptor of a tenant holding the Forest slot re-enters key distribution in a free lane
cycle. -/
def execForestReentry (c : Fin 8) (s : State) : Out :=
  .next (s.onClocked c (fun ch => ch.forestReentry))

/-- VPE_IND_READ (R318): a start of a read through VPE_IND_SEL returns a meter, action entry or admin gate entry. -/
def execVpeIndRead (c : Fin 8) (src : Option (Fin 17)) (v : Word) (s : State) : Out :=
  .next (s.writeRow src c (R.VPE_IND_SEL) v (fun ch => ch.vpeAccess (writerInst src) v false))

/-- VPE_IND_WRITE (R318): a start of a write through VPE_IND_SEL writes a meter, action entry or admin gate entry, or refuses
it. -/
def execVpeIndWrite (c : Fin 8) (src : Option (Fin 17)) (v : Word) (s : State) : Out :=
  .next (s.writeRow src c (R.VPE_IND_SEL) v (fun ch => ch.vpeAccess (writerInst src) v true))

/-- VPE_GROUP_WRITE (R312): a write of VPE_GROUP_g defines or changes an isolation group, or is refused while relied on. -/
def execVpeGroupWrite (c : Fin 8) (src : Option (Fin 17)) (g : Fin 16) (v : Word) (s : State) : Out :=
  .next (s.writeRow src c (R.VPE_GROUP g) v (fun ch => ch.groupWrite g v))

/-- VPE_TPOL_WRITE (R317): a write of a tenant's verdict policy is applied or refused for a bad slot or code. -/
def execVpeTpolWrite (c : Fin 8) (src : Option (Fin 17)) (i : Fin 16) (v : Word) (s : State) : Out :=
  .next (s.writeRow src c (R.VPE_TPOL i) v (fun ch => ch.tpolWrite i v))

/-- VPE_SHP_WRITE (R314): a shaper configuration write takes effect at once and fills or empties the bucket. -/
def execVpeShpWrite (c : Fin 8) (src : Option (Fin 17)) (i : Fin 16) (q : Fin 2) (v : Word) (s : State) : Out :=
  .next (s.writeRow src c (R.VPE_SHP i q) v (fun ch => ch.shpWrite i q v))

/-- HOST_QUEUE_SEND (R313): a host-bound queue's head record leaves when its host_mask bit is set and its shaper holds enough
tokens. -/
def execHostQueueSend (c : Fin 8) (i : Fin 16) (q : Fin 2) (s : State) : Out :=
  .next (s.onClocked c (fun ch => ch.hostQueueSend i q))

/-- SHAPER_REFILL_TICK (R315): with xitar4_refill set, every 1,000 ns of Sidereal time each shaper applies latched writes and
refills. -/
def execShaperRefillTick (c : Fin 8) (s : State) : Out :=
  .next (s.onClocked c (fun ch => ch.shpTick))

end Sys2Proof.Machine
end

