-- ==== Sys2Proof/Machine/PortRows.lean ====
section
/-!
DEFINITION. Machine/PortRows.lean: the meanings of the commands of the descriptor port and the Parser (chapters 02, 03).
-/

namespace Sys2Proof.Machine

open Sys2Proof

/-- DESCRIPTOR_RECEIVE (R48): a whole native-framing descriptor record is received, checked and stored in the Carafe, or
answered as malformed. -/
def execDescriptorReceive (c : Fin 8) (bytes : List Byte) (filler : Bool) (s : State) : Out :=
  .next (s.onLive c (fun ch => ch.descriptorReceive bytes filler))

/-- MIRROR_DESCRIPTOR_FRAME (R52): a mirror-mode descriptor frame is received, checked and stored in the Carafe. -/
def execMirrorDescriptorFrame (c : Fin 8) (bytes : List Byte) (s : State) : Out :=
  .next (s.onLive c (fun ch => ch.mirrorFrame bytes))

/-- FOREIGN_FRAME (R52): a mirror frame whose EtherType is not 0x88B5 is discarded unanswered and counted. -/
def execForeignFrame (c : Fin 8) (s : State) : Out :=
  .next (s.onLive c (fun ch => ch.foreignFrame))

/-- MIRROR_RESERVED_FRAME (R53): a received frame of subtype 0x02, a reserved subtype or another version is discarded and
counted. -/
def execMirrorReservedFrame (c : Fin 8) (s : State) : Out :=
  .next (s.onLive c (fun ch => ch.mirrorReserved))

/-- PAUSE_FRAME_RECEIVE (R54): a received PAUSE frame is ignored and counted in PDP_CNT_PAUSE_RX. -/
def execPauseFrameReceive (c : Fin 8) (s : State) : Out :=
  .next (s.onLive c (fun ch => ch.pauseReceive))

/-- PAUSE_REPEAT (R54): every 10 µs while occupancy stays above 7 MiB the PAUSE frame is repeated; below it a PAUSE with quanta
0 is sent. -/
def execPauseRepeat (c : Fin 8) (s : State) : Out :=
  .next (s.onLive c (fun ch => ch.pauseRepeat))

/-- TIME_WORD_RECEIVE (R46): a switch time word updates the timestamp-extension base, or is held back as a time-word jump; the
first one in CREDIT_INIT enters SERVING. -/
def execTimeWordReceive (c : Fin 8) (sec : BitVec 48) (ns : BitVec 32) (s : State) : Out :=
  .next (s.onLive c (fun ch => ch.timeWord sec.toNat ns.toNat))

/-- IGNORED_CONTROL_WORD (R45): a received control word of reserved type, another version, or a credit grant from the switch is
ignored and counted. -/
def execIgnoredControlWord (c : Fin 8) (s : State) : Out :=
  .next (s.onLive c (fun ch => ch.ignoredControl))

/-- ALIGN_GROUP_RECEIVE (R50): an alignment group is received and used to deskew the lanes. -/
def execAlignGroupReceive (c : Fin 8) (order : List Nat) (s : State) : Out :=
  .next (s.onLive c (fun ch => ch.alignReceive order))

/-- DEVICE_TIME_WORD_SEND (R46): every 1,000 ns the device sends a time word carrying its Sidereal time. -/
def execDeviceTimeWordSend (c : Fin 8) (s : State) : Out :=
  .next (s.onLive c (fun ch => ch.timeSend))

/-- ALIGN_GROUP_SEND (R50): every 8,192 codewords the device sends an alignment group of align words on all lanes. -/
def execAlignGroupSend (c : Fin 8) (s : State) : Out :=
  .next (s.onLive c (fun ch => ch.alignSend))

/-- PDP_PORT_ENABLE (R58): a write of 1 to PDP_CTRL.port_enable moves the port from DISABLED to ALIGN. -/
def execPdpPortEnable (c : Fin 8) (src : Option (Fin 17)) (s : State) : Out :=
  .next (s.wordRow src c (R.PDP_CTRL) (fun w => setF w F.PDP_CTRL_port_enable 1) (fun _ ch => ch.portEnable))

/-- PDP_PORT_DISABLE (R58): a write of 0 to port_enable enters DISABLED, discards the Carafe and unframed verdicts, and asserts
the fail pin. -/
def execPdpPortDisable (c : Fin 8) (src : Option (Fin 17)) (s : State) : Out :=
  .next (s.wordRow src c (R.PDP_CTRL) (fun w => setF w F.PDP_CTRL_port_enable 0) (fun _ ch => ch.portDisableCmd))

/-- PDP_LANES_ALIGNED (R58): all lanes reach codeword lock and deskew, or the mirror PCS link comes up, and the port moves to
CREDIT_INIT or SERVING. -/
def execPdpLanesAligned (c : Fin 8) (s : State) : Out :=
  .next (s.onLive c (fun ch => ch.lanesAligned))

/-- PDP_ALIGNMENT_LOST (R58): loss of alignment, or more than 64 uncorrectable codewords in 1 µs, returns the port from SERVING
to ALIGN. -/
def execPdpAlignmentLost (c : Fin 8) (locked : BitVec 8) (s : State) : Out :=
  .next (s.onLive c (fun ch => ch.alignmentLost locked.toNat))

/-- CRF_RESET_HIGH_WATER (R64): a write of 1 to CRF_STATUS.reset_high_water sets high_water to the current occupancy. -/
def execCrfResetHighWater (c : Fin 8) (src : Option (Fin 17)) (s : State) : Out :=
  .next (s.wordRow src c (R.CRF_STATUS) (fun w => setF w F.CRF_STATUS_reset_high_water 1) (fun _ ch => ch.resetHighWater))

/-- PRS_IND_READ (R73): a start of a read through PRS_IND_SEL returns one stage entry or default action. -/
def execPrsIndRead (c : Fin 8) (src : Option (Fin 17)) (v : Word) (s : State) : Out :=
  .next (s.writeRow src c (R.PRS_IND_SEL) v (fun ch => ch.prsAccess (writerInst src) v false))

/-- PRS_IND_WRITE (R73): a start of a write through PRS_IND_SEL commits one stage entry or default action between lookups, or
refuses it. -/
def execPrsIndWrite (c : Fin 8) (src : Option (Fin 17)) (v : Word) (s : State) : Out :=
  .next (s.writeRow src c (R.PRS_IND_SEL) v (fun ch => ch.prsAccess (writerInst src) v true))

/-- CHANNEL_DOWN_REPEAT (R59): every 1,000 ns while not serving a CHANNEL_DOWN record is resent on every working lane. -/
def execChannelDownRepeat (c : Fin 8) (s : State) : Out :=
  .next (s.onLive c (fun ch => ch.downRepeat))

/-- UNCORRECTABLE_CODEWORD (R62): a descriptor lane delivers an uncorrectable codeword or an invalid 00 block header, and the
native-framing receiver loses framing and discards words until R49 regains it. -/
def execUncorrectableCodeword (c : Fin 8) (lane : Fin 8) (codeword : Bool) (words : Nat) (s : State) : Out :=
  .next (s.onLive c (fun ch => ch.badCodeword lane codeword words))

/-- IDLE_CONTROL_WORD (R49): a received control block of idle words ends a framing loss, so framing is regained at the next
data block. -/
def execIdleControlWord (c : Fin 8) (s : State) : Out :=
  .next (s.onLive c (fun ch => ch.idleControl))

end Sys2Proof.Machine
end

