-- ==== Sys2Proof/Machine/PowerRows.lean ====
section
/-!
DEFINITION. Machine/PowerRows.lean: the meanings of the commands of power and recovery (chapter 16).
-/

namespace Sys2Proof.Machine

open Sys2Proof

/-- IDLE_ENTRY (R405): after the Idle conditions hold for 64 cc the channel gates its fast clocks and enters Idle. -/
def execIdleEntry (c : Fin 8) (s : State) : Out :=
  .next (s.onLive c (fun ch => ch.idleEntry))

/-- IDLE_EXIT (R405): a failed Idle condition or a due timer returns the channel to Run in 40 ns. -/
def execIdleExit (c : Fin 8) (s : State) : Out :=
  .next (s.onLive c (fun ch => ch.idleExit))

/-- PWR_GO_RUN (R405): a go with target RUN wakes a channel from Doze or Vault. -/
def execPwrGoRun (c : Fin 8) (src : Option (Fin 17)) (s : State) : Out :=
  .next (s.wordRow src c (R.PWR_CTRL) (goWord 0) (fun v ch => ch.pwrCtrlWrite v))

/-- PWR_GO_DOZE (R405): a go with target DOZE enters Doze when conditions hold, or is refused. -/
def execPwrGoDoze (c : Fin 8) (src : Option (Fin 17)) (s : State) : Out :=
  .next (s.wordRow src c (R.PWR_CTRL) (goWord 1) (fun v ch => ch.pwrCtrlWrite v))

/-- PWR_GO_VAULT (R405): a go with target VAULT enters Vault when conditions hold, or is refused. -/
def execPwrGoVault (c : Fin 8) (src : Option (Fin 17)) (s : State) : Out :=
  .next (s.wordRow src c (R.PWR_CTRL) (goWord 2) (fun v ch => ch.pwrCtrlWrite v))

/-- POWER_ENTRY_COMPLETE (R403): the hardware sequence into Doze or Vault completes with memories in self-refresh. -/
def execPowerEntryComplete (c : Fin 8) (s : State) : Out :=
  .next (s.onLive c (fun ch => ch.entryComplete))

/-- DOZE_ACCESS_WAKE (R406): a host access to a channel in Doze or Vault is held and starts a wake. -/
def execDozeAccessWake (c : Fin 8) (inst : Fin 17) (off : Nat) (v : Option Word) (s : State) : Out :=
  .next (s.dozeAccess c inst off v)

/-- WAKE_COMPLETE (R406): the wake sequence ends and the channel reaches Idle, releasing held accesses. -/
def execWakeComplete (c : Fin 8) (s : State) : Out :=
  .next (s.bridgeNote c (s.onLive c (fun ch => ch.wakeComplete (s.priv c))))

/-- PWR_OPP_REQUEST (R408): a write of PWR_OPP_REQ starts a change of operating point after any change in progress. -/
def execPwrOppRequest (c : Fin 8) (src : Option (Fin 17)) (v : Word) (s : State) : Out :=
  .next (s.writeRow src c (R.PWR_OPP_REQ) v (fun ch => ch.oppRequest v))

/-- OPP_SWITCH (R408): the core clock divider switches, holding dispatch for 64 cc, after the raise ramp or before the lower
ramp. -/
def execOppSwitch (c : Fin 8) (s : State) : Out :=
  .next (s.onLive c (fun ch => ch.oppSwitch))

/-- OPP_RAMP_COMPLETE (R408): the VDD_CH ramp to the new point's voltage ends. -/
def execOppRampComplete (c : Fin 8) (s : State) : Out :=
  .next (s.onLive c (fun ch => ch.oppRamped))

/-- THERMAL_SAMPLE (R409): every 10 µs the junction sensors are read and warnings, throttling or a thermal fail-stop follow. -/
def execThermalSample (c : Fin 8) (t0 : BitVec 8) (t1 : BitVec 8) (t2 : BitVec 8) (t3 : BitVec 8) (s : State) : Out :=
  .next (s.onLive c (fun ch => ch.thermalSample (max (max t0.toNat t1.toNat) (max t2.toNat t3.toNat))))

/-- THROTTLE_STEP (R409): every 100 µs while hot the thermal floor is lowered one point, to P3 at most. -/
def execThrottleStep (c : Fin 8) (s : State) : Out :=
  .next (s.onLive c (fun ch => ch.throttleStep))

/-- FLOOR_RAISE_STEP (R409): every 1 ms after cooling the thermal floor is raised one point. -/
def execFloorRaiseStep (c : Fin 8) (s : State) : Out :=
  .next (s.onLive c (fun ch => ch.floorRaise))

/-- WATCH_FRAME_SEND (R413): every 10 µs the Lodestar sends a watch frame to each neighbour. -/
def execWatchFrameSend (c : Fin 8) (s : State) : Out :=
  .next (s.onLive c (fun ch => ch.frameSend))

/-- WATCH_FRAME_RECEIVE (R413): a neighbour's watch frame is checked and its state and temperature recorded. -/
def execWatchFrameReceive (c : Fin 8) (next : Bool) (frame : BitVec 64) (s : State) : Out :=
  .next (s.onLive c (fun ch => ch.frameReceive next frame.toNat))

/-- WATCH_FRAME_MISS (R414): a frame not arriving within 0.8 µs of its time counts as missed and enough misses reset the
neighbour's Lodestar. -/
def execWatchFrameMiss (c : Fin 8) (next : Bool) (s : State) : Out :=
  .next (s.watchMiss c next)

/-- LODESTAR_WATCHDOG (R414): a Lodestar that has sent no frame for 100 µs is reset by its own watchdog. -/
def execLodestarWatchdog (c : Fin 8) (s : State) : Out :=
  .next (s.onLive c (fun ch => ch.watchdog))

/-- LODESTAR_RESET (R415): a Lodestar reset clears its core and data memory and the channel enters Safe Serve. -/
def execLodestarReset (c : Fin 8) (s : State) : Out :=
  .next (s.onLive c (fun ch => ch.lodestarReset))

/-- LODESTAR_RESTART_COMPLETE (R415): the boot ROM verifies the firmware hash and restarts the Lodestar firmware, or stops it.
-/
def execLodestarRestartComplete (c : Fin 8) (flips : List (Nat × Byte)) (s : State) : Out :=
  .next (s.onLive c (fun ch => ch.lodestarRestarted flips))

/-- SAFE_SERVE_END (R416): the restarted firmware completes pending remaps and restarts the sweeps, and Safe Serve ends. -/
def execSafeServeEnd (c : Fin 8) (s : State) : Out :=
  .next (s.onLive c (fun ch => ch.safeServeEnd))

/-- DISPATCH_STALL (R419): 25 ac without a dispatch while the Carafe holds a descriptor sets the fail-stop latch with reason
STALL. -/
def execDispatchStall (c : Fin 8) (s : State) : Out :=
  .next (s.onLive c (fun ch => ch.dispatchStall))

/-- SAFE_SERVE_TIMEOUT (R419): safe Serve lasting safe_serve_limit ms sets the fail-stop latch. -/
def execSafeServeTimeout (c : Fin 8) (s : State) : Out :=
  .next (s.onLive c (fun ch => ch.safeTimeout))

/-- VDD_CH_FAULT (R419): VDD_CH more than 50 mV from its setpoint for 1 µs outside a ramp sets the latch with reason SUPPLY. -/
def execVddChFault (c : Fin 8) (s : State) : Out :=
  .next (s.onLive c (fun ch => ch.vddFault))

/-- CORE_PLL_UNLOCK (R419): loss of core PLL lock sets the fail-stop latch with reason CLOCK. -/
def execCorePllUnlock (c : Fin 8) (s : State) : Out :=
  .next (s.onLive c (fun ch => ch.pllUnlock))

/-- LODESTAR_FAIL_DECLARE (R419): firmware declares the channel unable to serve and sets the latch with reason LODESTAR. -/
def execLodestarFailDeclare (c : Fin 8) (s : State) : Out :=
  .next (s.onLive c (fun ch => ch.failDeclare))

/-- AUTO_RESTART (R421): 10 µs after a fail-stop with auto_restart set, the channel is reset by its Lodestar or a neighbour, at
most 3 times an hour. -/
def execAutoRestart (c : Fin 8) (s : State) : Out :=
  .next (s.autoRestart c)

end Sys2Proof.Machine
end

