-- ==== Sys2Proof/Machine/RegisterRows.lean ====
section
/-!
DEFINITION. Machine/RegisterRows.lean: the meanings of the the generic register write (R11).
-/

namespace Sys2Proof.Machine

open Sys2Proof

/-- REGISTER_WRITE (R11): a host or firmware write to a register field that has no behaviour of its own updates the field
according to its access type, lock and range checks. -/
def execRegisterWrite (who : Agent) (off : Nat) (v : Word) (whole : Bool) (s : State) : Out :=
  .next (s.registerWrite who off v whole)

end Sys2Proof.Machine
end

