-- ==== Sys2Proof/Machine/TrainRows.lean ====
section
/-!
DEFINITION. Machine/TrainRows.lean: the meanings of the commands of the training contexts (chapter 10).
-/

namespace Sys2Proof.Machine

open Sys2Proof

/-- FEEDER_SEND_BATCH (R276): the feeder sends a BATCH when batch_rows are admitted or the window passes with at least
min_rows. -/
def execFeederSendBatch (c : Fin 8) (g : Fin 4) (s : State) : Out :=
  .next (s.onClocked c (fun ch => ch.feederBatch g))

/-- FEEDER_SEND_PASS (R276): the feeder sends a PASS when batch_window passes with fewer than min_rows rows. -/
def execFeederSendPass (c : Fin 8) (g : Fin 4) (s : State) : Out :=
  .next (s.onClocked c (fun ch => ch.feederPass g))

/-- TRAINING_STEP_START (R280): a training context writes its seed and starts a step on the next BATCH when no other step of
its tenant runs. -/
def execTrainingStepStart (c : Fin 8) (g : Fin 4) (s : State) : Out :=
  .next (s.onClocked c (fun ch => ch.stepStart g))

/-- TRAINING_STEP_COMPLETE (R278): a training step's refresh completes, or the step is abandoned, and the step number advances.
-/
def execTrainingStepComplete (c : Fin 8) (g : Fin 4) (s : State) : Out :=
  .next (s.onClocked c (fun ch => ch.stepComplete g))

/-- CHECKPOINT_DIGEST_READY (R282): after a compare step the checkpoint is written and hashed, and a DIGEST is sent to the
other members. -/
def execCheckpointDigestReady (c : Fin 8) (g : Fin 4) (s : State) : Out :=
  .next (s.onClocked c (fun ch => ch.digestReady g))

/-- VOTE_TIMEOUT (R283): vote_timeout ms after a member's digest is ready it decides the vote with the digests it holds. -/
def execVoteTimeout (c : Fin 8) (g : Fin 4) (s : State) : Out :=
  .next (s.onClocked c (fun ch => ch.voteTimeout g))

/-- EXPEL_SELF_TEST_COMPLETE (R286): an expelled member's quadrant tests and digest check end and it becomes REJOINING or
STOPPED. -/
def execExpelSelfTestComplete (c : Fin 8) (g : Fin 4) (bad : BitVec 16) (s : State) : Out :=
  .next (s.onClocked c (fun ch => ch.expelTested g bad.toNat))

/-- PUBLICATION (R289): when the serving slot's standby is EMPTY, an agreed checkpoint is quantised into a new standby side and
swapped in. -/
def execPublication (c : Fin 8) (g : Fin 4) (s : State) : Out :=
  .next (s.onClocked c (fun ch => ch.publication g))

/-- TRN_CONTEXT_ENABLE (R288): a write of TRN_CFG_g.enable starts or stops a training context, rejoining or starting at step 0.
-/
def execTrnContextEnable (c : Fin 8) (src : Option (Fin 17)) (g : Fin 4) (v : Word) (s : State) : Out :=
  .next (s.writeRow src c (R.TRN_CFG g) v (fun ch => ch.trnCfgWrite g v (ch.trnHeld g)))

/-- BATCH (R277): a received BATCH for the expected step is logged and run, or discarded as foreign. -/
def execBatch (c : Fin 8) (p : Fin 3) (h : MsgHead) (payload : List Byte) (s : State) : Out :=
  .next (s.onClocked c (fun ch => ch.zDeliver p 5 h payload (fun m ch => ch.recvBatch m)))

/-- PASS (R276): a received PASS advances the group's turn without a step. -/
def execPass (c : Fin 8) (p : Fin 3) (h : MsgHead) (payload : List Byte) (s : State) : Out :=
  .next (s.onClocked c (fun ch => ch.zDeliver p 6 h payload (fun m ch => ch.recvPass m)))

/-- DIGEST (R283): a received DIGEST for step c is held for the vote. -/
def execDigest (c : Fin 8) (p : Fin 3) (h : MsgHead) (payload : List Byte) (s : State) : Out :=
  .next (s.onClocked c (fun ch => ch.zDeliver p 7 h payload (fun m ch => ch.recvDigest m)))

/-- DECISION (R283): a received DECISION is adopted if its agreeing set is larger or equal from a lower rank, and can make a
LONE member rejoin. -/
def execDecision (c : Fin 8) (p : Fin 3) (h : MsgHead) (payload : List Byte) (s : State) : Out :=
  .next (s.onClocked c (fun ch => ch.zDeliver p 8 h payload (fun m ch => ch.recvDecision m)))

/-- CKPT_REQ (R287): a received CKPT_REQ makes the donor send the agreed checkpoint and its logged and live batches. -/
def execCkptReq (c : Fin 8) (p : Fin 3) (h : MsgHead) (payload : List Byte) (s : State) : Out :=
  .next (s.onClocked c (fun ch => ch.zDeliver p 9 h payload (fun m ch => ch.recvCkptReq m)))

/-- CKPT_DATA (R287): a received checkpoint segment is written; the last one is hashed, restored, refreshed and published, and
the member catches up. -/
def execCkptData (c : Fin 8) (p : Fin 3) (h : MsgHead) (payload : List Byte) (s : State) : Out :=
  .next (s.onClocked c (fun ch => ch.zDeliver p 10 h payload (fun m ch => ch.recvCkptData m)))

end Sys2Proof.Machine
end

