-- ==== Sys2Proof/Machine/ZorbexRows.lean ====
section
/-!
DEFINITION. Machine/ZorbexRows.lean: the meanings of the commands of the Zorbex ports (chapter 13).
-/

namespace Sys2Proof.Machine

open Sys2Proof

/-- ZLK_PORT_ENABLE (R348): a write of 1 to a Zorbex port_enable moves the port to TRAINING. -/
def execZlkPortEnable (c : Fin 8) (src : Option (Fin 17)) (p : Fin 3) (s : State) : Out :=
  .next (s.wordRow src c (R.ZLK_PORT_CTRL p) (fun w => setF w F.ZLK_PORT_CTRL_port_enable 1) (fun _ ch => ch.zEnable p))

/-- ZLK_PORT_DISABLE (R348): a write of 0 to port_enable disables the port and loses undelivered messages. -/
def execZlkPortDisable (c : Fin 8) (src : Option (Fin 17)) (p : Fin 3) (s : State) : Out :=
  .next (s.wordRow src c (R.ZLK_PORT_CTRL p) (fun w => setF w F.ZLK_PORT_CTRL_port_enable 0) (fun _ ch => ch.zDisable p))

/-- ZLK_LANES_ALIGNED (R348): all four lanes of a port align and the port enters IDENTIFY. -/
def execZlkLanesAligned (c : Fin 8) (p : Fin 3) (s : State) : Out :=
  .next (s.onClocked c (fun ch => ch.zAligned p))

/-- ZLK_IDENTITY_RECEIVE (R348): a partner identity word is checked against the expected wiring and the port goes UP after its
probes or is HELD. -/
def execZlkIdentityReceive (c : Fin 8) (p : Fin 3) (device : BitVec 8) (port : BitVec 8) (channel : BitVec 8) (topology :
    BitVec 8) (identity : BitVec 64) (s : State) : Out :=
  .next (s.onClocked c (fun ch => ch.zIdentityReceive p device.toNat port.toNat channel.toNat topology.toNat identity.toNat))

/-- ZLK_LINK_LOSS (R348): loss of alignment, excessive uncorrectable codewords or a failed replay takes the port out of UP. -/
def execZlkLinkLoss (c : Fin 8) (p : Fin 3) (s : State) : Out :=
  .next (s.onClocked c (fun ch => ch.zLoss p))

/-- ZLK_GROUP_RECEIVE (R347): a codeword group is received, delivered in order or discarded with a nak, and acknowledged. -/
def execZlkGroupReceive (c : Fin 8) (p : Fin 3) (num : BitVec 16) (bad : Bool) (blocks : List (Nat × List Byte)) (s : State) :
    Out :=
  .next (s.onClocked c (fun ch => ch.zGroup p num bad blocks))

/-- ZLK_ACK_RECEIVE (R347): an ack word frees replay groups, or with nak set starts a replay from the named group. -/
def execZlkAckReceive (c : Fin 8) (p : Fin 3) (nak : Bool) (num : BitVec 16) (s : State) : Out :=
  .next (s.onClocked c (fun ch => ch.zAck p nak num))

/-- ZLK_CREDIT_RECEIVE (R346): a credit word raises the transmit credit limit of a virtual lane. -/
def execZlkCreditReceive (c : Fin 8) (p : Fin 3) (vl : Bool) (limit : BitVec 32) (s : State) : Out :=
  .next (s.onClocked c (fun ch => ch.zCredit p vl limit.toNat))

/-- ZLK_RESERVED_CONTROL (R345): a Zorbex control word of reserved type or version is ignored and counted. -/
def execZlkReservedControl (c : Fin 8) (p : Fin 3) (s : State) : Out :=
  .next (s.onClocked c (fun ch => ch.zReserved p))

/-- PAD (R350): a PAD message fills a block and is discarded. -/
def execPad (c : Fin 8) (p : Fin 3) (h : MsgHead) (payload : List Byte) (s : State) : Out :=
  .next (s.onClocked c (fun ch => ch.zDeliver p 1 h payload (fun _ ch => ch)))

/-- SHARE (R352): a received SHARE is checked and inserted into the named entity lookup as an unconfirmed peer delta, or
refused. -/
def execShare (c : Fin 8) (p : Fin 3) (h : MsgHead) (payload : List Byte) (s : State) : Out :=
  .next (s.onClocked c (fun ch => ch.zDeliver p 2 h payload (fun m ch => ch.recvShare p m)))

/-- RETRACT (R259): a received RETRACT message undoes the named share's deltas and retracts dependent verdicts, or is ignored
as stale. -/
def execRetract (c : Fin 8) (p : Fin 3) (h : MsgHead) (payload : List Byte) (s : State) : Out :=
  .next (s.onClocked c (fun ch => ch.zDeliver p 3 h payload (fun m ch => ch.recvRetract m)))

/-- EPOCH_CLOSE (R259): a received EPOCH_CLOSE confirms that epoch's share deltas and frees their log entries, or is ignored as
stale. -/
def execEpochClose (c : Fin 8) (p : Fin 3) (h : MsgHead) (payload : List Byte) (s : State) : Out :=
  .next (s.onClocked c (fun ch => ch.zDeliver p 4 h payload (fun m ch => ch.recvClose m)))

/-- TIME_PROBE (R355): a received TIME_PROBE is answered with a TIME_RESP carrying t2, t3 and the responder's offsets. -/
def execTimeProbe (c : Fin 8) (p : Fin 3) (h : MsgHead) (payload : List Byte) (s : State) : Out :=
  .next (s.onClocked c (fun ch => ch.zDeliver p 11 h payload (fun m ch => ch.recvProbe p m)))

/-- TIME_RESP (R356): a received TIME_RESP yields an offset and delay, accepted or held back as a jump. -/
def execTimeResp (c : Fin 8) (p : Fin 3) (h : MsgHead) (payload : List Byte) (s : State) : Out :=
  .next (s.onClocked c (fun ch => ch.zDeliver p 12 h payload (fun m ch => ch.recvResp p m)))

/-- ZLK_PROBE_TIMER (R355): once per millisecond an UP port sends a TIME_PROBE. -/
def execZlkProbeTimer (c : Fin 8) (p : Fin 3) (s : State) : Out :=
  .next (s.onClocked c (fun ch => ch.zProbeTimer p))

end Sys2Proof.Machine
end

