-- ==== Sys2Proof/Machine/Dispatch.lean ====
section
/-! DEFINITION. Machine/Dispatch.lean: one arm per command. -/

namespace Sys2Proof.Machine

open Sys2Proof

def exec (i : Instr) (s : State) : Host.Outcome State Fault Refusal :=
  match i with
  | .registerWrite who off v whole => Sys2Proof.Machine.execRegisterWrite who off v whole s
  | .descriptorReceive c bytes filler => Sys2Proof.Machine.execDescriptorReceive c bytes filler s
  | .mirrorDescriptorFrame c bytes => Sys2Proof.Machine.execMirrorDescriptorFrame c bytes s
  | .foreignFrame c => Sys2Proof.Machine.execForeignFrame c s
  | .mirrorReservedFrame c => Sys2Proof.Machine.execMirrorReservedFrame c s
  | .pauseFrameReceive c => Sys2Proof.Machine.execPauseFrameReceive c s
  | .pauseRepeat c => Sys2Proof.Machine.execPauseRepeat c s
  | .timeWordReceive c sec ns => Sys2Proof.Machine.execTimeWordReceive c sec ns s
  | .ignoredControlWord c => Sys2Proof.Machine.execIgnoredControlWord c s
  | .alignGroupReceive c order => Sys2Proof.Machine.execAlignGroupReceive c order s
  | .deviceTimeWordSend c => Sys2Proof.Machine.execDeviceTimeWordSend c s
  | .alignGroupSend c => Sys2Proof.Machine.execAlignGroupSend c s
  | .pdpPortEnable c src => Sys2Proof.Machine.execPdpPortEnable c src s
  | .pdpPortDisable c src => Sys2Proof.Machine.execPdpPortDisable c src s
  | .pdpLanesAligned c => Sys2Proof.Machine.execPdpLanesAligned c s
  | .pdpAlignmentLost c locked => Sys2Proof.Machine.execPdpAlignmentLost c locked s
  | .crfResetHighWater c src => Sys2Proof.Machine.execCrfResetHighWater c src s
  | .descriptorDispatch c fixed bad => Sys2Proof.Machine.execDescriptorDispatch c fixed bad s
  | .maintenanceForce c => Sys2Proof.Machine.execMaintenanceForce c s
  | .flowFillComplete c bucket ok => Sys2Proof.Machine.execFlowFillComplete c bucket ok s
  | .coldFetchComplete c ok => Sys2Proof.Machine.execColdFetchComplete c ok s
  | .flowParityInvalidate c => Sys2Proof.Machine.execFlowParityInvalidate c s
  | .entityFillComplete c idx k bucket ok => Sys2Proof.Machine.execEntityFillComplete c idx k bucket ok s
  | .pendingKeyExpire c => Sys2Proof.Machine.execPendingKeyExpire c s
  | .insertCommand c => Sys2Proof.Machine.execInsertCommand c s
  | .promotion c => Sys2Proof.Machine.execPromotion c s
  | .agePeriodStart c idx => Sys2Proof.Machine.execAgePeriodStart c idx s
  | .sweepVisit c idx => Sys2Proof.Machine.execSweepVisit c idx s
  | .flwLockRequest c src v => Sys2Proof.Machine.execFlwLockRequest c src v s
  | .flwLockRelease c src v => Sys2Proof.Machine.execFlwLockRelease c src v s
  | .flwReleaseComplete c => Sys2Proof.Machine.execFlwReleaseComplete c s
  | .lockMaxHoldExpire c => Sys2Proof.Machine.execLockMaxHoldExpire c s
  | .lockTimeout c => Sys2Proof.Machine.execLockTimeout c s
  | .flwRegionWrite c src idx second v => Sys2Proof.Machine.execFlwRegionWrite c src idx second v s
  | .flwRegionRemove c src idx => Sys2Proof.Machine.execFlwRegionRemove c src idx s
  | .prsIndRead c src v => Sys2Proof.Machine.execPrsIndRead c src v s
  | .prsIndWrite c src v => Sys2Proof.Machine.execPrsIndWrite c src v s
  | .ldsNoteConsWrite c src idx v => Sys2Proof.Machine.execLdsNoteConsWrite c src idx v s
  | .ldsInsProdWrite c src k v => Sys2Proof.Machine.execLdsInsProdWrite c src k v s
  | .ftrProgWrite c src n v => Sys2Proof.Machine.execFtrProgWrite c src n v s
  | .ftrProgLoaded c n => Sys2Proof.Machine.execFtrProgLoaded c n s
  | .fstEnsWrite c src n part v => Sys2Proof.Machine.execFstEnsWrite c src n part v s
  | .camWindowWrite c src entry word v => Sys2Proof.Machine.execCamWindowWrite c src entry word v s
  | .camWindowCommit c src entry v => Sys2Proof.Machine.execCamWindowCommit c src entry v s
  | .camEntryUpset c entry bits => Sys2Proof.Machine.execCamEntryUpset c entry bits s
  | .leafCamRepair c => Sys2Proof.Machine.execLeafCamRepair c s
  | .ensembleBankRelease c n => Sys2Proof.Machine.execEnsembleBankRelease c n s
  | .mxePartWrite c src e second v => Sys2Proof.Machine.execMxePartWrite c src e second v s
  | .rvuPageOwnerWrite c src u idx v => Sys2Proof.Machine.execRvuPageOwnerWrite c src u idx v s
  | .mma c ctx index => Sys2Proof.Machine.execMma c ctx index s
  | .mmt c ctx index => Sys2Proof.Machine.execMmt c ctx index s
  | .mvr c ctx index => Sys2Proof.Machine.execMvr c ctx index s
  | .qnt c ctx index => Sys2Proof.Machine.execQnt c ctx index s
  | .dqt c ctx index => Sys2Proof.Machine.execDqt c ctx index s
  | .rot c ctx index => Sys2Proof.Machine.execRot c ctx index s
  | .act c ctx index => Sys2Proof.Machine.execAct c ctx index s
  | .gather c ctx index => Sys2Proof.Machine.execGather c ctx index s
  | .forest c => Sys2Proof.Machine.execForest c s
  | .drain c ctx index => Sys2Proof.Machine.execDrain c ctx index s
  | .sync c ctx index => Sys2Proof.Machine.execSync c ctx index s
  | .standbyStageComplete c k ctx => Sys2Proof.Machine.execStandbyStageComplete c k ctx s
  | .standbyWriteComplete c k => Sys2Proof.Machine.execStandbyWriteComplete c k s
  | .mxeRowLand c k errQ err => Sys2Proof.Machine.execMxeRowLand c k errQ err s
  | .chainReplay c k => Sys2Proof.Machine.execChainReplay c k s
  | .mvrOutputReady c u err => Sys2Proof.Machine.execMvrOutputReady c u err s
  | .rampDownStep c unit => Sys2Proof.Machine.execRampDownStep c unit s
  | .drainSwap c k => Sys2Proof.Machine.execDrainSwap c k s
  | .drainReadComplete c k => Sys2Proof.Machine.execDrainReadComplete c k s
  | .chainSave c k => Sys2Proof.Machine.execChainSave c k s
  | .acuAbort c src v => Sys2Proof.Machine.execAcuAbort c src v s
  | .batchClose c ctx => Sys2Proof.Machine.execBatchClose c ctx s
  | .runStart c ctx => Sys2Proof.Machine.execRunStart c ctx s
  | .runComplete c ctx => Sys2Proof.Machine.execRunComplete c ctx s
  | .stageRequest c src v => Sys2Proof.Machine.execStageRequest c src v s
  | .stageComplete c err => Sys2Proof.Machine.execStageComplete c err s
  | .swap c src n => Sys2Proof.Machine.execSwap c src n s
  | .discard c src n => Sys2Proof.Machine.execDiscard c src n s
  | .unload c src n => Sys2Proof.Machine.execUnload c src n s
  | .swapTakeEffect c n => Sys2Proof.Machine.execSwapTakeEffect c n s
  | .sideRelease c n => Sys2Proof.Machine.execSideRelease c n s
  | .sealRefetchComplete c => Sys2Proof.Machine.execSealRefetchComplete c s
  | .forestCheckComplete c sumErr => Sys2Proof.Machine.execForestCheckComplete c sumErr s
  | .verdictTransmit c => Sys2Proof.Machine.execVerdictTransmit c s
  | .retractTransmit c => Sys2Proof.Machine.execRetractTransmit c s
  | .epochBoundary c => Sys2Proof.Machine.execEpochBoundary c s
  | .epochCloses c => Sys2Proof.Machine.execEpochCloses c s
  | .peerEpochDeadline c => Sys2Proof.Machine.execPeerEpochDeadline c s
  | .selfTestComplete c pass => Sys2Proof.Machine.execSelfTestComplete c pass s
  | .remapComplete c => Sys2Proof.Machine.execRemapComplete c s
  | .bankRebuildComplete c => Sys2Proof.Machine.execBankRebuildComplete c s
  | .chkUnfence c src v => Sys2Proof.Machine.execChkUnfence c src v s
  | .chkUnfenceBanks c src v => Sys2Proof.Machine.execChkUnfenceBanks c src v s
  | .chkVmodeWrite c src v => Sys2Proof.Machine.execChkVmodeWrite c src v s
  | .digestRecheck c => Sys2Proof.Machine.execDigestRecheck c s
  | .sweepTestStart c n => Sys2Proof.Machine.execSweepTestStart c n s
  | .sweepTestComplete c pass q => Sys2Proof.Machine.execSweepTestComplete c pass q s
  | .sweepYield c => Sys2Proof.Machine.execSweepYield c s
  | .scrubVisit c => Sys2Proof.Machine.execScrubVisit c s
  | .feederSendBatch c g => Sys2Proof.Machine.execFeederSendBatch c g s
  | .feederSendPass c g => Sys2Proof.Machine.execFeederSendPass c g s
  | .trainingStepStart c g => Sys2Proof.Machine.execTrainingStepStart c g s
  | .trainingStepComplete c g => Sys2Proof.Machine.execTrainingStepComplete c g s
  | .checkpointDigestReady c g => Sys2Proof.Machine.execCheckpointDigestReady c g s
  | .voteTimeout c g => Sys2Proof.Machine.execVoteTimeout c g s
  | .expelSelfTestComplete c g bad => Sys2Proof.Machine.execExpelSelfTestComplete c g bad s
  | .publication c g => Sys2Proof.Machine.execPublication c g s
  | .trnContextEnable c src g v => Sys2Proof.Machine.execTrnContextEnable c src g v s
  | .gateEntryStart c => Sys2Proof.Machine.execGateEntryStart c s
  | .vpeGateCommit c src v => Sys2Proof.Machine.execVpeGateCommit c src v s
  | .gateListSwitch c => Sys2Proof.Machine.execGateListSwitch c s
  | .wfqIssue c unit => Sys2Proof.Machine.execWfqIssue c unit s
  | .forestReentry c => Sys2Proof.Machine.execForestReentry c s
  | .vpeIndRead c src v => Sys2Proof.Machine.execVpeIndRead c src v s
  | .vpeIndWrite c src v => Sys2Proof.Machine.execVpeIndWrite c src v s
  | .vpeGroupWrite c src g v => Sys2Proof.Machine.execVpeGroupWrite c src g v s
  | .vpeTpolWrite c src idx v => Sys2Proof.Machine.execVpeTpolWrite c src idx v s
  | .vpeShpWrite c src idx q v => Sys2Proof.Machine.execVpeShpWrite c src idx q v s
  | .hostQueueSend c idx q => Sys2Proof.Machine.execHostQueueSend c idx q s
  | .shaperRefillTick c => Sys2Proof.Machine.execShaperRefillTick c s
  | .tierReadReturn c tier addr len who st => Sys2Proof.Machine.execTierReadReturn c tier addr len who st s
  | .tierRequestTimeout c tier addr write who => Sys2Proof.Machine.execTierRequestTimeout c tier addr write who s
  | .memRegionWrite c src idx second v => Sys2Proof.Machine.execMemRegionWrite c src idx second v s
  | .zeroFillComplete c idx => Sys2Proof.Machine.execZeroFillComplete c idx s
  | .tenantErase c src v => Sys2Proof.Machine.execTenantErase c src v s
  | .eraseComplete c => Sys2Proof.Machine.execEraseComplete c s
  | .t2Evacuate c src => Sys2Proof.Machine.execT2Evacuate c src s
  | .evacuationComplete c => Sys2Proof.Machine.execEvacuationComplete c s
  | .t2DimmPowerWrite c src v => Sys2Proof.Machine.execT2DimmPowerWrite c src v s
  | .t2Restore c src => Sys2Proof.Machine.execT2Restore c src s
  | .t2RestoreComplete c ok => Sys2Proof.Machine.execT2RestoreComplete c ok s
  | .t2ModuleFail c failed => Sys2Proof.Machine.execT2ModuleFail c failed s
  | .t2PatrolScrub c st => Sys2Proof.Machine.execT2PatrolScrub c st s
  | .t3LinkDown c => Sys2Proof.Machine.execT3LinkDown c s
  | .t3LinkUp c gib => Sys2Proof.Machine.execT3LinkUp c gib s
  | .zlkPortEnable c src p => Sys2Proof.Machine.execZlkPortEnable c src p s
  | .zlkPortDisable c src p => Sys2Proof.Machine.execZlkPortDisable c src p s
  | .zlkLanesAligned c p => Sys2Proof.Machine.execZlkLanesAligned c p s
  | .zlkIdentityReceive c p device port channel topology identity => Sys2Proof.Machine.execZlkIdentityReceive c p device port channel topology identity s
  | .zlkLinkLoss c p => Sys2Proof.Machine.execZlkLinkLoss c p s
  | .zlkGroupReceive c p num bad blocks => Sys2Proof.Machine.execZlkGroupReceive c p num bad blocks s
  | .zlkAckReceive c p nak num => Sys2Proof.Machine.execZlkAckReceive c p nak num s
  | .zlkCreditReceive c p vl limit => Sys2Proof.Machine.execZlkCreditReceive c p vl limit s
  | .zlkReservedControl c p => Sys2Proof.Machine.execZlkReservedControl c p s
  | .pad c p h payload => Sys2Proof.Machine.execPad c p h payload s
  | .share c p h payload => Sys2Proof.Machine.execShare c p h payload s
  | .retract c p h payload => Sys2Proof.Machine.execRetract c p h payload s
  | .epochClose c p h payload => Sys2Proof.Machine.execEpochClose c p h payload s
  | .batch c p h payload => Sys2Proof.Machine.execBatch c p h payload s
  | .pass c p h payload => Sys2Proof.Machine.execPass c p h payload s
  | .digest c p h payload => Sys2Proof.Machine.execDigest c p h payload s
  | .decision c p h payload => Sys2Proof.Machine.execDecision c p h payload s
  | .ckptReq c p h payload => Sys2Proof.Machine.execCkptReq c p h payload s
  | .ckptData c p h payload => Sys2Proof.Machine.execCkptData c p h payload s
  | .timeProbe c p h payload => Sys2Proof.Machine.execTimeProbe c p h payload s
  | .timeResp c p h payload => Sys2Proof.Machine.execTimeResp c p h payload s
  | .zlkProbeTimer c p => Sys2Proof.Machine.execZlkProbeTimer c p s
  | .flrChannelPf c => Sys2Proof.Machine.execFlrChannelPf c s
  | .flrVf c idx => Sys2Proof.Machine.execFlrVf c idx s
  | .vfEnableChange c enable num => Sys2Proof.Machine.execVfEnableChange c enable num s
  | .hostLinkUp speed width flit => Sys2Proof.Machine.execHostLinkUp speed width flit s
  | .malformedTlp carried => Sys2Proof.Machine.execMalformedTlp carried s
  | .channelNoAnswer c => Sys2Proof.Machine.execChannelNoAnswer c s
  | .tenantCreate c src idx v => Sys2Proof.Machine.execTenantCreate c src idx v s
  | .dmaDoorbell c src q v => Sys2Proof.Machine.execDmaDoorbell c src q v s
  | .dmaCommandStart c inst q entry => Sys2Proof.Machine.execDmaCommandStart c inst q entry s
  | .dmaCommandComplete c inst q index data e => Sys2Proof.Machine.execDmaCommandComplete c inst q index data e s
  | .dmaHostTimeout c inst q index => Sys2Proof.Machine.execDmaHostTimeout c inst q index s
  | .hifCounterRead v => Sys2Proof.Machine.execHifCounterRead v s
  | .msixHoldoffExpire c inst vec => Sys2Proof.Machine.execMsixHoldoffExpire c inst vec s
  | .bootStart c flashOk fuseOk => Sys2Proof.Machine.execBootStart c flashOk fuseOk s
  | .bootConfigApply c t3Failed => Sys2Proof.Machine.execBootConfigApply c t3Failed s
  | .bootReady c => Sys2Proof.Machine.execBootReady c s
  | .bootTrialTimeout c => Sys2Proof.Machine.execBootTrialTimeout c s
  | .program c => Sys2Proof.Machine.execProgram c s
  | .programComplete c flashErr => Sys2Proof.Machine.execProgramComplete c flashErr s
  | .activate c => Sys2Proof.Machine.execActivate c s
  | .commitSv c => Sys2Proof.Machine.execCommitSv c s
  | .programSlot c slot ok => Sys2Proof.Machine.execProgramSlot c slot ok s
  | .revokeSlot c slot ok => Sys2Proof.Machine.execRevokeSlot c slot ok s
  | .programDeviceId c ok => Sys2Proof.Machine.execProgramDeviceId c ok s
  | .attestRequest c src v => Sys2Proof.Machine.execAttestRequest c src v s
  | .attestRelease c => Sys2Proof.Machine.execAttestRelease c s
  | .idleEntry c => Sys2Proof.Machine.execIdleEntry c s
  | .idleExit c => Sys2Proof.Machine.execIdleExit c s
  | .pwrGoRun c src => Sys2Proof.Machine.execPwrGoRun c src s
  | .pwrGoDoze c src => Sys2Proof.Machine.execPwrGoDoze c src s
  | .pwrGoVault c src => Sys2Proof.Machine.execPwrGoVault c src s
  | .powerEntryComplete c => Sys2Proof.Machine.execPowerEntryComplete c s
  | .dozeAccessWake c inst off v => Sys2Proof.Machine.execDozeAccessWake c inst off v s
  | .wakeComplete c => Sys2Proof.Machine.execWakeComplete c s
  | .pwrOppRequest c src v => Sys2Proof.Machine.execPwrOppRequest c src v s
  | .oppSwitch c => Sys2Proof.Machine.execOppSwitch c s
  | .oppRampComplete c => Sys2Proof.Machine.execOppRampComplete c s
  | .thermalSample c t0 t1 t2 t3 => Sys2Proof.Machine.execThermalSample c t0 t1 t2 t3 s
  | .throttleStep c => Sys2Proof.Machine.execThrottleStep c s
  | .floorRaiseStep c => Sys2Proof.Machine.execFloorRaiseStep c s
  | .watchFrameSend c => Sys2Proof.Machine.execWatchFrameSend c s
  | .watchFrameReceive c next frame => Sys2Proof.Machine.execWatchFrameReceive c next frame s
  | .watchFrameMiss c next => Sys2Proof.Machine.execWatchFrameMiss c next s
  | .lodestarWatchdog c => Sys2Proof.Machine.execLodestarWatchdog c s
  | .lodestarReset c => Sys2Proof.Machine.execLodestarReset c s
  | .lodestarRestartComplete c flips => Sys2Proof.Machine.execLodestarRestartComplete c flips s
  | .safeServeEnd c => Sys2Proof.Machine.execSafeServeEnd c s
  | .dispatchStall c => Sys2Proof.Machine.execDispatchStall c s
  | .safeServeTimeout c => Sys2Proof.Machine.execSafeServeTimeout c s
  | .vddChFault c => Sys2Proof.Machine.execVddChFault c s
  | .corePllUnlock c => Sys2Proof.Machine.execCorePllUnlock c s
  | .lodestarFailDeclare c => Sys2Proof.Machine.execLodestarFailDeclare c s
  | .channelDownRepeat c => Sys2Proof.Machine.execChannelDownRepeat c s
  | .autoRestart c => Sys2Proof.Machine.execAutoRestart c s
  | .channelRampStart c ref25 => Sys2Proof.Machine.execChannelRampStart c ref25 s
  | .channelPowerOn c => Sys2Proof.Machine.execChannelPowerOn c s
  | .channelPowerOff c => Sys2Proof.Machine.execChannelPowerOff c s
  | .channelReset c => Sys2Proof.Machine.execChannelReset c s
  | .obsFreeze c src => Sys2Proof.Machine.execObsFreeze c src s
  | .obsUnfreeze c src => Sys2Proof.Machine.execObsUnfreeze c src s
  | .obsArm c src => Sys2Proof.Machine.execObsArm c src s
  | .timedFreeze c => Sys2Proof.Machine.execTimedFreeze c s
  | .supFreeze mask follow => Sys2Proof.Machine.execSupFreeze mask follow s
  | .supUnfreeze mask follow => Sys2Proof.Machine.execSupUnfreeze mask follow s
  | .traceSample c pcs => Sys2Proof.Machine.execTraceSample c pcs s
  | .obsMarkerWrite c src v => Sys2Proof.Machine.execObsMarkerWrite c src v s
  | .runHung c ctx => Sys2Proof.Machine.execRunHung c ctx s
  | .telemetrySummary c => Sys2Proof.Machine.execTelemetrySummary c s
  | .hangDeclare c src => Sys2Proof.Machine.execHangDeclare c src s
  | .dumpStart c src auto => Sys2Proof.Machine.execDumpStart c src auto s
  | .dumpQuiesceTimeout c => Sys2Proof.Machine.execDumpQuiesceTimeout c s
  | .dumpComplete c => Sys2Proof.Machine.execDumpComplete c s
  | .obsDebugWrite c src v => Sys2Proof.Machine.execObsDebugWrite c src v s
  | .ppsEdge c => Sys2Proof.Machine.execPpsEdge c s
  | .todMessage c bytes => Sys2Proof.Machine.execTodMessage c bytes s
  | .ppsLost c => Sys2Proof.Machine.execPpsLost c s
  | .samplePreload sampled preload => Sys2Proof.Machine.execSamplePreload sampled preload s
  | .uncorrectableCodeword c lane codeword words => Sys2Proof.Machine.execUncorrectableCodeword c lane codeword words s
  | .idleControlWord c => Sys2Proof.Machine.execIdleControlWord c s
  | .d3hot fn on => Sys2Proof.Machine.execD3hot fn on s
  | .hostPortReset => Sys2Proof.Machine.execHostPortReset s
  | .flrPf0 => Sys2Proof.Machine.execFlrPf0 s
  | .hostLinkDown => Sys2Proof.Machine.execHostLinkDown s
  | .unsupportedRequest => Sys2Proof.Machine.execUnsupportedRequest s
  | .supWatchdogRestart => Sys2Proof.Machine.execSupWatchdogRestart s
  | .hifCounterReadDone => Sys2Proof.Machine.execHifCounterReadDone s
  | .vinLow => Sys2Proof.Machine.execVinLow s
  | .vinRecovered => Sys2Proof.Machine.execVinRecovered s
  | .packagePowerOn => Sys2Proof.Machine.execPackagePowerOn s
  | .tapReset => Sys2Proof.Machine.execTapReset s
  | .extest => Sys2Proof.Machine.execExtest s
  | .extestPulse => Sys2Proof.Machine.execExtestPulse s
  | .extestTrain => Sys2Proof.Machine.execExtestTrain s
  | .clamp => Sys2Proof.Machine.execClamp s
  | .highz => Sys2Proof.Machine.execHighz s
  | .bypass => Sys2Proof.Machine.execBypass s
  | .pornLow => Sys2Proof.Machine.execPornLow s
  | .vinPowerLoss => Sys2Proof.Machine.execVinPowerLoss s

end Sys2Proof.Machine
end

