-- ==== Sys2Proof/Safety.lean ====
section
/-!
DEFINITION. Safety.lean: the terms statements use: when a channel is as expected but for its event records and a freeze, when a
register write reaches its register, the canonical form of memory, and what holds while the device is held in reset.
-/

namespace Sys2Proof.Machine

open Sys2Proof

/-- Registers that raising an event writes: the producer side of an event ring (R374), the count of dropped telemetry (R313). -/
def raiseKey (k : Nat) : Prop := (∃ inst, k = bank inst R.CHN_EVQ_CTRL) ∨ k = R.VPE_CNT_TELEM_DROP

/-- Registers that a freeze (R430) or an event writes. -/
def settleKey (k : Nat) : Prop :=
  raiseKey k ∨ k = R.OBS_FREEZE ∨ k = R.OBS_FREEZE_TIME ∨ k = R.OBS_CNT_FREEZES

/-- Channel `b` is channel `a` in everything but what raising events (the event state and rings, the host-bound queues, messages to the
hub die) and a freeze that a fail-stop or SUP_FREEZE asks for (the observation state) may change. -/
structure Agrees (a b : Chan) : Prop where
  idx : b.idx = a.idx
  now : b.now = a.now
  core : b.core = a.core
  sid : b.sid = a.sid
  rwo : b.rwo = a.rwo
  draws : b.draws = a.draws
  host : b.host = a.host
  port : b.port = a.port
  pwr : b.pwr = a.pwr
  parser : b.parser = a.parser
  flow : b.flow = a.flow
  mem : b.mem = a.mem
  ftr : b.ftr = a.ftr
  fst : b.fst = a.fst
  vpe : { b.vpe with hq := [] } = { a.vpe with hq := [] }
  eng : b.eng = a.eng
  models : b.models = a.models
  jobs : b.jobs = a.jobs
  jobNum : b.jobNum = a.jobNum
  chk : b.chk = a.chk
  trn : b.trn = a.trn
  trnLast : b.trnLast = a.trnLast
  zlk : b.zlk = a.zlk
  boot : b.boot = a.boot
  flash : b.flash = a.flash
  fuses : b.fuses = a.fuses
  rd : ∀ k, ¬ settleKey k → b.rd k = a.rd k

/-- The newest record of the Meteor ring of the event's block (R433) is of this event, at this time. -/
abbrev Reported (e : Ev) (ch : Chan) : Prop :=
  (sget (fun _ => []) ch.ev.meteor e.block).head?.map (fun r => (r.id, r.time)) = some (e.id, ch.ns)

/-- The same of an event of the hub die, whose records carry no time (log 9). -/
abbrev HubReported (e : Ev) (h : Hub) : Prop := (sget (fun _ => []) h.ev.meteor e.block).head?.map (·.id) = some e.id

/-- A register write reaches the register at `off` of channel `c`: from the firmware (`src` none) while the Lodestar runs; from a
function instance that answers (R363), past Quarantine boot (R392), with the channel awake (R378), by the reach of R366 and R429. -/
def State.reaches (s : State) (src : Option (Fin 17)) (c : Fin 8) (off : Nat) : Bool :=
  let ch := s.chan c
  match src with
  | none => ch.isOn && ch.pwr.lodestar == .running
  | some inst =>
    ch.isOn && ch.fnLive inst && !(ch.boot.quarantined && !(inst.val == 0 && off % 8 == 0 && ch.quarantineReach off)) &&
    decide (ch.pwrState < 2) &&
    (if inst.val = 0 then !(obsPriv off && !s.priv c) else ch.vfReach inst off == .own)

/-- The message that a delivering command carries (R349, R350): its payload in whole words. -/
def delivered (typ : Nat) (vl : Bool) (h : MsgHead) (payload : List Byte) : ZMsg :=
  let n := 2 + ceilDiv payload.length 16
  { typ := BitVec.ofNat 8 typ, dest := h.dest, src := h.src, hops := h.hops, length := BitVec.ofNat 24 n, vl := vl
    channel := h.channel, context := h.context, args := h.args, payload := slice payload 0 (16 * (n - 2)) }

/-- Port `p` is UP and the message is for this device and channel (R343, R357). -/
abbrev Chan.accepts (ch : Chan) (p : Nat) (h : MsgHead) : Prop :=
  p < 3 ∧ ch.zState p = 3 ∧ h.channel.toNat = ch.idx ∧ h.dest.toNat = ch.zDev

/-- Every channel is Off. -/
def State.allOff (s : State) : Prop := ∀ c, (s.chan c).pwr.power = .off

/-- While the device is held in reset or unpowered, every channel is Off (R457, R458). -/
def State.resetInv (s : State) : Prop := s.hubRuns = false → s.allOff

/-- No message to the hub die is left behind. -/
def State.flushed (s : State) : Prop := ∀ c, (s.chan c).toHub = []

/-- The canonical form of a channel's memories. -/
abbrev Mem.wf (m : Mem) : Prop :=
  swf zeroByte m.spad = true ∧ swf zeroByte m.t1 = true ∧ swf noEnc m.t2 = true ∧ swf noEnc m.t3 = true

end Sys2Proof.Machine

/-! ## Commands of one channel -/

namespace Sys2Proof

/-- The channel of a command that acts on one channel alone; none for one of the hub die, the package or several channels. -/
def Instr.onlyChan : Instr → Option (Fin 8)
  | .descriptorReceive c _ _ | .mirrorDescriptorFrame c _ | .foreignFrame c | .mirrorReservedFrame c | .pauseFrameReceive c
  | .pauseRepeat c | .timeWordReceive c _ _ | .ignoredControlWord c | .alignGroupReceive c _ | .deviceTimeWordSend c
  | .alignGroupSend c | .pdpPortEnable c _ | .pdpPortDisable c _ | .pdpLanesAligned c | .pdpAlignmentLost c _
  | .crfResetHighWater c _ | .descriptorDispatch c _ _ | .maintenanceForce c | .flowFillComplete c _ _
  | .coldFetchComplete c _ | .flowParityInvalidate c | .entityFillComplete c _ _ _ _ | .pendingKeyExpire c
  | .insertCommand c | .promotion c | .agePeriodStart c _ | .sweepVisit c _ | .flwLockRequest c _ _ | .flwLockRelease c _ _
  | .flwReleaseComplete c | .lockMaxHoldExpire c | .lockTimeout c | .flwRegionWrite c _ _ _ _ | .flwRegionRemove c _ _
  | .prsIndRead c _ _ | .prsIndWrite c _ _ | .ldsNoteConsWrite c _ _ _ | .ldsInsProdWrite c _ _ _ | .ftrProgWrite c _ _ _
  | .ftrProgLoaded c _ | .fstEnsWrite c _ _ _ _ | .camWindowWrite c _ _ _ _ | .camWindowCommit c _ _ _
  | .camEntryUpset c _ _ | .leafCamRepair c | .ensembleBankRelease c _ | .mxePartWrite c _ _ _ _
  | .rvuPageOwnerWrite c _ _ _ _ | .mma c _ _ | .mmt c _ _ | .mvr c _ _ | .qnt c _ _ | .dqt c _ _ | .rot c _ _ | .act c _ _
  | .gather c _ _ | .forest c | .drain c _ _ | .sync c _ _ | .standbyStageComplete c _ _ | .standbyWriteComplete c _
  | .mxeRowLand c _ _ _ | .chainReplay c _ | .mvrOutputReady c _ _ | .rampDownStep c _ | .drainSwap c _
  | .drainReadComplete c _ | .chainSave c _ | .acuAbort c _ _ | .batchClose c _ | .runStart c _ | .runComplete c _
  | .stageRequest c _ _ | .stageComplete c _ | .swap c _ _ | .discard c _ _ | .unload c _ _ | .swapTakeEffect c _
  | .sideRelease c _ | .sealRefetchComplete c | .forestCheckComplete c _ | .verdictTransmit c | .retractTransmit c
  | .epochBoundary c | .epochCloses c | .peerEpochDeadline c | .selfTestComplete c _ | .remapComplete c
  | .bankRebuildComplete c | .chkUnfence c _ _ | .chkUnfenceBanks c _ _ | .chkVmodeWrite c _ _ | .digestRecheck c
  | .sweepTestStart c _ | .sweepTestComplete c _ _ | .sweepYield c | .scrubVisit c | .feederSendBatch c _
  | .feederSendPass c _ | .trainingStepStart c _ | .trainingStepComplete c _ | .checkpointDigestReady c _
  | .voteTimeout c _ | .expelSelfTestComplete c _ _ | .publication c _ | .trnContextEnable c _ _ _ | .gateEntryStart c
  | .vpeGateCommit c _ _ | .gateListSwitch c | .wfqIssue c _ | .forestReentry c | .vpeIndRead c _ _ | .vpeIndWrite c _ _
  | .vpeGroupWrite c _ _ _ | .vpeTpolWrite c _ _ _ | .vpeShpWrite c _ _ _ _ | .hostQueueSend c _ _ | .shaperRefillTick c
  | .tierReadReturn c _ _ _ _ _ | .tierRequestTimeout c _ _ _ _ | .memRegionWrite c _ _ _ _ | .zeroFillComplete c _
  | .tenantErase c _ _ | .eraseComplete c | .t2Evacuate c _ | .evacuationComplete c | .t2DimmPowerWrite c _ _
  | .t2Restore c _ | .t2RestoreComplete c _ | .t2ModuleFail c _ | .t2PatrolScrub c _ | .t3LinkDown c | .t3LinkUp c _
  | .zlkPortEnable c _ _ | .zlkPortDisable c _ _ | .zlkLanesAligned c _ | .zlkIdentityReceive c _ _ _ _ _ _
  | .zlkLinkLoss c _ | .zlkGroupReceive c _ _ _ _ | .zlkAckReceive c _ _ _ | .zlkCreditReceive c _ _ _
  | .zlkReservedControl c _ | .pad c _ _ _ | .share c _ _ _ | .retract c _ _ _ | .epochClose c _ _ _ | .batch c _ _ _
  | .pass c _ _ _ | .digest c _ _ _ | .decision c _ _ _ | .ckptReq c _ _ _ | .ckptData c _ _ _ | .timeProbe c _ _ _
  | .timeResp c _ _ _ | .zlkProbeTimer c _ | .flrChannelPf c | .flrVf c _ | .vfEnableChange c _ _ | .tenantCreate c _ _ _
  | .dmaDoorbell c _ _ _ | .dmaCommandStart c _ _ _ | .dmaCommandComplete c _ _ _ _ _ | .dmaHostTimeout c _ _ _
  | .msixHoldoffExpire c _ _ | .bootConfigApply c _ | .bootReady c | .bootTrialTimeout c | .attestRequest c _ _
  | .attestRelease c | .idleEntry c | .idleExit c | .pwrGoRun c _ | .pwrGoDoze c _ | .pwrGoVault c _
  | .powerEntryComplete c | .dozeAccessWake c _ _ _ | .wakeComplete c | .pwrOppRequest c _ _ | .oppSwitch c
  | .oppRampComplete c | .thermalSample c _ _ _ _ | .throttleStep c | .floorRaiseStep c | .watchFrameSend c
  | .watchFrameReceive c _ _ | .lodestarWatchdog c | .lodestarReset c | .lodestarRestartComplete c _ | .safeServeEnd c
  | .dispatchStall c | .safeServeTimeout c | .vddChFault c | .corePllUnlock c | .lodestarFailDeclare c
  | .channelDownRepeat c | .obsFreeze c _ | .obsUnfreeze c _ | .obsArm c _ | .timedFreeze c | .traceSample c _
  | .obsMarkerWrite c _ _ | .runHung c _ | .telemetrySummary c | .hangDeclare c _ | .dumpStart c _ _
  | .dumpQuiesceTimeout c | .dumpComplete c | .obsDebugWrite c _ _ | .ppsEdge c | .todMessage c _ | .ppsLost c
  | .uncorrectableCodeword c _ _ _ | .idleControlWord c => some c
  | .registerWrite (.fn c _) _ _ true | .registerWrite (.firmware c) _ _ true | .d3hot (some (c, _)) _ => some c
  | .registerWrite _ _ _ _ | .d3hot none _ => none
  | .hostLinkUp _ _ _ | .malformedTlp _ | .channelNoAnswer _ | .hifCounterRead _ | .bootStart _ _ _ | .program _
  | .programComplete _ _ | .activate _ | .commitSv _ | .programSlot _ _ _ | .revokeSlot _ _ _ | .programDeviceId _ _
  | .watchFrameMiss _ _ | .autoRestart _ | .channelRampStart _ _ | .channelPowerOn _ | .channelPowerOff _ | .channelReset _
  | .supFreeze _ _ | .supUnfreeze _ _ | .samplePreload _ _ | .hostPortReset | .flrPf0 | .hostLinkDown | .unsupportedRequest
  | .supWatchdogRestart | .hifCounterReadDone | .vinLow | .vinRecovered | .packagePowerOn | .tapReset | .extest
  | .extestPulse | .extestTrain | .clamp | .highz | .bypass | .pornLow | .vinPowerLoss => none

/-- The channel of a command that is a register access of a channel, or an event inside it: it takes place only while that channel is
powered and out of reset (R404, R422). -/
def Instr.needsPower : Instr → Option (Fin 8)
  | .descriptorReceive c _ _ | .mirrorDescriptorFrame c _ | .foreignFrame c | .mirrorReservedFrame c | .pauseFrameReceive c
  | .pauseRepeat c | .timeWordReceive c _ _ | .ignoredControlWord c | .alignGroupReceive c _ | .deviceTimeWordSend c
  | .alignGroupSend c | .pdpPortEnable c _ | .pdpPortDisable c _ | .pdpLanesAligned c | .pdpAlignmentLost c _
  | .crfResetHighWater c _ | .descriptorDispatch c _ _ | .maintenanceForce c | .flowFillComplete c _ _
  | .coldFetchComplete c _ | .flowParityInvalidate c | .entityFillComplete c _ _ _ _ | .pendingKeyExpire c
  | .insertCommand c | .promotion c | .agePeriodStart c _ | .sweepVisit c _ | .flwLockRequest c _ _ | .flwLockRelease c _ _
  | .flwReleaseComplete c | .lockMaxHoldExpire c | .lockTimeout c | .flwRegionWrite c _ _ _ _ | .flwRegionRemove c _ _
  | .prsIndRead c _ _ | .prsIndWrite c _ _ | .ldsNoteConsWrite c _ _ _ | .ldsInsProdWrite c _ _ _ | .ftrProgWrite c _ _ _
  | .ftrProgLoaded c _ | .fstEnsWrite c _ _ _ _ | .camWindowWrite c _ _ _ _ | .camWindowCommit c _ _ _
  | .camEntryUpset c _ _ | .leafCamRepair c | .ensembleBankRelease c _ | .mxePartWrite c _ _ _ _
  | .rvuPageOwnerWrite c _ _ _ _ | .mma c _ _ | .mmt c _ _ | .mvr c _ _ | .qnt c _ _ | .dqt c _ _ | .rot c _ _ | .act c _ _
  | .gather c _ _ | .forest c | .drain c _ _ | .sync c _ _ | .standbyStageComplete c _ _ | .standbyWriteComplete c _
  | .mxeRowLand c _ _ _ | .chainReplay c _ | .mvrOutputReady c _ _ | .rampDownStep c _ | .drainSwap c _
  | .drainReadComplete c _ | .chainSave c _ | .acuAbort c _ _ | .batchClose c _ | .runStart c _ | .runComplete c _
  | .stageRequest c _ _ | .stageComplete c _ | .swap c _ _ | .discard c _ _ | .unload c _ _ | .swapTakeEffect c _
  | .sideRelease c _ | .sealRefetchComplete c | .forestCheckComplete c _ | .verdictTransmit c | .retractTransmit c
  | .epochBoundary c | .epochCloses c | .peerEpochDeadline c | .selfTestComplete c _ | .remapComplete c
  | .bankRebuildComplete c | .chkUnfence c _ _ | .chkUnfenceBanks c _ _ | .chkVmodeWrite c _ _ | .digestRecheck c
  | .sweepTestStart c _ | .sweepTestComplete c _ _ | .sweepYield c | .scrubVisit c | .feederSendBatch c _
  | .feederSendPass c _ | .trainingStepStart c _ | .trainingStepComplete c _ | .checkpointDigestReady c _
  | .voteTimeout c _ | .expelSelfTestComplete c _ _ | .publication c _ | .trnContextEnable c _ _ _ | .gateEntryStart c
  | .vpeGateCommit c _ _ | .gateListSwitch c | .wfqIssue c _ | .forestReentry c | .vpeIndRead c _ _ | .vpeIndWrite c _ _
  | .vpeGroupWrite c _ _ _ | .vpeTpolWrite c _ _ _ | .vpeShpWrite c _ _ _ _ | .hostQueueSend c _ _ | .shaperRefillTick c
  | .tierReadReturn c _ _ _ _ _ | .tierRequestTimeout c _ _ _ _ | .memRegionWrite c _ _ _ _ | .zeroFillComplete c _
  | .tenantErase c _ _ | .eraseComplete c | .t2Evacuate c _ | .evacuationComplete c | .t2DimmPowerWrite c _ _
  | .t2Restore c _ | .t2RestoreComplete c _ | .t2ModuleFail c _ | .t2PatrolScrub c _ | .t3LinkDown c | .t3LinkUp c _
  | .zlkPortEnable c _ _ | .zlkPortDisable c _ _ | .zlkLanesAligned c _ | .zlkIdentityReceive c _ _ _ _ _ _
  | .zlkLinkLoss c _ | .zlkGroupReceive c _ _ _ _ | .zlkAckReceive c _ _ _ | .zlkCreditReceive c _ _ _
  | .zlkReservedControl c _ | .pad c _ _ _ | .share c _ _ _ | .retract c _ _ _ | .epochClose c _ _ _ | .batch c _ _ _
  | .pass c _ _ _ | .digest c _ _ _ | .decision c _ _ _ | .ckptReq c _ _ _ | .ckptData c _ _ _ | .timeProbe c _ _ _
  | .timeResp c _ _ _ | .zlkProbeTimer c _ | .tenantCreate c _ _ _ | .dmaDoorbell c _ _ _ | .dmaCommandStart c _ _ _
  | .dmaCommandComplete c _ _ _ _ _ | .dmaHostTimeout c _ _ _ | .msixHoldoffExpire c _ _ | .bootConfigApply c _
  | .bootReady c | .bootTrialTimeout c | .attestRequest c _ _ | .attestRelease c | .idleEntry c | .idleExit c
  | .pwrGoRun c _ | .pwrGoDoze c _ | .pwrGoVault c _ | .powerEntryComplete c | .dozeAccessWake c _ _ _ | .wakeComplete c
  | .pwrOppRequest c _ _ | .oppSwitch c | .oppRampComplete c | .thermalSample c _ _ _ _ | .throttleStep c
  | .floorRaiseStep c | .watchFrameSend c | .watchFrameReceive c _ _ | .lodestarWatchdog c | .lodestarReset c
  | .lodestarRestartComplete c _ | .safeServeEnd c | .dispatchStall c | .safeServeTimeout c | .vddChFault c
  | .corePllUnlock c | .lodestarFailDeclare c | .channelDownRepeat c | .obsFreeze c _ | .obsUnfreeze c _ | .obsArm c _
  | .timedFreeze c | .traceSample c _ | .obsMarkerWrite c _ _ | .runHung c _ | .telemetrySummary c | .hangDeclare c _
  | .dumpStart c _ _ | .dumpQuiesceTimeout c | .dumpComplete c | .obsDebugWrite c _ _ | .ppsEdge c | .todMessage c _
  | .ppsLost c | .uncorrectableCodeword c _ _ _ | .idleControlWord c => some c
  | .registerWrite (.fn c _) _ _ true | .registerWrite (.firmware c) _ _ true => some c
  | .registerWrite _ _ _ _ => none
  | .flrChannelPf _ | .flrVf _ _ | .vfEnableChange _ _ _ | .hostLinkUp _ _ _ | .malformedTlp _ | .channelNoAnswer _
  | .hifCounterRead _ | .bootStart _ _ _ | .program _ | .programComplete _ _ | .activate _ | .commitSv _
  | .programSlot _ _ _ | .revokeSlot _ _ _ | .programDeviceId _ _ | .watchFrameMiss _ _ | .autoRestart _
  | .channelRampStart _ _ | .channelPowerOn _ | .channelPowerOff _ | .channelReset _ | .supFreeze _ _ | .supUnfreeze _ _
  | .samplePreload _ _ | .d3hot _ _ | .hostPortReset | .flrPf0 | .hostLinkDown | .unsupportedRequest | .supWatchdogRestart
  | .hifCounterReadDone | .vinLow | .vinRecovered | .packagePowerOn | .tapReset | .extest | .extestPulse | .extestTrain
  | .clamp | .highz | .bypass | .pornLow | .vinPowerLoss => none

end Sys2Proof
end

