-- ==== Sys2Proof/Certificates/Slice0/Obligations.lean ====
section
/-! DEFINITION. The statements for the provers, one definition for each entry of OBLIGATIONS.json.

A statement about a command on a channel names the state after it field by field: `exec i s` answers the next state `t`, and the
channel of `t` agrees (`Agrees`) with the channel that the statement writes out, so whatever that channel does not change is
unchanged. `Agrees` leaves open only what raising an event touches; `Reported` and `HubReported` say which event was raised. -/

set_option maxRecDepth 100000
set_option linter.unusedVariables false

open Sys2Proof Sys2Proof.Machine

/-- For every command and state: with the command at the front of the queue, a step is exec of that command on the state with the
rest of the queue. On an empty queue (the model's choice, log 1) 60 grains pass on every channel and on the hub die, and no queue,
memory, job, flash, fuse, package pin or link of a channel changes. -/
def Obligations.StepRunsTheFrontCommand : Prop :=
  (∀ (s : State) (i : Instr) (rest : List Instr), s.pending = i :: rest → step s = exec i { s with pending := rest }) ∧
    (∀ s : State, s.pending = [] → ∃ t, step s = .next t ∧ t.pending = [] ∧ t.pack = s.pack ∧ t.hub.now = s.hub.now + 60 ∧
      ∀ c : Fin 8, (t.chan c).now = (s.chan c).now + 60 ∧ (t.chan c).mem = (s.chan c).mem ∧ (t.chan c).port = (s.chan c).port ∧
        (t.chan c).jobs = (s.chan c).jobs ∧ (t.chan c).flash = (s.chan c).flash ∧ (t.chan c).fuses = (s.chan c).fuses ∧
        (t.chan c).zlk = (s.chan c).zlk)

/-- After reset every channel is Off and numbered by its place, its CHN_LOCATION gives its number, die, position and neighbours,
every register whose reset value chapter 18 gives reads it, the identity registers of the channels and of PF0 and HIF_BRIDGE_WEIGHT
read their fixed values, every memory is empty and in canonical form, every channel waits for its ramp, and no command and no
message waits. That memory reads as zero before it is written, and reset values the spec does not give, are the model's choice (log
24 and the like) and not part of this. -/
def Obligations.ResetState : Prop :=
  let s := State.reset
  s.pending = [] ∧ s.hubRuns = true ∧ s.allOff ∧ s.resetInv ∧ s.flushed ∧ s.hub.ramps = [0, 1, 2, 3, 4, 5, 6, 7] ∧
    s.hub.rd R.HIF_BRIDGE_WEIGHT = 0x0101010101010101 ∧ s.hub.rd R.SUP_ID = 0x0000000824164200 ∧ s.hub.rd R.SUP_CAP = 0x002106FF ∧
    ∀ c : Fin 8, (s.chan c).idx = c ∧ (s.chan c).mem.wf ∧ (s.chan c).fuses.programmed = 0 ∧
      (s.chan c).rd R.CHN_ID = 0x0000000824164200 ∧ (s.chan c).rd R.CHN_CAP = 0x001040141C840824 ∧
      getF ((s.chan c).rd R.CHN_LOCATION) ⟨0, 3⟩ = c.val ∧ getF ((s.chan c).rd R.CHN_LOCATION) ⟨3, 2⟩ = c.val / 2 ∧
      getF ((s.chan c).rd R.CHN_LOCATION) ⟨5, 1⟩ = c.val % 2 ∧ getF ((s.chan c).rd R.CHN_LOCATION) ⟨8, 3⟩ = (c.val + 7) % 8 ∧
      getF ((s.chan c).rd R.CHN_LOCATION) ⟨12, 3⟩ = (c.val + 1) % 8 ∧
      ∀ r ∈ channelRows, r.base ≠ R.CHN_LOCATION → r.base ≠ R.PWR_OPP 0 → (s.chan c).rd r.base = BitVec.ofNat 64 r.reset

/-- Every 7-bit value is the identifier of exactly one local tenant of exactly one channel: bits 6 to 4 are the channel's number,
bits 3 to 0 the local tenant's, and a channel takes an identifier for its own exactly when those bits name it. -/
def Obligations.TenantIdentifiers : Prop :=
  ∀ (ch : Chan) (t : BitVec 7),
    (ch.ownsTid t.toNat = true ↔ (t.extractLsb' 4 3).toNat = ch.idx.val) ∧
    (∀ i : Nat, i < 16 → (ch.tid i = t.toNat ↔ (t.extractLsb' 4 3).toNat = ch.idx.val ∧ (t.extractLsb' 0 4).toNat = i)) ∧
    (∃ (c : Fin 8) (i : Fin 16), t.toNat = 16 * c.val + i.val ∧ ∀ d : Fin 8, ∀ j : Fin 16, t.toNat = 16 * d.val + j.val → d = c ∧ j = i)

/-- VIN_LOW with the hub die running: every powered channel's fail-stop latch is set, with reason SUPPLY where it was not set
before; automatic restarts are suspended; EV_SUP_VIN_LOW is raised. While they are suspended AUTO_RESTART does nothing;
VIN_RECOVERED, VIN within range for 10 ms, resumes them. After VIN_POWER_LOSS, below 1.50 V, the device is unpowered: every channel
is Off and the hub die does not run; the next rise of VIN, PACKAGE_POWER_ON, powers the package on with its TAP reset. -/
def Obligations.VinSupervision : Prop :=
  ∀ (s : State) (c : Fin 8) (ch : Chan), s.chan c = ch →
    ( s.hubRuns = true → ch.isOn = true → ch.failStopped = false → ∃ t, exec (.vinLow) s = .next t ∧ (t.chan c).failStopped = true ∧
      (t.chan c).fld R.PWR_STATUS F.PWR_STATUS_fail_reason = 4 ∧ (t.chan c).pwr.failPin = true ∧
      (t.chan c).linkState = (if ch.linkState = 0 then 0 else 4) ∧ ∀ p : Nat, p < 3 → (t.chan c).zState p = 0) ∧
    ( s.hubRuns = true → ∃ t, exec (.vinLow) s = .next t ∧ (t.pack = { s.pack with vinLow := some s.hub.now, suspended := true }) ∧
      HubReported EV_SUP_VIN_LOW t.hub ∧ (ch.isOn = true → (t.chan c).failStopped = true) ∧
      (ch.isOn = false ∨ ch.failStopped = true → Agrees ch (t.chan c))) ∧
    ( s.pack.suspended = true → ∃ t, exec (.autoRestart c) s = .next t ∧ t = s) ∧
    ( s.hubRuns = true → ∃ t, exec (.vinRecovered) s = .next t ∧
      (t = { s with pack := { s.pack with vinLow := if s.pack.suspended then none else s.pack.vinLow, suspended := false } })) ∧
    ( ∀ d : Fin 8, (s.chan d).toHub = [] → ∃ t, exec (.vinPowerLoss) s = .next t ∧ t.hubRuns = false ∧ t.pack.unpowered = true ∧
      t.pack.ir = .bypass ∧ t.pack.boundary = [] ∧ t.pack.pins = [] ∧
      ∀ d : Fin 8, t.chan d = { (s.chan d).flashSpoilt.off with host := {} } ∧ (t.chan d).pwr.power = .off ∧
      (t.hub = { now := s.hub.now, ev := { out := s.hub.ev.out } })) ∧
    ( s.pack.unpowered = true → ∀ d : Fin 8, (s.chan d).toHub = [] → ∃ t, exec (.packagePowerOn) s = .next t ∧ t.hubRuns = true ∧
      t.pack.unpowered = false ∧ t.pack.porn = false ∧ t.pack.ir = .bypass ∧ t.pack.released = s.hub.now ∧
      ∀ d : Fin 8, (t.chan d).pwr.power = .off ∧ (t.chan d).flash = (s.chan d).flashSpoilt.flash ∧ (t.chan d).fuses = (s.chan d).fuses)

/-- Every command on every state answers a next state and leaves the queue of waiting commands alone: no command of the spec stops
the device. A command that is a register access of a channel or an event inside it has no effect at all while that channel is not
powered or is held in reset, provided no message of it to the hub die waits (no step leaves one). -/
def Obligations.CommandsAnswerAndPowerIsNeeded : Prop :=
  (∀ (i : Instr) (s : State), ∃ t, exec i s = .next t ∧ t.pending = s.pending) ∧
    (∀ (i : Instr) (s : State) (c : Fin 8), i.needsPower = some c → (s.chan c).isOn = false → (s.chan c).toHub = [] → exec i s = .next s)

/-- For every command that acts on one channel: every other channel is as it was but for raised events and a freeze, and exactly as
it was unless SUP_FREEZE.follow_fail is set; the package, the queue, the hub die's time, boot command, ramps, indirect read and
D3hot, and every PF0 register but its event ring's HIF_EVQ_CONS are unchanged. So no state of a tenant outside its channel changes.
-/
def Obligations.ChannelsAreIsolated : Prop :=
  ∀ (i : Instr) (s : State) (c : Fin 8), i.onlyChan = some c →
    ∃ t, exec i s = .next t ∧ t.pack = s.pack ∧ t.pending = s.pending ∧ t.hub.now = s.hub.now ∧ t.hub.program = s.hub.program ∧
      t.hub.ramps = s.hub.ramps ∧ t.hub.cntRead = s.hub.cntRead ∧ t.hub.d3hot = s.hub.d3hot ∧
      (∀ k : Nat, k ≠ R.HIF_EVQ_CONS → t.hub.rd k = s.hub.rd k) ∧
      ∀ d : Fin 8, d ≠ c → Agrees (s.chan d) (t.chan d) ∧
        (s.hub.flag R.SUP_FREEZE F.SUP_FREEZE_follow_fail = false → t.chan d = s.chan d)

/-- If every channel is Off whenever the device is held in reset or unpowered, and no message of a channel to the hub die waits,
then the same holds after every step, whatever command is in front. -/
def Obligations.StepsKeepTheDevicesInvariant : Prop :=
  ∀ (s t : State), s.resetInv → s.flushed → step s = .next t → t.resetInv ∧ t.flushed

/-- Writing bytes to the scratchpad, T1, T2 or T3 under an owner's key: the owner reads the same bytes back; every other place of
every tier holds what it held; only the owner's key pair may be drawn, and only if it had none. Zeroing a range makes its bytes read
as unlisted and leaves every other place alone. -/
def Obligations.MemoryReadAfterWrite : Prop :=
  (∀ (ch : Chan) (tier owner a : Nat) (bs : List Byte),
      (ch.setBytes tier owner a bs).bytes tier owner a bs.length = bs ∧
      (∀ k : Nat, tier ≠ 0 ∨ k < a ∨ a + bs.length ≤ k → sget zeroByte (ch.setBytes tier owner a bs).mem.spad k = sget zeroByte ch.mem.spad k) ∧
      (∀ k : Nat, tier ≠ 1 ∨ k < a ∨ a + bs.length ≤ k → sget zeroByte (ch.setBytes tier owner a bs).mem.t1 k = sget zeroByte ch.mem.t1 k) ∧
      (∀ k : Nat, tier ≠ 2 ∨ k < a ∨ a + bs.length ≤ k → sget noEnc (ch.setBytes tier owner a bs).mem.t2 k = sget noEnc ch.mem.t2 k) ∧
      (∀ k : Nat, tier < 3 ∨ k < a ∨ a + bs.length ≤ k → sget noEnc (ch.setBytes tier owner a bs).mem.t3 k = sget noEnc ch.mem.t3 k) ∧
      (∀ o : Nat, o ≠ owner ∨ tier < 2 ∨ ch.keyOf owner ≠ 0 → (ch.setBytes tier owner a bs).keyOf o = ch.keyOf o)) ∧
    (∀ (m : List Host.Cell) (a n k : Nat), sget zeroByte (clearRange m a n) k = if a ≤ k ∧ k < a + n then 0 else sget zeroByte m k)

/-- With the port SERVING, a native record (DESCRIPTOR_RECEIVE, framing held) or mirror frame (MIRROR_DESCRIPTOR_FRAME) of good
length and CRC, in sequence, of an existing tenant, with no reserved flag and no valid timestamp, and with room and, in native
framing, credit, is appended to the Carafe with its words; CRF_RECEIVED grows by its words, PDP_CNT_DESC by one, the expected
sequence becomes seq + 1; nothing else of the channel changes but CRF_STATUS. A native record whose CRC is wrong is stored nowhere,
counted in PDP_CNT_BAD_CRC and in CRF_RECEIVED, answered with a malformed record of the expected sequence, which advances, and
EV_PDP_BAD_CRC is reported; its class_echo is a free value (log 82). -/
def Obligations.DescriptorIsCheckedAndStored : Prop :=
  ∀ (s : State) (c : Fin 8) (ch : Chan), s.chan c = ch → ch.isOn = true →
    ( ∀ (bytes : List Byte) (m : Meta) (l : Nat), ch.mirror = false → ch.linkState = 3 → ch.port.framing ≠ .lost →
      be bytes 15 1 ≤ 172 → recordWords (be bytes 15 1) = l → 16 * l ≤ bytes.length →
      (crc32c (bytes.take (16 * l - 4))).toNat = be bytes (16 * l - 4) 4 → metaOf (slice bytes 0 16) = m →
      ch.port.seqValid = false ∨ ch.expected = m.seq → m.flags.toNat < 16 → m.flags.getLsbD 1 = false →
      ch.ownsTid m.tenant.toNat = true → ch.tenantExists (m.tenant.toNat % 16) = true → ch.carafeOcc + l ≤ carafeWords →
      (ch.rd R.CRF_RECEIVED + BitVec.ofNat 64 l).toNat ≤ (ch.rd R.CRF_CREDIT).toNat → ∃ t,
      exec (.descriptorReceive c bytes false) s = .next t ∧
      Agrees (let a : Chan := ((ch.inc R.PDP_CNT_DESC).inc R.CRF_RECEIVED l).setExpected (m.seq + 1)
        let b : Chan := a.setCarafe (ch.port.carafe ++ [{ md := m, slice := slice bytes 16 (be bytes 15 1), words := l, arrived := ch.ns, time := ch.ns }])
        { b with port := { b.port with framing := .ok, lastSeq := m.seq } }) (t.chan c) ∧
      (t.chan c).port.carafe.length = ch.port.carafe.length + 1) ∧
    ( ∀ (bytes : List Byte) (m : Meta) (l : Nat), ch.mirror = true → ch.linkState = 3 → be bytes 12 2 = 0x88B5 → be bytes 14 1 = 1 →
      be bytes 15 1 = 1 → metaOf (slice bytes 16 16) = m → 96 ≤ bytes.length → bytes.length ≤ 192 →
      m.sliceLen.toNat + 36 = bytes.length → recordWords m.sliceLen.toNat = l →
      (crc32 (bytes.take (bytes.length - 4))).toNat = le bytes (bytes.length - 4) 4 →
      ch.port.seqValid = false ∨ ch.expected = m.seq → m.flags.toNat < 16 → m.flags.getLsbD 1 = false →
      ch.ownsTid m.tenant.toNat = true → ch.tenantExists (m.tenant.toNat % 16) = true → ch.carafeOcc + l ≤ pauseHigh → ∃ t,
      exec (.mirrorDescriptorFrame c bytes) s = .next t ∧
      Agrees (let a : Chan := ((ch.inc R.PDP_CNT_DESC).inc R.CRF_RECEIVED l).setExpected (m.seq + 1)
        let b : Chan := a.setCarafe (ch.port.carafe ++ [{ md := m, slice := slice bytes 32 m.sliceLen.toNat, words := l, arrived := ch.ns, time := ch.ns }])
        { b with port := { b.port with lastSeq := m.seq } }) (t.chan c) ∧
      (t.chan c).port.carafe.length = ch.port.carafe.length + 1) ∧
    ( ∀ (bytes : List Byte) (m : Meta) (l : Nat), ch.mirror = false → ch.linkState = 3 → ch.port.framing ≠ .lost →
      ch.port.seqValid = true → be bytes 15 1 ≤ 172 → recordWords (be bytes 15 1) = l → 16 * l ≤ bytes.length →
      (crc32c (bytes.take (16 * l - 4))).toNat ≠ be bytes (16 * l - 4) 4 → metaOf (slice bytes 0 16) = m → ∃ t,
      exec (.descriptorReceive c bytes false) s = .next t ∧ (t.chan c).port.carafe = ch.port.carafe ∧
      (t.chan c).rd R.PDP_CNT_BAD_CRC = ch.rd R.PDP_CNT_BAD_CRC + 1 ∧
      (t.chan c).rd R.CRF_RECEIVED = ch.rd R.CRF_RECEIVED + BitVec.ofNat 64 l ∧ (t.chan c).expected = ch.expected + 1 ∧
      ((t.chan c).port.txq = ch.port.txq ++ [{ kind := .malformed, vr := { seq := ch.expected, code := BitVec.ofNat 4 (ch.fld R.PDP_CTRL F.PDP_CTRL_malformed_verdict), malformed := true, cls := Config.noClass ch.idx ch.expected.toNat, epoch := BitVec.ofNat 16 ch.epoch } }]) ∧
      Reported EV_PDP_BAD_CRC (t.chan c))

/-- In SERVING of a powered channel: FOREIGN_FRAME counts in PDP_CNT_FOREIGN, MIRROR_RESERVED_FRAME and, with framing held,
IGNORED_CONTROL_WORD in PDP_CNT_RESERVED, each reported, PAUSE_FRAME_RECEIVE in PDP_CNT_PAUSE_RX; IDLE_CONTROL_WORD after a framing
loss lets framing return at the next data block; in ALIGN, ALIGN_GROUP_RECEIVE with every align number once records the lane order;
UNCORRECTABLE_CODEWORD by an invalid header of a native port loses framing, is counted and reported, and its discarded words count
and return to the credit limit, no grant being due yet; a bad codeword of a lane of a mirror port that had 64 within 1 us before
takes the port to ALIGN, with the fail pin asserted and framing to be regained. Each leaves everything else of the channel as it
was. -/
def Obligations.PortIgnoresAndCounts : Prop :=
  ∀ (s : State) (c : Fin 8) (ch : Chan), s.chan c = ch → ch.isOn = true →
    ( ch.mirror = true → ch.linkState = 3 → ∃ t, exec (.foreignFrame c) s = .next t ∧ Agrees (ch.inc R.PDP_CNT_FOREIGN) (t.chan c) ∧
      Reported EV_PDP_FOREIGN (t.chan c)) ∧
    ( ch.mirror = true → ch.linkState = 3 → ∃ t, exec (.mirrorReservedFrame c) s = .next t ∧
      Agrees (ch.inc R.PDP_CNT_RESERVED) (t.chan c) ∧ Reported EV_PDP_RESERVED (t.chan c)) ∧
    ( ch.mirror = true → ch.linkState = 3 → ∃ t, exec (.pauseFrameReceive c) s = .next t ∧
      Agrees (ch.inc R.PDP_CNT_PAUSE_RX) (t.chan c)) ∧
    ( ch.mirror = false → ch.linkState = 3 → ch.port.framing ≠ .lost → ∃ t, exec (.ignoredControlWord c) s = .next t ∧
      Agrees (ch.inc R.PDP_CNT_RESERVED) (t.chan c) ∧ Reported EV_PDP_RESERVED (t.chan c)) ∧
    ( ch.mirror = false → ch.linkState = 3 → ch.port.framing = .lost → ∃ t, exec (.idleControlWord c) s = .next t ∧
      Agrees ({ ch with port := { ch.port with framing := .control } }) (t.chan c)) ∧
    ( ∀ (order : List Nat), ch.mirror = false → ch.linkState = 1 → order.length = 8 → ∀ i : Nat, i < 8 → i ∈ order → ∃ t,
      exec (.alignGroupReceive c order) s = .next t ∧ Agrees ({ ch with port := { ch.port with laneOrder := order } }) (t.chan c)) ∧
    ( ∀ (lane : Fin 8) (words : Nat), ch.mirror = false → ch.linkState = 3 →
      ch.port.limit + words < (ch.rd R.CRF_CREDIT).toNat + 1024 → ∃ t,
      exec (.uncorrectableCodeword c lane false words) s = .next t ∧
      Agrees (let a : Chan := (((ch.inc R.PDP_CNT_FRAMING_LOSS).inc R.PDP_CNT_DISCARD_WORDS words).inc R.CRF_RECEIVED words); { a with port := { a.port with framing := .lost, limit := ch.port.limit + words } }) (t.chan c) ∧
      Reported EV_PDP_FRAMING_LOSS (t.chan c)) ∧
    ( ∀ (lane : Fin 8), ch.mirror = true → ch.linkState = 3 →
      64 ≤ (ch.port.badWords.filter fun b => decide (ch.now < b.2 + usG) && b.1 == lane.val).length → ∃ t,
      exec (.uncorrectableCodeword c lane true 0) s = .next t ∧
      Agrees (let a : Chan := ch.setFld R.PDP_LINK_STATUS F.PDP_LINK_STATUS_link_state 1; { a with pwr := { ch.pwr with failPin := true }, port := { ch.port with framing := .lost, badWords := (lane.val, ch.now) :: ch.port.badWords.filter fun b => decide (ch.now < b.2 + usG) } }) (t.chan c))

/-- In mirror mode with PAUSE asserted and pause_enable 1, PAUSE_REPEAT sends a PAUSE frame of quanta 0xFFFF again after 10 us above
7 MiB, and one of quanta 0 below 7 MiB, which ends it. DEVICE_TIME_WORD_SEND, 950 ns or more after the last, sends the Sidereal time
with its count: in native SERVING in one control block with the credit grant, in mirror mode in a frame of subtype 0x03.
ALIGN_GROUP_SEND of a native port that is not DISABLED, 8,192 codewords after the last, sends on each lane a control block of four
align words of its number. CHANNEL_DOWN_REPEAT in DOWN sends the CHANNEL_DOWN record, verdict code 7 with the last accepted sequence
number, in one frame in mirror mode, else in one verdict block on each of the eight lanes. Each leaves everything else of the
channel as it was. -/
def Obligations.PortSends : Prop :=
  ∀ (s : State) (c : Fin 8) (ch : Chan), s.chan c = ch → ch.isOn = true →
    ( ch.mirror = true → ch.port.paused = true → ch.linkState ≠ 0 → pauseLow < ch.carafeOcc → ch.port.pauseAt + 10 * usG ≤ ch.now →
      ch.flag R.PDP_CTRL F.PDP_CTRL_pause_enable = true → ∃ t, exec (.pauseRepeat c) s = .next t ∧
      Agrees ({ ch with port := { ch.port with out := ethFrame 0x0180C2000001 ch.ethSa [0x88, 0x08, 0, 1, 0xFF, 0xFF] :: ch.port.out, pauseAt := ch.now } }) (t.chan c)) ∧
    ( ch.mirror = true → ch.port.paused = true → ch.linkState ≠ 0 → ch.carafeOcc < pauseLow →
      ch.flag R.PDP_CTRL F.PDP_CTRL_pause_enable = true → ∃ t, exec (.pauseRepeat c) s = .next t ∧
      Agrees ({ ch with port := { ch.port with out := ethFrame 0x0180C2000001 ch.ethSa [0x88, 0x08, 0, 1, 0, 0] :: ch.port.out, paused := false } }) (t.chan c)) ∧
    ( ch.mirror = false → ch.linkState = 3 → ch.port.timeAt + 950 * nsG ≤ ch.now → ∃ t, exec (.deviceTimeWordSend c) s = .next t ∧
      Agrees ({ ch.wr R.CRF_CREDIT (BitVec.ofNat 64 ch.port.limit) with port := { ch.port with out := controlBlock none [creditWord ch.port.limit, timeWordBytes ch.port.timeCount.toNat (ch.ns / 1000000000) (ch.ns % 1000000000)] :: ch.port.out, timeCount := ch.port.timeCount + 1, timeAt := ch.now } }) (t.chan c)) ∧
    ( ch.mirror = true → ch.linkState ≠ 0 → ch.port.timeAt + 950 * nsG ≤ ch.now → ∃ t, exec (.deviceTimeWordSend c) s = .next t ∧
      Agrees ({ ch with port := { ch.port with out := timeFrame ch.ethDa ch.ethSa ch.port.timeCount.toNat (ch.ns / 1000000000) (ch.ns % 1000000000) :: ch.port.out, timeCount := ch.port.timeCount + 1, timeAt := ch.now } }) (t.chan c)) ∧
    ( ch.mirror = false → ch.linkState ≠ 0 → ch.port.alignAt + 13212058 ≤ ch.now → ∃ t, exec (.alignGroupSend c) s = .next t ∧
      Agrees ({ ch with port := { ch.port with out := ((List.range 8).map fun l => controlBlock (some l) (List.replicate 4 (alignWord l))).reverse ++ ch.port.out, alignAt := ch.now } }) (t.chan c)) ∧
    ( ch.mirror = true → ch.linkState = 4 → ch.port.downAt + 950 * nsG ≤ ch.now → ∃ t, exec (.channelDownRepeat c) s = .next t ∧
      Agrees ({ ch with port := { ch.port with out := verdictFrame ch.ethDa ch.ethSa [ch.downRecord] :: ch.port.out, downAt := ch.now } }) (t.chan c)) ∧
    ( ch.mirror = false → ch.linkState = 4 → ch.port.downAt + 950 * nsG ≤ ch.now → ∃ t, exec (.channelDownRepeat c) s = .next t ∧
      Agrees ({ ch with port := { ch.port with out := ((List.range 8).map fun l => verdictBlock (some l) [ch.downRecord]).reverse ++ ch.port.out, downAt := ch.now } }) (t.chan c) ∧
      ch.downRecord.code = 7 ∧ ch.downRecord.seq = ch.port.lastSeq)

/-- A write of port_enable = 1 takes a READY, not fail-stopped channel's port from DISABLED to ALIGN, with no lane locked;
PDP_LANES_ALIGNED sets lane_locked and aligned and takes it from ALIGN to SERVING in mirror mode, and to CREDIT_INIT in native
framing, sending its time word and first grant, of the words the Carafe has free but its slack; the first TIME_WORD_RECEIVE in
CREDIT_INIT sets the time base and enters SERVING; PDP_ALIGNMENT_LOST in SERVING returns to ALIGN keeping the Carafe; a write of
port_enable = 0 enters DISABLED, discards the Carafe and the records not yet framed, and silences the descriptors dispatched. The
fail pin is deasserted in SERVING alone. CRF_STATUS.reset_high_water sets high_water to the occupancy. Each leaves everything else
of the channel as it was. -/
def Obligations.PortStateMachine : Prop :=
  ∀ (s : State) (c : Fin 8) (ch : Chan), s.chan c = ch →
    ( ∀ (src : Option (Fin 17)), s.reaches src c R.PDP_CTRL = true → ch.linkState = 0 → ch.pwr.ready = true →
      ch.failStopped = false → ∃ t, exec (.pdpPortEnable c src) s = .next t ∧
      Agrees (let a : Chan := ((ch.setFlag R.PDP_CTRL F.PDP_CTRL_port_enable true).setFld R.PDP_LINK_STATUS F.PDP_LINK_STATUS_link_state 1).lanesClear; { a with port := { a.port with seqValid := false, framing := .lost }, pwr := { a.pwr with failPin := true } }) (t.chan c) ∧
      (t.chan c).linkState = 1) ∧
    ( ∀ (src : Option (Fin 17)), s.reaches src c R.PDP_CTRL = true → ch.linkState ≠ 0 → ∃ t,
      exec (.pdpPortDisable c src) s = .next t ∧
      Agrees (let a : Chan := (((ch.setFlag R.PDP_CTRL F.PDP_CTRL_port_enable false).setFld R.PDP_LINK_STATUS F.PDP_LINK_STATUS_link_state 0).lanesClear)
        { a with jobs := ch.jobs.map fun (j : Job) => if j.stage = Stage.sent ∨ j.stage = Stage.done then j else { j with silent := true }, port := { a.port with txq := [], seqValid := false, framing := .lost, paused := false }, pwr := { a.pwr with failPin := true } }.setCarafe []) (t.chan c) ∧
      (t.chan c).linkState = 0 ∧ (t.chan c).port.carafe = []) ∧
    ( ch.isOn = true → ch.linkState = 1 → ch.mirror = true → ∃ t, exec (.pdpLanesAligned c) s = .next t ∧
      Agrees (((ch.setFld R.PDP_LINK_STATUS F.PDP_LINK_STATUS_lane_locked 0xFF).setFlag R.PDP_LINK_STATUS F.PDP_LINK_STATUS_aligned true).setLink 3) (t.chan c) ∧
      (t.chan c).linkState = 3 ∧ (t.chan c).pwr.failPin = false) ∧
    ( ∀ (n : Nat), ch.isOn = true → ch.linkState = 1 → ch.mirror = false → n = carafeWords - ch.carafeOcc - carafeSlack → ∃ t,
      exec (.pdpLanesAligned c) s = .next t ∧
      Agrees (let a : Chan := ((ch.setFld R.PDP_LINK_STATUS F.PDP_LINK_STATUS_lane_locked 0xFF).setFlag R.PDP_LINK_STATUS F.PDP_LINK_STATUS_aligned true).setLink 2
        { (a.wr R.CRF_RECEIVED 0).wr R.CRF_CREDIT (BitVec.ofNat 64 n) with
          port := { a.port with framing := .lost, limit := n, timeCount := ch.port.timeCount + 1, timeAt := ch.now, out := controlBlock none [creditWord n, timeWordBytes ch.port.timeCount.toNat (ch.ns / 1000000000) (ch.ns % 1000000000)] :: ch.port.out } }) (t.chan c) ∧
      (t.chan c).linkState = 2) ∧
    ( ∀ (sec : BitVec 48) (ns : BitVec 32), ch.isOn = true → ch.linkState = 2 → ch.mirror = false → ch.port.timeBase = none → ∃ t,
      exec (.timeWordReceive c sec ns) s = .next t ∧
      Agrees (let a : Chan := ch.controlSeen.setLink 3; { a with port := { a.port with timeBase := some (sec.toNat * 1000000000 + ns.toNat, ch.ps), jumps := [] } }) (t.chan c) ∧
      (t.chan c).linkState = 3 ∧ (t.chan c).pwr.failPin = false) ∧
    ( ∀ (locked : BitVec 8), ch.isOn = true → ch.linkState = 3 → ∃ t, exec (.pdpAlignmentLost c locked) s = .next t ∧
      Agrees (let a : Chan := ((ch.setFld R.PDP_LINK_STATUS F.PDP_LINK_STATUS_lane_locked locked.toNat).setFlag R.PDP_LINK_STATUS F.PDP_LINK_STATUS_aligned false).setLink 1; { a with port := { a.port with framing := .lost } }) (t.chan c) ∧
      (t.chan c).linkState = 1 ∧ (t.chan c).pwr.failPin = true ∧ (t.chan c).port.carafe = ch.port.carafe) ∧
    ( ∀ (src : Option (Fin 17)), s.reaches src c R.CRF_STATUS = true → ∃ t, exec (.crfResetHighWater c src) s = .next t ∧
      Agrees (ch.setFld R.CRF_STATUS F.CRF_STATUS_high_water ch.carafeOcc) (t.chan c))

/-- A PRS_IND_SEL start that the physical function or the firmware writes, naming a stage entry or default action that exists:
PRS_IND_WRITE of a well-formed entry puts the 96 bytes of the data window into that stage entry and no other, of a well-formed
action into the stage's default action; a malformed one is refused with result 1, reported, and changes no table; PRS_IND_READ puts
the item into the data window and changes no table. Result 0 says done. -/
def Obligations.ParserTablesThroughTheWindow : Prop :=
  ∀ (s : State) (c : Fin 8) (ch : Chan) (src : Option (Fin 17)) (v : Word) (st index : Nat), s.chan c = ch →
    s.reaches src c R.PRS_IND_SEL = true → writerInst src = 0 →
    ( getF v F.PRS_IND_SEL_stage = st → getF v F.PRS_IND_SEL_index = index → getF v F.PRS_IND_SEL_target = 0 →
      ch.prsReach 0 st 0 index = 0 → ch.entryOk st (ch.prsData 0) = true → ∃ t, exec (.prsIndWrite c src v) s = .next t ∧
      ((t.chan c).parser = { ch.parser with entries := sset (fun _ => List.replicate 96 0) ch.parser.entries (4096 * st + index) (ch.prsData 0) }) ∧
      (t.chan c).fld R.PRS_IND_SEL F.PRS_IND_SEL_result = 0) ∧
    ( getF v F.PRS_IND_SEL_stage = st → getF v F.PRS_IND_SEL_target = 1 → st < 12 → actionOk (slice (ch.prsData 0) 64 32) = true →
      ∃ t, exec (.prsIndWrite c src v) s = .next t ∧
      ((t.chan c).parser = { ch.parser with defaults := sset (fun _ => List.replicate 32 0) ch.parser.defaults st (slice (ch.prsData 0) 64 32) }) ∧
      (t.chan c).fld R.PRS_IND_SEL F.PRS_IND_SEL_result = 0) ∧
    ( getF v F.PRS_IND_SEL_stage = st → getF v F.PRS_IND_SEL_index = index → getF v F.PRS_IND_SEL_target = 0 →
      ch.prsReach 0 st 0 index = 0 → ch.entryOk st (ch.prsData 0) = false → ∃ t, exec (.prsIndWrite c src v) s = .next t ∧
      (t.chan c).parser = ch.parser ∧ (t.chan c).fld R.PRS_IND_SEL F.PRS_IND_SEL_result = 1 ∧
      Reported EV_PRS_CFG_REJECT (t.chan c)) ∧
    ( getF v F.PRS_IND_SEL_stage = st → getF v F.PRS_IND_SEL_index = index → getF v F.PRS_IND_SEL_target = 0 →
      ch.prsReach 0 st 0 index = 0 → ∃ t, exec (.prsIndRead c src v) s = .next t ∧ (t.chan c).parser = ch.parser ∧
      (t.chan c).fld R.PRS_IND_SEL F.PRS_IND_SEL_result = 0 ∧
      ∀ i : Nat, i < 12 → (t.chan c).rd (R.PRS_IND_DATA i) = BitVec.ofNat 64 (le (sget (fun _ => List.replicate 96 0) ch.parser.entries (4096 * st + index)) (8 * i) 8))

/-- With nothing stopping dispatch and the lane whose turn it is free in this core cycle, DESCRIPTOR_DISPATCH takes the oldest
descriptor of the Carafe to that lane: its words are freed for credit, corrected errors are counted, the lanes alternate, the Parser
makes its metadata bus, and a job with the next number, the oriented key, its tenant's ensembles and serving FOREST and NEURAL sides
begins its flow lookup. A descriptor read with an uncorrectable error starts no job: it is counted in PDP_CNT_BAD_CRC and answered
malformed, its class_echo a free value (log 82). Where a bank its ensembles need is taken, the descriptor stays, the lane's slot
goes empty and FST_CNT_BANK_HOLD counts it. -/
def Obligations.DispatchStartsALookup : Prop :=
  ∀ (s : State) (c : Fin 8) (ch : Chan), s.chan c = ch → ch.clocked = true →
    ( ∀ (fixed : Nat) (x : Desc) (rest : List Desc) (lane : Bool) (i : Nat), ch.failStopped = false → ch.dispatchStop = none →
      ch.flow.slotAt ≤ ch.coreNow → ch.laneFree lane = true → ch.port.carafe = x :: rest → ch.nextLane = some lane →
      x.md.tenant.toNat % 16 = i → ch.claimClash 97 (ch.tenantEns i) lane = false → ∃ t,
      exec (.descriptorDispatch c fixed false) s = .next t ∧
      Agrees (let a : Chan := ((ch.setCarafe rest).freeWords x.words).inc R.CRF_CNT_ECC fixed
        let d : Chan := { a.useLane lane with pwr := { a.pwr with dispatchAt := a.now } }
        let b : Chan := d.claim 97 (d.tenantEns i) lane
        let p := b.parse x.md.bytes x.slice (x.md.flags.getLsbD 0) (b.tid i) i
        let e : Chan := p.2
        let f : Chan := { e with jobNum := e.jobNum + 1, jobs := e.jobs ++ [{ id := e.jobNum, laneB := lane, desc := x, stage := .flowWait, tenant := i, bus := p.1, flowKey := orientKey (slice p.1 16 40) x.md.cls (e.tid i), at_ := e.now, ens := e.tenantEns i, forest := e.servingCtxs i 0, neural := e.servingCtxs i 1 }] }
        f.flowLookup e.jobNum) (t.chan c)) ∧
    ( ∀ (fixed : Nat) (d : Desc) (rest : List Desc) (lane : Bool), ch.failStopped = false → ch.dispatchStop = none →
      ch.flow.slotAt ≤ ch.coreNow → ch.laneFree lane = true → ch.port.carafe = d :: rest → ch.nextLane = some lane → ∃ t,
      exec (.descriptorDispatch c fixed true) s = .next t ∧
      Agrees (let a : Chan := ((ch.setCarafe rest).freeWords d.words).inc R.CRF_CNT_ECC fixed
        let b : Chan := { a.useLane lane with pwr := { a.pwr with dispatchAt := a.now } }
        (b.inc R.PDP_CNT_BAD_CRC).malformed d.md.seq (Config.noClass ch.idx d.md.seq.toNat) false) (t.chan c) ∧
      (t.chan c).port.carafe = rest ∧ (t.chan c).jobs = ch.jobs ∧ Reported EV_PDP_BAD_CRC (t.chan c)) ∧
    ( ∀ (fixed : Nat) (x : Desc) (rest : List Desc) (lane : Bool), ch.failStopped = false → ch.dispatchStop = none →
      ch.flow.slotAt ≤ ch.coreNow → ch.laneFree lane = true → ch.port.carafe = x :: rest → ch.nextLane = some lane →
      ch.claimClash 97 (ch.tenantEns (x.md.tenant.toNat % 16)) lane = true → ∃ t,
      exec (.descriptorDispatch c fixed false) s = .next t ∧ Agrees ((ch.inc R.FST_CNT_BANK_HOLD).useLane lane) (t.chan c) ∧
      (t.chan c).port.carafe = ch.port.carafe ∧ (t.chan c).jobs = ch.jobs)

/-- MAINTENANCE_FORCE takes the slot of the oldest waiting operation after force_interval cycles and holds dispatch for 1 cc;
FLOW_PARITY_INVALIDATE of a record that still fails parity in an unlocked bucket clears its valid bit, posts EXPIRE with reason
PARITY and reports EV_FLW_PARITY; PENDING_KEY_EXPIRE drops the keys posted 1 ms ago; AGE_PERIOD_START, outside Safe Serve, begins a
first period, or the next one once the one before has ended and every bucket was visited, at the end of that one or, where it was
late, now; SWEEP_VISIT ages the four records of the next bucket, of T1 or then of the cold table, when its share of the period has
come, and passes on; it skips a locked bucket, and marks the period late when its last bucket is visited after its end. -/
def Obligations.FlowMaintenanceAndAging : Prop :=
  ∀ (s : State) (c : Fin 8) (ch : Chan), s.chan c = ch → ch.clocked = true →
    ( ∀ (op : MaintOp) (t0 : Nat) (rest : List (MaintOp × Nat)), ch.flow.maint = (op, t0) :: rest →
      ch.sinceC t0 ch.forceInterval = true → ∃ t, exec (.maintenanceForce c) s = .next t ∧
      Agrees ({ ch.runMaint with flow := { ch.runMaint.flow with slotAt := ch.coreNow + coreCycles 1 } }) (t.chan c) ∧
      (t.chan c).flow.maint = rest ∧ (t.chan c).flow.slotAt = ch.coreNow + coreCycles 1) ∧
    ( ∀ (cold : Bool) (b w i t0 : Nat) (key r : List Byte) (rest : List (MaintOp × Nat)),
      ch.flow.maint = (.invalidate cold b w i key, t0) :: rest →
      recAt (if cold then ch.coldBytes i b else ch.bucketBytes i b) w = r → recNames r key = true → recGood r = false →
      cold = true ∨ ch.flowLocked i b = false → cold = false ∨ ch.coldOn i = true → ∃ t,
      exec (.flowParityInvalidate c) s = .next t ∧
      Agrees (let a : Chan := { ch with flow := { ch.flow with maint := rest } }; ((if cold then a.putCold i b w (recParity (recBit r 0 false)) else a.putRec i b w (recParity (recBit r 0 false)))).expire i r 2) (t.chan c) ∧
      (t.chan c).flow.maint = rest ∧ Reported EV_FLW_PARITY (t.chan c)) ∧
    ( ∃ t, exec (.pendingKeyExpire c) s = .next t ∧
      Agrees ({ ch with flow := { ch.flow with pending := ch.flow.pending.filter fun p => decide (ch.ns < p.2.2 + 1000000) } }) (t.chan c)) ∧
    ( ∀ (i : Fin 16), ch.safeServe = false → ch.agePeriod i ≠ 0 → ch.aging i = none → ∃ t, exec (.agePeriodStart c i) s = .next t ∧
      Agrees (ch.setAging i (some { start := ch.ns, next := 0, late := false, moved := [] })) (t.chan c)) ∧
    ( ∀ (i : Fin 16) (a : Aging), ch.safeServe = false → ch.agePeriod i ≠ 0 → ch.aging i = some a →
      a.start + ch.agePeriod i ≤ ch.ns → ch.ageBuckets i ≤ a.next → a.late = false → ∃ t, exec (.agePeriodStart c i) s = .next t ∧
      Agrees (ch.setAging i (some { start := a.start + ch.agePeriod i, next := 0, late := false, moved := [] })) (t.chan c)) ∧
    ( ∀ (i : Fin 16) (a : Aging), ch.safeServe = false → ch.agePeriod i ≠ 0 → ch.aging i = some a →
      a.start + ch.agePeriod i ≤ ch.ns → ch.ageBuckets i ≤ a.next → a.late = true → ∃ t, exec (.agePeriodStart c i) s = .next t ∧
      Agrees (ch.setAging i (some { start := ch.ns, next := 0, late := false, moved := [] })) (t.chan c)) ∧
    ( ∀ (i : Fin 16) (a : Aging) (n b : Nat) (cold : Bool), ch.safeServe = false → ch.agePeriod i ≠ 0 → ch.aging i = some a →
      a.next < ch.ageBuckets i → a.start + a.next * ch.agePeriod i / ch.ageBuckets i ≤ ch.ns →
      (if ch.hasRegion i then 2 ^ ch.regionBits i else 0) = n → decide (n ≤ a.next) = cold →
      (if cold then a.next - n else ch.regionBase i + a.next) = b → cold = true ∨ ch.flowLocked i b = false → ∃ t,
      exec (.sweepVisit c i) s = .next t ∧
      Agrees (let x := (List.range 4).foldl (fun (x : List (List Byte) × Chan) w => x.2.ageRecord i cold b w x.1) (a.moved, ch)
        x.2.setAging i (some { a with next := a.next + 1, late := a.late || decide (a.next + 1 = ch.ageBuckets i ∧ a.start + ch.agePeriod i < ch.ns), moved := x.1 })) (t.chan c)) ∧
    ( ∀ (i : Fin 16) (a : Aging) (n b : Nat) (cold : Bool), ch.safeServe = false → ch.agePeriod i ≠ 0 → ch.aging i = some a →
      a.next < ch.ageBuckets i → a.start + a.next * ch.agePeriod i / ch.ageBuckets i ≤ ch.ns →
      (if ch.hasRegion i then 2 ^ ch.regionBits i else 0) = n → decide (n ≤ a.next) = cold →
      (if cold then a.next - n else ch.regionBase i + a.next) = b → cold = false → ch.flowLocked i b = true → ∃ t,
      exec (.sweepVisit c i) s = .next t ∧
      Agrees (ch.setAging i (some { a with next := a.next + 1, late := a.late || decide (a.next + 1 = ch.ageBuckets i ∧ a.start + ch.agePeriod i < ch.ns) })) (t.chan c))

/-- FLOW_FILL_COMPLETE, its read good, of a running fill of an unlocked bucket puts its line into the cache and lets the waiting
lookups go on; COLD_FETCH_COMPLETE, its read good, that finds a record queues it for promotion, one that finds none ends the lookup
ABSENT, or PARITY where a record of its key fails parity, queueing each such record's invalidation; PROMOTION places the oldest
queued record in T1, clears it in T2 and ends the lookup that waited for it HIT; INSERT_COMMAND takes one command of the ring whose
turn it is and, its fields valid and its tenant having a region, inserts the record with its insert time, forgets the pending key
and writes result 0. -/
def Obligations.FillsInsertsAndPromotions : Prop :=
  ∀ (s : State) (c : Fin 8) (ch : Chan), s.chan c = ch → ch.clocked = true →
    ( ∀ (bucket : BitVec 32) (i : Nat), ch.bucketTenant bucket.toNat = some i → ch.flow.fills.contains bucket.toNat = true →
      ch.flowLocked i bucket.toNat = false → ∃ t, exec (.flowFillComplete c bucket true) s = .next t ∧
      Agrees (let a : Chan := { ch with flow := { ch.flow with fills := ch.flow.fills.filter (· ≠ bucket.toNat) } }
        (a.flowFill i bucket.toNat).serveLookups) (t.chan c)) ∧
    ( ∀ (bucket : BitVec 32) (i : Nat), ch.bucketTenant bucket.toNat = some i → ch.flow.fills.contains bucket.toNat = true →
      ch.flowLocked i bucket.toNat = false → ch.flow.miss = [] → ∃ t, exec (.flowFillComplete c bucket true) s = .next t ∧
      ((t.chan c).flowWay i bucket.toNat).isSome = true ∧ (t.chan c).flow.fills.contains bucket.toNat = false) ∧
    ( ∀ (l : Lookup) (b w : Nat) (r : List Byte), ch.flow.miss.find? (fun l => l.cold && !ch.promoting l) = some l →
      ch.coldOn l.tenant = true → ch.findCold l.tenant l.key = some (b, w, r) → ch.safeServe = false → ch.insCount 17 < 256 → ∃ t,
      exec (.coldFetchComplete c true) s = .next t ∧
      Agrees (let a : Chan := (ch.store 0 chanKey (ch.insAddr 17 (ch.insProd 17)) r).setFld (R.LDS_INS_IDX 17) F.LDS_INS_IDX_prod (ch.insProd 17 + 1)
        { a with flow := { a.flow with promote := a.flow.promote ++ [(l.tenant, r)] } }) (t.chan c)) ∧
    ( ∀ (l : Lookup), ch.flow.miss.find? (fun l => l.cold && !ch.promoting l) = some l → ch.coldOn l.tenant = true →
      ch.findCold l.tenant l.key = none → ((ch.coldRecs l.tenant l.key).all fun x => !recValid x.2.2 || recGood x.2.2) = true →
      ch.findRec l.tenant l.key false = none → ∃ t, exec (.coldFetchComplete c true) s = .next t ∧
      Agrees (((ch.leaveMiss l.job).lookupMiss l.job 1).serveLookups) (t.chan c)) ∧
    ( ∀ (l : Lookup) (rs : List (Nat × Nat × List Byte)), ch.flow.miss.find? (fun l => l.cold && !ch.promoting l) = some l →
      ch.coldOn l.tenant = true → ch.findCold l.tenant l.key = none → ch.coldRecs l.tenant l.key = rs → ∃ t,
      exec (.coldFetchComplete c true) s = .next t ∧
      Agrees (let a : Chan := rs.foldl (fun (x : Chan) y => if recValid y.2.2 && !recGood y.2.2 then x.parityMaint true l.tenant y.1 y.2.1 (recKey y.2.2) else x) ch
        let bad := (a.findRec l.tenant l.key false).isSome || rs.any fun y => recNames y.2.2 l.key
        ((a.leaveMiss l.job).lookupMiss l.job (if bad then 2 else 1)).serveLookups) (t.chan c)) ∧
    ( ∀ (i : Nat) (r : List Byte) (rest : List (Nat × List Byte)) (x : Ins × Chan) (b w : Nat) (q : List Byte),
      ch.flow.promote = (i, r) :: rest → i < 16 → ch.safeServe = false →
      Chan.insertTry false i (recParity (recBit r 4 false)) 3 { ch with flow := { ch.flow with promote := rest } } = x →
      x.1 = .inserted → (x.2.unpend i (recKey r)).findCold i (recKey r) = some (b, w, q) → ch.flow.miss = [] → ∃ t,
      exec (.promotion c) s = .next t ∧
      Agrees ((((x.2.unpend i (recKey r)).putCold i b w (recParity (recBit q 0 false))).insResult 17 0 i)) (t.chan c)) ∧
    (
      ∀ (i : Nat) (r : List Byte) (rest : List (Nat × List Byte)) (x : Ins × Chan) (b w : Nat) (q : List Byte) (d : Chan) (l : Lookup) (z : Nat × Nat × List Byte),
      ch.flow.promote = (i, r) :: rest → i < 16 → ch.safeServe = false →
      Chan.insertTry false i (recParity (recBit r 4 false)) 3 { ch with flow := { ch.flow with promote := rest } } = x →
      x.1 = .inserted → (x.2.unpend i (recKey r)).findCold i (recKey r) = some (b, w, q) →
      ((x.2.unpend i (recKey r)).putCold i b w (recParity (recBit q 0 false))).insResult 17 0 i = d →
      d.flow.miss.find? (fun l => l.cold && l.tenant == i && l.key == recKey r) = some l →
      (d.leaveMiss l.job).findRec i (recKey r) true = some z → ∃ t, exec (.promotion c) s = .next t ∧
      Agrees (((d.leaveMiss l.job).lookupHit l.job (some (z.1, z.2.1)) z.2.2).serveLookups) (t.chan c)) ∧
    ( ∀ (r : Fin 16) (x : List Byte) (a : Ins × Chan), ch.safeServe = false → ch.flow.promote = [] →
      ((List.range 17).map fun k => (ch.flow.lastRing + 1 + k) % 17).find? (fun k => ch.insCount k != 0) = some r.val →
      ch.spad (ch.insAddr r (ch.insCons r)) 128 = x → le x 37 1 = ch.tid r → recValid x = true → recHandle x ≠ 0 → 1 ≤ le x 38 1 →
      le x 38 1 ≤ 5 → ch.hasRegion r = true →
      Chan.insertTry false r (recParity (putBytes (putBytes x 120 (List.replicate 7 0)) 48 (leBytes 8 ch.ns))) 3 ({ ch with flow := { ch.flow with lastRing := r } }.load 0 chanKey (ch.insAddr r (ch.insCons r)) 128).2 = a →
      a.1 = .inserted → ∃ t, exec (.insertCommand c) s = .next t ∧
      Agrees (((a.2.unpend r (recKey x)).insResult r 0 r).serveLookups) (t.chan c))

/-- FLW_LOCK_REQUEST of an unlocked bucket of a region or entity table, below the limits, drops its cached line (a flow line is
written back), lists the lock and answers 0; outside any it answers 1, of a locked bucket 2, and lists none. FLW_LOCK_RELEASE while
none is pending, by the holder of a lock not being released, starts the release, by another answers 6; while one is pending it
starts nothing. FLW_RELEASE_COMPLETE of the only lock, of a flow bucket, the holder's DMA writes done and 336 cc gone, checks the
bucket, drops the lock, answers 0 and replays the parked lookups. LOCK_MAX_HOLD_EXPIRE starts the release of the oldest lock held
beyond max_hold, reported. LOCK_TIMEOUT ends the oldest lookup parked 4,200 cc as LOCK_TIMEOUT. -/
def Obligations.BucketLocks : Prop :=
  ∀ (s : State) (c : Fin 8) (ch : Chan), s.chan c = ch →
    ( ∀ (src : Option (Fin 17)) (v w : Word) (i b : Nat), s.reaches src c R.FLW_LOCK_REQ = true →
      ch.lockWord (writerInst src) v = w →
      ch.lockTarget (getF w F.FLW_LOCK_REQ_tenant) (getF w F.FLW_LOCK_REQ_table) (getF w F.FLW_LOCK_REQ_bucket) = some (i, 0, b) →
      ch.locked i 0 b = false → ch.flow.locks.length < 16 →
      writerInst src = 0 ∨ (ch.flow.locks.filter fun (l : Lock) => l.holder == writerInst src).length < 4 →
      ch.flowWay i (ch.regionBase i + b) = none → ∃ t, exec (.flwLockRequest c src v) s = .next t ∧
      Agrees (let a : Chan := ch.wr R.FLW_LOCK_REQ w
        let e : Chan := { a with flow := { a.flow with locks := a.flow.locks ++ [{ tenant := i, table := 0, bucket := b, holder := writerInst src, at_ := ch.now }] } }
        e.lockResult (writerInst src) 0) (t.chan c) ∧
      (t.chan c).locked i 0 b = true ∧ (t.chan c).fld R.FLW_LOCK_STATUS F.FLW_LOCK_STATUS_last_result = 0) ∧
    ( ∀ (src : Option (Fin 17)) (v w : Word) (i b k : Nat), s.reaches src c R.FLW_LOCK_REQ = true →
      ch.lockWord (writerInst src) v = w →
      ch.lockTarget (getF w F.FLW_LOCK_REQ_tenant) (getF w F.FLW_LOCK_REQ_table) (getF w F.FLW_LOCK_REQ_bucket) = some (i, 0, b) →
      ch.locked i 0 b = false → ch.flow.locks.length < 16 →
      writerInst src = 0 ∨ (ch.flow.locks.filter fun (l : Lock) => l.holder == writerInst src).length < 4 →
      ch.flowWay i (ch.regionBase i + b) = some k → ∃ t, exec (.flwLockRequest c src v) s = .next t ∧
      Agrees (let a : Chan := ((ch.wr R.FLW_LOCK_REQ w).writeBack k).setLine k none
        let e : Chan := { a with flow := { a.flow with locks := a.flow.locks ++ [{ tenant := i, table := 0, bucket := b, holder := writerInst src, at_ := ch.now }] } }
        e.lockResult (writerInst src) 0) (t.chan c)) ∧
    ( ∀ (src : Option (Fin 17)) (v w : Word) (i k b : Nat), s.reaches src c R.FLW_LOCK_REQ = true →
      ch.lockWord (writerInst src) v = w →
      ch.lockTarget (getF w F.FLW_LOCK_REQ_tenant) (getF w F.FLW_LOCK_REQ_table) (getF w F.FLW_LOCK_REQ_bucket) = some (i, k + 1, b) →
      ch.locked i (k + 1) b = false → ch.flow.locks.length < 16 →
      writerInst src = 0 ∨ (ch.flow.locks.filter fun (l : Lock) => l.holder == writerInst src).length < 4 → ∃ t,
      exec (.flwLockRequest c src v) s = .next t ∧
      Agrees (let a : Chan := ch.wr R.FLW_LOCK_REQ w
        let d : Chan := match a.entWay i k b with
          | some x => { a with ftr := { a.ftr with cache := sset (fun _ => none) a.ftr.cache (entKey i (b % 64) x) none } }
          | none => a
        let e : Chan := { d with flow := { d.flow with locks := d.flow.locks ++ [{ tenant := i, table := k + 1, bucket := b, holder := writerInst src, at_ := ch.now }] } }
        e.lockResult (writerInst src) 0) (t.chan c)) ∧
    ( ∀ (src : Option (Fin 17)) (v w : Word), s.reaches src c R.FLW_LOCK_REQ = true → ch.lockWord (writerInst src) v = w →
      ch.lockTarget (getF w F.FLW_LOCK_REQ_tenant) (getF w F.FLW_LOCK_REQ_table) (getF w F.FLW_LOCK_REQ_bucket) = none → ∃ t,
      exec (.flwLockRequest c src v) s = .next t ∧ Agrees ((ch.wr R.FLW_LOCK_REQ w).lockResult (writerInst src) 1) (t.chan c) ∧
      (t.chan c).flow = ch.flow ∧ (t.chan c).fld R.FLW_LOCK_STATUS F.FLW_LOCK_STATUS_last_result = 1) ∧
    ( ∀ (src : Option (Fin 17)) (v w : Word) (i table b : Nat), s.reaches src c R.FLW_LOCK_REQ = true →
      ch.lockWord (writerInst src) v = w →
      ch.lockTarget (getF w F.FLW_LOCK_REQ_tenant) (getF w F.FLW_LOCK_REQ_table) (getF w F.FLW_LOCK_REQ_bucket) = some (i, table, b) →
      ch.locked i table b = true → ∃ t, exec (.flwLockRequest c src v) s = .next t ∧
      Agrees ((ch.wr R.FLW_LOCK_REQ w).lockResult (writerInst src) 2) (t.chan c) ∧ (t.chan c).flow = ch.flow ∧
      (t.chan c).fld R.FLW_LOCK_STATUS F.FLW_LOCK_STATUS_last_result = 2) ∧
    ( ∀ (src : Option (Fin 17)) (v w : Word) (i table b : Nat) (l : Lock), s.reaches src c R.FLW_LOCK_REL = true →
      ch.flag R.FLW_LOCK_REL F.FLW_LOCK_REL_start = false → (ch.lockRelWrite (writerInst src) v).rd R.FLW_LOCK_REL = w →
      ch.lockTarget (getF w F.FLW_LOCK_REL_tenant) (getF w F.FLW_LOCK_REL_table) (getF w F.FLW_LOCK_REL_bucket) = some (i, table, b) →
      ch.flow.locks.find? (fun l => l.tenant == i && l.table == table && l.bucket == b) = some l → l.holder = writerInst src →
      l.release = none → ∃ t, exec (.flwLockRelease c src v) s = .next t ∧
      Agrees (((ch.lockRelWrite (writerInst src) v).modLock l fun k => { k with release := some ch.now }).setFlag R.FLW_LOCK_REL F.FLW_LOCK_REL_start true) (t.chan c)) ∧
    ( ∀ (src : Option (Fin 17)) (v w : Word) (i table b : Nat) (l : Lock), s.reaches src c R.FLW_LOCK_REL = true →
      ch.flag R.FLW_LOCK_REL F.FLW_LOCK_REL_start = false → (ch.lockRelWrite (writerInst src) v).rd R.FLW_LOCK_REL = w →
      ch.lockTarget (getF w F.FLW_LOCK_REL_tenant) (getF w F.FLW_LOCK_REL_table) (getF w F.FLW_LOCK_REL_bucket) = some (i, table, b) →
      ch.flow.locks.find? (fun l => l.tenant == i && l.table == table && l.bucket == b) = some l → l.holder ≠ writerInst src → ∃ t,
      exec (.flwLockRelease c src v) s = .next t ∧
      Agrees ((ch.lockRelWrite (writerInst src) v).lockResult (writerInst src) 6) (t.chan c) ∧ (t.chan c).flow = ch.flow) ∧
    ( ∀ (src : Option (Fin 17)) (v : Word), s.reaches src c R.FLW_LOCK_REL = true →
      ch.flag R.FLW_LOCK_REL F.FLW_LOCK_REL_start = true → ∃ t, exec (.flwLockRelease c src v) s = .next t ∧
      Agrees (ch.lockRelWrite (writerInst src) v) (t.chan c) ∧ (t.chan c).flow = ch.flow) ∧
    ( ∀ (l : Lock) (t0 : Nat), ch.clocked = true → ch.flow.locks = [l] → l.release = some t0 → ch.lockBusy l = false →
      ch.sinceC t0 336 = true → l.noCheck = false → l.forced = false → l.table = 0 → ∃ t, exec (.flwReleaseComplete c) s = .next t ∧
      Agrees (let a : Chan := ch.fixBucket l.tenant (ch.regionBase l.tenant + l.bucket)
        let b : Chan := { a with flow := { a.flow with locks := a.flow.locks.filter (· ≠ l) } }
        Chan.replay 64 ((b.setFlag R.FLW_LOCK_REL F.FLW_LOCK_REL_start false).lockResult l.holder 0)) (t.chan c)) ∧
    ( ∀ (l : Lock), ch.clocked = true →
      ch.flow.locks.find? (fun l => l.release.isNone && ch.since l.at_ (min 1000 (max 1 (ch.fld R.FLW_LOCK_CTRL F.FLW_LOCK_CTRL_max_hold)) * usG)) = some l →
      ∃ t, exec (.lockMaxHoldExpire c) s = .next t ∧
      Agrees (ch.modLock l fun k => { k with release := some ch.now, forced := true }) (t.chan c) ∧
      Reported EV_FLW_LOCK_EXPIRED (t.chan c)) ∧
    ( ∀ (l : Lookup), ch.clocked = true → ch.flow.parked.find? (fun l => ch.sinceC l.at_ 4200) = some l → ∃ t,
      exec (.lockTimeout c) s = .next t ∧
      Agrees (let a : Chan := { ch with flow := { ch.flow with parked := ch.flow.parked.filter fun k => k.job ≠ l.job } }
        Chan.replay 64 ((a.lockStatus.modJob l.job fun j => { j with stage := .flowWait }).lookupMiss l.job 3)) (t.chan c))

/-- Outside Safe Serve, FLW_REGION_WRITE of FLW_REGION_A sets base and size of a tenant without a region when R77 and R79 allow it,
and otherwise changes nothing and reports EV_FLW_REGION_REJECT; of FLW_REGION_B it sets the whole register while there is no region
and R79 and R330 allow it, else changes nothing and reports EV_FLW_REGION_REJECT, and age_period and learn_to alone while there is
one, a changed age_period restarting the period. FLW_REGION_REMOVE ends the region: its lines, fills, pending keys, promotions,
maintenance and locks go and its waiting lookups end NO_REGION. LDS_NOTE_CONS_WRITE by the side learn_to names and
LDS_INS_PROD_WRITE move their index while the ring's count stays in range (and the producer does not go back), and otherwise report
EV_CHN_CFG_REJECT and change nothing. -/
def Obligations.RegionsAndRings : Prop :=
  ∀ (s : State) (c : Fin 8) (ch : Chan) (src : Option (Fin 17)) (i : Fin 16) (v : Word), s.chan c = ch →
    ( s.reaches src c (R.FLW_REGION_A i) = true → ch.hasRegion i = false → ch.safeServe = false →
      getF v F.FLW_REGION_A_log2_buckets ≠ 0 →
      ch.regionOk i (getF v F.FLW_REGION_A_base_bucket) (getF v F.FLW_REGION_A_log2_buckets) = true → ∃ t,
      exec (.flwRegionWrite c src i false v) s = .next t ∧
      Agrees ((ch.setFld (R.FLW_REGION_A i) F.FLW_REGION_A_base_bucket (getF v F.FLW_REGION_A_base_bucket)).setFld (R.FLW_REGION_A i) F.FLW_REGION_A_log2_buckets (getF v F.FLW_REGION_A_log2_buckets)) (t.chan c) ∧
      (t.chan c).hasRegion i = true) ∧
    ( s.reaches src c (R.FLW_REGION_A i) = true → ch.hasRegion i = false → ch.safeServe = false →
      getF v F.FLW_REGION_A_log2_buckets ≠ 0 →
      ch.regionOk i (getF v F.FLW_REGION_A_base_bucket) (getF v F.FLW_REGION_A_log2_buckets) = false → ∃ t,
      exec (.flwRegionWrite c src i false v) s = .next t ∧ Agrees (ch) (t.chan c) ∧ Reported EV_FLW_REGION_REJECT (t.chan c)) ∧
    ( s.reaches src c (R.FLW_REGION_B i) = true → ch.hasRegion i = false → ch.safeServe = false → ch.regionBOk i v = true → ∃ t,
      exec (.flwRegionWrite c src i true v) s = .next t ∧
      Agrees ((ch.wr (R.FLW_REGION_B i) v).ageWritten i (ch.agePeriod i)) (t.chan c) ∧ (t.chan c).rd (R.FLW_REGION_B i) = v) ∧
    ( s.reaches src c (R.FLW_REGION_B i) = true → ch.hasRegion i = true → ∃ t, exec (.flwRegionWrite c src i true v) s = .next t ∧
      Agrees ((ch.wr (R.FLW_REGION_B i) (mergeF (ch.rd (R.FLW_REGION_B i)) v [F.FLW_REGION_B_age_period, F.FLW_REGION_B_learn_to])).ageWritten i (ch.agePeriod i)) (t.chan c)) ∧
    ( s.reaches src c (R.FLW_REGION_B i) = true → ch.hasRegion i = false → ch.safeServe = false → ch.regionBOk i v = false → ∃ t,
      exec (.flwRegionWrite c src i true v) s = .next t ∧ Agrees (ch) (t.chan c) ∧ Reported EV_FLW_REGION_REJECT (t.chan c)) ∧
    ( s.reaches src c (R.FLW_REGION_A i) = true → ch.hasRegion i = true → ∃ t, exec (.flwRegionRemove c src i) s = .next t ∧
      Agrees (let waiting := (ch.flow.parked.filter fun (l : Lookup) => l.tenant == i.val) ++ ch.flow.miss.filter fun (l : Lookup) => l.tenant == i.val
        let held := (ch.flow.locks.filter fun (l : Lock) => l.tenant == i.val && l.table == 0).filter fun (l : Lock) => ch.lockBusy l
        let ended := (ch.flow.locks.filter fun (l : Lock) => l.tenant == i.val && l.table == 0).any fun l => !ch.lockBusy l && l.release.isSome && !l.forced
        let a : Chan := ch.setFld (R.FLW_REGION_A i) F.FLW_REGION_A_log2_buckets 0
        let b : Chan := { a with flow := { a.flow with
          cache := ch.flow.cache.filter fun x => match x.2 with | some l => l.tenant != i.val | none => true,
          fills := ch.flow.fills.filter fun b => !(decide (ch.regionBase i ≤ b) && decide (b < ch.regionBase i + 2 ^ ch.regionBits i)),
          miss := ch.flow.miss.filter fun l => l.tenant != i.val, parked := ch.flow.parked.filter fun l => l.tenant != i.val,
          pending := ch.flow.pending.filter fun p => p.2.1 != i.val, promote := ch.flow.promote.map fun p => if p.1 = i.val then (16, p.2) else p,
          maint := ch.flow.maint.filter fun m => match m.1 with | .invalidate _ _ _ t _ => t != i.val,
          locks := (ch.flow.locks.filter fun l => !(l.tenant == i.val && l.table == 0)) ++ held.map fun l => { l with release := some ch.now, noCheck := true, forced := l.forced || l.release.isNone } } }
        let e : Chan := if ended then b.lockStatus.setFlag R.FLW_LOCK_REL F.FLW_LOCK_REL_start false else b.lockStatus
        waiting.foldl (fun (x : Chan) l => x.lookupMiss l.job 5) e) (t.chan c)) ∧
    ( s.reaches src c (R.LDS_NOTE_IDX i) = true →
      (src = none ∧ ch.learnTo i = 1) ∨ ((src = some 0 ∨ src = some i.succ) ∧ ch.learnTo i = 2) →
      (ch.fld (R.LDS_NOTE_IDX i) F.LDS_NOTE_IDX_prod + 2048 - getF v F.LDS_NOTE_IDX_cons) % 2048 ≤ 1024 → ∃ t,
      exec (.ldsNoteConsWrite c src i v) s = .next t ∧
      Agrees (ch.setFld (R.LDS_NOTE_IDX i) F.LDS_NOTE_IDX_cons (getF v F.LDS_NOTE_IDX_cons)) (t.chan c)) ∧
    ( s.reaches src c (R.LDS_NOTE_IDX i) = true →
      (src = none ∧ ch.learnTo i = 1) ∨ ((src = some 0 ∨ src = some i.succ) ∧ ch.learnTo i = 2) →
      1024 < (ch.fld (R.LDS_NOTE_IDX i) F.LDS_NOTE_IDX_prod + 2048 - getF v F.LDS_NOTE_IDX_cons) % 2048 → ∃ t,
      exec (.ldsNoteConsWrite c src i v) s = .next t ∧ Agrees (ch) (t.chan c) ∧ Reported EV_CHN_CFG_REJECT (t.chan c)) ∧
    ( ∀ (k : Fin 17), s.reaches src c (R.LDS_INS_IDX k) = true → (getF v F.LDS_INS_IDX_prod + 512 - ch.insCons k) % 512 ≤ 256 →
      ch.insCount k ≤ (getF v F.LDS_INS_IDX_prod + 512 - ch.insCons k) % 512 → ∃ t, exec (.ldsInsProdWrite c src k v) s = .next t ∧
      Agrees (ch.setFld (R.LDS_INS_IDX k) F.LDS_INS_IDX_prod (getF v F.LDS_INS_IDX_prod)) (t.chan c)) ∧
    ( ∀ (k : Fin 17), s.reaches src c (R.LDS_INS_IDX k) = true →
      256 < (getF v F.LDS_INS_IDX_prod + 512 - ch.insCons k) % 512 ∨ (getF v F.LDS_INS_IDX_prod + 512 - ch.insCons k) % 512 < ch.insCount k →
      ∃ t, exec (.ldsInsProdWrite c src k v) s = .next t ∧ Agrees (ch) (t.chan c) ∧ Reported EV_CHN_CFG_REJECT (t.chan c))

/-- FTR_PROG_WRITE of a program no slot side uses, by the physical function or firmware, or a VF for its own or an empty one, stores
the word with loaded clear, a VF's owner field forced to its tenant, and starts the copy when count is not 0; for a VF, a program of
another tenant keeps its value and EV_CHN_VF_DENIED is reported; with a program in use, a count above 128, or a slot base that is no
multiple of 64, the register keeps its value and EV_FTR_PROG_BUSY is reported. FTR_PROG_LOADED puts the slots from the scratchpad
into program memory and sets loaded. ENTITY_FILL_COMPLETE of a running fill installs the bucket's 512 bytes in the tenant's cache;
an uncorrectable one installs nothing and is counted, and one of a locked bucket installs nothing. -/
def Obligations.FeatureProgramsAndEntities : Prop :=
  ∀ (s : State) (c : Fin 8) (ch : Chan), s.chan c = ch →
    ( ∀ (src : Option (Fin 17)) (n : Fin 64) (v : Word), s.reaches src c (R.FTR_PROG n) = true → writerInst src = 0 →
      ((List.range 128).any fun x => ch.sideBusy x && (ch.side x).progs.contains n.val) = false →
      getF v F.FTR_PROG_slot_base % 64 = 0 → getF v F.FTR_PROG_count ≤ 128 → ∃ t, exec (.ftrProgWrite c src n v) s = .next t ∧
      Agrees (let a : Chan := ch.wr (R.FTR_PROG n) (setF (v &&& 0x0001FFFFFFFFFFFF) F.FTR_PROG_loaded 0)
        { a with ftr := { a.ftr with loading := (ch.ftr.loading.filter fun p => p.1 ≠ n.val) ++ if getF v F.FTR_PROG_count = 0 then [] else [(n.val, ch.now)] } }) (t.chan c) ∧
      (t.chan c).flag (R.FTR_PROG n) F.FTR_PROG_loaded = false) ∧
    ( ∀ (i : Fin 16) (n : Fin 64) (v : Word), s.reaches (some i.succ) c (R.FTR_PROG n) = true →
      ch.fld (R.FTR_PROG n) F.FTR_PROG_count = 0 ∨ ch.fld (R.FTR_PROG n) F.FTR_PROG_owner = ch.tid i →
      ((List.range 128).any fun x => ch.sideBusy x && (ch.side x).progs.contains n.val) = false →
      getF v F.FTR_PROG_slot_base % 64 = 0 → getF v F.FTR_PROG_count ≤ 128 → ∃ t,
      exec (.ftrProgWrite c (some i.succ) n v) s = .next t ∧
      Agrees (let a : Chan := ch.wr (R.FTR_PROG n) (setF (setF v F.FTR_PROG_owner (ch.tid i) &&& 0x0001FFFFFFFFFFFF) F.FTR_PROG_loaded 0)
        { a with ftr := { a.ftr with loading := (ch.ftr.loading.filter fun p => p.1 ≠ n.val) ++ if getF v F.FTR_PROG_count = 0 then [] else [(n.val, ch.now)] } }) (t.chan c) ∧
      (t.chan c).fld (R.FTR_PROG n) F.FTR_PROG_owner = ch.tid i) ∧
    ( ∀ (i : Fin 16) (n : Fin 64) (v : Word), s.reaches (some i.succ) c (R.FTR_PROG n) = true →
      ch.fld (R.FTR_PROG n) F.FTR_PROG_count ≠ 0 → ch.fld (R.FTR_PROG n) F.FTR_PROG_owner ≠ ch.tid i → ∃ t,
      exec (.ftrProgWrite c (some i.succ) n v) s = .next t ∧ Agrees (ch) (t.chan c) ∧ Reported EV_CHN_VF_DENIED (t.chan c)) ∧
    ( ∀ (src : Option (Fin 17)) (n : Fin 64) (v : Word), s.reaches src c (R.FTR_PROG n) = true → writerInst src = 0 →
      ((List.range 128).any fun x => ch.sideBusy x && (ch.side x).progs.contains n.val) = true ∨ 128 < getF v F.FTR_PROG_count ∨ getF v F.FTR_PROG_slot_base % 64 ≠ 0 →
      ∃ t, exec (.ftrProgWrite c src n v) s = .next t ∧ Agrees (ch) (t.chan c) ∧ Reported EV_FTR_PROG_BUSY (t.chan c)) ∧
    ( ∀ (i : Fin 16) (n : Fin 64) (v : Word), s.reaches (some i.succ) c (R.FTR_PROG n) = true →
      ch.fld (R.FTR_PROG n) F.FTR_PROG_count = 0 ∨ ch.fld (R.FTR_PROG n) F.FTR_PROG_owner = ch.tid i →
      ((List.range 128).any fun x => ch.sideBusy x && (ch.side x).progs.contains n.val) = true ∨ 128 < getF v F.FTR_PROG_count ∨ getF v F.FTR_PROG_slot_base % 64 ≠ 0 →
      ∃ t, exec (.ftrProgWrite c (some i.succ) n v) s = .next t ∧ Agrees (ch) (t.chan c) ∧ Reported EV_FTR_PROG_BUSY (t.chan c)) ∧
    ( ∀ (n : Fin 64), ch.clocked = true → ch.ftr.loading.any (·.1 == n.val) = true → ∃ t, exec (.ftrProgLoaded c n) s = .next t ∧
      Agrees (let a : Chan := ch.setFlag (R.FTR_PROG n) F.FTR_PROG_loaded true
        { a with ftr := { a.ftr with loading := ch.ftr.loading.filter fun p => p.1 ≠ n.val, progs := sset (fun _ => []) ch.ftr.progs n (ch.spad (ch.fld (R.FTR_PROG n) F.FTR_PROG_slot_base) (8 * ch.fld (R.FTR_PROG n) F.FTR_PROG_count)) } }) (t.chan c)) ∧
    ( ∀ (i : Fin 16) (k : Fin 4) (bucket : BitVec 32), ch.clocked = true →
      ch.ftr.fills.contains (i.val, k.val, bucket.toNat) = true → ch.locked i (k.val + 1) bucket.toNat = false → ∃ t,
      exec (.entityFillComplete c i k bucket true) s = .next t ∧
      Agrees (let a : Chan := { ch with ftr := { ch.ftr with fills := ch.ftr.fills.filter (· ≠ (i.val, k.val, bucket.toNat)) } }
        a.entInstall i k bucket.toNat (ch.bytes 1 i (ch.entityAddr i k bucket.toNat) 512)) (t.chan c) ∧
      (t.chan c).ftr.fills.contains (i.val, k.val, bucket.toNat) = false) ∧
    ( ∀ (i : Fin 16) (k : Fin 4) (bucket : BitVec 32), ch.clocked = true →
      ch.ftr.fills.contains (i.val, k.val, bucket.toNat) = true → ch.locked i (k.val + 1) bucket.toNat = false → ∃ t,
      exec (.entityFillComplete c i k bucket false) s = .next t ∧
      Agrees (Chan.uncorrectable { ch with ftr := { ch.ftr with fills := ch.ftr.fills.filter (· ≠ (i.val, k.val, bucket.toNat)) } } 1 (ch.entityAddr i k bucket.toNat)) (t.chan c) ∧
      (t.chan c).rd R.MEM_CNT_T1_UNCORR = ch.rd R.MEM_CNT_T1_UNCORR + 1) ∧
    ( ∀ (i : Fin 16) (k : Fin 4) (bucket : BitVec 32) (ok : Bool), ch.clocked = true →
      ch.ftr.fills.contains (i.val, k.val, bucket.toNat) = true → ch.locked i (k.val + 1) bucket.toNat = true → ∃ t,
      exec (.entityFillComplete c i k bucket ok) s = .next t ∧
      Agrees ({ ch with ftr := { ch.ftr with fills := ch.ftr.fills.filter (· ≠ (i.val, k.val, bucket.toNat)) } }) (t.chan c))

/-- FST_ENS_WRITE with the lock open (outside Safe Serve; of the host only while FST_CTRL.enable is 0, and never to set valid)
stores the fields of the named register unless the descriptor would be valid and break R160: then nothing changes but
EV_FST_CFG_REJECT. CAM_WINDOW_WRITE of a word of an entry in a bank no valid ensemble owns puts it into the holding buffer,
CAM_WINDOW_COMMIT stores the held entry with the device's parity and ECC; in an owned bank both are ignored and reported.
CAM_ENTRY_UPSET flips stored bits and excludes an entry whose parity then fails. LEAF_CAM_REPAIR, repair_enable 1 and outside Safe
Serve, rewrites the oldest queued entry from its verified golden image, ends its exclusion, counts it and starts its read-back test.
ENSEMBLE_BANK_RELEASE, 97 + 18P + 1 cc after the swap and with no descriptor dispatched before it still to search, leaves the old
descriptor no bank and its banks no golden image. -/
def Obligations.ForestDescriptorsAndCam : Prop :=
  ∀ (s : State) (c : Fin 8) (ch : Chan), s.chan c = ch →
    ( ∀ (src : Option (Fin 17)) (n : Fin 32) (part : Fin 4) (v m w : Word),
      s.reaches src c (R.FST_ENS_CFG n + 8 * part.val) = true → src = none ∨ ch.flag R.FST_CTRL F.FST_CTRL_enable = false →
      ch.safeServe = false →
      m = (if part = 0 then 0x00FFFFFFFFFFFFFF else if part = 1 then 0x00003FFFFFFFFFFF else if part = 2 then 0x00000000FFFFFFFF else 0xFFFFFFFFFFFFFFFF) →
      w = (if part = 0 ∧ src.isSome = true ∧ ch.ensValid n = false then setF v F.FST_ENS_CFG_valid 0 else v) →
      (ch.wr (R.FST_ENS_CFG n + 8 * part.val) (w &&& m)).ensValid n = false ∨ (ch.wr (R.FST_ENS_CFG n + 8 * part.val) (w &&& m)).ensOk n = true →
      ∃ t, exec (.fstEnsWrite c src n part v) s = .next t ∧ Agrees (ch.wr (R.FST_ENS_CFG n + 8 * part.val) (w &&& m)) (t.chan c)) ∧
    ( ∀ (src : Option (Fin 17)) (n : Fin 32) (part : Fin 4) (v m w : Word),
      s.reaches src c (R.FST_ENS_CFG n + 8 * part.val) = true → src = none ∨ ch.flag R.FST_CTRL F.FST_CTRL_enable = false →
      ch.safeServe = false →
      m = (if part = 0 then 0x00FFFFFFFFFFFFFF else if part = 1 then 0x00003FFFFFFFFFFF else if part = 2 then 0x00000000FFFFFFFF else 0xFFFFFFFFFFFFFFFF) →
      w = (if part = 0 ∧ src.isSome = true ∧ ch.ensValid n = false then setF v F.FST_ENS_CFG_valid 0 else v) →
      (ch.wr (R.FST_ENS_CFG n + 8 * part.val) (w &&& m)).ensValid n = true →
      (ch.wr (R.FST_ENS_CFG n + 8 * part.val) (w &&& m)).ensOk n = false → ∃ t, exec (.fstEnsWrite c src n part v) s = .next t ∧
      Agrees (ch) (t.chan c) ∧ Reported EV_FST_CFG_REJECT (t.chan c)) ∧
    ( ∀ (src : Option (Fin 17)) (entry : BitVec 16) (word : Fin 22) (v : Word),
      s.reaches src c (camOffset entry.toNat word) = true → word ≠ 20 → ch.bankOwned (entry.toNat / 2048) = false → ∃ t,
      exec (.camWindowWrite c src entry word v) s = .next t ∧
      Agrees ({ ch with fst := { ch.fst with hold := some (entry.toNat, (ch.holdFor entry.toNat).putWord word v) } }) (t.chan c)) ∧
    ( ∀ (src : Option (Fin 17)) (entry : BitVec 16) (word : Fin 22) (v : Word),
      s.reaches src c (camOffset entry.toNat word) = true → ch.bankOwned (entry.toNat / 2048) = true → ∃ t,
      exec (.camWindowWrite c src entry word v) s = .next t ∧ Agrees (ch) (t.chan c) ∧ Reported EV_FST_WINDOW_REJECT (t.chan c)) ∧
    ( ∀ (src : Option (Fin 17)) (entry : BitVec 16) (v : Word) (x : CamEntry), s.reaches src c (camOffset entry.toNat 20) = true →
      ch.bankOwned (entry.toNat / 2048) = false → { ch.holdFor entry.toNat with valid := v.getLsbD 0 } = x → ∃ t,
      exec (.camWindowCommit c src entry v) s = .next t ∧
      Agrees (let a : Chan := ch.commitEntry entry.toNat x
        { a with fst := { a.fst with hold := some (entry.toNat, x.sealed) } }) (t.chan c) ∧
      (t.chan c).cam entry.toNat = x.sealed) ∧
    ( ∀ (src : Option (Fin 17)) (entry : BitVec 16) (v : Word), s.reaches src c (camOffset entry.toNat 20) = true →
      ch.bankOwned (entry.toNat / 2048) = true → ∃ t, exec (.camWindowCommit c src entry v) s = .next t ∧ Agrees (ch) (t.chan c) ∧
      Reported EV_FST_WINDOW_REJECT (t.chan c)) ∧
    ( ∀ (entry : BitVec 16) (bits : List Nat) (x : CamEntry), ch.isOn = true → bits.foldl CamEntry.flip (ch.cam entry.toNat) = x →
      x.good = false → sget (fun _ => none) ch.fst.excl entry.toNat = none → ∃ t, exec (.camEntryUpset c entry bits) s = .next t ∧
      Agrees (let a : Chan := ch.setCam entry.toNat x
        { a with fst := { a.fst with excl := sset (fun _ => none) a.fst.excl entry.toNat (some {}) } }) (t.chan c) ∧
      (t.chan c).cam entry.toNat = x) ∧
    ( ∀ (entry : BitVec 16) (bits : List Nat) (x : CamEntry), ch.isOn = true → bits.foldl CamEntry.flip (ch.cam entry.toNat) = x →
      x.good = true ∨ (sget (fun _ => none) ch.fst.excl entry.toNat).isSome = true → ∃ t,
      exec (.camEntryUpset c entry bits) s = .next t ∧ Agrees (ch.setCam entry.toNat x) (t.chan c)) ∧
    ( ∀ (e t0 : Nat) (rest : List (Nat × Nat)) (g : Golden) (x : CamEntry) (a : Chan), ch.clocked = true →
      ch.fst.repairs = (e, t0) :: rest → ch.safeServe = false → ch.flag R.FST_CTRL F.FST_CTRL_repair_enable = true →
      sget (fun _ => none) ch.fst.golden (e / 2048) = some g →
      ({ ch with fst := { ch.fst with repairs := rest } }.repairStatus.goldenKind (ctxOf g.slot g.side) 6) = (true, a) →
      a.goldenEntry e = some x → ∃ t, exec (.leafCamRepair c) s = .next t ∧
      Agrees (let b : Chan := (a.commitEntry e x).inc R.FST_CNT_REPAIR
        { b with chk := { b.chk with tests := b.chk.tests ++ [{ unit := .entry (e / 2048) (e % 2048), at_ := a.now, hold := false }] } }) (t.chan c) ∧
      (t.chan c).cam e = x.sealed ∧ Reported EV_FST_REPAIRED (t.chan c)) ∧
    ( ∀ (n : Fin 32) (x : Nat × Nat), ch.clocked = true → ch.fst.leaving.find? (·.1 == n.val) = some x →
      ch.sinceC x.2 (97 + 18 * ch.ensPasses n + 1) = true → ch.ensAwaited n = false → ∃ t,
      exec (.ensembleBankRelease c n) s = .next t ∧
      Agrees (let a : Chan := ch.setFld (R.FST_ENS_BANKS n) F.FST_ENS_BANKS_bank_mask 0
        { a with fst := { a.fst with leaving := ch.fst.leaving.filter (·.1 ≠ n.val), golden := (allBanks (ch.ensBanks n)).foldl (fun g b => sset (fun _ => none) g b none) ch.fst.golden } }) (t.chan c) ∧
      (t.chan c).fld (R.FST_ENS_BANKS n) F.FST_ENS_BANKS_bank_mask = 0)

/-- MMA, MMT, MVR, QNT, DQT, ROT, ACT, GATHER, DRAIN or SYNC of a side whose run in progress has not failed, naming its next
command, of that opcode, with no scratchpad range that an earlier uncompleted command still writes or reads, no hold, no dump
standing, and its tables loaded into the table cache, is listed as issued with its ranges, traced, and goes to its unit's queue;
GATHER completes at once, with status 0, or 1 where its last row lies outside the window, and SYNC with status 0. A DRAIN waits for
operations of its partition that have not entered it, a SYNC for every command before it. -/
def Obligations.SequencerIssuesInOrder : Prop :=
  ∀ (s : State) (c : Fin 8) (ch : Chan) (ctx : Fin 128) (index : Nat) (r : Run) (x : Bool × Chan) (a : Chan), s.chan c = ch →
    ch.clocked = true → ch.run ctx = some r → r.next = index → index < (ch.side ctx).commands → ch.obs.dump = none →
    (ch.models.holds.any fun h => h.ctx == ctx.val && h.part.isNone) = false → r.failed = none →
    ch.stepStops ctx r.number index = false →
    r.clear (ch.cmdRanges ctx r.number r.m index).1 (ch.cmdRanges ctx r.number r.m index).2 = true →
    ch.loadTables ctx r.number index = x → x.1 = true →
    x.2.setRun ctx { r with next := index + 1, live := r.live ++ [{ index := index, at_ := x.2.now, reads := (ch.cmdRanges ctx r.number r.m index).1, writes := (ch.cmdRanges ctx r.number r.m index).2 }], out := if ((ch.side ctx).cmd index).output then some (x.2.outputOf ctx r.number ((ch.side ctx).cmd index)) else r.out } = a →
    ( ((ch.side ctx).cmd index).opcode = 1 → ∃ t, exec (.mma c ctx index) s = .next t ∧
      Agrees ((a.traceCmd 4 ctx index 0).toOwnUnit ctx index r.m) (t.chan c)) ∧
    ( ((ch.side ctx).cmd index).opcode = 2 → ∃ t, exec (.mmt c ctx index) s = .next t ∧
      Agrees ((a.traceCmd 4 ctx index 0).toOwnUnit ctx index r.m) (t.chan c)) ∧
    ( ((ch.side ctx).cmd index).opcode = 3 → ∃ t, exec (.mvr c ctx index) s = .next t ∧
      Agrees ((a.traceCmd 4 ctx index 0).toOwnUnit ctx index r.m) (t.chan c)) ∧
    ( ((ch.side ctx).cmd index).opcode = 4 → ∃ t, exec (.qnt c ctx index) s = .next t ∧
      Agrees ((a.traceCmd 4 ctx index 0).toOwnUnit ctx index r.m) (t.chan c)) ∧
    ( ((ch.side ctx).cmd index).opcode = 5 → ∃ t, exec (.dqt c ctx index) s = .next t ∧
      Agrees ((a.traceCmd 4 ctx index 0).toOwnUnit ctx index r.m) (t.chan c)) ∧
    ( ((ch.side ctx).cmd index).opcode = 6 → ∃ t, exec (.rot c ctx index) s = .next t ∧
      Agrees ((a.traceCmd 4 ctx index 0).toOwnUnit ctx index r.m) (t.chan c)) ∧
    ( ((ch.side ctx).cmd index).opcode = 9 → ∃ t, exec (.act c ctx index) s = .next t ∧
      Agrees ((a.traceCmd 4 ctx index 0).toOwnUnit ctx index r.m) (t.chan c)) ∧
    ( ((ch.side ctx).cmd index).opcode = 0x0A →
      (ch.vpe.wfq.any fun x => x.ctx == ctx.val && decide (x.unit < 32) && ((ch.side ctx).cmd x.index).unit == ((ch.side ctx).cmd index).unit) = false →
      ∃ t, exec (.drain c ctx index) s = .next t ∧ Agrees ((a.traceCmd 4 ctx index 0).toOwnUnit ctx index r.m) (t.chan c)) ∧
    ( ∀ (b : Chan), ((ch.side ctx).cmd index).opcode = 8 → a.traceCmd 4 ctx index 0 = b →
      r.m = 0 ∨ (b.gatherRow ctx r.number (r.m - 1) (b.gatherBytes ctx r.number r.width)).isSome = true → ∃ t,
      exec (.gather c ctx index) s = .next t ∧ Agrees (b.cmdDone ctx index 0) (t.chan c) ∧
      (((t.chan c).run ctx).map (fun r => (r.next, r.failed)) = some (index + 1, none))) ∧
    ( ∀ (b : Chan), ((ch.side ctx).cmd index).opcode = 8 → a.traceCmd 4 ctx index 0 = b → r.m ≠ 0 →
      b.gatherRow ctx r.number (r.m - 1) (b.gatherBytes ctx r.number r.width) = none → ∃ t, exec (.gather c ctx index) s = .next t ∧
      Agrees (b.cmdDone ctx index 1) (t.chan c) ∧ (((t.chan c).run ctx).map (fun r => r.next) = some (index + 1))) ∧
    ( ((ch.side ctx).cmd index).opcode = 0x0B → r.live = [] → ∃ t, exec (.sync c ctx index) s = .next t ∧
      Agrees ((a.traceCmd 4 ctx index 0).cmdDone ctx index 0) (t.chan c) ∧
      (((t.chan c).run ctx).map (fun r => (r.next, r.live, r.failed)) = some (index + 1, [], none)))

/-- STANDBY_STAGE_COMPLETE after 66 cc, every tile's seal good, marks the pending image, or the load behind it, staged with the
weights read; STANDBY_WRITE_COMPLETE, 66 cc later and R174's gap kept, marks it written, counts the load and lets the partition go
on; MXE_ROW_LAND of a row of a group of one, 264 cc after its issue, counts the row and notes the landing of its chain: discarded,
nothing more, its last row apart; its compare failing, as Chan.rowFailed says; passing, its result goes where acc_op sends it, and
for a START's row, not its last, into the tile; a row that cannot be bounded is counted. CHAIN_REPLAY launches the due STREAM, or
else the first operations of the due chain, with their weights reloaded. DRAIN_SWAP of a landed chain makes the tile DRAINING and
its set the Crema set; DRAIN_READ_COMPLETE writes the rows out, frees the tile, counts the drain and completes the DRAIN; CHAIN_SAVE
of a cut, landed chain saves it, or without save area counts its cycles from first issue to last landing as lost, reports
EV_ACU_CHAIN_LOST and keeps it for a restart. -/
def Obligations.PartitionsLoadStreamAndDrain : Prop :=
  ∀ (s : State) (c : Fin 8) (ch : Chan) (k : Fin 32), s.chan c = ch → ch.clocked = true →
    ( ∀ (ctx : Fin 128) (sb : Standby) (q : Cmd), (ch.part k).standby = some sb → sb.phase = .staging → ch.sinceC sb.at_ 66 = true →
      (ch.side sb.ctx).cmd sb.index = q → ch.loadBad sb.ctx q q.w16 = none → ∃ t, exec (.standbyStageComplete c k ctx) s = .next t ∧
      Agrees ((ch.inc R.CHK_CNT_SEAL_CHECK (stationaryBytes (q.engineFmt.getD .n8) q.part / 2048)).modPart k fun p => { p with standby := some { sb with phase := .staged, at_ := ch.now, w := some (ch.weightsOf sb.ctx sb.run q) } }) (t.chan c)) ∧
    ( ∀ (ctx : Fin 128) (sb : Standby) (q : Cmd), ch.loadDue (ch.part k).standby = none → (ch.part k).next = some sb →
      sb.phase = .staging → ch.sinceC sb.at_ 66 = true → (ch.side sb.ctx).cmd sb.index = q → ch.loadBad sb.ctx q q.w16 = none → ∃ t,
      exec (.standbyStageComplete c k ctx) s = .next t ∧
      Agrees ((ch.inc R.CHK_CNT_SEAL_CHECK (stationaryBytes (q.engineFmt.getD .n8) q.part / 2048)).modPart k fun p => { p with next := some { sb with phase := .staged, at_ := ch.now, w := some (ch.weightsOf sb.ctx sb.run q) } }) (t.chan c)) ∧
    ( ∀ (sb : Standby), (ch.part k).standby = some sb → sb.phase = .staged → ch.sinceC sb.at_ 66 = true →
      ∀ x : Nat × Nat, (ch.part k).lastIssue = some x → ch.sinceC x.1 (passGap (k % 8) - 1) = true → ∃ t,
      exec (.standbyWriteComplete c k) s = .next t ∧
      Agrees ((((ch.modPart k fun p => { p with standby := some { sb with phase := .written, at_ := ch.now } }).setQuads (k / 8) (k % 8) F.MXE_STATUS_standby_ready true).inc (R.MXE_CNT_LOADS (k / 8))).pump k) (t.chan c)) ∧
    ( ∀ (errQ : Fin 4) (err : BitVec 32) (fl : Flight) (rest : List Flight) (q : Cmd) (a : Chan) (n : Nat),
      (ch.part k).flights = fl :: rest → (ch.side fl.ctx).cmd fl.index = q → ch.groupC k q = [k.val] →
      ch.sinceC fl.issued (264 + fl.landed) = true →
      ((ch.modPart k fun p => p.modFlight fun x => { x with landed := x.landed + 1 }).inc (R.MXE_CNT_ROWS (k / 8))).noteLanding k fl q = a →
      fl.discard = true → fl.landed + 1 < fl.rows → ∃ t, exec (.mxeRowLand c k errQ err) s = .next t ∧ Agrees (a) (t.chan c)) ∧
    ( ∀ (errQ : Fin 4) (err : BitVec 32) (fl : Flight) (rest : List Flight) (q : Cmd) (a : Chan) (n : Nat) (x : Nat),
      (ch.part k).flights = fl :: rest → (ch.side fl.ctx).cmd fl.index = q → ch.groupC k q = [k.val] →
      ch.sinceC fl.issued (264 + fl.landed) = true →
      ((ch.modPart k fun p => p.modFlight fun x => { x with landed := x.landed + 1 }).inc (R.MXE_CNT_ROWS (k / 8))).noteLanding k fl q = a →
      fl.discard = false →
      a.rowCheck k { fl with landed := fl.landed + 1 } (a.streamRow { fl with landed := fl.landed + 1 } fl.landed) errQ err.toNat = (some x, n) →
      ∃ t, exec (.mxeRowLand c k errQ err) s = .next t ∧
      Agrees (Chan.flightDone ((if n = 0 then a else a.inc R.CHK_CNT_UNCHECKED n).rowFailed k x fl.landed { fl with landed := fl.landed + 1 } [(k.val, { fl with landed := fl.landed + 1 })]) k) (t.chan c)) ∧
    ( ∀ (errQ : Fin 4) (err : BitVec 32) (fl : Flight) (rest : List Flight) (q : Cmd) (a : Chan) (n : Nat),
      (ch.part k).flights = fl :: rest → (ch.side fl.ctx).cmd fl.index = q → ch.groupC k q = [k.val] →
      ch.sinceC fl.issued (264 + fl.landed) = true →
      ((ch.modPart k fun p => p.modFlight fun x => { x with landed := x.landed + 1 }).inc (R.MXE_CNT_ROWS (k / 8))).noteLanding k fl q = a →
      fl.discard = false →
      a.rowCheck k { fl with landed := fl.landed + 1 } (a.streamRow { fl with landed := fl.landed + 1 } fl.landed) errQ err.toNat = (none, n) →
      ∃ t, exec (.mxeRowLand c k errQ err) s = .next t ∧
      Agrees (Chan.flightDone ((if n = 0 then a else a.inc R.CHK_CNT_UNCHECKED n).putResult k fl.landed fl (a.flightRow { fl with landed := fl.landed + 1 } (a.streamRow { fl with landed := fl.landed + 1 } fl.landed)) false) k) (t.chan c)) ∧
    ( ∀ (errQ : Fin 4) (err : BitVec 32) (fl : Flight) (rest : List Flight) (q : Cmd) (a : Chan) (n : Nat) (tl : Tile),
      (ch.part k).flights = fl :: rest → (ch.side fl.ctx).cmd fl.index = q → ch.groupC k q = [k.val] →
      ch.sinceC fl.issued (264 + fl.landed) = true →
      ((ch.modPart k fun p => p.modFlight fun x => { x with landed := x.landed + 1 }).inc (R.MXE_CNT_ROWS (k / 8))).noteLanding k fl q = a →
      fl.discard = false → fl.wide = false → q.accOp = 0 → fl.landed + 1 < fl.rows →
      a.rowCheck k { fl with landed := fl.landed + 1 } (a.streamRow { fl with landed := fl.landed + 1 } fl.landed) errQ err.toNat = (none, 0) →
      a.tile (a.tileOf k q) = some tl → ∃ t, exec (.mxeRowLand c k errQ err) s = .next t ∧
      Agrees (a.setTile (a.tileOf k q) (some (tl.putRow fl.landed (a.flightRow { fl with landed := fl.landed + 1 } (a.streamRow { fl with landed := fl.landed + 1 } fl.landed))))) (t.chan c)) ∧
    ( ∀ (j : Fin 64) (r : Redo) (b : Chan) (ws : List Weights), j.val = k.val → (ch.part k).redo.find? ch.redoDue = some r →
      ch.reloadAll r.ctx r.run r.ops = (some ws, b) → ∃ t, exec (.chainReplay c j) s = .next t ∧
      Agrees (let rows := ((b.side r.ctx).cmd ((r.ops.headD (0, 0, 0)).2.1)).rows (match b.run r.ctx with | some x => x.m | none => 0)
        (b.modPart k fun p => { p with redo := p.redo.map fun x => if x = r then { x with restart := none } else x }).relaunch r.ctx r.run rows 0 r.ops ws) (t.chan c)) ∧
    ( ∀ (j : Fin 64) (n : Nat) (tl : Tile) (fs : List (Nat × Nat × Nat)) (b : Chan) (ws : List Weights), j.val = k.val →
      (ch.part k).redo.find? ch.redoDue = none →
      ((List.range 16).findSome? fun n => (ch.tile (tileKey (k / 8) n)).bind fun t => if ch.chainDue k t then some (n, t) else none) = some (n, tl) →
      (tl.group.filterMap fun x => ((ch.memberOps tl x).head?).map fun o => (x, o.1, o.2)) = fs →
      ch.reloadAll tl.ctx tl.run fs = (some ws, b) → ∃ t, exec (.chainReplay c j) s = .next t ∧
      Agrees (let d : Chan := (tl.group.foldl (Chan.requeue tl) b).relaunch tl.ctx tl.run tl.rows tl.shift fs ws
        tl.group.foldl Chan.pump (d.setTile (tileKey (k / 8) n) (some { tl with restart := none, waiting := false, words := [], issued := tl.group.length }))) (t.chan c)) ∧
    ( ∀ (d : DrainSlot) (tl : Tile), (ch.part k).drain = some d → d.swap = none → ch.tile (tileKey (k / 8) d.tile) = some tl →
      ch.chainLanded tl = true → (ch.part k).crema = none → (ch.part k).bufAt ≤ ch.coreNow → ∃ t,
      exec (.drainSwap c k) s = .next t ∧
      Agrees (((ch.modPart k fun p => { p with drain := some { d with swap := some ch.now }, crema := some d.tile, tile := if p.tile = some d.tile then none else p.tile }).setTileState (tileKey (k / 8) d.tile) 3).pump k) (t.chan c)) ∧
    ( ∀ (d : DrainSlot) (t0 : Nat) (tl : Tile) (e : DrainDesc), (ch.part k).drain = some d → d.swap = some t0 → d.late = false →
      ch.tile (tileKey (k / 8) d.tile) = some tl → ch.sinceC t0 (drainRead (k % 8) - 1) = true →
      ch.drainDesc d.ctx d.run ((ch.side d.ctx).cmd d.index).w36 = e → e.dest ≠ 2 ∨ ch.stepDead d.ctx = false → ∃ t,
      exec (.drainReadComplete c k) s = .next t ∧
      Agrees (let x := ch.drainRows tl e d.seed
        let y : Chan := if e.dest = 0 then x.2.2.widenInRun d.ctx e.out e.addr e.stride x.1 x.2.1 else x.2.2
        let a : Chan := y.modPart k fun p => { p with drain := none, crema := none, bufAt := if e.dest = 2 then coreAt ch.core t0 + coreCycles (drainRead (k % 8) + tl.rows * tl.width / 512) else (ch.part k).bufAt }
        let b : Chan := ((a.freeTile (tileKey (k / 8) d.tile)).inc R.ACU_CNT_DRAINS).cmdDone d.ctx d.index 0
        b.pump k) (t.chan c)) ∧
    ( ∀ (j : Fin 64) (tk : Nat) (tl : Tile), j.val = k.val →
      ((ch.tilesOn k).findSome? fun x => (ch.tile x).bind fun y => if y.cut && !y.dead && ch.rowsLanded y then some (x, y) else none) = some (tk, tl) →
      ch.flag R.ACU_CTRL F.ACU_CTRL_slot_mode = true ∨ ch.saveBase tl.tenant (k / 8) = none → ∃ t,
      exec (.chainSave c j) s = .next t ∧
      Agrees (let a : Chan := (ch.dropSet k tk).modPart k fun p => if ((ch.part k).drain.filter fun d => d.tile == tk % 16).isSome then { p with drain := none } else p
        let b : Chan := a.inc R.ACU_CNT_LOST_CC ((coreAt ch.core (tl.landAt.getD tl.firstAt) - coreAt ch.core tl.firstAt) / 240)
        let x : Saved := { key := tk, addr := none, tile := { tl with cut := false, words := [], issued := 0, restart := some ch.now, starved := tl.starved + 1 }, drain := ((ch.part k).drain.filter fun d => d.tile == tk % 16) }
        (Chan.restoreChains { b with eng := { b.eng with saved := b.eng.saved ++ [x] } } k).pump k) (t.chan c)) ∧
    ( ∀ (j : Fin 64) (tk : Nat) (tl : Tile), j.val = k.val →
      ((ch.tilesOn k).findSome? fun x => (ch.tile x).bind fun y => if y.cut && !y.dead && ch.rowsLanded y then some (x, y) else none) = some (tk, tl) →
      ch.flag R.ACU_CTRL F.ACU_CTRL_slot_mode = true ∨ ch.saveBase tl.tenant (k / 8) = none → tl.starved < 3 → ∃ t,
      exec (.chainSave c j) s = .next t ∧ Reported EV_ACU_CHAIN_LOST (t.chan c)) ∧
    ( ∀ (j : Fin 64) (tk : Nat) (tl : Tile) (ad : Nat), j.val = k.val →
      ((ch.tilesOn k).findSome? fun x => (ch.tile x).bind fun y => if y.cut && !y.dead && ch.rowsLanded y then some (x, y) else none) = some (tk, tl) →
      ch.flag R.ACU_CTRL F.ACU_CTRL_slot_mode = false → ch.saveBase tl.tenant (k / 8) = some ad → ∃ t,
      exec (.chainSave c j) s = .next t ∧
      Agrees (let a : Chan := (ch.dropSet k tk).modPart k fun p => if ((ch.part k).drain.filter fun d => d.tile == tk % 16).isSome then { p with drain := none } else p
        let b : Chan := (a.saveChain ad tk { tl with cut := false }).inc R.ACU_CNT_SAVE
        let x : Saved := { key := tk, addr := some ad, tile := { tl with cut := false }, drain := ((ch.part k).drain.filter fun d => d.tile == tk % 16) }
        (Chan.restoreChains { b with eng := { b.eng with saved := b.eng.saved ++ [x] } } k).pump k) (t.chan c))

/-- MXE_PART_WRITE with the engine's lock open stores a mode and owners that R168 allows and clears what the changed quadrants hold;
refused ones change nothing but EV_MXE_PART_REJECT, and with the lock closed MXE_PART is ignored and MXE_CTRL takes enable alone.
RVU_PAGE_OWNER_WRITE with the lock open stores the owners, erases the changed pages and recounts the free ones, or, where a loaded
side names a changed page, changes nothing but EV_RVU_PAGE_REJECT. ACU_ABORT stores tenant and slot (a VF's tenant is its own); with
start set it aborts both sides of the tenant's slot and shows what was cancelled and what came too late; of another tenant's slot it
shows zeros. MVR_OUTPUT_READY of an MVR in its own format, its compare not failing, scales the group's outputs and writes them where
its descriptor says, and the last group ends the unit's share. RAMP_DOWN_STEP lowers the density by one sixteenth and counts the
dummies of the gap so far. -/
def Obligations.EngineOwnershipAbortAndRamps : Prop :=
  ∀ (s : State) (c : Fin 8) (ch : Chan), s.chan c = ch →
    ( ∀ (src : Option (Fin 17)) (e : Fin 4) (v own : Word), s.reaches src c (R.MXE_PART e) = true → ch.mxeOpen e = true →
      mergeF (ch.rd (R.MXE_PART e)) v ((List.range 4).flatMap fun q => [F.MXE_PART_owner q, F.MXE_PART_assigned q]) = own →
      ch.partPairOk (ch.fld (R.MXE_CTRL e) F.MXE_CTRL_part_mode) own = true → ∃ t, exec (.mxePartWrite c src e true v) s = .next t ∧
      Agrees ((ch.wr (R.MXE_PART e) own).clearQuads e ((List.range 4).filter fun q => getF (ch.rd (R.MXE_PART e)) (F.MXE_PART_owner q) ≠ getF own (F.MXE_PART_owner q) ∨ getF (ch.rd (R.MXE_PART e)) (F.MXE_PART_assigned q) ≠ getF own (F.MXE_PART_assigned q))) (t.chan c)) ∧
    ( ∀ (src : Option (Fin 17)) (e : Fin 4) (v : Word), s.reaches src c (R.MXE_PART e) = true → ch.mxeOpen e = true →
      ch.partPairOk (ch.fld (R.MXE_CTRL e) F.MXE_CTRL_part_mode) (mergeF (ch.rd (R.MXE_PART e)) v ((List.range 4).flatMap fun q => [F.MXE_PART_owner q, F.MXE_PART_assigned q])) = false →
      ∃ t, exec (.mxePartWrite c src e true v) s = .next t ∧ Agrees (ch) (t.chan c) ∧ Reported EV_MXE_PART_REJECT (t.chan c)) ∧
    ( ∀ (src : Option (Fin 17)) (e : Fin 4) (v : Word), s.reaches src c (R.MXE_PART e) = true → ch.mxeOpen e = false → ∃ t,
      exec (.mxePartWrite c src e true v) s = .next t ∧ Agrees (ch) (t.chan c)) ∧
    ( ∀ (src : Option (Fin 17)) (e : Fin 4) (v w : Word), s.reaches src c (R.MXE_CTRL e) = true → ch.mxeOpen e = true →
      mergeF (ch.rd (R.MXE_CTRL e)) v [F.MXE_CTRL_enable, F.MXE_CTRL_part_mode] = w →
      ch.partPairOk (getF w F.MXE_CTRL_part_mode) (ch.rd (R.MXE_PART e)) = true → ∃ t,
      exec (.mxePartWrite c src e false v) s = .next t ∧
      Agrees ((ch.wr (R.MXE_CTRL e) w).clearQuads e (if ch.fld (R.MXE_CTRL e) F.MXE_CTRL_part_mode ≠ getF w F.MXE_CTRL_part_mode then List.range 4 else [])) (t.chan c)) ∧
    ( ∀ (src : Option (Fin 17)) (e : Fin 4) (v : Word), s.reaches src c (R.MXE_CTRL e) = true → ch.mxeOpen e = true →
      ch.partPairOk (getF (mergeF (ch.rd (R.MXE_CTRL e)) v [F.MXE_CTRL_enable, F.MXE_CTRL_part_mode]) F.MXE_CTRL_part_mode) (ch.rd (R.MXE_PART e)) = false →
      ∃ t, exec (.mxePartWrite c src e false v) s = .next t ∧ Agrees (ch) (t.chan c) ∧ Reported EV_MXE_PART_REJECT (t.chan c)) ∧
    ( ∀ (src : Option (Fin 17)) (e : Fin 4) (v : Word), s.reaches src c (R.MXE_CTRL e) = true → ch.mxeOpen e = false → ∃ t,
      exec (.mxePartWrite c src e false v) s = .next t ∧
      Agrees (ch.wr (R.MXE_CTRL e) (mergeF (ch.rd (R.MXE_CTRL e)) v [F.MXE_CTRL_enable])) (t.chan c)) ∧
    ( ∀ (src : Option (Fin 17)) (u : Fin 2) (i : Fin 32) (v : Word), s.reaches src c (R.RVU_PAGE_OWNER u i) = true →
      ch.safeServe = false → ch.flag R.RVU_CTRL F.RVU_CTRL_enable_0 = false → ch.flag R.RVU_CTRL F.RVU_CTRL_enable_1 = false →
      ∀ p : Nat, p < 8 → getF (ch.rd (R.RVU_PAGE_OWNER u i)) ⟨8 * p, 8⟩ ≠ getF v ⟨8 * p, 8⟩ → ch.pageLoaded u (8 * i + p) = false →
      ∃ t, exec (.rvuPageOwnerWrite c src u i v) s = .next t ∧
      Agrees (((ch.setRvu u { ch.rvu u with store := ((List.range 8).filter fun p => getF (ch.rd (R.RVU_PAGE_OWNER u i)) ⟨8 * p, 8⟩ ≠ getF v ⟨8 * p, 8⟩).foldl (fun m p => clearRange m (4096 * (8 * i + p)) 4096) (ch.rvu u).store }).wr (R.RVU_PAGE_OWNER u i) v).countPages u) (t.chan c)) ∧
    ( ∀ (src : Option (Fin 17)) (u : Fin 2) (i : Fin 32) (v : Word) (p : Nat), s.reaches src c (R.RVU_PAGE_OWNER u i) = true →
      ch.safeServe = false → ch.flag R.RVU_CTRL F.RVU_CTRL_enable_0 = false → ch.flag R.RVU_CTRL F.RVU_CTRL_enable_1 = false →
      p < 8 → getF (ch.rd (R.RVU_PAGE_OWNER u i)) ⟨8 * p, 8⟩ ≠ getF v ⟨8 * p, 8⟩ → ch.pageLoaded u (8 * i + p) = true → ∃ t,
      exec (.rvuPageOwnerWrite c src u i v) s = .next t ∧ Agrees (ch) (t.chan c) ∧ Reported EV_RVU_PAGE_REJECT (t.chan c)) ∧
    ( ∀ (src : Option (Fin 17)) (v w : Word) (n : Nat), s.reaches src c R.ACU_ABORT = true → getF v F.ACU_ABORT_start = 1 →
      (if writerInst src = 0 then mergeF (ch.rd R.ACU_ABORT) v [F.ACU_ABORT_tenant, F.ACU_ABORT_model_slot] else setF (mergeF (ch.rd R.ACU_ABORT) v [F.ACU_ABORT_tenant, F.ACU_ABORT_model_slot]) F.ACU_ABORT_tenant (ch.tid (writerInst src - 1))) = w →
      getF w F.ACU_ABORT_model_slot = n → n < 64 → ch.slotTid n = getF w F.ACU_ABORT_tenant → ∃ t,
      exec (.acuAbort c src v) s = .next t ∧
      Agrees (let x := abortCtx (abortCtx { ch := ch.wr R.ACU_ABORT w } (2 * n)) (2 * n + 1)
        (List.range 32).foldl Chan.pump ((x.ch.setFld R.ACU_ABORT_STATUS F.ACU_ABORT_STATUS_cancelled x.cancelled).setFld R.ACU_ABORT_STATUS F.ACU_ABORT_STATUS_late x.late)) (t.chan c)) ∧
    ( ∀ (src : Option (Fin 17)) (v w : Word), s.reaches src c R.ACU_ABORT = true → getF v F.ACU_ABORT_start = 1 →
      (if writerInst src = 0 then mergeF (ch.rd R.ACU_ABORT) v [F.ACU_ABORT_tenant, F.ACU_ABORT_model_slot] else setF (mergeF (ch.rd R.ACU_ABORT) v [F.ACU_ABORT_tenant, F.ACU_ABORT_model_slot]) F.ACU_ABORT_tenant (ch.tid (writerInst src - 1))) = w →
      ch.slotTid (getF w F.ACU_ABORT_model_slot) ≠ getF w F.ACU_ABORT_tenant → ∃ t, exec (.acuAbort c src v) s = .next t ∧
      Agrees ((ch.wr R.ACU_ABORT w).wr R.ACU_ABORT_STATUS 0) (t.chan c)) ∧
    ( ∀ (src : Option (Fin 17)) (v w : Word), s.reaches src c R.ACU_ABORT = true → getF v F.ACU_ABORT_start = 0 →
      (if writerInst src = 0 then mergeF (ch.rd R.ACU_ABORT) v [F.ACU_ABORT_tenant, F.ACU_ABORT_model_slot] else setF (mergeF (ch.rd R.ACU_ABORT) v [F.ACU_ABORT_tenant, F.ACU_ABORT_model_slot]) F.ACU_ABORT_tenant (ch.tid (writerInst src - 1))) = w →
      ∃ t, exec (.acuAbort c src v) s = .next t ∧ Agrees (ch.wr R.ACU_ABORT w) (t.chan c)) ∧
    (
      ∀ (u : Fin 2) (err : BitVec 32) (d : Dot) (rest : List Dot) (q : Cmd) (f : Fmt) (e : DrainDesc) (gs : List Nat) (m g : Nat) (xs : List Byte) (outs : List (Nat × Bool)) (res : CheckResult),
      ch.clocked = true → (ch.rvu u).dots = d :: rest → (ch.side d.ctx).cmd d.index = q → q.engineFmt = some f → d.waiting = false →
      d.wide = false → ch.sinceC d.issued (d.next * q.chunks + q.chunks - 1 + 29) = true → ch.groupsOn q u = gs →
      d.next / gs.length = m → gs.getD (d.next % gs.length) 0 = g → ch.drainDesc d.ctx d.run q.w36 = e →
      ch.winBytes d.ctx d.run (q.w20 + m * q.w24) (codeBytes f q.h30) = xs →
      ((((List.range 16).map (16 * g + ·)).filter (· < q.h32)).map fun n => dotProduct f q.h30 xs (ch.rvuRow d.ctx q n)) = outs →
      (if f.isInt then (if err.toNat = 0 then CheckResult.pass else .fail) else rvuCheckFp f q.h30 xs ((((List.range 16).map (16 * g + ·)).filter (· < q.h32)).map fun n => ch.rvuRow d.ctx q n) (outs.map (·.1)) err.toNat) = res →
      res ≠ .fail → ∃ t, exec (.mvrOutputReady c u err) s = .next t ∧
      Agrees (let ns := (((List.range 16).map (16 * g + ·)).filter (· < q.h32))
        let a : Chan := ch.inc R.RVU_CNT_DOT (ns.length * q.chunks)
        let b : Chan := if res = .unchecked then a.inc R.CHK_CNT_UNCHECKED else a
        let ys := (outs.zip ns).map fun o => fpMul (if o.1.2 then fpNaN else o.1.1) (leNat (ch.tabBytes d.ctx d.run (e.dscale + 4 * o.2) 4))
        let x := b.drainRow d.ctx d.run e d.seed m (16 * g) ys
        let vals := if e.dest = 0 then (ys.zip ns).foldl (fun v y => sset (fun _ => 0) v (4096 * m + y.2) (x.2.drainAct d.ctx d.run e.act y.1)) d.vals else d.vals
        let d' : Dot := { d with next := d.next + 1, sats := d.sats + x.1, vals := vals }
        let z : Chan := x.2.setRvu u { ch.rvu u with dots := d' :: rest }
        if d'.next < d'.total then z else z.dotDone u d') (t.chan c)) ∧
    ( ∀ (unit : Fin 34) (p : Part) (t0 m n : Nat), ch.clocked = true → unit.val < 32 → ch.part unit = p → p.drawn = some (t0, m) →
      p.level ≠ 0 → ch.sinceC t0 (m + 64 + 16 * (16 - p.level)) = true → gapRows (ch.cyclesSince t0 - m) - p.dummies = n → ∃ t,
      exec (.rampDownStep c unit) s = .next t ∧
      Agrees (((ch.inc (R.MXE_CNT_DUMMY_ROWS (unit / 8)) n).modPart unit fun x => { x with level := p.level - 1, dummies := p.dummies + n }).setLevel (unit / 8) (unit % 8) (p.level - 1)) (t.chan c)) ∧
    ( ∀ (unit : Fin 34) (u : Nat) (x : Rvu) (t0 m n : Nat), ch.clocked = true → unit.val = 32 + u → ch.rvu u = x →
      x.lastIssue = some (t0, m) → x.level ≠ 0 → ch.sinceC t0 (m + 64 + 16 * (16 - x.level)) = true →
      gapRows (ch.cyclesSince t0 - m) - x.dummies = n → ∃ t, exec (.rampDownStep c unit) s = .next t ∧
      Agrees (((ch.inc R.RVU_CNT_DUMMY_CHUNKS n).setRvu u { x with level := x.level - 1, dummies := x.dummies + n }).setRvuLevel u (x.level - 1)) (t.chan c))

/-- BATCH_CLOSE of an open batch that has its cap's descriptors or waits 126 cc closes it with its widening check and its
descriptors kept; RUN_START of a NEURAL side's closed batch with no run in progress makes it the side's next run, counted in
CHN_CNT_RUNS, or, of a side that may start none, gives its descriptors no result, counted as a failed run where the side was
quarantined while RETIRING; RUN_COMPLETE of a run whose commands have all issued and completed hands each descriptor its output row,
or no result where Safe Serve has the slot contribute none, or, of a failed run, no result with CHN_CNT_RUN_FAILED counted. -/
def Obligations.BatchesAndRuns : Prop :=
  ∀ (s : State) (c : Fin 8) (ch : Chan) (ctx : Fin 128), s.chan c = ch → ch.clocked = true →
    ( ∀ (b : Batch), (ch.seqr ctx).batch = some b → b.closed = false →
      ch.batchCap ctx ≤ b.jobs.length ∨ ch.sinceC b.at_ 126 = true → ∃ t, exec (.batchClose c ctx) s = .next t ∧
      Agrees (let g := (ch.side ctx).cmd 0
        let x := ch.widenTensor ctx (ch.seqr ctx).count g.w40 g.w20 g.w24 b.sats b.rows
        x.2.setSeqr ctx { ch.seqr ctx with batch := some { b with closed := true, wide := !x.1.isEmpty } }) (t.chan c)) ∧
    ( ∀ (b : Batch), (ch.seqr ctx).batch = some b → (ch.seqr ctx).run = none → b.closed = true → ch.slotKind (ctxSlot ctx) = 1 →
      ch.sideRuns ctx = true → ∃ t, exec (.runStart c ctx) s = .next t ∧
      Agrees (let g := (ch.side ctx).cmd 0
        let k := (ch.seqr ctx).count
        let w := if b.wide then (ch.side ctx).layersFrom g.w20 (b.jobs.length * g.w24) else []
        (ch.setSeqr ctx { batch := none, run := some { number := k, at_ := ch.now, m := b.jobs.length, jobs := b.jobs, width := b.width, wide := w }, count := k + 1 }).inc R.CHN_CNT_RUNS) (t.chan c)) ∧
    ( ∀ (b : Batch), (ch.seqr ctx).batch = some b → (ch.seqr ctx).run = none → b.closed = true → ch.slotKind (ctxSlot ctx) = 1 →
      ch.sideRuns ctx = false → ∃ t, exec (.runStart c ctx) s = .next t ∧
      Agrees (let a : Chan := if (ch.side ctx).dead then ch.runFailed ctx else ch
        (a.setSeqr ctx { ch.seqr ctx with batch := none }).noNets ctx b.jobs) (t.chan c) ∧
      ((t.chan c).seqr ctx).run = none) ∧
    ( ∀ (r : Run), ch.run ctx = some r → ch.slotKind (ctxSlot ctx) = 1 → (ch.side ctx).commands ≤ r.next → r.live = [] →
      r.failed = none → ch.chk.muted.contains (ctxSlot ctx) = false → ∃ t, exec (.runComplete c ctx) s = .next t ∧
      Agrees (let rows := (List.range r.jobs.length).map (ch.runOutputs ctx r)
        (r.jobs.zip rows).foldl (fun (a : Chan) x => a.netArrives ctx (!r.wide.isEmpty) x.1 (some x.2)) ((ch.setSeqr ctx { ch.seqr ctx with run := none }).noteEpoch [ctx])) (t.chan c)) ∧
    ( ∀ (r : Run), ch.run ctx = some r → ch.slotKind (ctxSlot ctx) = 1 → (ch.side ctx).commands ≤ r.next → r.live = [] →
      r.failed = none → ch.chk.muted.contains (ctxSlot ctx) = true → ∃ t, exec (.runComplete c ctx) s = .next t ∧
      Agrees (r.jobs.foldl (fun (a : Chan) id => a.netArrives ctx (!r.wide.isEmpty) id none) ((ch.setSeqr ctx { ch.seqr ctx with run := none }).noteEpoch [ctx])) (t.chan c)) ∧
    ( ∀ (r : Run) (e : Nat × Nat), ch.run ctx = some r → ch.slotKind (ctxSlot ctx) = 1 → (ch.side ctx).commands ≤ r.next →
      r.live = [] → r.failed = some e → ∃ t, exec (.runComplete c ctx) s = .next t ∧
      Agrees (r.jobs.foldl (fun (a : Chan) id => a.netArrives ctx (!r.wide.isEmpty) id none) (((ch.setSeqr ctx { ch.seqr ctx with run := none }).runFailed ctx).noteEpoch [ctx])) (t.chan c))

/-- STAGE_REQUEST with start set into an enabled slot with an EMPTY standby side, no staging under way and no Safe Serve begins
staging with the source, backup and banks of the staging registers, at step 2; where Table 08.11's first step fails it shows FAILED
with the reason and reports EV_CHN_STAGE_FAIL; a VF naming another tenant's slot is denied; without start only the slot field
changes. FOREST binds the ensemble of a staging FOREST slot. STAGE_COMPLETE ends at the first check that fails, with its step and
reason, and otherwise, resources found, the backup accepted and read back, writes the side and makes it STAGED.
SEAL_REFETCH_COMPLETE ends the oldest hold: the load it holds resumes when a copy verifies, and fails with its operation when none
does. -/
def Obligations.StagingTakesAPackage : Prop :=
  ∀ (s : State) (c : Fin 8) (ch : Chan), s.chan c = ch →
    ( ∀ (src : Option (Fin 17)) (v : Word) (n : Nat), s.reaches src c R.CHN_STAGE_REQ = true → getF v F.CHN_STAGE_REQ_slot = n →
      ch.slotForeign (writerInst src) n = false → getF v F.CHN_STAGE_REQ_start = 1 →
      (ch.setFld R.CHN_STAGE_REQ F.CHN_STAGE_REQ_slot n).stageStep1 n = none → ∃ t, exec (.stageRequest c src v) s = .next t ∧
      Agrees (let a : Chan := ch.setFld R.CHN_STAGE_REQ F.CHN_STAGE_REQ_slot n
        let st : Staging := { slot := n, side := 1 - ch.servingSide n, src := ch.fld R.CHN_STAGE_SRC F.CHN_STAGE_SRC_address / 4096 * 4096, tier := ch.fld R.CHN_STAGE_BACKUP F.CHN_STAGE_BACKUP_tier, back := ch.fld R.CHN_STAGE_BACKUP F.CHN_STAGE_BACKUP_address / 4096 * 4096, banks := ch.fld R.CHN_STAGE_BANKS F.CHN_STAGE_BANKS_bank_mask, at_ := ch.now }
        let b : Chan := { a with models := { a.models with staging := some st } }
        let b : Chan := b.setSide (ctxOf n st.side) { header := (b.sideOfPackage st).header, program := (b.sideOfPackage st).program }
        ((b.setStandby n 1).stageStatus 1 0 2 n).slotChange n) (t.chan c)) ∧
    ( ∀ (src : Option (Fin 17)) (v : Word) (n r : Nat), s.reaches src c R.CHN_STAGE_REQ = true → getF v F.CHN_STAGE_REQ_slot = n →
      ch.slotForeign (writerInst src) n = false → getF v F.CHN_STAGE_REQ_start = 1 →
      (ch.setFld R.CHN_STAGE_REQ F.CHN_STAGE_REQ_slot n).stageStep1 n = some r → ∃ t, exec (.stageRequest c src v) s = .next t ∧
      Agrees ((((ch.setFld R.CHN_STAGE_REQ F.CHN_STAGE_REQ_slot n).stageStatus 3 r 1 n).inc R.CHN_CNT_STAGE_FAIL).slotChange n) (t.chan c) ∧
      (t.chan c).models = ch.models) ∧
    ( ∀ (src : Option (Fin 17)) (v : Word) (n : Nat), s.reaches src c R.CHN_STAGE_REQ = true → getF v F.CHN_STAGE_REQ_slot = n →
      ch.slotForeign (writerInst src) n = false → getF v F.CHN_STAGE_REQ_start = 0 → ∃ t, exec (.stageRequest c src v) s = .next t ∧
      Agrees (ch.setFld R.CHN_STAGE_REQ F.CHN_STAGE_REQ_slot n) (t.chan c)) ∧
    ( ∀ (src : Option (Fin 17)) (v : Word), s.reaches src c R.CHN_STAGE_REQ = true →
      ch.slotForeign (writerInst src) (getF v F.CHN_STAGE_REQ_slot) = true → ∃ t, exec (.stageRequest c src v) s = .next t ∧
      Agrees (ch) (t.chan c) ∧ Reported EV_CHN_VF_DENIED (t.chan c)) ∧
    ( ∀ (x : Staging), ch.clocked = true → ch.models.staging = some x → ch.slotKind x.slot = 0 → ch.safeServe = false →
      ((ch.sideOfPackage x).cmd 0).opcode = 7 → ∃ t, exec (.forest c) s = .next t ∧
      Agrees ({ ch with models := { ch.models with staging := some { x with bound := true } } }) (t.chan c)) ∧
    ( ∀ (err : Bool) (x : Staging) (f : StageFault), ch.clocked = true → ch.models.staging = some x → ch.safeServe = false →
      ch.stageChecks x = some f → ∃ t, exec (.stageComplete c err) s = .next t ∧
      Agrees (Chan.stageFault (if 6 ≤ f.step then ch.inc R.CHK_CNT_SEAL_CHECK (ch.sideOfPackage x).tiles else ch) f) (t.chan c) ∧
      (t.chan c).models.staging = none ∧ ((t.chan c).side (ctxOf x.slot x.side) = {})) ∧
    ( ∀ (err : Bool) (x : Staging), ch.clocked = true → ch.models.staging = some x → ch.safeServe = false → ∃ t,
      exec (.stageComplete c err) s = .next t ∧
      Agrees (let a : Chan := ch.inc R.CHK_CNT_SEAL_CHECK (ch.sideOfPackage x).tiles
        match ch.stageChecks x with
        | some f => if 6 ≤ f.step then a.stageFault f else ch.stageFault f
        | none => if ch.slotKind x.slot = 0 ∧ x.bound = false then ch else match a.stageAlloc x (a.sideOfPackage x) with
          | .error f => a.stageFault f
          | .ok y => if a.backupOk x y = false then a.stageFault { step := 10, reason := 20 } else if err then a.stageFault { step := 10, reason := 21 } else
            let b : Chan := a.stageCopies x y
            let d : Chan := { b with models := { b.models with staging := none } }
            ((d.setStandby x.slot 2).stageStatus 2 0 10 x.slot).slotChange x.slot) (t.chan c)) ∧
    ( ∀ (h : SealHold) (rest : List SealHold) (k : Nat), ch.clocked = true → ch.models.holds = h :: rest → h.part = some k → ∃ t,
      exec (.sealRefetchComplete c) s = .next t ∧
      Agrees (let a : Chan := { ch with models := { ch.models with holds := rest } }
        let w := (heldLoad (a.part k).standby).or (heldLoad (a.part k).next)
        let index := w.bind fun y => match a.run y.ctx with | some r => if y.ctx = h.ctx ∧ r.number = y.run then some y.index else none | none => none
        let x := a.sealRefetch h.ctx h.tile index
        if x.1 then x.2.modPart k fun p => { p with standby := stageAgain p.standby, next := stageAgain p.next } else x.2.dropHeld k) (t.chan c)) ∧
    ( ∀ (h : SealHold) (rest : List SealHold), ch.clocked = true → ch.models.holds = h :: rest → h.part = none → ∃ t,
      exec (.sealRefetchComplete c) s = .next t ∧
      Agrees ((Chan.sealRefetch { ch with models := { ch.models with holds := rest } } h.ctx h.tile none).2) (t.chan c))

/-- SWAP of a STAGED standby side makes it SWAP_PENDING with its boundary; DISCARD ends a staging or a waiting swap and leaves the
standby side EMPTY; UNLOAD lists the serving side to leave at the next epoch boundary. Each shows result 0; where Table 08.12
refuses it, only the result changes; the refusal changes no slot. SWAP_TAKE_EFFECT at its boundary exchanges the sides: the new side
SERVING, or NONE for an UNLOAD, the old RETIRING. SIDE_RELEASE of a RETIRING side with nothing left frees what it holds and makes it
EMPTY. -/
def Obligations.SlotsSwapDiscardAndUnload : Prop :=
  ∀ (s : State) (c : Fin 8) (ch : Chan), s.chan c = ch →
    ( ∀ (src : Option (Fin 17)) (n : Fin 64), s.reaches src c (R.CHN_SLOT_CMD n) = true →
      ch.slotForeign (writerInst src) n = false → (ch.setFld (R.CHN_SLOT_CMD n) F.CHN_SLOT_CMD_command 1).slotAnswer n 1 = 0 → ∃ t,
      exec (.swap c src n) s = .next t ∧
      Agrees (Chan.slotSwap ((ch.setFld (R.CHN_SLOT_CMD n) F.CHN_SLOT_CMD_command 1).setFld (R.CHN_SLOT_CMD n) F.CHN_SLOT_CMD_last_result 0) n) (t.chan c) ∧
      (t.chan c).standbyState n = 3) ∧
    ( ∀ (src : Option (Fin 17)) (n : Fin 64) (a : Nat), s.reaches src c (R.CHN_SLOT_CMD n) = true →
      ch.slotForeign (writerInst src) n = false → (ch.setFld (R.CHN_SLOT_CMD n) F.CHN_SLOT_CMD_command 1).slotAnswer n 1 = a →
      a ≠ 0 → ∃ t, exec (.swap c src n) s = .next t ∧
      Agrees ((ch.setFld (R.CHN_SLOT_CMD n) F.CHN_SLOT_CMD_command 1).setFld (R.CHN_SLOT_CMD n) F.CHN_SLOT_CMD_last_result a) (t.chan c)) ∧
    ( ∀ (src : Option (Fin 17)) (n : Fin 64), s.reaches src c (R.CHN_SLOT_CMD n) = true →
      ch.slotForeign (writerInst src) n = false → (ch.setFld (R.CHN_SLOT_CMD n) F.CHN_SLOT_CMD_command 2).slotAnswer n 2 = 0 → ∃ t,
      exec (.discard c src n) s = .next t ∧
      Agrees (Chan.slotDiscard ((ch.setFld (R.CHN_SLOT_CMD n) F.CHN_SLOT_CMD_command 2).setFld (R.CHN_SLOT_CMD n) F.CHN_SLOT_CMD_last_result 0) n) (t.chan c) ∧
      (t.chan c).standbyState n = 0) ∧
    ( ∀ (src : Option (Fin 17)) (n : Fin 64) (a : Nat), s.reaches src c (R.CHN_SLOT_CMD n) = true →
      ch.slotForeign (writerInst src) n = false → (ch.setFld (R.CHN_SLOT_CMD n) F.CHN_SLOT_CMD_command 2).slotAnswer n 2 = a →
      a ≠ 0 → ∃ t, exec (.discard c src n) s = .next t ∧
      Agrees ((ch.setFld (R.CHN_SLOT_CMD n) F.CHN_SLOT_CMD_command 2).setFld (R.CHN_SLOT_CMD n) F.CHN_SLOT_CMD_last_result a) (t.chan c)) ∧
    ( ∀ (src : Option (Fin 17)) (n : Fin 64), s.reaches src c (R.CHN_SLOT_CMD n) = true →
      ch.slotForeign (writerInst src) n = false → (ch.setFld (R.CHN_SLOT_CMD n) F.CHN_SLOT_CMD_command 3).slotAnswer n 3 = 0 → ∃ t,
      exec (.unload c src n) s = .next t ∧
      Agrees (Chan.slotUnload ((ch.setFld (R.CHN_SLOT_CMD n) F.CHN_SLOT_CMD_command 3).setFld (R.CHN_SLOT_CMD n) F.CHN_SLOT_CMD_last_result 0) n) (t.chan c) ∧
      (t.chan c).models.swaps = ch.models.swaps ++ [(n.val, 2000 * (ch.ns / 2000 + 1), true)]) ∧
    ( ∀ (src : Option (Fin 17)) (n : Fin 64) (a : Nat), s.reaches src c (R.CHN_SLOT_CMD n) = true →
      ch.slotForeign (writerInst src) n = false → (ch.setFld (R.CHN_SLOT_CMD n) F.CHN_SLOT_CMD_command 3).slotAnswer n 3 = a →
      a ≠ 0 → ∃ t, exec (.unload c src n) s = .next t ∧
      Agrees ((ch.setFld (R.CHN_SLOT_CMD n) F.CHN_SLOT_CMD_command 3).setFld (R.CHN_SLOT_CMD n) F.CHN_SLOT_CMD_last_result a) (t.chan c)) ∧
    ( ∀ (n : Fin 64) (k b : Nat) (u : Bool), ch.clocked = true → ch.models.swaps.find? (·.1 == n.val) = some (k, b, u) → b ≤ ch.ns →
      ∃ t, exec (.swapTakeEffect c n) s = .next t ∧
      Agrees (Chan.exchange { ch with models := { ch.models with swaps := ch.models.swaps.filter fun x => x.1 ≠ n.val } } n u) (t.chan c) ∧
      (t.chan c).servingSide n = 1 - ch.servingSide n ∧ (t.chan c).servingState n = (if u then 0 else 1) ∧
      (t.chan c).standbyState n = (if ch.servingState n = 0 then 0 else 4)) ∧
    ( ∀ (n : Fin 64) (x : Nat), ch.clocked = true → ctxOf n (1 - ch.servingSide n) = x → ch.standbyState n = 4 →
      (ch.seqr x).run = none → (ch.seqr x).batch = none → ch.sideSettled x = true →
      ∀ e, (ch.side x).ens = some e → (ch.fst.leaving.any (·.1 == e)) = false → ∃ t, exec (.sideRelease c n) s = .next t ∧
      Agrees (((ch.sideFree x).setStandby n 0).slotChange n) (t.chan c) ∧ (t.chan c).standbyState n = 0 ∧ ((t.chan c).side x = {}))

/-- FOREST_CHECK_COMPLETE ends the leaf check of the oldest descriptor due: good, the deltas of one not yet checked are kept for
good and a record held back becomes ready, with its host copy; a wrong sum or a wrong matched entry counts, is recorded in
CHK_FAULT, withdraws with its reason the verdict that the forest made, and tests the lane's adder tree (not in Safe Serve) or queues
the entry for repair. VERDICT_TRANSMIT in SERVING frames the oldest ready records, up to three to a block and eight to a mirror
frame, in order but for those that wait for an earlier one of their flow and slot; RETRACT_TRANSMIT sends the RETRACT records at the
head of the queue. EPOCH_BOUNDARY makes CHK_EPOCH the epoch of the Sidereal time and lets a waiting verdict-mode change take effect;
CHK_VMODE_WRITE keeps the modes for the next boundary and shows which tenants change; EPOCH_CLOSES closes, up to the last, every
epoch that has ended and keeps no verdict open, sends their EPOCH_CLOSE messages when their last shares have left, and admits their
rows; PEER_EPOCH_DEADLINE undoes each share not confirmed 10 µs after its origin's epoch ended. -/
def Obligations.RecordsLeaveAndEpochsPass : Prop :=
  ∀ (s : State) (c : Fin 8) (ch : Chan), s.chan c = ch →
    ( ∀ (e : Bool) (j : Job), ch.clocked = true → ch.jobs.find? ch.checkDue = some j → ch.forestFault j.leafUses e = none →
      j.checked = true → ∃ t, exec (.forestCheckComplete c e) s = .next t ∧
      Agrees (ch.modJob j.id fun x => { x with leafDone := true }) (t.chan c)) ∧
    ( ∀ (e : Bool) (j : Job), ch.clocked = true → ch.jobs.find? ch.checkDue = some j → ch.forestFault j.leafUses e = none →
      j.checked = false → j.stage ≠ .held → ∃ t, exec (.forestCheckComplete c e) s = .next t ∧
      Agrees (((ch.modJob j.id fun x => { x with leafDone := true }).modJob j.id fun x => { x with checked := true }).undoFree j.id) (t.chan c)) ∧
    ( ∀ (e : Bool) (j : Job) (r : VRec), ch.clocked = true → ch.jobs.find? ch.checkDue = some j →
      ch.forestFault j.leafUses e = none → j.checked = false → j.stage = .held → j.verdict = some r → ∃ t,
      exec (.forestCheckComplete c e) s = .next t ∧
      Agrees (let a : Chan := ((ch.modJob j.id fun x => { x with leafDone := true }).modJob j.id fun x => { x with checked := true }).undoFree j.id
        let b : Chan := a.modJob j.id fun x => { x with stage := .queued }
        (if j.copy then b.mirrorCopy j r else b).pushTx { kind := .verdict, vr := r, job := some j.id }) (t.chan c)) ∧
    ( ∀ (e : Bool) (j : Job) (k : Nat), ch.clocked = true → ch.jobs.find? ch.checkDue = some j →
      ch.forestFault j.leafUses e = some (3, k) → ∃ t, exec (.forestCheckComplete c e) s = .next t ∧
      Agrees (let a : Chan := (ch.modJob j.id fun x => { x with leafDone := true }).inc R.CHK_CNT_FOREST_MISMATCH
        let b : Chan := a.fault 4 (if j.laneB then 1 else 0) 0 0 0 0 (a.tid j.tenant)
        let d : Chan := if j.decider.isSome then b.withdraw j.id 3 else b
        if d.safeServe then d else d.startTest (.tree (if j.laneB then 1 else 0)) true) (t.chan c)) ∧
    ( ∀ (e : Bool) (j : Job) (w k : Nat), ch.clocked = true → ch.jobs.find? ch.checkDue = some j →
      ch.forestFault j.leafUses e = some (w, k) → w ≠ 3 → ∃ t, exec (.forestCheckComplete c e) s = .next t ∧
      Agrees (let a : Chan := (ch.modJob j.id fun x => { x with leafDone := true }).inc R.CHK_CNT_FOREST_MISMATCH
        let b : Chan := a.fault 5 0 0 (k / 2048) (k % 2048) 0 (a.tid j.tenant)
        (if j.decider.isSome then b.withdraw j.id w else b).queueRepair k) (t.chan c)) ∧
    ( ∀ (ts rest : List TxRec), ch.clocked = true → ch.linkState = 3 → ch.mirror = false → ch.pickTx 3 = (ts, rest) → ts ≠ [] → ∃ t,
      exec (.verdictTransmit c) s = .next t ∧
      Agrees (let a : Chan := { ch with port := { ch.port with txq := rest } }
        (ts.foldl Chan.recordSent (a.portSend (verdictBlock none (ts.map (·.vr))))).sendCloses.dropDone) (t.chan c)) ∧
    ( ∀ (ts rest : List TxRec), ch.clocked = true → ch.linkState = 3 → ch.mirror = true → ch.pickTx 8 = (ts, rest) → ts ≠ [] → ∃ t,
      exec (.verdictTransmit c) s = .next t ∧
      Agrees (let a : Chan := { ch with port := { ch.port with txq := rest } }
        (ts.foldl Chan.recordSent (a.portSend (verdictFrame ch.ethDa ch.ethSa (ts.map (·.vr))))).sendCloses.dropDone) (t.chan c)) ∧
    ( ∀ (n : Nat), ch.clocked = true → ch.linkState = 3 → ch.mirror = false →
      (ch.port.txq.takeWhile fun x => decide (x.kind = .retract)).length = n → 0 < n → ∃ t, exec (.retractTransmit c) s = .next t ∧
      Agrees (let ts := ch.port.txq.take (min n 3)
        let a : Chan := { ch with port := { ch.port with txq := ch.port.txq.drop (min n 3) } }
        (ts.foldl Chan.recordSent (a.portSend (verdictBlock none (ts.map (·.vr))))).dropDone) (t.chan c)) ∧
    ( ∀ (n : Nat), ch.clocked = true → ch.linkState = 3 → ch.mirror = true →
      (ch.port.txq.takeWhile fun x => decide (x.kind = .retract)).length = n → 0 < n → ∃ t, exec (.retractTransmit c) s = .next t ∧
      Agrees (let ts := ch.port.txq.take (min n 8)
        let a : Chan := { ch with port := { ch.port with txq := ch.port.txq.drop (min n 8) } }
        (ts.foldl Chan.recordSent (a.portSend (verdictFrame ch.ethDa ch.ethSa (ts.map (·.vr))))).dropDone) (t.chan c)) ∧
    ( ∀ (v : Nat), ch.clocked = true → ch.ns / 2000 ≠ ch.epoch → ch.chk.vmodeNext = some v → ∃ t,
      exec (.epochBoundary c) s = .next t ∧
      Agrees (let a : Chan := ((ch.wr R.CHK_EPOCH (BitVec.ofNat 64 (ch.ns / 2000))).setFld R.CHK_VMODE F.CHK_VMODE_gated v).setFld R.CHK_VMODE F.CHK_VMODE_pending 0
        { a with chk := { a.chk with vmodeNext := none } }) (t.chan c)) ∧
    ( ch.clocked = true → ch.ns / 2000 ≠ ch.epoch → ch.chk.vmodeNext = none → ∃ t, exec (.epochBoundary c) s = .next t ∧
      Agrees (ch.wr R.CHK_EPOCH (BitVec.ofNat 64 (ch.ns / 2000))) (t.chan c)) ∧
    ( ∀ (src : Option (Fin 17)) (v : Word), s.reaches src c R.CHK_VMODE = true → ∃ t, exec (.chkVmodeWrite c src v) s = .next t ∧
      Agrees (Chan.setFld { ch with chk := { ch.chk with vmodeNext := some (getF v F.CHK_VMODE_gated) } } R.CHK_VMODE F.CHK_VMODE_pending (Nat.xor (getF v F.CHK_VMODE_gated) (ch.fld R.CHK_VMODE F.CHK_VMODE_gated))) (t.chan c)) ∧
    ( ∀ (n m : Nat), ch.clocked = true → (if ch.chk.closedAny then (ch.rd R.CHK_EPOCH_CLOSED).toNat + 1 else 0) = n →
      (ch.jobs.filter ch.keepsOpen).foldl (fun a j => min a j.epoch) (min ch.epoch (ch.ns / 2000)) = m → n < m → ∃ t,
      exec (.epochCloses c) s = .next t ∧
      Agrees (let a : Chan := ch.wr R.CHK_EPOCH_CLOSED (BitVec.ofNat 64 (m - 1))
        ((Chan.sendCloses { a with chk := { ch.chk with closedAny := true } }).admitRows (m - 1)).dropDone) (t.chan c)) ∧
    ( ch.clocked = true → ∃ t, exec (.peerEpochDeadline c) s = .next t ∧
      Agrees ((ch.chk.shares.filter fun p => decide ((2000000 * (p.epoch + 1) : Nat) - ch.zOffset p.device + 10000000 ≤ (ch.ps : Int))).foldl Chan.peerUndo ch) (t.chan c))

/-- Outside Safe Serve, SELF_TEST_COMPLETE of the oldest test whose two runs have taken their time: passed, the unit was hit by a
transient (Chan.transient: counted, recorded, what waited resumes, or over the limit within 1 s it is fenced); failed, it is lasting
(Chan.lasting: the unit is fenced, counted in CHK_CNT_FENCE, and its remap begins; an entry's bank is tested); a quadrant's first
transient sets no fence and outcome 1, its lasting fault sets its fence bit and outcome 2; of an unfence test, passed, the fence
goes, and either way its bit reads 0. CHK_UNFENCE and CHK_UNFENCE_BANKS start a test of each written bit that is fenced and not
pending. REMAP_COMPLETE finishes the oldest remap: a quadrant's work moves to an owned or a freshly configured partition, or is
refused where there is none; a Ristretto unit's moves to the other; a bank's rebuild begins. BANK_REBUILD_COMPLETE writes the
verified image into the one target bank and names it in bank_mask in place of the old ones. -/
def Obligations.TestsFencesRemapsAndRebuilds : Prop :=
  ∀ (s : State) (c : Fin 8) (ch : Chan), s.chan c = ch →
    ( ∀ (x : SelfTest), ch.clocked = true → ch.safeServe = false → ch.chk.tests.find? (fun x => ch.testDue x.at_ x.unit) = some x →
      x.un = false → ∃ t, exec (.selfTestComplete c true) s = .next t ∧
      Agrees (let a : Chan := { ch with chk := { ch.chk with tests := ch.chk.tests.erase x } }
        (a.transient x).holdEnds) (t.chan c)) ∧
    ( ∀ (x : SelfTest) (e q : Nat), ch.clocked = true → ch.safeServe = false →
      ch.chk.tests.find? (fun x => ch.testDue x.at_ x.unit) = some x → x.un = false → x.unit = .quadrant e q →
      ch.transientsOf x.unit = 0 → ∃ t, exec (.selfTestComplete c true) s = .next t ∧
      (t.chan c).rd R.CHK_FENCE = ch.rd R.CHK_FENCE ∧ (t.chan c).fld R.CHK_FAULT F.CHK_FAULT_outcome = 1 ∧
      Reported EV_CHK_TRANSIENT (t.chan c)) ∧
    ( ∀ (x : SelfTest), ch.clocked = true → ch.safeServe = false → ch.chk.tests.find? (fun x => ch.testDue x.at_ x.unit) = some x →
      x.un = false → ∃ t, exec (.selfTestComplete c false) s = .next t ∧
      Agrees (let a : Chan := { ch with chk := { ch.chk with tests := ch.chk.tests.erase x } }
        (a.lasting x).holdEnds) (t.chan c)) ∧
    ( ∀ (x : SelfTest) (e q : Nat), ch.clocked = true → ch.safeServe = false →
      ch.chk.tests.find? (fun x => ch.testDue x.at_ x.unit) = some x → x.un = false → x.unit = .quadrant e q → e < 4 → q < 4 → ∃ t,
      exec (.selfTestComplete c false) s = .next t ∧ ((t.chan c).fld R.CHK_FENCE F.CHK_FENCE_quadrants).testBit (4 * e + q) = true ∧
      (t.chan c).fld R.CHK_FAULT F.CHK_FAULT_outcome = 2 ∧ Reported EV_CHK_FENCE (t.chan c)) ∧
    ( ∀ (pass : Bool) (x : SelfTest), ch.clocked = true → ch.safeServe = false →
      ch.chk.tests.find? (fun x => ch.testDue x.at_ x.unit) = some x → x.un = true → ∃ t,
      exec (.selfTestComplete c pass) s = .next t ∧
      Agrees (let a : Chan := { ch with chk := { ch.chk with tests := ch.chk.tests.erase x } }
        ((if pass then a.setFence x.unit false else a).unfenceDone x.unit).holdEnds) (t.chan c)) ∧
    ( ∀ (src : Option (Fin 17)) (v : Word), s.reaches src c R.CHK_UNFENCE = true → ∃ t, exec (.chkUnfence c src v) s = .next t ∧
      Agrees ((bitsOf (getF v F.CHK_UNFENCE_unfence) 20).foldl (fun (a : Chan) i =>
          if ((ch.rd R.CHK_FENCE).toNat % 2 ^ 20).testBit i ∧ (a.fld R.CHK_UNFENCE F.CHK_UNFENCE_unfence).testBit i = false then
            let b : Chan := a.setFld R.CHK_UNFENCE F.CHK_UNFENCE_unfence (putBit (a.fld R.CHK_UNFENCE F.CHK_UNFENCE_unfence) i true)
            { b with chk := { b.chk with tests := b.chk.tests ++ [{ unit := fenceUnit i, at_ := ch.now, hold := false, un := true }] } }
          else a) ch) (t.chan c)) ∧
    ( ∀ (src : Option (Fin 17)) (v : Word), s.reaches src c R.CHK_UNFENCE_BANKS = true → ∃ t,
      exec (.chkUnfenceBanks c src v) s = .next t ∧
      Agrees ((bitsOf (getF v F.CHK_UNFENCE_BANKS_unfence) 32).foldl (fun (a : Chan) i =>
          if ((ch.rd R.CHK_FENCE_BANKS).toNat % 2 ^ 32).testBit i ∧ (a.fld R.CHK_UNFENCE_BANKS F.CHK_UNFENCE_BANKS_unfence).testBit i = false then
            let b : Chan := a.setFld R.CHK_UNFENCE_BANKS F.CHK_UNFENCE_BANKS_unfence (putBit (a.fld R.CHK_UNFENCE_BANKS F.CHK_UNFENCE_BANKS_unfence) i true)
            { b with chk := { b.chk with tests := b.chk.tests ++ [{ unit := .bank i, at_ := ch.now, hold := false, un := true }] } }
          else a) ch) (t.chan c)) ∧
    ( ∀ (r : Remap) (rest : List Remap) (e q p tid : Nat) (x y : Nat), ch.clocked = true → ch.safeServe = false →
      ch.chk.remaps = r :: rest → r.unit = .quadrant e q → ch.partOfQuad e q = p →
      ch.fld (R.MXE_PART e) (F.MXE_PART_owner q) = tid → ch.remapTarget e p tid = .owned x y →
      ch.canTake (partKey e p) (partKey x y) = true → ∃ t, exec (.remapComplete c) s = .next t ∧
      Agrees (let a : Chan := (ch.pointTo e p x y).moveWork (partKey e p) (partKey x y)
        Chan.holdEnds { a with chk := { a.chk with remaps := a.chk.remaps.erase r } }) (t.chan c)) ∧
    ( ∀ (r : Remap) (rest : List Remap) (e q p tid : Nat) (x : Nat), ch.clocked = true → ch.safeServe = false →
      ch.chk.remaps = r :: rest → r.unit = .quadrant e q → ch.partOfQuad e q = p →
      ch.fld (R.MXE_PART e) (F.MXE_PART_owner q) = tid → ch.remapTarget e p tid = .fresh x →
      ch.canTake (partKey e p) (partKey x p) = true → ∃ t, exec (.remapComplete c) s = .next t ∧
      Agrees (let a : Chan := ((ch.configureFor x e tid).pointTo e p x p).moveWork (partKey e p) (partKey x p)
        Chan.holdEnds { a with chk := { a.chk with remaps := a.chk.remaps.erase r } }) (t.chan c)) ∧
    ( ∀ (r : Remap) (rest : List Remap) (e q p tid : Nat), ch.clocked = true → ch.safeServe = false → ch.chk.remaps = r :: rest →
      r.unit = .quadrant e q → ch.partOfQuad e q = p → ch.fld (R.MXE_PART e) (F.MXE_PART_owner q) = tid →
      ch.remapTarget e p tid = .none_ → ∃ t, exec (.remapComplete c) s = .next t ∧
      Agrees (let a : Chan := ch.refuseWork (partKey e p)
        Chan.holdEnds { a with chk := { a.chk with remaps := a.chk.remaps.erase r } }) (t.chan c)) ∧
    ( ∀ (r : Remap) (rest : List Remap) (u : Nat), ch.clocked = true → ch.safeServe = false → ch.chk.remaps = r :: rest →
      r.unit = .ristretto u → ∃ t, exec (.remapComplete c) s = .next t ∧
      Agrees (let a : Chan := ch.remapRvu u
        Chan.holdEnds { a with chk := { a.chk with remaps := a.chk.remaps.erase r } }) (t.chan c)) ∧
    ( ∀ (r : Remap) (rest : List Remap) (b : Nat) (p : List Nat × List Nat), ch.clocked = true → ch.safeServe = false →
      ch.chk.remaps = r :: rest → r.unit = .bank b → ch.chk.rebuilds = [] → ch.rebuildPlan b = some p → ∃ t,
      exec (.remapComplete c) s = .next t ∧
      Agrees (Chan.holdEnds { ch with chk := { ch.chk with remaps := rest, rebuilds := [{ unit := .bank b, at_ := ch.now, hold := r.hold && p.1.length == 1, target := p.1, source := p.2 }] } }) (t.chan c)) ∧
    ( ∀ (r : Remap) (rest : List Remap) (b n : Nat) (g : Golden), ch.clocked = true → ch.safeServe = false →
      ch.chk.rebuilds = r :: rest → r.source.headD 0 = b → r.target.length = 1 → ch.bankEns b = some n →
      sget (fun _ => none) ch.fst.golden b = some g →
      (Chan.goldenKind { ch with chk := { ch.chk with rebuilds := rest } } (ctxOf g.slot g.side) 6).1 = true → ∃ t,
      exec (.bankRebuildComplete c) s = .next t ∧
      Agrees (let x := Chan.goldenKind { ch with chk := { ch.chk with rebuilds := rest } } (ctxOf g.slot g.side) 6
        let img := x.2.goldBytes (ctxOf g.slot g.side) 6
        let a : Chan := x.2.rebuildBank img g (r.target.headD 0) (((x.2.copyBanks n b).findIdx? (· == b)).getD 0)
        let m := putBit (r.source.foldl (fun m y => putBit m y false) (a.ensBanks n)) (r.target.headD 0) true
        let d : Chan := a.setFld (R.FST_ENS_BANKS n) F.FST_ENS_BANKS_bank_mask m
        let e : Chan := d.setSide (ctxOf g.slot g.side) { d.side (ctxOf g.slot g.side) with banks := m }
        Chan.holdEnds { e with fst := { e.fst with golden := r.source.foldl (fun z y => sset (fun _ => none) z y none) e.fst.golden } }) (t.chan c))

/-- DIGEST_RECHECK, enabled and its period over, re-checks every serving side in turn and begins the next period. SWEEP_TEST_START,
the sweep enabled, outside Safe Serve and none running, starts the pattern on the next unit in turn that may be tested, clearing a
tested engine's active weights and ending its gap, or a Ristretto unit's, as real rows do; SWEEP_TEST_COMPLETE after 1.5 µs counts a
pass, repeats a first failure, and fences the unit (of an engine the failing quadrant) on a second; SWEEP_YIELD stops the pattern,
whose draw ends, for work that waits. SCRUB_VISIT compares the next entry due in the 50 ms period with its golden image, and begins
the next period once every bank has been visited. -/
def Obligations.DigestSweepAndScrub : Prop :=
  ∀ (s : State) (c : Fin 8) (ch : Chan), s.chan c = ch → ch.clocked = true →
    ( ch.flag R.CHK_CTRL F.CHK_CTRL_digest_enable = true →
      ch.since ch.chk.digestAt (max 1 (ch.fld R.CHK_CTRL F.CHK_CTRL_digest_period) * msG) = true → ∃ t,
      exec (.digestRecheck c) s = .next t ∧
      Agrees (ch.servingCtxsAll.foldl Chan.recheck { ch with chk := { ch.chk with digestAt := ch.now } }) (t.chan c)) ∧
    ( ∀ (n : Fin 40) (e q : Nat), ch.flag R.CHK_CTRL F.CHK_CTRL_sweep_enable = true → ch.safeServe = false → ch.chk.sweep = none →
      ch.sweepNext = some n.val → ch.sweepUnit n = some (.quadrant e q) → ∃ t, exec (.sweepTestStart c n) s = .next t ∧
      Agrees (let a : Chan := (List.range 7).foldl (fun (a : Chan) p => a.modPart (partKey e p) fun x => { x with active := none }) ch
        let b : Chan := a.drawPattern (.quadrant e q)
        { b with chk := { ch.chk with sweep := some (.quadrant e q, ch.now, false), sweepLast := n } }) (t.chan c)) ∧
    ( ∀ (n : Fin 40) (v : Nat), ch.flag R.CHK_CTRL F.CHK_CTRL_sweep_enable = true → ch.safeServe = false → ch.chk.sweep = none →
      ch.sweepNext = some n.val → ch.sweepUnit n = some (.ristretto v) → ∃ t, exec (.sweepTestStart c n) s = .next t ∧
      Agrees ({ ch.endRvuGap v ch.patternCycles with chk := { ch.chk with sweep := some (.ristretto v, ch.now, false), sweepLast := n } }) (t.chan c)) ∧
    ( ∀ (n : Fin 40) (b : Nat), ch.flag R.CHK_CTRL F.CHK_CTRL_sweep_enable = true → ch.safeServe = false → ch.chk.sweep = none →
      ch.sweepNext = some n.val → ch.sweepUnit n = some (.bank b) → ∃ t, exec (.sweepTestStart c n) s = .next t ∧
      Agrees ({ ch with chk := { ch.chk with sweep := some (.bank b, ch.now, false), sweepLast := n } }) (t.chan c)) ∧
    ( ∀ (q : Fin 4) (u : TestUnit) (t0 : Nat) (again : Bool), ch.chk.sweep = some (u, t0, again) → ch.since t0 (1500 * nsG) = true →
      ∃ t, exec (.sweepTestComplete c true q) s = .next t ∧
      Agrees ((Chan.inc { ch with chk := { ch.chk with sweep := none } } R.CHK_CNT_SWEEP_PASS).pumpUnit u) (t.chan c)) ∧
    ( ∀ (q : Fin 4) (u : TestUnit) (t0 : Nat), ch.chk.sweep = some (u, t0, false) → ch.since t0 (1500 * nsG) = true → ∃ t,
      exec (.sweepTestComplete c false q) s = .next t ∧
      Agrees ({ ch.drawPattern u with chk := { ch.chk with sweep := some (u, ch.now, true) } }) (t.chan c)) ∧
    ( ∀ (q : Fin 4) (e z t0 : Nat), ch.chk.sweep = some (.quadrant e z, t0, true) → ch.since t0 (1500 * nsG) = true → ∃ t,
      exec (.sweepTestComplete c false q) s = .next t ∧
      Agrees ((Chan.fence { ch with chk := { ch.chk with sweep := none } } (.quadrant e q) (ch.workWaits (.quadrant e z))).pumpUnit (.quadrant e z)) (t.chan c)) ∧
    ( ∀ (q : Fin 4) (b t0 : Nat), ch.chk.sweep = some (.bank b, t0, true) → ch.since t0 (1500 * nsG) = true → ∃ t,
      exec (.sweepTestComplete c false q) s = .next t ∧
      Agrees (Chan.fence { ch with chk := { ch.chk with sweep := none } } (.bank b) false) (t.chan c)) ∧
    ( ∀ (q : Fin 4) (v t0 : Nat), ch.chk.sweep = some (.ristretto v, t0, true) → ch.since t0 (1500 * nsG) = true → ∃ t,
      exec (.sweepTestComplete c false q) s = .next t ∧
      Agrees ((Chan.fence { ch with chk := { ch.chk with sweep := none } } (.ristretto v) (ch.workWaits (.ristretto v))).pumpUnit (.ristretto v)) (t.chan c)) ∧
    ( ∀ (x : TestUnit × Nat × Bool), ch.chk.sweep = some x → ch.workWaits x.1 = true → ∃ t, exec (.sweepYield c) s = .next t ∧
      Agrees (Chan.pumpUnit { ch.stopPattern x.1 x.2.1 with chk := { ch.chk with sweep := none } } x.1) (t.chan c)) ∧
    ( ∀ (n : Nat), ch.flag R.CHK_CTRL F.CHK_CTRL_scrub_enable = true → ch.safeServe = false → 2048 * ch.scrubBanks.length = n →
      ch.chk.scrubPos < n → ch.since ch.chk.scrubAt (ch.chk.scrubPos * 50 * msG / n) = true → ∃ t,
      exec (.scrubVisit c) s = .next t ∧
      Agrees (Chan.scrubEntry { ch with chk := { ch.chk with scrubPos := ch.chk.scrubPos + 1 } } (2048 * ch.scrubBanks.getD (ch.chk.scrubPos / 2048) 0 + ch.chk.scrubPos % 2048)) (t.chan c)) ∧
    ( ch.flag R.CHK_CTRL F.CHK_CTRL_scrub_enable = true → ch.safeServe = false → 2048 * ch.scrubBanks.length ≤ ch.chk.scrubPos →
      ch.since ch.chk.scrubAt (50 * msG) = true → ∃ t, exec (.scrubVisit c) s = .next t ∧
      Agrees ({ ch with chk := { ch.chk with scrubAt := ch.chk.scrubAt + 50 * msG, scrubPos := 0, scrubEns := ch.validEns } }) (t.chan c))

/-- FEEDER_SEND_BATCH of the turn's feeder, no vote open, with batch_rows admitted rows, or with min_rows once batch_window passed,
sends the rows in order of admission to both other members and its own log and begins the next turn; FEEDER_SEND_PASS, the window
passed with fewer than min_rows rows, sends a PASS. BATCH of the step and turn that an ACTIVE, REJOINING or CATCHING_UP member
expects is logged, begins the next turn, and is passed on to those catching up; one not expected is discarded and counted. PASS of
the turn an ACTIVE member expects, or of the present turn of one CATCHING_UP, advances it; another is discarded and counted. A turn
taken as ACTIVE ends the member's search for its group's turn (log 159, the model's choice). -/
def Obligations.FeedersAndTurns : Prop :=
  ∀ (s : State) (c : Fin 8) (ch : Chan) (g : Fin 4), s.chan c = ch → ch.clocked = true →
    ( ∀ (x : TrnCtx) (n : Nat) (b : TrnBatch) (q : List (List Byte)), ch.trnCtx g = x → ch.trnFeeds g = true → x.vote = none →
      min 64 (max 1 (ch.trnFld g F.TRN_CFG_batch_rows)) = n →
      n ≤ x.admitted.length ∨ (ch.trnWindow g = true ∧ max 1 (ch.trnFld g F.TRN_CFG_min_rows) ≤ x.admitted.length) →
      (x.admitted.take n).map (·.row) = q →
      ({ step := ch.nextBatch g, turn := x.turn, m := q.length, bytes := (q.headD []).length, rows := q } : TrnBatch) = b → ∃ t,
      exec (.feederSendBatch c g) s = .next t ∧
      Agrees ((((ch.setTrn g { x with admitted := x.admitted.drop n }).trnKeep g b).trnSendAll g 5 false b.step b.payload).trnTurn g (x.turn + 1)) (t.chan c)) ∧
    ( ∀ (x : TrnCtx), ch.trnCtx g = x → ch.trnFeeds g = true → ch.trnWindow g = true →
      x.admitted.length < max 1 (ch.trnFld g F.TRN_CFG_min_rows) → ∃ t, exec (.feederSendPass c g) s = .next t ∧
      Agrees ((ch.trnSendAll g 6 true x.turn []).trnTurn g (x.turn + 1)) (t.chan c)) ∧
    ( ∀ (p : Fin 3) (hd : MsgHead) (pay : List Byte) (m : ZMsg) (r n : Nat) (b : TrnBatch) (x : TrnCtx), ch.accepts p hd →
      delivered 5 false hd pay = m → 3 ≤ 2 + ceilDiv pay.length 16 → 2 + ceilDiv pay.length 16 ≤ 65538 →
      ch.trnFrom m = some (g.val, r) → batchOf hd.args.toNat m.payload = some b → ch.trnCtx g = x →
      ch.trnState g = 1 ∨ ch.trnState g = 3 ∨ ch.trnState g = 4 →
      (if ch.trnState g = 3 then (match x.log.getLast?, x.wanted with | some y, _ => y.step + 1 | none, some w => w.1 + 1 | none, none => 0) else ch.nextBatch g) = n →
      b.step = n → ch.turnOk g b.turn = true → ∃ t, exec (.batch c p hd pay) s = .next t ∧
      Agrees (let a : Chan := (ch.trnKeep g b).trnTurn g (b.turn + 1)
        let a : Chan := a.modTrn g fun y => { y with resync := y.resync && a.trnState g != 1 }
        (x.feeds.filter fun r => ch.trnDevice g r != some hd.src.toNat).foldl (fun (a : Chan) r => a.trnSend g r 5 false b.step b.payload) a) (t.chan c)) ∧
    ( ∀ (p : Fin 3) (hd : MsgHead) (pay : List Byte) (m : ZMsg) (r n : Nat) (b : TrnBatch) (x : TrnCtx), ch.accepts p hd →
      delivered 5 false hd pay = m → 3 ≤ 2 + ceilDiv pay.length 16 → 2 + ceilDiv pay.length 16 ≤ 65538 →
      ch.trnFrom m = some (g.val, r) → batchOf hd.args.toNat m.payload = some b → ch.trnCtx g = x →
      (if ch.trnState g = 3 then (match x.log.getLast?, x.wanted with | some y, _ => y.step + 1 | none, some w => w.1 + 1 | none, none => 0) else ch.nextBatch g) = n →
      b.step ≠ n ∨ ch.turnOk g b.turn = false ∨ ch.trnState g = 0 ∨ ch.trnState g = 2 ∨ ch.trnState g = 5 ∨ ch.trnState g = 6 → ∃ t,
      exec (.batch c p hd pay) s = .next t ∧ Agrees (ch.inc R.TRN_CNT_FOREIGN) (t.chan c)) ∧
    ( ∀ (p : Fin 3) (hd : MsgHead) (pay : List Byte) (m : ZMsg) (r : Nat), ch.accepts p hd → delivered 6 true hd pay = m →
      2 + ceilDiv pay.length 16 = 2 → ch.trnFrom m = some (g.val, r) →
      (ch.trnState g = 1 ∧ ch.turnOk g hd.args.toNat = true) ∨ (ch.trnState g = 4 ∧ hd.args.toNat = (ch.trnCtx g).turn) → ∃ t,
      exec (.pass c p hd pay) s = .next t ∧
      Agrees (let a : Chan := ch.trnTurn g (hd.args.toNat + 1)
        a.modTrn g fun y => { y with resync := y.resync && a.trnState g != 1 }) (t.chan c) ∧
      ((t.chan c).trnCtx g).turn = hd.args.toNat + 1) ∧
    ( ∀ (p : Fin 3) (hd : MsgHead) (pay : List Byte) (m : ZMsg) (r : Nat), ch.accepts p hd → delivered 6 true hd pay = m →
      2 + ceilDiv pay.length 16 = 2 → ch.trnFrom m = some (g.val, r) → ch.trnState g ≠ 1 ∨ ch.turnOk g hd.args.toNat = false →
      ch.trnState g ≠ 4 ∨ hd.args.toNat ≠ (ch.trnCtx g).turn → ∃ t, exec (.pass c p hd pay) s = .next t ∧
      Agrees (ch.inc R.TRN_CNT_FOREIGN) (t.chan c))

/-- TRAINING_STEP_START of the tenant's next ready context with no step of the tenant running writes the seed, stores the batch's
rows and begins the run; TRAINING_STEP_COMPLETE, every command of it completed, counts the step and advances TRN_STEP, an abandoned
one counted, refreshed and reported, and after a compare step the vote opens. CHECKPOINT_DIGEST_READY writes the checkpoint into the
free area, hashes it and sends its DIGEST. DIGEST of a step this member expects is held for the vote, which is decided once the
others' are held; VOTE_TIMEOUT decides with those held. DECISION of a step it does not expect is discarded and counted; one heard
before this member's own is kept for it with its time, one on the step it decided last may replace its own, a LONE member rejoins on
one, and in Safe Serve an ACTIVE member only notes that it missed the vote. -/
def Obligations.StepsCheckpointsAndVotes : Prop :=
  ∀ (s : State) (c : Fin 8) (ch : Chan) (g : Fin 4), s.chan c = ch → ch.clocked = true →
    ( ∀ (b : TrnBatch) (i : Nat), ch.trnTenant g = i →
      ((List.range 4).any fun h => (ch.trnCtx h).running && ch.trnTenant h == i) = false → ch.trnNext i = some g.val →
      ((ch.trnCtx g).log.find? fun b => b.step == ch.trnStep g) = some b → ∃ t, exec (.trainingStepStart c g) s = .next t ∧
      Agrees (let x := ch.trnSide g
        let q := (ch.side x).cmd 0
        let n := (ch.seqr x).count
        let a : Chan := b.rows.zipIdx.foldl (fun (a : Chan) y => a.store 0 i (a.winAddr x n q.w20 + y.2 * q.w24) y.1) (ch.wr (R.ACU_SR_SEED i) (ch.rd (R.TRN_SEED g) + ch.rd (R.TRN_STEP g)))
        let d : Chan := (a.setSeqr x { ch.seqr x with run := some { number := n, at_ := ch.now, m := b.m, jobs := [] }, count := n + 1 }).inc R.CHN_CNT_RUNS
        let e : Chan := Chan.modTrn { d with trnLast := sins d.trnLast i g } g fun y => { y with running := true, runCtx := x, nanBase := a.nanCounts x n }
        if e.trnState g = 1 ∧ e.trnStep g = 0 then e.setTrnActive g 7 else e) (t.chan c)) ∧
    ( ∀ (x k : Nat) (r : Run), ch.stepSide g = x → ch.run x = some r → (ch.trnCtx g).running = true →
      (ch.side x).commands ≤ r.next → r.live = [] → r.failed = none → ch.trnStep g = k → ∃ t,
      exec (.trainingStepComplete c g) s = .next t ∧
      Agrees (let a : Chan := (ch.setSeqr x { ch.seqr x with run := none }).modTrn g fun y => { y with running := false }
        let b : Chan := (a.inc (R.TRN_CNT_STEPS g)).setTrnStep g (k + 1)
        if b.isCompare g k then b.compareStep g k else b) (t.chan c) ∧
      (t.chan c).run x = none) ∧
    ( ∀ (x k i : Nat) (r : Run) (e : Nat × Nat), ch.stepSide g = x → ch.run x = some r → (ch.trnCtx g).running = true →
      (ch.side x).commands ≤ r.next → r.live = [] → r.failed = some e → ch.trnStep g = k → ch.trnTenant g = i → ∃ t,
      exec (.trainingStepComplete c g) s = .next t ∧
      Agrees (let a : Chan := (ch.setSeqr x { ch.seqr x with run := none }).modTrn g fun y => { y with running := false }
        let d : Chan := ((a.runFailed x).refreshSide x).inc (R.TRN_CNT_ABANDONED g)
        let b : Chan := (d.inc (R.TRN_CNT_STEPS g)).setTrnStep g (k + 1)
        if b.isCompare g k then b.compareStep g k else b) (t.chan c)) ∧
    ( ∀ (x : TrnCtx) (v : Vote) (t0 : Nat), ch.trnCtx g = x → x.vote = some v → x.snapshot = some t0 → ch.trnOn g = true →
      ch.trnState g = 1 → v.ready = none → ch.since t0 ((64 + 4 * ch.trnParams g) * nsG / 20) = true → ∃ t,
      exec (.checkpointDigestReady c g) s = .next t ∧
      Agrees (let bs := ch.ckptHeader g v.c ++ ch.trnMasters g
        let a : Chan := (ch.store 1 (ch.trnTenant g) (ch.trnArea g (1 - x.area)) bs).modTrn g fun y => { y with vote := some { v with ready := some ch.now, own := sha384 bs } }
        (a.trnSendAll g 7 true v.c (sha384 bs)).voteTry g) (t.chan c)) ∧
    ( ∀ (v : Vote) (t0 : Nat), (ch.trnCtx g).vote = some v → v.ready = some t0 → ch.trnOn g = true →
      ch.since t0 (max 1 (ch.fld (R.TRN_LINK g) F.TRN_LINK_vote_timeout) * msG) = true → ∃ t, exec (.voteTimeout c g) s = .next t ∧
      Agrees (ch.voteDecide g) (t.chan c)) ∧
    ( ∀ (p : Fin 3) (hd : MsgHead) (pay : List Byte) (m : ZMsg) (r : Nat) (x : TrnCtx) (v : Vote), ch.accepts p hd →
      delivered 7 true hd pay = m → 2 + ceilDiv pay.length 16 = 5 → ch.trnFrom m = some (g.val, r) → ch.trnCtx g = x →
      ch.trnState g = 1 → x.vote = some v → hd.args.toNat = v.c → ∃ t, exec (.digest c p hd pay) s = .next t ∧
      Agrees (let a : Chan := ch.setTrn g { x with digests := (x.digests.filter fun d => d.1 != r) ++ [(r, v.c, slice m.payload 0 48)], feeds := x.feeds.filter fun y => y != r }
        let b : Chan := a.setTrnActive g (putBit (a.trnActive g) r true)
        if b.trnOn g then b.voteTry g else b) (t.chan c)) ∧
    ( ∀ (p : Fin 3) (hd : MsgHead) (pay : List Byte) (m : ZMsg) (r : Nat), ch.accepts p hd → delivered 7 true hd pay = m →
      2 + ceilDiv pay.length 16 = 5 → ch.trnFrom m = some (g.val, r) → ch.voteStep g hd.args.toNat false = false → ∃ t,
      exec (.digest c p hd pay) s = .next t ∧ Agrees (ch.inc R.TRN_CNT_FOREIGN) (t.chan c)) ∧
    ( ∀ (p : Fin 3) (hd : MsgHead) (pay : List Byte) (m : ZMsg) (r : Nat) (x : TrnCtx), ch.accepts p hd →
      delivered 7 true hd pay = m → 2 + ceilDiv pay.length 16 = 5 → ch.trnFrom m = some (g.val, r) → ch.trnCtx g = x →
      ch.trnState g ≠ 1 → ch.voteStep g hd.args.toNat false = true → ∃ t, exec (.digest c p hd pay) s = .next t ∧
      Agrees (ch.setTrn g { x with digests := (x.digests.filter fun d => d.1 != r) ++ [(r, hd.args.toNat, slice m.payload 0 48)], feeds := x.feeds.filter fun y => y != r }) (t.chan c)) ∧
    ( ∀ (p : Fin 3) (hd : MsgHead) (pay : List Byte), ch.zLive p = true → 2 < hd.args.toNat % 256 → ∃ t,
      exec (.decision c p hd pay) s = .next t ∧ Agrees (ch.inc R.ZLK_CNT_BAD_MESSAGE) (t.chan c) ∧
      Reported EV_ZLK_BAD_MESSAGE (t.chan c)) ∧
    ( ∀ (p : Fin 3) (hd : MsgHead) (pay : List Byte) (m : ZMsg) (r : Nat), ch.accepts p hd → delivered 8 true hd pay = m →
      2 + ceilDiv pay.length 16 = 2 → hd.args.toNat % 256 ≤ 2 → ch.trnFrom m = some (g.val, r) →
      ch.voteStep g (hd.args.toNat / 65536) true = false → ∃ t, exec (.decision c p hd pay) s = .next t ∧
      Agrees (ch.inc R.TRN_CNT_FOREIGN) (t.chan c)) ∧
    ( ∀ (p : Fin 3) (hd : MsgHead) (pay : List Byte) (m : ZMsg) (r n k : Nat) (x : TrnCtx), ch.accepts p hd →
      delivered 8 true hd pay = m → 2 + ceilDiv pay.length 16 = 2 → hd.args.toNat % 256 ≤ 2 → ch.trnFrom m = some (g.val, r) →
      ch.safeServe = false → ch.trnState g = 1 → ch.trnCtx g = x → ch.voteStep g k true = true →
      x.decided.all (fun d => d.c != k) = true → hd.args.toNat / 65536 = k → hd.args.toNat = n → ∃ t,
      exec (.decision c p hd pay) s = .next t ∧
      Agrees (ch.setTrn g { x with heard := some k, early := x.early ++ [(r, k, n / 256 % 8, n % 256, ch.now)] }) (t.chan c)) ∧
    ( ∀ (p : Fin 3) (hd : MsgHead) (pay : List Byte) (m : ZMsg) (r n k : Nat) (x : TrnCtx), ch.accepts p hd →
      delivered 8 true hd pay = m → 2 + ceilDiv pay.length 16 = 2 → hd.args.toNat % 256 ≤ 2 → ch.trnFrom m = some (g.val, r) →
      ch.safeServe = true → ch.trnState g = 1 → ch.trnCtx g = x → ch.voteStep g k true = true → hd.args.toNat / 65536 = k →
      hd.args.toNat = n → ∃ t, exec (.decision c p hd pay) s = .next t ∧
      Agrees (if n % 256 = 0 ∧ (n / 256 % 8).testBit (ch.trnRank g) = false then ch.setTrn g { x with heard := some k, missed := true, donor := lowestRank (n / 256 % 8), wanted := some (k, x.digestIn k (n / 256 % 8)) } else ch.setTrn g { x with heard := some k }) (t.chan c)) ∧
    ( ∀ (p : Fin 3) (hd : MsgHead) (pay : List Byte) (m : ZMsg) (r n : Nat) (x : TrnCtx) (d : Decided), ch.accepts p hd →
      delivered 8 true hd pay = m → 2 + ceilDiv pay.length 16 = 2 → hd.args.toNat % 256 ≤ 2 → ch.trnFrom m = some (g.val, r) →
      ch.safeServe = false → ch.trnState g = 1 ∨ ch.trnState g = 2 → ch.trnCtx g = x → x.decided = some d →
      hd.args.toNat / 65536 = d.c → hd.args.toNat = n → ch.voteStep g d.c true = true →
      (Chan.trnAdopt (ch.setTrn g { x with heard := some d.c }) g r d.c (n / 256 % 8) (n % 256)).trnState g ≠ 5 → ∃ t,
      exec (.decision c p hd pay) s = .next t ∧
      Agrees (Chan.trnAdopt (ch.setTrn g { x with heard := some d.c }) g r d.c (n / 256 % 8) (n % 256)) (t.chan c)) ∧
    ( ∀ (p : Fin 3) (hd : MsgHead) (pay : List Byte) (m : ZMsg) (r n k : Nat) (x : TrnCtx), ch.accepts p hd →
      delivered 8 true hd pay = m → 2 + ceilDiv pay.length 16 = 2 → hd.args.toNat % 256 ≤ 2 → ch.trnFrom m = some (g.val, r) →
      ch.trnState g = 5 → ch.trnCtx g = x → x.decided.all (fun d => d.c != k) = true → hd.args.toNat / 65536 = k →
      hd.args.toNat = n → n % 256 ≤ 1 → ∃ t, exec (.decision c p hd pay) s = .next t ∧
      Agrees (let a : Chan := ch.setTrn g { x with heard := some k }
        let w : Nat × List Byte := if n % 256 = 0 then (k, x.digestIn k (n / 256 % 8)) else ((a.rd (R.TRN_AGREED g)).toNat, a.agreedDigest g)
        (a.modTrn g fun y => { y with donor := if n % 256 = 0 then lowestRank (n / 256 % 8) else r, wanted := some w }).trnRejoin g) (t.chan c))

/-- EXPEL_SELF_TEST_COMPLETE, its time over, fences the failed ones of the quadrants used since the last agreed checkpoint,
re-checks the digest, and makes the member REJOINING, or STOPPED without a target or a serving side. CKPT_REQ for the agreed
checkpoint makes an ACTIVE donor send its segments and later batches and feed that rank. CKPT_DATA in order from the donor stores
its segment, the last installing the checkpoint; another is discarded and counted. PUBLICATION builds the EMPTY standby side of the
serving slot from the agreed checkpoint and swaps it in, where entries and resources exist. TRN_CONTEXT_ENABLE starts an enabled
context, stops a disabled one, refuses what R292 refuses, and otherwise stores the fields that are open. -/
def Obligations.ExpulsionRejoinAndPublication : Prop :=
  ∀ (s : State) (c : Fin 8) (ch : Chan) (g : Fin 4), s.chan c = ch →
    ( ∀ (bad : BitVec 16) (qs : List (Nat × Nat)), ch.clocked = true → ch.trnOn g = true → ch.trnState g = 2 →
      (ch.trnCtx g).used = qs →
      ch.sinceC ((ch.trnCtx g).testAt + 2048 * (ch.side (ch.trnSide g)).tiles * nsG / 20) (2120 * qs.length) = true → ∃ t,
      exec (.expelSelfTestComplete c g bad) s = .next t ∧
      Agrees (let x := (qs.filter fun y => bad.toNat.testBit (4 * y.1 + y.2)).foldl (fun (x : Bool × Chan) y =>
          let a : Chan := x.2.fence (.quadrant y.1 y.2) false
          (x.1 || a.remapTarget y.1 (a.partOfQuad y.1 y.2) (ch.slotTid (ch.trnSlot g)) == .none_, a)) (false, ch)
        let a : Chan := x.2.recheck (ch.trnSide g)
        if x.1 || a.servingState (a.trnSlot g) != 1 then a.trnStop g else a.trnRejoin g) (t.chan c)) ∧
    ( ∀ (p : Fin 3) (hd : MsgHead) (pay : List Byte) (m : ZMsg) (r : Nat) (x : TrnCtx), ch.clocked = true → ch.accepts p hd →
      delivered 9 true hd pay = m → 2 + ceilDiv pay.length 16 = 2 → ch.trnFrom m = some (g.val, r) → ch.trnCtx g = x →
      ch.trnState g = 1 → x.agreedAny = true → hd.args.toNat = (ch.rd (R.TRN_AGREED g)).toNat → ∃ t,
      exec (.ckptReq c p hd pay) s = .next t ∧
      Agrees (let n := ckptCount (ch.trnParams g)
        let a : Chan := (List.range n).foldl (fun (a : Chan) i => a.trnSend g r 10 false (i * 2 ^ 32 + n) (a.ckptSegment g x.area i)) ch
        let b : Chan := (x.log.filter fun b => decide (hd.args.toNat < b.step)).foldl (fun (a : Chan) b => a.trnSend g r 5 false b.step b.payload) a
        b.modTrn g fun y => { y with feeds := if y.feeds.contains r then y.feeds else y.feeds ++ [r] }) (t.chan c)) ∧
    ( ∀ (p : Fin 3) (hd : MsgHead) (pay : List Byte) (m : ZMsg) (r : Nat), ch.clocked = true → ch.accepts p hd →
      delivered 9 true hd pay = m → 2 + ceilDiv pay.length 16 = 2 → ch.trnFrom m = some (g.val, r) →
      ch.trnState g ≠ 1 ∨ (ch.trnCtx g).agreedAny = false ∨ hd.args.toNat ≠ (ch.rd (R.TRN_AGREED g)).toNat → ∃ t,
      exec (.ckptReq c p hd pay) s = .next t ∧ Agrees (ch.inc R.TRN_CNT_FOREIGN) (t.chan c)) ∧
    ( ∀ (p : Fin 3) (hd : MsgHead) (pay : List Byte) (m : ZMsg) (x : TrnCtx) (w : Nat × List Byte) (i n : Nat), ch.clocked = true →
      ch.accepts p hd → delivered 10 false hd pay = m → 3 ≤ 2 + ceilDiv pay.length 16 → 2 + ceilDiv pay.length 16 ≤ 65542 →
      ch.trnFrom m = some (g.val, x.donor) → ch.trnCtx g = x → x.wanted = some w → ch.trnState g = 3 → hd.args.toNat / 2 ^ 32 = i →
      hd.args.toNat % 2 ^ 32 = n → i = x.ckptSegs → n = ckptCount (ch.trnParams g) → ∃ t, exec (.ckptData c p hd pay) s = .next t ∧
      Agrees (let len := (if i = 0 then 64 else 0) + min 1048576 (4 * ch.trnParams g - 1048576 * i)
        let a0 := ch.trnArea g (1 - x.area) + (if i = 0 then 0 else 64 + 1048576 * i)
        let a : Chan := (ch.store 1 (ch.trnTenant g) a0 (slice m.payload 0 len)).modTrn g fun y => { y with ckptSegs := i + 1 }
        if i + 1 = n then a.ckptInstall g w else a) (t.chan c)) ∧
    ( ∀ (p : Fin 3) (hd : MsgHead) (pay : List Byte) (m : ZMsg) (r : Nat) (x : TrnCtx), ch.clocked = true → ch.accepts p hd →
      delivered 10 false hd pay = m → 3 ≤ 2 + ceilDiv pay.length 16 → 2 + ceilDiv pay.length 16 ≤ 65542 →
      ch.trnFrom m = some (g.val, r) → ch.trnCtx g = x →
      x.wanted = none ∨ ch.trnState g ≠ 3 ∨ r ≠ x.donor ∨ hd.args.toNat / 2 ^ 32 ≠ x.ckptSegs ∨ hd.args.toNat % 2 ^ 32 ≠ ckptCount (ch.trnParams g) →
      ∃ t, exec (.ckptData c p hd pay) s = .next t ∧ Agrees (ch.inc R.TRN_CNT_FOREIGN) (t.chan c)) ∧
    ( ∀ (x : TrnCtx) (n k : Nat), ch.clocked = true → ch.trnCtx g = x → x.pubWait = some k → ch.trnOn g = true →
      ch.trnFld g F.TRN_CFG_serve_slot = n → ch.slotEnabled n = true → ch.slotKind n = 1 →
      ch.slotTid n = ch.slotTid (ch.trnSlot g) → ch.servingState n = 1 → ch.standbyState n = 0 → ch.unloading n = false → ∃ t,
      exec (.publication c g) s = .next t ∧
      Agrees (if ch.pubEntries g = 0 then ch else
        let i := ch.trnTenant g
        let y := ch.pubParts g (ctxOf n (ch.servingSide n))
        let h := y.2.header.take 104 ++ modelDigestOf y.2 (fun j => slice y.1 (2048 * j) 2048) ++ y.2.header.drop 152
        let z : Side := { y.2 with
          header := h, signed := if y.2.published then y.2.signed else y.2.modelDigest, golden := ch.trnPubCopy g, bytes := 256 + y.1.length + y.2.seals.length + y.2.sums.length,
          backTier := ch.fld (R.TRN_PUB g) F.TRN_PUB_tier, backAddr := ch.fld (R.TRN_PUB g) F.TRN_PUB_address, published := true, step := k, digest := ch.agreedDigest g, retired := none, lastEpoch := none }
        let w : Staging := { slot := n, side := 1 - ch.servingSide n, src := z.golden, tier := z.backTier, back := z.backAddr, banks := 0, at_ := ch.now }
        match ch.stageAlloc w z with
        | .error _ => ch
        | .ok v =>
          let pack := v.header ++ y.1 ++ v.seals ++ v.sums
          let a : Chan := (ch.store 1 i v.golden pack).store v.backTier i v.backAddr pack
          let b : Chan := (a.store 0 i (a.winBase (ctxOf n (1 - ch.servingSide n))) y.1).setSide (ctxOf n (1 - ch.servingSide n)) v
          let d : Chan := ((b.stageStores w v).zeroCounters w v).setStandby n 2
          let e : Chan := (d.modTrn g fun t => { t with pubWait := none }).setFlag (R.TRN_STATUS g) F.TRN_STATUS_publish_wait false
          (e.slotSwap n).inc (R.TRN_CNT_PUBLISH g)) (t.chan c)) ∧
    ( ∀ (src : Option (Fin 17)) (v w : Word), s.reaches src c (R.TRN_CFG g) = true →
      ch.flag (R.TRN_CFG g) F.TRN_CFG_enable = false →
      mergeF (ch.rd (R.TRN_CFG g)) v (F.TRN_CFG_enable :: if ch.safeServe then [] else trnCfgLocked) = w →
      ch.trnCfgBad g w = false → getF w F.TRN_CFG_enable = 1 → ∃ t, exec (.trnContextEnable c src g v) s = .next t ∧
      Agrees ((ch.wr (R.TRN_CFG g) w).trnStart g (ch.trnHeld g)) (t.chan c)) ∧
    ( ∀ (src : Option (Fin 17)) (v w : Word), s.reaches src c (R.TRN_CFG g) = true →
      ch.flag (R.TRN_CFG g) F.TRN_CFG_enable = false →
      mergeF (ch.rd (R.TRN_CFG g)) v (F.TRN_CFG_enable :: if ch.safeServe then [] else trnCfgLocked) = w → ch.trnCfgBad g w = true →
      ∃ t, exec (.trnContextEnable c src g v) s = .next t ∧ Agrees (ch) (t.chan c) ∧ Reported EV_TRN_CFG_REJECT (t.chan c)) ∧
    ( ∀ (src : Option (Fin 17)) (v w : Word), s.reaches src c (R.TRN_CFG g) = true → ch.flag (R.TRN_CFG g) F.TRN_CFG_enable = true →
      mergeF (ch.rd (R.TRN_CFG g)) v [F.TRN_CFG_enable] = w → getF w F.TRN_CFG_enable = 0 → ∃ t,
      exec (.trnContextEnable c src g v) s = .next t ∧
      Agrees (let a : Chan := (((ch.trnHalt g).wr (R.TRN_CFG g) w).closeVote g).wr (R.TRN_STATUS g) 0
        a.modTrn g fun y => { y with pubWait := none, ring := [], admitted := [] }) (t.chan c)) ∧
    ( ∀ (src : Option (Fin 17)) (v w : Word), s.reaches src c (R.TRN_CFG g) = true →
      mergeF (ch.rd (R.TRN_CFG g)) v (F.TRN_CFG_enable :: if ch.flag (R.TRN_CFG g) F.TRN_CFG_enable || ch.safeServe then [] else trnCfgLocked) = w →
      getF w F.TRN_CFG_enable = getF (ch.rd (R.TRN_CFG g)) F.TRN_CFG_enable →
      ch.flag (R.TRN_CFG g) F.TRN_CFG_enable = true ∨ ch.trnCfgBad g w = false → ∃ t,
      exec (.trnContextEnable c src g v) s = .next t ∧ Agrees (ch.wr (R.TRN_CFG g) w) (t.chan c))

/-- VPE_GATE_COMMIT writes enable, a changed one cutting and restoring chains; with commit set and a list that R309 accepts it makes
the admin list pending with the first start at or after now, base_time plus whole cycles, and shows result 0; a refused one changes
nothing else but last_result and reports EV_VPE_GATE_REJECT. GATE_LIST_SWITCH at the pending start makes the list operational, its
first entry in force, and reports it. GATE_ENTRY_START enters the next entry when its time has come, and the first one of the next
cycle at the cycle's end; chains whose tenant loses or regains a unit are cut or restored. -/
def Obligations.GateListsCommitSwitchAndEnter : Prop :=
  ∀ (s : State) (c : Fin 8) (ch : Chan), s.chan c = ch →
    ( ∀ (src : Option (Fin 17)) (v : Word), s.reaches src c R.VPE_GATE_CTRL = true → getF v F.VPE_GATE_CTRL_commit = 1 →
      (if (ch.wr R.VPE_GATE_CTRL (mergeF (ch.rd R.VPE_GATE_CTRL) v [F.VPE_GATE_CTRL_enable])).fld R.VPE_GATE_CTRL F.VPE_GATE_CTRL_enable = ch.fld R.VPE_GATE_CTRL F.VPE_GATE_CTRL_enable then ch.wr R.VPE_GATE_CTRL (mergeF (ch.rd R.VPE_GATE_CTRL) v [F.VPE_GATE_CTRL_enable]) else (ch.wr R.VPE_GATE_CTRL (mergeF (ch.rd R.VPE_GATE_CTRL) v [F.VPE_GATE_CTRL_enable])).gateChanged).commitResult = 0 →
      ∃ t, exec (.vpeGateCommit c src v) s = .next t ∧
      Agrees (let a : Chan := ch.wr R.VPE_GATE_CTRL (mergeF (ch.rd R.VPE_GATE_CTRL) v [F.VPE_GATE_CTRL_enable])
        let a : Chan := if a.fld R.VPE_GATE_CTRL F.VPE_GATE_CTRL_enable = ch.fld R.VPE_GATE_CTRL F.VPE_GATE_CTRL_enable then a else a.gateChanged
        let a : Chan := a.setFld R.VPE_GATE_STATUS F.VPE_GATE_STATUS_last_result 0
        let n := a.fld R.VPE_GATE_ADMIN F.VPE_GATE_ADMIN_cycle_time
        let p : GatePending := { cycle := n, count := a.fld R.VPE_GATE_ADMIN F.VPE_GATE_ADMIN_count, start := a.gateStart (a.rd R.VPE_GATE_BASE).toNat n }
        Chan.setFlag { a with vpe := { a.vpe with gate := { a.vpe.gate with pending := some p } } } R.VPE_GATE_STATUS F.VPE_GATE_STATUS_pending true) (t.chan c)) ∧
    ( ∀ (src : Option (Fin 17)) (v : Word) (r : Nat), s.reaches src c R.VPE_GATE_CTRL = true → getF v F.VPE_GATE_CTRL_commit = 1 →
      (if (ch.wr R.VPE_GATE_CTRL (mergeF (ch.rd R.VPE_GATE_CTRL) v [F.VPE_GATE_CTRL_enable])).fld R.VPE_GATE_CTRL F.VPE_GATE_CTRL_enable = ch.fld R.VPE_GATE_CTRL F.VPE_GATE_CTRL_enable then ch.wr R.VPE_GATE_CTRL (mergeF (ch.rd R.VPE_GATE_CTRL) v [F.VPE_GATE_CTRL_enable]) else (ch.wr R.VPE_GATE_CTRL (mergeF (ch.rd R.VPE_GATE_CTRL) v [F.VPE_GATE_CTRL_enable])).gateChanged).commitResult = r →
      r ≠ 0 → ∃ t, exec (.vpeGateCommit c src v) s = .next t ∧
      Agrees (let a : Chan := ch.wr R.VPE_GATE_CTRL (mergeF (ch.rd R.VPE_GATE_CTRL) v [F.VPE_GATE_CTRL_enable])
        let a : Chan := if a.fld R.VPE_GATE_CTRL F.VPE_GATE_CTRL_enable = ch.fld R.VPE_GATE_CTRL F.VPE_GATE_CTRL_enable then a else a.gateChanged
        a.setFld R.VPE_GATE_STATUS F.VPE_GATE_STATUS_last_result r) (t.chan c) ∧
      Reported EV_VPE_GATE_REJECT (t.chan c)) ∧
    ( ∀ (src : Option (Fin 17)) (v : Word), s.reaches src c R.VPE_GATE_CTRL = true → getF v F.VPE_GATE_CTRL_commit = 0 → ∃ t,
      exec (.vpeGateCommit c src v) s = .next t ∧
      Agrees (let a : Chan := ch.wr R.VPE_GATE_CTRL (mergeF (ch.rd R.VPE_GATE_CTRL) v [F.VPE_GATE_CTRL_enable])
        let a : Chan := if a.fld R.VPE_GATE_CTRL F.VPE_GATE_CTRL_enable = ch.fld R.VPE_GATE_CTRL F.VPE_GATE_CTRL_enable then a else a.gateChanged
        a) (t.chan c)) ∧
    ( ∀ (p : GatePending), ch.clocked = true → ch.vpe.gate.pending = some p → p.start ≤ ch.ns → ∃ t,
      exec (.gateListSwitch c) s = .next t ∧
      Agrees (let a : Chan := { ch with vpe := { ch.vpe with gate := { ch.vpe.gate with pending := none, oper := some p } } }
        let b : Chan := (a.setFld R.VPE_GATE_STATUS F.VPE_GATE_STATUS_active_list (1 - ch.activeList)).setFlag R.VPE_GATE_STATUS F.VPE_GATE_STATUS_pending false
        (b.setFld R.VPE_GATE_STATUS F.VPE_GATE_STATUS_cycles 1).gateEnter 0 p.start) (t.chan c) ∧
      Reported EV_VPE_GATE_SWITCHED (t.chan c)) ∧
    ( ∀ (p : GatePending) (e n : Nat), ch.clocked = true → ch.vpe.gate.oper = some p →
      ch.fld R.VPE_GATE_STATUS F.VPE_GATE_STATUS_entry = e → ch.vpe.gate.entryAt + (ch.gateEntry ch.activeList e).duration = n →
      e + 1 < p.count → n < p.start + p.cycle → n ≤ ch.ns → ∃ t, exec (.gateEntryStart c) s = .next t ∧
      Agrees (ch.gateEnter (e + 1) n) (t.chan c)) ∧
    ( ∀ (p : GatePending) (e n : Nat), ch.clocked = true → ch.vpe.gate.oper = some p →
      ch.fld R.VPE_GATE_STATUS F.VPE_GATE_STATUS_entry = e → ch.vpe.gate.entryAt + (ch.gateEntry ch.activeList e).duration = n →
      p.count ≤ e + 1 ∨ p.start + p.cycle ≤ n → p.start + p.cycle ≤ ch.ns → ∃ t, exec (.gateEntryStart c) s = .next t ∧
      Agrees (let a : Chan := { ch with vpe := { ch.vpe with gate := { ch.vpe.gate with oper := some { p with start := p.start + p.cycle } } } }
        (a.setFld R.VPE_GATE_STATUS F.VPE_GATE_STATUS_cycles (ch.fld R.VPE_GATE_STATUS F.VPE_GATE_STATUS_cycles + 1)).gateEnter 0 (p.start + p.cycle)) (t.chan c))

/-- WFQ_ISSUE first lets a partition issue what its own queue may; then a unit that can accept work, no dump standing, takes the
head of the eligible queue with the smallest start tag, the lowest tenant on a tie, raises its virtual time to that tag, tags the
queue's next command, and hands the head to its partition, its Ristretto unit or the vector path; a unit that cannot accept work, or
with no eligible queue, takes nothing. FOREST_REENTRY takes the parked descriptor of the tenant that holds the Forest slot and is
chosen alike, whose lane cycles are free, into key distribution; a clash with the lane's cycles only counts the hold; with none
eligible nothing happens. -/
def Obligations.FairQueueingAndReentry : Prop :=
  ∀ (s : State) (c : Fin 8) (ch : Chan), s.chan c = ch →
    ( ∀ (unit : Fin 36) (i : Nat) (x : WfqItem) (rest : List WfqItem), ch.clocked = true → (ch.pump unit.val).unitFree unit = true →
      (ch.pump unit.val).obs.dump = none → (ch.pump unit.val).wfqPick unit = some i →
      (ch.pump unit.val).wfqQueue unit i = x :: rest → unit.val < 32 → ∃ t, exec (.wfqIssue c unit) s = .next t ∧
      Agrees (let d : Chan := ch.pump unit.val
        let a : Chan := { d with vpe := { (d).vpe with vtime := sset (fun _ => 0) (d).vpe.vtime unit (max ((d).vtime unit) ((d).wfqTag unit i).s), wfq := dropItem x (d).vpe.wfq } }
        let b : Chan := match rest with | [] => a | y :: _ => a.onHead unit i y.cost false
        b.enterPart x.ctx x.index) (t.chan c)) ∧
    ( ∀ (unit : Fin 36), ch.clocked = true → unit.val < 32 →
      (ch.pump unit.val).unitFree unit = false ∨ (ch.pump unit.val).obs.dump ≠ none ∨ (ch.pump unit.val).wfqPick unit = none → ∃ t,
      exec (.wfqIssue c unit) s = .next t ∧ Agrees (ch.pump unit.val) (t.chan c)) ∧
    ( ∀ (unit : Fin 36), ch.clocked = true → 32 ≤ unit.val →
      unit.val = 35 ∨ ch.unitFree unit = false ∨ ch.obs.dump ≠ none ∨ ch.wfqPick unit = none → ∃ t,
      exec (.wfqIssue c unit) s = .next t ∧ Agrees (ch) (t.chan c)) ∧
    ( ∀ (unit : Fin 36) (i : Nat) (x : WfqItem) (rest : List WfqItem), ch.clocked = true → (ch).unitFree unit = true →
      (ch).obs.dump = none → (ch).wfqPick unit = some i → (ch).wfqQueue unit i = x :: rest → unit.val = 32 ∨ unit.val = 33 → ∃ t,
      exec (.wfqIssue c unit) s = .next t ∧
      Agrees (let a : Chan := { ch with vpe := { (ch).vpe with vtime := sset (fun _ => 0) (ch).vpe.vtime unit (max ((ch).vtime unit) ((ch).wfqTag unit i).s), wfq := dropItem x (ch).vpe.wfq } }
        let b : Chan := match rest with | [] => a | y :: _ => a.onHead unit i y.cost false
        b.enterRvu (unit - 32) x.ctx x.index) (t.chan c)) ∧
    ( ∀ (unit : Fin 36) (i : Nat) (x : WfqItem) (rest : List WfqItem), ch.clocked = true → (ch).unitFree unit = true →
      (ch).obs.dump = none → (ch).wfqPick unit = some i → (ch).wfqQueue unit i = x :: rest → unit.val = 34 → ∃ t,
      exec (.wfqIssue c unit) s = .next t ∧
      Agrees (let a : Chan := { ch with vpe := { (ch).vpe with vtime := sset (fun _ => 0) (ch).vpe.vtime unit (max ((ch).vtime unit) ((ch).wfqTag unit i).s), wfq := dropItem x (ch).vpe.wfq } }
        let b : Chan := match rest with | [] => a | y :: _ => a.onHead unit i y.cost false
        b.enterVec x.ctx x.index) (t.chan c)) ∧
    ( ∀ (i : Nat) (x : WfqItem) (rest : List WfqItem) (j : Job), ch.clocked = true → ch.wfqPick 35 = some i →
      ch.wfqQueue 35 i = x :: rest → ch.job x.index = some j → ch.claimClash 0 j.ens j.laneB = false → ∃ t,
      exec (.forestReentry c) s = .next t ∧
      Agrees (let a : Chan := { ch with vpe := { (ch).vpe with vtime := sset (fun _ => 0) (ch).vpe.vtime 35 (max ((ch).vtime 35) ((ch).wfqTag 35 i).s), wfq := dropItem x (ch).vpe.wfq } }
        let b : Chan := match rest with | [] => a | y :: _ => a.onHead 35 i y.cost false
        ((b.claim 0 j.ens j.laneB).runForest x.index).compose x.index) (t.chan c)) ∧
    ( ∀ (i : Nat) (x : WfqItem) (rest : List WfqItem) (j : Job), ch.clocked = true → ch.wfqPick 35 = some i →
      ch.wfqQueue 35 i = x :: rest → ch.job x.index = some j → ch.claimClash 0 j.ens j.laneB = true → ∃ t,
      exec (.forestReentry c) s = .next t ∧ Agrees (ch.inc R.FST_CNT_BANK_HOLD) (t.chan c)) ∧
    ( ch.clocked = true → ch.wfqPick 35 = none → ∃ t, exec (.forestReentry c) s = .next t ∧ Agrees (ch) (t.chan c))

/-- VPE_IND_READ in range and permitted puts the meter, action or admin gate entry into VPE_IND_DATA, a meter with an uncorrectable
error first lost as R304 says; VPE_IND_WRITE of one that its rules accept writes it, a changed meter filled and its counts zeroed, a
kept one keeping buckets and counts; each answers in result and clears start, out of range 2, not permitted 3, a bad value 1 with
EV_VPE_CFG_REJECT, a pending list 4, nothing else changed. VPE_GROUP_WRITE and VPE_TPOL_WRITE apply a value their rules accept and
otherwise change nothing but EV_VPE_CFG_REJECT. -/
def Obligations.ItemsGroupsAndPolicies : Prop :=
  ∀ (s : State) (c : Fin 8) (ch : Chan), s.chan c = ch →
    ( ∀ (src : Option (Fin 17)) (v : Word) (tgt idx : Nat), s.reaches src c R.VPE_IND_SEL = true →
      getF v F.VPE_IND_SEL_target = tgt → getF v F.VPE_IND_SEL_index = idx →
      (ch.wr (bank (writerInst src) R.VPE_IND_SEL) (mergeF (ch.rd (bank (writerInst src) R.VPE_IND_SEL)) v [F.VPE_IND_SEL_target, F.VPE_IND_SEL_index, F.VPE_IND_SEL_write])).vpeReach (writerInst src) tgt idx = 0 →
      ∃ t, exec (.vpeIndRead c src v) s = .next t ∧
      Agrees (let k := bank (writerInst src) R.VPE_IND_SEL
        let a : Chan := ch.wr k (mergeF (ch.rd (bank (writerInst src) R.VPE_IND_SEL)) v [F.VPE_IND_SEL_target, F.VPE_IND_SEL_index, F.VPE_IND_SEL_write])
        let a : Chan := if tgt = 0 ∧ a.vpe.meterBad.contains idx = true then a.meterLost idx ((List.range 16).find? fun i => a.inMeters i idx) else a
        let z := a.vpeItem tgt idx
        let b : Chan := (List.range (if tgt = 0 then 8 else 2)).foldl (fun (b : Chan) i => b.wr (bank (writerInst src) (R.VPE_IND_DATA i)) (BitVec.ofNat 64 (le z (8 * i) 8))) a
        (Chan.setFld (b) k F.VPE_IND_SEL_result 0).setFld k F.VPE_IND_SEL_start 0) (t.chan c)) ∧
    ( ∀ (src : Option (Fin 17)) (v : Word) (tgt idx : Nat) (r : Nat), s.reaches src c R.VPE_IND_SEL = true →
      getF v F.VPE_IND_SEL_target = tgt → getF v F.VPE_IND_SEL_index = idx →
      (ch.wr (bank (writerInst src) R.VPE_IND_SEL) (mergeF (ch.rd (bank (writerInst src) R.VPE_IND_SEL)) v [F.VPE_IND_SEL_target, F.VPE_IND_SEL_index, F.VPE_IND_SEL_write])).vpeReach (writerInst src) tgt idx = r →
      r ≠ 0 → ∃ t, exec (.vpeIndRead c src v) s = .next t ∧
      Agrees (let k := bank (writerInst src) R.VPE_IND_SEL
        (Chan.setFld (ch.wr k (mergeF (ch.rd (bank (writerInst src) R.VPE_IND_SEL)) v [F.VPE_IND_SEL_target, F.VPE_IND_SEL_index, F.VPE_IND_SEL_write])) k F.VPE_IND_SEL_result r).setFld k F.VPE_IND_SEL_start 0) (t.chan c)) ∧
    ( ∀ (src : Option (Fin 17)) (v : Word) (tgt idx : Nat) (z : List Byte), s.reaches src c R.VPE_IND_SEL = true →
      getF v F.VPE_IND_SEL_target = tgt → getF v F.VPE_IND_SEL_index = idx →
      (ch.wr (bank (writerInst src) R.VPE_IND_SEL) (mergeF (ch.rd (bank (writerInst src) R.VPE_IND_SEL)) v [F.VPE_IND_SEL_target, F.VPE_IND_SEL_index, F.VPE_IND_SEL_write])).vpeReach (writerInst src) tgt idx = 0 →
      ((List.range 8).flatMap fun i => leBytes 8 (ch.rd (bank (writerInst src) (R.VPE_IND_DATA i))).toNat) = z →
      ((ch.wr (bank (writerInst src) R.VPE_IND_SEL) (mergeF (ch.rd (bank (writerInst src) R.VPE_IND_SEL)) v [F.VPE_IND_SEL_target, F.VPE_IND_SEL_index, F.VPE_IND_SEL_write])).vpePut tgt idx z).1 = 0 →
      ∃ t, exec (.vpeIndWrite c src v) s = .next t ∧
      Agrees (let k := bank (writerInst src) R.VPE_IND_SEL
        let x := (ch.wr k (mergeF (ch.rd (bank (writerInst src) R.VPE_IND_SEL)) v [F.VPE_IND_SEL_target, F.VPE_IND_SEL_index, F.VPE_IND_SEL_write])).vpePut tgt idx z
        (Chan.setFld (x.2) k F.VPE_IND_SEL_result 0).setFld k F.VPE_IND_SEL_start 0) (t.chan c)) ∧
    ( ∀ (src : Option (Fin 17)) (v : Word) (tgt idx : Nat) (z : List Byte), s.reaches src c R.VPE_IND_SEL = true →
      getF v F.VPE_IND_SEL_target = tgt → getF v F.VPE_IND_SEL_index = idx → tgt = 1 → idx < 2048 → writerInst src = 0 →
      ((List.range 8).flatMap fun i => leBytes 8 (ch.rd (bank (writerInst src) (R.VPE_IND_DATA i))).toNat) = z →
      actionEntryOk (slice z 0 16) = true → ∃ t, exec (.vpeIndWrite c src v) s = .next t ∧ (t.chan c).action idx = actionOf z) ∧
    ( ∀ (src : Option (Fin 17)) (v : Word) (tgt idx : Nat) (z : List Byte) (r : Nat), s.reaches src c R.VPE_IND_SEL = true →
      getF v F.VPE_IND_SEL_target = tgt → getF v F.VPE_IND_SEL_index = idx →
      (ch.wr (bank (writerInst src) R.VPE_IND_SEL) (mergeF (ch.rd (bank (writerInst src) R.VPE_IND_SEL)) v [F.VPE_IND_SEL_target, F.VPE_IND_SEL_index, F.VPE_IND_SEL_write])).vpeReach (writerInst src) tgt idx = 0 →
      ((List.range 8).flatMap fun i => leBytes 8 (ch.rd (bank (writerInst src) (R.VPE_IND_DATA i))).toNat) = z →
      ((ch.wr (bank (writerInst src) R.VPE_IND_SEL) (mergeF (ch.rd (bank (writerInst src) R.VPE_IND_SEL)) v [F.VPE_IND_SEL_target, F.VPE_IND_SEL_index, F.VPE_IND_SEL_write])).vpePut tgt idx z).1 = r →
      r ≠ 0 → ∃ t, exec (.vpeIndWrite c src v) s = .next t ∧
      Agrees (let k := bank (writerInst src) R.VPE_IND_SEL
        (Chan.setFld (ch.wr k (mergeF (ch.rd (bank (writerInst src) R.VPE_IND_SEL)) v [F.VPE_IND_SEL_target, F.VPE_IND_SEL_index, F.VPE_IND_SEL_write])) k F.VPE_IND_SEL_result r).setFld k F.VPE_IND_SEL_start 0) (t.chan c)) ∧
    ( ∀ (src : Option (Fin 17)) (v : Word) (tgt idx : Nat) (r : Nat), s.reaches src c R.VPE_IND_SEL = true →
      getF v F.VPE_IND_SEL_target = tgt → getF v F.VPE_IND_SEL_index = idx →
      (ch.wr (bank (writerInst src) R.VPE_IND_SEL) (mergeF (ch.rd (bank (writerInst src) R.VPE_IND_SEL)) v [F.VPE_IND_SEL_target, F.VPE_IND_SEL_index, F.VPE_IND_SEL_write])).vpeReach (writerInst src) tgt idx = r →
      r ≠ 0 → ∃ t, exec (.vpeIndWrite c src v) s = .next t ∧
      Agrees (let k := bank (writerInst src) R.VPE_IND_SEL
        (Chan.setFld (ch.wr k (mergeF (ch.rd (bank (writerInst src) R.VPE_IND_SEL)) v [F.VPE_IND_SEL_target, F.VPE_IND_SEL_index, F.VPE_IND_SEL_write])) k F.VPE_IND_SEL_result r).setFld k F.VPE_IND_SEL_start 0) (t.chan c)) ∧
    ( ∀ (src : Option (Fin 17)) (g : Fin 16) (v w : Word), s.reaches src c (R.VPE_GROUP g) = true →
      mergeF (ch.rd (R.VPE_GROUP g)) v [F.VPE_GROUP_members, F.VPE_GROUP_share_gate, F.VPE_GROUP_share_mxe, F.VPE_GROUP_valid] = w →
      (getF w F.VPE_GROUP_valid == 1 && (List.range 16).any fun i => (getF w F.VPE_GROUP_members).testBit i && (List.range 16).any fun h => h != g && ch.inGroup h i) = false →
      ((List.range 4).any fun e => decide (1 < (ch.engineOwners e).length) && ch.mayShare (ch.engineOwners e) && !(ch.wr (R.VPE_GROUP g) w).mayShare (ch.engineOwners e)) = false →
      (getF (ch.rd (R.VPE_GROUP g)) F.VPE_GROUP_valid == 1 && (((List.range 16).any fun i => (getF (ch.rd (R.VPE_GROUP g)) F.VPE_GROUP_members).testBit i && !(getF w F.VPE_GROUP_members).testBit i) || (getF (ch.rd (R.VPE_GROUP g)) F.VPE_GROUP_share_gate == 1 && getF w F.VPE_GROUP_share_gate == 0) || (getF (ch.rd (R.VPE_GROUP g)) F.VPE_GROUP_valid == 1 && getF w F.VPE_GROUP_valid == 0)) && ch.gateNames g) = false →
      ∃ t, exec (.vpeGroupWrite c src g v) s = .next t ∧ Agrees (ch.wr (R.VPE_GROUP g) w) (t.chan c)) ∧
    ( ∀ (src : Option (Fin 17)) (g : Fin 16) (v w : Word), s.reaches src c (R.VPE_GROUP g) = true →
      mergeF (ch.rd (R.VPE_GROUP g)) v [F.VPE_GROUP_members, F.VPE_GROUP_share_gate, F.VPE_GROUP_share_mxe, F.VPE_GROUP_valid] = w →
      (getF w F.VPE_GROUP_valid == 1 && (List.range 16).any fun i => (getF w F.VPE_GROUP_members).testBit i && (List.range 16).any fun h => h != g && ch.inGroup h i) = true ∨ ((List.range 4).any fun e => decide (1 < (ch.engineOwners e).length) && ch.mayShare (ch.engineOwners e) && !(ch.wr (R.VPE_GROUP g) w).mayShare (ch.engineOwners e)) = true ∨ (getF (ch.rd (R.VPE_GROUP g)) F.VPE_GROUP_valid == 1 && (((List.range 16).any fun i => (getF (ch.rd (R.VPE_GROUP g)) F.VPE_GROUP_members).testBit i && !(getF w F.VPE_GROUP_members).testBit i) || (getF (ch.rd (R.VPE_GROUP g)) F.VPE_GROUP_share_gate == 1 && getF w F.VPE_GROUP_share_gate == 0) || (getF (ch.rd (R.VPE_GROUP g)) F.VPE_GROUP_valid == 1 && getF w F.VPE_GROUP_valid == 0)) && ch.gateNames g) = true →
      ∃ t, exec (.vpeGroupWrite c src g v) s = .next t ∧ Agrees (ch) (t.chan c) ∧ Reported EV_VPE_CFG_REJECT (t.chan c)) ∧
    ( ∀ (src : Option (Fin 17)) (i : Fin 16) (v : Word), s.reaches src c (R.VPE_TPOL i) = true →
      ch.policySlot i (getF v F.VPE_TPOL_primary_slot) = true → ch.policySlot i (getF v F.VPE_TPOL_fallback_slot) = true →
      getF v F.VPE_TPOL_default_code ≤ 5 → ∃ t, exec (.vpeTpolWrite c src i v) s = .next t ∧
      Agrees (ch.wr (R.VPE_TPOL i) (mergeF (ch.rd (R.VPE_TPOL i)) v [F.VPE_TPOL_primary_slot, F.VPE_TPOL_fallback_slot, F.VPE_TPOL_default_code])) (t.chan c)) ∧
    ( ∀ (src : Option (Fin 17)) (i : Fin 16) (v : Word), s.reaches src c (R.VPE_TPOL i) = true →
      ch.policySlot i (getF v F.VPE_TPOL_primary_slot) = false ∨ ch.policySlot i (getF v F.VPE_TPOL_fallback_slot) = false ∨ 5 < getF v F.VPE_TPOL_default_code →
      ∃ t, exec (.vpeTpolWrite c src i v) s = .next t ∧ Agrees (ch) (t.chan c) ∧ Reported EV_VPE_CFG_REJECT (t.chan c))

/-- VPE_SHP_WRITE in the native mode sets the shaper at once, its bucket full with reset_to_full, else empty; with xitar4_refill it
is latched; an enabled shaper with a burst under 256 bytes is refused. SHAPER_REFILL_TICK, in the compatibility mode with the engine
enabled, applies latched writes and refills every shaper whose instant came; otherwise it does nothing. HOST_QUEUE_SEND of an open,
roomy queue whose shaper holds the record's bytes, or is off, puts the oldest record into the VF's host ring, spends the tokens
while the engine is enabled, advances prod and leaves the rest queued; any other queue sends nothing. -/
def Obligations.ShapersAndHostQueues : Prop :=
  ∀ (s : State) (c : Fin 8) (ch : Chan), s.chan c = ch →
    ( ∀ (src : Option (Fin 17)) (i : Fin 16) (q : Fin 2) (v w : Word), s.reaches src c (R.VPE_SHP i q) = true →
      mergeF (ch.rd (R.VPE_SHP i q)) v shpFields = w → getF w F.VPE_SHP_enable = 0 ∨ 256 ≤ getF w F.VPE_SHP_burst →
      ch.flag R.VPE_CTRL F.VPE_CTRL_xitar4_refill = false → ∃ t, exec (.vpeShpWrite c src i q v) s = .next t ∧
      Agrees (let a : Chan := ch.wr (R.VPE_SHP i q) w
        a.setShaper i q { tokens := if getF w F.VPE_SHP_reset_to_full = 1 then 65536 * a.fld (R.VPE_SHP i q) F.VPE_SHP_burst else 0, at_ := ch.ns }) (t.chan c)) ∧
    ( ∀ (src : Option (Fin 17)) (i : Fin 16) (q : Fin 2) (v w : Word), s.reaches src c (R.VPE_SHP i q) = true →
      mergeF (ch.rd (R.VPE_SHP i q)) v shpFields = w → getF w F.VPE_SHP_enable = 0 ∨ 256 ≤ getF w F.VPE_SHP_burst →
      ch.flag R.VPE_CTRL F.VPE_CTRL_xitar4_refill = true → ∃ t, exec (.vpeShpWrite c src i q v) s = .next t ∧
      Agrees (ch.setShaper i q { ch.shaper i q with latched := some w }) (t.chan c)) ∧
    ( ∀ (src : Option (Fin 17)) (i : Fin 16) (q : Fin 2) (v w : Word), s.reaches src c (R.VPE_SHP i q) = true →
      mergeF (ch.rd (R.VPE_SHP i q)) v shpFields = w → getF w F.VPE_SHP_enable = 1 → getF w F.VPE_SHP_burst < 256 → ∃ t,
      exec (.vpeShpWrite c src i q v) s = .next t ∧ Agrees (ch) (t.chan c) ∧ Reported EV_VPE_CFG_REJECT (t.chan c)) ∧
    ( ch.clocked = true → ch.flag R.VPE_CTRL F.VPE_CTRL_xitar4_refill = true → ch.flag R.VPE_CTRL F.VPE_CTRL_enable = true → ∃ t,
      exec (.shaperRefillTick c) s = .next t ∧
      Agrees ((List.range 32).foldl (fun (a : Chan) n => a.shpRefill (n / 2) (n % 2)) ch) (t.chan c)) ∧
    ( ∀ (i : Fin 16) (q : Fin 2) (r : List Byte) (rest : List (List Byte)) (x k n : Nat), ch.clocked = true →
      ch.hq i q = r :: rest → ch.hostOpen i = true → ch.hringRoom i q = true → bank (i + 1) (R.CHN_HRING_IDX q) = x →
      ch.fld (bank (i + 1) (R.CHN_HRING_BASE q)) F.CHN_HRING_BASE_log2_size = k → ch.fld x F.CHN_HRING_IDX_prod = n →
      ch.flag (R.VPE_SHP i q) F.VPE_SHP_enable = false → ∃ t, exec (.hostQueueSend c i q) s = .next t ∧
      Agrees ((ch.setHq i q rest).setFld x F.CHN_HRING_IDX_prod (n + 1)) (t.chan c) ∧ (t.chan c).hq i q = rest ∧
      ((if q.val = 0 then HostOut.mirror (i + 1) (n % 2 ^ k) r else HostOut.telemetry (i + 1) (n % 2 ^ k) r) ∈ (t.chan c).ev.out)) ∧
    ( ∀ (i : Fin 16) (q : Fin 2) (r : List Byte) (rest : List (List Byte)) (x k n : Nat), ch.clocked = true →
      ch.hq i q = r :: rest → ch.hostOpen i = true → ch.hringRoom i q = true → bank (i + 1) (R.CHN_HRING_IDX q) = x →
      ch.fld (bank (i + 1) (R.CHN_HRING_BASE q)) F.CHN_HRING_BASE_log2_size = k → ch.fld x F.CHN_HRING_IDX_prod = n →
      ch.flag (R.VPE_SHP i q) F.VPE_SHP_enable = true → r.length * 65536 ≤ ch.shpTokens i q → ∃ t,
      exec (.hostQueueSend c i q) s = .next t ∧
      Agrees ((if ch.flag R.VPE_CTRL F.VPE_CTRL_enable then (ch.setHq i q rest).setShaper i q { ch.shaper i q with tokens := ch.shpTokens i q - r.length * 65536, at_ := if ch.flag R.VPE_CTRL F.VPE_CTRL_xitar4_refill then (ch.shaper i q).at_ else ch.ns } else ch.setHq i q rest).setFld x F.CHN_HRING_IDX_prod (n + 1)) (t.chan c) ∧
      (t.chan c).hq i q = rest ∧
      ((if q.val = 0 then HostOut.mirror (i + 1) (n % 2 ^ k) r else HostOut.telemetry (i + 1) (n % 2 ^ k) r) ∈ (t.chan c).ev.out)) ∧
    ( ∀ (i : Fin 16) (q : Fin 2), ch.clocked = true →
      ch.hq i q = [] ∨ ch.hostOpen i = false ∨ ch.hringRoom i q = false ∨ (ch.flag (R.VPE_SHP i q) F.VPE_SHP_enable = true ∧ ch.shpTokens i q < ((ch.hq i q).headD []).length * 65536) →
      ∃ t, exec (.hostQueueSend c i q) s = .next t ∧ Agrees (ch) (t.chan c)) ∧
    ( ch.clocked = true → ch.flag R.VPE_CTRL F.VPE_CTRL_xitar4_refill = false ∨ ch.flag R.VPE_CTRL F.VPE_CTRL_enable = false → ∃ t,
      exec (.shaperRefillTick c) s = .next t ∧ Agrees (ch) (t.chan c))

/-- TIER_READ_RETURN within the tier's capacity passes the watchpoints; a corrected read of the scratchpad, T1 or T2 is counted; an
uncorrectable one is recorded in MEM_ERR_LOG, counted and reported by its tier, and its requester acts as Table 12.4 says; every
read of a T3 whose link is down is uncorrectable; a read beyond the capacity is refused and answered to its requester as
uncorrectable, a host DMA command completing REFUSED. TIER_REQUEST_TIMEOUT is an uncorrectable read to its requester, or a failed
write whose data is lost. T2_PATROL_SCRUB in ONLINE, its interval over, reads the next line and moves on. -/
def Obligations.TierAnswers : Prop :=
  ∀ (s : State) (c : Fin 8) (ch : Chan), s.chan c = ch → ch.clocked = true →
    ( ∀ (tier : Fin 4) (addr : BitVec 48) (len : BitVec 32) (who : TierUser), addr.toNat + len.toNat ≤ ch.tierSize tier →
      tier ≠ 3 ∨ ch.t3Up = true → ∃ t, exec (.tierReadReturn c tier addr len who .ok) s = .next t ∧
      Agrees (ch.watch tier addr.toNat len.toNat false) (t.chan c)) ∧
    ( ∀ (tier : Fin 4) (addr : BitVec 48) (len : BitVec 32) (who : TierUser) (k : Nat), addr.toNat + len.toNat ≤ ch.tierSize tier →
      corrCounter tier = some k → ∃ t, exec (.tierReadReturn c tier addr len who .corrected) s = .next t ∧
      Agrees ((ch.watch tier addr.toNat len.toNat false).inc k) (t.chan c)) ∧
    ( ∀ (tier : Fin 4) (addr : BitVec 48) (len : BitVec 32) (who : TierUser) (st : ReadStatus),
      addr.toNat + len.toNat ≤ ch.tierSize tier → st = .uncorrectable ∨ (tier = 3 ∧ ch.t3Up = false) → ∃ t,
      exec (.tierReadReturn c tier addr len who st) s = .next t ∧
      Agrees (((ch.watch tier addr.toNat len.toNat false).uncorrectable tier addr.toNat).requesterActs tier addr.toNat who) (t.chan c)) ∧
    ( ∀ (tier : Fin 4) (addr : BitVec 48) (len : BitVec 32) (who : TierUser), addr.toNat + len.toNat ≤ ch.tierSize tier →
      (ch.watch tier addr.toNat len.toNat false) = ch → who = .other ∨ who = .entity → ∃ t,
      exec (.tierReadReturn c tier addr len who .uncorrectable) s = .next t ∧
      Agrees (let a : Chan := ((ch.setFld R.MEM_ERR_LOG F.MEM_ERR_LOG_address addr.toNat).setFld R.MEM_ERR_LOG F.MEM_ERR_LOG_tier tier).inc (uncorrCounter tier).1
        if tier.val = 2 then { a with mem := { a.mem with t2Bad := (ch.now :: ch.mem.t2Bad.filter fun t => decide (ch.now < t + 1000 * msG)).take 65 } } else a) (t.chan c)) ∧
    ( ∀ (tier : Fin 4) (addr : BitVec 48) (len : BitVec 32) (who : TierUser) (st : ReadStatus),
      ch.tierSize tier < addr.toNat + len.toNat → ∀ i q n, who ≠ .dma i q n → ∃ t,
      exec (.tierReadReturn c tier addr len who st) s = .next t ∧
      Agrees (ch.refuseAccess.requesterActs tier addr.toNat who) (t.chan c)) ∧
    ( ∀ (tier : Fin 4) (addr : BitVec 48) (len : BitVec 32) (i : Fin 17) (q : Fin 4) (n : BitVec 16) (st : ReadStatus) (r : DmaRun),
      ch.tierSize tier < addr.toNat + len.toNat → ch.dmaFind i q n.toNat = some r → ∃ t,
      exec (.tierReadReturn c tier addr len (.dma i q n) st) s = .next t ∧
      Agrees (Chan.dmaEnd (ch.inc R.MEM_CNT_REFUSED) r 2) (t.chan c) ∧ Reported EV_CHN_DMA_REFUSED (t.chan c)) ∧
    ( ∀ (tier : Fin 4) (addr : BitVec 48) (who : TierUser), ∃ t, exec (.tierRequestTimeout c tier addr false who) s = .next t ∧
      Agrees ((ch.uncorrectable tier addr.toNat).requesterActs tier addr.toNat who) (t.chan c)) ∧
    ( ∀ (tier : Fin 4) (addr : BitVec 48) (who : TierUser), ∃ t, exec (.tierRequestTimeout c tier addr true who) s = .next t ∧
      Agrees (let a : Chan := ch.uncorrectable tier addr.toNat
        match who with | .dma i q n => a.requesterActs tier addr.toNat (.dma i q n) | _ => a) (t.chan c)) ∧
    ( ∀ (rs : ReadStatus), ch.t2State = 0 → ch.since ch.mem.patrolAt patrolG = true → ∃ t, exec (.t2PatrolScrub c rs) s = .next t ∧
      Agrees (Chan.tierReturn { ch with mem := { ch.mem with patrol := (ch.mem.patrol + 64) % 549755813888, patrolAt := ch.now } } 2 ch.mem.patrol 64 .other rs) (t.chan c))

/-- MEM_REGION_WRITE: an entry made valid must have an owner, lie within its tier, meet no other valid entry of the tier and, in the
scratchpad, no slot window, and a tenant's in T1 or the scratchpad then begins its zero-fill; a write that would change a valid
entry's tier, owner, base or size, its move while T2 is DRAINING, or that names an owner above 16, is refused with
EV_MEM_REGION_REJECT; clearing valid waits for the started DMA commands, and is refused while the entry confines something in use; a
valid entry's move may change. ZERO_FILL_COMPLETE zeroes the range, counts its bytes and clears filling. TENANT_ERASE draws new
keys, ends the flow region, fills the entries, and holds the erase, refused where R334 refuses it; while one runs, or without erase
set, only the tenant field changes; ERASE_COMPLETE ends it. -/
def Obligations.RegionsAndTenantErase : Prop :=
  ∀ (s : State) (c : Fin 8) (ch : Chan), s.chan c = ch →
    ( ∀ (src : Option (Fin 17)) (i : Fin 64) (v : Word) (old new : Region), s.reaches src c (R.MEM_REGION_A i) = true →
      ch.region i = old → regionOf (mergeF (ch.rd (R.MEM_REGION_A i)) v regionAFields) (ch.rd (R.MEM_REGION_B i)) = new →
      new.owner ≤ 16 → old.valid = false → new.valid = true → ch.entryFits i new = true → ∃ t,
      exec (.memRegionWrite c src i false v) s = .next t ∧
      Agrees ((ch.wr (R.MEM_REGION_A i) (mergeF (ch.rd (R.MEM_REGION_A i)) v regionAFields)).startZero i) (t.chan c)) ∧
    ( ∀ (src : Option (Fin 17)) (i : Fin 64) (v : Word) (old new : Region), s.reaches src c (R.MEM_REGION_A i) = true →
      ch.region i = old → regionOf (mergeF (ch.rd (R.MEM_REGION_A i)) v regionAFields) (ch.rd (R.MEM_REGION_B i)) = new →
      new.owner ≤ 16 → old.valid = false → new.valid = true → ch.entryFits i new = false → ∃ t,
      exec (.memRegionWrite c src i false v) s = .next t ∧ Agrees (ch) (t.chan c) ∧ Reported EV_MEM_REGION_REJECT (t.chan c)) ∧
    ( ∀ (src : Option (Fin 17)) (i : Fin 64) (v : Word) (old new : Region), s.reaches src c (R.MEM_REGION_A i) = true →
      ch.region i = old → regionOf (mergeF (ch.rd (R.MEM_REGION_A i)) v regionAFields) (ch.rd (R.MEM_REGION_B i)) = new →
      new.owner ≤ 16 → old.valid = false → new.valid = false → ∃ t, exec (.memRegionWrite c src i false v) s = .next t ∧
      Agrees (ch.wr (R.MEM_REGION_A i) (mergeF (ch.rd (R.MEM_REGION_A i)) v regionAFields)) (t.chan c)) ∧
    ( ∀ (src : Option (Fin 17)) (i : Fin 64) (v : Word) (old new : Region), s.reaches src c (R.MEM_REGION_B i) = true →
      ch.region i = old → regionOf (ch.rd (R.MEM_REGION_A i)) (mergeF (ch.rd (R.MEM_REGION_B i)) v regionBFields) = new →
      new.owner ≤ 16 → old.valid = false → ∃ t, exec (.memRegionWrite c src i true v) s = .next t ∧
      Agrees (ch.wr (R.MEM_REGION_B i) (mergeF (ch.rd (R.MEM_REGION_B i)) v regionBFields)) (t.chan c)) ∧
    ( ∀ (src : Option (Fin 17)) (i : Fin 64) (v : Word) (old new : Region), s.reaches src c (R.MEM_REGION_A i) = true →
      ch.region i = old → regionOf (mergeF (ch.rd (R.MEM_REGION_A i)) v regionAFields) (ch.rd (R.MEM_REGION_B i)) = new →
      16 < new.owner → ∃ t, exec (.memRegionWrite c src i false v) s = .next t ∧ Agrees (ch) (t.chan c) ∧
      Reported EV_MEM_REGION_REJECT (t.chan c)) ∧
    ( ∀ (src : Option (Fin 17)) (i : Fin 64) (v : Word) (old new : Region), s.reaches src c (R.MEM_REGION_A i) = true →
      ch.region i = old → regionOf (mergeF (ch.rd (R.MEM_REGION_A i)) v regionAFields) (ch.rd (R.MEM_REGION_B i)) = new →
      new.owner ≤ 16 → old.valid = true → old.tier ≠ new.tier ∨ old.owner ≠ new.owner → ∃ t,
      exec (.memRegionWrite c src i false v) s = .next t ∧ Agrees (ch) (t.chan c) ∧ Reported EV_MEM_REGION_REJECT (t.chan c)) ∧
    ( ∀ (src : Option (Fin 17)) (i : Fin 64) (v : Word) (old new : Region), s.reaches src c (R.MEM_REGION_B i) = true →
      ch.region i = old → regionOf (ch.rd (R.MEM_REGION_A i)) (mergeF (ch.rd (R.MEM_REGION_B i)) v regionBFields) = new →
      new.owner ≤ 16 → old.valid = true → old.base ≠ new.base ∨ old.len ≠ new.len → ∃ t,
      exec (.memRegionWrite c src i true v) s = .next t ∧ Agrees (ch) (t.chan c) ∧ Reported EV_MEM_REGION_REJECT (t.chan c)) ∧
    ( ∀ (src : Option (Fin 17)) (i : Fin 64) (v : Word) (old new : Region), s.reaches src c (R.MEM_REGION_A i) = true →
      ch.region i = old → regionOf (mergeF (ch.rd (R.MEM_REGION_A i)) v regionAFields) (ch.rd (R.MEM_REGION_B i)) = new →
      new.owner ≤ 16 → old.valid = true → old.tier = new.tier → old.owner = new.owner → new.valid = false → ch.confines i = false →
      ∃ t, exec (.memRegionWrite c src i false v) s = .next t ∧
      Agrees (Chan.settleClears { ch with mem := { ch.mem with clearing := i.val :: ch.mem.clearing.filter (· ≠ i.val) } }) (t.chan c)) ∧
    ( ∀ (src : Option (Fin 17)) (i : Fin 64) (v : Word) (old new : Region), s.reaches src c (R.MEM_REGION_B i) = true →
      ch.region i = old → regionOf (ch.rd (R.MEM_REGION_A i)) (mergeF (ch.rd (R.MEM_REGION_B i)) v regionBFields) = new →
      new.owner ≤ 16 → old.valid = true → old.base = new.base → old.len = new.len →
      (old.moveTo = new.moveTo ∧ old.move = new.move) ∨ ch.t2State ≠ 1 → ∃ t, exec (.memRegionWrite c src i true v) s = .next t ∧
      Agrees (ch.wr (R.MEM_REGION_B i) (mergeF (ch.rd (R.MEM_REGION_B i)) v regionBFields)) (t.chan c)) ∧
    ( ∀ (src : Option (Fin 17)) (i : Fin 64) (v : Word) (old new : Region), s.reaches src c (R.MEM_REGION_B i) = true →
      ch.region i = old → regionOf (ch.rd (R.MEM_REGION_A i)) (mergeF (ch.rd (R.MEM_REGION_B i)) v regionBFields) = new →
      new.owner ≤ 16 → old.valid = true → old.moveTo ≠ new.moveTo ∨ old.move ≠ new.move → ch.t2State = 1 → ∃ t,
      exec (.memRegionWrite c src i true v) s = .next t ∧ Agrees (ch) (t.chan c) ∧ Reported EV_MEM_REGION_REJECT (t.chan c)) ∧
    ( ∀ (src : Option (Fin 17)) (i : Fin 64) (v : Word) (old new : Region), s.reaches src c (R.MEM_REGION_A i) = true →
      ch.region i = old → regionOf (mergeF (ch.rd (R.MEM_REGION_A i)) v regionAFields) (ch.rd (R.MEM_REGION_B i)) = new →
      new.owner ≤ 16 → old.valid = true → old.tier = new.tier → old.owner = new.owner → new.valid = true → ∃ t,
      exec (.memRegionWrite c src i false v) s = .next t ∧ Agrees (ch) (t.chan c)) ∧
    ( ∀ (src : Option (Fin 17)) (i : Fin 64) (v : Word) (old new : Region), s.reaches src c (R.MEM_REGION_A i) = true →
      ch.region i = old → regionOf (mergeF (ch.rd (R.MEM_REGION_A i)) v regionAFields) (ch.rd (R.MEM_REGION_B i)) = new →
      new.owner ≤ 16 → old.valid = true → old.tier = new.tier → old.owner = new.owner → new.valid = false → ch.confines i = true →
      ∃ t, exec (.memRegionWrite c src i false v) s = .next t ∧ Agrees (ch) (t.chan c) ∧ Reported EV_MEM_REGION_REJECT (t.chan c)) ∧
    ( ∀ (src : Option (Fin 17)) (v : Word), s.reaches src c R.MEM_KEY_CMD = true →
      ch.mem.erase ≠ none ∨ getF v F.MEM_KEY_CMD_erase = 0 → ∃ t, exec (.tenantErase c src v) s = .next t ∧
      Agrees (ch.setFld R.MEM_KEY_CMD F.MEM_KEY_CMD_tenant (getF v F.MEM_KEY_CMD_tenant)) (t.chan c)) ∧
    ( ∀ (i : Fin 64) (f : Fill), ch.clocked = true → ch.mem.fills = [f] → f.entry = i.val → f.tier = 0 ∨ f.tier = 1 → ∃ t,
      exec (.zeroFillComplete c i) s = .next t ∧
      Agrees (let m := { ch.mem with fills := [], spad := if f.tier = 0 then clearRange ch.mem.spad f.base f.len else ch.mem.spad, t1 := if f.tier = 1 then clearRange ch.mem.t1 f.base f.len else ch.mem.t1 }
        let a : Chan := { ch with mem := m }
        (a.setFlag (R.MEM_REGION_A i) F.MEM_REGION_A_filling false).inc R.MEM_CNT_FILL_BYTES f.len) (t.chan c)) ∧
    ( ∀ (src : Option (Fin 17)) (v : Word) (i : Nat), s.reaches src c R.MEM_KEY_CMD = true → getF v F.MEM_KEY_CMD_tenant = i →
      ch.mem.erase = none → getF v F.MEM_KEY_CMD_erase = 1 → ch.eraseRefused i = false → ch.safeServe = false → ∃ t,
      exec (.tenantErase c src v) s = .next t ∧
      Agrees (let a : Chan := ((ch.setFld R.MEM_KEY_CMD F.MEM_KEY_CMD_tenant i).setFlag R.MEM_KEY_CMD F.MEM_KEY_CMD_erase true).drawKey i
        let b : Chan := (((a.regionRemove i).wr (R.FLW_REGION_A i) 0).wr (R.FLW_REGION_B i) 0).hqFlush (i + 1) 0 dmaFlushed 65536
        let d : Chan := (List.range 64).foldl (fun (d : Chan) e => if (d.region e).valid && (d.region e).owner == i && decide ((d.region e).tier < 2) then d.setFlag (R.MEM_REGION_A e) F.MEM_REGION_A_filling true else d) b
        { d with mem := { d.mem with erase := some (i, ch.regionBase i, if ch.hasRegion i then 2 ^ ch.regionBits i else 0) } }) (t.chan c)) ∧
    ( ∀ (src : Option (Fin 17)) (v : Word) (i : Nat), s.reaches src c R.MEM_KEY_CMD = true → getF v F.MEM_KEY_CMD_tenant = i →
      ch.mem.erase = none → getF v F.MEM_KEY_CMD_erase = 1 → ch.eraseRefused i = true ∨ ch.safeServe = true → ∃ t,
      exec (.tenantErase c src v) s = .next t ∧
      Agrees ((ch.setFld R.MEM_KEY_CMD F.MEM_KEY_CMD_tenant i).setFld R.MEM_KEY_CMD F.MEM_KEY_CMD_last_result 1) (t.chan c)) ∧
    ( ∀ (i b n : Nat), ch.clocked = true → ch.mem.erase = some (i, b, n) → (ch.host.dma.any fun d => d.inst == i + 1) = false → ∃ t,
      exec (.eraseComplete c) s = .next t ∧
      Agrees (let a : Chan := { ch with mem := { ch.mem with erase := none, t1 := clearRange ch.mem.t1 (flowAddr b) (512 * n) } }
        let d : Chan := (tenantRegs i).foldl (fun (d : Chan) k => d.wr k (regReset ch.idx k)) ((List.range 64).foldl (Chan.eraseEntry i) (a.inc R.MEM_CNT_FILL_BYTES (512 * n)))
        let e : Chan := d.setFld R.PDP_FAIL_POLICY F.PDP_FAIL_POLICY_tenant_present (putBit (d.fld R.PDP_FAIL_POLICY F.PDP_FAIL_POLICY_tenant_present) i false)
        let f : Chan := (((((e.setHq i 0 []).setHq i 1 []).setShaper i 0 {}).setShaper i 1 {}).setAging i none)
        ((f.setFlag R.MEM_KEY_CMD F.MEM_KEY_CMD_erase false).setFld R.MEM_KEY_CMD F.MEM_KEY_CMD_last_result 0).inc R.MEM_CNT_ERASE) (t.chan c))

/-- T2_EVACUATE in ONLINE loses the cold tables, counted, and makes T2 DRAINING; EVACUATION_COMPLETE copies the moved entries to T3,
empties T2 and makes it EVACUATED; T2_DIMM_POWER_WRITE in EVACUATED or FAILED writes the supply bits, both off making it
POWERED_DOWN; T2_RESTORE from EVACUATED, or POWERED_DOWN with both supplies on, makes it RESTORING; T2_RESTORE_COMPLETE makes it
ONLINE with zeroed cold tables, or FAILED. T2_MODULE_FAIL in ONLINE makes it FAILED. T3_LINK_DOWN and T3_LINK_UP change the link
state, the latter showing at most 128 GiB. In Quarantine boot T2 and T3 stay offline: T2_RESTORE_COMPLETE and T3_LINK_UP change
nothing. T2_EVACUATE in other states, and the supply bits in ONLINE, DRAINING and RESTORING, change nothing. -/
def Obligations.TierTwoAndThree : Prop :=
  ∀ (s : State) (c : Fin 8) (ch : Chan), s.chan c = ch →
    ( ∀ (src : Option (Fin 17)), s.reaches src c R.MEM_T2_CTRL = true → ch.t2State = 0 → ∃ t, exec (.t2Evacuate c src) s = .next t ∧
      Agrees (let a : Chan := (ch.coldLost.setT2 1).setFlag R.MEM_T2_CTRL F.MEM_T2_CTRL_evacuate true
        { a with mem := { a.mem with t2At := ch.now, evacBad := [] } }) (t.chan c) ∧
      (t.chan c).t2State = 1) ∧
    ( ∀ (src : Option (Fin 17)), s.reaches src c R.MEM_T2_CTRL = true → ch.t2State ≠ 0 → ∃ t, exec (.t2Evacuate c src) s = .next t ∧
      Agrees (ch) (t.chan c)) ∧
    ( ch.clocked = true → ch.t2State = 1 → ∃ t, exec (.evacuationComplete c) s = .next t ∧
      Agrees (let a : Chan := (List.range 64).foldl (fun (a : Chan) e => a.evacuateEntry e) ch
        let b : Chan := { a with mem := { a.mem with t2 := [], evacBad := [], t2At := a.now } }
        (b.setT2 2).setFlag R.MEM_T2_CTRL F.MEM_T2_CTRL_evacuate false) (t.chan c) ∧
      (t.chan c).mem.t2 = [] ∧ (t.chan c).t2State = 2 ∧ Reported EV_MEM_EVACUATED (t.chan c)) ∧
    ( ∀ (src : Option (Fin 17)) (v w : Word), s.reaches src c R.MEM_T2_CTRL = true → ch.t2State = 2 ∨ ch.t2State = 5 →
      mergeF (ch.rd R.MEM_T2_CTRL) v [F.MEM_T2_CTRL_dimm0_power, F.MEM_T2_CTRL_dimm1_power] = w →
      getF w F.MEM_T2_CTRL_dimm0_power = 0 → getF w F.MEM_T2_CTRL_dimm1_power = 0 → ∃ t,
      exec (.t2DimmPowerWrite c src v) s = .next t ∧
      Agrees (Chan.setT2 { ch.wr R.MEM_T2_CTRL w with mem := { ch.mem with t2 := [] } } 3) (t.chan c) ∧ (t.chan c).t2State = 3 ∧
      ((t.chan c).dimmPin 0 = false ∧ (t.chan c).dimmPin 1 = false)) ∧
    ( ∀ (src : Option (Fin 17)) (v w : Word), s.reaches src c R.MEM_T2_CTRL = true →
      ch.t2State = 2 ∨ ch.t2State = 3 ∨ ch.t2State = 5 →
      mergeF (ch.rd R.MEM_T2_CTRL) v [F.MEM_T2_CTRL_dimm0_power, F.MEM_T2_CTRL_dimm1_power] = w →
      getF w F.MEM_T2_CTRL_dimm0_power = 1 ∨ getF w F.MEM_T2_CTRL_dimm1_power = 1 → ∃ t,
      exec (.t2DimmPowerWrite c src v) s = .next t ∧ Agrees (ch.wr R.MEM_T2_CTRL w) (t.chan c) ∧
      (t.chan c).dimmPin 0 = (getF w F.MEM_T2_CTRL_dimm0_power == 1) ∧
      (t.chan c).dimmPin 1 = (getF w F.MEM_T2_CTRL_dimm1_power == 1)) ∧
    ( ∀ (src : Option (Fin 17)) (v : Word), s.reaches src c R.MEM_T2_CTRL = true →
      ch.t2State = 0 ∨ ch.t2State = 1 ∨ ch.t2State = 4 → ∃ t, exec (.t2DimmPowerWrite c src v) s = .next t ∧
      Agrees (ch) (t.chan c)) ∧
    ( ∀ (src : Option (Fin 17)), s.reaches src c R.MEM_T2_CTRL = true →
      ch.t2State = 2 ∨ (ch.t2State = 3 ∧ ch.flag R.MEM_T2_CTRL F.MEM_T2_CTRL_dimm0_power = true ∧ ch.flag R.MEM_T2_CTRL F.MEM_T2_CTRL_dimm1_power = true) →
      ∃ t, exec (.t2Restore c src) s = .next t ∧
      Agrees ({ (ch.setT2 4).setFlag R.MEM_T2_CTRL F.MEM_T2_CTRL_restore true with mem := { ch.mem with t2At := ch.now } }) (t.chan c) ∧
      (t.chan c).t2State = 4) ∧
    ( ch.isOn = true → ch.boot.quarantined = false → ch.t2State = 4 → ∃ t, exec (.t2RestoreComplete c true) s = .next t ∧
      Agrees (let a : Chan := ch.coldTenants.foldl (fun (a : Chan) i => a.setBytes 2 i (a.coldAddr i 0) (List.replicate (512 * 2 ^ a.coldBits i) 0)) ch
        (a.setT2 0).setFlag R.MEM_T2_CTRL F.MEM_T2_CTRL_restore false) (t.chan c) ∧
      (t.chan c).t2State = 0 ∧ Reported EV_MEM_T2_ONLINE (t.chan c)) ∧
    ( ch.isOn = true → ch.boot.quarantined = false → ch.t2State = 4 → ∃ t, exec (.t2RestoreComplete c false) s = .next t ∧
      Agrees ((ch.setT2 5).setFlag R.MEM_T2_CTRL F.MEM_T2_CTRL_restore false) (t.chan c) ∧ (t.chan c).t2State = 5 ∧
      Reported EV_MEM_T2_FAIL (t.chan c)) ∧
    ( ∀ (b : Bool), ch.isOn = true → ch.t2State = 0 →
      b = true ∨ 64 < (ch.mem.t2Bad.filter fun t => decide (ch.now < t + 1000 * msG)).length → ∃ t,
      exec (.t2ModuleFail c b) s = .next t ∧
      Agrees ((ch.coldLost.setT2 5).setFlag R.MEM_T2_CTRL F.MEM_T2_CTRL_restore false) (t.chan c) ∧
      Reported EV_MEM_T2_FAIL (t.chan c)) ∧
    ( ch.isOn = true → ch.fld R.MEM_STATUS F.MEM_STATUS_t3_link = 2 → ∃ t, exec (.t3LinkDown c) s = .next t ∧
      Agrees (ch.setFld R.MEM_STATUS F.MEM_STATUS_t3_link 1) (t.chan c) ∧ Reported EV_MEM_T3_LINK_DOWN (t.chan c)) ∧
    ( ∀ (gib : BitVec 16), ch.isOn = true → ch.boot.quarantined = false → ch.fld R.MEM_STATUS F.MEM_STATUS_t3_link ≠ 2 → ∃ t,
      exec (.t3LinkUp c gib) s = .next t ∧
      Agrees (((ch.setFld R.MEM_STATUS F.MEM_STATUS_t3_link 2).setFlag R.MEM_STATUS F.MEM_STATUS_t3_hdm_ready true).setFld R.MEM_STATUS F.MEM_STATUS_t3_gib (min 128 gib.toNat)) (t.chan c) ∧
      (t.chan c).t3Up = true) ∧
    ( ∀ (b : Bool), ch.boot.quarantined = true → ∃ t, exec (.t2RestoreComplete c b) s = .next t ∧ Agrees (ch) (t.chan c)) ∧
    ( ∀ (gib : BitVec 16), ch.boot.quarantined = true → ∃ t, exec (.t3LinkUp c gib) s = .next t ∧ Agrees (ch) (t.chan c))

/-- ZLK_PORT_ENABLE sets port_enable and takes a DISABLED port of a serving channel to TRAINING, topology NONE being refused with
EV_ZLK_CFG_REJECT; ZLK_PORT_DISABLE takes any to DISABLED, losing its messages; ZLK_LANES_ALIGNED takes a TRAINING port to IDENTIFY,
sends the identity and the first credits; ZLK_IDENTITY_RECEIVE in IDENTIFY records the partner: this device itself, or another than
Table 13.1 expects, is HELD and reported, the expected one is probed; ZLK_LINK_LOSS returns an UP port to TRAINING, losing its
messages and undoing the unconfirmed shares it brought. -/
def Obligations.ZorbexPortStates : Prop :=
  ∀ (s : State) (c : Fin 8) (ch : Chan) (p : Fin 3), s.chan c = ch →
    ( ∀ (src : Option (Fin 17)), s.reaches src c (R.ZLK_PORT_CTRL p) = true → ch.zTopo ≠ 0 → ch.zState p = 0 →
      ch.failStopped = false → ∃ t, exec (.zlkPortEnable c src p) s = .next t ∧
      Agrees (((ch.setFlag (R.ZLK_PORT_CTRL p) F.ZLK_PORT_CTRL_port_enable true).modZp p fun x => { x with since := ch.now }).setZState p 1) (t.chan c) ∧
      (t.chan c).zState p = 1) ∧
    ( ∀ (src : Option (Fin 17)), s.reaches src c (R.ZLK_PORT_CTRL p) = true → ch.zTopo ≠ 0 →
      ch.zState p ≠ 0 ∨ ch.failStopped = true → ∃ t, exec (.zlkPortEnable c src p) s = .next t ∧
      Agrees (ch.setFlag (R.ZLK_PORT_CTRL p) F.ZLK_PORT_CTRL_port_enable true) (t.chan c)) ∧
    ( ∀ (src : Option (Fin 17)), s.reaches src c (R.ZLK_PORT_CTRL p) = true → ch.zTopo = 0 → ∃ t,
      exec (.zlkPortEnable c src p) s = .next t ∧ Agrees (ch) (t.chan c) ∧ Reported EV_ZLK_CFG_REJECT (t.chan c)) ∧
    ( ∀ (src : Option (Fin 17)), s.reaches src c (R.ZLK_PORT_CTRL p) = true → ∃ t, exec (.zlkPortDisable c src p) s = .next t ∧
      Agrees ((ch.setFlag (R.ZLK_PORT_CTRL p) F.ZLK_PORT_CTRL_port_enable false).zDown p 0) (t.chan c) ∧ (t.chan c).zState p = 0) ∧
    ( ch.clocked = true → ch.zState p = 1 → ∃ t, exec (.zlkLanesAligned c p) s = .next t ∧
      Agrees (((ch.setZState p 2).setFld (R.ZLK_PORT_STATUS p) F.ZLK_PORT_STATUS_lane_locked 15).zIdentity p) (t.chan c) ∧
      (t.chan c).zState p = 2) ∧
    ( ∀ (d q n o : BitVec 8) (idn : BitVec 64) (a : Chan), ch.clocked = true → ch.zState p = 2 → (ch.zp p).known = false →
      ((ch.setFld (R.ZLK_PORT_STATUS p) F.ZLK_PORT_STATUS_partner_device d.toNat).setFld (R.ZLK_PORT_STATUS p) F.ZLK_PORT_STATUS_partner_port q.toNat).wr (R.ZLK_PARTNER_ID p) (BitVec.ofNat 64 idn.toNat) = a →
      idn.toNat ≠ ch.fuses.deviceId → zPartner ch.zTopo ch.zDev p = some (d.toNat, q.toNat) → n.toNat = ch.idx →
      o.toNat = ch.zTopo → ∃ t, exec (.zlkIdentityReceive c p d q n o idn) s = .next t ∧
      Agrees ((a.modZp p fun x => { x with known := true }).zProbe p) (t.chan c)) ∧
    ( ∀ (d q n o : BitVec 8) (idn : BitVec 64), ch.clocked = true → ch.zState p = 2 → (ch.zp p).known = false →
      idn.toNat = ch.fuses.deviceId → ∃ t, exec (.zlkIdentityReceive c p d q n o idn) s = .next t ∧ (t.chan c).zState p = 4 ∧
      ((t.chan c).fld (R.ZLK_PORT_STATUS p) F.ZLK_PORT_STATUS_partner_device = d.toNat % 8) ∧
      (t.chan c).rd (R.ZLK_PARTNER_ID p) = idn ∧ Reported EV_ZLK_SAME_DEVICE (t.chan c)) ∧
    ( ∀ (d q n o : BitVec 8) (idn : BitVec 64), ch.clocked = true → ch.zState p = 2 → (ch.zp p).known = false →
      idn.toNat ≠ ch.fuses.deviceId →
      zPartner ch.zTopo ch.zDev p ≠ some (d.toNat, q.toNat) ∨ n.toNat ≠ ch.idx ∨ o.toNat ≠ ch.zTopo → ∃ t,
      exec (.zlkIdentityReceive c p d q n o idn) s = .next t ∧ (t.chan c).zState p = 4 ∧ (t.chan c).rd (R.ZLK_PARTNER_ID p) = idn ∧
      Reported EV_ZLK_WIRING (t.chan c)) ∧
    ( ch.clocked = true → ch.zState p = 3 → ∃ t, exec (.zlkLinkLoss c p) s = .next t ∧ Agrees (ch.zDown p 1) (t.chan c) ∧
      (t.chan c).zState p = 1)

/-- ZLK_GROUP_RECEIVE of the expected good group delivers its blocks in order, acknowledges it and grants the freed credits;
delivery ends at a message that fails or a word that takes the port down; a bad group is asked for again by a nak; one out of order
is discarded, with a nak for the expected group unless one stands or it is old. ZLK_ACK_RECEIVE frees the groups up to the one
named; a nak of a held group frees those before it and sends the rest again, counted; one of a group not held, or the eighth for one
group, retrains the port. ZLK_CREDIT_RECEIVE raises the lane's limit and never lowers it. ZLK_RESERVED_CONTROL is ignored and
counted. ZLK_PROBE_TIMER after 1 ms in UP sends a TIME_PROBE. -/
def Obligations.ZorbexGroupsCreditsAndAcks : Prop :=
  ∀ (s : State) (c : Fin 8) (ch : Chan) (p : Fin 3), s.chan c = ch → ch.clocked = true →
    ( ∀ (num : BitVec 16) (bs : List (Nat × List Byte)) (x : ZPort) (y : Bool × Chan), ch.zLive p = true → ch.zp p = x →
      num = x.rxNum → (bs.any fun b => b.1 == 0 || decide (3 < b.1)) = false →
      (bs.foldl (Chan.zBlock p num.toNat) (true, ch.setZp p { x with rxNum := num + 1, rxAny := true, naking := false, rxLog := ((num.toNat, x.rxWords.1, x.rxWords.2) :: x.rxLog).take 512 })).1 = true →
      (bs.foldl (Chan.zBlock p num.toNat) (true, ch.setZp p { x with rxNum := num + 1, rxAny := true, naking := false, rxLog := ((num.toNat, x.rxWords.1, x.rxWords.2) :: x.rxLog).take 512 })) = y →
      y.2.zLive p = true → ∃ t, exec (.zlkGroupReceive c p num false bs) s = .next t ∧
      Agrees ((y.2.modZp p fun z => { z with sentNum := none, sentCount := 0 }).zControl p) (t.chan c)) ∧
    ( ∀ (num : BitVec 16) (bs : List (Nat × List Byte)) (x : ZPort) (y : Bool × Chan), ch.zLive p = true → ch.zp p = x →
      num = x.rxNum → (bs.any fun b => b.1 == 0 || decide (3 < b.1)) = false →
      (bs.foldl (Chan.zBlock p num.toNat) (true, ch.setZp p { x with rxNum := num + 1, rxAny := true, naking := false, rxLog := ((num.toNat, x.rxWords.1, x.rxWords.2) :: x.rxLog).take 512 })) = y →
      y.1 = false ∨ y.2.zLive p = false → ∃ t, exec (.zlkGroupReceive c p num false bs) s = .next t ∧ Agrees (y.2) (t.chan c)) ∧
    ( ∀ (num : BitVec 16) (bad : Bool) (bs : List (Nat × List Byte)), ch.zLive p = true → num = (ch.zp p).rxNum →
      bad = true ∨ (bs.any fun b => b.1 == 0 || decide (3 < b.1)) = true → ∃ t, exec (.zlkGroupReceive c p num bad bs) s = .next t ∧
      Agrees (ch.zNak p num) (t.chan c)) ∧
    ( ∀ (num : BitVec 16) (bad : Bool) (bs : List (Nat × List Byte)), ch.zLive p = true → num ≠ (ch.zp p).rxNum →
      (ch.zp p).naking = false → (num - (ch.zp p).rxNum).toNat < 32768 → ∃ t, exec (.zlkGroupReceive c p num bad bs) s = .next t ∧
      Agrees (ch.zNak p (ch.zp p).rxNum) (t.chan c)) ∧
    ( ∀ (num : BitVec 16) (bad : Bool) (bs : List (Nat × List Byte)), ch.zLive p = true → num ≠ (ch.zp p).rxNum →
      (ch.zp p).naking = true ∨ 32768 ≤ (num - (ch.zp p).rxNum).toNat → ∃ t, exec (.zlkGroupReceive c p num bad bs) s = .next t ∧
      Agrees (ch) (t.chan c)) ∧
    ( ∀ (num : BitVec 16) (x : ZPort), ch.zLive p = true → ch.zp p = x → ∃ t, exec (.zlkAckReceive c p false num) s = .next t ∧
      Agrees ((ch.setZp p { x with unacked := x.unacked.filter fun g => !decide ((num - g.num).toNat < 32768), nakNum := none, nakCount := 0 }).zPump p) (t.chan c)) ∧
    ( ∀ (num : BitVec 16) (x : ZPort) (n : Nat), ch.zLive p = true → ch.zp p = x →
      (if x.nakNum = some num then x.nakCount + 1 else 1) = n → (x.unacked.any fun g => g.num == num) = true → n < 8 → ∃ t,
      exec (.zlkAckReceive c p true num) s = .next t ∧
      Agrees (let keep := x.unacked.filter fun g => !decide ((num - 1 - g.num).toNat < 32768)
        let a : Chan := keep.foldl (fun (a : Chan) g => a.zOut p (.group g)) (ch.setZp p { x with unacked := keep, nakNum := some num, nakCount := n })
        (a.count R.ZLK_CNT_REPLAY EV_ZLK_REPLAY).zPump p) (t.chan c)) ∧
    ( ∀ (num : BitVec 16) (x : ZPort), ch.zLive p = true → ch.zp p = x →
      (x.unacked.any fun g => g.num == num) = false ∨ (x.nakNum = some num ∧ 7 ≤ x.nakCount) → ∃ t,
      exec (.zlkAckReceive c p true num) s = .next t ∧ Agrees (ch.zDown p 1) (t.chan c)) ∧
    ( ∀ (vl : Bool) (limit : BitVec 32) (x : ZPort), ch.zLive p = true → ch.zp p = x → ∃ t,
      exec (.zlkCreditReceive c p vl limit) s = .next t ∧
      Agrees ((ch.setZp p { x with txLimit := if vl then (x.txLimit.1, max x.txLimit.2 limit.toNat) else (max x.txLimit.1 limit.toNat, x.txLimit.2) }).zPump p) (t.chan c)) ∧
    ( ch.zState p ≠ 0 → ∃ t, exec (.zlkReservedControl c p) s = .next t ∧ Agrees (ch.inc R.ZLK_CNT_RESERVED) (t.chan c)) ∧
    ( ∀ (d q : Nat), ch.zState p = 3 → ch.since (ch.zp p).probeAt msG = true → zPartner ch.zTopo ch.zDev p = some (d, q) → ∃ t,
      exec (.zlkProbeTimer c p) s = .next t ∧
      Agrees ((ch.modZp p fun x => { x with probe := some ch.ps, probeAt := ch.now }).zQueue p (ch.zMsg 11 d true 0 0 []) 3) (t.chan c))

/-- SHARE that ZLK_ACCEPT admits, into an unlocked entity bucket with room, is inserted with the sixteen words of its old entry in
the undo log and listed as unconfirmed; any other is refused and counted. RETRACT undoes the share it names, EPOCH_CLOSE confirms
the shares of its epoch and frees their log entries; each is stale and counted when there is nothing it can mean. TIME_PROBE is
answered with the receive and send times and this device's offsets. TIME_RESP of an outstanding probe yields offset and delay and
the offsets beyond the neighbour. PAD is discarded. One whose length is not its type's is a header error, counted. -/
def Obligations.ZorbexMessages : Prop :=
  ∀ (s : State) (c : Fin 8) (ch : Chan) (p : Fin 3), s.chan c = ch → ch.clocked = true →
    ( ∀ (hd : MsgHead) (pay : List Byte), ∃ t, exec (.pad c p hd pay) s = .next t ∧ Agrees (ch) (t.chan c)) ∧
    ( ∀ (hd : MsgHead) (pay : List Byte) (m : ZMsg) (e old : List Byte) (i k b w n : Nat) (b2 : Nat × Nat), ch.accepts p hd →
      delivered 2 true hd pay = m → 2 + ceilDiv pay.length 16 = 6 → entParity (slice m.payload 0 64) = e →
      le e 33 1 % 128 = 16 * ch.idx.val + i → i < 16 → ch.fld (R.ZLK_ACCEPT i) F.ZLK_ACCEPT_lookup = k →
      (ch.fld (R.ZLK_ACCEPT i) F.ZLK_ACCEPT_from_mask).testBit hd.src.toNat = true →
      ch.fld (R.ZLK_ACCEPT i) F.ZLK_ACCEPT_origin_tenant = hd.context.toNat % 16 → ch.lookupKind i k = 1 →
      ch.entityBuckets i k (slice e 0 32) = b2 → ch.locked i (k + 1) b2.1 = false → ch.locked i (k + 1) b2.2 = false →
      ch.chk.undo.length + 16 ≤ undoSize → ch.sharePlace i k e = some (b, w) → ch.chk.shareNum + 1 = n →
      entAt (ch.entBucket i k b) w = old → ∃ t, exec (.share c p hd pay) s = .next t ∧
      Agrees (let a : Chan := (List.range 16).foldl (fun (a : Chan) x => a.undoPush (.peer n hd.src.toNat i k b w x (ch.tid i) (ch.fullEpoch (hd.args.toNat % 2 ^ 32)) (le old (4 * x) 4) (hd.args.toNat / 2 ^ 32))) ch
        Chan.putEntity { a with chk := { a.chk with shareNum := n, shares := a.chk.shares ++ [{ num := n, device := hd.src.toNat, origin := hd.context.toNat % 16, seqNo := hd.args.toNat / 2 ^ 32, epoch := ch.fullEpoch (hd.args.toNat % 2 ^ 32), port := p, at_ := ch.now }] } } i k b w e) (t.chan c)) ∧
    ( ∀ (hd : MsgHead) (pay : List Byte) (m : ZMsg) (t i : Nat), ch.accepts p hd → delivered 2 true hd pay = m →
      2 + ceilDiv pay.length 16 = 6 → le (entParity (slice m.payload 0 64)) 33 1 % 128 = t → t % 16 = i →
      t / 16 ≠ ch.idx.val ∨ (ch.fld (R.ZLK_ACCEPT i) F.ZLK_ACCEPT_from_mask).testBit hd.src.toNat = false ∨ ch.fld (R.ZLK_ACCEPT i) F.ZLK_ACCEPT_origin_tenant ≠ hd.context.toNat % 16 ∨ ch.lookupKind i (ch.fld (R.ZLK_ACCEPT i) F.ZLK_ACCEPT_lookup) ≠ 1 →
      ∃ t, exec (.share c p hd pay) s = .next t ∧ Agrees (ch.inc R.ZLK_CNT_SHARE_REFUSED) (t.chan c) ∧
      Reported EV_ZLK_SHARE_REFUSED (t.chan c)) ∧
    ( ∀ (hd : MsgHead) (pay : List Byte) (m : ZMsg) (e : List Byte) (i k : Nat) (b2 : Nat × Nat), ch.accepts p hd →
      delivered 2 true hd pay = m → 2 + ceilDiv pay.length 16 = 6 → entParity (slice m.payload 0 64) = e → le e 33 1 % 16 = i →
      ch.fld (R.ZLK_ACCEPT i) F.ZLK_ACCEPT_lookup = k → ch.entityBuckets i k (slice e 0 32) = b2 →
      ch.locked i (k + 1) b2.1 = true ∨ ch.locked i (k + 1) b2.2 = true ∨ undoSize < ch.chk.undo.length + 16 ∨ ch.sharePlace i k e = none →
      ∃ t, exec (.share c p hd pay) s = .next t ∧ Agrees (ch.inc R.ZLK_CNT_SHARE_REFUSED) (t.chan c) ∧
      Reported EV_ZLK_SHARE_REFUSED (t.chan c)) ∧
    ( ∀ (hd : MsgHead) (pay : List Byte) (x : PeerShare), ch.accepts p hd → 2 + ceilDiv pay.length 16 = 2 →
      (ch.chk.shares.find? fun y => y.device == hd.src.toNat && y.origin == hd.context.toNat % 16 && y.seqNo == hd.args.toNat / 2 ^ 32 && y.epoch % 2 ^ 32 == hd.args.toNat % 2 ^ 32) = some x →
      ∃ t, exec (.retract c p hd pay) s = .next t ∧ Agrees (ch.peerUndo x) (t.chan c)) ∧
    ( ∀ (hd : MsgHead) (pay : List Byte), ch.accepts p hd → 2 + ceilDiv pay.length 16 = 2 →
      (ch.chk.shares.find? fun y => y.device == hd.src.toNat && y.origin == hd.context.toNat % 16 && y.seqNo == hd.args.toNat / 2 ^ 32 && y.epoch % 2 ^ 32 == hd.args.toNat % 2 ^ 32) = none →
      ∃ t, exec (.retract c p hd pay) s = .next t ∧ Agrees (ch.inc R.ZLK_CNT_STALE) (t.chan c)) ∧
    ( ∀ (hd : MsgHead) (pay : List Byte) (o e : Nat), ch.accepts p hd → 2 + ceilDiv pay.length 16 = 2 →
      16 * hd.src.toNat + hd.context.toNat % 16 = o → hd.args.toNat = e → sget (fun _ => 0) ch.chk.peerClosed o ≤ e → ∃ t,
      exec (.epochClose c p hd pay) s = .next t ∧
      Agrees (let mine : PeerShare → Bool := fun y => y.device == hd.src.toNat && y.origin == hd.context.toNat % 16 && y.epoch == e
        let nums := (ch.chk.shares.filter mine).map (·.num)
        Chan.undoCount { ch with chk := { ch.chk with
          peerClosed := sset (fun _ => 0) ch.chk.peerClosed o (e + 1), shares := ch.chk.shares.filter fun y => !mine y,
          undo := ch.chk.undo.filter fun d => match d with | .peer n .. => !nums.contains n | .flow .. => true } }) (t.chan c)) ∧
    ( ∀ (hd : MsgHead) (pay : List Byte), ch.accepts p hd → 2 + ceilDiv pay.length 16 = 2 →
      hd.args.toNat < sget (fun _ => 0) ch.chk.peerClosed (16 * hd.src.toNat + hd.context.toNat % 16) → ∃ t,
      exec (.epochClose c p hd pay) s = .next t ∧ Agrees (ch.inc R.ZLK_CNT_STALE) (t.chan c)) ∧
    ( ∀ (hd : MsgHead) (pay : List Byte), ch.accepts p hd → 2 + ceilDiv pay.length 16 = 2 → ∃ t,
      exec (.timeProbe c p hd pay) s = .next t ∧
      Agrees (let offs := (List.range 8).flatMap fun d => beBytes 8 (ch.rd (R.ZLK_OFFSET d)).toNat
        ch.zQueue p (ch.zMsg 12 hd.src.toNat true 0 0 (beBytes 8 ch.ps ++ beBytes 8 ch.ps ++ offs)) 3) (t.chan c)) ∧
    ( ∀ (hd : MsgHead) (pay : List Byte) (m : ZMsg) (t1 : Nat), ch.accepts p hd → delivered 12 true hd pay = m →
      2 + ceilDiv pay.length 16 = 7 → (ch.zp p).probe = some t1 → ∃ t, exec (.timeResp c p hd pay) s = .next t ∧
      Agrees (let diff : Nat → Nat → Int := fun a b => sgn 64 (unsgn 64 ((a : Int) - (b : Int)))
        let t2 := be m.payload 0 8
        let t3 := be m.payload 8 8
        let a : Chan := ch.modZp p fun x => { x with probe := none, reported := (List.range 8).map fun e => be m.payload (16 + 8 * e) 8 }
        (a.zUpProbe p (ch.halfPs (diff t2 t1 - diff ch.ps t3)) (ch.halfPs (diff ch.ps t1 - diff t3 t2))).zFar p) (t.chan c)) ∧
    ( ∀ (hd : MsgHead) (pay : List Byte), ch.zLive p = true → 2 + ceilDiv pay.length 16 ≠ 6 → ∃ t,
      exec (.share c p hd pay) s = .next t ∧ Agrees (ch.inc R.ZLK_CNT_BAD_MESSAGE) (t.chan c) ∧
      Reported EV_ZLK_BAD_MESSAGE (t.chan c)) ∧
    ( ∀ (hd : MsgHead) (pay : List Byte), ch.zLive p = true → 2 + ceilDiv pay.length 16 ≠ 2 → ∃ t,
      exec (.retract c p hd pay) s = .next t ∧ Agrees (ch.inc R.ZLK_CNT_BAD_MESSAGE) (t.chan c) ∧
      Reported EV_ZLK_BAD_MESSAGE (t.chan c)) ∧
    ( ∀ (hd : MsgHead) (pay : List Byte), ch.zLive p = true → 2 + ceilDiv pay.length 16 ≠ 2 → ∃ t,
      exec (.epochClose c p hd pay) s = .next t ∧ Agrees (ch.inc R.ZLK_CNT_BAD_MESSAGE) (t.chan c) ∧
      Reported EV_ZLK_BAD_MESSAGE (t.chan c)) ∧
    ( ∀ (hd : MsgHead) (pay : List Byte), ch.zLive p = true → 2 + ceilDiv pay.length 16 ≠ 2 → ∃ t,
      exec (.timeProbe c p hd pay) s = .next t ∧ Agrees (ch.inc R.ZLK_CNT_BAD_MESSAGE) (t.chan c) ∧
      Reported EV_ZLK_BAD_MESSAGE (t.chan c)) ∧
    ( ∀ (hd : MsgHead) (pay : List Byte), ch.zLive p = true → 2 + ceilDiv pay.length 16 ≠ 7 → ∃ t,
      exec (.timeResp c p hd pay) s = .next t ∧ Agrees (ch.inc R.ZLK_CNT_BAD_MESSAGE) (t.chan c) ∧
      Reported EV_ZLK_BAD_MESSAGE (t.chan c)) ∧
    ( ∀ (hd : MsgHead) (pay : List Byte), ch.accepts p hd → 2 + ceilDiv pay.length 16 = 7 → (ch.zp p).probe = none → ∃ t,
      exec (.timeResp c p hd pay) s = .next t ∧ Agrees (ch) (t.chan c))

/-- FLR_VF completes the VF's unstarted commands FLUSHED, releases its locks and resets its instance; FLR_CHANNEL_PF does so for all
VFs and the PF, and NumVFs becomes 0; VF_ENABLE_CHANGE resets the VFs that no longer answer; D3HOT records the power state; FLR_PF0
resets the hub's event ring, HIF_CNT_SEL and D3hot. HOST_PORT_RESET resets the HIF registers and every channel's banked instances;
HOST_LINK_DOWN does the same and reports; HOST_LINK_UP shows speed, width and FLIT mode, and reports. -/
def Obligations.FunctionResetsAndHostLink : Prop :=
  ∀ (s : State) (c : Fin 8) (ch : Chan), s.chan c = ch →
    ( ∀ (i : Fin 16), s.hubRuns = true → ∃ t, exec (.flrVf c i) s = .next t ∧
      Agrees (let a : Chan := ch.hqFlush (i.val + 1) 0 dmaFlushed 65536
        let ls := a.flow.locks.map fun (l : Lock) => if l.holder = i.val + 1 ∧ l.release = none then { l with release := some a.now, forced := true } else l
        Chan.bankReset { a with flow := { a.flow with locks := ls } } (i.val + 1)) (t.chan c) ∧
      (((t.chan c).flow.locks.all fun l => l.holder != i.val + 1 || l.release.isSome) = true) ∧
      (t.chan c).hqProd (i.val + 1) 0 = 0) ∧
    ( s.hubRuns = true → ∃ t, exec (.flrChannelPf c) s = .next t ∧
      Agrees (let a : Chan := Chan.bankReset ((List.range 16).foldl (fun (a : Chan) i => a.flrVf i) ch) 0
        { a with host := { a.host with vfEnable := false, numVFs := 0 } }) (t.chan c) ∧
      (t.chan c).host.vfEnable = false ∧ (t.chan c).host.numVFs = 0) ∧
    ( ∀ (en : Bool) (n : Fin 17), s.hubRuns = true → ∃ t, exec (.vfEnableChange c en n) s = .next t ∧
      Agrees (let gone := (List.range 16).filter fun i => ch.host.vfEnable && decide (i < ch.host.numVFs) && !(en && decide (i < n.val))
        let a : Chan := gone.foldl (fun (a : Chan) i => a.flrVf i) ch
        { a with host := { a.host with vfEnable := en, numVFs := n } }) (t.chan c)) ∧
    ( ∀ (inst : Fin 17) (on : Bool), s.hubRuns = true → ∃ t, exec (.d3hot (some (c, inst)) on) s = .next t ∧
      Agrees ({ ch with host := { ch.host with d3hot := if on then inst.val :: ch.host.d3hot.filter (· ≠ inst.val) else ch.host.d3hot.filter (· ≠ inst.val) } }) (t.chan c) ∧
      (t.chan c).host.d3hot.contains inst.val = on) ∧
    ( ∀ (on : Bool), s.hubRuns = true → ∃ t, exec (.d3hot none on) s = .next t ∧
      (t = { s with hub := { s.hub with d3hot := on } })) ∧
    ( s.hubRuns = true → ∃ t, exec (.flrPf0) s = .next t ∧
      (t = { s with hub := { s.hub.ringReset.wr R.HIF_CNT_SEL 0 with d3hot := false, cntRead := none } }) ∧ t.hub.ev.phase = [] ∧
      t.hub.rd R.HIF_EVQ_BASE = 0 ∧ t.hub.rd R.HIF_EVQ_CONS = 0 ∧ t.hub.rd R.HIF_CNT_SEL = 0) ∧
    ( s.hubRuns = true → ∀ d : Fin 8, (s.chan d).toHub = [] → ∃ t, exec (.hostPortReset) s = .next t ∧ t.hub = s.hub.hifReset ∧
      t.pack = s.pack ∧
      ∀ d : Fin 8,
        let a : Chan := (s.chan d).portReset
        t.chan d = { a with host := { a.host with d3hot := [], held := [] } }) ∧
    ( s.hubRuns = true → ∀ d : Fin 8, (s.chan d).toHub = [] → s.hub.linkUp = true → ∃ t, exec (.hostLinkDown) s = .next t ∧
      t.hub = s.hub.hifReset.raise EV_HIF_LINK_DOWN ∧ t.pack = s.pack ∧ HubReported EV_HIF_LINK_DOWN t.hub ∧ t.hub.linkUp = false ∧
      ∀ d : Fin 8,
        let a : Chan := (s.chan d).portReset
        t.chan d = { a with host := { a.host with d3hot := [], held := [] } }) ∧
    ( s.hubRuns = true → s.hub.linkUp = false → ∃ t, exec (.hostLinkDown) s = .next t ∧ t = s) ∧
    ( ∀ (speed : Fin 6) (width : Fin 17) (flit : Bool), s.hubRuns = true → s.hub.linkUp = false →
      linkWidths.contains width.val = true → ∃ t, exec (.hostLinkUp speed width flit) s = .next t ∧ t.chans = s.chans ∧
      t.pack = s.pack ∧ HubReported EV_HIF_LINK_UP t.hub ∧ t.hub.fld R.HIF_LINK_STATUS F.HIF_LINK_STATUS_speed = speed.val + 1 ∧
      t.hub.fld R.HIF_LINK_STATUS F.HIF_LINK_STATUS_width = width.val ∧
      (t.hub.flag R.HIF_LINK_STATUS F.HIF_LINK_STATUS_flit = (flit || speed.val == 5)) ∧
      ∀ k : Nat, k ≠ R.HIF_LINK_STATUS → k ≠ R.HIF_EVQ_CONS → t.hub.rd k = s.hub.rd k) ∧
    ( ∀ (speed : Fin 6) (width : Fin 17) (flit : Bool), s.hubRuns = true →
      s.hub.linkUp = true ∨ linkWidths.contains width.val = false → ∃ t, exec (.hostLinkUp speed width flit) s = .next t ∧ t = s)

/-- MALFORMED_TLP ends a DMA read completion it carried HOST_ERROR and reports through AER; CHANNEL_NO_ANSWER sets the channel's
HIF_BRIDGE_STATUS bit and reports; UNSUPPORTED_REQUEST sends an Unsupported Request completion; SUP_WATCHDOG_RESTART reports.
HIF_COUNTER_READ with start stores the channel and offset and begins a read, refused for an offset that is no multiple of 8;
HIF_COUNTER_READ_DONE puts the counter, 0 for no counter, or all ones for a channel that is not on, into HIF_CNT_DATA and sets done;
a sleeping channel is woken first. -/
def Obligations.HostErrorsAndCounterReads : Prop :=
  ∀ (s : State) (c : Fin 8) (ch : Chan), s.chan c = ch →
    ( s.hubRuns = true → ∃ t, exec (.malformedTlp none) s = .next t ∧ (t = { s with hub := s.hub.raise EV_HIF_AER_UNCORR }) ∧
      HubReported EV_HIF_AER_UNCORR t.hub) ∧
    ( ∀ (inst : Fin 17) (q : Fin 4) (n : BitVec 16), s.hubRuns = true → ch.isOn = true → ∃ t,
      exec (.malformedTlp (some (c, inst, q, n))) s = .next t ∧ Agrees (ch.dmaComplete inst q n.toNat [] .hostError) (t.chan c) ∧
      HubReported EV_HIF_AER_UNCORR t.hub) ∧
    ( s.hubRuns = true → ∃ t, exec (.channelNoAnswer c) s = .next t ∧ t.chans = s.chans ∧
      t.hub.fld R.HIF_BRIDGE_STATUS F.HIF_BRIDGE_STATUS_no_answer = putBit (s.hub.fld R.HIF_BRIDGE_STATUS F.HIF_BRIDGE_STATUS_no_answer) c true ∧
      HubReported EV_HIF_CHANNEL_NO_ANSWER t.hub ∧
      ∀ k : Nat, k ≠ R.HIF_BRIDGE_STATUS → k ≠ R.HIF_EVQ_CONS → t.hub.rd k = s.hub.rd k) ∧
    ( s.hubRuns = true → ∃ t, exec (.unsupportedRequest) s = .next t ∧
      (t = { s with hub := { s.hub with ev := s.hub.ev.send .unsupported } })) ∧
    ( s.hubRuns = true → ∃ t, exec (.supWatchdogRestart) s = .next t ∧ (t = { s with hub := s.hub.raise EV_HIF_SUP_RESTART }) ∧
      HubReported EV_HIF_SUP_RESTART t.hub) ∧
    ( ∀ (v : Word), s.hubRuns = true → getF v F.HIF_CNT_SEL_offset % 8 = 0 → getF v F.HIF_CNT_SEL_start = 1 →
      s.hub.flag R.HIF_CNT_SEL F.HIF_CNT_SEL_start = false → ∃ t, exec (.hifCounterRead v) s = .next t ∧ t.chans = s.chans ∧
      t.hub.cntRead = some (getF v F.HIF_CNT_SEL_channel, getF v F.HIF_CNT_SEL_offset) ∧
      t.hub.fld R.HIF_CNT_SEL F.HIF_CNT_SEL_channel = getF v F.HIF_CNT_SEL_channel ∧
      t.hub.fld R.HIF_CNT_SEL F.HIF_CNT_SEL_offset = getF v F.HIF_CNT_SEL_offset ∧
      t.hub.flag R.HIF_CNT_SEL F.HIF_CNT_SEL_start = true ∧ t.hub.flag R.HIF_CNT_SEL F.HIF_CNT_SEL_done = false) ∧
    ( ∀ (v : Word), s.hubRuns = true → getF v F.HIF_CNT_SEL_offset % 8 ≠ 0 → ∃ t, exec (.hifCounterRead v) s = .next t ∧ t = s) ∧
    ( ∀ (off : Nat), s.hub.cntRead = some (c.val, off) → ch.isOn = true → ch.pwrState < 2 → ∃ t,
      exec (.hifCounterReadDone) s = .next t ∧ t.chans = s.chans ∧
      t.hub.rd R.HIF_CNT_DATA = (if isCounter off then ch.readReg 0 off true else 0) ∧
      t.hub.flag R.HIF_CNT_SEL F.HIF_CNT_SEL_done = true ∧ t.hub.flag R.HIF_CNT_SEL F.HIF_CNT_SEL_start = false ∧
      t.hub.cntRead = none) ∧
    ( ∀ (off : Nat), s.hub.cntRead = some (c.val, off) → ch.isOn = false → ∃ t, exec (.hifCounterReadDone) s = .next t ∧
      t.chans = s.chans ∧ t.hub.rd R.HIF_CNT_DATA = (if isCounter off then BitVec.allOnes 64 else 0) ∧
      t.hub.flag R.HIF_CNT_SEL F.HIF_CNT_SEL_done = true ∧ t.hub.cntRead = none) ∧
    ( ∀ (off : Nat), s.hub.cntRead = some (c.val, off) → ch.isOn = true → 2 ≤ ch.pwrState → ∃ t,
      exec (.hifCounterReadDone) s = .next t ∧ Agrees (ch.wakeStart) (t.chan c) ∧ t.hub.cntRead = s.hub.cntRead ∧
      (t.chan c).pwr.waking.isSome)

/-- TENANT_CREATE makes the tenant with its class and fresh keys, clears its counters, or is refused with EV_CHN_TENANT_REJECT;
DMA_DOORBELL stores prod. DMA_COMMAND_START takes the next entry when it may: BAD_COMMAND, REFUSED, or in flight.
DMA_COMMAND_COMPLETE moves the data (none for a NOP) and writes DONE, or HOST_ERROR, or TIER_ERROR with an uncorrectable read;
DMA_HOST_TIMEOUT after 10 ms of a host read writes HOST_ERROR. MSIX_HOLDOFF_EXPIRE sends the withheld vector once its holdoff is
over. -/
def Obligations.TenantsDmaAndVectors : Prop :=
  ∀ (s : State) (c : Fin 8) (ch : Chan), s.chan c = ch →
    ( ∀ (src : Option (Fin 17)) (i : Fin 16) (v : Word), s.reaches src c (R.CHN_TENANT i) = true → getF v F.CHN_TENANT_create = 1 →
      ch.tenantExists i = false → (ch.mem.erase.any fun e => e.1 == i.val) = false → ch.safeServe = false → ∃ t,
      exec (.tenantCreate c src i v) s = .next t ∧
      Agrees (let a : Chan := (ch.setFld (R.CHN_TENANT i) F.CHN_TENANT_class (getF v F.CHN_TENANT_class)).setFlag (R.CHN_TENANT i) F.CHN_TENANT_exists true
        let b : Chan := a.setFld R.PDP_FAIL_POLICY F.PDP_FAIL_POLICY_tenant_present (putBit (a.fld R.PDP_FAIL_POLICY F.PDP_FAIL_POLICY_tenant_present) i true)
        ((List.range 6).foldl (fun (b : Chan) k => b.wr (R.OBS_TCNT i k) 0) b).drawKey i) (t.chan c) ∧
      (t.chan c).tenantExists i = true) ∧
    ( ∀ (src : Option (Fin 17)) (i : Fin 16) (v : Word), s.reaches src c (R.CHN_TENANT i) = true → getF v F.CHN_TENANT_create = 1 →
      ch.tenantExists i = true ∨ (ch.mem.erase.any fun e => e.1 == i.val) = true ∨ ch.safeServe = true → ∃ t,
      exec (.tenantCreate c src i v) s = .next t ∧ Agrees (ch) (t.chan c) ∧ Reported EV_CHN_TENANT_REJECT (t.chan c)) ∧
    ( ∀ (src : Option (Fin 17)) (i : Fin 16) (v : Word), s.reaches src c (R.CHN_TENANT i) = true → getF v F.CHN_TENANT_create = 0 →
      ∃ t, exec (.tenantCreate c src i v) s = .next t ∧
      Agrees (if ch.tenantExists i then ch else ch.setFld (R.CHN_TENANT i) F.CHN_TENANT_class (getF v F.CHN_TENANT_class)) (t.chan c)) ∧
    ( ∀ (src : Option (Fin 17)) (q : Fin 4) (v : Word), s.reaches src c (R.CHN_HQ_PROD q) = true → ∃ t,
      exec (.dmaDoorbell c src q v) s = .next t ∧
      Agrees (ch.setFld (bank (writerInst src) (R.CHN_HQ_PROD q)) F.CHN_HQ_PROD_prod (getF v F.CHN_HQ_PROD_prod)) (t.chan c)) ∧
    ( ∀ (inst : Fin 17) (q : Fin 4) (e : List Byte), ch.clocked = true → ch.dmaMayStart inst q (dmaOf e) = false → ∃ t,
      exec (.dmaCommandStart c inst q e) s = .next t ∧ Agrees (ch) (t.chan c)) ∧
    ( ∀ (inst : Fin 17) (q : Fin 4) (e : List Byte), ch.clocked = true → ch.dmaMayStart inst q (dmaOf e) = true →
      (dmaOf e).bad = true → ∃ t, exec (.dmaCommandStart c inst q e) s = .next t ∧
      Agrees ((ch.hqTake inst q).dmaStatus inst q (ch.hqNext inst q) 3 (dmaOf e).irq) (t.chan c) ∧
      ((t.chan c).ev.out.contains (.dmaStatus inst q (ch.hqNext inst q % 2 ^ ch.hqBits inst q) 3) = true)) ∧
    ( ∀ (inst : Fin 17) (q : Fin 4) (e : List Byte) (x : Bool × Chan), ch.clocked = true → ch.dmaMayStart inst q (dmaOf e) = true →
      (dmaOf e).bad = false → (ch.hqTake inst q).dmaAllowed inst (dmaOf e) (s.priv c) = x → x.1 = false → ∃ t,
      exec (.dmaCommandStart c inst q e) s = .next t ∧ Agrees (x.2.dmaStatus inst q (ch.hqNext inst q) 2 (dmaOf e).irq) (t.chan c) ∧
      ((t.chan c).ev.out.contains (.dmaStatus inst q (ch.hqNext inst q % 2 ^ ch.hqBits inst q) 2) = true)) ∧
    ( ∀ (inst : Fin 17) (q : Fin 4) (e : List Byte), ch.clocked = true → ch.dmaMayStart inst q (dmaOf e) = true →
      (dmaOf e).bad = false → ch.fnLive inst = true →
      (dmaOf e).op = 0 ∨ ch.moverAllows (dmaOf e).tier (ownerOf inst) (dmaOf e).dev (dmaOf e).len = true →
      (dmaOf e).op = 1 → (dmaOf e).tier ≠ 1 ∨ ch.dmaLocked inst (dmaOf e).dev (dmaOf e).len = true →
      (dmaOf e).op = 2 → inst.val ≠ 0 ∨ s.priv c = true ∨ ch.observes (dmaOf e).tier (dmaOf e).dev (dmaOf e).len = false → ∃ t,
      exec (.dmaCommandStart c inst q e) s = .next t ∧
      Agrees (let a : Chan := ch.hqTake inst q
        let r : DmaRun := { inst := inst, q := q, index := ch.hqNext inst q, cmd := dmaOf e, at_ := ch.now }
        Chan.hqFlight { a with host := { a.host with dma := ch.host.dma ++ [r] } } inst q) (t.chan c)) ∧
    ( ∀ (inst : Fin 17) (q : Fin 4) (n : BitVec 16) (r : DmaRun) (data : List Byte), ch.clocked = true →
      ch.dmaFind inst q n.toNat = some r → r.cmd.op = 0 → ∃ t, exec (.dmaCommandComplete c inst q n data .done) s = .next t ∧
      Agrees (ch.dmaEnd r dmaDone) (t.chan c)) ∧
    ( ∀ (inst : Fin 17) (q : Fin 4) (n : BitVec 16) (r : DmaRun) (data : List Byte), ch.clocked = true →
      ch.dmaFind inst q n.toNat = some r → r.cmd.op = 1 → ch.tierServes r.cmd.tier = true → ∃ t,
      exec (.dmaCommandComplete c inst q n data .done) s = .next t ∧
      Agrees ((ch.store r.cmd.tier (ownerOf inst) r.cmd.dev (slice data 0 r.cmd.len)).dmaEnd r dmaDone) (t.chan c)) ∧
    ( ∀ (inst : Fin 17) (q : Fin 4) (n : BitVec 16) (r : DmaRun) (data : List Byte), ch.clocked = true →
      ch.dmaFind inst q n.toNat = some r → r.cmd.op = 2 → ch.tierServes r.cmd.tier = true → ∃ t,
      exec (.dmaCommandComplete c inst q n data .done) s = .next t ∧
      Agrees (let x := ch.load r.cmd.tier (ownerOf inst) r.cmd.dev r.cmd.len
        let a : Chan := { x.2 with ev := x.2.ev.send (.data r.cmd.host x.1) }
        a.dmaEnd r dmaDone) (t.chan c) ∧
      (t.chan c).ev.out.contains (.data r.cmd.host (ch.load r.cmd.tier (ownerOf inst) r.cmd.dev r.cmd.len).1) = true) ∧
    ( ∀ (inst : Fin 17) (q : Fin 4) (n : BitVec 16) (r : DmaRun) (data : List Byte) (e : DmaEnd), ch.clocked = true →
      ch.dmaFind inst q n.toNat = some r → r.cmd.op ≠ 0 → e = .tierError ∨ (e = .done ∧ ch.tierServes r.cmd.tier = false) → ∃ t,
      exec (.dmaCommandComplete c inst q n data e) s = .next t ∧
      Agrees ((ch.uncorrectable r.cmd.tier r.cmd.dev).dmaEnd r dmaTierError) (t.chan c)) ∧
    ( ∀ (inst : Fin 17) (q : Fin 4) (n : BitVec 16) (r : DmaRun) (data : List Byte), ch.clocked = true →
      ch.dmaFind inst q n.toNat = some r → r.cmd.op ≠ 0 → ∃ t, exec (.dmaCommandComplete c inst q n data .hostError) s = .next t ∧
      Agrees (ch.dmaEnd r dmaHostError) (t.chan c)) ∧
    ( ∀ (inst : Fin 17) (q : Fin 4) (n : BitVec 16) (r : DmaRun), ch.clocked = true → ch.dmaFind inst q n.toNat = some r →
      r.cmd.op = 1 → ch.since r.at_ (10 * msG) = true → ∃ t, exec (.dmaHostTimeout c inst q n) s = .next t ∧
      Agrees (ch.dmaEnd r dmaHostError) (t.chan c)) ∧
    ( ∀ (inst : Fin 17) (q : Fin 4) (n : BitVec 16) (r : DmaRun), ch.clocked = true → ch.dmaFind inst q n.toNat = some r →
      r.cmd.op ≠ 1 ∨ ch.since r.at_ (10 * msG) = false → ∃ t, exec (.dmaHostTimeout c inst q n) s = .next t ∧
      Agrees (ch) (t.chan c)) ∧
    ( ∀ (inst : Fin 17) (vec : Fin 64) (u : Nat), ch.isOn = true → ch.ev.vecDue.contains (vecKey inst vec) = true →
      sget (fun _ => none) ch.ev.vecAt (vecKey inst vec) = some u → ch.since u (ch.holdoff inst vec * usG) = true → ∃ t,
      exec (.msixHoldoffExpire c inst vec) s = .next t ∧ Agrees (ch) (t.chan c) ∧
      (t.chan c).ev.vecDue.contains (vecKey inst vec) = false ∧
      (t.chan c).ev.out = (if ch.host.d3hot.contains inst.val then ch.ev.out else .vector inst vec :: ch.ev.out)) ∧
    ( ∀ (inst : Fin 17) (vec : Fin 64) (u : Nat), ch.isOn = true → sget (fun _ => none) ch.ev.vecAt (vecKey inst vec) = some u →
      ch.since u (ch.holdoff inst vec * usG) = false → ∃ t, exec (.msixHoldoffExpire c inst vec) s = .next t ∧
      Agrees (ch) (t.chan c) ∧ (t.chan c).ev = ch.ev)

/-- BOOT_START, the ramp or the 10 µs of a reset over: the bank of the higher sequence is checked first, the other if it fails, each
failure's reason kept; an image boots, or with none the channel enters Quarantine boot with EV_BOOT_QUARANTINE; an unreadable fuse
or flash gives reason 11 or 9 for both banks. BOOT_CONFIG_APPLY carries out SET, WAIT and END records, refused and timed-out ones
counted. BOOT_READY stages the next MODEL section, or ends the trial and reports READY. BOOT_TRIAL_TIMEOUT marks the bank failed and
resets the channel. -/
def Obligations.BootPicksAnImageAndConfigures : Prop :=
  ∀ (s : State) (c : Fin 8) (ch : Chan), s.chan c = ch →
    ( ∀ (fl fu : Bool), s.hubRuns = true →
      (ch.pwr.power = .ramping ∧ ch.since ch.pwr.since (rampGrains c) = true) ∨ (ch.pwr.power = .inReset ∧ ch.since ch.pwr.since (10 * usG) = true) →
      fl = false ∨ fu = false → ∃ t, exec (.bootStart c fl fu) s = .next t ∧
      Agrees (let pw : Pwr := { ch.pwr with power := .on, since := ch.now, lodestarAt := ch.now, frameAt := ch.now, watchdogAt := ch.now, dispatchAt := ch.now, sampleAt := ch.now }
        let a : Chan := (Chan.setFlag { ch with pwr := pw, chk := { ch.chk with digestAt := ch.now, scrubAt := ch.now } } R.MEM_STATUS F.MEM_STATUS_t1_ready true).setFld R.PWR_STATUS F.PWR_STATUS_vdd (Config.vdd ch.idx 0)
        Chan.bootIdentity { a with boot := { at_ := ch.now, state := .quarantine, reasonA := if fu then 9 else 11, reasonB := if fu then 9 else 11 } }) (t.chan c) ∧
      t.hub.flag (R.SUP_CHN_CTRL c) F.SUP_CHN_CTRL_power_on = false ∧ t.hub.flag (R.SUP_CHN_CTRL c) F.SUP_CHN_CTRL_reset = false ∧
      t.pack.ramping = (if s.pack.ramping = some c.val then none else s.pack.ramping) ∧ HubReported EV_BOOT_QUARANTINE t.hub) ∧
    ( ∀ (first r1 r2 : Nat), s.hubRuns = true →
      (ch.pwr.power = .ramping ∧ ch.since ch.pwr.since (rampGrains c) = true) ∨ (ch.pwr.power = .inReset ∧ ch.since ch.pwr.since (10 * usG) = true) →
      (if imgSeq (ch.flash.bytes 0 0 1024) < imgSeq (ch.flash.bytes 1 0 1024) then 1 else 0) = first →
      ch.bankReason first true true = r1 → (if r1 = 0 then 0 else ch.bankReason (1 - first) true true) = r2 → ∃ t,
      exec (.bootStart c true true) s = .next t ∧ (t.chan c).pwr.power = .on ∧
      (t.chan c).boot.reasonA = (if first = 0 then r1 else r2) ∧ (t.chan c).boot.reasonB = (if first = 0 then r2 else r1) ∧
      ((t.chan c).boot.state = (if r1 = 0 ∨ r2 = 0 then .booting else .quarantine)) ∧
      (r1 = 0 ∨ r2 = 0 → (t.chan c).boot.bank = if r1 = 0 then first else 1 - first) ∧
      (r1 = 0 ∨ r2 = 0 → (t.chan c).boot.header = ch.flash.bytes (if r1 = 0 then first else 1 - first) 0 1024) ∧
      (r1 ≠ 0 → r2 ≠ 0 → HubReported EV_BOOT_QUARANTINE t.hub) ∧ t.hub.flag (R.SUP_CHN_CTRL c) F.SUP_CHN_CTRL_power_on = false ∧
      t.hub.flag (R.SUP_CHN_CTRL c) F.SUP_CHN_CTRL_reset = false ∧
      t.pack.ramping = (if s.pack.ramping = some c.val then none else s.pack.ramping)) ∧
    ( ∀ (t3f : Bool), ch.isOn = true →
      ch.boot.state ≠ .booting ∨ ch.boot.configDone = true ∨ ch.t2State = 4 ∨ (t3f = false ∧ ch.t3Up = false) → ∃ t,
      exec (.bootConfigApply c t3f) s = .next t ∧ Agrees (ch) (t.chan c)) ∧
    ( ∀ (t3f : Bool), ch.isOn = true → ch.boot.state = .booting → ch.boot.configDone = false → ch.t2State ≠ 4 →
      t3f = true ∨ ch.t3Up = true → ch.bootSections 3 = [] → ∃ t, exec (.bootConfigApply c t3f) s = .next t ∧
      Agrees ({ ch with boot := { ch.boot with configDone := true, waiting := none } }) (t.chan c)) ∧
    ( ∀ (t3f : Bool) (x : ImgSection) (xs : List ImgSection) (r : List Byte) (n : Nat), ch.isOn = true → ch.boot.state = .booting →
      ch.boot.configDone = false → ch.t2State ≠ 4 → t3f = true ∨ ch.t3Up = true → ch.bootSections 3 = x :: xs →
      slice (ch.sectionBytes x) (24 * ch.boot.configAt) 24 = r → (ch.sectionBytes x).length / 24 - ch.boot.configAt = n + 1 →
      le r 0 1 = 0 → ∃ t, exec (.bootConfigApply c t3f) s = .next t ∧
      Agrees ({ ch with boot := { ch.boot with configDone := true, waiting := none } }) (t.chan c)) ∧
    ( ∀ (t3f : Bool) (x : ImgSection) (xs : List ImgSection) (r : List Byte) (n : Nat), ch.isOn = true → ch.boot.state = .booting →
      ch.boot.configDone = false → ch.t2State ≠ 4 → t3f = true ∨ ch.t3Up = true → ch.bootSections 3 = x :: xs →
      slice (ch.sectionBytes x) (24 * ch.boot.configAt) 24 = r → (ch.sectionBytes x).length / 24 - ch.boot.configAt = n + 1 →
      le r 0 1 = 1 → le r 4 4 < 0x2000000 → ∃ t, exec (.bootConfigApply c t3f) s = .next t ∧
      Agrees (let a : Chan := ch.hostWrite 0 (le r 4 4) (BitVec.ofNat 64 (le r 8 8)) (s.priv c)
        ((if refusedSince ch a then a.configReject else a).configNext).configRun (s.priv c) (ch.sectionBytes x) n) (t.chan c)) ∧
    ( ∀ (t3f : Bool) (x : ImgSection) (xs : List ImgSection) (r : List Byte) (n : Nat), ch.isOn = true → ch.boot.state = .booting →
      ch.boot.configDone = false → ch.t2State ≠ 4 → t3f = true ∨ ch.t3Up = true → ch.bootSections 3 = x :: xs →
      slice (ch.sectionBytes x) (24 * ch.boot.configAt) 24 = r → (ch.sectionBytes x).length / 24 - ch.boot.configAt = n + 1 →
      le r 0 1 = 1 ∨ le r 0 1 = 2 → 0x2000000 ≤ le r 4 4 → ∃ t, exec (.bootConfigApply c t3f) s = .next t ∧
      Agrees (ch.configReject.configNext.configRun (s.priv c) (ch.sectionBytes x) n) (t.chan c)) ∧
    ( ∀ (t3f : Bool) (x : ImgSection) (xs : List ImgSection) (r : List Byte) (n : Nat), ch.isOn = true → ch.boot.state = .booting →
      ch.boot.configDone = false → ch.t2State ≠ 4 → t3f = true ∨ ch.t3Up = true → ch.bootSections 3 = x :: xs →
      slice (ch.sectionBytes x) (24 * ch.boot.configAt) 24 = r → (ch.sectionBytes x).length / 24 - ch.boot.configAt = n + 1 →
      le r 0 1 = 2 → le r 4 4 < 0x2000000 →
      ch.readReg 0 (le r 4 4) (s.priv c) &&& BitVec.ofNat 64 (le r 16 8) = BitVec.ofNat 64 (le r 8 8) → ∃ t,
      exec (.bootConfigApply c t3f) s = .next t ∧ Agrees (ch.configNext.configRun (s.priv c) (ch.sectionBytes x) n) (t.chan c)) ∧
    ( ∀ (t3f : Bool) (x : ImgSection) (xs : List ImgSection) (r : List Byte) (n : Nat), ch.isOn = true → ch.boot.state = .booting →
      ch.boot.configDone = false → ch.t2State ≠ 4 → t3f = true ∨ ch.t3Up = true → ch.bootSections 3 = x :: xs →
      slice (ch.sectionBytes x) (24 * ch.boot.configAt) 24 = r → (ch.sectionBytes x).length / 24 - ch.boot.configAt = n + 1 →
      le r 0 1 = 2 → le r 4 4 < 0x2000000 →
      ch.readReg 0 (le r 4 4) (s.priv c) &&& BitVec.ofNat 64 (le r 16 8) ≠ BitVec.ofNat 64 (le r 8 8) → ∃ t,
      exec (.bootConfigApply c t3f) s = .next t ∧
      Agrees (match ch.boot.waiting with
        | none => { ch with boot := { ch.boot with waiting := some ch.now } }
        | some u => if ch.since u (10 * msG) then ch.configReject.configNext.configRun (s.priv c) (ch.sectionBytes x) n else ch) (t.chan c)) ∧
    ( ∀ (t3f : Bool) (x : ImgSection) (xs : List ImgSection) (r : List Byte) (n : Nat), ch.isOn = true → ch.boot.state = .booting →
      ch.boot.configDone = false → ch.t2State ≠ 4 → t3f = true ∨ ch.t3Up = true → ch.bootSections 3 = x :: xs →
      slice (ch.sectionBytes x) (24 * ch.boot.configAt) 24 = r → (ch.sectionBytes x).length / 24 - ch.boot.configAt = n + 1 →
      2 < le r 0 1 → ∃ t, exec (.bootConfigApply c t3f) s = .next t ∧
      Agrees ({ ch.configReject with boot := { ch.configReject.boot with configDone := true, waiting := none } }) (t.chan c) ∧
      HubReported EV_BOOT_CONFIG_REJECT t.hub) ∧
    ( ∀ (k : Nat) (ks : List Nat), ch.isOn = true → ch.boot.state = .booting → ch.boot.configDone = true →
      ch.models.staging = none → ch.boot.models = k :: ks → ∃ t, exec (.bootReady c) s = .next t ∧
      Agrees (Chan.bootModel { ch with boot := { ch.boot with models := ks } } k) (t.chan c)) ∧
    ( ch.isOn = true → ch.boot.state = .booting → ch.boot.configDone = true → ch.models.staging = none → ch.boot.models = [] → ∃ t,
      exec (.bootReady c) s = .next t ∧
      Agrees (let fl := if ch.boot.onTrial then { ch.flash with trial := none } else ch.flash
        { ch with boot := { ch.boot with state := .ready, onTrial := false }, flash := fl, pwr := { ch.pwr with ready := true } }) (t.chan c) ∧
      HubReported EV_BOOT_READY t.hub) ∧
    ( ch.isOn = true → ch.boot.state ≠ .booting ∨ ch.boot.configDone = false ∨ ch.models.staging ≠ none → ∃ t,
      exec (.bootReady c) s = .next t ∧ Agrees (ch) (t.chan c)) ∧
    ( ch.isOn = true → ch.boot.state = .booting → ch.boot.onTrial = true → ch.since ch.boot.at_ (10000 * msG) = true → ∃ t,
      exec (.bootTrialTimeout c) s = .next t ∧
      Agrees (Chan.reset { ch with flash := { ch.flash with failed := (ch.boot.bank, le ch.boot.header 8 8) :: ch.flash.failed, trial := none } }) (t.chan c) ∧
      HubReported EV_BOOT_TRIAL_FAILED t.hub) ∧
    ( ch.isOn = true → ch.boot.state ≠ .booting ∨ ch.boot.onTrial = false ∨ ch.since ch.boot.at_ (10000 * msG) = false → ∃ t,
      exec (.bootTrialTimeout c) s = .next t ∧ Agrees (ch) (t.chan c))

/-- PROGRAM checks the image in T1: a failing one ends it with result 2, the reason and EV_BOOT_PROGRAM_FAIL; a good one is being
written to the bank that does not run, or A in Quarantine boot. PROGRAM_COMPLETE writes the bank and marks it for its trial, or
leaves free bytes after a flash error. ACTIVATE resets the channel unless another boots. COMMIT_SV raises the fuse thermometer to
the running image's version. PROGRAM_SLOT and PROGRAM_DEVICE_ID write only what is not programmed; REVOKE_SLOT leaves one live slot
of each use; refusals raise EV_BOOT_FUSE_REJECT. -/
def Obligations.ImageAndFuseCommands : Prop :=
  ∀ (s : State) (c : Fin 8) (ch : Chan), s.chan c = ch →
    ( s.hubRuns = true → s.hub.program = none → ch.isOn = false ∨ (ch.boot.state ≠ .ready ∧ ch.boot.state ≠ .quarantine) → ∃ t,
      exec (.program c) s = .next t ∧ t.chans = s.chans ∧ t.hub.program = none ∧ t.hub.fld R.BOOT_CMD F.BOOT_CMD_result = 1 ∧
      t.hub.fld R.BOOT_CMD F.BOOT_CMD_reason = 0) ∧
    ( ∀ (why : Nat), s.hubRuns = true → s.hub.program = none → ch.isOn = true →
      ch.boot.state = .ready ∨ ch.boot.state = .quarantine →
      (ch.imageReason fun o n => ch.bytes 1 chanKey (s.hub.fld R.BOOT_SRC F.BOOT_SRC_address / 4096 * 4096 + o) n) = why → ∃ t,
      exec (.program c) s = .next t ∧
      (why ≠ 0 → t.chans = s.chans ∧ HubReported EV_BOOT_PROGRAM_FAIL t.hub ∧ t.hub.fld R.BOOT_CMD F.BOOT_CMD_result = 2 ∧ t.hub.fld R.BOOT_CMD F.BOOT_CMD_reason = why) ∧
      (why = 0 → t.hub.program = some c.val ∧ t.hub.flag R.BOOT_CMD F.BOOT_CMD_start = true ∧
        Agrees { ch with boot := { ch.boot with program := some (ch.progImage (s.hub.fld R.BOOT_SRC F.BOOT_SRC_address / 4096 * 4096), if ch.boot.state = .quarantine then 0 else 1 - ch.boot.bank), prior := ch.boot.state, state := .programming } } (t.chan c))) ∧
    ( ∀ (err : Bool) (img : List Byte) (b : Nat), s.hub.program = some c.val → ch.boot.program = some (img, b) → ∃ t,
      exec (.programComplete c err) s = .next t ∧
      Agrees (let a : Chan := { ch with boot := { ch.boot with program := none, state := ch.boot.prior } }
        if err then { a with draws := ch.draws + 1, flash := ch.flash.program b (freeBytes ch.idx ch.draws img.length) }
        else { a with flash := { ch.flash.program b img with trial := some b } }) (t.chan c) ∧
      t.hub.program = none ∧ t.hub.fld R.BOOT_CMD F.BOOT_CMD_result = (if err then 3 else 0) ∧
      t.hub.fld R.BOOT_CMD F.BOOT_CMD_reason = 0 ∧ HubReported (if err then EV_BOOT_PROGRAM_FAIL else EV_BOOT_PROGRAMMED) t.hub) ∧
    ( s.hubRuns = true → s.hub.program = none → ch.isOn = true → ∀ d : Fin 8, d ≠ c → (s.chan d).boot.state ≠ .booting → ∃ t,
      exec (.activate c) s = .next t ∧ Agrees (ch.flashSpoilt.reset) (t.chan c) ∧ t.hub.fld R.BOOT_CMD F.BOOT_CMD_result = 0 ∧
      t.hub.fld R.BOOT_CMD F.BOOT_CMD_reason = 0) ∧
    ( s.hubRuns = true → s.hub.program = none → (∀ d : Fin 8, d ≠ c → (s.chan d).boot.state ≠ .booting) → ch.isOn = false → ∃ t,
      exec (.activate c) s = .next t ∧ t.chans = s.chans ∧
      (t.hub.fld R.BOOT_CMD F.BOOT_CMD_result = (if ∀ d : Fin 8, d ≠ c → (s.chan d).boot.state ≠ .booting then 1 else 4))) ∧
    ( s.hubRuns = true → s.hub.program = none → ch.isOn = true → ch.boot.state = .ready → ∃ t, exec (.commitSv c) s = .next t ∧
      Agrees ({ ch with fuses := { ch.fuses with security := max ch.fuses.security (le ch.boot.header 16 4) } }) (t.chan c) ∧
      t.hub.fld R.BOOT_CMD F.BOOT_CMD_result = 0 ∧ t.hub.fld R.BOOT_CMD F.BOOT_CMD_reason = 0) ∧
    ( s.hubRuns = true → s.hub.program = none → ch.isOn = false ∨ ch.boot.state ≠ .ready → ∃ t, exec (.commitSv c) s = .next t ∧
      t.chans = s.chans ∧ t.hub.fld R.BOOT_CMD F.BOOT_CMD_result = 1 ∧ t.hub.fld R.BOOT_CMD F.BOOT_CMD_reason = 0) ∧
    ( ∀ (slot : Fin 8) (ok : Bool), s.hubRuns = true → ch.isOn = true → ch.fuses.programmed.testBit slot = false → ∃ t,
      exec (.programSlot c slot ok) s = .next t ∧
      Agrees (let bs := if ok then s.hub.fuseData else freeBytes ch.idx ch.draws 96
        { ch with draws := ch.draws + 1, fuses := { ch.fuses with slots := sset (fun _ => []) ch.fuses.slots slot bs, programmed := if ok then putBit ch.fuses.programmed slot true else ch.fuses.programmed } }) (t.chan c) ∧
      t.hub.fld R.BOOT_FUSE_CMD F.BOOT_FUSE_CMD_result = (if ok then 0 else 2) ∧ t.hub.fld R.BOOT_FUSE_CMD F.BOOT_FUSE_CMD_op = 1 ∧
      t.hub.fld R.BOOT_FUSE_CMD F.BOOT_FUSE_CMD_channel = c.val ∧ t.hub.fld R.BOOT_FUSE_CMD F.BOOT_FUSE_CMD_slot = slot.val ∧
      (t.chan c).fuses.programmed.testBit slot = ok) ∧
    ( ∀ (slot : Fin 8) (ok : Bool), s.hubRuns = true → ch.fuses.programmed.testBit slot = true → ∃ t,
      exec (.programSlot c slot ok) s = .next t ∧ t.chans = s.chans ∧ HubReported EV_BOOT_FUSE_REJECT t.hub ∧
      t.hub.fld R.BOOT_FUSE_CMD F.BOOT_FUSE_CMD_result = 1 ∧ t.hub.fld R.BOOT_FUSE_CMD F.BOOT_FUSE_CMD_op = 1 ∧
      t.hub.fld R.BOOT_FUSE_CMD F.BOOT_FUSE_CMD_channel = c.val ∧ t.hub.fld R.BOOT_FUSE_CMD F.BOOT_FUSE_CMD_slot = slot.val) ∧
    ( ∀ (slot : Fin 8) (ok : Bool), s.hubRuns = true → ch.fuses.programmed.testBit slot = false → ch.isOn = false → ∃ t,
      exec (.programSlot c slot ok) s = .next t ∧ t.chans = s.chans ∧ t.hub.fld R.BOOT_FUSE_CMD F.BOOT_FUSE_CMD_result = 2 ∧
      t.hub.fld R.BOOT_FUSE_CMD F.BOOT_FUSE_CMD_op = 1 ∧ t.hub.fld R.BOOT_FUSE_CMD F.BOOT_FUSE_CMD_channel = c.val ∧
      t.hub.fld R.BOOT_FUSE_CMD F.BOOT_FUSE_CMD_slot = slot.val) ∧
    ( ∀ (slot : Fin 8), s.hubRuns = true → ch.isOn = true → ch.fuses.live slot ≠ [slot.val] → ∃ t,
      exec (.revokeSlot c slot true) s = .next t ∧
      Agrees ({ ch with fuses := { ch.fuses with revoked := putBit ch.fuses.revoked slot true } }) (t.chan c) ∧
      t.hub.fld R.BOOT_FUSE_CMD F.BOOT_FUSE_CMD_result = 0 ∧ t.hub.fld R.BOOT_FUSE_CMD F.BOOT_FUSE_CMD_op = 2 ∧
      t.hub.fld R.BOOT_FUSE_CMD F.BOOT_FUSE_CMD_channel = c.val ∧ t.hub.fld R.BOOT_FUSE_CMD F.BOOT_FUSE_CMD_slot = slot.val ∧
      (t.chan c).fuses.revoked.testBit slot = true) ∧
    ( ∀ (slot : Fin 8) (ok : Bool), s.hubRuns = true → ch.fuses.live slot = [slot.val] → ∃ t,
      exec (.revokeSlot c slot ok) s = .next t ∧ t.chans = s.chans ∧ HubReported EV_BOOT_FUSE_REJECT t.hub ∧
      t.hub.fld R.BOOT_FUSE_CMD F.BOOT_FUSE_CMD_result = 1 ∧ t.hub.fld R.BOOT_FUSE_CMD F.BOOT_FUSE_CMD_op = 2 ∧
      t.hub.fld R.BOOT_FUSE_CMD F.BOOT_FUSE_CMD_channel = c.val ∧ t.hub.fld R.BOOT_FUSE_CMD F.BOOT_FUSE_CMD_slot = slot.val) ∧
    ( ∀ (slot : Fin 8) (ok : Bool), s.hubRuns = true → ch.fuses.live slot ≠ [slot.val] → ch.isOn = false ∨ ok = false → ∃ t,
      exec (.revokeSlot c slot ok) s = .next t ∧ t.chans = s.chans ∧ t.hub.fld R.BOOT_FUSE_CMD F.BOOT_FUSE_CMD_result = 2 ∧
      t.hub.fld R.BOOT_FUSE_CMD F.BOOT_FUSE_CMD_op = 2 ∧ t.hub.fld R.BOOT_FUSE_CMD F.BOOT_FUSE_CMD_channel = c.val ∧
      t.hub.fld R.BOOT_FUSE_CMD F.BOOT_FUSE_CMD_slot = slot.val) ∧
    ( ∀ (ok : Bool), s.hubRuns = true → ch.isOn = true → ch.fuses.deviceId = 0 → ∃ t, exec (.programDeviceId c ok) s = .next t ∧
      Agrees ({ ch with draws := ch.draws + 1, fuses := { ch.fuses with deviceId := if ok then (s.hub.rd (R.BOOT_FUSE_DATA 0)).toNat else leNat (freeBytes ch.idx ch.draws 8) } }) (t.chan c) ∧
      t.hub.fld R.BOOT_FUSE_CMD F.BOOT_FUSE_CMD_result = (if ok then 0 else 2) ∧ t.hub.fld R.BOOT_FUSE_CMD F.BOOT_FUSE_CMD_op = 3 ∧
      t.hub.fld R.BOOT_FUSE_CMD F.BOOT_FUSE_CMD_channel = c.val) ∧
    ( ∀ (ok : Bool), s.hubRuns = true → ch.fuses.deviceId ≠ 0 → ∃ t, exec (.programDeviceId c ok) s = .next t ∧ t.chans = s.chans ∧
      HubReported EV_BOOT_FUSE_REJECT t.hub ∧ t.hub.fld R.BOOT_FUSE_CMD F.BOOT_FUSE_CMD_result = 1 ∧
      t.hub.fld R.BOOT_FUSE_CMD F.BOOT_FUSE_CMD_op = 3 ∧ t.hub.fld R.BOOT_FUSE_CMD F.BOOT_FUSE_CMD_channel = c.val) ∧
    ( ∀ (ok : Bool), s.hubRuns = true → ch.fuses.deviceId = 0 → ch.isOn = false → ∃ t, exec (.programDeviceId c ok) s = .next t ∧
      t.chans = s.chans ∧ t.hub.fld R.BOOT_FUSE_CMD F.BOOT_FUSE_CMD_result = 2 ∧ t.hub.fld R.BOOT_FUSE_CMD F.BOOT_FUSE_CMD_op = 3 ∧
      t.hub.fld R.BOOT_FUSE_CMD F.BOOT_FUSE_CMD_channel = c.val)

/-- ATTEST_REQUEST: a request while one is held is refused; otherwise scope and tenant are stored, a VF's forced to its own tenant;
with start, it is refused when the alias key is spent, the signature state is lost or the destination does not lie in a scratchpad
entry of the function, each with its result and EV_LDS_ATTEST_REFUSED, or held. ATTEST_RELEASE, at most once a second: the oldest
held request uses the next index, whose state record is committed first; report, alias record and signature block go to the
destination, and the status shows the length and index. -/
def Obligations.AttestationRequestsAndReports : Prop :=
  ∀ (s : State) (c : Fin 8) (ch : Chan), s.chan c = ch →
    ( ∀ (src : Option (Fin 17)) (v : Word) (inst : Nat), s.reaches src c R.LDS_ATT_REQ = true → writerInst src = inst →
      ch.boot.requests.contains inst = true → getF v F.LDS_ATT_REQ_start = 1 → ∃ t, exec (.attestRequest c src v) s = .next t ∧
      Agrees (ch.setFld (bank inst R.LDS_ATT_STATUS) F.LDS_ATT_STATUS_result 1) (t.chan c) ∧
      Reported EV_LDS_ATTEST_REFUSED (t.chan c)) ∧
    ( ∀ (src : Option (Fin 17)) (v : Word) (inst : Nat), s.reaches src c R.LDS_ATT_REQ = true → writerInst src = inst →
      ch.boot.requests.contains inst = true → getF v F.LDS_ATT_REQ_start = 0 → ∃ t, exec (.attestRequest c src v) s = .next t ∧
      Agrees (ch) (t.chan c)) ∧
    ( ∀ (src : Option (Fin 17)) (v : Word) (inst : Nat), s.reaches src c R.LDS_ATT_REQ = true → writerInst src = inst →
      ch.boot.requests.contains inst = false → getF v F.LDS_ATT_REQ_start = 0 → ∃ t, exec (.attestRequest c src v) s = .next t ∧
      Agrees (let a : Chan := ch.wr (bank inst R.LDS_ATT_REQ) (mergeF (ch.rd (bank inst R.LDS_ATT_REQ)) v [F.LDS_ATT_REQ_scope, F.LDS_ATT_REQ_tenant])
        let b : Chan := if inst = 0 then a else (a.setFld (bank inst R.LDS_ATT_REQ) F.LDS_ATT_REQ_scope 1).setFld (bank inst R.LDS_ATT_REQ) F.LDS_ATT_REQ_tenant (ch.tid (inst - 1))
        b) (t.chan c)) ∧
    ( ∀ (src : Option (Fin 17)) (v : Word) (inst : Nat) (n : Nat), s.reaches src c R.LDS_ATT_REQ = true → writerInst src = inst →
      ch.boot.requests.contains inst = false → getF v F.LDS_ATT_REQ_start = 1 →
      (if aliasLimit ≤ ch.boot.nextQ then 2 else if ch.boot.stateLost then 3 else if ch.attDestOk inst then 0 else 4) = n → n ≠ 0 →
      ∃ t, exec (.attestRequest c src v) s = .next t ∧
      Agrees (let a : Chan := ch.wr (bank inst R.LDS_ATT_REQ) (mergeF (ch.rd (bank inst R.LDS_ATT_REQ)) v [F.LDS_ATT_REQ_scope, F.LDS_ATT_REQ_tenant])
        let b : Chan := if inst = 0 then a else (a.setFld (bank inst R.LDS_ATT_REQ) F.LDS_ATT_REQ_scope 1).setFld (bank inst R.LDS_ATT_REQ) F.LDS_ATT_REQ_tenant (ch.tid (inst - 1))
        ((b.setFld (bank inst R.LDS_ATT_STATUS) F.LDS_ATT_STATUS_result n).setFld (bank inst R.LDS_ATT_STATUS) F.LDS_ATT_STATUS_state 0).setFlag (bank inst R.LDS_ATT_REQ) F.LDS_ATT_REQ_start false) (t.chan c) ∧
      Reported EV_LDS_ATTEST_REFUSED (t.chan c)) ∧
    ( ∀ (src : Option (Fin 17)) (v : Word) (inst : Nat), s.reaches src c R.LDS_ATT_REQ = true → writerInst src = inst →
      ch.boot.requests.contains inst = false → getF v F.LDS_ATT_REQ_start = 1 → ch.boot.nextQ < aliasLimit →
      ch.boot.stateLost = false → ch.attDestOk inst = true → ∃ t, exec (.attestRequest c src v) s = .next t ∧
      Agrees (let a : Chan := ch.wr (bank inst R.LDS_ATT_REQ) (mergeF (ch.rd (bank inst R.LDS_ATT_REQ)) v [F.LDS_ATT_REQ_scope, F.LDS_ATT_REQ_tenant])
        let b : Chan := if inst = 0 then a else (a.setFld (bank inst R.LDS_ATT_REQ) F.LDS_ATT_REQ_scope 1).setFld (bank inst R.LDS_ATT_REQ) F.LDS_ATT_REQ_tenant (ch.tid (inst - 1))
        let d : Chan := { b with boot := { b.boot with requests := ch.boot.requests ++ [inst] } }
        (d.setFlag (bank inst R.LDS_ATT_REQ) F.LDS_ATT_REQ_start true).setFld (bank inst R.LDS_ATT_STATUS) F.LDS_ATT_STATUS_state 1) (t.chan c)) ∧
    ( ch.attDue = false ∨ ch.boot.requests = [] → ∃ t, exec (.attestRelease c) s = .next t ∧ Agrees (ch) (t.chan c)) ∧
    ( ∀ (inst : Nat) (rest : List Nat), ch.attDue = true → ch.boot.requests = inst :: rest → aliasLimit ≤ ch.boot.nextQ → ∃ t,
      exec (.attestRelease c) s = .next t ∧
      Agrees (Chan.attRefuse { ch with boot := { ch.boot with requests := rest } } inst 2) (t.chan c)) ∧
    ( ∀ (inst : Nat) (rest : List Nat), ch.attDue = true → ch.boot.requests = inst :: rest → ch.boot.nextQ < aliasLimit →
      ch.attDestOk inst = false → ∃ t, exec (.attestRelease c) s = .next t ∧
      Agrees (Chan.attRefuse { ch with boot := { ch.boot with requests := rest } } inst 4) (t.chan c)) ∧
    ( ∀ (inst : Nat) (rest : List Nat), ch.attDue = true → ch.boot.requests = inst :: rest → ch.boot.nextQ < aliasLimit →
      ch.attDestOk inst = true → ∃ t, exec (.attestRelease c) s = .next t ∧
      Agrees (let a : Chan := { ch with boot := { ch.boot with requests := rest } }
        let rep := a.attReport inst ch.boot.nextQ
        let out := rep ++ (a.aliasKept.getD (aliasRecord ch.idx ch.fuses.deviceId ch.ident)) ++ aliasBlock ch.idx ch.boot.nextQ ch.ident rep
        let b : Chan := (a.stateCommit ch.boot.nextQ).store 0 (ownerOf inst) ((a.stateCommit ch.boot.nextQ).fld (bank inst R.LDS_ATT_DEST) F.LDS_ATT_DEST_address) out
        let k := bank inst R.LDS_ATT_STATUS
        let d : Chan := (((b.setFld k F.LDS_ATT_STATUS_state 3).setFld k F.LDS_ATT_STATUS_result 0).setFld k F.LDS_ATT_STATUS_length out.length).setFld k F.LDS_ATT_STATUS_lms_index ch.boot.nextQ
        let e : Chan := d.setFlag (bank inst R.LDS_ATT_REQ) F.LDS_ATT_REQ_start false
        { e with boot := { e.boot with released := some ch.now, lowSaid := e.boot.lowSaid || (decide (aliasLimit - (ch.boot.nextQ + 1) < 1048576) && !e.boot.lowSaid) } }) (t.chan c) ∧
      (t.chan c).boot.nextQ = ch.boot.nextQ + 1)

/-- IDLE_ENTRY, the Idle conditions held for 64 cc, makes the state Idle; IDLE_EXIT, one failing or a timer due, makes it Run. A go
is refused with result 2 in Safe Serve and 1 during an entry; PWR_GO_RUN completes at once in Run or Idle and starts a wake in Doze
or Vault; PWR_GO_DOZE and PWR_GO_VAULT start the entry when its conditions hold. POWER_ENTRY_COMPLETE enters the state, VDD_CH at
550 mV in Vault, or refuses. DOZE_ACCESS_WAKE holds the access and starts a wake; WAKE_COMPLETE ends it in Idle, moves the timers,
restores the setpoint and serves the held accesses in their order. -/
def Obligations.PowerStates : Prop :=
  ∀ (s : State) (c : Fin 8) (ch : Chan), s.chan c = ch →
    ( ∀ (u : Nat), ch.clocked = true → ch.pwr.idleSince = some u → ch.pwrState = 0 → ch.sinceC u 64 = true → ch.idleHolds = true →
      ∃ t, exec (.idleEntry c) s = .next t ∧
      Agrees (Chan.setPwrState { ch with pwr := { ch.pwr with idleSince := none } } 1) (t.chan c)) ∧
    ( ch.isOn = true → ch.clocked = false ∨ ch.pwr.idleSince = none ∨ ch.pwrState ≠ 0 ∨ ch.idleHolds = false → ∃ t,
      exec (.idleEntry c) s = .next t ∧ Agrees (ch) (t.chan c)) ∧
    ( ∀ (u : Nat), ch.isOn = true → ch.pwr.idleSince = some u → ch.sinceC u 64 = false → ∃ t, exec (.idleEntry c) s = .next t ∧
      Agrees (ch) (t.chan c)) ∧
    ( ch.isOn = true → ch.pwrState = 1 → ch.idleHolds = false ∨ ch.timerDue = true → ∃ t, exec (.idleExit c) s = .next t ∧
      Agrees (ch.setPwrState 0) (t.chan c)) ∧
    ( ch.isOn = true → ch.pwrState = 1 → ch.idleHolds = true ∧ ch.timerDue = false → ∃ t, exec (.idleExit c) s = .next t ∧
      Agrees (ch) (t.chan c)) ∧
    ( ∀ (src : Option (Fin 17)), s.reaches src c R.PWR_CTRL = true → ch.flag R.PWR_CTRL F.PWR_CTRL_go = true → ∃ t,
      exec (.pwrGoRun c src) s = .next t ∧
      Agrees (let w := goWord 0 (ch.rd R.PWR_CTRL)
        let a : Chan := ch.wr R.PWR_CTRL (mergeF (ch.rd R.PWR_CTRL) w [F.PWR_CTRL_idle_enable, F.PWR_CTRL_target, F.PWR_CTRL_auto_restart, F.PWR_CTRL_safe_serve_limit])
        a) (t.chan c)) ∧
    ( ∀ (src : Option (Fin 17)), s.reaches src c R.PWR_CTRL = true → ch.flag R.PWR_CTRL F.PWR_CTRL_go = false →
      ch.safeServe = true ∨ ch.pwr.entering ≠ none → ∃ t, exec (.pwrGoRun c src) s = .next t ∧
      Agrees (let w := goWord 0 (ch.rd R.PWR_CTRL)
        let a : Chan := ch.wr R.PWR_CTRL (mergeF (ch.rd R.PWR_CTRL) w [F.PWR_CTRL_idle_enable, F.PWR_CTRL_target, F.PWR_CTRL_auto_restart, F.PWR_CTRL_safe_serve_limit])
        (a.setFlag R.PWR_CTRL F.PWR_CTRL_go false).setFld R.PWR_STATUS F.PWR_STATUS_last_result (if ch.safeServe then 2 else 1)) (t.chan c) ∧
      Reported EV_PWR_REFUSED (t.chan c)) ∧
    ( ∀ (src : Option (Fin 17)), s.reaches src c R.PWR_CTRL = true → ch.flag R.PWR_CTRL F.PWR_CTRL_go = false →
      ch.safeServe = false → ch.pwr.entering = none → ch.pwrState < 2 → ∃ t, exec (.pwrGoRun c src) s = .next t ∧
      Agrees (let w := goWord 0 (ch.rd R.PWR_CTRL)
        let a : Chan := ch.wr R.PWR_CTRL (mergeF (ch.rd R.PWR_CTRL) w [F.PWR_CTRL_idle_enable, F.PWR_CTRL_target, F.PWR_CTRL_auto_restart, F.PWR_CTRL_safe_serve_limit])
        (a.setFlag R.PWR_CTRL F.PWR_CTRL_go false).setFld R.PWR_STATUS F.PWR_STATUS_last_result 0) (t.chan c)) ∧
    ( ∀ (src : Option (Fin 17)), s.reaches src c R.PWR_CTRL = true → ch.flag R.PWR_CTRL F.PWR_CTRL_go = false →
      ch.safeServe = false → ch.pwr.entering = none → 2 ≤ ch.pwrState → ch.pwr.waking = none → ∃ t,
      exec (.pwrGoRun c src) s = .next t ∧
      Agrees (let w := goWord 0 (ch.rd R.PWR_CTRL)
        let a : Chan := ch.wr R.PWR_CTRL (mergeF (ch.rd R.PWR_CTRL) w [F.PWR_CTRL_idle_enable, F.PWR_CTRL_target, F.PWR_CTRL_auto_restart, F.PWR_CTRL_safe_serve_limit])
        let b : Chan := (a.setFlag R.PWR_CTRL F.PWR_CTRL_go true).setFld R.PWR_STATUS F.PWR_STATUS_last_result 0
        { b with pwr := { ch.pwr with waking := some (ch.pwrState, ch.now) } }) (t.chan c)) ∧
    ( ∀ (src : Option (Fin 17)), s.reaches src c R.PWR_CTRL = true → ch.flag R.PWR_CTRL F.PWR_CTRL_go = true → ∃ t,
      exec (.pwrGoDoze c src) s = .next t ∧
      Agrees (let w := goWord 1 (ch.rd R.PWR_CTRL)
        let a : Chan := ch.wr R.PWR_CTRL (mergeF (ch.rd R.PWR_CTRL) w [F.PWR_CTRL_idle_enable, F.PWR_CTRL_target, F.PWR_CTRL_auto_restart, F.PWR_CTRL_safe_serve_limit])
        a) (t.chan c)) ∧
    ( ∀ (src : Option (Fin 17)), s.reaches src c R.PWR_CTRL = true → ch.flag R.PWR_CTRL F.PWR_CTRL_go = false →
      ch.safeServe = true ∨ ch.pwr.entering ≠ none ∨ 2 ≤ ch.pwrState ∨ ch.sleepHolds = false → ∃ t,
      exec (.pwrGoDoze c src) s = .next t ∧
      Agrees (let w := goWord 1 (ch.rd R.PWR_CTRL)
        let a : Chan := ch.wr R.PWR_CTRL (mergeF (ch.rd R.PWR_CTRL) w [F.PWR_CTRL_idle_enable, F.PWR_CTRL_target, F.PWR_CTRL_auto_restart, F.PWR_CTRL_safe_serve_limit])
        (a.setFlag R.PWR_CTRL F.PWR_CTRL_go false).setFld R.PWR_STATUS F.PWR_STATUS_last_result (if ch.safeServe then 2 else 1)) (t.chan c) ∧
      Reported EV_PWR_REFUSED (t.chan c)) ∧
    ( ∀ (src : Option (Fin 17)), s.reaches src c R.PWR_CTRL = true → ch.flag R.PWR_CTRL F.PWR_CTRL_go = false →
      ch.safeServe = false → ch.pwr.entering = none → ch.pwrState < 2 → ch.sleepHolds = true → ∃ t,
      exec (.pwrGoDoze c src) s = .next t ∧
      Agrees (let w := goWord 1 (ch.rd R.PWR_CTRL)
        let a : Chan := ch.wr R.PWR_CTRL (mergeF (ch.rd R.PWR_CTRL) w [F.PWR_CTRL_idle_enable, F.PWR_CTRL_target, F.PWR_CTRL_auto_restart, F.PWR_CTRL_safe_serve_limit])
        let b : Chan := (a.setFlag R.PWR_CTRL F.PWR_CTRL_go true).setFld R.PWR_STATUS F.PWR_STATUS_last_result 0
        { b with pwr := { ch.pwr with entering := some (1, ch.now) } }) (t.chan c)) ∧
    ( ∀ (src : Option (Fin 17)), s.reaches src c R.PWR_CTRL = true → ch.flag R.PWR_CTRL F.PWR_CTRL_go = true → ∃ t,
      exec (.pwrGoVault c src) s = .next t ∧
      Agrees (let w := goWord 2 (ch.rd R.PWR_CTRL)
        let a : Chan := ch.wr R.PWR_CTRL (mergeF (ch.rd R.PWR_CTRL) w [F.PWR_CTRL_idle_enable, F.PWR_CTRL_target, F.PWR_CTRL_auto_restart, F.PWR_CTRL_safe_serve_limit])
        a) (t.chan c)) ∧
    ( ∀ (src : Option (Fin 17)), s.reaches src c R.PWR_CTRL = true → ch.flag R.PWR_CTRL F.PWR_CTRL_go = false →
      ch.safeServe = true ∨ ch.pwr.entering ≠ none ∨ 2 ≤ ch.pwrState ∨ ch.sleepHolds = false → ∃ t,
      exec (.pwrGoVault c src) s = .next t ∧
      Agrees (let w := goWord 2 (ch.rd R.PWR_CTRL)
        let a : Chan := ch.wr R.PWR_CTRL (mergeF (ch.rd R.PWR_CTRL) w [F.PWR_CTRL_idle_enable, F.PWR_CTRL_target, F.PWR_CTRL_auto_restart, F.PWR_CTRL_safe_serve_limit])
        (a.setFlag R.PWR_CTRL F.PWR_CTRL_go false).setFld R.PWR_STATUS F.PWR_STATUS_last_result (if ch.safeServe then 2 else 1)) (t.chan c) ∧
      Reported EV_PWR_REFUSED (t.chan c)) ∧
    ( ∀ (src : Option (Fin 17)), s.reaches src c R.PWR_CTRL = true → ch.flag R.PWR_CTRL F.PWR_CTRL_go = false →
      ch.safeServe = false → ch.pwr.entering = none → ch.pwrState < 2 → ch.sleepHolds = true → ∃ t,
      exec (.pwrGoVault c src) s = .next t ∧
      Agrees (let w := goWord 2 (ch.rd R.PWR_CTRL)
        let a : Chan := ch.wr R.PWR_CTRL (mergeF (ch.rd R.PWR_CTRL) w [F.PWR_CTRL_idle_enable, F.PWR_CTRL_target, F.PWR_CTRL_auto_restart, F.PWR_CTRL_safe_serve_limit])
        let b : Chan := (a.setFlag R.PWR_CTRL F.PWR_CTRL_go true).setFld R.PWR_STATUS F.PWR_STATUS_last_result 0
        { b with pwr := { ch.pwr with entering := some (2, ch.now) } }) (t.chan c)) ∧
    ( ∀ (g u : Nat), ch.isOn = true → ch.pwr.entering = some (g, u) → ch.sleepHolds = true → ∃ t,
      exec (.powerEntryComplete c) s = .next t ∧
      Agrees (let a : Chan := { ch with pwr := { ch.pwr with entering := none, since := ch.now, idleSince := none } }
        let b : Chan := (a.setPwrState (g + 1)).setFlag R.PWR_CTRL F.PWR_CTRL_go false
        if g = 2 then b.setFld R.PWR_STATUS F.PWR_STATUS_vdd 550 else b) (t.chan c)) ∧
    ( ∀ (g u : Nat), ch.isOn = true → ch.pwr.entering = some (g, u) → ch.sleepHolds = false → ∃ t,
      exec (.powerEntryComplete c) s = .next t ∧
      Agrees (let a : Chan := { ch with pwr := { ch.pwr with entering := none, since := ch.now, idleSince := none } }
        (a.setFlag R.PWR_CTRL F.PWR_CTRL_go false).setFld R.PWR_STATUS F.PWR_STATUS_last_result 1) (t.chan c) ∧
      Reported EV_PWR_REFUSED (t.chan c)) ∧
    ( ch.isOn = true → ch.pwr.entering = none → ∃ t, exec (.powerEntryComplete c) s = .next t ∧ Agrees (ch) (t.chan c)) ∧
    ( ∀ (inst : Fin 17) (off : Nat) (v : Option Word), ch.isOn = true → ch.fnLive inst = true → 2 ≤ ch.pwrState → ∃ t,
      exec (.dozeAccessWake c inst off v) s = .next t ∧
      Agrees ({ ch with host := { ch.host with held := ch.host.held ++ [(inst.val, off, v)] }, pwr := { ch.pwr with waking := if ch.pwr.waking.isNone then some (ch.pwrState, ch.now) else ch.pwr.waking } }) (t.chan c)) ∧
    ( ∀ (inst : Fin 17) (off : Nat) (v : Option Word), ch.isOn = true → ch.fnLive inst = false ∨ ch.pwrState < 2 → ∃ t,
      exec (.dozeAccessWake c inst off v) s = .next t ∧ Agrees (ch) (t.chan c)) ∧
    ( ∀ (w : Nat × Nat), ch.isOn = true → ch.pwr.waking = some w → ∃ t, exec (.wakeComplete c) s = .next t ∧
      Agrees (let a : Chan := ((Chan.shiftTimers { ch with pwr := { ch.pwr with waking := none } } (ch.now - ch.pwr.since)).setPwrState 1).setFlag R.PWR_CTRL F.PWR_CTRL_go false
        let b : Chan := (a.setFld R.PWR_STATUS F.PWR_STATUS_vdd a.setpoint).oppReview
        ch.host.held.foldl (fun (b : Chan) x => b.heldAccess (s.priv c) x) { b with host := { b.host with held := [] } }) (t.chan c)) ∧
    ( ch.isOn = true → ch.pwr.waking = none → ∃ t, exec (.wakeComplete c) s = .next t ∧ Agrees (ch) (t.chan c))

/-- PWR_OPP_REQUEST stores the request; with the core clock running and no change under way, a change towards the slower of request
and floor begins, a raise ramping VDD_CH first. OPP_SWITCH switches the divider after the ramp of a raise or before that of a
lowering, holding dispatch 64 cc; OPP_RAMP_COMPLETE ends a ramp after its time. THERMAL_SAMPLE, every 10 µs, stores the hottest of
four sensors and reports at 95, 100 °C, and sets the latch at 110. THROTTLE_STEP and FLOOR_RAISE_STEP move the floor one point down
or up. -/
def Obligations.OperatingPointsAndTemperature : Prop :=
  ∀ (s : State) (c : Fin 8) (ch : Chan), s.chan c = ch →
    ( ∀ (src : Option (Fin 17)) (v : Word), s.reaches src c R.PWR_OPP_REQ = true →
      ch.clocked = false ∨ ch.pwr.opp ≠ none ∨ max (getF v F.PWR_OPP_REQ_point) ch.floorPoint = ch.point → ∃ t,
      exec (.pwrOppRequest c src v) s = .next t ∧
      Agrees (ch.setFld R.PWR_OPP_REQ F.PWR_OPP_REQ_point (getF v F.PWR_OPP_REQ_point)) (t.chan c)) ∧
    ( ∀ (src : Option (Fin 17)) (v : Word) (n : Nat), s.reaches src c R.PWR_OPP_REQ = true → ch.clocked = true → ch.pwr.opp = none →
      max (getF v F.PWR_OPP_REQ_point) ch.floorPoint = n → n ≠ ch.point → ∃ t, exec (.pwrOppRequest c src v) s = .next t ∧
      Agrees (let a : Chan := ch.setFld R.PWR_OPP_REQ F.PWR_OPP_REQ_point (getF v F.PWR_OPP_REQ_point)
        Chan.setFld { a with pwr := { ch.pwr with opp := some { target := n, raising := decide (n < ch.point), at_ := ch.now } } } R.PWR_STATUS F.PWR_STATUS_vdd (Config.vdd ch.idx (min n ch.point))) (t.chan c)) ∧
    ( ∀ (o : OppChange), ch.clocked = true → ch.pwr.opp = some o → o.switched = false → o.raising = true → o.ramped = true → ∃ t,
      exec (.oppSwitch c) s = .next t ∧
      Agrees (let a : Chan := (ch.setFld R.PWR_STATUS F.PWR_STATUS_point o.target).coreNote
        let b : Chan := { a with pwr := { ch.pwr with oppHold := ch.now + ch.cc 64, opp := if o.raising then none else some { o with switched := true, at_ := ch.now } } }
        (b.setFld R.PWR_STATUS F.PWR_STATUS_vdd (Config.vdd ch.idx o.target)).oppReview) (t.chan c)) ∧
    ( ch.isOn = true → ch.clocked = false ∨ ch.pwr.opp = none → ∃ t, exec (.oppSwitch c) s = .next t ∧ Agrees (ch) (t.chan c)) ∧
    ( ∀ (o : OppChange), ch.isOn = true → ch.pwr.opp = some o → o.switched = true ∨ (o.raising = true ∧ o.ramped = false) → ∃ t,
      exec (.oppSwitch c) s = .next t ∧ Agrees (ch) (t.chan c)) ∧
    ( ∀ (o : OppChange), ch.isOn = true → ch.pwr.opp = some o → o.ramped = false → o.raising = true →
      ch.since o.at_ (ch.rampTime ch.point o.target) = true → ∃ t, exec (.oppRampComplete c) s = .next t ∧
      Agrees ({ ch with pwr := { ch.pwr with opp := some { o with ramped := true } } }) (t.chan c)) ∧
    ( ∀ (o : OppChange), ch.isOn = true → ch.pwr.opp = some o → o.ramped = false → o.raising = false → o.switched = true → ∃ t,
      exec (.oppRampComplete c) s = .next t ∧ Agrees (Chan.oppReview { ch with pwr := { ch.pwr with opp := none } }) (t.chan c)) ∧
    ( ch.isOn = true → (ch.pwr.opp.all fun o => o.ramped || (!o.raising && !o.switched) || !ch.rampDone o) = true → ∃ t,
      exec (.oppRampComplete c) s = .next t ∧ Agrees (ch) (t.chan c)) ∧
    ( ∀ (t0 t1 t2 t3 : BitVec 8) (m : Nat), ch.isOn = true → max (max t0.toNat t1.toNat) (max t2.toNat t3.toNat) = m →
      ch.since ch.pwr.sampleAt (10 * usG) = true → m < 110 → ∃ t, exec (.thermalSample c t0 t1 t2 t3) s = .next t ∧
      Agrees (let a : Chan := Chan.setFld { ch with pwr := { ch.pwr with sampleAt := ch.now, throttled := ch.pwr.throttled || decide (100 ≤ m) } } R.PWR_STATUS F.PWR_STATUS_temp m
        let due := match ch.pwr.neighTempAt with | some u => ch.since u (1000 * msG) | none => true
        let b : Chan := if ch.point = 3 ∧ 30 < a.hotterBy ∧ due = true then { a with pwr := { a.pwr with neighTempAt := some ch.now } } else a
        b) (t.chan c) ∧
      (95 ≤ m → m < 100 → ch.point ≠ 3 → Reported EV_PWR_THERMAL_WARN (t.chan c)) ∧
      (100 ≤ m → ch.point ≠ 3 → Reported EV_PWR_THROTTLE (t.chan c))) ∧
    ( ∀ (t0 t1 t2 t3 : BitVec 8) (m : Nat), ch.isOn = true → max (max t0.toNat t1.toNat) (max t2.toNat t3.toNat) = m →
      ch.since ch.pwr.sampleAt (10 * usG) = true → 110 ≤ m → ∃ t, exec (.thermalSample c t0 t1 t2 t3) s = .next t ∧
      (t.chan c).flag R.PWR_STATUS F.PWR_STATUS_fail_stop = true ∧ (t.chan c).fld R.PWR_STATUS F.PWR_STATUS_temp = m ∧
      (ch.failStopped = false → (t.chan c).fld R.PWR_STATUS F.PWR_STATUS_fail_reason = 3) ∧ (t.chan c).pwr.throttled = true) ∧
    ( ∀ (t0 t1 t2 t3 : BitVec 8) (m : Nat), ch.isOn = true → max (max t0.toNat t1.toNat) (max t2.toNat t3.toNat) = m →
      ch.since ch.pwr.sampleAt (10 * usG) = false → ∃ t, exec (.thermalSample c t0 t1 t2 t3) s = .next t ∧ Agrees (ch) (t.chan c)) ∧
    ( ch.isOn = true → 100 ≤ ch.fld R.PWR_STATUS F.PWR_STATUS_temp ∨ 30 < ch.hotterBy → ch.floorPoint < 3 →
      ch.since ch.pwr.floorAt (100 * usG) = true → ∃ t, exec (.throttleStep c) s = .next t ∧
      Agrees ((Chan.setFld { ch with pwr := { ch.pwr with floorAt := ch.now } } R.PWR_STATUS F.PWR_STATUS_floor (ch.floorPoint + 1)).oppReview) (t.chan c)) ∧
    ( ch.isOn = true →
      (ch.fld R.PWR_STATUS F.PWR_STATUS_temp < 100 ∧ ch.hotterBy ≤ 30) ∨ 3 ≤ ch.floorPoint ∨ ch.since ch.pwr.floorAt (100 * usG) = false →
      ∃ t, exec (.throttleStep c) s = .next t ∧ Agrees (ch) (t.chan c)) ∧
    ( ch.isOn = true → ch.fld R.PWR_STATUS F.PWR_STATUS_temp ≤ 95 → ch.hotterBy ≤ 25 → 0 < ch.floorPoint →
      ch.since ch.pwr.floorAt msG = true → ∃ t, exec (.floorRaiseStep c) s = .next t ∧
      Agrees ((Chan.setFld { ch with pwr := { ch.pwr with floorAt := ch.now, throttled := ch.pwr.throttled && ch.floorPoint - 1 != 0 } } R.PWR_STATUS F.PWR_STATUS_floor (ch.floorPoint - 1)).oppReview) (t.chan c)) ∧
    ( ch.isOn = true →
      95 < ch.fld R.PWR_STATUS F.PWR_STATUS_temp ∨ 25 < ch.hotterBy ∨ ch.floorPoint = 0 ∨ ch.since ch.pwr.floorAt msG = false → ∃ t,
      exec (.floorRaiseStep c) s = .next t ∧ Agrees (ch) (t.chan c))

/-- WATCH_FRAME_SEND sends the frame to both neighbours; WATCH_FRAME_RECEIVE stores what a good frame says, a bad one changes
nothing. WATCH_FRAME_MISS counts a late frame; at the threshold of its side, with its firmware running, the channel resets its
neighbour's Lodestar, or gives up after 3 resets within a second. LODESTAR_WATCHDOG, 100 µs without a frame, and LODESTAR_RESET
begin a restart and Safe Serve. LODESTAR_RESTART_COMPLETE runs the firmware if the hash matches, else the Lodestar stops.
SAFE_SERVE_END, once it runs, ends Safe Serve: pending remaps complete, the sweeps start afresh, failed slots contribute again, and
members that missed a vote rejoin. -/
def Obligations.WatchAndLodestar : Prop :=
  ∀ (s : State) (c : Fin 8) (ch : Chan), s.chan c = ch →
    ( ch.isOn = true → ch.since ch.pwr.frameAt (9600 * nsG) = true → ∃ t, exec (.watchFrameSend c) s = .next t ∧
      Agrees ({ ch with pwr := { ch.pwr with frameAt := ch.now, watchdogAt := ch.now, frameSeq := (ch.pwr.frameSeq + 1) % 256, framesOut := (false, ch.watchFrame) :: (true, ch.watchFrame) :: ch.pwr.framesOut } }) (t.chan c)) ∧
    ( ch.isOn = true → ch.since ch.pwr.frameAt (9600 * nsG) = false → ∃ t, exec (.watchFrameSend c) s = .next t ∧
      Agrees (ch) (t.chan c)) ∧
    ( ∀ (next : Bool) (f : BitVec 64), ch.isOn = true → frameOk f.toNat = false → ∃ t,
      exec (.watchFrameReceive c next f) s = .next t ∧ Agrees (ch) (t.chan c)) ∧
    ( ∀ (next : Bool) (f : BitVec 64) (n : Neighbour), ch.isOn = true → frameOk f.toNat = true →
      { lastAt := ch.now, misses := 0, seqNo := (f.extractLsb' 48 8).toNat, absent := f.getLsbD 47, powered := !f.getLsbD 47, temp := (f.extractLsb' 32 8).toNat, tempValid := true, point := (f.extractLsb' 43 2).toNat, vdd := (f.extractLsb' 22 10).toNat, safeServe := f.getLsbD 42, failStop := f.getLsbD 41, restarting := f.getLsbD 40, resets := (ch.neighbour next).resets } = n →
      ∃ t, exec (.watchFrameReceive c next f) s = .next t ∧
      Agrees (let a : Chan := (ch.setNeighbour next n).setFld R.LDS_WATCH_STATUS (if next then F.LDS_WATCH_STATUS_next else F.LDS_WATCH_STATUS_prev) (if f.getLsbD 47 then 3 else 0)
        a.setFld R.PWR_STATUS (if next then F.PWR_STATUS_temp_next else F.PWR_STATUS_temp_prev) n.temp) (t.chan c)) ∧
    ( ∀ (next : Bool) (n : Neighbour), ch.neighbour next = n →
      ch.isOn = false ∨ n.absent = true ∨ ch.since n.lastAt ((n.misses + 1) * 10 * usG + 800 * nsG) = false → ∃ t,
      exec (.watchFrameMiss c next) s = .next t ∧ Agrees (ch) (t.chan c)) ∧
    ( ∀ (next : Bool) (n : Neighbour), ch.neighbour next = n → ch.isOn = true → n.absent = false →
      ch.since n.lastAt ((n.misses + 1) * 10 * usG + 800 * nsG) = true →
      ch.pwr.lodestar ≠ .running ∨ n.misses + 1 < (if next then 3 else 6) → ∃ t, exec (.watchFrameMiss c next) s = .next t ∧
      Agrees (let a : Chan := ch.setNeighbour next { n with misses := n.misses + 1 }
        let b : Chan := if ch.fld R.LDS_WATCH_STATUS (if next then F.LDS_WATCH_STATUS_next else F.LDS_WATCH_STATUS_prev) = 4 then a else a.setFld R.LDS_WATCH_STATUS (if next then F.LDS_WATCH_STATUS_next else F.LDS_WATCH_STATUS_prev) 1
        b) (t.chan c)) ∧
    ( ∀ (next : Bool) (n : Neighbour) (d : Fin 8), ch.neighbour next = n → ch.isOn = true → n.absent = false →
      ch.since n.lastAt ((n.misses + 1) * 10 * usG + 800 * nsG) = true → ch.pwr.lodestar = .running →
      (if next then 3 else 6) ≤ n.misses + 1 → (if next then c + 1 else c - 1) = d → (s.chan d).pwr.power ≠ .on →
      (s.chan d).pwr.power ≠ .ramping → ∃ t, exec (.watchFrameMiss c next) s = .next t ∧
      Agrees (let a : Chan := ch.setNeighbour next { n with misses := n.misses + 1 }
        let b : Chan := if ch.fld R.LDS_WATCH_STATUS (if next then F.LDS_WATCH_STATUS_next else F.LDS_WATCH_STATUS_prev) = 4 then a else a.setFld R.LDS_WATCH_STATUS (if next then F.LDS_WATCH_STATUS_next else F.LDS_WATCH_STATUS_prev) 1
        b) (t.chan c)) ∧
    ( ∀ (next : Bool) (n : Neighbour) (d : Fin 8), ch.neighbour next = n → ch.isOn = true → n.absent = false →
      ch.since n.lastAt ((n.misses + 1) * 10 * usG + 800 * nsG) = true → ch.pwr.lodestar = .running →
      (if next then 3 else 6) ≤ n.misses + 1 → (if next then c + 1 else c - 1) = d →
      (s.chan d).pwr.power = .on ∨ (s.chan d).pwr.power = .ramping →
      (n.resets.filter fun u => decide (ch.now < u + 1000 * msG)).length < 3 → ch.toHub = [] → ∃ t,
      exec (.watchFrameMiss c next) s = .next t ∧
      Agrees (let b : Chan := ch.setNeighbour next { n with misses := 0, lastAt := ch.now, resets := ch.now :: n.resets.filter fun u => decide (ch.now < u + 1000 * msG) }
        let d : Chan := b.setFld R.LDS_WATCH_STATUS (if next then F.LDS_WATCH_STATUS_next else F.LDS_WATCH_STATUS_prev) 2
        let e : Chan := d.setFld R.LDS_WATCH_STATUS F.LDS_WATCH_STATUS_resets_issued (min 255 (ch.fld R.LDS_WATCH_STATUS F.LDS_WATCH_STATUS_resets_issued + 1))
        { e with pwr := { e.pwr with resetsOut := (ch.idx.val + if next then 1 else 7) % 8 :: ch.pwr.resetsOut } }) (t.chan c) ∧
      Reported EV_LDS_NEIGHBOUR_RESET (t.chan c) ∧ Agrees (s.chan d).lodestarReset (t.chan d)) ∧
    ( ∀ (next : Bool) (n : Neighbour) (d : Fin 8), ch.neighbour next = n → ch.isOn = true → n.absent = false →
      ch.since n.lastAt ((n.misses + 1) * 10 * usG + 800 * nsG) = true → ch.pwr.lodestar = .running →
      (if next then 3 else 6) ≤ n.misses + 1 → (if next then c + 1 else c - 1) = d →
      (s.chan d).pwr.power = .on ∨ (s.chan d).pwr.power = .ramping →
      3 ≤ (n.resets.filter fun u => decide (ch.now < u + 1000 * msG)).length → ∃ t, exec (.watchFrameMiss c next) s = .next t ∧
      Agrees ((ch.setNeighbour next { n with misses := 0, lastAt := ch.now, resets := n.resets.filter fun u => decide (ch.now < u + 1000 * msG) }).setFld R.LDS_WATCH_STATUS (if next then F.LDS_WATCH_STATUS_next else F.LDS_WATCH_STATUS_prev) 4) (t.chan c) ∧
      Reported EV_LDS_RESTART_FAILED (t.chan c)) ∧
    ( ch.isOn = true → ∃ t, exec (.lodestarReset c) s = .next t ∧
      Agrees (Chan.safeEnter { ch with pwr := { ch.pwr with lodestar := .restarting, lodestarAt := ch.now, watchdogAt := ch.now } }) (t.chan c) ∧
      (t.chan c).safeServe = true ∧ (t.chan c).pwr.lodestar = .restarting ∧
      (ch.safeServe = true → Agrees { ch with pwr := { ch.pwr with lodestar := .restarting, lodestarAt := ch.now, watchdogAt := ch.now } } (t.chan c)) ∧
      (ch.safeServe = false → (t.chan c).pwr.safeSince = some ch.now)) ∧
    ( ch.isOn = true → ch.since ch.pwr.watchdogAt (100 * usG) = true → ∃ t, exec (.lodestarWatchdog c) s = .next t ∧
      Agrees (Chan.safeEnter { ch with pwr := { ch.pwr with lodestar := .restarting, lodestarAt := ch.now, watchdogAt := ch.now } }) (t.chan c) ∧
      (t.chan c).safeServe = true ∧ (t.chan c).pwr.lodestar = .restarting) ∧
    ( ch.isOn = true → ch.since ch.pwr.watchdogAt (100 * usG) = false → ∃ t, exec (.lodestarWatchdog c) s = .next t ∧
      Agrees (ch) (t.chan c)) ∧
    ( ∀ (fs : List (Nat × Byte)) (fw : List Byte), ch.isOn = true → ch.pwr.lodestar = .restarting → upset ch.pwr.fw fs = fw → ∃ t,
      exec (.lodestarRestartComplete c fs) s = .next t ∧
      Agrees (let a : Chan := { ch with pwr := { ch.pwr with fw := fw, lodestar := if sha384 fw = ch.pwr.fwHash then .running else .stopped } }
        if sha384 fw = ch.pwr.fwHash then a.setFld R.LDS_WATCH_STATUS F.LDS_WATCH_STATUS_restarts (min 255 (ch.fld R.LDS_WATCH_STATUS F.LDS_WATCH_STATUS_restarts + 1)) else a) (t.chan c) ∧
      (sha384 fw = ch.pwr.fwHash → Reported EV_LDS_RESTARTED (t.chan c))) ∧
    ( ∀ (fs : List (Nat × Byte)), ch.isOn = true → ch.pwr.lodestar ≠ .restarting → ∃ t,
      exec (.lodestarRestartComplete c fs) s = .next t ∧ Agrees (ch) (t.chan c)) ∧
    ( ch.isOn = true → ch.safeServe = true → ch.pwr.lodestar = .running → ∃ t, exec (.safeServeEnd c) s = .next t ∧
      Agrees (let a : Chan := { ch.setFlag R.PWR_STATUS F.PWR_STATUS_safe_serve false with pwr := { ch.pwr with safeSince := none } }
        let b : Chan := (List.range (ch.chk.remaps.length + ch.chk.rebuilds.length)).foldl (fun (b : Chan) _ => (b.remapStep b.chk.remaps).rebuildStep) a
        let d : Chan := Chan.trnReturn { b with chk := { b.chk with sweep := none, muted := [], scrubAt := b.now, scrubPos := 0, scrubEns := b.validEns } }
        if d.pwr.declareWait then d.hangDeclare else d) (t.chan c) ∧
      Reported EV_LDS_SAFE_SERVE_END (t.chan c) ∧ (ch.pwr.declareWait = false → (t.chan c).safeServe = false)) ∧
    ( ch.isOn = true → ch.safeServe = false ∨ ch.pwr.lodestar ≠ .running → ∃ t, exec (.safeServeEnd c) s = .next t ∧
      Agrees (ch) (t.chan c))

/-- DISPATCH_STALL with a waiting descriptor and 25 ac of counted cycles without dispatch, SAFE_SERVE_TIMEOUT after safe_serve_limit
ms, VDD_CH_FAULT outside a ramp, CORE_PLL_UNLOCK with the clock running, and LODESTAR_FAIL_DECLARE set the latch with reasons 1, 2,
4, 5 and 6: the fail pin is asserted, the channel frozen, its descriptor port DOWN and its Zorbex ports DISABLED, with
EV_PWR_FAIL_STOP; a set latch is not set again. The latch notes whether auto_restart is set and fewer than three automatic restarts
lie in the hour; AUTO_RESTART, then due and run by the channel's or a neighbour's Lodestar, resets the channel and counts. -/
def Obligations.FailStopsAndRestarts : Prop :=
  ∀ (s : State) (c : Fin 8) (ch : Chan), s.chan c = ch →
    ( ch.isOn = true → ch.failStopped = false → ch.port.carafe ≠ [] → ch.stallExempt = false →
      ch.since ch.stallStart (25 * acG) = true → ∃ t, exec (.dispatchStall c) s = .next t ∧ Agrees (ch.failStop 1) (t.chan c) ∧
      (t.chan c).failStopped = true ∧ (t.chan c).fld R.PWR_STATUS F.PWR_STATUS_fail_reason = 1 ∧ (t.chan c).pwr.failPin = true ∧
      (t.chan c).pwr.latchAt = ch.now ∧
      (t.chan c).pwr.latchAuto = (ch.flag R.PWR_CTRL F.PWR_CTRL_auto_restart && decide (ch.restartsNow.length < 3)) ∧
      (t.chan c).frozen = true ∧ (t.chan c).linkState = (if ch.linkState = 0 then 0 else 4) ∧
      ∀ p : Nat, p < 3 → (t.chan c).zState p = 0 ∧ Reported EV_PWR_FAIL_STOP (t.chan c)) ∧
    ( ch.isOn = true → ch.port.carafe = [] ∨ ch.stallExempt = true ∨ ch.since ch.stallStart (25 * acG) = false → ∃ t,
      exec (.dispatchStall c) s = .next t ∧ Agrees (ch) (t.chan c)) ∧
    ( ∀ (u : Nat), ch.isOn = true → ch.failStopped = false → ch.pwr.safeSince = some u →
      ch.fld R.PWR_CTRL F.PWR_CTRL_safe_serve_limit ≠ 0 → ch.since u (ch.fld R.PWR_CTRL F.PWR_CTRL_safe_serve_limit * msG) = true →
      ∃ t, exec (.safeServeTimeout c) s = .next t ∧ Agrees (ch.failStop 2) (t.chan c) ∧ (t.chan c).failStopped = true ∧
      (t.chan c).fld R.PWR_STATUS F.PWR_STATUS_fail_reason = 2 ∧ (t.chan c).pwr.failPin = true ∧ (t.chan c).pwr.latchAt = ch.now ∧
      (t.chan c).pwr.latchAuto = (ch.flag R.PWR_CTRL F.PWR_CTRL_auto_restart && decide (ch.restartsNow.length < 3)) ∧
      (t.chan c).frozen = true ∧ (t.chan c).linkState = (if ch.linkState = 0 then 0 else 4) ∧
      ∀ p : Nat, p < 3 → (t.chan c).zState p = 0 ∧ Reported EV_PWR_FAIL_STOP (t.chan c)) ∧
    ( ch.isOn = true →
      ch.fld R.PWR_CTRL F.PWR_CTRL_safe_serve_limit = 0 ∨ (ch.pwr.safeSince.all fun u => !ch.since u (ch.fld R.PWR_CTRL F.PWR_CTRL_safe_serve_limit * msG)) = true →
      ∃ t, exec (.safeServeTimeout c) s = .next t ∧ Agrees (ch) (t.chan c)) ∧
    ( ch.isOn = true → ch.failStopped = false →
      (match ch.pwr.opp with | some o => if o.raising then !o.ramped else o.switched | none => ch.pwr.waking.isSome || ch.pwr.entering.isSome) = false →
      ∃ t, exec (.vddChFault c) s = .next t ∧ Agrees (ch.failStop 4) (t.chan c) ∧ (t.chan c).failStopped = true ∧
      (t.chan c).fld R.PWR_STATUS F.PWR_STATUS_fail_reason = 4 ∧ (t.chan c).pwr.failPin = true ∧ (t.chan c).pwr.latchAt = ch.now ∧
      (t.chan c).pwr.latchAuto = (ch.flag R.PWR_CTRL F.PWR_CTRL_auto_restart && decide (ch.restartsNow.length < 3)) ∧
      (t.chan c).frozen = true ∧ (t.chan c).linkState = (if ch.linkState = 0 then 0 else 4) ∧
      ∀ p : Nat, p < 3 → (t.chan c).zState p = 0 ∧ Reported EV_PWR_FAIL_STOP (t.chan c)) ∧
    ( ch.isOn = true →
      (match ch.pwr.opp with | some o => if o.raising then !o.ramped else o.switched | none => ch.pwr.waking.isSome || ch.pwr.entering.isSome) = true →
      ∃ t, exec (.vddChFault c) s = .next t ∧ Agrees (ch) (t.chan c)) ∧
    ( ch.clocked = true → ch.failStopped = false → ∃ t, exec (.corePllUnlock c) s = .next t ∧ Agrees (ch.failStop 5) (t.chan c) ∧
      (t.chan c).failStopped = true ∧ (t.chan c).fld R.PWR_STATUS F.PWR_STATUS_fail_reason = 5 ∧ (t.chan c).pwr.failPin = true ∧
      (t.chan c).pwr.latchAt = ch.now ∧
      (t.chan c).pwr.latchAuto = (ch.flag R.PWR_CTRL F.PWR_CTRL_auto_restart && decide (ch.restartsNow.length < 3)) ∧
      (t.chan c).frozen = true ∧ (t.chan c).linkState = (if ch.linkState = 0 then 0 else 4) ∧
      ∀ p : Nat, p < 3 → (t.chan c).zState p = 0 ∧ Reported EV_PWR_FAIL_STOP (t.chan c)) ∧
    ( ch.isOn = true → ch.clocked = false → ∃ t, exec (.corePllUnlock c) s = .next t ∧ Agrees (ch) (t.chan c)) ∧
    ( ch.isOn = true → ch.failStopped = false → ch.pwr.lodestar = .running → ∃ t, exec (.lodestarFailDeclare c) s = .next t ∧
      Agrees (ch.failStop 6) (t.chan c) ∧ (t.chan c).failStopped = true ∧ (t.chan c).fld R.PWR_STATUS F.PWR_STATUS_fail_reason = 6 ∧
      (t.chan c).pwr.failPin = true ∧ (t.chan c).pwr.latchAt = ch.now ∧
      (t.chan c).pwr.latchAuto = (ch.flag R.PWR_CTRL F.PWR_CTRL_auto_restart && decide (ch.restartsNow.length < 3)) ∧
      (t.chan c).frozen = true ∧ (t.chan c).linkState = (if ch.linkState = 0 then 0 else 4) ∧
      ∀ p : Nat, p < 3 → (t.chan c).zState p = 0 ∧ Reported EV_PWR_FAIL_STOP (t.chan c)) ∧
    ( ch.isOn = true → ch.pwr.lodestar ≠ .running → ∃ t, exec (.lodestarFailDeclare c) s = .next t ∧ Agrees (ch) (t.chan c)) ∧
    ( ∀ (i : Instr), ch.isOn = true → ch.failStopped = true →
      i = .dispatchStall c ∨ i = .safeServeTimeout c ∨ i = .vddChFault c ∨ i = .corePllUnlock c ∨ i = .lodestarFailDeclare c → ∃ t,
      exec (i) s = .next t ∧ Agrees (ch) (t.chan c)) ∧
    ( ∀ (own prev next : Bool), s.hubRuns = true → s.pack.suspended = false →
      ((s.chan (c)).isOn && (s.chan (c)).pwr.lodestar == .running) = own →
      ((s.chan (c - 1)).isOn && (s.chan (c - 1)).pwr.lodestar == .running) = prev →
      ((s.chan (c + 1)).isOn && (s.chan (c + 1)).pwr.lodestar == .running) = next →
      ch.autoDue ((if own || prev then 10 else 40) * usG) = true → (own || prev || next) = true → ∃ t,
      exec (.autoRestart c) s = .next t ∧
      Agrees (let a : Chan := ch.flashSpoilt
        Chan.reset { a with pwr := { a.pwr with autoRestarts := ch.now :: ch.restartsNow } }) (t.chan c) ∧
      (t.chan c).pwr.power = .inReset ∧ (t.chan c).pwr.autoRestarts = ch.now :: ch.restartsNow ∧
      Reported EV_PWR_AUTO_RESTART (t.chan c)) ∧
    ( ∀ (own prev next : Bool), s.hubRuns = true → ((s.chan (c)).isOn && (s.chan (c)).pwr.lodestar == .running) = own →
      ((s.chan (c - 1)).isOn && (s.chan (c - 1)).pwr.lodestar == .running) = prev →
      ((s.chan (c + 1)).isOn && (s.chan (c + 1)).pwr.lodestar == .running) = next →
      s.pack.suspended = true ∨ ch.autoDue ((if own || prev then 10 else 40) * usG) = false ∨ (own || prev || next) = false → ∃ t,
      exec (.autoRestart c) s = .next t ∧ t = s)

/-- PACKAGE_POWER_ON from PORN low or no power starts the hub die with every channel Off and waiting for its ramp; PORN_LOW loses
everything but flash, fuses and the TAP's state. CHANNEL_POWER_ON queues the ramp of an Off channel, CHANNEL_POWER_OFF takes any
other to Off, CHANNEL_RESET resets a powered one, others give result 1. CHANNEL_RAMP_START, c × 100 µs after PORN rises and no other
ramping, starts the ramp, or leaves the channel Off without its reference. -/
def Obligations.SupplyAndChannelPower : Prop :=
  ∀ (s : State) (c : Fin 8) (ch : Chan), s.chan c = ch →
    ( s.pack.porn = true ∨ s.pack.unpowered = true → ∀ d : Fin 8, (s.chan d).toHub = [] → ∃ t, exec (.packagePowerOn) s = .next t ∧
      ∀ d : Fin 8, t.chan d = (let a : Chan := { (s.chan d).flashSpoilt.off with host := {} }
        { a with sid := { at_ := a.now }, pwr := { a.pwr with since := a.now } }) ∧
      (t.hub = { now := s.hub.now, ev := { out := (s.hub.ev.out) } }) ∧ t.hubRuns = true ∧ t.pack.released = s.hub.now ∧
      t.pack.ramping = none ∧ t.pack.suspended = false ∧ t.pack.drive = 0 ∧
      t.pack.ir = (if s.pack.unpowered then .bypass else s.pack.ir)) ∧
    ( s.pack.porn = false → s.pack.unpowered = false → ∃ t, exec (.packagePowerOn) s = .next t ∧ t = s) ∧
    ( s.pack.porn = false → ∀ d : Fin 8, (s.chan d).toHub = [] → ∃ t, exec (.pornLow) s = .next t ∧
      ∀ d : Fin 8, t.chan d = { (s.chan d).flashSpoilt.off with host := {} } ∧
      (t.hub = { now := s.hub.now, ev := { out := (s.hub.ev.out) } }) ∧ t.pack.porn = true ∧ t.pack.ir = s.pack.ir ∧
      t.pack.boundary = s.pack.boundary ∧ t.pack.drive = t.pack.driven ∧ t.hubRuns = false) ∧
    ( s.pack.porn = true → ∃ t, exec (.pornLow) s = .next t ∧ t = s) ∧
    ( s.hubRuns = true → s.hub.flag (R.SUP_CHN_CTRL c) F.SUP_CHN_CTRL_power_on = false → ch.pwr.power = .off → ∃ t,
      exec (.channelPowerOn c) s = .next t ∧ t.chans = s.chans ∧ t.hub.flag (R.SUP_CHN_CTRL c) F.SUP_CHN_CTRL_power_on = true ∧
      t.hub.fld (R.SUP_CHN_CTRL c) F.SUP_CHN_CTRL_result = 0 ∧ t.hub.ramps.contains c.val = true ∧
      ∀ n : Nat, n ≠ c.val → t.hub.ramps.contains n = s.hub.ramps.contains n) ∧
    ( s.hubRuns = true → s.hub.flag (R.SUP_CHN_CTRL c) F.SUP_CHN_CTRL_power_on = false → ch.pwr.power ≠ .off → ∃ t,
      exec (.channelPowerOn c) s = .next t ∧ t.chans = s.chans ∧ t.hub.ramps = s.hub.ramps ∧
      t.hub.fld (R.SUP_CHN_CTRL c) F.SUP_CHN_CTRL_result = 1) ∧
    ( s.hubRuns = true → s.hub.flag (R.SUP_CHN_CTRL c) F.SUP_CHN_CTRL_power_on = true → ∃ t, exec (.channelPowerOn c) s = .next t ∧
      t = s) ∧
    ( s.hubRuns = true → ch.pwr.power ≠ .off → ∃ t, exec (.channelPowerOff c) s = .next t ∧ Agrees (ch.flashSpoilt.off) (t.chan c) ∧
      (t.chan c).pwr.power = .off ∧ t.hub.fld (R.SUP_CHN_CTRL c) F.SUP_CHN_CTRL_result = 0 ∧
      t.hub.flag (R.SUP_CHN_CTRL c) F.SUP_CHN_CTRL_power_on = false ∧ t.hub.flag (R.SUP_CHN_CTRL c) F.SUP_CHN_CTRL_reset = false ∧
      t.pack.ramping = (if s.pack.ramping = some c.val then none else s.pack.ramping) ∧
      t.hub.program = (if s.hub.program = some c.val then none else s.hub.program) ∧
      ((t.chan c).dimmPin 0 = false ∧ (t.chan c).dimmPin 1 = false)) ∧
    ( s.hubRuns = true → ch.pwr.power = .off → ∃ t, exec (.channelPowerOff c) s = .next t ∧ t.chans = s.chans ∧
      t.hub.fld (R.SUP_CHN_CTRL c) F.SUP_CHN_CTRL_result = 1) ∧
    ( s.hubRuns = true → s.hub.flag (R.SUP_CHN_CTRL c) F.SUP_CHN_CTRL_reset = false → ch.isOn = true → ∃ t,
      exec (.channelReset c) s = .next t ∧ Agrees (ch.flashSpoilt.reset) (t.chan c) ∧ (t.chan c).pwr.power = .inReset ∧
      t.hub.fld (R.SUP_CHN_CTRL c) F.SUP_CHN_CTRL_result = 0 ∧ t.hub.flag (R.SUP_CHN_CTRL c) F.SUP_CHN_CTRL_reset = true ∧
      ((t.chan c).dimmPin 0 = false ∧ (t.chan c).dimmPin 1 = false)) ∧
    ( s.hubRuns = true → s.hub.flag (R.SUP_CHN_CTRL c) F.SUP_CHN_CTRL_reset = false → ch.isOn = false → ∃ t,
      exec (.channelReset c) s = .next t ∧ t.chans = s.chans ∧ t.hub.fld (R.SUP_CHN_CTRL c) F.SUP_CHN_CTRL_result = 1) ∧
    ( s.hubRuns = true → s.hub.flag (R.SUP_CHN_CTRL c) F.SUP_CHN_CTRL_reset = true → ∃ t, exec (.channelReset c) s = .next t ∧
      t = s) ∧
    ( s.hubRuns = true → s.hub.ramps.contains c.val = true → ch.pwr.power = .off → s.pack.ramping = none →
      s.pack.released + c.val * 100 * usG ≤ s.hub.now → ∃ t, exec (.channelRampStart c true) s = .next t ∧
      Agrees (Chan.setFld { ch with sid := if s.pack.released < ch.pwr.since then { at_ := ch.now } else ch.sid, pwr := { ch.pwr with power := .ramping, since := ch.now } } R.PWR_STATUS F.PWR_STATUS_vdd (Config.vdd ch.idx 0)) (t.chan c) ∧
      t.pack.ramping = some c.val ∧ t.hub.ramps.contains c.val = false) ∧
    ( s.hubRuns = true → s.hub.ramps.contains c.val = true → ch.pwr.power = .off → s.pack.ramping = none →
      s.pack.released + c.val * 100 * usG ≤ s.hub.now → ∃ t, exec (.channelRampStart c false) s = .next t ∧ t.chans = s.chans ∧
      t.hub.ramps.contains c.val = false ∧ t.hub.flag (R.SUP_CHN_CTRL c) F.SUP_CHN_CTRL_power_on = false ∧ t.pack = s.pack) ∧
    ( ∀ (ref : Bool), s.hubRuns = true →
      s.hub.ramps.contains c.val = false ∨ ch.pwr.power ≠ .off ∨ s.pack.ramping ≠ none ∨ s.hub.now < s.pack.released + c.val * 100 * usG →
      ∃ t, exec (.channelRampStart c ref) s = .next t ∧ t = s)

/-- TOD_MESSAGE, good and ended 100 ms to 900 ms after an edge, announces the time of the next edge; any other raises
EV_LDS_TOD_BAD. PPS_EDGE without an announcement is only noted; with one, a channel whose links are all DISABLED steps its counter
to the announced second, any other slews: its rate changes by at most 200 ppm so that the error vanishes within a second, and an
error above 1 µs raises EV_LDS_TIME_STEP_DENIED. The edge after a loss raises EV_LDS_PPS_OK; PPS_LOST, 1.5 s after the last accepted
edge, raises EV_LDS_PPS_LOST. -/
def Obligations.TimeOfDayAndPps : Prop :=
  ∀ (s : State) (c : Fin 8) (ch : Chan), s.chan c = ch →
    ( ∀ (b : List Byte) (u n : Nat), ch.isOn = true → ch.sid.lastEdge = some u → u + 100 * msG ≤ ch.now → ch.now ≤ u + 900 * msG →
      todSeconds b = some n → ∃ t, exec (.todMessage c b) s = .next t ∧
      Agrees ({ ch with sid := { ch.sid with announced := some n } }) (t.chan c)) ∧
    ( ∀ (b : List Byte), ch.isOn = true →
      todSeconds b = none ∨ (ch.sid.lastEdge.all fun u => decide (ch.now < u + 100 * msG ∨ u + 900 * msG < ch.now)) = true → ∃ t,
      exec (.todMessage c b) s = .next t ∧ Agrees (ch) (t.chan c) ∧ Reported EV_LDS_TOD_BAD (t.chan c)) ∧
    ( ch.isOn = true → ch.sid.announced = none → ∃ t, exec (.ppsEdge c) s = .next t ∧
      Agrees ({ ch with sid := { ch.sid with lastEdge := some ch.now } }) (t.chan c)) ∧
    ( ∀ (n : Nat), ch.isOn = true → ch.sid.announced = some n → ch.linkState = 0 → ∀ p : Nat, p < 3 → ch.zState p = 0 → ∃ t,
      exec (.ppsEdge c) s = .next t ∧
      Agrees ({ ch with sid := { units := n * 1000000000 * 63000000000, at_ := ch.now, rate := 1000000000, announced := none, lastEdge := some ch.now, lastGood := some ch.now, lost := false } }) (t.chan c) ∧
      (t.chan c).ns = n * 1000000000 ∧ (ch.sid.lost = true → Reported EV_LDS_PPS_OK (t.chan c))) ∧
    ( ∀ (n : Nat) (e : Int), ch.isOn = true → ch.sid.announced = some n →
      ch.linkState ≠ 0 ∨ ch.zState 0 ≠ 0 ∨ ch.zState 1 ≠ 0 ∨ ch.zState 2 ≠ 0 →
      ((ch.sid.unitsAt ch.now / 63000000000 : Nat) : Int) - ((n * 1000000000 : Nat) : Int) = e → e.natAbs ≤ 1000 → ∃ t,
      exec (.ppsEdge c) s = .next t ∧
      Agrees ({ ch with sid := { units := (ch.sid.unitsAt ch.now), at_ := ch.now, rate := (1000000000 - e).toNat, announced := none, lastEdge := some ch.now, lastGood := some ch.now, lost := false } }) (t.chan c) ∧
      (ch.sid.lost = true → Reported EV_LDS_PPS_OK (t.chan c))) ∧
    ( ∀ (n : Nat) (e : Int), ch.isOn = true → ch.sid.announced = some n →
      ch.linkState ≠ 0 ∨ ch.zState 0 ≠ 0 ∨ ch.zState 1 ≠ 0 ∨ ch.zState 2 ≠ 0 →
      ((ch.sid.unitsAt ch.now / 63000000000 : Nat) : Int) - ((n * 1000000000 : Nat) : Int) = e → 1000 < e.natAbs → ∃ t,
      exec (.ppsEdge c) s = .next t ∧
      Agrees ({ ch with sid := { units := (ch.sid.unitsAt ch.now), at_ := ch.now, rate := (1000000000 - max (-200000) (min 200000 e)).toNat, announced := none, lastEdge := some ch.now, lastGood := some ch.now, lost := false } }) (t.chan c) ∧
      (ch.sid.lost = false → Reported EV_LDS_TIME_STEP_DENIED (t.chan c)) ∧
      (ch.sid.lost = true → Reported EV_LDS_PPS_OK (t.chan c))) ∧
    ( ∀ (u : Nat), ch.isOn = true → ch.sid.lastGood = some u → ch.sid.lost = false → ch.since u (1500 * msG) = true → ∃ t,
      exec (.ppsLost c) s = .next t ∧ Agrees ({ ch with sid := { ch.sid with lost := true } }) (t.chan c) ∧
      Reported EV_LDS_PPS_LOST (t.chan c)) ∧
    ( ch.isOn = true → ch.sid.lost = true ∨ (ch.sid.lastGood.all fun u => !ch.since u (1500 * msG)) = true → ∃ t,
      exec (.ppsLost c) s = .next t ∧ Agrees (ch) (t.chan c))

/-- EXTEST, EXTEST_PULSE, EXTEST_TRAIN, CLAMP, HIGHZ and BYPASS are selected while the device is powered; the first five drive the
pins only while PORN is low. SAMPLE_PRELOAD captures the pins and loads the boundary register. TAP_RESET selects BYPASS. None of
them touches a channel or the hub die; without power a selection has no effect. -/
def Obligations.TestPort : Prop :=
  ∀ (s : State),
    ( ∀ (i : Instr) (ir : TapIr) (n : Nat), s.pack.unpowered = false →
      (i = .extest ∧ ir = .extest ∧ n = 1) ∨ (i = .extestPulse ∧ ir = .extestPulse ∧ n = 2) ∨ (i = .extestTrain ∧ ir = .extestTrain ∧ n = 3) ∨ (i = .clamp ∧ ir = .clamp ∧ n = 4) ∨ (i = .highz ∧ ir = .highz ∧ n = 5) ∨ (i = .bypass ∧ ir = .bypass ∧ n = 0) →
      ∃ t, exec (i) s = .next t ∧ (t = { s with pack := { s.pack with ir := ir, drive := if s.pack.porn then n else 0 } })) ∧
    ( ∀ (i : Instr), s.pack.unpowered = true →
      i = .extest ∨ i = .extestPulse ∨ i = .extestTrain ∨ i = .clamp ∨ i = .highz ∨ i = .bypass → ∃ t, exec (i) s = .next t ∧
      t = s) ∧
    ( ∀ (a b : List Bool), s.pack.unpowered = true → ∃ t, exec (.samplePreload a b) s = .next t ∧ t = s) ∧
    ( ∀ (a b : List Bool), s.pack.unpowered = false → ∃ t, exec (.samplePreload a b) s = .next t ∧
      (t = { s with pack := { s.pack with ir := .sample, boundary := b, pins := a, drive := 0 } })) ∧
    ( ∃ t, exec (.tapReset) s = .next t ∧ (t = { s with pack := { s.pack with ir := .bypass, bypass := false, drive := 0 } }))

/-- OBS_FREEZE freezes a channel that is not frozen: the register values and stall counts of this edge are kept, cause and time
shown, the freeze counted and reported; on a frozen one it has no effect. OBS_UNFREEZE makes the live values readable, OBS_ARM arms,
and TIMED_FREEZE freezes once the armed time has come, clearing arm. SUP_FREEZE stores the mask and follow_fail and freezes every
channel of the mask that is powered and out of reset; SUP_UNFREEZE unfreezes them. OBS_MARKER_WRITE stores the value and, with
tracing on, writes a MARKER record. -/
def Obligations.FreezesAndMarkers : Prop :=
  ∀ (s : State) (c : Fin 8) (ch : Chan), s.chan c = ch →
    ( ∀ (src : Option (Fin 17)), s.reaches src c R.OBS_FREEZE = true → ch.frozen = false → ∃ t,
      exec (.obsFreeze c src) s = .next t ∧ Agrees (ch) (t.chan c) ∧ (t.chan c).frozen = true ∧
      (t.chan c).fld R.OBS_FREEZE F.OBS_FREEZE_cause = FreezeCause.host.code ∧
      (t.chan c).rd R.OBS_FREEZE_TIME = BitVec.ofNat 64 ch.ns ∧ (t.chan c).rd R.OBS_CNT_FREEZES = ch.rd R.OBS_CNT_FREEZES + 1 ∧
      (t.chan c).obs.frozen = some (ch.regs, ch.obs.stalls) ∧ (t.chan c).obs.sample = some ch.freezeSample ∧
      Reported EV_OBS_FREEZE (t.chan c)) ∧
    ( ∀ (src : Option (Fin 17)), s.reaches src c R.OBS_FREEZE = true → ch.frozen = true → ∃ t, exec (.obsFreeze c src) s = .next t ∧
      Agrees (ch) (t.chan c) ∧ (t.chan c).obs = ch.obs ∧ (t.chan c).rd R.OBS_FREEZE = ch.rd R.OBS_FREEZE ∧
      (t.chan c).rd R.OBS_FREEZE_TIME = ch.rd R.OBS_FREEZE_TIME) ∧
    ( ∀ (src : Option (Fin 17)), s.reaches src c R.OBS_FREEZE = true → ch.frozen = true → ch.toHub = [] → ∃ t,
      exec (.obsUnfreeze c src) s = .next t ∧ Agrees (ch) (t.chan c) ∧ (t.chan c).frozen = false ∧
      ((t.chan c).obs = { ch.obs with frozen := none }) ∧ (t.chan c).fld R.OBS_FREEZE F.OBS_FREEZE_cause = 0 ∧
      (t.chan c).rd R.OBS_FREEZE_TIME = ch.rd R.OBS_FREEZE_TIME) ∧
    ( ∀ (src : Option (Fin 17)), s.reaches src c R.OBS_FREEZE = true → ch.frozen = false → ch.toHub = [] → ∃ t,
      exec (.obsUnfreeze c src) s = .next t ∧ Agrees (ch) (t.chan c) ∧ (t.chan c).obs = ch.obs ∧
      (t.chan c).rd R.OBS_FREEZE = ch.rd R.OBS_FREEZE) ∧
    ( ∀ (src : Option (Fin 17)), s.reaches src c R.OBS_FREEZE = true → ∃ t, exec (.obsArm c src) s = .next t ∧
      Agrees (ch) (t.chan c) ∧ (t.chan c).flag R.OBS_FREEZE F.OBS_FREEZE_arm = true) ∧
    ( ch.isOn = true → ch.flag R.OBS_FREEZE F.OBS_FREEZE_arm = true → (ch.rd R.OBS_FREEZE_AT).toNat ≤ ch.ns → ch.frozen = false →
      ∃ t, exec (.timedFreeze c) s = .next t ∧ Agrees (ch) (t.chan c) ∧ (t.chan c).frozen = true ∧
      (t.chan c).fld R.OBS_FREEZE F.OBS_FREEZE_cause = FreezeCause.timed.code ∧
      (t.chan c).rd R.OBS_FREEZE_TIME = BitVec.ofNat 64 ch.ns ∧ (t.chan c).rd R.OBS_CNT_FREEZES = ch.rd R.OBS_CNT_FREEZES + 1 ∧
      (t.chan c).flag R.OBS_FREEZE F.OBS_FREEZE_arm = false ∧ Reported EV_OBS_FREEZE (t.chan c)) ∧
    ( ch.isOn = true → ch.flag R.OBS_FREEZE F.OBS_FREEZE_arm = false ∨ ch.ns < (ch.rd R.OBS_FREEZE_AT).toNat → ch.toHub = [] → ∃ t,
      exec (.timedFreeze c) s = .next t ∧ Agrees (ch) (t.chan c) ∧ (t.chan c).obs = ch.obs ∧
      (t.chan c).rd R.OBS_FREEZE = ch.rd R.OBS_FREEZE) ∧
    ( ∀ (mask : BitVec 8) (follow : Bool) (d : Fin 8), s.hubRuns = true → mask.toNat.testBit (s.chan d).idx = true →
      (s.chan d).isOn = true → (s.chan d).frozen = false → ∃ t, exec (.supFreeze mask follow) s = .next t ∧
      Agrees (s.chan d) (t.chan d) ∧ (t.chan d).frozen = true ∧
      (t.chan d).fld R.OBS_FREEZE F.OBS_FREEZE_cause = FreezeCause.sup.code ∧
      (t.chan d).rd R.OBS_FREEZE_TIME = BitVec.ofNat 64 (s.chan d).ns ∧
      (t.chan d).rd R.OBS_CNT_FREEZES = (s.chan d).rd R.OBS_CNT_FREEZES + 1 ∧
      t.hub.fld R.SUP_FREEZE F.SUP_FREEZE_channels = mask.toNat ∧ t.hub.flag R.SUP_FREEZE F.SUP_FREEZE_follow_fail = follow ∧
      t.pack = s.pack ∧ ∀ k : Nat, k ≠ R.SUP_FREEZE → t.hub.rd k = s.hub.rd k) ∧
    ( ∀ (mask : BitVec 8) (follow : Bool) (d : Fin 8), s.hubRuns = true →
      mask.toNat.testBit (s.chan d).idx = false ∨ (s.chan d).isOn = false ∨ (s.chan d).frozen = true → ∃ t,
      exec (.supFreeze mask follow) s = .next t ∧ t.chan d = s.chan d ∧ t.hub.fld R.SUP_FREEZE F.SUP_FREEZE_channels = mask.toNat ∧
      t.hub.flag R.SUP_FREEZE F.SUP_FREEZE_follow_fail = follow ∧ t.pack = s.pack ∧
      ∀ k : Nat, k ≠ R.SUP_FREEZE → t.hub.rd k = s.hub.rd k) ∧
    ( ∀ (mask : BitVec 8) (follow : Bool) (d : Fin 8), s.hubRuns = true → ∃ t, exec (.supUnfreeze mask follow) s = .next t ∧
      t.chan d = (if mask.toNat.testBit (s.chan d).idx then (s.chan d).unfreeze else s.chan d) ∧
      (mask.toNat.testBit (s.chan d).idx = true → (t.chan d).frozen = false) ∧
      t.hub.fld R.SUP_FREEZE F.SUP_FREEZE_channels = mask.toNat ∧ t.hub.flag R.SUP_FREEZE F.SUP_FREEZE_follow_fail = follow ∧
      t.pack = s.pack ∧ ∀ k : Nat, k ≠ R.SUP_FREEZE → t.hub.rd k = s.hub.rd k) ∧
    ( ∀ (src : Option (Fin 17)) (v : Word), s.reaches src c R.OBS_MARKER = true →
      ch.flag R.OBS_TRACE_CTRL F.OBS_TRACE_CTRL_enable = false → ∃ t, exec (.obsMarkerWrite c src v) s = .next t ∧
      Agrees (ch.setFld R.OBS_MARKER F.OBS_MARKER_value (getF v F.OBS_MARKER_value)) (t.chan c)) ∧
    ( ∀ (src : Option (Fin 17)) (v : Word) (a : Chan), s.reaches src c R.OBS_MARKER = true →
      ch.flag R.OBS_TRACE_CTRL F.OBS_TRACE_CTRL_enable = true →
      ch.setFld R.OBS_MARKER F.OBS_MARKER_value (getF v F.OBS_MARKER_value) = a → ∃ t, exec (.obsMarkerWrite c src v) s = .next t ∧
      Agrees (a.trace { type := 6, value := getF v F.OBS_MARKER_value }) (t.chan c) ∧
      (ch.obs.trace = [] → ch.obs.lost = 0 → ch.obs.shareN < traceShare → ch.flag R.OBS_TRACE_PTR F.OBS_TRACE_PTR_full = false →
        (t.chan c).bytes 1 chanKey (ch.fld R.OBS_TRACE_BASE F.OBS_TRACE_BASE_base + ch.fld R.OBS_TRACE_PTR F.OBS_TRACE_PTR_wptr) 32 = TraceRec.bytes { type := 6, value := getF v F.OBS_MARKER_value } ch.ns))

/-- TRACE_SAMPLE, due with tracing on, writes a sample for each selected unit. RUN_HUNG marks a run beyond run_limit once, reports
and writes a MARKER. TELEMETRY_SUMMARY puts a SUMMARY into each tenant's telemetry queue. OBS_DEBUG_WRITE sets the mode once while
no tenant exists. HANG_DECLARE sets the latch with reason 6, or waits while the Lodestar is away. DUMP_START begins a dump of a
latch of reason 1, 2 or 6; DUMP_QUIESCE_TIMEOUT marks it partial; DUMP_COMPLETE writes it to the scratchpad, shows its status,
counts and reports. -/
def Obligations.TracesRunsAndDumps : Prop :=
  ∀ (s : State) (c : Fin 8) (ch : Chan), s.chan c = ch →
    ( ∀ (pcs : List Nat), ch.clocked = true →
      ch.flag R.OBS_TRACE_CTRL F.OBS_TRACE_CTRL_enable = false ∨ ch.since ch.obs.traceAt (ch.cc (2 ^ ch.fld R.OBS_TRACE_CTRL F.OBS_TRACE_CTRL_sample_log2)) = false →
      ch.toHub = [] → ∃ t, exec (.traceSample c pcs) s = .next t ∧ Agrees (ch) (t.chan c) ∧ (t.chan c).obs = ch.obs) ∧
    ( ∀ (pcs : List Nat) (u : Nat), ch.clocked = true → ch.flag R.OBS_TRACE_CTRL F.OBS_TRACE_CTRL_enable = true →
      ch.since ch.obs.traceAt (ch.cc (2 ^ ch.fld R.OBS_TRACE_CTRL F.OBS_TRACE_CTRL_sample_log2)) = true → 28 ≤ u → u < 36 →
      ch.rd R.OBS_TRACE_UNITS = BitVec.ofNat 64 (2 ^ u) → ∃ t, exec (.traceSample c pcs) s = .next t ∧
      Agrees (let r : TraceRec := { type := 1, unit := u, state := ch.fld (R.OBS_UNIT_STATUS u) F.OBS_UNIT_STATUS_state + 4 * ch.fld (R.OBS_UNIT_STATUS u) F.OBS_UNIT_STATUS_reason, value := pcs.getD (u - 28) 0, layer := 65535 }
        Chan.trace { ch with obs := { ch.obs with traceAt := ch.now } } r) (t.chan c) ∧
      (t.chan c).obs.traceAt = ch.now) ∧
    ( ∀ (pcs : List Nat) (u : Nat), ch.clocked = true → ch.flag R.OBS_TRACE_CTRL F.OBS_TRACE_CTRL_enable = true →
      ch.since ch.obs.traceAt (ch.cc (2 ^ ch.fld R.OBS_TRACE_CTRL F.OBS_TRACE_CTRL_sample_log2)) = true → u < 28 ∨ u = 36 →
      ch.rd R.OBS_TRACE_UNITS = BitVec.ofNat 64 (2 ^ u) → ∃ t, exec (.traceSample c pcs) s = .next t ∧
      Agrees (let st := ch.fld (R.OBS_UNIT_STATUS u) F.OBS_UNIT_STATUS_state + 4 * ch.fld (R.OBS_UNIT_STATUS u) F.OBS_UNIT_STATUS_reason
        let b (i : Nat) : Byte := Config.savedByte ch.idx ch.draws i
        let a : Chan := { ch with obs := { ch.obs with traceAt := ch.now } }
        match ch.heldCmd u with
        | some (ctx, i) => a.trace { type := 2, unit := u, state := st, tenant := ch.slotTid (ctxSlot ctx), value := cmdTraceValue ctx i ((ch.side ctx).cmd i) 0, layer := ((ch.side ctx).cmd i).layer, op := ((ch.side ctx).cmd i).operator }
        | none => Chan.trace { a with draws := ch.draws + 1 } { type := 2, unit := u, state := st, value := leNat ((List.range 8).map b), layer := leNat [b 8, b 9], op := leNat [b 10, b 11] }) (t.chan c)) ∧
    ( ∀ (ctx : Fin 128) (r : Run), ch.clocked = true → ch.run ctx = some r → ch.fld R.OBS_CTRL F.OBS_CTRL_run_limit ≠ 0 →
      r.hung = false → ch.since r.at_ (ch.fld R.OBS_CTRL F.OBS_CTRL_run_limit * usG) = true → ∃ t,
      exec (.runHung c ctx) s = .next t ∧
      Agrees ((ch.setRun ctx { r with hung := true }).marker (ctxSlot ctx + 256 * ctxSide ctx)) (t.chan c) ∧
      Reported EV_OBS_RUN_HUNG (t.chan c)) ∧
    ( ∀ (ctx : Fin 128), ch.clocked = true →
      ch.fld R.OBS_CTRL F.OBS_CTRL_run_limit = 0 ∨ ((ch.run ctx).all fun r => r.hung || !ch.since r.at_ (ch.fld R.OBS_CTRL F.OBS_CTRL_run_limit * usG)) = true →
      ∃ t, exec (.runHung c ctx) s = .next t ∧ Agrees (ch) (t.chan c)) ∧
    ( ch.clocked = true → ch.fld R.OBS_CTRL F.OBS_CTRL_summary_period ≠ 0 →
      ch.since ch.obs.summaryAt (ch.fld R.OBS_CTRL F.OBS_CTRL_summary_period * usG) = true → ∃ t,
      exec (.telemetrySummary c) s = .next t ∧ Agrees (ch) (t.chan c) ∧
      (t.chan c).obs.summaryAt = ch.obs.summaryAt + ch.fld R.OBS_CTRL F.OBS_CTRL_summary_period * usG ∧
      ∀ i : Nat, i < 16 → (t.chan c).hq i 1 = if ch.tenantExists i = true ∧ (ch.hq i 1).length < 4096 then ch.hq i 1 ++ [ch.summaryRec i] else ch.hq i 1) ∧
    ( ch.clocked = true →
      ch.fld R.OBS_CTRL F.OBS_CTRL_summary_period = 0 ∨ ch.since ch.obs.summaryAt (ch.fld R.OBS_CTRL F.OBS_CTRL_summary_period * usG) = false →
      ∃ t, exec (.telemetrySummary c) s = .next t ∧ Agrees (ch) (t.chan c) ∧ (t.chan c).vpe = ch.vpe) ∧
    ( ∀ (src : Option (Fin 17)) (v : Word), s.reaches src c R.OBS_DEBUG = true →
      ((List.range 16).any fun i => ch.tenantExists i) = true → ∃ t, exec (.obsDebugWrite c src v) s = .next t ∧
      Agrees (ch) (t.chan c) ∧ Reported EV_OBS_CFG_REJECT (t.chan c)) ∧
    ( ∀ (src : Option (Fin 17)) (v : Word), s.reaches src c R.OBS_DEBUG = true →
      ((List.range 16).any fun i => ch.tenantExists i) = false → ∃ t, exec (.obsDebugWrite c src v) s = .next t ∧
      Agrees (if ch.rwo.contains R.OBS_DEBUG then ch
        else Chan.setFld { ch with rwo := R.OBS_DEBUG :: ch.rwo } R.OBS_DEBUG F.OBS_DEBUG_debug (getF v F.OBS_DEBUG_debug)) (t.chan c) ∧
      (ch.rwo.contains R.OBS_DEBUG = false → getF v F.OBS_DEBUG_debug = 1 → Reported EV_OBS_DEBUG_ON (t.chan c))) ∧
    ( ∀ (src : Option (Fin 17)), s.reaches src c R.OBS_DUMP_CMD = true → ch.safeServe = true ∨ ch.pwr.lodestar ≠ .running → ∃ t,
      exec (.hangDeclare c src) s = .next t ∧
      Agrees (Chan.setFlag { ch with pwr := { ch.pwr with declareWait := true } } R.OBS_DUMP_CMD F.OBS_DUMP_CMD_declare true) (t.chan c)) ∧
    ( ∀ (src : Option (Fin 17)), s.reaches src c R.OBS_DUMP_CMD = true → ch.safeServe = false → ch.pwr.lodestar = .running →
      ch.failStopped = false → ∃ t, exec (.hangDeclare c src) s = .next t ∧ (t.chan c).failStopped = true ∧
      (t.chan c).fld R.PWR_STATUS F.PWR_STATUS_fail_reason = 6 ∧ (t.chan c).pwr.failPin = true ∧ (t.chan c).pwr.latchAt = ch.now ∧
      (t.chan c).pwr.latchAuto = (ch.flag R.PWR_CTRL F.PWR_CTRL_auto_restart && decide (ch.restartsNow.length < 3)) ∧
      (t.chan c).frozen = true ∧ (t.chan c).linkState = (if ch.linkState = 0 then 0 else 4) ∧
      ∀ p : Nat, p < 3 → (t.chan c).zState p = 0 ∧ Reported EV_PWR_FAIL_STOP (t.chan c) ∧ Reported EV_OBS_HANG_DECLARED (t.chan c) ∧
      (t.chan c).pwr.declareWait = false ∧ (t.chan c).flag R.OBS_DUMP_CMD F.OBS_DUMP_CMD_declare = false) ∧
    ( ∀ (src : Option (Fin 17)), s.reaches src c R.OBS_DUMP_CMD = true → ch.safeServe = false → ch.pwr.lodestar = .running →
      ch.failStopped = true → ∃ t, exec (.hangDeclare c src) s = .next t ∧
      Agrees (Chan.setFlag { ch with pwr := { ch.pwr with declareWait := false } } R.OBS_DUMP_CMD F.OBS_DUMP_CMD_declare false) (t.chan c) ∧
      Reported EV_OBS_HANG_DECLARED (t.chan c)) ∧
    ( ∀ (src : Option (Fin 17)), s.reaches src c R.OBS_DUMP_CMD = true →
      (match ch.obs.dump with | some d => !d.done | none => false) = false → ∃ t, exec (.dumpStart c src false) s = .next t ∧
      Agrees (if ch.failStopped = false then ch.setFld R.OBS_DUMP_CMD F.OBS_DUMP_CMD_result 1
        else if ch.dumpReason then ch.setFlag R.OBS_DUMP_CMD F.OBS_DUMP_CMD_start true else ch.setFld R.OBS_DUMP_CMD F.OBS_DUMP_CMD_result 2) (t.chan c) ∧
      (ch.failStopped = true → ch.dumpReason = true → (t.chan c).obs.dump = some { at_ := ch.now }) ∧
      (ch.failStopped = false ∨ ch.dumpReason = false → (t.chan c).obs.dump = ch.obs.dump)) ∧
    ( ∀ (src : Option (Fin 17)), s.reaches src c R.OBS_DUMP_CMD = true →
      (match ch.obs.dump with | some d => !d.done | none => false) = true → ∃ t, exec (.dumpStart c src false) s = .next t ∧
      Agrees (ch) (t.chan c) ∧ (t.chan c).obs.dump = ch.obs.dump) ∧
    ( ∀ (src : Option (Fin 17)), ch.isOn = true → ∃ t, exec (.dumpStart c src true) s = .next t ∧ Agrees (ch) (t.chan c) ∧
      ((t.chan c).obs.dump = if ch.failStopped && ch.dumpReason && ch.flag R.OBS_CTRL F.OBS_CTRL_dump_on_fail && ch.obs.dump.isNone then some { at_ := ch.now } else ch.obs.dump)) ∧
    ( ch.isOn = true → ∃ t, exec (.dumpQuiesceTimeout c) s = .next t ∧ Agrees (ch) (t.chan c) ∧
      ((t.chan c).obs.dump = ch.obs.dump.map fun d => if d.done = false ∧ ch.since d.at_ (4 * usG) = true ∧ ch.dumpQuiet = false then { d with partial_ := true, busy := ch.dumpBusy } else d)) ∧
    ( ∀ (d : Dump), ch.isOn = true → ch.obs.dump = some d → d.done = false → d.partial_ = true ∨ ch.dumpQuiet = true → ∃ t,
      exec (.dumpComplete c) s = .next t ∧
      Agrees (let a : Chan := { ch with draws := ch.draws + 1 }
        let bs := a.dumpBytes ch.draws
        let b : Chan := a.setBytes 0 chanKey (ch.fld R.OBS_DUMP_BASE F.OBS_DUMP_BASE_base) bs
        let e : Chan := (b.setFlag R.OBS_DUMP_STATUS F.OBS_DUMP_STATUS_valid true).setFld R.OBS_DUMP_STATUS F.OBS_DUMP_STATUS_reason (ch.fld R.PWR_STATUS F.PWR_STATUS_fail_reason)
        let f : Chan := (e.setFlag R.OBS_DUMP_STATUS F.OBS_DUMP_STATUS_debug (ch.flag R.OBS_DEBUG F.OBS_DEBUG_debug)).setFlag R.OBS_DUMP_STATUS F.OBS_DUMP_STATUS_partial d.partial_
        let g : Chan := f.setFld R.OBS_DUMP_STATUS F.OBS_DUMP_STATUS_size bs.length
        ((g.setFlag R.OBS_DUMP_CMD F.OBS_DUMP_CMD_start false).setFld R.OBS_DUMP_CMD F.OBS_DUMP_CMD_result 0).inc R.OBS_CNT_DUMPS) (t.chan c) ∧
      ((t.chan c).obs.dump = some { d with done := true }) ∧
      Reported (if d.partial_ then EV_OBS_DUMP_PARTIAL else EV_OBS_DUMP_DONE) (t.chan c)) ∧
    ( ch.isOn = true → (ch.obs.dump.all fun d => d.done || (!d.partial_ && !ch.dumpQuiet)) = true → ∃ t,
      exec (.dumpComplete c) s = .next t ∧ Agrees (ch) (t.chan c) ∧ (t.chan c).obs.dump = ch.obs.dump)

/-- A write shorter than 8 bytes is discarded with EV_HIF_PARTIAL_WRITE. Writes to a channel that is off, through a function that
does not answer, misaligned, past Quarantine boot's registers, or of OBS registers without HIF_PF_PRIV have no effect; to a channel
asleep they are held and wake it; a VF's to a register it may not write raise EV_CHN_VF_DENIED. RO fields keep their value, RW
fields take it, RWO fields take the first write, RWL fields take it while their lock is open; a value outside its range is refused
with the register's event. The scratchpad window stores through the aperture page. -/
def Obligations.RegisterWritesByAccessType : Prop :=
  ∀ (s : State) (c : Fin 8) (ch : Chan), s.chan c = ch →
    ( ∀ (who : Agent) (off : Nat) (v : Word), s.hubRuns = true → ∀ d : Fin 8, who ≠ .firmware d → ∃ t,
      exec (.registerWrite who off v false) s = .next t ∧ (t = { s with hub := s.hub.raise EV_HIF_PARTIAL_WRITE }) ∧
      HubReported EV_HIF_PARTIAL_WRITE t.hub) ∧
    ( ∀ (off : Nat) (v : Word), ∃ t, exec (.registerWrite (.firmware c) off v false) s = .next t ∧ t = s) ∧
    ( ∀ (inst : Fin 17) (off : Nat) (v : Word), ch.isOn = false ∨ ch.fnLive inst = false → ∃ t,
      exec (.registerWrite (.fn c inst) off v true) s = .next t ∧ Agrees (ch) (t.chan c)) ∧
    ( ∀ (inst : Fin 17) (off : Nat) (v : Word), ch.isOn = true → ch.fnLive inst = true → ch.boot.quarantined = true →
      inst.val ≠ 0 ∨ off % 8 ≠ 0 ∨ ch.quarantineWrite off v = false → ∃ t,
      exec (.registerWrite (.fn c inst) off v true) s = .next t ∧ Agrees (ch) (t.chan c)) ∧
    ( ∀ (inst : Fin 17) (off : Nat) (v : Word), ch.isOn = true → ch.fnLive inst = true → ch.boot.quarantined = false →
      2 ≤ ch.pwrState → ∃ t, exec (.registerWrite (.fn c inst) off v true) s = .next t ∧
      Agrees ({ ch with host := { ch.host with held := ch.host.held ++ [(inst.val, off, some v)] }, pwr := { ch.pwr with waking := if ch.pwr.waking.isNone then some (ch.pwrState, ch.now) else ch.pwr.waking } }) (t.chan c)) ∧
    ( ∀ (inst : Fin 17) (off : Nat) (v : Word), ch.isOn = true → ch.fnLive inst = true → ch.boot.quarantined = false →
      ch.pwrState < 2 →
      off % 8 ≠ 0 ∨ 0x4000000 ≤ off ∨ (inst.val = 0 ∧ off < 0x2000000 ∧ obsPriv off = true ∧ s.priv c = false) ∨ (inst.val ≠ 0 ∧ off < 0x3000000 ∧ (ch.vfReach inst off = .absent ∨ ch.vfReach inst off = .readOnly)) →
      ∃ t, exec (.registerWrite (.fn c inst) off v true) s = .next t ∧ Agrees (ch) (t.chan c)) ∧
    ( ∀ (inst : Fin 17) (off : Nat) (v : Word), ch.isOn = true → ch.fnLive inst = true → ch.boot.quarantined = false →
      ch.pwrState < 2 → inst.val ≠ 0 → off % 8 = 0 → off < 0x2000000 → ch.vfReach inst off = .denied → ∃ t,
      exec (.registerWrite (.fn c inst) off v true) s = .next t ∧ Agrees (ch) (t.chan c) ∧ Reported EV_CHN_VF_DENIED (t.chan c)) ∧
    ( ∀ (off : Nat) (v : Word), ch.isOn = false ∨ ch.pwr.lodestar ≠ .running ∨ off % 8 ≠ 0 ∨ 0x4000000 ≤ off → ∃ t,
      exec (.registerWrite (.firmware c) off v true) s = .next t ∧ Agrees (ch) (t.chan c)) ∧
    ( ∀ (src : Option (Fin 17)) (who : Agent) (v : Word) (off : Nat),
      (match src with | some inst => Agent.fn c inst | none => .firmware c) = who → s.reaches src c off = true →
      off = R.CHN_ID ∨ off = R.CHN_CAP ∨ off = R.CHN_LOCATION → ∃ t, exec (.registerWrite who (off) v true) s = .next t ∧
      Agrees (ch) (t.chan c)) ∧
    ( ∀ (src : Option (Fin 17)) (who : Agent) (v : Word),
      (match src with | some inst => Agent.fn c inst | none => .firmware c) = who → s.reaches src c (R.CHN_STAGE_SRC) = true → ∃ t,
      exec (.registerWrite who (R.CHN_STAGE_SRC) v true) s = .next t ∧
      Agrees (ch.setFld R.CHN_STAGE_SRC ⟨0, 36⟩ (getF v ⟨0, 36⟩)) (t.chan c)) ∧
    ( ∀ (src : Option (Fin 17)) (who : Agent) (v : Word),
      (match src with | some inst => Agent.fn c inst | none => .firmware c) = who → s.reaches src c (R.FLW_HASH_SEED) = true → ∃ t,
      exec (.registerWrite who (R.FLW_HASH_SEED) v true) s = .next t ∧
      Agrees (if ch.rwo.contains R.FLW_HASH_SEED then ch else Chan.wr { ch with rwo := R.FLW_HASH_SEED :: ch.rwo } R.FLW_HASH_SEED v) (t.chan c)) ∧
    ( ∀ (src : Option (Fin 17)) (who : Agent) (v : Word),
      (match src with | some inst => Agent.fn c inst | none => .firmware c) = who → s.reaches src c (R.PRS_CTRL) = true → ∃ t,
      exec (.registerWrite who (R.PRS_CTRL) v true) s = .next t ∧
      Agrees (if ch.safeServe = false ∧ ch.linkState = 0 then ch.setFld R.PRS_CTRL ⟨0, 12⟩ (getF v ⟨0, 12⟩) else ch) (t.chan c)) ∧
    ( ∀ (src : Option (Fin 17)) (who : Agent) (v : Word) (k : Nat),
      (match src with | some inst => Agent.fn c inst | none => .firmware c) = who → s.reaches src c (R.CHN_EVQ_BASE) = true →
      bank (writerInst src) R.CHN_EVQ_BASE = k →
      getF v F.CHN_EVQ_BASE_log2_size = 0 ∨ (6 ≤ getF v F.CHN_EVQ_BASE_log2_size ∧ getF v F.CHN_EVQ_BASE_log2_size ≤ 16) → ∃ t,
      exec (.registerWrite who (R.CHN_EVQ_BASE) v true) s = .next t ∧
      Agrees ((ch.setFld k F.CHN_EVQ_BASE_base (getF v F.CHN_EVQ_BASE_base)).setFld k F.CHN_EVQ_BASE_log2_size (getF v F.CHN_EVQ_BASE_log2_size)) (t.chan c)) ∧
    ( ∀ (src : Option (Fin 17)) (who : Agent) (v : Word),
      (match src with | some inst => Agent.fn c inst | none => .firmware c) = who → s.reaches src c (R.CHN_EVQ_BASE) = true →
      getF v F.CHN_EVQ_BASE_log2_size ≠ 0 → getF v F.CHN_EVQ_BASE_log2_size < 6 ∨ 16 < getF v F.CHN_EVQ_BASE_log2_size → ∃ t,
      exec (.registerWrite who (R.CHN_EVQ_BASE) v true) s = .next t ∧ Agrees (ch) (t.chan c) ∧
      Reported EV_CHN_CFG_REJECT (t.chan c)) ∧
    ( ∀ (inst : Fin 17) (off : Nat) (v : Word), ch.isOn = true → ch.fnLive inst = true → ch.boot.quarantined = false →
      ch.pwrState < 2 → off % 8 = 0 → 0x3000000 ≤ off → off < 0x4000000 → ∃ t,
      exec (.registerWrite (.fn c inst) off v true) s = .next t ∧
      Agrees (let a := 16777216 * ch.fld (bank inst R.MEM_SPAD_APERTURE) F.MEM_SPAD_APERTURE_page + (off - 0x3000000)
        if inst.val = 0 ∨ ch.spadReach inst a 8 then ch.store 0 chanKey a (leBytes 8 v.toNat) else ch.refuseAccess) (t.chan c))

/-- Writes of BAR0 of PF0 with the hub die running: HIF_PF_PRIV and HIF_BRIDGE_WEIGHT take the value, read-only registers keep
theirs, HIF_BRIDGE_STATUS.no_answer clears the bits written 1, a ring size outside 6 to 16 is refused. A write of BOOT_CMD,
BOOT_FUSE_CMD, SUP_CHN_CTRL_c, HIF_CNT_SEL or SUP_FREEZE with its action bit set is the command of that name. With the hub die held
in reset nothing happens. -/
def Obligations.HubRegisterWrites : Prop :=
  ∀ (s : State),
    ( ∀ (off : Nat) (v : Word), s.hubRuns = false → ∃ t, exec (.registerWrite .hub off v true) s = .next t ∧ t = s) ∧
    ( ∀ (v : Word), s.hubRuns = true → ∃ t, exec (.registerWrite .hub (R.HIF_BRIDGE_WEIGHT) v true) s = .next t ∧
      t.chans = s.chans ∧ t.hub.rd R.HIF_BRIDGE_WEIGHT = v ∧ ∀ k : Nat, k ≠ R.HIF_BRIDGE_WEIGHT → t.hub.rd k = s.hub.rd k ∧
      t.hub.ev = s.hub.ev) ∧
    ( ∀ (v : Word), s.hubRuns = true → ∃ t, exec (.registerWrite .hub (R.HIF_PF_PRIV) v true) s = .next t ∧ t.chans = s.chans ∧
      ∀ d : Fin 8, t.priv d = v.getLsbD d ∧ ∀ k : Nat, k ≠ R.HIF_PF_PRIV → t.hub.rd k = s.hub.rd k) ∧
    ( ∀ (off : Nat) (v : Word) (i : Fin 8), s.hubRuns = true →
      off = R.HIF_LINK_STATUS ∨ off = R.HIF_CNT_DATA ∨ off = R.BOOT_STATUS i ∨ off = R.BOOT_FUSE_STATE i ∨ off = R.BOOT_DEVICE_ID i ∨ off = R.SUP_ID ∨ off = R.SUP_CAP ∨ off = R.SUP_CHN_STATUS i →
      ∃ t, exec (.registerWrite .hub off v true) s = .next t ∧ t.chans = s.chans ∧ ∀ k : Nat, t.hub.rd k = s.hub.rd k ∧
      t.hub.ev = s.hub.ev) ∧
    ( ∀ (v : Word), s.hubRuns = true → ∃ t, exec (.registerWrite .hub (R.HIF_BRIDGE_STATUS) v true) s = .next t ∧
      t.chans = s.chans ∧
      ∀ i : Nat, i < 8 → (t.hub.fld R.HIF_BRIDGE_STATUS F.HIF_BRIDGE_STATUS_no_answer).testBit i = ((s.hub.fld R.HIF_BRIDGE_STATUS F.HIF_BRIDGE_STATUS_no_answer).testBit i && !v.getLsbD i) ∧
      ∀ k : Nat, k ≠ R.HIF_BRIDGE_STATUS → t.hub.rd k = s.hub.rd k) ∧
    ( ∀ (v : Word), s.hubRuns = true → ringBits v 6 16 = false → ∃ t,
      exec (.registerWrite .hub (R.HIF_EVQ_BASE) v true) s = .next t ∧ t = s) ∧
    ( ∀ (v : Word), s.hubRuns = true → ringBits v 6 16 = true → ∃ t,
      exec (.registerWrite .hub (R.HIF_EVQ_BASE) v true) s = .next t ∧ t.chans = s.chans ∧
      t.hub.fld R.HIF_EVQ_BASE F.HIF_EVQ_BASE_log2_size = getF v F.HIF_EVQ_BASE_log2_size ∧
      t.hub.fld R.HIF_EVQ_BASE F.HIF_EVQ_BASE_base = getF v F.HIF_EVQ_BASE_base ∧
      ∀ k : Nat, k ≠ R.HIF_EVQ_BASE → t.hub.rd k = s.hub.rd k) ∧
    ( ∀ (v : Word) (d : Fin 8), s.hubRuns = true → s.hub.flag R.BOOT_CMD F.BOOT_CMD_start = false → getF v F.BOOT_CMD_start = 1 →
      getF v F.BOOT_CMD_command = 1 → getF v F.BOOT_CMD_channel = d.val → ∃ t,
      exec (.registerWrite .hub (R.BOOT_CMD) v true) s = .next t ∧ exec (.program d) s = .next t) ∧
    ( ∀ (v : Word) (d : Fin 8), s.hubRuns = true → s.hub.flag R.BOOT_CMD F.BOOT_CMD_start = false → getF v F.BOOT_CMD_start = 1 →
      getF v F.BOOT_CMD_command = 2 → getF v F.BOOT_CMD_channel = d.val → ∃ t,
      exec (.registerWrite .hub (R.BOOT_CMD) v true) s = .next t ∧ exec (.activate d) s = .next t) ∧
    ( ∀ (v : Word) (d : Fin 8), s.hubRuns = true → s.hub.flag R.BOOT_CMD F.BOOT_CMD_start = false → getF v F.BOOT_CMD_start = 1 →
      getF v F.BOOT_CMD_command = 3 → getF v F.BOOT_CMD_channel = d.val → ∃ t,
      exec (.registerWrite .hub (R.BOOT_CMD) v true) s = .next t ∧ exec (.commitSv d) s = .next t) ∧
    ( ∀ (v : Word) (d : Fin 8), s.hubRuns = true → s.hub.flag R.BOOT_CMD F.BOOT_CMD_start = false → getF v F.BOOT_CMD_start = 1 →
      3 < getF v F.BOOT_CMD_command → ∃ t, exec (.registerWrite .hub (R.BOOT_CMD) v true) s = .next t ∧ t.chans = s.chans ∧
      t.hub.fld R.BOOT_CMD F.BOOT_CMD_result = 1) ∧
    ( ∀ (v : Word) (d k : Fin 8), s.hubRuns = true → getF v F.BOOT_FUSE_CMD_start = 1 → getF v F.BOOT_FUSE_CMD_op = 1 →
      getF v F.BOOT_FUSE_CMD_channel = d.val → getF v F.BOOT_FUSE_CMD_slot = k.val → ∃ t,
      exec (.registerWrite .hub (R.BOOT_FUSE_CMD) v true) s = .next t ∧ exec (.programSlot d k true) s = .next t) ∧
    ( ∀ (v : Word) (d k : Fin 8), s.hubRuns = true → getF v F.BOOT_FUSE_CMD_start = 1 → getF v F.BOOT_FUSE_CMD_op = 2 →
      getF v F.BOOT_FUSE_CMD_channel = d.val → getF v F.BOOT_FUSE_CMD_slot = k.val → ∃ t,
      exec (.registerWrite .hub (R.BOOT_FUSE_CMD) v true) s = .next t ∧ exec (.revokeSlot d k true) s = .next t) ∧
    ( ∀ (v : Word) (d : Fin 8), s.hubRuns = true → getF v F.SUP_CHN_CTRL_power_on = 1 → getF v F.SUP_CHN_CTRL_power_off = 0 →
      getF v F.SUP_CHN_CTRL_reset = 0 → ∃ t, exec (.registerWrite .hub (R.SUP_CHN_CTRL d) v true) s = .next t ∧
      exec (.channelPowerOn d) s = .next t) ∧
    ( ∀ (v : Word) (d : Fin 8), s.hubRuns = true → getF v F.SUP_CHN_CTRL_power_on = 0 → getF v F.SUP_CHN_CTRL_power_off = 1 →
      getF v F.SUP_CHN_CTRL_reset = 0 → ∃ t, exec (.registerWrite .hub (R.SUP_CHN_CTRL d) v true) s = .next t ∧
      exec (.channelPowerOff d) s = .next t) ∧
    ( ∀ (v : Word) (d : Fin 8), s.hubRuns = true → getF v F.SUP_CHN_CTRL_power_on = 0 → getF v F.SUP_CHN_CTRL_power_off = 0 →
      getF v F.SUP_CHN_CTRL_reset = 1 → ∃ t, exec (.registerWrite .hub (R.SUP_CHN_CTRL d) v true) s = .next t ∧
      exec (.channelReset d) s = .next t) ∧
    ( ∀ (v : Word), s.hubRuns = true → ∃ t, exec (.registerWrite .hub (R.HIF_CNT_SEL) v true) s = .next t ∧
      exec (.hifCounterRead v) s = .next t) ∧
    ( ∀ (v : Word) (m : BitVec 8) (f : Bool), s.hubRuns = true → v = supFreezeWord m.toNat f true → ∃ t,
      exec (.registerWrite .hub (R.SUP_FREEZE) v true) s = .next t ∧ exec (.supFreeze m f) s = .next t) ∧
    ( ∀ (v : Word) (m : BitVec 8) (f : Bool), s.hubRuns = true → v = supFreezeWord m.toNat f false → ∃ t,
      exec (.registerWrite .hub (R.SUP_FREEZE) v true) s = .next t ∧ exec (.supUnfreeze m f) s = .next t)

/-- For every row of the command table that is a write to one channel register with a behaviour of its own: a REGISTER_WRITE of the
same word to the register's offset, by the same function instance or the firmware, when it reaches the register, has exactly the
outcome of the row. -/
def Obligations.RegisterWritesAreTheirRows : Prop :=
  ∀ (s : State) (c : Fin 8) (src : Option (Fin 17)) (v : Word) (who : Agent),
    (match src with | some inst => Agent.fn c inst | none => .firmware c) = who →
    (∀ (i : Fin 16), s.reaches src c (R.CHN_TENANT i) = true →
      exec (.registerWrite who (R.CHN_TENANT i) v true) s = exec (.tenantCreate c src i v) s) ∧
    (∀ (q : Fin 4), s.reaches src c (R.CHN_HQ_PROD q) = true →
      exec (.registerWrite who (R.CHN_HQ_PROD q) v true) s = exec (.dmaDoorbell c src q v) s) ∧
    (∀ (i : Fin 64), s.reaches src c (R.MEM_REGION_A i) = true →
      exec (.registerWrite who (R.MEM_REGION_A i) v true) s = exec (.memRegionWrite c src i false v) s) ∧
    (∀ (i : Fin 64), s.reaches src c (R.MEM_REGION_B i) = true →
      exec (.registerWrite who (R.MEM_REGION_B i) v true) s = exec (.memRegionWrite c src i true v) s) ∧
    (s.reaches src c (R.MEM_KEY_CMD) = true →
      exec (.registerWrite who (R.MEM_KEY_CMD) v true) s = exec (.tenantErase c src v) s) ∧
    (s.reaches src c (R.CHK_UNFENCE) = true →
      exec (.registerWrite who (R.CHK_UNFENCE) v true) s = exec (.chkUnfence c src v) s) ∧
    (s.reaches src c (R.CHK_UNFENCE_BANKS) = true →
      exec (.registerWrite who (R.CHK_UNFENCE_BANKS) v true) s = exec (.chkUnfenceBanks c src v) s) ∧
    (s.reaches src c (R.CHK_VMODE) = true →
      exec (.registerWrite who (R.CHK_VMODE) v true) s = exec (.chkVmodeWrite c src v) s) ∧
    (∀ (e : Fin 4), s.reaches src c (R.MXE_CTRL e) = true →
      exec (.registerWrite who (R.MXE_CTRL e) v true) s = exec (.mxePartWrite c src e false v) s) ∧
    (∀ (e : Fin 4), s.reaches src c (R.MXE_PART e) = true →
      exec (.registerWrite who (R.MXE_PART e) v true) s = exec (.mxePartWrite c src e true v) s) ∧
    (∀ (u : Fin 2) (i : Fin 32), s.reaches src c (R.RVU_PAGE_OWNER u i) = true →
      exec (.registerWrite who (R.RVU_PAGE_OWNER u i) v true) s = exec (.rvuPageOwnerWrite c src u i v) s) ∧
    (s.reaches src c (R.ACU_ABORT) = true →
      exec (.registerWrite who (R.ACU_ABORT) v true) s = exec (.acuAbort c src v) s) ∧
    (∀ (n : Fin 64), s.reaches src c (R.FTR_PROG n) = true →
      exec (.registerWrite who (R.FTR_PROG n) v true) s = exec (.ftrProgWrite c src n v) s) ∧
    (∀ (n : Fin 32) (k : Fin 4), s.reaches src c (R.FST_ENS_CFG n + 8 * k.val) = true →
      exec (.registerWrite who (R.FST_ENS_CFG n + 8 * k.val) v true) s = exec (.fstEnsWrite c src n k v) s) ∧
    (∀ (i : Fin 16), s.reaches src c (R.FLW_REGION_A i) = true →
      exec (.registerWrite who (R.FLW_REGION_A i) v true) s = exec (.flwRegionWrite c src i false v) s) ∧
    (∀ (i : Fin 16), s.reaches src c (R.FLW_REGION_B i) = true →
      exec (.registerWrite who (R.FLW_REGION_B i) v true) s = exec (.flwRegionWrite c src i true v) s) ∧
    (∀ (i : Fin 16), s.reaches src c (R.LDS_NOTE_IDX i) = true →
      exec (.registerWrite who (R.LDS_NOTE_IDX i) v true) s = exec (.ldsNoteConsWrite c src i v) s) ∧
    (∀ (k : Fin 17), s.reaches src c (R.LDS_INS_IDX k) = true →
      exec (.registerWrite who (R.LDS_INS_IDX k) v true) s = exec (.ldsInsProdWrite c src k v) s) ∧
    (s.reaches src c (R.CHN_STAGE_REQ) = true →
      exec (.registerWrite who (R.CHN_STAGE_REQ) v true) s = exec (.stageRequest c src v) s) ∧
    (s.reaches src c (R.VPE_GATE_CTRL) = true →
      exec (.registerWrite who (R.VPE_GATE_CTRL) v true) s = exec (.vpeGateCommit c src v) s) ∧
    (∀ (g : Fin 16), s.reaches src c (R.VPE_GROUP g) = true →
      exec (.registerWrite who (R.VPE_GROUP g) v true) s = exec (.vpeGroupWrite c src g v) s) ∧
    (∀ (i : Fin 16), s.reaches src c (R.VPE_TPOL i) = true →
      exec (.registerWrite who (R.VPE_TPOL i) v true) s = exec (.vpeTpolWrite c src i v) s) ∧
    (∀ (i : Fin 16) (q : Fin 2), s.reaches src c (R.VPE_SHP i q) = true →
      exec (.registerWrite who (R.VPE_SHP i q) v true) s = exec (.vpeShpWrite c src i q v) s) ∧
    (∀ (g : Fin 4), s.reaches src c (R.TRN_CFG g) = true →
      exec (.registerWrite who (R.TRN_CFG g) v true) s = exec (.trnContextEnable c src g v) s) ∧
    (s.reaches src c (R.PWR_OPP_REQ) = true →
      exec (.registerWrite who (R.PWR_OPP_REQ) v true) s = exec (.pwrOppRequest c src v) s) ∧
    (s.reaches src c (R.LDS_ATT_REQ) = true →
      exec (.registerWrite who (R.LDS_ATT_REQ) v true) s = exec (.attestRequest c src v) s) ∧
    (s.reaches src c (R.OBS_MARKER) = true →
      exec (.registerWrite who (R.OBS_MARKER) v true) s = exec (.obsMarkerWrite c src v) s) ∧
    (s.reaches src c (R.OBS_DEBUG) = true →
      exec (.registerWrite who (R.OBS_DEBUG) v true) s = exec (.obsDebugWrite c src v) s) ∧
    (∀ (e : BitVec 16), s.reaches src c (camOffset e.toNat 20) = true →
      exec (.registerWrite who (camOffset e.toNat 20) v true) s = exec (.camWindowCommit c src e v) s) ∧
    (s.reaches src c (R.FLW_LOCK_REQ) = true → getF v F.FLW_LOCK_REQ_start = 1 →
      exec (.registerWrite who (R.FLW_LOCK_REQ) v true) s = exec (.flwLockRequest c src v) s) ∧
    (s.reaches src c (R.FLW_LOCK_REL) = true → getF v F.FLW_LOCK_REL_start = 1 →
      exec (.registerWrite who (R.FLW_LOCK_REL) v true) s = exec (.flwLockRelease c src v) s) ∧
    (s.reaches src c (R.PRS_IND_SEL) = true → getF v F.PRS_IND_SEL_start = 1 ∧ getF v F.PRS_IND_SEL_write = 0 →
      exec (.registerWrite who (R.PRS_IND_SEL) v true) s = exec (.prsIndRead c src v) s) ∧
    (s.reaches src c (R.PRS_IND_SEL) = true → getF v F.PRS_IND_SEL_start = 1 ∧ getF v F.PRS_IND_SEL_write = 1 →
      exec (.registerWrite who (R.PRS_IND_SEL) v true) s = exec (.prsIndWrite c src v) s) ∧
    (s.reaches src c (R.VPE_IND_SEL) = true → getF v F.VPE_IND_SEL_start = 1 ∧ getF v F.VPE_IND_SEL_write = 0 →
      exec (.registerWrite who (R.VPE_IND_SEL) v true) s = exec (.vpeIndRead c src v) s) ∧
    (s.reaches src c (R.VPE_IND_SEL) = true → getF v F.VPE_IND_SEL_start = 1 ∧ getF v F.VPE_IND_SEL_write = 1 →
      exec (.registerWrite who (R.VPE_IND_SEL) v true) s = exec (.vpeIndWrite c src v) s) ∧
    (∀ (n : Fin 64), s.reaches src c (R.CHN_SLOT_CMD n) = true →
      exec (.registerWrite who (R.CHN_SLOT_CMD n) (slotCmdWord 1) true) s = exec (.swap c src n) s) ∧
    (∀ (n : Fin 64), s.reaches src c (R.CHN_SLOT_CMD n) = true →
      exec (.registerWrite who (R.CHN_SLOT_CMD n) (slotCmdWord 2) true) s = exec (.discard c src n) s) ∧
    (∀ (n : Fin 64), s.reaches src c (R.CHN_SLOT_CMD n) = true →
      exec (.registerWrite who (R.CHN_SLOT_CMD n) (slotCmdWord 3) true) s = exec (.unload c src n) s) ∧
    (s.reaches src c (R.PWR_CTRL) = true →
      exec (.registerWrite who (R.PWR_CTRL) (goWord 0 ((s.chan c).rd R.PWR_CTRL)) true) s = exec (.pwrGoRun c src) s) ∧
    (s.reaches src c (R.PWR_CTRL) = true →
      exec (.registerWrite who (R.PWR_CTRL) (goWord 1 ((s.chan c).rd R.PWR_CTRL)) true) s = exec (.pwrGoDoze c src) s) ∧
    (s.reaches src c (R.PWR_CTRL) = true →
      exec (.registerWrite who (R.PWR_CTRL) (goWord 2 ((s.chan c).rd R.PWR_CTRL)) true) s = exec (.pwrGoVault c src) s) ∧
    (s.reaches src c (R.OBS_FREEZE) = true →
      exec (.registerWrite who (R.OBS_FREEZE) (setF 0 F.OBS_FREEZE_freeze 1) true) s = exec (.obsFreeze c src) s) ∧
    (s.reaches src c (R.OBS_FREEZE) = true →
      exec (.registerWrite who (R.OBS_FREEZE) (setF 0 F.OBS_FREEZE_unfreeze 1) true) s = exec (.obsUnfreeze c src) s) ∧
    (s.reaches src c (R.OBS_FREEZE) = true →
      exec (.registerWrite who (R.OBS_FREEZE) (setF 0 F.OBS_FREEZE_arm 1) true) s = exec (.obsArm c src) s) ∧
    (s.reaches src c (R.OBS_DUMP_CMD) = true →
      exec (.registerWrite who (R.OBS_DUMP_CMD) (setF 0 F.OBS_DUMP_CMD_declare 1) true) s = exec (.hangDeclare c src) s) ∧
    (s.reaches src c (R.OBS_DUMP_CMD) = true →
      exec (.registerWrite who (R.OBS_DUMP_CMD) (setF 0 F.OBS_DUMP_CMD_start 1) true) s = exec (.dumpStart c src false) s) ∧
    (∀ (p : Fin 3), s.reaches src c (R.ZLK_PORT_CTRL p) = true →
      exec (.registerWrite who (R.ZLK_PORT_CTRL p) (setF ((s.chan c).rd (R.ZLK_PORT_CTRL p)) F.ZLK_PORT_CTRL_port_enable 1) true) s = exec (.zlkPortEnable c src p) s) ∧
    (∀ (p : Fin 3), s.reaches src c (R.ZLK_PORT_CTRL p) = true →
      exec (.registerWrite who (R.ZLK_PORT_CTRL p) (setF ((s.chan c).rd (R.ZLK_PORT_CTRL p)) F.ZLK_PORT_CTRL_port_enable 0) true) s = exec (.zlkPortDisable c src p) s)
end

