-- ==== Sys2Proof/Laws/Fields.lean ====
section
/-!
SUPPORT. Laws/Fields.lean: reading a register field after a field was put: the same field gives what was put, a disjoint one is
unchanged.
-/

namespace Sys2Proof.Machine

open Sys2Proof

theorem mask_bit (f : Fld) (i : Nat) (hi : i < 64) :
    f.mask.getLsbD i = decide (f.lo ≤ i ∧ i < f.lo + f.len) := by
  unfold Fld.mask
  rw [BitVec.getLsbD_ofNat, Nat.testBit_mul_two_pow, Nat.testBit_two_pow_sub_one]
  by_cases h1 : f.lo ≤ i <;> by_cases h2 : i < f.lo + f.len <;> simp [hi, h1, h2] <;> omega

theorem setF_bit (w : Word) (f : Fld) (v i : Nat) (hi : i < 64) :
    (setF w f v).getLsbD i =
      if f.lo ≤ i ∧ i < f.lo + f.len then v.testBit (i - f.lo) else w.getLsbD i := by
  unfold setF
  rw [BitVec.getLsbD_or, BitVec.getLsbD_and, BitVec.getLsbD_and, BitVec.getLsbD_not, mask_bit f i hi,
    BitVec.getLsbD_ofNat, Nat.testBit_mul_two_pow]
  by_cases h : f.lo ≤ i ∧ i < f.lo + f.len
  · simp [hi, h]
  · simp [hi, h]

theorem getF_testBit (w : Word) (f : Fld) (i : Nat) :
    (getF w f).testBit i = (decide (i < f.len) && w.getLsbD (f.lo + i)) := by
  unfold getF
  rw [← BitVec.getLsbD, BitVec.getLsbD_extractLsb']

/-- The field that was put reads as what was put, cut to its width. -/
theorem getF_setF_same (w : Word) (f : Fld) (v : Nat) (h : f.lo + f.len ≤ 64) : getF (setF w f v) f = v % 2 ^ f.len := by
  apply Nat.eq_of_testBit_eq
  intro i
  rw [getF_testBit, Nat.testBit_mod_two_pow]
  by_cases hi : i < f.len
  · rw [setF_bit w f v (f.lo + i) (by omega), if_pos (by omega)]
    simp [hi]
  · simp [hi]

/-- A field apart from the one that was put is unchanged. -/
theorem getF_setF_ne (w : Word) (f g : Fld) (v : Nat) (h : f.lo + f.len ≤ g.lo ∨ g.lo + g.len ≤ f.lo) :
    getF (setF w f v) g = getF w g := by
  apply Nat.eq_of_testBit_eq
  intro i
  rw [getF_testBit, getF_testBit]
  by_cases hi : i < g.len
  · by_cases h64 : g.lo + i < 64
    · rw [setF_bit w f v (g.lo + i) h64, if_neg (by omega)]
    · rw [BitVec.getLsbD_of_ge _ _ (by omega), BitVec.getLsbD_of_ge _ _ (by omega)]
  · simp [hi]

/-- A field is below two to its width. -/
theorem getF_lt (w : Word) (f : Fld) : getF w f < 2 ^ f.len := by
  unfold getF; exact BitVec.isLt _

end Sys2Proof.Machine
end

