-- ==== Sys2Proof/Laws/Sparse.lean ====
section
/-!
SUPPORT. Laws/Sparse.lean: a read after a write, and that every operation on a sparse map or a memory keeps its canonical form.
-/

namespace Sys2Proof.Machine

open Sys2Proof

variable {α : Type}

/-! ## A read after a write -/

theorem sfind_sdel_ne (m : List (Nat × α)) {k j : Nat} (h : j ≠ k) : sfind (sdel m k) j = sfind m j := by
  induction m with
  | nil => rfl
  | cons p r ih =>
    obtain ⟨i, v⟩ := p
    by_cases hi : i = k
    · subst hi; simpa [sdel, sfind, Ne.symm h] using ih
    · simp [sdel, hi, sfind, ih]

theorem sfind_sins_ne (m : List (Nat × α)) {k j : Nat} (v : α) (h : j ≠ k) : sfind (sins m k v) j = sfind m j := by
  induction m with
  | nil => simp [sins, sfind, Ne.symm h]
  | cons p r ih =>
    obtain ⟨i, w⟩ := p
    by_cases h1 : k < i
    · simp [sins, h1, sfind, Ne.symm h]
    · by_cases h2 : i = k
      · subst h2; simp [sins, sfind, Ne.symm h]
      · simp [sins, h1, h2, sfind, ih]

theorem sfind_sins_same (m : List (Nat × α)) (k : Nat) (v : α) : sfind (sins m k v) k = some v := by
  induction m with
  | nil => simp [sins, sfind]
  | cons p r ih =>
    obtain ⟨i, w⟩ := p
    by_cases h1 : k < i
    · simp [sins, h1, sfind]
    · by_cases h2 : i = k
      · subst h2; simp [sins, sfind]
      · simp [sins, h1, h2, sfind, ih]

@[simp] theorem sget_nil (d : Nat → α) (k : Nat) : sget d [] k = d k := rfl

theorem sfind_sdel_same (m : List (Nat × α)) (k : Nat) : sfind (sdel m k) k = none := by
  induction m with
  | nil => rfl
  | cons p r ih =>
    obtain ⟨i, v⟩ := p
    by_cases hi : i = k
    · simp [sdel, hi, ih]
    · simp [sdel, hi, sfind, ih]

/-- A write leaves every other place alone. -/
theorem sget_sset_ne [DecidableEq α] (d : Nat → α) (m : List (Nat × α)) {k j : Nat} (v : α) (h : j ≠ k) :
    sget d (sset d m k v) j = sget d m j := by
  unfold sget sset
  by_cases hv : v = d k
  · rw [if_pos hv, sfind_sdel_ne m h]
  · rw [if_neg hv, sfind_sins_ne m v h]

/-- A read after a write of the same place gives the value written. -/
theorem sget_sset_same [DecidableEq α] (d : Nat → α) (m : List (Nat × α)) (k : Nat) (v : α) :
    sget d (sset d m k v) k = v := by
  unfold sget sset
  by_cases hv : v = d k
  · rw [if_pos hv, sfind_sdel_same m k, hv]
  · rw [if_neg hv, sfind_sins_same]

/-! ## The canonical form -/

/-- A number lies above a bound. -/
def above (b : Option Nat) (k : Nat) : Prop := ∀ j, b = some j → j < k

theorem swfFrom_cons [DecidableEq α] (d : Nat → α) (b : Option Nat) (k : Nat) (v : α) (r : List (Nat × α)) :
    swfFrom d b ((k, v) :: r) = true ↔ above b k ∧ v ≠ d k ∧ swfFrom d (some k) r = true := by
  cases b <;> simp [swfFrom, above, and_assoc]

theorem swfFrom_mono [DecidableEq α] (d : Nat → α) (m : List (Nat × α)) {a b : Option Nat}
    (hab : ∀ k, above b k → above a k) (h : swfFrom d b m = true) : swfFrom d a m = true := by
  cases m with
  | nil => rfl
  | cons p r =>
    rw [swfFrom_cons] at h ⊢
    exact ⟨hab _ h.1, h.2⟩

theorem above_trans {b : Option Nat} {i l : Nat} (h : above b i) (hl : above (some i) l) : above b l := by
  intro j hj
  have h1 := h j hj
  have h2 := hl i rfl
  omega

theorem swfFrom_sdel [DecidableEq α] (d : Nat → α) (m : List (Nat × α)) (b : Option Nat) (k : Nat)
    (h : swfFrom d b m = true) : swfFrom d b (sdel m k) = true := by
  induction m generalizing b with
  | nil => rfl
  | cons p r ih =>
    obtain ⟨i, v⟩ := p
    rw [swfFrom_cons] at h
    by_cases hi : i = k
    · simp only [sdel, hi, if_true]
      subst hi
      exact swfFrom_mono d _ (fun l hl => above_trans h.1 hl) (ih (some i) h.2.2)
    · simp only [sdel, hi, if_false]
      rw [swfFrom_cons]
      exact ⟨h.1, h.2.1, ih (some i) h.2.2⟩

theorem swfFrom_sins [DecidableEq α] (d : Nat → α) (m : List (Nat × α)) (b : Option Nat) (k : Nat) (v : α)
    (hb : above b k) (hv : v ≠ d k) (h : swfFrom d b m = true) : swfFrom d b (sins m k v) = true := by
  induction m generalizing b with
  | nil => rw [sins, swfFrom_cons]; exact ⟨hb, hv, rfl⟩
  | cons p r ih =>
    obtain ⟨i, w⟩ := p
    rw [swfFrom_cons] at h
    by_cases h1 : k < i
    · simp only [sins, h1, if_true]
      rw [swfFrom_cons, swfFrom_cons]
      refine ⟨hb, hv, ?_, h.2⟩
      intro j hj; cases hj; exact h1
    · by_cases h2 : i = k
      · subst h2
        simp only [sins, lt_irrefl, if_false, if_true]
        rw [swfFrom_cons]
        exact ⟨hb, hv, h.2.2⟩
      · simp only [sins, h1, h2, if_false]
        rw [swfFrom_cons]
        refine ⟨h.1, h.2.1, ih (some i) ?_ h.2.2⟩
        intro j hj; cases hj; omega

/-- A write keeps the canonical form. -/
theorem swf_sset [DecidableEq α] (d : Nat → α) (m : List (Nat × α)) (k : Nat) (v : α) (h : swf d m = true) :
    swf d (sset d m k v) = true := by
  unfold sset swf at *
  split
  · exact swfFrom_sdel d m none k h
  · rename_i hv; exact swfFrom_sins d m none k v (fun j hj => by cases hj) hv h

theorem swfFrom_filter [DecidableEq α] (d : Nat → α) (m : List (Nat × α)) (b : Option Nat) (p : Nat × α → Bool)
    (h : swfFrom d b m = true) : swfFrom d b (m.filter p) = true := by
  induction m generalizing b with
  | nil => rfl
  | cons q r ih =>
    obtain ⟨i, v⟩ := q
    rw [swfFrom_cons] at h
    have hr := ih (some i) h.2.2
    by_cases hp : p (i, v) = true
    · rw [List.filter_cons, if_pos hp, swfFrom_cons]
      exact ⟨h.1, h.2.1, hr⟩
    · rw [List.filter_cons, if_neg hp]
      exact swfFrom_mono d _ (fun l hl => above_trans h.1 hl) hr

/-- Dropping a range keeps the canonical form. -/
theorem swf_clearRange [DecidableEq α] (d : Nat → α) (m : List (Nat × α)) (a n : Nat) (h : swf d m = true) :
    swf d (clearRange m a n) = true := swfFrom_filter d m none _ h

theorem swf_cellsPut (m : List Host.Cell) (a : Nat) (bs : List Byte) (h : swf zeroByte m = true) :
    swf zeroByte (cellsPut m a bs) = true := by
  induction bs generalizing m a with
  | nil => exact h
  | cons b r ih => exact ih _ _ (swf_sset zeroByte m a b h)

theorem swf_encPut (m : List (Nat × EncByte)) (gen a : Nat) (bs : List Byte) (h : swf noEnc m = true) :
    swf noEnc (encPut m gen a bs) = true := by
  induction bs generalizing m a with
  | nil => exact h
  | cons b r ih => exact ih _ _ (swf_sset noEnc m a _ h)

/-- Storing bytes leaves every byte outside them alone. -/
theorem sget_cellsPut_out (m : List Host.Cell) (a j : Nat) (bs : List Byte) (h : j < a ∨ a + bs.length ≤ j) :
    sget zeroByte (cellsPut m a bs) j = sget zeroByte m j := by
  induction bs generalizing m a with
  | nil => rfl
  | cons b r ih =>
    simp only [List.length_cons] at h
    rw [cellsPut, ih _ _ (by omega), sget_sset_ne _ _ _ (by omega)]

end Sys2Proof.Machine
end

