-- ==== Sys2Proof/Laws/State.lean ====
section
/-!
SUPPORT. Laws/State.lean: what the plain updates of a channel and of the device leave alone, one lemma a field.
-/

namespace Sys2Proof.Machine

open Sys2Proof

variable (ch : Chan) (k n : Nat) (f : Fld) (v : Word) (b : Bool)

/-! ## wr -/

@[simp] theorem Chan.wr_idx : (ch.wr k v).idx = ch.idx := rfl
@[simp] theorem Chan.wr_now : (ch.wr k v).now = ch.now := rfl
@[simp] theorem Chan.wr_core : (ch.wr k v).core = ch.core := rfl
@[simp] theorem Chan.wr_sid : (ch.wr k v).sid = ch.sid := rfl
@[simp] theorem Chan.wr_rwo : (ch.wr k v).rwo = ch.rwo := rfl
@[simp] theorem Chan.wr_draws : (ch.wr k v).draws = ch.draws := rfl
@[simp] theorem Chan.wr_toHub : (ch.wr k v).toHub = ch.toHub := rfl
@[simp] theorem Chan.wr_ev : (ch.wr k v).ev = ch.ev := rfl
@[simp] theorem Chan.wr_host : (ch.wr k v).host = ch.host := rfl
@[simp] theorem Chan.wr_port : (ch.wr k v).port = ch.port := rfl
@[simp] theorem Chan.wr_pwr : (ch.wr k v).pwr = ch.pwr := rfl
@[simp] theorem Chan.wr_parser : (ch.wr k v).parser = ch.parser := rfl
@[simp] theorem Chan.wr_flow : (ch.wr k v).flow = ch.flow := rfl
@[simp] theorem Chan.wr_vpe : (ch.wr k v).vpe = ch.vpe := rfl
@[simp] theorem Chan.wr_mem : (ch.wr k v).mem = ch.mem := rfl
@[simp] theorem Chan.wr_obs : (ch.wr k v).obs = ch.obs := rfl
@[simp] theorem Chan.wr_ftr : (ch.wr k v).ftr = ch.ftr := rfl
@[simp] theorem Chan.wr_fst : (ch.wr k v).fst = ch.fst := rfl
@[simp] theorem Chan.wr_eng : (ch.wr k v).eng = ch.eng := rfl
@[simp] theorem Chan.wr_models : (ch.wr k v).models = ch.models := rfl
@[simp] theorem Chan.wr_jobs : (ch.wr k v).jobs = ch.jobs := rfl
@[simp] theorem Chan.wr_jobNum : (ch.wr k v).jobNum = ch.jobNum := rfl
@[simp] theorem Chan.wr_chk : (ch.wr k v).chk = ch.chk := rfl
@[simp] theorem Chan.wr_trn : (ch.wr k v).trn = ch.trn := rfl
@[simp] theorem Chan.wr_trnLast : (ch.wr k v).trnLast = ch.trnLast := rfl
@[simp] theorem Chan.wr_zlk : (ch.wr k v).zlk = ch.zlk := rfl
@[simp] theorem Chan.wr_boot : (ch.wr k v).boot = ch.boot := rfl
@[simp] theorem Chan.wr_flash : (ch.wr k v).flash = ch.flash := rfl
@[simp] theorem Chan.wr_fuses : (ch.wr k v).fuses = ch.fuses := rfl

/-! ## setFld -/

@[simp] theorem Chan.setFld_idx : (ch.setFld k f n).idx = ch.idx := rfl
@[simp] theorem Chan.setFld_now : (ch.setFld k f n).now = ch.now := rfl
@[simp] theorem Chan.setFld_core : (ch.setFld k f n).core = ch.core := rfl
@[simp] theorem Chan.setFld_sid : (ch.setFld k f n).sid = ch.sid := rfl
@[simp] theorem Chan.setFld_rwo : (ch.setFld k f n).rwo = ch.rwo := rfl
@[simp] theorem Chan.setFld_draws : (ch.setFld k f n).draws = ch.draws := rfl
@[simp] theorem Chan.setFld_toHub : (ch.setFld k f n).toHub = ch.toHub := rfl
@[simp] theorem Chan.setFld_ev : (ch.setFld k f n).ev = ch.ev := rfl
@[simp] theorem Chan.setFld_host : (ch.setFld k f n).host = ch.host := rfl
@[simp] theorem Chan.setFld_port : (ch.setFld k f n).port = ch.port := rfl
@[simp] theorem Chan.setFld_pwr : (ch.setFld k f n).pwr = ch.pwr := rfl
@[simp] theorem Chan.setFld_parser : (ch.setFld k f n).parser = ch.parser := rfl
@[simp] theorem Chan.setFld_flow : (ch.setFld k f n).flow = ch.flow := rfl
@[simp] theorem Chan.setFld_vpe : (ch.setFld k f n).vpe = ch.vpe := rfl
@[simp] theorem Chan.setFld_mem : (ch.setFld k f n).mem = ch.mem := rfl
@[simp] theorem Chan.setFld_obs : (ch.setFld k f n).obs = ch.obs := rfl
@[simp] theorem Chan.setFld_ftr : (ch.setFld k f n).ftr = ch.ftr := rfl
@[simp] theorem Chan.setFld_fst : (ch.setFld k f n).fst = ch.fst := rfl
@[simp] theorem Chan.setFld_eng : (ch.setFld k f n).eng = ch.eng := rfl
@[simp] theorem Chan.setFld_models : (ch.setFld k f n).models = ch.models := rfl
@[simp] theorem Chan.setFld_jobs : (ch.setFld k f n).jobs = ch.jobs := rfl
@[simp] theorem Chan.setFld_jobNum : (ch.setFld k f n).jobNum = ch.jobNum := rfl
@[simp] theorem Chan.setFld_chk : (ch.setFld k f n).chk = ch.chk := rfl
@[simp] theorem Chan.setFld_trn : (ch.setFld k f n).trn = ch.trn := rfl
@[simp] theorem Chan.setFld_trnLast : (ch.setFld k f n).trnLast = ch.trnLast := rfl
@[simp] theorem Chan.setFld_zlk : (ch.setFld k f n).zlk = ch.zlk := rfl
@[simp] theorem Chan.setFld_boot : (ch.setFld k f n).boot = ch.boot := rfl
@[simp] theorem Chan.setFld_flash : (ch.setFld k f n).flash = ch.flash := rfl
@[simp] theorem Chan.setFld_fuses : (ch.setFld k f n).fuses = ch.fuses := rfl

/-! ## setFlag -/

@[simp] theorem Chan.setFlag_idx : (ch.setFlag k f b).idx = ch.idx := rfl
@[simp] theorem Chan.setFlag_now : (ch.setFlag k f b).now = ch.now := rfl
@[simp] theorem Chan.setFlag_core : (ch.setFlag k f b).core = ch.core := rfl
@[simp] theorem Chan.setFlag_sid : (ch.setFlag k f b).sid = ch.sid := rfl
@[simp] theorem Chan.setFlag_rwo : (ch.setFlag k f b).rwo = ch.rwo := rfl
@[simp] theorem Chan.setFlag_draws : (ch.setFlag k f b).draws = ch.draws := rfl
@[simp] theorem Chan.setFlag_toHub : (ch.setFlag k f b).toHub = ch.toHub := rfl
@[simp] theorem Chan.setFlag_ev : (ch.setFlag k f b).ev = ch.ev := rfl
@[simp] theorem Chan.setFlag_host : (ch.setFlag k f b).host = ch.host := rfl
@[simp] theorem Chan.setFlag_port : (ch.setFlag k f b).port = ch.port := rfl
@[simp] theorem Chan.setFlag_pwr : (ch.setFlag k f b).pwr = ch.pwr := rfl
@[simp] theorem Chan.setFlag_parser : (ch.setFlag k f b).parser = ch.parser := rfl
@[simp] theorem Chan.setFlag_flow : (ch.setFlag k f b).flow = ch.flow := rfl
@[simp] theorem Chan.setFlag_vpe : (ch.setFlag k f b).vpe = ch.vpe := rfl
@[simp] theorem Chan.setFlag_mem : (ch.setFlag k f b).mem = ch.mem := rfl
@[simp] theorem Chan.setFlag_obs : (ch.setFlag k f b).obs = ch.obs := rfl
@[simp] theorem Chan.setFlag_ftr : (ch.setFlag k f b).ftr = ch.ftr := rfl
@[simp] theorem Chan.setFlag_fst : (ch.setFlag k f b).fst = ch.fst := rfl
@[simp] theorem Chan.setFlag_eng : (ch.setFlag k f b).eng = ch.eng := rfl
@[simp] theorem Chan.setFlag_models : (ch.setFlag k f b).models = ch.models := rfl
@[simp] theorem Chan.setFlag_jobs : (ch.setFlag k f b).jobs = ch.jobs := rfl
@[simp] theorem Chan.setFlag_jobNum : (ch.setFlag k f b).jobNum = ch.jobNum := rfl
@[simp] theorem Chan.setFlag_chk : (ch.setFlag k f b).chk = ch.chk := rfl
@[simp] theorem Chan.setFlag_trn : (ch.setFlag k f b).trn = ch.trn := rfl
@[simp] theorem Chan.setFlag_trnLast : (ch.setFlag k f b).trnLast = ch.trnLast := rfl
@[simp] theorem Chan.setFlag_zlk : (ch.setFlag k f b).zlk = ch.zlk := rfl
@[simp] theorem Chan.setFlag_boot : (ch.setFlag k f b).boot = ch.boot := rfl
@[simp] theorem Chan.setFlag_flash : (ch.setFlag k f b).flash = ch.flash := rfl
@[simp] theorem Chan.setFlag_fuses : (ch.setFlag k f b).fuses = ch.fuses := rfl

/-! ## inc -/

@[simp] theorem Chan.inc_idx : (ch.inc k n).idx = ch.idx := rfl
@[simp] theorem Chan.inc_now : (ch.inc k n).now = ch.now := rfl
@[simp] theorem Chan.inc_core : (ch.inc k n).core = ch.core := rfl
@[simp] theorem Chan.inc_sid : (ch.inc k n).sid = ch.sid := rfl
@[simp] theorem Chan.inc_rwo : (ch.inc k n).rwo = ch.rwo := rfl
@[simp] theorem Chan.inc_draws : (ch.inc k n).draws = ch.draws := rfl
@[simp] theorem Chan.inc_toHub : (ch.inc k n).toHub = ch.toHub := rfl
@[simp] theorem Chan.inc_ev : (ch.inc k n).ev = ch.ev := rfl
@[simp] theorem Chan.inc_host : (ch.inc k n).host = ch.host := rfl
@[simp] theorem Chan.inc_port : (ch.inc k n).port = ch.port := rfl
@[simp] theorem Chan.inc_pwr : (ch.inc k n).pwr = ch.pwr := rfl
@[simp] theorem Chan.inc_parser : (ch.inc k n).parser = ch.parser := rfl
@[simp] theorem Chan.inc_flow : (ch.inc k n).flow = ch.flow := rfl
@[simp] theorem Chan.inc_vpe : (ch.inc k n).vpe = ch.vpe := rfl
@[simp] theorem Chan.inc_mem : (ch.inc k n).mem = ch.mem := rfl
@[simp] theorem Chan.inc_obs : (ch.inc k n).obs = ch.obs := rfl
@[simp] theorem Chan.inc_ftr : (ch.inc k n).ftr = ch.ftr := rfl
@[simp] theorem Chan.inc_fst : (ch.inc k n).fst = ch.fst := rfl
@[simp] theorem Chan.inc_eng : (ch.inc k n).eng = ch.eng := rfl
@[simp] theorem Chan.inc_models : (ch.inc k n).models = ch.models := rfl
@[simp] theorem Chan.inc_jobs : (ch.inc k n).jobs = ch.jobs := rfl
@[simp] theorem Chan.inc_jobNum : (ch.inc k n).jobNum = ch.jobNum := rfl
@[simp] theorem Chan.inc_chk : (ch.inc k n).chk = ch.chk := rfl
@[simp] theorem Chan.inc_trn : (ch.inc k n).trn = ch.trn := rfl
@[simp] theorem Chan.inc_trnLast : (ch.inc k n).trnLast = ch.trnLast := rfl
@[simp] theorem Chan.inc_zlk : (ch.inc k n).zlk = ch.zlk := rfl
@[simp] theorem Chan.inc_boot : (ch.inc k n).boot = ch.boot := rfl
@[simp] theorem Chan.inc_flash : (ch.inc k n).flash = ch.flash := rfl
@[simp] theorem Chan.inc_fuses : (ch.inc k n).fuses = ch.fuses := rfl

/-! ## The device -/

variable (s : State) (c d : Fin 8) (g : Hub → Hub)

@[simp] theorem State.setChan_hub : (s.setChan c ch).hub = s.hub := rfl
@[simp] theorem State.setChan_pack : (s.setChan c ch).pack = s.pack := rfl
@[simp] theorem State.setChan_pending : (s.setChan c ch).pending = s.pending := rfl
@[simp] theorem State.setChan_chan_same : (s.setChan c ch).chan c = ch := by simp [State.setChan, State.chan]
theorem State.setChan_chan_ne (h : d ≠ c) : (s.setChan c ch).chan d = s.chan d := by
  have : (c : Nat) ≠ d := fun e => h (Fin.ext e.symm)
  simp [State.setChan, State.chan, this]

end Sys2Proof.Machine
end

