-- ==== Sys2Proof/Laws/Ops.lean ====
section
/-!
SUPPORT. Laws/Ops.lean: everything the shared operations can do, said once: registers and fields, raising an event, a freeze,
and a command that acts on one channel.
-/

namespace Sys2Proof.Machine

open Sys2Proof

/-! ## Registers -/

@[simp] theorem Chan.rd_wr_same (ch : Chan) (k : Nat) (v : Word) : (ch.wr k v).rd k = v :=
  sget_sset_same _ _ _ _

theorem Chan.rd_wr_ne (ch : Chan) {k j : Nat} (v : Word) (h : j ≠ k) : (ch.wr k v).rd j = ch.rd j :=
  sget_sset_ne _ _ _ h

theorem Chan.rd_setFld_ne (ch : Chan) {k j : Nat} (f : Fld) (v : Nat) (h : j ≠ k) : (ch.setFld k f v).rd j = ch.rd j :=
  ch.rd_wr_ne _ h

theorem Chan.rd_setFld_same (ch : Chan) (k : Nat) (f : Fld) (v : Nat) : (ch.setFld k f v).rd k = setF (ch.rd k) f v :=
  ch.rd_wr_same _ _

theorem Chan.fld_wr_ne (ch : Chan) {k j : Nat} (v : Word) (f : Fld) (h : j ≠ k) : (ch.wr k v).fld j f = ch.fld j f := by
  unfold Chan.fld; rw [ch.rd_wr_ne v h]

theorem Chan.fld_setFld_same (ch : Chan) (k : Nat) (f : Fld) (v : Nat) (h : f.lo + f.len ≤ 64) :
    (ch.setFld k f v).fld k f = v % 2 ^ f.len := by
  unfold Chan.fld; rw [ch.rd_setFld_same, getF_setF_same _ _ _ h]

theorem Chan.fld_setFld_apart (ch : Chan) (k : Nat) (f g : Fld) (v : Nat) (h : f.lo + f.len ≤ g.lo ∨ g.lo + g.len ≤ f.lo) :
    (ch.setFld k f v).fld k g = ch.fld k g := by
  unfold Chan.fld; rw [ch.rd_setFld_same, getF_setF_ne _ _ _ _ h]

theorem Chan.fld_setFld_ne (ch : Chan) {k j : Nat} (f g : Fld) (v : Nat) (h : j ≠ k) : (ch.setFld k f v).fld j g = ch.fld j g :=
  ch.fld_wr_ne _ g h

@[simp] theorem Chan.rd_inc_same (ch : Chan) (k n : Nat) : (ch.inc k n).rd k = ch.rd k + BitVec.ofNat 64 n := ch.rd_wr_same _ _

theorem Chan.rd_inc_ne (ch : Chan) {k j : Nat} (n : Nat) (h : j ≠ k) : (ch.inc k n).rd j = ch.rd j := ch.rd_wr_ne _ h

@[simp] theorem Hub.rd_wr_same (x : Hub) (k : Nat) (v : Word) : (x.wr k v).rd k = v := sget_sset_same _ _ _ _

theorem Hub.rd_wr_ne (x : Hub) {k j : Nat} (v : Word) (h : j ≠ k) : (x.wr k v).rd j = x.rd j := sget_sset_ne _ _ _ h

theorem Hub.fld_setFld_same (x : Hub) (k : Nat) (f : Fld) (v : Nat) (h : f.lo + f.len ≤ 64) :
    (x.setFld k f v).fld k f = v % 2 ^ f.len := by
  unfold Hub.fld Hub.setFld; rw [x.rd_wr_same, getF_setF_same _ _ _ h]

theorem Hub.fld_setFld_apart (x : Hub) (k : Nat) (f g : Fld) (v : Nat) (h : f.lo + f.len ≤ g.lo ∨ g.lo + g.len ≤ f.lo) :
    (x.setFld k f v).fld k g = x.fld k g := by
  unfold Hub.fld Hub.setFld; rw [x.rd_wr_same, getF_setF_ne _ _ _ _ h]

theorem Hub.fld_setFld_ne (x : Hub) {k j : Nat} (f g : Fld) (v : Nat) (h : j ≠ k) : (x.setFld k f v).fld j g = x.fld j g := by
  unfold Hub.fld Hub.setFld; rw [x.rd_wr_ne _ h]

/-! ## Events -/

/-- What raising an event leaves alone: all but the event state, the registers of `raiseKey`, the host-bound queues and the messages
to the hub die. -/
structure RaiseFrame (a b : Chan) : Prop where
  idx : b.idx = a.idx
  now : b.now = a.now
  core : b.core = a.core
  sid : b.sid = a.sid
  rwo : b.rwo = a.rwo
  draws : b.draws = a.draws
  host : b.host = a.host
  port : b.port = a.port
  pwr : b.pwr = a.pwr
  parser : b.parser = a.parser
  flow : b.flow = a.flow
  mem : b.mem = a.mem
  obs : b.obs = a.obs
  vpe : { b.vpe with hq := [] } = { a.vpe with hq := [] }
  ftr : b.ftr = a.ftr
  fst : b.fst = a.fst
  eng : b.eng = a.eng
  models : b.models = a.models
  jobs : b.jobs = a.jobs
  jobNum : b.jobNum = a.jobNum
  chk : b.chk = a.chk
  trn : b.trn = a.trn
  trnLast : b.trnLast = a.trnLast
  zlk : b.zlk = a.zlk
  boot : b.boot = a.boot
  flash : b.flash = a.flash
  fuses : b.fuses = a.fuses
  rd : ∀ k, ¬ raiseKey k → b.rd k = a.rd k

theorem RaiseFrame.refl (a : Chan) : RaiseFrame a a := by constructor <;> intros <;> rfl

theorem RaiseFrame.trans {a b c : Chan} (h : RaiseFrame a b) (g : RaiseFrame b c) : RaiseFrame a c where
  idx := g.idx.trans h.idx
  now := g.now.trans h.now
  core := g.core.trans h.core
  sid := g.sid.trans h.sid
  rwo := g.rwo.trans h.rwo
  draws := g.draws.trans h.draws
  host := g.host.trans h.host
  port := g.port.trans h.port
  pwr := g.pwr.trans h.pwr
  parser := g.parser.trans h.parser
  flow := g.flow.trans h.flow
  mem := g.mem.trans h.mem
  obs := g.obs.trans h.obs
  vpe := g.vpe.trans h.vpe
  ftr := g.ftr.trans h.ftr
  fst := g.fst.trans h.fst
  eng := g.eng.trans h.eng
  models := g.models.trans h.models
  jobs := g.jobs.trans h.jobs
  jobNum := g.jobNum.trans h.jobNum
  chk := g.chk.trans h.chk
  trn := g.trn.trans h.trn
  trnLast := g.trnLast.trans h.trnLast
  zlk := g.zlk.trans h.zlk
  boot := g.boot.trans h.boot
  flash := g.flash.trans h.flash
  fuses := g.fuses.trans h.fuses
  rd := fun k hk => (g.rd k hk).trans (h.rd k hk)

theorem RaiseFrame.setEv (a : Chan) (ev : Events) : RaiseFrame a (a.setEv ev) := by constructor <;> intros <;> rfl

theorem RaiseFrame.vector (a : Chan) (inst vec hold : Nat) : RaiseFrame a (a.vector inst vec hold) := by
  unfold Chan.vector
  split
  · exact .refl a
  · exact .setEv a _

theorem RaiseFrame.wr (a : Chan) {k : Nat} (v : Word) (h : raiseKey k) : RaiseFrame a (a.wr k v) := by
  constructor
  case rd => intro j hj; exact a.rd_wr_ne v (fun e => hj (e ▸ h))
  all_goals rfl

theorem RaiseFrame.setHq (a : Chan) (i q : Nat) (rs : List (List Byte)) : RaiseFrame a (a.setHq i q rs) := by
  constructor <;> intros <;> rfl

theorem RaiseFrame.ringEvent (a : Chan) (inst : Nat) (s : Severity) (r : EvRec) : RaiseFrame a (a.ringEvent inst s r) := by
  have hk : raiseKey (bank inst R.CHN_EVQ_CTRL) := .inl ⟨inst, rfl⟩
  unfold Chan.ringEvent
  extract_lets
  split
  · exact .refl a
  · split
    · exact .wr a _ hk
    · exact ((RaiseFrame.setEv a _).trans (.wr _ _ hk)).trans (.vector _ _ _ _)

theorem RaiseFrame.raiseCore (a : Chan) (e : Ev) (t n : Option Nat) : RaiseFrame a (a.raiseCore e t n).2 := by
  unfold Chan.raiseCore
  generalize a.ev.allow e.id a.now = p
  obtain ⟨ok, supp, ev⟩ := p
  dsimp only
  generalize EvRec.mk _ _ _ _ _ _ = r
  have hb : RaiseFrame a (a.setEv (ev.meteorPut e.block r)) := .setEv a _
  generalize a.setEv (ev.meteorPut e.block r) = b at hb ⊢
  cases ok
  · exact hb
  · have hc : RaiseFrame a (b.ringEvent 0 e.sev r) := hb.trans (.ringEvent b 0 e.sev r)
    generalize b.ringEvent 0 e.sev r = c at hc ⊢
    cases t with
    | none => exact hc
    | some i =>
      by_cases hf : c.fnLive (i + 1) = true
      · simpa [hf] using hc.trans (.ringEvent c (i + 1) e.sev r)
      · simpa [hf] using hc

theorem RaiseFrame.inc (a : Chan) (n : Nat) : RaiseFrame a (a.inc R.VPE_CNT_TELEM_DROP n) := .wr a _ (.inr rfl)

theorem RaiseFrame.putTelemetry (a : Chan) (i : Nat) (b : List Byte) : RaiseFrame a (a.putTelemetry i b) := by
  unfold Chan.putTelemetry
  dsimp only
  split
  · exact .setHq a _ _ _
  · have h1 := (RaiseFrame.inc a 1).trans (.raiseCore _ EV_VPE_HOST_DROP (some i) (some R.VPE_CNT_TELEM_DROP))
    generalize (a.inc R.VPE_CNT_TELEM_DROP).raiseCore EV_VPE_HOST_DROP (some i) (some R.VPE_CNT_TELEM_DROP) = p at h1 ⊢
    obtain ⟨o, x⟩ := p
    cases o with
    | none => exact h1
    | some r =>
      dsimp only at h1 ⊢
      split
      · exact h1.trans ((RaiseFrame.inc x 1).trans (.raiseCore _ _ _ _))
      · exact h1

/-- Raising an event keeps its frame. -/
theorem RaiseFrame.raise (a : Chan) (e : Ev) (t n : Option Nat) : RaiseFrame a (a.raise e t n) := by
  unfold Chan.raise
  split
  · constructor <;> intros <;> rfl
  · have h1 := RaiseFrame.raiseCore a e t n
    generalize a.raiseCore e t n = p at h1 ⊢
    obtain ⟨o, x⟩ := p
    cases o with
    | none => exact h1
    | some r =>
      cases t with
      | none => exact h1
      | some i =>
        dsimp only at h1 ⊢
        split
        · exact h1.trans (.putTelemetry x i _)
        · exact h1

/-- Counting in a counter and raising an event of it. -/
theorem Chan.count_eq (ch : Chan) (k : Nat) (e : Ev) (t : Option Nat) (n : Nat) :
    ch.count k e t n = (ch.inc k n).raise e t (some k) := rfl

theorem Chan.rd_raise (ch : Chan) (e : Ev) (t n : Option Nat) {k : Nat} (hk : ¬ raiseKey k) :
    (ch.raise e t n).rd k = ch.rd k := (RaiseFrame.raise ch e t n).rd k hk

theorem Chan.fld_raise (ch : Chan) (e : Ev) (t n : Option Nat) {k : Nat} (f : Fld) (hk : ¬ raiseKey k) :
    (ch.raise e t n).fld k f = ch.fld k f := by
  unfold Chan.fld; rw [ch.rd_raise e t n hk]

@[simp] theorem Chan.raise_idx (ch : Chan) (e : Ev) (t n : Option Nat) : (ch.raise e t n).idx = ch.idx := (RaiseFrame.raise ch e t n).idx
@[simp] theorem Chan.raise_now (ch : Chan) (e : Ev) (t n : Option Nat) : (ch.raise e t n).now = ch.now := (RaiseFrame.raise ch e t n).now
@[simp] theorem Chan.raise_core (ch : Chan) (e : Ev) (t n : Option Nat) : (ch.raise e t n).core = ch.core := (RaiseFrame.raise ch e t n).core
@[simp] theorem Chan.raise_sid (ch : Chan) (e : Ev) (t n : Option Nat) : (ch.raise e t n).sid = ch.sid := (RaiseFrame.raise ch e t n).sid
@[simp] theorem Chan.raise_rwo (ch : Chan) (e : Ev) (t n : Option Nat) : (ch.raise e t n).rwo = ch.rwo := (RaiseFrame.raise ch e t n).rwo
@[simp] theorem Chan.raise_draws (ch : Chan) (e : Ev) (t n : Option Nat) : (ch.raise e t n).draws = ch.draws := (RaiseFrame.raise ch e t n).draws
@[simp] theorem Chan.raise_host (ch : Chan) (e : Ev) (t n : Option Nat) : (ch.raise e t n).host = ch.host := (RaiseFrame.raise ch e t n).host
@[simp] theorem Chan.raise_port (ch : Chan) (e : Ev) (t n : Option Nat) : (ch.raise e t n).port = ch.port := (RaiseFrame.raise ch e t n).port
@[simp] theorem Chan.raise_pwr (ch : Chan) (e : Ev) (t n : Option Nat) : (ch.raise e t n).pwr = ch.pwr := (RaiseFrame.raise ch e t n).pwr
@[simp] theorem Chan.raise_parser (ch : Chan) (e : Ev) (t n : Option Nat) : (ch.raise e t n).parser = ch.parser := (RaiseFrame.raise ch e t n).parser
@[simp] theorem Chan.raise_flow (ch : Chan) (e : Ev) (t n : Option Nat) : (ch.raise e t n).flow = ch.flow := (RaiseFrame.raise ch e t n).flow
@[simp] theorem Chan.raise_mem (ch : Chan) (e : Ev) (t n : Option Nat) : (ch.raise e t n).mem = ch.mem := (RaiseFrame.raise ch e t n).mem
@[simp] theorem Chan.raise_obs (ch : Chan) (e : Ev) (t n : Option Nat) : (ch.raise e t n).obs = ch.obs := (RaiseFrame.raise ch e t n).obs
@[simp] theorem Chan.raise_ftr (ch : Chan) (e : Ev) (t n : Option Nat) : (ch.raise e t n).ftr = ch.ftr := (RaiseFrame.raise ch e t n).ftr
@[simp] theorem Chan.raise_fst (ch : Chan) (e : Ev) (t n : Option Nat) : (ch.raise e t n).fst = ch.fst := (RaiseFrame.raise ch e t n).fst
@[simp] theorem Chan.raise_eng (ch : Chan) (e : Ev) (t n : Option Nat) : (ch.raise e t n).eng = ch.eng := (RaiseFrame.raise ch e t n).eng
@[simp] theorem Chan.raise_models (ch : Chan) (e : Ev) (t n : Option Nat) : (ch.raise e t n).models = ch.models := (RaiseFrame.raise ch e t n).models
@[simp] theorem Chan.raise_jobs (ch : Chan) (e : Ev) (t n : Option Nat) : (ch.raise e t n).jobs = ch.jobs := (RaiseFrame.raise ch e t n).jobs
@[simp] theorem Chan.raise_jobNum (ch : Chan) (e : Ev) (t n : Option Nat) : (ch.raise e t n).jobNum = ch.jobNum := (RaiseFrame.raise ch e t n).jobNum
@[simp] theorem Chan.raise_chk (ch : Chan) (e : Ev) (t n : Option Nat) : (ch.raise e t n).chk = ch.chk := (RaiseFrame.raise ch e t n).chk
@[simp] theorem Chan.raise_trn (ch : Chan) (e : Ev) (t n : Option Nat) : (ch.raise e t n).trn = ch.trn := (RaiseFrame.raise ch e t n).trn
@[simp] theorem Chan.raise_trnLast (ch : Chan) (e : Ev) (t n : Option Nat) : (ch.raise e t n).trnLast = ch.trnLast := (RaiseFrame.raise ch e t n).trnLast
@[simp] theorem Chan.raise_zlk (ch : Chan) (e : Ev) (t n : Option Nat) : (ch.raise e t n).zlk = ch.zlk := (RaiseFrame.raise ch e t n).zlk
@[simp] theorem Chan.raise_boot (ch : Chan) (e : Ev) (t n : Option Nat) : (ch.raise e t n).boot = ch.boot := (RaiseFrame.raise ch e t n).boot
@[simp] theorem Chan.raise_flash (ch : Chan) (e : Ev) (t n : Option Nat) : (ch.raise e t n).flash = ch.flash := (RaiseFrame.raise ch e t n).flash
@[simp] theorem Chan.raise_fuses (ch : Chan) (e : Ev) (t n : Option Nat) : (ch.raise e t n).fuses = ch.fuses := (RaiseFrame.raise ch e t n).fuses

@[simp] theorem Chan.count_idx (ch : Chan) (k : Nat) (e : Ev) (t : Option Nat) (n : Nat) : (ch.count k e t n).idx = ch.idx :=
  (RaiseFrame.raise _ e t _).idx
@[simp] theorem Chan.count_now (ch : Chan) (k : Nat) (e : Ev) (t : Option Nat) (n : Nat) : (ch.count k e t n).now = ch.now :=
  (RaiseFrame.raise _ e t _).now
@[simp] theorem Chan.count_core (ch : Chan) (k : Nat) (e : Ev) (t : Option Nat) (n : Nat) : (ch.count k e t n).core = ch.core :=
  (RaiseFrame.raise _ e t _).core
@[simp] theorem Chan.count_sid (ch : Chan) (k : Nat) (e : Ev) (t : Option Nat) (n : Nat) : (ch.count k e t n).sid = ch.sid :=
  (RaiseFrame.raise _ e t _).sid
@[simp] theorem Chan.count_rwo (ch : Chan) (k : Nat) (e : Ev) (t : Option Nat) (n : Nat) : (ch.count k e t n).rwo = ch.rwo :=
  (RaiseFrame.raise _ e t _).rwo
@[simp] theorem Chan.count_draws (ch : Chan) (k : Nat) (e : Ev) (t : Option Nat) (n : Nat) : (ch.count k e t n).draws = ch.draws :=
  (RaiseFrame.raise _ e t _).draws
@[simp] theorem Chan.count_host (ch : Chan) (k : Nat) (e : Ev) (t : Option Nat) (n : Nat) : (ch.count k e t n).host = ch.host :=
  (RaiseFrame.raise _ e t _).host
@[simp] theorem Chan.count_port (ch : Chan) (k : Nat) (e : Ev) (t : Option Nat) (n : Nat) : (ch.count k e t n).port = ch.port :=
  (RaiseFrame.raise _ e t _).port
@[simp] theorem Chan.count_pwr (ch : Chan) (k : Nat) (e : Ev) (t : Option Nat) (n : Nat) : (ch.count k e t n).pwr = ch.pwr :=
  (RaiseFrame.raise _ e t _).pwr
@[simp] theorem Chan.count_parser (ch : Chan) (k : Nat) (e : Ev) (t : Option Nat) (n : Nat) : (ch.count k e t n).parser = ch.parser :=
  (RaiseFrame.raise _ e t _).parser
@[simp] theorem Chan.count_flow (ch : Chan) (k : Nat) (e : Ev) (t : Option Nat) (n : Nat) : (ch.count k e t n).flow = ch.flow :=
  (RaiseFrame.raise _ e t _).flow
@[simp] theorem Chan.count_mem (ch : Chan) (k : Nat) (e : Ev) (t : Option Nat) (n : Nat) : (ch.count k e t n).mem = ch.mem :=
  (RaiseFrame.raise _ e t _).mem
@[simp] theorem Chan.count_obs (ch : Chan) (k : Nat) (e : Ev) (t : Option Nat) (n : Nat) : (ch.count k e t n).obs = ch.obs :=
  (RaiseFrame.raise _ e t _).obs
@[simp] theorem Chan.count_ftr (ch : Chan) (k : Nat) (e : Ev) (t : Option Nat) (n : Nat) : (ch.count k e t n).ftr = ch.ftr :=
  (RaiseFrame.raise _ e t _).ftr
@[simp] theorem Chan.count_fst (ch : Chan) (k : Nat) (e : Ev) (t : Option Nat) (n : Nat) : (ch.count k e t n).fst = ch.fst :=
  (RaiseFrame.raise _ e t _).fst
@[simp] theorem Chan.count_eng (ch : Chan) (k : Nat) (e : Ev) (t : Option Nat) (n : Nat) : (ch.count k e t n).eng = ch.eng :=
  (RaiseFrame.raise _ e t _).eng
@[simp] theorem Chan.count_models (ch : Chan) (k : Nat) (e : Ev) (t : Option Nat) (n : Nat) : (ch.count k e t n).models = ch.models :=
  (RaiseFrame.raise _ e t _).models
@[simp] theorem Chan.count_jobs (ch : Chan) (k : Nat) (e : Ev) (t : Option Nat) (n : Nat) : (ch.count k e t n).jobs = ch.jobs :=
  (RaiseFrame.raise _ e t _).jobs
@[simp] theorem Chan.count_jobNum (ch : Chan) (k : Nat) (e : Ev) (t : Option Nat) (n : Nat) : (ch.count k e t n).jobNum = ch.jobNum :=
  (RaiseFrame.raise _ e t _).jobNum
@[simp] theorem Chan.count_chk (ch : Chan) (k : Nat) (e : Ev) (t : Option Nat) (n : Nat) : (ch.count k e t n).chk = ch.chk :=
  (RaiseFrame.raise _ e t _).chk
@[simp] theorem Chan.count_trn (ch : Chan) (k : Nat) (e : Ev) (t : Option Nat) (n : Nat) : (ch.count k e t n).trn = ch.trn :=
  (RaiseFrame.raise _ e t _).trn
@[simp] theorem Chan.count_trnLast (ch : Chan) (k : Nat) (e : Ev) (t : Option Nat) (n : Nat) : (ch.count k e t n).trnLast = ch.trnLast :=
  (RaiseFrame.raise _ e t _).trnLast
@[simp] theorem Chan.count_zlk (ch : Chan) (k : Nat) (e : Ev) (t : Option Nat) (n : Nat) : (ch.count k e t n).zlk = ch.zlk :=
  (RaiseFrame.raise _ e t _).zlk
@[simp] theorem Chan.count_boot (ch : Chan) (k : Nat) (e : Ev) (t : Option Nat) (n : Nat) : (ch.count k e t n).boot = ch.boot :=
  (RaiseFrame.raise _ e t _).boot
@[simp] theorem Chan.count_flash (ch : Chan) (k : Nat) (e : Ev) (t : Option Nat) (n : Nat) : (ch.count k e t n).flash = ch.flash :=
  (RaiseFrame.raise _ e t _).flash
@[simp] theorem Chan.count_fuses (ch : Chan) (k : Nat) (e : Ev) (t : Option Nat) (n : Nat) : (ch.count k e t n).fuses = ch.fuses :=
  (RaiseFrame.raise _ e t _).fuses

/-- A key below 2^32 that is neither CHN_EVQ_CTRL nor VPE_CNT_TELEM_DROP is not written by raising. -/
theorem not_raiseKey {k : Nat} (h : k < 4294967296) (h1 : k ≠ R.CHN_EVQ_CTRL) (h2 : k ≠ R.VPE_CNT_TELEM_DROP) : ¬ raiseKey k := by
  rintro (⟨inst, e⟩ | e)
  · unfold bank at e
    have : R.CHN_EVQ_CTRL < 4294967296 := by decide
    rcases Nat.eq_zero_or_pos inst with hi | hi
    · subst hi; simp at e; exact h1 e
    · have : 4294967296 * 1 ≤ 4294967296 * inst := Nat.mul_le_mul_left _ hi
      omega
  · exact h2 e

end Sys2Proof.Machine
end

