-- ==== Sys2Proof/Laws/Device.lean ====
section
/-!
SUPPORT. Laws/Device.lean: everything a command on one channel can do to the rest of the device, whatever it does to its channel: a
freeze of channels that SUP_FREEZE.follow_fail asks for, and events on the hub die.
-/

namespace Sys2Proof.Machine

open Sys2Proof

theorem Agrees.refl (a : Chan) : Agrees a a := by constructor <;> intros <;> rfl

theorem Agrees.trans {a b c : Chan} (h : Agrees a b) (g : Agrees b c) : Agrees a c where
  idx := g.idx.trans h.idx
  now := g.now.trans h.now
  core := g.core.trans h.core
  sid := g.sid.trans h.sid
  rwo := g.rwo.trans h.rwo
  draws := g.draws.trans h.draws
  host := g.host.trans h.host
  port := g.port.trans h.port
  pwr := g.pwr.trans h.pwr
  parser := g.parser.trans h.parser
  flow := g.flow.trans h.flow
  mem := g.mem.trans h.mem
  ftr := g.ftr.trans h.ftr
  fst := g.fst.trans h.fst
  vpe := g.vpe.trans h.vpe
  eng := g.eng.trans h.eng
  models := g.models.trans h.models
  jobs := g.jobs.trans h.jobs
  jobNum := g.jobNum.trans h.jobNum
  chk := g.chk.trans h.chk
  trn := g.trn.trans h.trn
  trnLast := g.trnLast.trans h.trnLast
  zlk := g.zlk.trans h.zlk
  boot := g.boot.trans h.boot
  flash := g.flash.trans h.flash
  fuses := g.fuses.trans h.fuses
  rd := fun k hk => (g.rd k hk).trans (h.rd k hk)

theorem Agrees.raise (a : Chan) (e : Ev) (t n : Option Nat) : Agrees a (a.raise e t n) := by
  have h := RaiseFrame.raise a e t n
  constructor
  case rd => intro k hk; exact h.rd k (fun e => hk (.inl e))
  case idx => exact h.idx
  case now => exact h.now
  case core => exact h.core
  case sid => exact h.sid
  case rwo => exact h.rwo
  case draws => exact h.draws
  case host => exact h.host
  case port => exact h.port
  case pwr => exact h.pwr
  case parser => exact h.parser
  case flow => exact h.flow
  case mem => exact h.mem
  case ftr => exact h.ftr
  case fst => exact h.fst
  case vpe => exact h.vpe
  case eng => exact h.eng
  case models => exact h.models
  case jobs => exact h.jobs
  case jobNum => exact h.jobNum
  case chk => exact h.chk
  case trn => exact h.trn
  case trnLast => exact h.trnLast
  case zlk => exact h.zlk
  case boot => exact h.boot
  case flash => exact h.flash
  case fuses => exact h.fuses

theorem Agrees.wr (a : Chan) {k : Nat} (v : Word) (h : settleKey k) : Agrees a (a.wr k v) := by
  constructor
  case rd => intro j hj; exact a.rd_wr_ne v (fun e => hj (e ▸ h))
  all_goals rfl

theorem Agrees.obs (a : Chan) (o : Obs) : Agrees a { a with obs := o } := by constructor <;> intros <;> rfl

theorem Agrees.freeze (a : Chan) (cause : FreezeCause) : Agrees a (a.freeze cause) := by
  have h1 : settleKey R.OBS_FREEZE := .inr (.inl rfl)
  have h2 : settleKey R.OBS_FREEZE_TIME := .inr (.inr (.inl rfl))
  have h3 : settleKey R.OBS_CNT_FREEZES := .inr (.inr (.inr rfl))
  unfold Chan.freeze
  split
  · exact .refl a
  · exact (((((Agrees.obs a _).trans (.wr _ _ h1)).trans (.wr _ _ h1)).trans (.wr _ _ h2)).trans (.wr _ _ h3)).trans
      (.raise _ _ _ _)

/-- A channel of the mask that is powered is frozen, any other is as it was. -/
theorem State.freezeMask_chan (s : State) (m : Nat) (d : Fin 8) :
    (s.freezeMask m).chan d = if m.testBit (s.chan d).idx ∧ (s.chan d).isOn = true then (s.chan d).freeze .sup else s.chan d := by
  simp only [State.freezeMask, State.chan, Fin.getElem_fin, Vector.getElem_map]
  congr

theorem State.hubMsg_chan (s : State) (c d : Fin 8) (x : HubMsg) : Agrees (s.chan d) ((s.hubMsg c x).chan d) := by
  cases x with
  | event e => exact .refl _
  | failStop =>
    unfold State.hubMsg
    dsimp only
    split
    · rw [State.freezeMask_chan]
      split
      · exact .freeze _ _
      · exact .refl _
    · exact .refl _

theorem State.hubMsgs_chan (l : List HubMsg) (s : State) (c d : Fin 8) :
    Agrees (s.chan d) ((l.foldl (fun s m => s.hubMsg c m) s).chan d) := by
  induction l generalizing s with
  | nil => exact .refl _
  | cons x r ih => exact (s.hubMsg_chan c d x).trans (ih _)

/-- The channel a command acts on is as the command left it, but for a freeze. -/
theorem State.onChan_same (s : State) (c : Fin 8) (f : Chan → Chan) : Agrees (f (s.chan c)) ((s.onChan c f).chan c) := by
  unfold State.onChan State.flush
  have h := State.hubMsgs_chan (f (s.chan c)).toHub
    ((s.setChan c (f (s.chan c))).setChan c { f (s.chan c) with toHub := [] }) c c
  rw [State.setChan_chan_same] at h
  have g : Agrees (f (s.chan c)) { f (s.chan c) with toHub := [] } := by constructor <;> intros <;> rfl
  have e : ((s.setChan c (f (s.chan c))).chan c) = f (s.chan c) := State.setChan_chan_same _ _ _
  rw [e]
  exact g.trans h

/-- Every other channel is as it was, but for a freeze. -/
theorem State.onChan_other (s : State) {c d : Fin 8} (f : Chan → Chan) (hd : d ≠ c) :
    Agrees (s.chan d) ((s.onChan c f).chan d) := by
  unfold State.onChan State.flush
  have h := State.hubMsgs_chan ((s.setChan c (f (s.chan c))).chan c).toHub
    ((s.setChan c (f (s.chan c))).setChan c { (s.setChan c (f (s.chan c))).chan c with toHub := [] }) c d
  rw [State.setChan_chan_ne _ _ _ _ hd, State.setChan_chan_ne _ _ _ _ hd] at h
  exact h

/-- A register write that reaches its register does there what the register does with it, and nothing else. -/
theorem State.writeRow_reaches (s : State) (src : Option (Fin 17)) (c : Fin 8) (off : Nat) (v : Word) (f : Chan → Chan)
    (h : s.reaches src c off = true) : s.writeRow src c off v f = s.onChan c f := by
  have key : ∀ g : Chan → Chan, g (s.chan c) = f (s.chan c) → s.onChan c g = s.onChan c f := by
    intro g hg; unfold State.onChan; rw [hg]
  unfold State.reaches at h
  unfold State.writeRow
  cases src with
  | none =>
    apply key
    simp only at h ⊢
    rw [if_pos h]
  | some inst =>
    simp only [Bool.and_eq_true] at h
    obtain ⟨⟨⟨⟨h1, h2⟩, h3⟩, h4⟩, h5⟩ := h
    have h4' : ¬ (2 ≤ (s.chan c).pwrState) := by simpa using h4
    simp only [State.hostAct, h4', if_false]
    apply key
    have h3' : ((s.chan c).boot.quarantined && !(inst.val == 0 && off % 8 == 0 && (s.chan c).quarantineWrite off v)) = false := by
      have q := (Bool.not_eq_true' _).mp h3
      unfold Chan.quarantineWrite
      cases hb : (s.chan c).boot.quarantined <;> simp_all
    have h12 : (!(s.chan c).isOn || !(s.chan c).fnLive inst.val) = false := by simp [h1, h2]
    simp only [Chan.viaHost, h12, h3', h4', if_false, Bool.false_eq_true]
    unfold Chan.reachWrite
    by_cases hi : inst.val = 0
    · rw [if_pos hi] at h5
      have h5' : (obsPriv off && !s.priv c) = false := (Bool.not_eq_true' _).mp h5
      simp [hi, h5']
    · rw [if_neg hi] at h5
      have h5' : (s.chan c).vfReach inst.val off = .own := by simpa using h5
      simp [hi, h5']

theorem State.hubMsg_pack (s : State) (c : Fin 8) (x : HubMsg) : (s.hubMsg c x).pack = s.pack := by
  cases x with
  | event e => rfl
  | failStop => unfold State.hubMsg; dsimp only; split <;> rfl

theorem State.hubMsg_pending (s : State) (c : Fin 8) (x : HubMsg) : (s.hubMsg c x).pending = s.pending := by
  cases x with
  | event e => rfl
  | failStop => unfold State.hubMsg; dsimp only; split <;> rfl

theorem State.hubMsgs_pack (l : List HubMsg) (s : State) (c : Fin 8) : (l.foldl (fun s m => s.hubMsg c m) s).pack = s.pack := by
  induction l generalizing s with
  | nil => rfl
  | cons x r ih => exact (ih _).trans (s.hubMsg_pack c x)

theorem State.hubMsgs_pending (l : List HubMsg) (s : State) (c : Fin 8) :
    (l.foldl (fun s m => s.hubMsg c m) s).pending = s.pending := by
  induction l generalizing s with
  | nil => rfl
  | cons x r ih => exact (ih _).trans (s.hubMsg_pending c x)

@[simp] theorem State.onChan_pack (s : State) (c : Fin 8) (f : Chan → Chan) : (s.onChan c f).pack = s.pack :=
  State.hubMsgs_pack _ _ _

@[simp] theorem State.onChan_pending (s : State) (c : Fin 8) (f : Chan → Chan) : (s.onChan c f).pending = s.pending :=
  State.hubMsgs_pending _ _ _

@[simp] theorem State.onChan_hubRuns (s : State) (c : Fin 8) (f : Chan → Chan) : (s.onChan c f).hubRuns = s.hubRuns := by
  unfold State.hubRuns; rw [State.onChan_pack]

theorem Hub.ringEvent_rd (h : Hub) (r : EvRec) {k : Nat} (hk : k ≠ R.HIF_EVQ_CONS) : (h.ringEvent r).rd k = h.rd k := by
  unfold Hub.ringEvent
  extract_lets n prod ph ph' src ev h1 h2
  have hw : h2.rd k = h.rd k := Hub.rd_wr_ne _ _ hk
  split
  · rfl
  · split
    · exact Hub.rd_wr_ne _ _ hk
    · split
      · exact hw
      · exact hw

/-- The registers of the hub die but its event ring are as they were. -/
theorem Hub.raise_rd (h : Hub) (e : Ev) {k : Nat} (hk : k ≠ R.HIF_EVQ_CONS) : (h.raise e).rd k = h.rd k := by
  unfold Hub.raise
  generalize h.ev.allow e.id h.now = p
  obtain ⟨ok, supp, ev⟩ := p
  cases ok
  · rfl
  · exact Hub.ringEvent_rd _ _ hk

theorem State.hubMsg_hub (s : State) (c : Fin 8) (x : HubMsg) {k : Nat} (hk : k ≠ R.HIF_EVQ_CONS) :
    (s.hubMsg c x).hub.rd k = s.hub.rd k := by
  cases x with
  | event e => exact Hub.raise_rd _ e hk
  | failStop => unfold State.hubMsg; dsimp only; split <;> rfl

/-- With SUP_FREEZE.follow_fail clear no other channel is touched at all. -/
theorem State.hubMsgs_chan_eq (l : List HubMsg) (s : State) (c d : Fin 8)
    (h : s.hub.flag R.SUP_FREEZE F.SUP_FREEZE_follow_fail = false) :
    (l.foldl (fun s m => s.hubMsg c m) s).chan d = s.chan d := by
  induction l generalizing s with
  | nil => rfl
  | cons x r ih =>
    have hk : (s.hubMsg c x).hub.rd R.SUP_FREEZE = s.hub.rd R.SUP_FREEZE := s.hubMsg_hub c x (by decide)
    have hf : (s.hubMsg c x).hub.flag R.SUP_FREEZE F.SUP_FREEZE_follow_fail = false := by
      simpa [Hub.flag, Hub.fld, hk] using h
    refine (ih _ hf).trans ?_
    cases x with
    | event e => rfl
    | failStop =>
      unfold State.hubMsg
      simp [h]

theorem State.onChan_other_eq (s : State) {c d : Fin 8} (f : Chan → Chan) (hd : d ≠ c)
    (h : s.hub.flag R.SUP_FREEZE F.SUP_FREEZE_follow_fail = false) : (s.onChan c f).chan d = s.chan d := by
  unfold State.onChan State.flush
  rw [State.hubMsgs_chan_eq _ _ _ _ (by simpa using h), State.setChan_chan_ne _ _ _ _ hd, State.setChan_chan_ne _ _ _ _ hd]

end Sys2Proof.Machine
end

