-- ==== Sys2Proof/Machine/Functions.lean ====
section
/-!
DEFINITION. Machine/Functions.lean: the PCIe functions that the host port presents (R362, R365): what each reports of itself, where its
registers and its MSI-X table lie, and which vectors it has (Table 14.6). What PCIe itself gives every function is not repeated here
(R19; Scope in NOTES.md).
-/

namespace Sys2Proof.Machine

open Sys2Proof

/-- A function of the port (Table 14.1): PF0, the physical function of a channel, or a virtual function of a channel. -/
inductive PcieFn where
  | hub
  | pf (c : Fin 8)
  | vf (c : Fin 8) (i : Fin 16)
  deriving DecidableEq, Repr

/-- Class code of every function: processing accelerator (R362). -/
def pcieClass : Nat := 0x120000

/-- Routing function number (Table 14.1). -/
def PcieFn.routing : PcieFn → Nat
  | .hub => 0
  | .pf c => c + 1
  | .vf c i => 9 + 16 * c + i

/-- Device ID (Table 14.1). -/
def PcieFn.deviceId : PcieFn → Nat
  | .hub => 0x8800
  | .pf _ => 0x8801
  | .vf .. => 0x8802

/-- The SR-IOV capability of a channel's physical function: TotalVFs, First VF Offset and VF Stride; PF0 and the VFs have none (R362). -/
def PcieFn.sriov : PcieFn → Option (Nat × Nat × Nat)
  | .pf c => some (16, 8 + 15 * c, 1)
  | _ => none

/-- Bytes of BAR0 (Table 14.2). -/
def PcieFn.bar0 : PcieFn → Nat
  | .hub => 16777216
  | _ => 67108864

/-- Bytes of BAR2 (Table 14.2). -/
def PcieFn.bar2 : PcieFn → Nat
  | .vf .. => 16384
  | _ => 65536

/-- MSI-X vectors (Table 14.2). -/
def PcieFn.vectors : PcieFn → Nat
  | .hub => 4
  | .pf _ => 16
  | .vf .. => 8

/-- Where the MSI-X table and the pending-bit array lie in BAR2 (R365). -/
def PcieFn.msixTable (_ : PcieFn) : Nat := 0
def PcieFn.msixPending (f : PcieFn) : Nat := f.bar2 / 2

/-- A vector that Table 14.6 lists; others are never sent (R376). -/
def PcieFn.listed (f : PcieFn) (vec : Nat) : Bool :=
  match f with
  | .hub => decide (vec < 3)
  | .pf _ => decide (vec < 9)
  | .vf .. => decide (vec < 8)

/-- The function that an instance number of channel `c` stands for: 0 its physical function, i + 1 its VF of local tenant i. -/
def instFn (c : Fin 8) (inst : Nat) : PcieFn := if inst = 0 then .pf c else .vf c (Fin.ofNat 16 (inst - 1))

end Sys2Proof.Machine
end

