-- ==== Sys2Proof/WellFormed.lean ====
section
/-!
DEFINITION. WellFormed.lean: which commands can occur: offsets on 8-byte places, records and frames of their lengths, bit
numbers and indices in range. A command that is not well-formed is never sent by what surrounds the device.
-/

namespace Sys2Proof

/-- Every register is 8 bytes on an 8-byte boundary of a BAR of at most 64 MiB (R11, R365). -/
def registerOffsetOk (off : Nat) : Bool := decide (off % 8 = 0 ∧ off < 0x4000000)

/-- An alignment group carries the eight align numbers, one a lane (R50). -/
def laneOrderOk (order : List Nat) : Bool := decide (order.length = 8) && (List.range 8).all fun i => order.contains i

/-- A block of a codeword group: a two-bit header code and 64 bytes (R344). -/
def blockOk (b : Nat × List Byte) : Bool := decide (b.1 < 4 ∧ b.2.length = 64)

/-- A function instance has the queue: the physical function all four, a VF queue 0 (R370). -/
def queueOk (src : Option (Fin 17)) (q : Fin 4) : Bool :=
  match src with
  | some i => decide (i.val = 0 ∨ q.val = 0)
  | none => true

/-- A message's payload is whole words (R349). -/
def payloadOk (payload : List Byte) : Bool := decide (payload.length % 16 = 0)

/-- The command can occur. -/
def Instr.wellFormed : Instr → Bool
  | .registerWrite _ off _ _ => registerOffsetOk off
  | .descriptorReceive _ bytes _ => decide (bytes.length ≤ 192)
  | .mirrorDescriptorFrame _ bytes => decide (32 ≤ bytes.length)
  | .alignGroupReceive _ order => laneOrderOk order
  | .camWindowWrite _ _ _ word _ => decide (word.val ≠ 20)
  | .camEntryUpset _ _ bits => bits.all fun b => decide (b < 1361)
  | .tierReadReturn _ _ _ len _ _ => decide (0 < len.toNat)
  | .zlkIdentityReceive _ _ _ port _ _ _ => decide (port.toNat < 3)
  | .zlkGroupReceive _ _ _ _ blocks => blocks.all blockOk
  | .pad _ _ _ payload => payload.isEmpty
  | .share _ _ _ payload => payloadOk payload
  | .retract _ _ _ payload => payloadOk payload
  | .epochClose _ _ _ payload => payloadOk payload
  | .batch _ _ _ payload => payloadOk payload
  | .pass _ _ _ payload => payloadOk payload
  | .digest _ _ _ payload => payloadOk payload
  | .decision _ _ _ payload => payloadOk payload
  | .ckptReq _ _ _ payload => payloadOk payload
  | .ckptData _ _ _ payload => payloadOk payload
  | .timeProbe _ _ _ payload => payloadOk payload
  | .timeResp _ _ _ payload => payloadOk payload
  | .dmaDoorbell _ src q _ => queueOk src q
  | .dmaCommandStart _ inst q entry => queueOk (some inst) q && decide (entry.length = 32)
  | .dmaCommandComplete _ inst q _ _ _ => queueOk (some inst) q
  | .dmaHostTimeout _ inst q _ => queueOk (some inst) q
  | .dozeAccessWake _ _ off _ => registerOffsetOk off
  | .lodestarRestartComplete _ flips => flips.all fun f => decide (f.1 < 524288)
  | .traceSample _ pcs => decide (pcs.length = 8)
  | .todMessage _ bytes => decide (bytes.length = 16)
  | .foreignFrame _ | .mirrorReservedFrame _ | .pauseFrameReceive _ | .pauseRepeat _ | .timeWordReceive _ _ _
  | .ignoredControlWord _ | .deviceTimeWordSend _ | .alignGroupSend _ | .pdpPortEnable _ _ | .pdpPortDisable _ _
  | .pdpLanesAligned _ | .pdpAlignmentLost _ _ | .crfResetHighWater _ _ | .descriptorDispatch _ _ _ | .maintenanceForce _
  | .flowFillComplete _ _ _ | .coldFetchComplete _ _ | .flowParityInvalidate _ | .entityFillComplete _ _ _ _ _
  | .pendingKeyExpire _ | .insertCommand _ | .promotion _ | .agePeriodStart _ _ | .sweepVisit _ _ | .flwLockRequest _ _ _
  | .flwLockRelease _ _ _ | .flwReleaseComplete _ | .lockMaxHoldExpire _ | .lockTimeout _ | .flwRegionWrite _ _ _ _ _
  | .flwRegionRemove _ _ _ | .prsIndRead _ _ _ | .prsIndWrite _ _ _ | .ldsNoteConsWrite _ _ _ _ | .ldsInsProdWrite _ _ _ _
  | .ftrProgWrite _ _ _ _ | .ftrProgLoaded _ _ | .fstEnsWrite _ _ _ _ _ | .camWindowCommit _ _ _ _ | .leafCamRepair _
  | .ensembleBankRelease _ _ | .mxePartWrite _ _ _ _ _ | .rvuPageOwnerWrite _ _ _ _ _ | .mma _ _ _ | .mmt _ _ _ | .mvr _ _ _
  | .qnt _ _ _ | .dqt _ _ _ | .rot _ _ _ | .act _ _ _ | .gather _ _ _ | .forest _ | .drain _ _ _ | .sync _ _ _
  | .standbyStageComplete _ _ _ | .standbyWriteComplete _ _ | .mxeRowLand _ _ _ _ | .chainReplay _ _ | .mvrOutputReady _ _ _
  | .rampDownStep _ _ | .drainSwap _ _ | .drainReadComplete _ _ | .chainSave _ _ | .acuAbort _ _ _ | .batchClose _ _
  | .runStart _ _ | .runComplete _ _ | .stageRequest _ _ _ | .stageComplete _ _ | .swap _ _ _ | .discard _ _ _
  | .unload _ _ _ | .swapTakeEffect _ _ | .sideRelease _ _ | .sealRefetchComplete _ | .forestCheckComplete _ _
  | .verdictTransmit _ | .retractTransmit _ | .epochBoundary _ | .epochCloses _ | .peerEpochDeadline _
  | .selfTestComplete _ _ | .remapComplete _ | .bankRebuildComplete _ | .chkUnfence _ _ _ | .chkUnfenceBanks _ _ _
  | .chkVmodeWrite _ _ _ | .digestRecheck _ | .sweepTestStart _ _ | .sweepTestComplete _ _ _ | .sweepYield _ | .scrubVisit _
  | .feederSendBatch _ _ | .feederSendPass _ _ | .trainingStepStart _ _ | .trainingStepComplete _ _
  | .checkpointDigestReady _ _ | .voteTimeout _ _ | .expelSelfTestComplete _ _ _ | .publication _ _
  | .trnContextEnable _ _ _ _ | .gateEntryStart _ | .vpeGateCommit _ _ _ | .gateListSwitch _ | .wfqIssue _ _
  | .forestReentry _ | .vpeIndRead _ _ _ | .vpeIndWrite _ _ _ | .vpeGroupWrite _ _ _ _ | .vpeTpolWrite _ _ _ _
  | .vpeShpWrite _ _ _ _ _ | .hostQueueSend _ _ _ | .shaperRefillTick _ | .tierRequestTimeout _ _ _ _ _
  | .memRegionWrite _ _ _ _ _ | .zeroFillComplete _ _ | .tenantErase _ _ _ | .eraseComplete _ | .t2Evacuate _ _
  | .evacuationComplete _ | .t2DimmPowerWrite _ _ _ | .t2Restore _ _ | .t2RestoreComplete _ _ | .t2ModuleFail _ _
  | .t2PatrolScrub _ _ | .t3LinkDown _ | .t3LinkUp _ _ | .zlkPortEnable _ _ _ | .zlkPortDisable _ _ _ | .zlkLanesAligned _ _
  | .zlkLinkLoss _ _ | .zlkAckReceive _ _ _ _ | .zlkCreditReceive _ _ _ _ | .zlkReservedControl _ _ | .zlkProbeTimer _ _
  | .flrChannelPf _ | .flrVf _ _ | .vfEnableChange _ _ _ | .hostLinkUp _ _ _ | .malformedTlp _ | .channelNoAnswer _
  | .tenantCreate _ _ _ _ | .hifCounterRead _ | .msixHoldoffExpire _ _ _ | .bootStart _ _ _ | .bootConfigApply _ _
  | .bootReady _ | .bootTrialTimeout _ | .program _ | .programComplete _ _ | .activate _ | .commitSv _ | .programSlot _ _ _
  | .revokeSlot _ _ _ | .programDeviceId _ _ | .attestRequest _ _ _ | .attestRelease _ | .idleEntry _ | .idleExit _
  | .pwrGoRun _ _ | .pwrGoDoze _ _ | .pwrGoVault _ _ | .powerEntryComplete _ | .wakeComplete _ | .pwrOppRequest _ _ _
  | .oppSwitch _ | .oppRampComplete _ | .thermalSample _ _ _ _ _ | .throttleStep _ | .floorRaiseStep _ | .watchFrameSend _
  | .watchFrameReceive _ _ _ | .watchFrameMiss _ _ | .lodestarWatchdog _ | .lodestarReset _ | .safeServeEnd _
  | .dispatchStall _ | .safeServeTimeout _ | .vddChFault _ | .corePllUnlock _ | .lodestarFailDeclare _ | .channelDownRepeat _
  | .autoRestart _ | .channelRampStart _ _ | .channelPowerOn _ | .channelPowerOff _ | .channelReset _ | .obsFreeze _ _
  | .obsUnfreeze _ _ | .obsArm _ _ | .timedFreeze _ | .supFreeze _ _ | .supUnfreeze _ _ | .obsMarkerWrite _ _ _
  | .runHung _ _ | .telemetrySummary _ | .hangDeclare _ _ | .dumpStart _ _ _ | .dumpQuiesceTimeout _ | .dumpComplete _
  | .obsDebugWrite _ _ _ | .ppsEdge _ | .ppsLost _ | .samplePreload _ _ | .uncorrectableCodeword _ _ _ _ | .idleControlWord _
  | .d3hot _ _ | .hostPortReset | .flrPf0 | .hostLinkDown | .unsupportedRequest | .supWatchdogRestart | .hifCounterReadDone
  | .vinLow | .vinRecovered | .packagePowerOn | .tapReset | .extest | .extestPulse | .extestTrain | .clamp | .highz | .bypass
  | .pornLow | .vinPowerLoss => true

end Sys2Proof
end

