-- ==== Sys2Proof/Tests/Slice0.lean ====
section
/-! SUPPORT. Tests of the model, and for every clause of a statement a state and operands that meet its hypotheses. -/

set_option maxRecDepth 100000
set_option Elab.async false
set_option linter.unusedVariables false

namespace Sys2Proof.Tests

open Sys2Proof Sys2Proof.Machine

/-! ## Sample states -/

/-- A channel that is powered, out of reset and READY, one second after power-on. -/
def liveChan : Chan := { idx := 0, now := 63000000000, pwr := { power := .on, ready := true }, boot := { state := .ready } }

/-- The device with channel 0 as `f` makes it from a live channel. -/
def st (f : Chan → Chan) : State := State.reset.setChan 0 (f liveChan)

def live : State := st id

/-- Tenant 0 of channel 0 exists. -/
def withTenant (ch : Chan) : Chan := ch.setFlag (R.CHN_TENANT 0) F.CHN_TENANT_exists true

/-- A native descriptor record of tenant 0 with an empty slice: six words. -/
def descBytes : List Byte :=
  let b : List Byte := List.replicate 92 0
  b ++ beBytes 4 (crc32c b).toNat

def goodDesc : State :=
  st fun ch =>
    let a := (withTenant (ch.setLink 3)).wr R.CRF_CREDIT 100
    { a with port := { a.port with framing := .ok, seqValid := true } }

/-- A mirror-mode frame of tenant 0 with a slice of 60 bytes. -/
def frameBytes : List Byte :=
  let b : List Byte := List.replicate 12 0 ++ [0x88, 0xB5, 1, 1] ++ List.replicate 15 0 ++ [60] ++ List.replicate 60 7
  b ++ leBytes 4 (crc32 b).toNat

def goodMirror : State := st fun ch => (withTenant (ch.setLink 3)).setFlag R.PDP_CTRL F.PDP_CTRL_mode true

/-- A descriptor that stands for 480,000 words of the Carafe. -/
def bigDesc : Desc := { md := metaOf [], slice := [], words := 480000, arrived := 0, time := 0 }

def smallDesc : Desc := { md := metaOf [], slice := [], words := 6, arrived := 0, time := 0 }

/-- A flow record of tenant 0, IPv4 TCP, handle 1, valid with good parity; and the same with a bit of its key upset. -/
def goodRec : List Byte := recParity (List.replicate 38 0 ++ [1, 0, 1, 0, 0, 0, 1, 0, 0, 0] ++ List.replicate 80 0)
def badRec : List Byte := putBytes goodRec 0 [1]

def lock0 : Lock := { tenant := 0, table := 0, bucket := 5, holder := 0, at_ := 0 }
def coldLookup : Lookup := { job := 0, tenant := 0, key := slice goodRec 0 40, b1 := 0, b2 := 1, at_ := 0, cold := true }
def job0 : Job := { id := 0, laneB := false, desc := smallDesc, stage := .parked, tenant := 0 }

/-- Tenant 0 with a flow region and an enabled cold table in a T2 that serves. -/
def coldSetup (ch : Chan) : Chan :=
  (((withTenant ch).setFld (R.FLW_REGION_A 0) F.FLW_REGION_A_log2_buckets 12).setFlag (R.FLW_REGION_B 0) F.FLW_REGION_B_cold_enable
    true).setFld R.MEM_STATUS F.MEM_STATUS_t2_state 0
def coldBucket : Nat := 0
/-- Both buckets of that table written: one record, in way 2 of bucket 0. -/
def coldTable (ch : Chan) (bs : List Byte) : Chan :=
  { coldSetup ch with mem := { keys := [(0, 1)], keyGen := 1, t2 := bs.zipIdx.map fun p => (p.2, { gen := 1, val := p.1 }) } }
def coldBytes : List Byte := List.replicate 256 0 ++ goodRec ++ List.replicate 640 0
def coldState : State := st fun ch =>
  let a := coldTable ch coldBytes
  { a with flow := { a.flow with miss := [coldLookup] } }
def promoState : State := st fun ch =>
  let a := coldTable ch coldBytes
  { a with flow := { a.flow with promote := [(0, goodRec)] } }
def insState : State := st fun ch =>
  (((withTenant ch).setFld (R.FLW_REGION_A 0) F.FLW_REGION_A_log2_buckets 12).setBytes 0 0 0 goodRec).setFld (R.LDS_INS_IDX 0)
    F.LDS_INS_IDX_prod 1

def promoWait : State := st fun ch =>
  let a := coldTable ch coldBytes
  { a with flow := { a.flow with promote := [(0, goodRec)], miss := [coldLookup] } }
def promoTry (s : State) : Ins × Chan :=
  let ch := s.chan 0
  Chan.insertTry false 0 (recParity (recBit goodRec 4 false)) 3 { ch with flow := { ch.flow with promote := [] } }
def promoMid : Chan :=
  (((promoTry promoWait).2.unpend 0 (recKey goodRec)).putCold 0 coldBucket 2 (recParity (recBit goodRec 0 false))).insResult 17 0 0
def promoHit : Nat × Nat × List Byte :=
  match (promoMid.leaveMiss 0).findRec 0 (recKey goodRec) true with | some z => z | none => (0, 0, [])
/-- The same cold table without a record, and a lookup waiting for its fetch. -/
def coldEmpty : State := st fun ch =>
  let a := coldTable ch (List.replicate 1024 0)
  { a with flow := { a.flow with miss := [coldLookup] } }

/-- The same cold table with a record of another key that fails parity. -/
def coldBad : State := st fun ch =>
  let a := coldTable ch (List.replicate 128 0 ++ badRec ++ List.replicate 768 0)
  { a with flow := { a.flow with miss := [coldLookup], maint := [(.invalidate true 0 1 0 (recKey badRec), 0)] } }

/-- Bank 0 belongs to ensemble 0 of slot 0's side 0, which has a golden image; entry 5 waits for its repair. -/
def goldenState : State := st fun ch =>
  { (ch.wr (R.FST_ENS_BANKS 0) 1).setFlag R.FST_CTRL F.FST_CTRL_repair_enable true with
    fst := { repairs := [(5, 0)], golden := [(0, some { slot := 0, side := 0 })] }, models := { sides := [(0, { ens := some 0 })] } }
def goldenA : Chan :=
  let ch := goldenState.chan 0
  { ch with fst := { ch.fst with repairs := [] } }.repairStatus
def goldenX : CamEntry := camOfBits (Config.camEntry [] 5)

/-- Slot 0, of tenant 0 and enabled, has a NEURAL side 0 with one command of an opcode, and a run of one descriptor. -/
def run0 : Run := { number := 0, at_ := 0, m := 1, jobs := [] }
def oneCmd (op : Nat) : Side :=
  { header := putBytes (List.replicate 256 0) 44 [1], program := putBytes (List.replicate 64 0) 0 [byte op] }
def withSide (s : Side) (ch : Chan) : Chan :=
  { ch.setFld (R.CHN_SLOT_CFG 0) F.CHN_SLOT_CFG_kind 1 with models := { sides := [(0, s)], runs := [(0, { run := some run0 })] } }
def seqState (op : Nat) : State := st (withSide (oneCmd op))
def seqX (op : Nat) : Bool × Chan := ((seqState op).chan 0).loadTables 0 0 0
def seqA (op : Nat) : Chan :=
  let ch := (seqState op).chan 0
  let x := seqX op
  x.2.setRun 0 { run0 with
    next := 1, live := [{ index := 0, at_ := x.2.now, reads := (ch.cmdRanges 0 0 1 0).1, writes := (ch.cmdRanges 0 0 1 0).2 }] }

/-- Slot 0 with a GATHER: the side, and the same with a window too small for its row. -/
def seqFar : State := st fun ch =>
  let a := withSide { header := putBytes (List.replicate 256 0) 44 [1], program := putBytes (List.replicate 64 0) 0 (8 :: List.replicate 19 0 ++ [255, 255, 255, 255]) } ch
  a
def seqX8 (s : State) : Bool × Chan := (s.chan 0).loadTables 0 0 0
def seqA8 (s : State) : Chan :=
  let ch := s.chan 0
  let x := seqX8 s
  x.2.setRun 0 { run0 with
    next := 1, live := [{ index := 0, at_ := x.2.now, reads := (ch.cmdRanges 0 0 1 0).1, writes := (ch.cmdRanges 0 0 1 0).2 }] }

/-- Partition 31 as given, beside a side of one MMA. -/
def partState (p : Part) : State := st fun ch => { withSide (oneCmd 1) ch with eng := { parts := [(31, p)] } }
def sbStaging : Standby := { ctx := 0, run := 0, index := 0, phase := .staging, at_ := 0 }
def redo0 : Redo := { ctx := 0, run := 0, ops := [(31, 0, 0)], fails := 1, restart := some 0 }
def tile0 : Tile :=
  { part := 0, ctx := 0, run := 0, tenant := 0, format := 1, width := 256, rows := 2, cols := 1, group := [0], ops := [], issued := 0, shift := 0
    firstAt := 0 }
def w0 : Weights := { tenant := 0, slot := 0, side := 0, run := 0, addr := 0, format := 1, narrow := false, data := [], sums := none }
def flight0 : Flight := { ctx := 0, run := 0, index := 0, issued := 0, landed := 0, rows := 2, shift := 0, w := w0 }
def landSt (fl : Flight) : State := st fun ch =>
  { withSide { header := [], program := putBytes (List.replicate 64 0) 0 [1, 0, 0, 0, 0, 0, 0, 0, 12, 1] } ch with
    eng := { parts := [(3, { flights := [fl] })], tiles := [(0, some { tile0 with part := 3, group := [3] })] } }
def landA (s : State) : Chan :=
  let ch := s.chan 0
  ((ch.modPart 3 fun p => p.modFlight fun x => { x with landed := x.landed + 1 }).inc (R.MXE_CNT_ROWS 0)).noteLanding 3
    (match (ch.part 3).flights with | fl :: _ => fl | [] => flight0) ((ch.side 0).cmd 0)
def landTile : Tile := { tile0 with part := 3, group := [3], landAt := some (live.chan 0).now }
def drain0 (swap : Option Nat) : DrainSlot := { ctx := 0, run := 0, index := 0, tile := 0, taken := 0, swap := swap }
def drainSt (dest : Nat) (swap : Option Nat) : State := st fun ch =>
  { (withSide (oneCmd 0x0A) ch).setBytes 0 0 0 (byte dest :: List.replicate 63 0) with
    eng := { parts := [(0, { drain := some (drain0 swap) })], tiles := [(0, some tile0)] } }
def drainState (swap : Option Nat) : State := drainSt 1 swap
/-- A chain of one operation, on partition 0, that is to restart. -/
def replayTile : Tile := { tile0 with ops := [(0, 0)], issued := 0, restart := some 0 }
def replayState : State := st fun ch => { withSide (oneCmd 1) ch with eng := { parts := [(0, {})], tiles := [(0, some replayTile)] } }
def replayLoad : Option (List Weights) × Chan := (replayState.chan 0).reloadAll 0 0 [(0, 0, 0)]
def redoLoad : Option (List Weights) × Chan := ((partState { redo := [redo0] }).chan 0).reloadAll 0 0 redo0.ops
/-- A cut chain whose tenant has a save area at 0. -/
def saveState : State := st fun ch =>
  { (((withSide (oneCmd 1) ch).setFlag (R.ACU_SAVE_BASE 0) F.ACU_SAVE_BASE_valid true).setFlag R.VPE_GATE_CTRL F.VPE_GATE_CTRL_enable true) with
    vpe := { gate := { lists := [(0, { mxe := [1, 0, 0, 0] })], oper := some { cycle := 1, count := 1, start := 0 } } }
    eng := { parts := [(0, {})], tiles := [(0, some { tile0 with cut := true })] } }
def cutState : State := st fun ch =>
  { ((withSide (oneCmd 1) ch).setFlag R.ACU_CTRL F.ACU_CTRL_slot_mode true).setFlag R.VPE_GATE_CTRL F.VPE_GATE_CTRL_enable true with
    vpe := { gate := { lists := [(0, { mxe := [1, 0, 0, 0] })], oper := some { cycle := 1, count := 1, start := 0 } } }
    eng := { parts := [(0, {})], tiles := [(0, some { tile0 with cut := true })] } }
/-- MXE_PART of an engine whose four quadrants are tenant 0's. -/
def partOwn : Word := (List.range 4).foldl (fun w q => setF w (F.MXE_PART_assigned q) 1) 0
def dot0 : Dot := { ctx := 0, run := 0, index := 0, issued := 0, next := 0, total := 2 }

/-- An MVR of 16 by 2 INT8 on unit 0, whose drain descriptor, at window offset 0, sends it to RAW. -/
def dotState : State := st fun ch =>
  ((withSide { header := [], program := [[3, 0, 0, 0, 0, 0, 0, 0, 1, 2], List.replicate 20 0, [16, 0, 2, 0], List.replicate 30 0].flatten } ch).setBytes 0 0 0
    (1 :: List.replicate 63 0)).setRvu 0 { dots := [dot0] }

/-- A training group of three devices on a board of four: this member, rank 0 of group 5, holds context 0 on slot 0, its neighbours being
devices 1 and 2 on ports 0 and 1. -/
def trnChan (t : TrnCtx) (state active : Nat) (ch : Chan) : Chan :=
  let a : Chan := (ch.setFld (R.CHN_SLOT_CFG 0) F.CHN_SLOT_CFG_kind 2).setServing 0 1
  let b : Chan := ((a.setFld R.ZLK_CTRL F.ZLK_CTRL_topology 1).setZState 0 3).setZState 1 3
  let d : Chan := (((b.setFlag R.TRN_CTRL F.TRN_CTRL_enable true).setFlag (R.TRN_CFG 0) F.TRN_CFG_enable true).setFld (R.TRN_CFG 0)
    F.TRN_CFG_interval 8).setFld (R.TRN_CFG 0) F.TRN_CFG_group_id 5 |>.setFld (R.TRN_CFG 0) F.TRN_CFG_batch_rows 1
  (((d.setFld (R.TRN_LINK 0) F.TRN_LINK_port_prev 1).setTrnState 0 state).setTrnActive 0 active).setTrn 0 t
def trnSt (t : TrnCtx) (state active : Nat) : State := st (trnChan t state active)
/-- The header of a message of group 5 from device 1. -/
def msgHd (args : BitVec 64) (context : BitVec 16 := 5) : MsgHead := { dest := 0, src := 1, hops := 0, channel := 0, context := context, args := args }
def row0 : List Byte := List.replicate 16 3
def trow0 : TrnRow := { job := 0, seqNo := 0, epoch := 0, place := 0, row := row0 }
def batch0 : TrnBatch := { step := 0, turn := 0, m := 1, bytes := 16, rows := [row0] }
def batch9 : TrnBatch := { batch0 with step := 9, turn := 7 }
def rejoin0 : TrnCtx := { wanted := some (8, []), donor := 1, resync := true }
def vote0 : Vote := { c := 8 }
def decided0 : Decided := { c := 8, mask := 3, outcome := 0, at_ := 0, own := [], area := 0, any := true, agreed := 0, digest := [] }

/-- Lookup 0 of tenant 0 is an entity table that takes shares of device 1's tenant 5, on a board of four with port 0 UP. -/
def shareChan (ch : Chan) : Chan :=
  let a : Chan := (withTenant ((ch.setFld R.ZLK_CTRL F.ZLK_CTRL_topology 1).setZState 0 3)).setFld (R.FTR_LOOKUP 0) F.FTR_LOOKUP_kind 1 |>.setFld (R.FTR_LOOKUP 0) F.FTR_LOOKUP_log2_buckets 6
  (a.setFld (R.ZLK_ACCEPT 0) F.ZLK_ACCEPT_from_mask 2).setFld (R.ZLK_ACCEPT 0) F.ZLK_ACCEPT_origin_tenant 5
def shareState : State := st shareChan
def shareB2 : Nat × Nat := (shareState.chan 0).entityBuckets 0 0 (List.replicate 32 0)

/-- A channel that boots an image whose one section is CONFIG, with records `rs`; T2 is up and T3 has failed. -/
def confChan (rs : List Byte) (ch : Chan) : Chan :=
  let h := List.replicate 6 0 ++ [1, 0] ++ List.replicate 56 0 ++ [3, 0, 0, 0, 0, 0, 0, 0, byte rs.length, 0, 0, 0] ++ List.replicate 948 0
  { ch.setFld R.MEM_STATUS F.MEM_STATUS_t2_state 0 with
    boot := { state := .booting, header := h }, flash := { bankA := flashPut [] 0 rs }, pwr := { ch.pwr with ready := false } }
def confState (rs : List Byte) : State := st (confChan rs)
def confSec (rs : List Byte) : ImgSection := { kind := 3, off := 0, len := rs.length, hash := List.replicate 48 0 }
/-- A SET of PDP_FAIL_POLICY to zero, a WAIT for CHN_ID to read all ones, and an END. -/
def recSet : List Byte := [1, 0, 0, 0] ++ leBytes 4 R.PDP_FAIL_POLICY ++ List.replicate 16 0
def recWait : List Byte := [2, 0, 0, 0] ++ leBytes 4 R.CHN_LOCATION ++ List.replicate 16 255
def recEnd : List Byte := List.replicate 24 0

/-- Channel 0 with a scratchpad entry of the channel that holds the attestation destination 0. -/
def attChan (ch : Chan) : Chan :=
  (ch.wr (R.MEM_REGION_B 0) (setF 0 F.MEM_REGION_B_size 6)).wr (R.MEM_REGION_A 0) (setF (setF 0 F.MEM_REGION_A_valid 1) F.MEM_REGION_A_owner 16)

/-- A ramp from a point to itself takes no time, whatever VDD_CH its point has. -/
theorem sample_no_ramp {ch : Chan} {u p q : Nat} (h : p = q) (g : u ≤ ch.now) : ch.since u (ch.rampTime p q) = true := by
  subst h; simp [Chan.since, Chan.rampTime, g]

/-! ## Worked examples of the spec -/

/-- 00_scope.md, tenant 0x5B: local tenant 11 of Channel 5. -/
theorem test_tenant_identifier : ({ idx := 5 } : Chan).tid 11 = 0x5B := by decide

/-- 02_descriptor_ports.md, one record on the wire: its metadata block. -/
def wireMeta : Meta :=
  metaOf [0x00, 0x12, 0x34, 0x56, 0x00, 0x21, 0x5B, 0x05, 0xEA, 0x9A, 0x0B, 0x1C, 0x2D, 0x3E, 0x02, 0x64]

theorem test_metadata_block : wireMeta.seq = 0x123456 ∧ wireMeta.ingress = 33 ∧ wireMeta.tenant = 0x5B ∧ wireMeta.cls = false ∧
    wireMeta.origLen = 1514 ∧ wireMeta.ts = 0x9A0B1C2D3E ∧ wireMeta.flags = 2 ∧ wireMeta.sliceLen = 100 := by decide +kernel

/-- Table 04.10: s = 0.0625, r = 16.0. -/
def n4Column : ScaleEntry := { s := 0x3D800000, r := 0x41800000, constant := 0, isConst := false }

theorem test_n4_codes : [0x3E600000, 0xBE800000, 0x40200000, 0x41000000, 0xFF800000, 0x7FC00000].map (quantise .n4 n4Column) =
    [{ code := 8 }, { code := 6 }, { code := 0xB }, { code := 0xF, sat := true }, { code := 0, sat := true },
      { code := 7, nan := true }] := by decide +kernel
theorem test_n4_dequantised : [8, 6, 0xB, 0xF, 0, 7].map (dequantise .n4 n4Column) =
    [0x3EE00000, 0xBF000000, 0x401C0000, 0x40FE0000, 0xC0FE0000, 0] := by decide +kernel

/-- 04, N8: s = 2^−8, r = 256.0; inputs 1.0, 264/256, −300/256, −0.5/256 and 2000/256. -/
def n8Column : ScaleEntry := { s := 0x3B800000, r := 0x43800000, constant := 0, isConst := false }

theorem test_n8_codes : [0x3F800000, 0x3F840000, 0xBF960000, 0xBB000000, 0x40FA0000].map (quantise .n8 n8Column) =
    [{ code := 0x50 }, { code := 0x50 }, { code := 0xD3 }, { code := 0 }, { code := 0x7F, sat := true }] := by decide +kernel
theorem test_n8_dequantised : [0x50, 0xD3, 0x7F].map (dequantise .n8 n8Column) = [0x3F800000, 0xBF980000, 0x40F80000] := by
  decide +kernel

/-- 04, a constant column of 6.0 on the inputs 6 and 17. -/
theorem test_constant_column : [0x40C00000, 0x41880000].map (quantise .n8 { n8Column with constant := 0x40C00000, isConst := true }) =
    [{ code := 0 }, { code := 0, sat := true }] := by decide +kernel

/-- 04, an outlier spread over 64 columns: 98 in the even columns and 94 in the odd. -/
theorem test_rotation : (hadamard 6 (0x42C00000 :: 0x40000000 :: List.replicate 62 0)).take 4 =
    [0x42C40000, 0x42BC0000, 0x42C40000, 0x42BC0000] := by decide +kernel

/-- 07, one long-sum element: 1.0 and 3 × 2^−26, and the negative of it. -/
theorem test_long_sum : [none, some 180, some 42].map (longAdd 0x3F800000 0x33400000) = [0x3F800000, 0x3F800001, 0x3F800000] := by
  decide +kernel
theorem test_long_sum_below : [none, some 191, some 192].map (longAdd 0x3F800000 0xB3400000) = [0x3F7FFFFF, 0x3F7FFFFF, 0x3F800000] := by
  decide +kernel

/-- Table 05.6: the cut tables of f0 and f1, and the four keys' fields. -/
def cut0 : CutField := { kind := 1, slot := 0, count := 5, miss := true, values := [0x42800000, 0x43000000, 0x43960000, 0x44100000, 0x44960000] }
def cut1 : CutField := { kind := 1, slot := 1, count := 2, miss := true, values := [0x447A0000, 0x459C4000] }

theorem test_cut_fields : ([0x43960000, 0x44BB8000, 0x42C80000].map fun v => (placeT32 {} 0 cut0 (codeField cut0 { value := v } 0)).value) =
      [7, 0x1F, 1] ∧ (placeT32 {} 0 cut1 (codeField cut1 { value := 0x45DAC000 } 0)).value = 3 ∧
    placeT32 {} 0 cut1 (codeField cut1 { missing := true } 0) = { value := 0x80000000, masked := 0x7FFFFFFF } := by decide +kernel

/-- Table 11.4: four descriptors through a two-rate meter. -/
def meter4 : Meter := { mode := 2, pir := 16384, cir := 8192, ebs := 3000, cbs := 1500, te := 3000 * 65536, tc := 1500 * 65536 }

theorem test_meter :
    let a := meter4.update 1500 0 1000
    let b := a.2.update 1000 0 1000
    let c := b.2.update 1200 0 3000
    let d := c.2.update 800 0 9000
    [a, b, c, d].map (fun x => (x.1, x.2.te / 65536, x.2.tc / 65536)) =
      [(0, 1500, 0), (1, 500, 0), (2, 1000, 250), (0, 1700, 200)] := by decide +kernel

/-- 18, two event identifiers. -/
theorem test_event_identifiers : EV_FST_PARITY.id = 0x3001 ∧ EV_SUP_VIN_LOW.id = 0xA001 := by decide

/-- 18, the registers of one tenant: the telemetry shaper's place and reset value; a refused insert index. -/
theorem test_shaper_register : R.VPE_SHP 11 1 = 0x9005B8 ∧ (live.chan 0).rd (R.VPE_SHP 11 1) = 0x0200000000000000 := by
  decide +kernel

theorem test_insert_index_refused : (match exec (.ldsInsProdWrite 0 (some 0) 11 (BitVec.ofNat 64 (setF 0 F.LDS_INS_IDX_prod 245).toNat))
      (st fun ch => ((withTenant ch).setFld (R.LDS_INS_IDX 11) F.LDS_INS_IDX_cons 500).setFld (R.LDS_INS_IDX 11) F.LDS_INS_IDX_prod 500) with
    | .next t => (t.chan 0).fld (R.LDS_INS_IDX 11) F.LDS_INS_IDX_prod | _ => 0) = 500 := by decide +kernel

/-- 13, offset to a neighbour: twice the offset is 275,200 ps, twice the delay 104,960 ps. -/
theorem test_probe_halves : liveChan.halfPs 275200 = 137600 ∧ liveChan.halfPs 104960 = 52480 := by decide +kernel

/-- A step takes the command at the front; on an empty queue 60 grains pass. -/
theorem test_step_order : (match step { live with pending := [.channelPowerOff 0, .bypass] } with
    | .next t => decide (t.pending = [.bypass] ∧ (t.chan 0).pwr.power = .off) | _ => false) = true := by decide +kernel
theorem test_idle_step : (match step State.reset with | .next t => t.hub.now | _ => 0) = 60 := by decide +kernel

/-- No command has bits in the table. -/
theorem test_no_word_is_a_command : decodeTableWord 32 0x12345678 = none ∧ live.withFetchWord 32 0x12345678 = live :=
  ⟨rfl, rfl⟩

/-! ## Ill-formed commands, one for each check -/

def head0 : MsgHead := { dest := 0, src := 0, hops := 0, channel := 0, context := 0, args := 0 }
def okCommand : Instr := .registerWrite (.fn 0 0) 0x8 0 true

theorem test_wellformed : okCommand.wellFormed = true := by decide

theorem test_illformed_register_offset : ([
    .registerWrite (.fn 0 0) 0x9 0 true,
    .registerWrite (.firmware 0) 0x4000000 0 true,
    .dozeAccessWake 0 0 0x101 none] : List Instr).all
    (fun i => !i.wellFormed) = true := by decide +kernel
theorem test_illformed_descriptor_length : ([
    .descriptorReceive 0 (List.replicate 193 0) false,
    .mirrorDescriptorFrame 0 (List.replicate 31 0)] : List Instr).all
    (fun i => !i.wellFormed) = true := by decide +kernel
theorem test_illformed_align_order : ([
    .alignGroupReceive 0 [0, 1, 2, 3, 4, 5, 6, 6],
    .alignGroupReceive 0 [0, 1, 2]] : List Instr).all
    (fun i => !i.wellFormed) = true := by decide +kernel
theorem test_illformed_cam : ([
    .camWindowWrite 0 none 0 20 0,
    .camEntryUpset 0 0 [0, 1361]] : List Instr).all
    (fun i => !i.wellFormed) = true := by decide +kernel
theorem test_illformed_tier_length : ([
    .tierReadReturn 0 1 0 0 .entity .ok] : List Instr).all
    (fun i => !i.wellFormed) = true := by decide +kernel
theorem test_illformed_zorbex_blocks : ([
    .zlkIdentityReceive 0 0 0 3 0 0 0,
    .zlkGroupReceive 0 0 0 false [(4, List.replicate 64 0)],
    .zlkGroupReceive 0 0 0 false [(0, List.replicate 63 0)]] : List Instr).all
    (fun i => !i.wellFormed) = true := by decide +kernel
theorem test_illformed_messages : ([
    .pad 0 0 head0 [0],
    .share 0 0 head0 (List.replicate 15 0),
    .retract 0 0 head0 (List.replicate 15 0),
    .epochClose 0 0 head0 (List.replicate 15 0),
    .batch 0 0 head0 (List.replicate 15 0),
    .pass 0 0 head0 (List.replicate 15 0),
    .digest 0 0 head0 (List.replicate 15 0),
    .decision 0 0 head0 (List.replicate 15 0),
    .ckptReq 0 0 head0 (List.replicate 15 0),
    .ckptData 0 0 head0 (List.replicate 15 0),
    .timeProbe 0 0 head0 (List.replicate 15 0),
    .timeResp 0 0 head0 (List.replicate 15 0)] : List Instr).all
    (fun i => !i.wellFormed) = true := by decide +kernel
theorem test_illformed_dma_queue : ([
    .dmaDoorbell 0 (some 1) 1 0,
    .dmaCommandStart 0 1 1 (List.replicate 32 0),
    .dmaCommandStart 0 0 0 (List.replicate 31 0),
    .dmaCommandComplete 0 2 3 0 [] .done,
    .dmaHostTimeout 0 1 2 0] : List Instr).all
    (fun i => !i.wellFormed) = true := by decide +kernel
theorem test_illformed_lodestar : ([
    .lodestarRestartComplete 0 [(524288, 1)],
    .traceSample 0 [0, 0, 0]] : List Instr).all
    (fun i => !i.wellFormed) = true := by decide +kernel
theorem test_illformed_time_message : ([
    .todMessage 0 (List.replicate 15 0)] : List Instr).all
    (fun i => !i.wellFormed) = true := by decide +kernel
/-- Table 14.1: a virtual function's routing number follows from its physical function's SR-IOV capability. -/
theorem test_vf_routing : ∀ c : Fin 8, ∀ i : Fin 16,
    (PcieFn.pf c).sriov.map (fun v => (PcieFn.pf c).routing + v.2.1 + i * v.2.2) = some (PcieFn.vf c i).routing := by decide
/-- R376: a vector that Table 14.6 lists is one of the function's vectors of Table 14.2. -/
theorem test_listed_vectors : ∀ f ∈ [PcieFn.hub, .pf 3, .vf 3 5], ∀ v ∈ List.range 17, f.listed v = true → v < f.vectors := by decide
/-! ## What meets the statements' hypotheses -/

theorem witness_StepRunsTheFrontCommand_1 : ∃ (s : State) (i : Instr) (rest : List Instr), s.pending = i :: rest :=
  ⟨{ live with pending := [.hostPortReset] }, _, _, rfl⟩
theorem witness_StepRunsTheFrontCommand_2 : ∃ s : State, s.pending = [] := ⟨live, rfl⟩

theorem witness_VinSupervision_1 : ∃ (s : State) (c : Fin 8) (ch : Chan), s.chan c = ch ∧ s.hubRuns = true ∧ ch.isOn = true ∧ ch.failStopped = false :=
  ⟨live, 0, _, rfl, by decide +kernel⟩

theorem witness_VinSupervision_2 : ∃ (s : State) (c : Fin 8) (ch : Chan), s.chan c = ch ∧ s.hubRuns = true :=
  ⟨live, 1, _, rfl, by decide +kernel⟩

theorem witness_VinSupervision_3 : ∃ (s : State) (c : Fin 8) (ch : Chan), s.chan c = ch ∧ s.pack.suspended = true :=
  ⟨({ (st fun ch => (ch.setFlag R.PWR_STATUS F.PWR_STATUS_fail_stop true).setFlag R.PWR_CTRL F.PWR_CTRL_auto_restart true) with pack := { State.reset.pack with suspended := true } }), 0, _, rfl, by decide +kernel⟩

theorem witness_VinSupervision_4 : ∃ (s : State) (c : Fin 8) (ch : Chan), s.chan c = ch ∧ s.hubRuns = true :=
  ⟨({ live with pack := { State.reset.pack with suspended := true, vinLow := some 4 } }), 0, _, rfl, by decide +kernel⟩

theorem witness_VinSupervision_5 : ∃ (s : State) (c : Fin 8) (ch : Chan), s.chan c = ch ∧ (∀ d : Fin 8, (s.chan d).toHub = []) :=
  ⟨live, 0, _, rfl, by decide +kernel⟩

theorem witness_VinSupervision_6 : ∃ (s : State) (c : Fin 8) (ch : Chan), s.chan c = ch ∧ s.pack.unpowered = true ∧ (∀ d : Fin 8, (s.chan d).toHub = []) :=
  ⟨({ live with pack := { State.reset.pack with unpowered := true } }), 0, _, rfl, by decide +kernel⟩

theorem witness_CommandsAnswerAndPowerIsNeeded : ∃ (i : Instr) (s : State) (c : Fin 8),
    i.needsPower = some c ∧ (s.chan c).isOn = false ∧ (s.chan c).toHub = [] :=
  ⟨.swap 3 (some 0) 63, live, 3, rfl, by decide +kernel, by decide +kernel⟩

theorem witness_ChannelsAreIsolated : ∃ (i : Instr) (s : State) (c d : Fin 8),
    i.onlyChan = some c ∧ d ≠ c ∧ s.hub.flag R.SUP_FREEZE F.SUP_FREEZE_follow_fail = false :=
  ⟨.swap 3 (some 0) 63, live, 3, 7, rfl, by decide +kernel, by decide +kernel⟩

theorem witness_StepsKeepTheDevicesInvariant : ∃ s t : State, s.resetInv ∧ s.flushed ∧ step s = .next t :=
  ⟨State.reset, State.reset.tick, fun h => absurd h (by decide), by unfold State.flushed; decide, rfl⟩

theorem witness_DescriptorIsCheckedAndStored_1 : ∃ (s : State) (c : Fin 8) (ch : Chan) (bytes : List Byte) (m : Meta) (l : Nat), s.chan c = ch ∧ ch.isOn = true ∧ ch.mirror = false ∧ ch.linkState = 3 ∧ ch.port.framing ≠ .lost ∧ be bytes 15 1 ≤ 172 ∧ recordWords (be bytes 15 1) = l ∧ 16 * l ≤ bytes.length ∧ (crc32c (bytes.take (16 * l - 4))).toNat = be bytes (16 * l - 4) 4 ∧ metaOf (slice bytes 0 16) = m ∧ (ch.port.seqValid = false ∨ ch.expected = m.seq) ∧ m.flags.toNat < 16 ∧ m.flags.getLsbD 1 = false ∧ ch.ownsTid m.tenant.toNat = true ∧ ch.tenantExists (m.tenant.toNat % 16) = true ∧ ch.carafeOcc + l ≤ carafeWords ∧ (ch.rd R.CRF_RECEIVED + BitVec.ofNat 64 l).toNat ≤ (ch.rd R.CRF_CREDIT).toNat :=
  ⟨goodDesc, 0, _, descBytes, (metaOf (slice descBytes 0 16)), 6, rfl, by decide +kernel⟩

theorem witness_DescriptorIsCheckedAndStored_2 : ∃ (s : State) (c : Fin 8) (ch : Chan) (bytes : List Byte) (m : Meta) (l : Nat), s.chan c = ch ∧ ch.isOn = true ∧ ch.mirror = true ∧ ch.linkState = 3 ∧ be bytes 12 2 = 0x88B5 ∧ be bytes 14 1 = 1 ∧ be bytes 15 1 = 1 ∧ metaOf (slice bytes 16 16) = m ∧ 96 ≤ bytes.length ∧ bytes.length ≤ 192 ∧ m.sliceLen.toNat + 36 = bytes.length ∧ recordWords m.sliceLen.toNat = l ∧ (crc32 (bytes.take (bytes.length - 4))).toNat = le bytes (bytes.length - 4) 4 ∧ (ch.port.seqValid = false ∨ ch.expected = m.seq) ∧ m.flags.toNat < 16 ∧ m.flags.getLsbD 1 = false ∧ ch.ownsTid m.tenant.toNat = true ∧ ch.tenantExists (m.tenant.toNat % 16) = true ∧ ch.carafeOcc + l ≤ pauseHigh :=
  ⟨goodMirror, 0, _, frameBytes, (metaOf (slice frameBytes 16 16)), 6, rfl, by decide +kernel⟩

theorem witness_DescriptorIsCheckedAndStored_3 : ∃ (s : State) (c : Fin 8) (ch : Chan) (bytes : List Byte) (m : Meta) (l : Nat), s.chan c = ch ∧ ch.isOn = true ∧ ch.mirror = false ∧ ch.linkState = 3 ∧ ch.port.framing ≠ .lost ∧ ch.port.seqValid = true ∧ be bytes 15 1 ≤ 172 ∧ recordWords (be bytes 15 1) = l ∧ 16 * l ≤ bytes.length ∧ (crc32c (bytes.take (16 * l - 4))).toNat ≠ be bytes (16 * l - 4) 4 ∧ metaOf (slice bytes 0 16) = m :=
  ⟨goodDesc, 0, _, (descBytes.set 20 9), (metaOf (slice descBytes 0 16)), 6, rfl, by decide +kernel⟩

theorem witness_PortIgnoresAndCounts_1 : ∃ (s : State) (c : Fin 8) (ch : Chan), s.chan c = ch ∧ ch.isOn = true ∧ ch.mirror = true ∧ ch.linkState = 3 :=
  ⟨(st fun ch => (ch.setLink 3).setFlag R.PDP_CTRL F.PDP_CTRL_mode true), 0, _, rfl, by decide +kernel⟩

theorem witness_PortIgnoresAndCounts_2 : ∃ (s : State) (c : Fin 8) (ch : Chan), s.chan c = ch ∧ ch.isOn = true ∧ ch.mirror = true ∧ ch.linkState = 3 :=
  ⟨(st fun ch => (ch.setLink 3).setFlag R.PDP_CTRL F.PDP_CTRL_mode true), 0, _, rfl, by decide +kernel⟩

theorem witness_PortIgnoresAndCounts_3 : ∃ (s : State) (c : Fin 8) (ch : Chan), s.chan c = ch ∧ ch.isOn = true ∧ ch.mirror = true ∧ ch.linkState = 3 :=
  ⟨(st fun ch => (ch.setLink 3).setFlag R.PDP_CTRL F.PDP_CTRL_mode true), 0, _, rfl, by decide +kernel⟩

theorem witness_PortIgnoresAndCounts_4 : ∃ (s : State) (c : Fin 8) (ch : Chan), s.chan c = ch ∧ ch.isOn = true ∧ ch.mirror = false ∧ ch.linkState = 3 ∧ ch.port.framing ≠ .lost :=
  ⟨goodDesc, 0, _, rfl, by decide +kernel⟩

theorem witness_PortIgnoresAndCounts_5 : ∃ (s : State) (c : Fin 8) (ch : Chan), s.chan c = ch ∧ ch.isOn = true ∧ ch.mirror = false ∧ ch.linkState = 3 ∧ ch.port.framing = .lost :=
  ⟨(st fun ch => ch.setLink 3), 0, _, rfl, by decide +kernel⟩

theorem witness_PortIgnoresAndCounts_6 : ∃ (s : State) (c : Fin 8) (ch : Chan) (order : List Nat), s.chan c = ch ∧ ch.isOn = true ∧ ch.mirror = false ∧ ch.linkState = 1 ∧ order.length = 8 ∧ (∀ i : Nat, i < 8 → i ∈ order) :=
  ⟨(st fun ch => ch.setLink 1), 0, _, ([7, 6, 5, 4, 3, 2, 1, 0]), rfl, by decide +kernel⟩

theorem witness_PortIgnoresAndCounts_7 : ∃ (s : State) (c : Fin 8) (ch : Chan) (lane : Fin 8) (words : Nat), s.chan c = ch ∧ ch.isOn = true ∧ ch.mirror = false ∧ ch.linkState = 3 ∧ ch.port.limit + words < (ch.rd R.CRF_CREDIT).toNat + 1024 :=
  ⟨(st fun ch => ch.setLink 3), 0, _, 7, 1023, rfl, by decide +kernel⟩

theorem witness_PortIgnoresAndCounts_8 : ∃ (s : State) (c : Fin 8) (ch : Chan) (lane : Fin 8), s.chan c = ch ∧ ch.isOn = true ∧ ch.mirror = true ∧ ch.linkState = 3 ∧ 64 ≤ (ch.port.badWords.filter fun b => decide (ch.now < b.2 + usG) && b.1 == lane.val).length :=
  ⟨(st fun ch => { ((ch.setLink 3).setFlag R.PDP_CTRL F.PDP_CTRL_mode true) with port := { badWords := List.replicate 64 (7, ch.now) } }), 0, _, 7, rfl, by decide +kernel⟩

theorem witness_PortSends_1 : ∃ (s : State) (c : Fin 8) (ch : Chan), s.chan c = ch ∧ ch.isOn = true ∧ ch.mirror = true ∧ ch.port.paused = true ∧ ch.linkState ≠ 0 ∧ pauseLow < ch.carafeOcc ∧ ch.port.pauseAt + 10 * usG ≤ ch.now ∧ ch.flag R.PDP_CTRL F.PDP_CTRL_pause_enable = true :=
  ⟨(st fun ch => { (((ch.setLink 3).setFlag R.PDP_CTRL F.PDP_CTRL_mode true).setFlag R.PDP_CTRL F.PDP_CTRL_pause_enable true) with port := { paused := true, carafe := [bigDesc], pauseAt := ch.now - 10 * usG } }), 0, _, rfl, by decide +kernel⟩

theorem witness_PortSends_2 : ∃ (s : State) (c : Fin 8) (ch : Chan), s.chan c = ch ∧ ch.isOn = true ∧ ch.mirror = true ∧ ch.port.paused = true ∧ ch.linkState ≠ 0 ∧ ch.carafeOcc < pauseLow ∧ ch.flag R.PDP_CTRL F.PDP_CTRL_pause_enable = true :=
  ⟨(st fun ch => { (((ch.setLink 3).setFlag R.PDP_CTRL F.PDP_CTRL_mode true).setFlag R.PDP_CTRL F.PDP_CTRL_pause_enable true) with port := { paused := true } }), 0, _, rfl, by decide +kernel⟩

theorem witness_PortSends_3 : ∃ (s : State) (c : Fin 8) (ch : Chan), s.chan c = ch ∧ ch.isOn = true ∧ ch.mirror = false ∧ ch.linkState = 3 ∧ ch.port.timeAt + 950 * nsG ≤ ch.now :=
  ⟨(st fun ch => ch.setLink 3), 0, _, rfl, by decide +kernel⟩

theorem witness_PortSends_4 : ∃ (s : State) (c : Fin 8) (ch : Chan), s.chan c = ch ∧ ch.isOn = true ∧ ch.mirror = true ∧ ch.linkState ≠ 0 ∧ ch.port.timeAt + 950 * nsG ≤ ch.now :=
  ⟨(st fun ch => (ch.setLink 3).setFlag R.PDP_CTRL F.PDP_CTRL_mode true), 0, _, rfl, by decide +kernel⟩

theorem witness_PortSends_5 : ∃ (s : State) (c : Fin 8) (ch : Chan), s.chan c = ch ∧ ch.isOn = true ∧ ch.mirror = false ∧ ch.linkState ≠ 0 ∧ ch.port.alignAt + 13212058 ≤ ch.now :=
  ⟨(st fun ch => ch.setLink 1), 0, _, rfl, by decide +kernel⟩

theorem witness_PortSends_6 : ∃ (s : State) (c : Fin 8) (ch : Chan), s.chan c = ch ∧ ch.isOn = true ∧ ch.mirror = true ∧ ch.linkState = 4 ∧ ch.port.downAt + 950 * nsG ≤ ch.now :=
  ⟨(st fun ch => (ch.setLink 4).setFlag R.PDP_CTRL F.PDP_CTRL_mode true), 0, _, rfl, by decide +kernel⟩

theorem witness_PortSends_7 : ∃ (s : State) (c : Fin 8) (ch : Chan), s.chan c = ch ∧ ch.isOn = true ∧ ch.mirror = false ∧ ch.linkState = 4 ∧ ch.port.downAt + 950 * nsG ≤ ch.now :=
  ⟨(st fun ch => ch.setLink 4), 0, _, rfl, by decide +kernel⟩

theorem witness_PortStateMachine_1 : ∃ (s : State) (c : Fin 8) (ch : Chan) (src : Option (Fin 17)), s.chan c = ch ∧ s.reaches src c R.PDP_CTRL = true ∧ ch.linkState = 0 ∧ ch.pwr.ready = true ∧ ch.failStopped = false :=
  ⟨live, 0, _, (some 0), rfl, by decide +kernel⟩

theorem witness_PortStateMachine_2 : ∃ (s : State) (c : Fin 8) (ch : Chan) (src : Option (Fin 17)), s.chan c = ch ∧ s.reaches src c R.PDP_CTRL = true ∧ ch.linkState ≠ 0 :=
  ⟨(st fun ch => ch.setLink 3), 0, _, (some 0), rfl, by decide +kernel⟩

theorem witness_PortStateMachine_3 : ∃ (s : State) (c : Fin 8) (ch : Chan), s.chan c = ch ∧ ch.isOn = true ∧ ch.linkState = 1 ∧ ch.mirror = true :=
  ⟨(st fun ch => (ch.setLink 1).setFlag R.PDP_CTRL F.PDP_CTRL_mode true), 0, _, rfl, by decide +kernel⟩

theorem witness_PortStateMachine_4 : ∃ (s : State) (c : Fin 8) (ch : Chan) (n : Nat), s.chan c = ch ∧ ch.isOn = true ∧ ch.linkState = 1 ∧ ch.mirror = false ∧ n = carafeWords - ch.carafeOcc - carafeSlack :=
  ⟨(st fun ch => ch.setLink 1), 0, _, 520192, rfl, by decide +kernel⟩

theorem witness_PortStateMachine_5 : ∃ (s : State) (c : Fin 8) (ch : Chan) (sec : BitVec 48) (ns : BitVec 32), s.chan c = ch ∧ ch.isOn = true ∧ ch.linkState = 2 ∧ ch.mirror = false ∧ ch.port.timeBase = none :=
  ⟨(st fun ch => ch.setLink 2), 0, _, 0xFFFFFFFFFFFF, 999999999, rfl, by decide +kernel⟩

theorem witness_PortStateMachine_6 : ∃ (s : State) (c : Fin 8) (ch : Chan) (locked : BitVec 8), s.chan c = ch ∧ ch.isOn = true ∧ ch.linkState = 3 :=
  ⟨(st fun ch => ch.setLink 3), 0, _, 0x7F, rfl, by decide +kernel⟩

theorem witness_PortStateMachine_7 : ∃ (s : State) (c : Fin 8) (ch : Chan) (src : Option (Fin 17)), s.chan c = ch ∧ s.reaches src c R.CRF_STATUS = true :=
  ⟨goodDesc, 0, _, (some 0), rfl, by decide +kernel⟩

theorem witness_ParserTablesThroughTheWindow_1 : ∃ (s : State) (c : Fin 8) (ch : Chan) (src : Option (Fin 17)) (v : Word) (st index : Nat), s.chan c = ch ∧ s.reaches src c R.PRS_IND_SEL = true ∧ writerInst src = 0 ∧ getF v F.PRS_IND_SEL_stage = st ∧ getF v F.PRS_IND_SEL_index = index ∧ getF v F.PRS_IND_SEL_target = 0 ∧ ch.prsReach 0 st 0 index = 0 ∧ ch.entryOk st (ch.prsData 0) = true :=
  ⟨live, 0, _, none, (setF (setF 0 F.PRS_IND_SEL_stage 11) F.PRS_IND_SEL_index 0xFFF), 11, 0xFFF, rfl, by decide +kernel⟩

theorem witness_ParserTablesThroughTheWindow_2 : ∃ (s : State) (c : Fin 8) (ch : Chan) (src : Option (Fin 17)) (v : Word) (st index : Nat), s.chan c = ch ∧ s.reaches src c R.PRS_IND_SEL = true ∧ writerInst src = 0 ∧ getF v F.PRS_IND_SEL_stage = st ∧ getF v F.PRS_IND_SEL_target = 1 ∧ st < 12 ∧ actionOk (slice (ch.prsData 0) 64 32) = true :=
  ⟨live, 0, _, (some 0), (setF (setF 0 F.PRS_IND_SEL_stage 11) F.PRS_IND_SEL_target 1), 11, 0, rfl, by decide +kernel⟩

theorem witness_ParserTablesThroughTheWindow_3 : ∃ (s : State) (c : Fin 8) (ch : Chan) (src : Option (Fin 17)) (v : Word) (st index : Nat), s.chan c = ch ∧ s.reaches src c R.PRS_IND_SEL = true ∧ writerInst src = 0 ∧ getF v F.PRS_IND_SEL_stage = st ∧ getF v F.PRS_IND_SEL_index = index ∧ getF v F.PRS_IND_SEL_target = 0 ∧ ch.prsReach 0 st 0 index = 0 ∧ ch.entryOk st (ch.prsData 0) = false :=
  ⟨(st fun ch => ch.wr (R.PRS_IND_DATA 5) 0xFF), 0, _, none, 0, 0, 0, rfl, by decide +kernel⟩

theorem witness_ParserTablesThroughTheWindow_4 : ∃ (s : State) (c : Fin 8) (ch : Chan) (src : Option (Fin 17)) (v : Word) (st index : Nat), s.chan c = ch ∧ s.reaches src c R.PRS_IND_SEL = true ∧ writerInst src = 0 ∧ getF v F.PRS_IND_SEL_stage = st ∧ getF v F.PRS_IND_SEL_index = index ∧ getF v F.PRS_IND_SEL_target = 0 ∧ ch.prsReach 0 st 0 index = 0 :=
  ⟨(st fun ch => { ch with parser := { entries := [(4096 * 3 + 7, (List.range 96).map byte)] } }), 0, _, (some 0), (setF (setF 0 F.PRS_IND_SEL_stage 3) F.PRS_IND_SEL_index 7), 3, 7, rfl, by decide +kernel⟩

theorem witness_DispatchStartsALookup_1 : ∃ (s : State) (c : Fin 8) (ch : Chan) (fixed : Nat) (x : Desc) (rest : List Desc) (lane : Bool) (i : Nat), s.chan c = ch ∧ ch.clocked = true ∧ ch.failStopped = false ∧ ch.dispatchStop = none ∧ ch.flow.slotAt ≤ ch.coreNow ∧ ch.laneFree lane = true ∧ ch.port.carafe = x :: rest ∧ ch.nextLane = some lane ∧ x.md.tenant.toNat % 16 = i ∧ ch.claimClash 97 (ch.tenantEns i) lane = false :=
  ⟨(st fun ch => (withTenant (ch.setLink 3)).setCarafe [smallDesc]), 0, _, 1, smallDesc, [], false, 0, rfl, by decide +kernel⟩

theorem witness_DispatchStartsALookup_2 : ∃ (s : State) (c : Fin 8) (ch : Chan) (fixed : Nat) (d : Desc) (rest : List Desc) (lane : Bool), s.chan c = ch ∧ ch.clocked = true ∧ ch.failStopped = false ∧ ch.dispatchStop = none ∧ ch.flow.slotAt ≤ ch.coreNow ∧ ch.laneFree lane = true ∧ ch.port.carafe = d :: rest ∧ ch.nextLane = some lane :=
  ⟨(st fun ch => (withTenant (ch.setLink 3)).setCarafe [smallDesc]), 0, _, 0, smallDesc, [], false, rfl, by decide +kernel⟩

theorem witness_DispatchStartsALookup_3 : ∃ (s : State) (c : Fin 8) (ch : Chan) (fixed : Nat) (x : Desc) (rest : List Desc) (lane : Bool), s.chan c = ch ∧ ch.clocked = true ∧ ch.failStopped = false ∧ ch.dispatchStop = none ∧ ch.flow.slotAt ≤ ch.coreNow ∧ ch.laneFree lane = true ∧ ch.port.carafe = x :: rest ∧ ch.nextLane = some lane ∧ ch.claimClash 97 (ch.tenantEns (x.md.tenant.toNat % 16)) lane = true :=
  ⟨(st fun ch => let a : Chan := (((withTenant (ch.setLink 3)).wr (R.FST_ENS_BANKS 0) 1).wr (R.FST_ENS_CFG 0) (setF (setF 0 F.FST_ENS_CFG_valid 1) F.FST_ENS_CFG_copies 1)).setCarafe [smallDesc]; a.claim 97 [0] false), 0, _, 0, smallDesc, [], false, rfl, by decide +kernel⟩

theorem witness_FlowMaintenanceAndAging_1 : ∃ (s : State) (c : Fin 8) (ch : Chan) (op : MaintOp) (t0 : Nat) (rest : List (MaintOp × Nat)), s.chan c = ch ∧ ch.clocked = true ∧ ch.flow.maint = (op, t0) :: rest ∧ ch.sinceC t0 ch.forceInterval = true :=
  ⟨(st fun ch => let a : Chan := (withTenant ch).setFld (R.FLW_REGION_A 0) F.FLW_REGION_A_log2_buckets 12; { a with flow := { a.flow with maint := [(.invalidate false 5 3 0 [], 0)] } }), 0, _, (.invalidate false 5 3 0 []), 0, [], rfl, by decide +kernel⟩

theorem witness_FlowMaintenanceAndAging_2 : ∃ (s : State) (c : Fin 8) (ch : Chan) (cold : Bool) (b w i t0 : Nat) (key r : List Byte) (rest : List (MaintOp × Nat)), s.chan c = ch ∧ ch.clocked = true ∧ ch.flow.maint = (.invalidate cold b w i key, t0) :: rest ∧ recAt (if cold then ch.coldBytes i b else ch.bucketBytes i b) w = r ∧ recNames r key = true ∧ recGood r = false ∧ (cold = true ∨ ch.flowLocked i b = false) ∧ (cold = false ∨ ch.coldOn i = true) :=
  ⟨(st fun ch => let a : Chan := ((withTenant ch).setFld (R.FLW_REGION_A 0) F.FLW_REGION_A_log2_buckets 12).setBytes 1 0 (512 * 5 + 128 * 3) badRec; { a with flow := { a.flow with maint := [(.invalidate false 5 3 0 (slice badRec 0 40), 0)] } }), 0, _, false, 5, 3, 0, 0, (slice badRec 0 40), badRec, [], rfl, by decide +kernel⟩

theorem witness_FlowMaintenanceAndAging_3 : ∃ (s : State) (c : Fin 8) (ch : Chan), s.chan c = ch ∧ ch.clocked = true :=
  ⟨(st fun ch => { ch with flow := { ch.flow with pending := [([], 0, 0), ([1], 3, ch.ns)] } }), 0, _, rfl, by decide +kernel⟩

theorem witness_FlowMaintenanceAndAging_4 : ∃ (s : State) (c : Fin 8) (ch : Chan) (i : Fin 16), s.chan c = ch ∧ ch.clocked = true ∧ ch.safeServe = false ∧ ch.agePeriod i ≠ 0 ∧ ch.aging i = none :=
  ⟨(st fun ch => ch.setFld (R.FLW_REGION_B 15) F.FLW_REGION_B_age_period 1), 0, _, 15, rfl, by decide +kernel⟩

theorem witness_FlowMaintenanceAndAging_5 : ∃ (s : State) (c : Fin 8) (ch : Chan) (i : Fin 16) (a : Aging), s.chan c = ch ∧ ch.clocked = true ∧ ch.safeServe = false ∧ ch.agePeriod i ≠ 0 ∧ ch.aging i = some a ∧ a.start + ch.agePeriod i ≤ ch.ns ∧ ch.ageBuckets i ≤ a.next ∧ a.late = false :=
  ⟨(st fun ch => (ch.setFld (R.FLW_REGION_B 15) F.FLW_REGION_B_age_period 1).setAging 15 (some { start := 0, next := 0, late := false })), 0, _, 15, ({ start := 0, next := 0, late := false }), rfl, by decide +kernel⟩

theorem witness_FlowMaintenanceAndAging_6 : ∃ (s : State) (c : Fin 8) (ch : Chan) (i : Fin 16) (a : Aging), s.chan c = ch ∧ ch.clocked = true ∧ ch.safeServe = false ∧ ch.agePeriod i ≠ 0 ∧ ch.aging i = some a ∧ a.start + ch.agePeriod i ≤ ch.ns ∧ ch.ageBuckets i ≤ a.next ∧ a.late = true :=
  ⟨(st fun ch => (ch.setFld (R.FLW_REGION_B 15) F.FLW_REGION_B_age_period 1).setAging 15 (some { start := 0, next := 0, late := true })), 0, _, 15, ({ start := 0, next := 0, late := true }), rfl, by decide +kernel⟩

theorem witness_FlowMaintenanceAndAging_7 : ∃ (s : State) (c : Fin 8) (ch : Chan) (i : Fin 16) (a : Aging) (n b : Nat) (cold : Bool), s.chan c = ch ∧ ch.clocked = true ∧ ch.safeServe = false ∧ ch.agePeriod i ≠ 0 ∧ ch.aging i = some a ∧ a.next < ch.ageBuckets i ∧ a.start + a.next * ch.agePeriod i / ch.ageBuckets i ≤ ch.ns ∧ (if ch.hasRegion i then 2 ^ ch.regionBits i else 0) = n ∧ decide (n ≤ a.next) = cold ∧ (if cold then a.next - n else ch.regionBase i + a.next) = b ∧ (cold = true ∨ ch.flowLocked i b = false) :=
  ⟨(st fun ch => (((withTenant ch).setFld (R.FLW_REGION_A 0) F.FLW_REGION_A_log2_buckets 12).setFld (R.FLW_REGION_B 0) F.FLW_REGION_B_age_period 1).setAging 0 (some { start := 0, next := 4095, late := false })), 0, _, 0, ({ start := 0, next := 4095, late := false }), 4096, 4095, false, rfl, by decide +kernel⟩

theorem witness_FlowMaintenanceAndAging_8 : ∃ (s : State) (c : Fin 8) (ch : Chan) (i : Fin 16) (a : Aging) (n b : Nat) (cold : Bool), s.chan c = ch ∧ ch.clocked = true ∧ ch.safeServe = false ∧ ch.agePeriod i ≠ 0 ∧ ch.aging i = some a ∧ a.next < ch.ageBuckets i ∧ a.start + a.next * ch.agePeriod i / ch.ageBuckets i ≤ ch.ns ∧ (if ch.hasRegion i then 2 ^ ch.regionBits i else 0) = n ∧ decide (n ≤ a.next) = cold ∧ (if cold then a.next - n else ch.regionBase i + a.next) = b ∧ cold = false ∧ ch.flowLocked i b = true :=
  ⟨(st fun ch => let a : Chan := (((withTenant ch).setFld (R.FLW_REGION_A 0) F.FLW_REGION_A_log2_buckets 12).setFld (R.FLW_REGION_B 0) F.FLW_REGION_B_age_period 1).setAging 0 (some { start := 0, next := 5, late := false }); { a with flow := { a.flow with locks := [lock0] } }), 0, _, 0, ({ start := 0, next := 5, late := false }), 4096, 5, false, rfl, by decide +kernel⟩

theorem witness_FillsInsertsAndPromotions_1 : ∃ (s : State) (c : Fin 8) (ch : Chan) (bucket : BitVec 32) (i : Nat), s.chan c = ch ∧ ch.clocked = true ∧ ch.bucketTenant bucket.toNat = some i ∧ ch.flow.fills.contains bucket.toNat = true ∧ ch.flowLocked i bucket.toNat = false :=
  ⟨(st fun ch => let a : Chan := (withTenant ch).setFld (R.FLW_REGION_A 0) F.FLW_REGION_A_log2_buckets 12; { a with flow := { a.flow with fills := [4095] } }), 0, _, 4095, 0, rfl, by decide +kernel⟩

theorem witness_FillsInsertsAndPromotions_2 : ∃ (s : State) (c : Fin 8) (ch : Chan) (bucket : BitVec 32) (i : Nat), s.chan c = ch ∧ ch.clocked = true ∧ ch.bucketTenant bucket.toNat = some i ∧ ch.flow.fills.contains bucket.toNat = true ∧ ch.flowLocked i bucket.toNat = false ∧ ch.flow.miss = [] :=
  ⟨(st fun ch => let a : Chan := (withTenant ch).setFld (R.FLW_REGION_A 0) F.FLW_REGION_A_log2_buckets 12; { a with flow := { a.flow with fills := [4095] } }), 0, _, 4095, 0, rfl, by decide +kernel⟩

theorem witness_FillsInsertsAndPromotions_3 : ∃ (s : State) (c : Fin 8) (ch : Chan) (l : Lookup) (b w : Nat) (r : List Byte), s.chan c = ch ∧ ch.clocked = true ∧ ch.flow.miss.find? (fun l => l.cold && !ch.promoting l) = some l ∧ ch.coldOn l.tenant = true ∧ ch.findCold l.tenant l.key = some (b, w, r) ∧ ch.safeServe = false ∧ ch.insCount 17 < 256 :=
  ⟨coldState, 0, _, coldLookup, coldBucket, 2, goodRec, rfl, by decide +kernel⟩

theorem witness_FillsInsertsAndPromotions_4 : ∃ (s : State) (c : Fin 8) (ch : Chan) (l : Lookup), s.chan c = ch ∧ ch.clocked = true ∧ ch.flow.miss.find? (fun l => l.cold && !ch.promoting l) = some l ∧ ch.coldOn l.tenant = true ∧ ch.findCold l.tenant l.key = none ∧ ((ch.coldRecs l.tenant l.key).all fun x => !recValid x.2.2 || recGood x.2.2) = true ∧ ch.findRec l.tenant l.key false = none :=
  ⟨coldEmpty, 0, _, coldLookup, rfl, by decide +kernel⟩

theorem witness_FillsInsertsAndPromotions_5 : ∃ (s : State) (c : Fin 8) (ch : Chan) (l : Lookup) (rs : List (Nat × Nat × List Byte)), s.chan c = ch ∧ ch.clocked = true ∧ ch.flow.miss.find? (fun l => l.cold && !ch.promoting l) = some l ∧ ch.coldOn l.tenant = true ∧ ch.findCold l.tenant l.key = none ∧ ch.coldRecs l.tenant l.key = rs :=
  ⟨coldBad, 0, _, coldLookup, (coldBad.chan 0).coldRecs 0 coldLookup.key, rfl, by decide +kernel, by decide +kernel, by decide +kernel, by decide +kernel, rfl⟩

theorem witness_FillsInsertsAndPromotions_6 : ∃ (s : State) (c : Fin 8) (ch : Chan) (i : Nat) (r : List Byte) (rest : List (Nat × List Byte)) (x : Ins × Chan) (b w : Nat) (q : List Byte), s.chan c = ch ∧ ch.clocked = true ∧ ch.flow.promote = (i, r) :: rest ∧ i < 16 ∧ ch.safeServe = false ∧ Chan.insertTry false i (recParity (recBit r 4 false)) 3 { ch with flow := { ch.flow with promote := rest } } = x ∧ x.1 = .inserted ∧ (x.2.unpend i (recKey r)).findCold i (recKey r) = some (b, w, q) ∧ ch.flow.miss = [] :=
  ⟨promoState, 0, _, 0, goodRec, [], (promoTry promoState), coldBucket, 2, goodRec, rfl, by decide +kernel⟩

theorem witness_FillsInsertsAndPromotions_7 : ∃ (s : State) (c : Fin 8) (ch : Chan) (i : Nat) (r : List Byte) (rest : List (Nat × List Byte)) (x : Ins × Chan) (b w : Nat) (q : List Byte) (d : Chan) (l : Lookup) (z : Nat × Nat × List Byte), s.chan c = ch ∧ ch.clocked = true ∧ ch.flow.promote = (i, r) :: rest ∧ i < 16 ∧ ch.safeServe = false ∧ Chan.insertTry false i (recParity (recBit r 4 false)) 3 { ch with flow := { ch.flow with promote := rest } } = x ∧ x.1 = .inserted ∧ (x.2.unpend i (recKey r)).findCold i (recKey r) = some (b, w, q) ∧ ((x.2.unpend i (recKey r)).putCold i b w (recParity (recBit q 0 false))).insResult 17 0 i = d ∧ d.flow.miss.find? (fun l => l.cold && l.tenant == i && l.key == recKey r) = some l ∧ (d.leaveMiss l.job).findRec i (recKey r) true = some z :=
  ⟨promoWait, 0, _, 0, goodRec, [], (promoTry promoWait), coldBucket, 2, goodRec, promoMid, coldLookup, promoHit, rfl, by decide +kernel, by decide +kernel, by decide +kernel, by decide +kernel, rfl, by decide +kernel, by decide +kernel, rfl, by decide +kernel, rfl⟩

theorem witness_FillsInsertsAndPromotions_8 : ∃ (s : State) (c : Fin 8) (ch : Chan) (r : Fin 16) (x : List Byte) (a : Ins × Chan), s.chan c = ch ∧ ch.clocked = true ∧ ch.safeServe = false ∧ ch.flow.promote = [] ∧ ((List.range 17).map fun k => (ch.flow.lastRing + 1 + k) % 17).find? (fun k => ch.insCount k != 0) = some r.val ∧ ch.spad (ch.insAddr r (ch.insCons r)) 128 = x ∧ le x 37 1 = ch.tid r ∧ recValid x = true ∧ recHandle x ≠ 0 ∧ 1 ≤ le x 38 1 ∧ le x 38 1 ≤ 5 ∧ ch.hasRegion r = true ∧ Chan.insertTry false r (recParity (putBytes (putBytes x 120 (List.replicate 7 0)) 48 (leBytes 8 ch.ns))) 3 ({ ch with flow := { ch.flow with lastRing := r } }.load 0 chanKey (ch.insAddr r (ch.insCons r)) 128).2 = a ∧ a.1 = .inserted :=
  ⟨insState, 0, _, 0, goodRec, (Chan.insertTry false 0 (recParity (putBytes (putBytes goodRec 120 (List.replicate 7 0)) 48 (leBytes 8 (insState.chan 0).ns))) 3 ({ insState.chan 0 with flow := { (insState.chan 0).flow with lastRing := 0 } }.load 0 chanKey 0 128).2), rfl, by decide +kernel⟩

theorem witness_BucketLocks_1 : ∃ (s : State) (c : Fin 8) (ch : Chan) (src : Option (Fin 17)) (v w : Word) (i b : Nat), s.chan c = ch ∧ s.reaches src c R.FLW_LOCK_REQ = true ∧ ch.lockWord (writerInst src) v = w ∧ ch.lockTarget (getF w F.FLW_LOCK_REQ_tenant) (getF w F.FLW_LOCK_REQ_table) (getF w F.FLW_LOCK_REQ_bucket) = some (i, 0, b) ∧ ch.locked i 0 b = false ∧ ch.flow.locks.length < 16 ∧ (writerInst src = 0 ∨ (ch.flow.locks.filter fun (l : Lock) => l.holder == writerInst src).length < 4) ∧ ch.flowWay i (ch.regionBase i + b) = none :=
  ⟨(st fun ch => (withTenant ch).setFld (R.FLW_REGION_A 0) F.FLW_REGION_A_log2_buckets 12), 0, _, none, 4095, 4095, 0, 4095, rfl, by decide +kernel⟩

theorem witness_BucketLocks_2 : ∃ (s : State) (c : Fin 8) (ch : Chan) (src : Option (Fin 17)) (v w : Word) (i b k : Nat), s.chan c = ch ∧ s.reaches src c R.FLW_LOCK_REQ = true ∧ ch.lockWord (writerInst src) v = w ∧ ch.lockTarget (getF w F.FLW_LOCK_REQ_tenant) (getF w F.FLW_LOCK_REQ_table) (getF w F.FLW_LOCK_REQ_bucket) = some (i, 0, b) ∧ ch.locked i 0 b = false ∧ ch.flow.locks.length < 16 ∧ (writerInst src = 0 ∨ (ch.flow.locks.filter fun (l : Lock) => l.holder == writerInst src).length < 4) ∧ ch.flowWay i (ch.regionBase i + b) = some k :=
  ⟨(st fun ch => (((withTenant ch).setFld (R.FLW_REGION_B 0) F.FLW_REGION_B_log2_sets 3).setFld (R.FLW_REGION_A 0) F.FLW_REGION_A_log2_buckets 12).setLine 28 (some { bucket := 4095, tenant := 0, dirty := true, data := List.replicate 512 1 })), 0, _, none, 4095, 4095, 0, 4095, 28, rfl, by decide +kernel⟩

theorem witness_BucketLocks_3 : ∃ (s : State) (c : Fin 8) (ch : Chan) (src : Option (Fin 17)) (v w : Word) (i k b : Nat), s.chan c = ch ∧ s.reaches src c R.FLW_LOCK_REQ = true ∧ ch.lockWord (writerInst src) v = w ∧ ch.lockTarget (getF w F.FLW_LOCK_REQ_tenant) (getF w F.FLW_LOCK_REQ_table) (getF w F.FLW_LOCK_REQ_bucket) = some (i, k + 1, b) ∧ ch.locked i (k + 1) b = false ∧ ch.flow.locks.length < 16 ∧ (writerInst src = 0 ∨ (ch.flow.locks.filter fun (l : Lock) => l.holder == writerInst src).length < 4) :=
  ⟨shareState, 0, _, none, (setF 63 F.FLW_LOCK_REQ_table 1), (setF 63 F.FLW_LOCK_REQ_table 1), 0, 0, 63, rfl, by decide +kernel⟩

theorem witness_BucketLocks_4 : ∃ (s : State) (c : Fin 8) (ch : Chan) (src : Option (Fin 17)) (v w : Word), s.chan c = ch ∧ s.reaches src c R.FLW_LOCK_REQ = true ∧ ch.lockWord (writerInst src) v = w ∧ ch.lockTarget (getF w F.FLW_LOCK_REQ_tenant) (getF w F.FLW_LOCK_REQ_table) (getF w F.FLW_LOCK_REQ_bucket) = none :=
  ⟨(st fun ch => (withTenant ch).setFld (R.FLW_REGION_A 0) F.FLW_REGION_A_log2_buckets 12), 0, _, none, 4096, 4096, rfl, by decide +kernel⟩

theorem witness_BucketLocks_5 : ∃ (s : State) (c : Fin 8) (ch : Chan) (src : Option (Fin 17)) (v w : Word) (i table b : Nat), s.chan c = ch ∧ s.reaches src c R.FLW_LOCK_REQ = true ∧ ch.lockWord (writerInst src) v = w ∧ ch.lockTarget (getF w F.FLW_LOCK_REQ_tenant) (getF w F.FLW_LOCK_REQ_table) (getF w F.FLW_LOCK_REQ_bucket) = some (i, table, b) ∧ ch.locked i table b = true :=
  ⟨(st fun ch => let a : Chan := (withTenant ch).setFld (R.FLW_REGION_A 0) F.FLW_REGION_A_log2_buckets 12; { a with flow := { a.flow with locks := [lock0] } }), 0, _, none, 5, 5, 0, 0, 5, rfl, by decide +kernel⟩

theorem witness_BucketLocks_6 : ∃ (s : State) (c : Fin 8) (ch : Chan) (src : Option (Fin 17)) (v w : Word) (i table b : Nat) (l : Lock), s.chan c = ch ∧ s.reaches src c R.FLW_LOCK_REL = true ∧ ch.flag R.FLW_LOCK_REL F.FLW_LOCK_REL_start = false ∧ (ch.lockRelWrite (writerInst src) v).rd R.FLW_LOCK_REL = w ∧ ch.lockTarget (getF w F.FLW_LOCK_REL_tenant) (getF w F.FLW_LOCK_REL_table) (getF w F.FLW_LOCK_REL_bucket) = some (i, table, b) ∧ ch.flow.locks.find? (fun l => l.tenant == i && l.table == table && l.bucket == b) = some l ∧ l.holder = writerInst src ∧ l.release = none :=
  ⟨(st fun ch => let a : Chan := (withTenant ch).setFld (R.FLW_REGION_A 0) F.FLW_REGION_A_log2_buckets 12; { a with flow := { a.flow with locks := [lock0] } }), 0, _, none, 5, 5, 0, 0, 5, lock0, rfl, by decide +kernel⟩

theorem witness_BucketLocks_7 : ∃ (s : State) (c : Fin 8) (ch : Chan) (src : Option (Fin 17)) (v w : Word) (i table b : Nat) (l : Lock), s.chan c = ch ∧ s.reaches src c R.FLW_LOCK_REL = true ∧ ch.flag R.FLW_LOCK_REL F.FLW_LOCK_REL_start = false ∧ (ch.lockRelWrite (writerInst src) v).rd R.FLW_LOCK_REL = w ∧ ch.lockTarget (getF w F.FLW_LOCK_REL_tenant) (getF w F.FLW_LOCK_REL_table) (getF w F.FLW_LOCK_REL_bucket) = some (i, table, b) ∧ ch.flow.locks.find? (fun l => l.tenant == i && l.table == table && l.bucket == b) = some l ∧ l.holder ≠ writerInst src :=
  ⟨(st fun ch => let a : Chan := (withTenant ch).setFld (R.FLW_REGION_A 0) F.FLW_REGION_A_log2_buckets 12; { a with flow := { a.flow with locks := [{ lock0 with holder := 16 }] } }), 0, _, none, 5, 5, 0, 0, 5, ({ lock0 with holder := 16 }), rfl, by decide +kernel⟩

theorem witness_BucketLocks_8 : ∃ (s : State) (c : Fin 8) (ch : Chan) (src : Option (Fin 17)) (v : Word), s.chan c = ch ∧ s.reaches src c R.FLW_LOCK_REL = true ∧ ch.flag R.FLW_LOCK_REL F.FLW_LOCK_REL_start = true :=
  ⟨(st fun ch => ch.setFlag R.FLW_LOCK_REL F.FLW_LOCK_REL_start true), 0, _, none, 7, rfl, by decide +kernel⟩

theorem witness_BucketLocks_9 : ∃ (s : State) (c : Fin 8) (ch : Chan) (l : Lock) (t0 : Nat), s.chan c = ch ∧ ch.clocked = true ∧ ch.flow.locks = [l] ∧ l.release = some t0 ∧ ch.lockBusy l = false ∧ ch.sinceC t0 336 = true ∧ l.noCheck = false ∧ l.forced = false ∧ l.table = 0 :=
  ⟨(st fun ch => let a : Chan := (withTenant ch).setFld (R.FLW_REGION_A 0) F.FLW_REGION_A_log2_buckets 12; { a with flow := { a.flow with locks := [{ lock0 with release := some 0 }] } }), 0, _, ({ lock0 with release := some 0 }), 0, rfl, by decide +kernel⟩

theorem witness_BucketLocks_10 : ∃ (s : State) (c : Fin 8) (ch : Chan) (l : Lock), s.chan c = ch ∧ ch.clocked = true ∧ ch.flow.locks.find? (fun l => l.release.isNone && ch.since l.at_ (min 1000 (max 1 (ch.fld R.FLW_LOCK_CTRL F.FLW_LOCK_CTRL_max_hold)) * usG)) = some l :=
  ⟨(st fun ch => let a : Chan := (withTenant ch).setFld (R.FLW_REGION_A 0) F.FLW_REGION_A_log2_buckets 12; { a with flow := { a.flow with locks := [lock0] } }), 0, _, lock0, rfl, by decide +kernel⟩

theorem witness_BucketLocks_11 : ∃ (s : State) (c : Fin 8) (ch : Chan) (l : Lookup), s.chan c = ch ∧ ch.clocked = true ∧ ch.flow.parked.find? (fun l => ch.sinceC l.at_ 4200) = some l :=
  ⟨(st fun ch => let a : Chan := (withTenant ch).setFld (R.FLW_REGION_A 0) F.FLW_REGION_A_log2_buckets 12; { a with jobs := [job0], flow := { a.flow with parked := [coldLookup] } }), 0, _, coldLookup, rfl, by decide +kernel⟩

theorem witness_RegionsAndRings_1 : ∃ (s : State) (c : Fin 8) (ch : Chan) (src : Option (Fin 17)) (i : Fin 16) (v : Word), s.chan c = ch ∧ s.reaches src c (R.FLW_REGION_A i) = true ∧ ch.hasRegion i = false ∧ ch.safeServe = false ∧ getF v F.FLW_REGION_A_log2_buckets ≠ 0 ∧ ch.regionOk i (getF v F.FLW_REGION_A_base_bucket) (getF v F.FLW_REGION_A_log2_buckets) = true :=
  ⟨live, 0, _, none, 15, (setF 0 F.FLW_REGION_A_log2_buckets 26), rfl, by decide +kernel⟩

theorem witness_RegionsAndRings_2 : ∃ (s : State) (c : Fin 8) (ch : Chan) (src : Option (Fin 17)) (i : Fin 16) (v : Word), s.chan c = ch ∧ s.reaches src c (R.FLW_REGION_A i) = true ∧ ch.hasRegion i = false ∧ ch.safeServe = false ∧ getF v F.FLW_REGION_A_log2_buckets ≠ 0 ∧ ch.regionOk i (getF v F.FLW_REGION_A_base_bucket) (getF v F.FLW_REGION_A_log2_buckets) = false :=
  ⟨live, 0, _, none, 0, (setF 0 F.FLW_REGION_A_log2_buckets 27), rfl, by decide +kernel⟩

theorem witness_RegionsAndRings_3 : ∃ (s : State) (c : Fin 8) (ch : Chan) (src : Option (Fin 17)) (i : Fin 16) (v : Word), s.chan c = ch ∧ s.reaches src c (R.FLW_REGION_B i) = true ∧ ch.hasRegion i = false ∧ ch.safeServe = false ∧ ch.regionBOk i v = true :=
  ⟨live, 0, _, (some 0), 0, (setF (setF 0 F.FLW_REGION_B_log2_sets 12) F.FLW_REGION_B_age_period 9), rfl, by decide +kernel⟩

theorem witness_RegionsAndRings_4 : ∃ (s : State) (c : Fin 8) (ch : Chan) (src : Option (Fin 17)) (i : Fin 16) (v : Word), s.chan c = ch ∧ s.reaches src c (R.FLW_REGION_B i) = true ∧ ch.hasRegion i = true :=
  ⟨(st fun ch => (withTenant ch).setFld (R.FLW_REGION_A 0) F.FLW_REGION_A_log2_buckets 12), 0, _, none, 0, 0xFFFFFFFFFFFFFFFF, rfl, by decide +kernel⟩

theorem witness_RegionsAndRings_5 : ∃ (s : State) (c : Fin 8) (ch : Chan) (src : Option (Fin 17)) (i : Fin 16) (v : Word), s.chan c = ch ∧ s.reaches src c (R.FLW_REGION_B i) = true ∧ ch.hasRegion i = false ∧ ch.safeServe = false ∧ ch.regionBOk i v = false :=
  ⟨live, 0, _, none, 0, (setF 0 F.FLW_REGION_B_log2_sets 13), rfl, by decide +kernel⟩

theorem witness_RegionsAndRings_6 : ∃ (s : State) (c : Fin 8) (ch : Chan) (src : Option (Fin 17)) (i : Fin 16) (v : Word), s.chan c = ch ∧ s.reaches src c (R.FLW_REGION_A i) = true ∧ ch.hasRegion i = true :=
  ⟨(st fun ch => let a : Chan := (withTenant ch).setFld (R.FLW_REGION_A 0) F.FLW_REGION_A_log2_buckets 12; { a with jobs := [job0], flow := { a.flow with fills := [4095, 4096], locks := [lock0], pending := [([], 0, 0), ([], 1, 0)], parked := [coldLookup] } }), 0, _, none, 0, 0, rfl, by decide +kernel⟩

theorem witness_RegionsAndRings_7 : ∃ (s : State) (c : Fin 8) (ch : Chan) (src : Option (Fin 17)) (i : Fin 16) (v : Word), s.chan c = ch ∧ s.reaches src c (R.LDS_NOTE_IDX i) = true ∧ ((src = none ∧ ch.learnTo i = 1) ∨ ((src = some 0 ∨ src = some i.succ) ∧ ch.learnTo i = 2)) ∧ (ch.fld (R.LDS_NOTE_IDX i) F.LDS_NOTE_IDX_prod + 2048 - getF v F.LDS_NOTE_IDX_cons) % 2048 ≤ 1024 :=
  ⟨(st fun ch => (ch.setFld (R.FLW_REGION_B 15) F.FLW_REGION_B_learn_to 1).setFld (R.LDS_NOTE_IDX 15) F.LDS_NOTE_IDX_prod 1024), 0, _, none, 15, 0, rfl, by decide +kernel⟩

theorem witness_RegionsAndRings_8 : ∃ (s : State) (c : Fin 8) (ch : Chan) (src : Option (Fin 17)) (i : Fin 16) (v : Word), s.chan c = ch ∧ s.reaches src c (R.LDS_NOTE_IDX i) = true ∧ ((src = none ∧ ch.learnTo i = 1) ∨ ((src = some 0 ∨ src = some i.succ) ∧ ch.learnTo i = 2)) ∧ 1024 < (ch.fld (R.LDS_NOTE_IDX i) F.LDS_NOTE_IDX_prod + 2048 - getF v F.LDS_NOTE_IDX_cons) % 2048 :=
  ⟨(st fun ch => (ch.setFld (R.FLW_REGION_B 15) F.FLW_REGION_B_learn_to 1).setFld (R.LDS_NOTE_IDX 15) F.LDS_NOTE_IDX_prod 1025), 0, _, none, 15, 0, rfl, by decide +kernel⟩

theorem witness_RegionsAndRings_9 : ∃ (s : State) (c : Fin 8) (ch : Chan) (src : Option (Fin 17)) (i : Fin 16) (v : Word) (k : Fin 17), s.chan c = ch ∧ s.reaches src c (R.LDS_INS_IDX k) = true ∧ (getF v F.LDS_INS_IDX_prod + 512 - ch.insCons k) % 512 ≤ 256 ∧ ch.insCount k ≤ (getF v F.LDS_INS_IDX_prod + 512 - ch.insCons k) % 512 :=
  ⟨live, 0, _, none, 0, (setF 0 F.LDS_INS_IDX_prod 256), 16, rfl, by decide +kernel⟩

theorem witness_RegionsAndRings_10 : ∃ (s : State) (c : Fin 8) (ch : Chan) (src : Option (Fin 17)) (i : Fin 16) (v : Word) (k : Fin 17), s.chan c = ch ∧ s.reaches src c (R.LDS_INS_IDX k) = true ∧ (256 < (getF v F.LDS_INS_IDX_prod + 512 - ch.insCons k) % 512 ∨ (getF v F.LDS_INS_IDX_prod + 512 - ch.insCons k) % 512 < ch.insCount k) :=
  ⟨live, 0, _, none, 0, (setF 0 F.LDS_INS_IDX_prod 257), 16, rfl, by decide +kernel⟩

theorem witness_FeatureProgramsAndEntities_1 : ∃ (s : State) (c : Fin 8) (ch : Chan) (src : Option (Fin 17)) (n : Fin 64) (v : Word), s.chan c = ch ∧ s.reaches src c (R.FTR_PROG n) = true ∧ writerInst src = 0 ∧ ((List.range 128).any fun x => ch.sideBusy x && (ch.side x).progs.contains n.val) = false ∧ getF v F.FTR_PROG_slot_base % 64 = 0 ∧ getF v F.FTR_PROG_count ≤ 128 :=
  ⟨live, 0, _, none, 63, (setF 0xFFFFFF0000000000 F.FTR_PROG_count 128), rfl, by decide +kernel⟩

theorem witness_FeatureProgramsAndEntities_2 : ∃ (s : State) (c : Fin 8) (ch : Chan) (i : Fin 16) (n : Fin 64) (v : Word), s.chan c = ch ∧ s.reaches (some i.succ) c (R.FTR_PROG n) = true ∧ (ch.fld (R.FTR_PROG n) F.FTR_PROG_count = 0 ∨ ch.fld (R.FTR_PROG n) F.FTR_PROG_owner = ch.tid i) ∧ ((List.range 128).any fun x => ch.sideBusy x && (ch.side x).progs.contains n.val) = false ∧ getF v F.FTR_PROG_slot_base % 64 = 0 ∧ getF v F.FTR_PROG_count ≤ 128 :=
  ⟨(st fun ch => { withTenant ch with host := { numVFs := 1, vfEnable := true } }), 0, _, 0, 0, 0xFFFFFF00FFFFFFC0, rfl, by decide +kernel⟩

theorem witness_FeatureProgramsAndEntities_3 : ∃ (s : State) (c : Fin 8) (ch : Chan) (i : Fin 16) (n : Fin 64) (v : Word), s.chan c = ch ∧ s.reaches (some i.succ) c (R.FTR_PROG n) = true ∧ ch.fld (R.FTR_PROG n) F.FTR_PROG_count ≠ 0 ∧ ch.fld (R.FTR_PROG n) F.FTR_PROG_owner ≠ ch.tid i :=
  ⟨(st fun ch => { (withTenant ch).wr (R.FTR_PROG 0) (setF (setF 0 F.FTR_PROG_count 1) F.FTR_PROG_owner 1) with host := { numVFs := 1, vfEnable := true } }), 0, _, 0, 0, 0, rfl, by decide +kernel⟩

theorem witness_FeatureProgramsAndEntities_4 : ∃ (s : State) (c : Fin 8) (ch : Chan) (src : Option (Fin 17)) (n : Fin 64) (v : Word), s.chan c = ch ∧ s.reaches src c (R.FTR_PROG n) = true ∧ writerInst src = 0 ∧ (((List.range 128).any fun x => ch.sideBusy x && (ch.side x).progs.contains n.val) = true ∨ 128 < getF v F.FTR_PROG_count ∨ getF v F.FTR_PROG_slot_base % 64 ≠ 0) :=
  ⟨live, 0, _, (some 0), 63, (setF 0 F.FTR_PROG_count 129), rfl, by decide +kernel⟩

theorem witness_FeatureProgramsAndEntities_5 : ∃ (s : State) (c : Fin 8) (ch : Chan) (i : Fin 16) (n : Fin 64) (v : Word), s.chan c = ch ∧ s.reaches (some i.succ) c (R.FTR_PROG n) = true ∧ (ch.fld (R.FTR_PROG n) F.FTR_PROG_count = 0 ∨ ch.fld (R.FTR_PROG n) F.FTR_PROG_owner = ch.tid i) ∧ (((List.range 128).any fun x => ch.sideBusy x && (ch.side x).progs.contains n.val) = true ∨ 128 < getF v F.FTR_PROG_count ∨ getF v F.FTR_PROG_slot_base % 64 ≠ 0) :=
  ⟨(st fun ch => { withTenant ch with host := { numVFs := 1, vfEnable := true } }), 0, _, 0, 0, 1, rfl, by decide +kernel⟩

theorem witness_FeatureProgramsAndEntities_6 : ∃ (s : State) (c : Fin 8) (ch : Chan) (n : Fin 64), s.chan c = ch ∧ ch.clocked = true ∧ ch.ftr.loading.any (·.1 == n.val) = true :=
  ⟨(st fun ch => { (ch.wr (R.FTR_PROG 5) (setF 64 F.FTR_PROG_count 2)).setBytes 0 0 64 [1, 2, 3] with ftr := { loading := [(5, 0)] } }), 0, _, 5, rfl, by decide +kernel⟩

theorem witness_FeatureProgramsAndEntities_7 : ∃ (s : State) (c : Fin 8) (ch : Chan) (i : Fin 16) (k : Fin 4) (bucket : BitVec 32), s.chan c = ch ∧ ch.clocked = true ∧ ch.ftr.fills.contains (i.val, k.val, bucket.toNat) = true ∧ ch.locked i (k.val + 1) bucket.toNat = false :=
  ⟨(st fun ch => { ch with ftr := { fills := [(15, 3, 7)] } }), 0, _, 15, 3, 7, rfl, by decide +kernel⟩

theorem witness_FeatureProgramsAndEntities_8 : ∃ (s : State) (c : Fin 8) (ch : Chan) (i : Fin 16) (k : Fin 4) (bucket : BitVec 32), s.chan c = ch ∧ ch.clocked = true ∧ ch.ftr.fills.contains (i.val, k.val, bucket.toNat) = true ∧ ch.locked i (k.val + 1) bucket.toNat = false :=
  ⟨(st fun ch => { ch with ftr := { fills := [(15, 3, 7)] } }), 0, _, 15, 3, 7, rfl, by decide +kernel⟩

theorem witness_FeatureProgramsAndEntities_9 : ∃ (s : State) (c : Fin 8) (ch : Chan) (i : Fin 16) (k : Fin 4) (bucket : BitVec 32) (ok : Bool), s.chan c = ch ∧ ch.clocked = true ∧ ch.ftr.fills.contains (i.val, k.val, bucket.toNat) = true ∧ ch.locked i (k.val + 1) bucket.toNat = true :=
  ⟨(st fun ch => { ch with ftr := { fills := [(0, 0, 5)] }, flow := { locks := [{ lock0 with table := 1 }] } }), 0, _, 0, 0, 5, true, rfl, by decide +kernel⟩

theorem witness_ForestDescriptorsAndCam_1 : ∃ (s : State) (c : Fin 8) (ch : Chan) (src : Option (Fin 17)) (n : Fin 32) (part : Fin 4) (v m w : Word), s.chan c = ch ∧ s.reaches src c (R.FST_ENS_CFG n + 8 * part.val) = true ∧ (src = none ∨ ch.flag R.FST_CTRL F.FST_CTRL_enable = false) ∧ ch.safeServe = false ∧ m = (if part = 0 then 0x00FFFFFFFFFFFFFF else if part = 1 then 0x00003FFFFFFFFFFF else if part = 2 then 0x00000000FFFFFFFF else 0xFFFFFFFFFFFFFFFF) ∧ (w = (if part = 0 ∧ src.isSome = true ∧ ch.ensValid n = false then setF v F.FST_ENS_CFG_valid 0 else v)) ∧ ((ch.wr (R.FST_ENS_CFG n + 8 * part.val) (w &&& m)).ensValid n = false ∨ (ch.wr (R.FST_ENS_CFG n + 8 * part.val) (w &&& m)).ensOk n = true) :=
  ⟨live, 0, _, none, 31, 3, 0xFFFFFFFFFFFFFFFF, 0xFFFFFFFFFFFFFFFF, 0xFFFFFFFFFFFFFFFF, rfl, by decide +kernel⟩

theorem witness_ForestDescriptorsAndCam_2 : ∃ (s : State) (c : Fin 8) (ch : Chan) (src : Option (Fin 17)) (n : Fin 32) (part : Fin 4) (v m w : Word), s.chan c = ch ∧ s.reaches src c (R.FST_ENS_CFG n + 8 * part.val) = true ∧ (src = none ∨ ch.flag R.FST_CTRL F.FST_CTRL_enable = false) ∧ ch.safeServe = false ∧ m = (if part = 0 then 0x00FFFFFFFFFFFFFF else if part = 1 then 0x00003FFFFFFFFFFF else if part = 2 then 0x00000000FFFFFFFF else 0xFFFFFFFFFFFFFFFF) ∧ (w = (if part = 0 ∧ src.isSome = true ∧ ch.ensValid n = false then setF v F.FST_ENS_CFG_valid 0 else v)) ∧ (ch.wr (R.FST_ENS_CFG n + 8 * part.val) (w &&& m)).ensValid n = true ∧ (ch.wr (R.FST_ENS_CFG n + 8 * part.val) (w &&& m)).ensOk n = false :=
  ⟨live, 0, _, none, 31, 0, 1, 0x00FFFFFFFFFFFFFF, 1, rfl, by decide +kernel⟩

theorem witness_ForestDescriptorsAndCam_3 : ∃ (s : State) (c : Fin 8) (ch : Chan) (src : Option (Fin 17)) (entry : BitVec 16) (word : Fin 22) (v : Word), s.chan c = ch ∧ s.reaches src c (camOffset entry.toNat word) = true ∧ word ≠ 20 ∧ ch.bankOwned (entry.toNat / 2048) = false :=
  ⟨live, 0, _, (some 0), 0xFFFF, 21, 5, rfl, by decide +kernel⟩

theorem witness_ForestDescriptorsAndCam_4 : ∃ (s : State) (c : Fin 8) (ch : Chan) (src : Option (Fin 17)) (entry : BitVec 16) (word : Fin 22) (v : Word), s.chan c = ch ∧ s.reaches src c (camOffset entry.toNat word) = true ∧ ch.bankOwned (entry.toNat / 2048) = true :=
  ⟨(st fun ch => (ch.wr (R.FST_ENS_CFG 0) 1).wr (R.FST_ENS_BANKS 0) 0x80000000), 0, _, (some 0), 0xFFFF, 21, 1, rfl, by decide +kernel⟩

theorem witness_ForestDescriptorsAndCam_5 : ∃ (s : State) (c : Fin 8) (ch : Chan) (src : Option (Fin 17)) (entry : BitVec 16) (v : Word) (x : CamEntry), s.chan c = ch ∧ s.reaches src c (camOffset entry.toNat 20) = true ∧ ch.bankOwned (entry.toNat / 2048) = false ∧ { ch.holdFor entry.toNat with valid := v.getLsbD 0 } = x :=
  ⟨live, 0, _, (some 0), 0xFFFF, 1, ({ valid := true }), rfl, by decide +kernel⟩

theorem witness_ForestDescriptorsAndCam_6 : ∃ (s : State) (c : Fin 8) (ch : Chan) (src : Option (Fin 17)) (entry : BitVec 16) (v : Word), s.chan c = ch ∧ s.reaches src c (camOffset entry.toNat 20) = true ∧ ch.bankOwned (entry.toNat / 2048) = true :=
  ⟨(st fun ch => (ch.wr (R.FST_ENS_CFG 0) 1).wr (R.FST_ENS_BANKS 0) 0x80000000), 0, _, (some 0), 0xFFFF, 1, rfl, by decide +kernel⟩

theorem witness_ForestDescriptorsAndCam_7 : ∃ (s : State) (c : Fin 8) (ch : Chan) (entry : BitVec 16) (bits : List Nat) (x : CamEntry), s.chan c = ch ∧ ch.isOn = true ∧ bits.foldl CamEntry.flip (ch.cam entry.toNat) = x ∧ x.good = false ∧ sget (fun _ => none) ch.fst.excl entry.toNat = none :=
  ⟨live, 0, _, 2047, [1280], ({ valid := true }), rfl, by decide +kernel⟩

theorem witness_ForestDescriptorsAndCam_8 : ∃ (s : State) (c : Fin 8) (ch : Chan) (entry : BitVec 16) (bits : List Nat) (x : CamEntry), s.chan c = ch ∧ ch.isOn = true ∧ bits.foldl CamEntry.flip (ch.cam entry.toNat) = x ∧ (x.good = true ∨ (sget (fun _ => none) ch.fst.excl entry.toNat).isSome = true) :=
  ⟨live, 0, _, 2047, ([1280, 1281]), ({ valid := true, parity := 1 }), rfl, by decide +kernel⟩

theorem witness_ForestDescriptorsAndCam_9 : ∃ (s : State) (c : Fin 8) (ch : Chan) (e t0 : Nat) (rest : List (Nat × Nat)) (g : Golden) (x : CamEntry) (a : Chan), s.chan c = ch ∧ ch.clocked = true ∧ ch.fst.repairs = (e, t0) :: rest ∧ ch.safeServe = false ∧ ch.flag R.FST_CTRL F.FST_CTRL_repair_enable = true ∧ sget (fun _ => none) ch.fst.golden (e / 2048) = some g ∧ ({ ch with fst := { ch.fst with repairs := rest } }.repairStatus.goldenKind (ctxOf g.slot g.side) 6) = (true, a) ∧ a.goldenEntry e = some x :=
  ⟨goldenState, 0, _, 5, 0, [], ({ slot := 0, side := 0 }), goldenX, goldenA, rfl, by decide +kernel, by decide +kernel, by decide +kernel, by decide +kernel, by decide +kernel, by decide +kernel, rfl⟩

theorem witness_ForestDescriptorsAndCam_10 : ∃ (s : State) (c : Fin 8) (ch : Chan) (n : Fin 32) (x : Nat × Nat), s.chan c = ch ∧ ch.clocked = true ∧ ch.fst.leaving.find? (·.1 == n.val) = some x ∧ ch.sinceC x.2 (97 + 18 * ch.ensPasses n + 1) = true ∧ ch.ensAwaited n = false :=
  ⟨(st fun ch => { ch.wr (R.FST_ENS_BANKS 31) 3 with fst := { leaving := [(31, 0)], golden := [(1, some { slot := 0, side := 0 })] } }), 0, _, 31, (31, 0), rfl, by decide +kernel⟩

theorem witness_SequencerIssuesInOrder_1 : ∃ (s : State) (c : Fin 8) (ch : Chan) (ctx : Fin 128) (index : Nat) (r : Run) (x : Bool × Chan) (a : Chan), s.chan c = ch ∧ ch.clocked = true ∧ ch.run ctx = some r ∧ r.next = index ∧ index < (ch.side ctx).commands ∧ ch.obs.dump = none ∧ (ch.models.holds.any fun h => h.ctx == ctx.val && h.part.isNone) = false ∧ r.failed = none ∧ ch.stepStops ctx r.number index = false ∧ r.clear (ch.cmdRanges ctx r.number r.m index).1 (ch.cmdRanges ctx r.number r.m index).2 = true ∧ ch.loadTables ctx r.number index = x ∧ x.1 = true ∧ x.2.setRun ctx { r with next := index + 1, live := r.live ++ [{ index := index, at_ := x.2.now, reads := (ch.cmdRanges ctx r.number r.m index).1, writes := (ch.cmdRanges ctx r.number r.m index).2 }], out := if ((ch.side ctx).cmd index).output then some (x.2.outputOf ctx r.number ((ch.side ctx).cmd index)) else r.out } = a ∧ ((ch.side ctx).cmd index).opcode = 1 :=
  ⟨(seqState 1), 0, _, 0, 0, run0, (seqX 1), (seqA 1), rfl, by decide +kernel⟩

theorem witness_SequencerIssuesInOrder_2 : ∃ (s : State) (c : Fin 8) (ch : Chan) (ctx : Fin 128) (index : Nat) (r : Run) (x : Bool × Chan) (a : Chan), s.chan c = ch ∧ ch.clocked = true ∧ ch.run ctx = some r ∧ r.next = index ∧ index < (ch.side ctx).commands ∧ ch.obs.dump = none ∧ (ch.models.holds.any fun h => h.ctx == ctx.val && h.part.isNone) = false ∧ r.failed = none ∧ ch.stepStops ctx r.number index = false ∧ r.clear (ch.cmdRanges ctx r.number r.m index).1 (ch.cmdRanges ctx r.number r.m index).2 = true ∧ ch.loadTables ctx r.number index = x ∧ x.1 = true ∧ x.2.setRun ctx { r with next := index + 1, live := r.live ++ [{ index := index, at_ := x.2.now, reads := (ch.cmdRanges ctx r.number r.m index).1, writes := (ch.cmdRanges ctx r.number r.m index).2 }], out := if ((ch.side ctx).cmd index).output then some (x.2.outputOf ctx r.number ((ch.side ctx).cmd index)) else r.out } = a ∧ ((ch.side ctx).cmd index).opcode = 2 :=
  ⟨(seqState 2), 0, _, 0, 0, run0, (seqX 2), (seqA 2), rfl, by decide +kernel⟩

theorem witness_SequencerIssuesInOrder_3 : ∃ (s : State) (c : Fin 8) (ch : Chan) (ctx : Fin 128) (index : Nat) (r : Run) (x : Bool × Chan) (a : Chan), s.chan c = ch ∧ ch.clocked = true ∧ ch.run ctx = some r ∧ r.next = index ∧ index < (ch.side ctx).commands ∧ ch.obs.dump = none ∧ (ch.models.holds.any fun h => h.ctx == ctx.val && h.part.isNone) = false ∧ r.failed = none ∧ ch.stepStops ctx r.number index = false ∧ r.clear (ch.cmdRanges ctx r.number r.m index).1 (ch.cmdRanges ctx r.number r.m index).2 = true ∧ ch.loadTables ctx r.number index = x ∧ x.1 = true ∧ x.2.setRun ctx { r with next := index + 1, live := r.live ++ [{ index := index, at_ := x.2.now, reads := (ch.cmdRanges ctx r.number r.m index).1, writes := (ch.cmdRanges ctx r.number r.m index).2 }], out := if ((ch.side ctx).cmd index).output then some (x.2.outputOf ctx r.number ((ch.side ctx).cmd index)) else r.out } = a ∧ ((ch.side ctx).cmd index).opcode = 3 :=
  ⟨(seqState 3), 0, _, 0, 0, run0, (seqX 3), (seqA 3), rfl, by decide +kernel⟩

theorem witness_SequencerIssuesInOrder_4 : ∃ (s : State) (c : Fin 8) (ch : Chan) (ctx : Fin 128) (index : Nat) (r : Run) (x : Bool × Chan) (a : Chan), s.chan c = ch ∧ ch.clocked = true ∧ ch.run ctx = some r ∧ r.next = index ∧ index < (ch.side ctx).commands ∧ ch.obs.dump = none ∧ (ch.models.holds.any fun h => h.ctx == ctx.val && h.part.isNone) = false ∧ r.failed = none ∧ ch.stepStops ctx r.number index = false ∧ r.clear (ch.cmdRanges ctx r.number r.m index).1 (ch.cmdRanges ctx r.number r.m index).2 = true ∧ ch.loadTables ctx r.number index = x ∧ x.1 = true ∧ x.2.setRun ctx { r with next := index + 1, live := r.live ++ [{ index := index, at_ := x.2.now, reads := (ch.cmdRanges ctx r.number r.m index).1, writes := (ch.cmdRanges ctx r.number r.m index).2 }], out := if ((ch.side ctx).cmd index).output then some (x.2.outputOf ctx r.number ((ch.side ctx).cmd index)) else r.out } = a ∧ ((ch.side ctx).cmd index).opcode = 4 :=
  ⟨(seqState 4), 0, _, 0, 0, run0, (seqX 4), (seqA 4), rfl, by decide +kernel⟩

theorem witness_SequencerIssuesInOrder_5 : ∃ (s : State) (c : Fin 8) (ch : Chan) (ctx : Fin 128) (index : Nat) (r : Run) (x : Bool × Chan) (a : Chan), s.chan c = ch ∧ ch.clocked = true ∧ ch.run ctx = some r ∧ r.next = index ∧ index < (ch.side ctx).commands ∧ ch.obs.dump = none ∧ (ch.models.holds.any fun h => h.ctx == ctx.val && h.part.isNone) = false ∧ r.failed = none ∧ ch.stepStops ctx r.number index = false ∧ r.clear (ch.cmdRanges ctx r.number r.m index).1 (ch.cmdRanges ctx r.number r.m index).2 = true ∧ ch.loadTables ctx r.number index = x ∧ x.1 = true ∧ x.2.setRun ctx { r with next := index + 1, live := r.live ++ [{ index := index, at_ := x.2.now, reads := (ch.cmdRanges ctx r.number r.m index).1, writes := (ch.cmdRanges ctx r.number r.m index).2 }], out := if ((ch.side ctx).cmd index).output then some (x.2.outputOf ctx r.number ((ch.side ctx).cmd index)) else r.out } = a ∧ ((ch.side ctx).cmd index).opcode = 5 :=
  ⟨(seqState 5), 0, _, 0, 0, run0, (seqX 5), (seqA 5), rfl, by decide +kernel⟩

theorem witness_SequencerIssuesInOrder_6 : ∃ (s : State) (c : Fin 8) (ch : Chan) (ctx : Fin 128) (index : Nat) (r : Run) (x : Bool × Chan) (a : Chan), s.chan c = ch ∧ ch.clocked = true ∧ ch.run ctx = some r ∧ r.next = index ∧ index < (ch.side ctx).commands ∧ ch.obs.dump = none ∧ (ch.models.holds.any fun h => h.ctx == ctx.val && h.part.isNone) = false ∧ r.failed = none ∧ ch.stepStops ctx r.number index = false ∧ r.clear (ch.cmdRanges ctx r.number r.m index).1 (ch.cmdRanges ctx r.number r.m index).2 = true ∧ ch.loadTables ctx r.number index = x ∧ x.1 = true ∧ x.2.setRun ctx { r with next := index + 1, live := r.live ++ [{ index := index, at_ := x.2.now, reads := (ch.cmdRanges ctx r.number r.m index).1, writes := (ch.cmdRanges ctx r.number r.m index).2 }], out := if ((ch.side ctx).cmd index).output then some (x.2.outputOf ctx r.number ((ch.side ctx).cmd index)) else r.out } = a ∧ ((ch.side ctx).cmd index).opcode = 6 :=
  ⟨(seqState 6), 0, _, 0, 0, run0, (seqX 6), (seqA 6), rfl, by decide +kernel⟩

theorem witness_SequencerIssuesInOrder_7 : ∃ (s : State) (c : Fin 8) (ch : Chan) (ctx : Fin 128) (index : Nat) (r : Run) (x : Bool × Chan) (a : Chan), s.chan c = ch ∧ ch.clocked = true ∧ ch.run ctx = some r ∧ r.next = index ∧ index < (ch.side ctx).commands ∧ ch.obs.dump = none ∧ (ch.models.holds.any fun h => h.ctx == ctx.val && h.part.isNone) = false ∧ r.failed = none ∧ ch.stepStops ctx r.number index = false ∧ r.clear (ch.cmdRanges ctx r.number r.m index).1 (ch.cmdRanges ctx r.number r.m index).2 = true ∧ ch.loadTables ctx r.number index = x ∧ x.1 = true ∧ x.2.setRun ctx { r with next := index + 1, live := r.live ++ [{ index := index, at_ := x.2.now, reads := (ch.cmdRanges ctx r.number r.m index).1, writes := (ch.cmdRanges ctx r.number r.m index).2 }], out := if ((ch.side ctx).cmd index).output then some (x.2.outputOf ctx r.number ((ch.side ctx).cmd index)) else r.out } = a ∧ ((ch.side ctx).cmd index).opcode = 9 :=
  ⟨(seqState 9), 0, _, 0, 0, run0, (seqX 9), (seqA 9), rfl, by decide +kernel⟩

theorem witness_SequencerIssuesInOrder_8 : ∃ (s : State) (c : Fin 8) (ch : Chan) (ctx : Fin 128) (index : Nat) (r : Run) (x : Bool × Chan) (a : Chan), s.chan c = ch ∧ ch.clocked = true ∧ ch.run ctx = some r ∧ r.next = index ∧ index < (ch.side ctx).commands ∧ ch.obs.dump = none ∧ (ch.models.holds.any fun h => h.ctx == ctx.val && h.part.isNone) = false ∧ r.failed = none ∧ ch.stepStops ctx r.number index = false ∧ r.clear (ch.cmdRanges ctx r.number r.m index).1 (ch.cmdRanges ctx r.number r.m index).2 = true ∧ ch.loadTables ctx r.number index = x ∧ x.1 = true ∧ x.2.setRun ctx { r with next := index + 1, live := r.live ++ [{ index := index, at_ := x.2.now, reads := (ch.cmdRanges ctx r.number r.m index).1, writes := (ch.cmdRanges ctx r.number r.m index).2 }], out := if ((ch.side ctx).cmd index).output then some (x.2.outputOf ctx r.number ((ch.side ctx).cmd index)) else r.out } = a ∧ ((ch.side ctx).cmd index).opcode = 0x0A ∧ (ch.vpe.wfq.any fun x => x.ctx == ctx.val && decide (x.unit < 32) && ((ch.side ctx).cmd x.index).unit == ((ch.side ctx).cmd index).unit) = false :=
  ⟨(seqState 0x0A), 0, _, 0, 0, run0, (seqX 0x0A), (seqA 0x0A), rfl, by decide +kernel⟩

theorem witness_SequencerIssuesInOrder_9 : ∃ (s : State) (c : Fin 8) (ch : Chan) (ctx : Fin 128) (index : Nat) (r : Run) (x : Bool × Chan) (a : Chan) (b : Chan), s.chan c = ch ∧ ch.clocked = true ∧ ch.run ctx = some r ∧ r.next = index ∧ index < (ch.side ctx).commands ∧ ch.obs.dump = none ∧ (ch.models.holds.any fun h => h.ctx == ctx.val && h.part.isNone) = false ∧ r.failed = none ∧ ch.stepStops ctx r.number index = false ∧ r.clear (ch.cmdRanges ctx r.number r.m index).1 (ch.cmdRanges ctx r.number r.m index).2 = true ∧ ch.loadTables ctx r.number index = x ∧ x.1 = true ∧ x.2.setRun ctx { r with next := index + 1, live := r.live ++ [{ index := index, at_ := x.2.now, reads := (ch.cmdRanges ctx r.number r.m index).1, writes := (ch.cmdRanges ctx r.number r.m index).2 }], out := if ((ch.side ctx).cmd index).output then some (x.2.outputOf ctx r.number ((ch.side ctx).cmd index)) else r.out } = a ∧ ((ch.side ctx).cmd index).opcode = 8 ∧ a.traceCmd 4 ctx index 0 = b ∧ (r.m = 0 ∨ (b.gatherRow ctx r.number (r.m - 1) (b.gatherBytes ctx r.number r.width)).isSome = true) :=
  ⟨(seqState 8), 0, _, 0, 0, run0, (seqX8 (seqState 8)), (seqA8 (seqState 8)), (seqA8 (seqState 8)).traceCmd 4 0 0 0, rfl, by decide +kernel, by decide +kernel, by decide +kernel, by decide +kernel, by decide +kernel, by decide +kernel, by decide +kernel, by decide +kernel, by decide +kernel, by decide +kernel, by decide +kernel, by decide +kernel, by decide +kernel, rfl, by decide +kernel⟩

theorem witness_SequencerIssuesInOrder_10 : ∃ (s : State) (c : Fin 8) (ch : Chan) (ctx : Fin 128) (index : Nat) (r : Run) (x : Bool × Chan) (a : Chan) (b : Chan), s.chan c = ch ∧ ch.clocked = true ∧ ch.run ctx = some r ∧ r.next = index ∧ index < (ch.side ctx).commands ∧ ch.obs.dump = none ∧ (ch.models.holds.any fun h => h.ctx == ctx.val && h.part.isNone) = false ∧ r.failed = none ∧ ch.stepStops ctx r.number index = false ∧ r.clear (ch.cmdRanges ctx r.number r.m index).1 (ch.cmdRanges ctx r.number r.m index).2 = true ∧ ch.loadTables ctx r.number index = x ∧ x.1 = true ∧ x.2.setRun ctx { r with next := index + 1, live := r.live ++ [{ index := index, at_ := x.2.now, reads := (ch.cmdRanges ctx r.number r.m index).1, writes := (ch.cmdRanges ctx r.number r.m index).2 }], out := if ((ch.side ctx).cmd index).output then some (x.2.outputOf ctx r.number ((ch.side ctx).cmd index)) else r.out } = a ∧ ((ch.side ctx).cmd index).opcode = 8 ∧ a.traceCmd 4 ctx index 0 = b ∧ r.m ≠ 0 ∧ b.gatherRow ctx r.number (r.m - 1) (b.gatherBytes ctx r.number r.width) = none :=
  ⟨seqFar, 0, _, 0, 0, run0, (seqX8 (seqFar)), (seqA8 (seqFar)), (seqA8 (seqFar)).traceCmd 4 0 0 0, rfl, by decide +kernel, by decide +kernel, by decide +kernel, by decide +kernel, by decide +kernel, by decide +kernel, by decide +kernel, by decide +kernel, by decide +kernel, by decide +kernel, by decide +kernel, by decide +kernel, by decide +kernel, rfl, by decide +kernel, by decide +kernel⟩

theorem witness_SequencerIssuesInOrder_11 : ∃ (s : State) (c : Fin 8) (ch : Chan) (ctx : Fin 128) (index : Nat) (r : Run) (x : Bool × Chan) (a : Chan), s.chan c = ch ∧ ch.clocked = true ∧ ch.run ctx = some r ∧ r.next = index ∧ index < (ch.side ctx).commands ∧ ch.obs.dump = none ∧ (ch.models.holds.any fun h => h.ctx == ctx.val && h.part.isNone) = false ∧ r.failed = none ∧ ch.stepStops ctx r.number index = false ∧ r.clear (ch.cmdRanges ctx r.number r.m index).1 (ch.cmdRanges ctx r.number r.m index).2 = true ∧ ch.loadTables ctx r.number index = x ∧ x.1 = true ∧ x.2.setRun ctx { r with next := index + 1, live := r.live ++ [{ index := index, at_ := x.2.now, reads := (ch.cmdRanges ctx r.number r.m index).1, writes := (ch.cmdRanges ctx r.number r.m index).2 }], out := if ((ch.side ctx).cmd index).output then some (x.2.outputOf ctx r.number ((ch.side ctx).cmd index)) else r.out } = a ∧ ((ch.side ctx).cmd index).opcode = 0x0B ∧ r.live = [] :=
  ⟨(seqState 0x0B), 0, _, 0, 0, run0, (seqX 0x0B), (seqA 0x0B), rfl, by decide +kernel⟩

theorem witness_PartitionsLoadStreamAndDrain_1 : ∃ (s : State) (c : Fin 8) (ch : Chan) (k : Fin 32) (ctx : Fin 128) (sb : Standby) (q : Cmd), s.chan c = ch ∧ ch.clocked = true ∧ (ch.part k).standby = some sb ∧ sb.phase = .staging ∧ ch.sinceC sb.at_ 66 = true ∧ (ch.side sb.ctx).cmd sb.index = q ∧ ch.loadBad sb.ctx q q.w16 = none :=
  ⟨(partState { standby := some sbStaging }), 0, _, 31, 0, sbStaging, (partState {}).chan 0 |>.side 0 |>.cmd 0, rfl, by decide +kernel⟩

theorem witness_PartitionsLoadStreamAndDrain_2 : ∃ (s : State) (c : Fin 8) (ch : Chan) (k : Fin 32) (ctx : Fin 128) (sb : Standby) (q : Cmd), s.chan c = ch ∧ ch.clocked = true ∧ ch.loadDue (ch.part k).standby = none ∧ (ch.part k).next = some sb ∧ sb.phase = .staging ∧ ch.sinceC sb.at_ 66 = true ∧ (ch.side sb.ctx).cmd sb.index = q ∧ ch.loadBad sb.ctx q q.w16 = none :=
  ⟨(partState { standby := some { sbStaging with phase := .written }, next := some sbStaging }), 0, _, 31, 0, sbStaging, (partState {}).chan 0 |>.side 0 |>.cmd 0, rfl, by decide +kernel⟩

theorem witness_PartitionsLoadStreamAndDrain_3 : ∃ (s : State) (c : Fin 8) (ch : Chan) (k : Fin 32) (sb : Standby), s.chan c = ch ∧ ch.clocked = true ∧ (ch.part k).standby = some sb ∧ sb.phase = .staged ∧ ch.sinceC sb.at_ 66 = true ∧ (∀ x : Nat × Nat, (ch.part k).lastIssue = some x → ch.sinceC x.1 (passGap (k % 8) - 1) = true) :=
  ⟨(partState { standby := some { sbStaging with phase := .staged } }), 0, _, 31, ({ sbStaging with phase := .staged }), rfl, by decide +kernel, by decide +kernel, by decide +kernel, by decide +kernel, (by intro x h; cases h)⟩

theorem witness_PartitionsLoadStreamAndDrain_4 : ∃ (s : State) (c : Fin 8) (ch : Chan) (k : Fin 32) (errQ : Fin 4) (err : BitVec 32) (fl : Flight) (rest : List Flight) (q : Cmd) (a : Chan) (n : Nat), s.chan c = ch ∧ ch.clocked = true ∧ (ch.part k).flights = fl :: rest ∧ (ch.side fl.ctx).cmd fl.index = q ∧ ch.groupC k q = [k.val] ∧ ch.sinceC fl.issued (264 + fl.landed) = true ∧ ((ch.modPart k fun p => p.modFlight fun x => { x with landed := x.landed + 1 }).inc (R.MXE_CNT_ROWS (k / 8))).noteLanding k fl q = a ∧ fl.discard = true ∧ fl.landed + 1 < fl.rows :=
  ⟨(landSt { flight0 with discard := true }), 0, _, 3, 0, 0, ({ flight0 with discard := true }), [], (((landSt { flight0 with discard := true }).chan 0).side 0).cmd 0, (landA ((landSt { flight0 with discard := true }))), 0, rfl, by decide +kernel, by decide +kernel, by decide +kernel, by decide +kernel, by decide +kernel, rfl, by decide +kernel, by decide +kernel⟩

theorem witness_PartitionsLoadStreamAndDrain_5 : ∃ (s : State) (c : Fin 8) (ch : Chan) (k : Fin 32) (errQ : Fin 4) (err : BitVec 32) (fl : Flight) (rest : List Flight) (q : Cmd) (a : Chan) (n : Nat) (x : Nat), s.chan c = ch ∧ ch.clocked = true ∧ (ch.part k).flights = fl :: rest ∧ (ch.side fl.ctx).cmd fl.index = q ∧ ch.groupC k q = [k.val] ∧ ch.sinceC fl.issued (264 + fl.landed) = true ∧ ((ch.modPart k fun p => p.modFlight fun x => { x with landed := x.landed + 1 }).inc (R.MXE_CNT_ROWS (k / 8))).noteLanding k fl q = a ∧ fl.discard = false ∧ a.rowCheck k { fl with landed := fl.landed + 1 } (a.streamRow { fl with landed := fl.landed + 1 } fl.landed) errQ err.toNat = (some x, n) :=
  ⟨(landSt { flight0 with wide := true }), 0, _, 3, 0, 1, ({ flight0 with wide := true }), [], (((landSt { flight0 with wide := true }).chan 0).side 0).cmd 0, (landA ((landSt { flight0 with wide := true }))), 0, 0, rfl, by decide +kernel, by decide +kernel, by decide +kernel, by decide +kernel, by decide +kernel, rfl, by decide +kernel, by decide +kernel⟩

theorem witness_PartitionsLoadStreamAndDrain_6 : ∃ (s : State) (c : Fin 8) (ch : Chan) (k : Fin 32) (errQ : Fin 4) (err : BitVec 32) (fl : Flight) (rest : List Flight) (q : Cmd) (a : Chan) (n : Nat), s.chan c = ch ∧ ch.clocked = true ∧ (ch.part k).flights = fl :: rest ∧ (ch.side fl.ctx).cmd fl.index = q ∧ ch.groupC k q = [k.val] ∧ ch.sinceC fl.issued (264 + fl.landed) = true ∧ ((ch.modPart k fun p => p.modFlight fun x => { x with landed := x.landed + 1 }).inc (R.MXE_CNT_ROWS (k / 8))).noteLanding k fl q = a ∧ fl.discard = false ∧ a.rowCheck k { fl with landed := fl.landed + 1 } (a.streamRow { fl with landed := fl.landed + 1 } fl.landed) errQ err.toNat = (none, n) :=
  ⟨(landSt { flight0 with wide := true }), 0, _, 3, 0, 0, ({ flight0 with wide := true }), [], (((landSt { flight0 with wide := true }).chan 0).side 0).cmd 0, (landA ((landSt { flight0 with wide := true }))), 0, rfl, by decide +kernel, by decide +kernel, by decide +kernel, by decide +kernel, by decide +kernel, rfl, by decide +kernel, by decide +kernel⟩

theorem witness_PartitionsLoadStreamAndDrain_7 : ∃ (s : State) (c : Fin 8) (ch : Chan) (k : Fin 32) (errQ : Fin 4) (err : BitVec 32) (fl : Flight) (rest : List Flight) (q : Cmd) (a : Chan) (n : Nat) (tl : Tile), s.chan c = ch ∧ ch.clocked = true ∧ (ch.part k).flights = fl :: rest ∧ (ch.side fl.ctx).cmd fl.index = q ∧ ch.groupC k q = [k.val] ∧ ch.sinceC fl.issued (264 + fl.landed) = true ∧ ((ch.modPart k fun p => p.modFlight fun x => { x with landed := x.landed + 1 }).inc (R.MXE_CNT_ROWS (k / 8))).noteLanding k fl q = a ∧ fl.discard = false ∧ fl.wide = false ∧ q.accOp = 0 ∧ fl.landed + 1 < fl.rows ∧ a.rowCheck k { fl with landed := fl.landed + 1 } (a.streamRow { fl with landed := fl.landed + 1 } fl.landed) errQ err.toNat = (none, 0) ∧ a.tile (a.tileOf k q) = some tl :=
  ⟨(landSt flight0), 0, _, 3, 0, 0, flight0, [], (((landSt flight0).chan 0).side 0).cmd 0, (landA ((landSt flight0))), 0, landTile, rfl, by decide +kernel, by decide +kernel, by decide +kernel, by decide +kernel, by decide +kernel, rfl, by decide +kernel, by decide +kernel, by decide +kernel, by decide +kernel, by decide +kernel, by decide +kernel⟩

theorem witness_PartitionsLoadStreamAndDrain_8 : ∃ (s : State) (c : Fin 8) (ch : Chan) (k : Fin 32) (j : Fin 64) (r : Redo) (b : Chan) (ws : List Weights), s.chan c = ch ∧ ch.clocked = true ∧ j.val = k.val ∧ (ch.part k).redo.find? ch.redoDue = some r ∧ ch.reloadAll r.ctx r.run r.ops = (some ws, b) :=
  ⟨(partState { redo := [redo0] }), 0, _, 31, 31, redo0, redoLoad.2, (redoLoad.1.getD []), rfl, by decide +kernel, by decide +kernel, by decide +kernel, rfl⟩

theorem witness_PartitionsLoadStreamAndDrain_9 : ∃ (s : State) (c : Fin 8) (ch : Chan) (k : Fin 32) (j : Fin 64) (n : Nat) (tl : Tile) (fs : List (Nat × Nat × Nat)) (b : Chan) (ws : List Weights), s.chan c = ch ∧ ch.clocked = true ∧ j.val = k.val ∧ (ch.part k).redo.find? ch.redoDue = none ∧ ((List.range 16).findSome? fun n => (ch.tile (tileKey (k / 8) n)).bind fun t => if ch.chainDue k t then some (n, t) else none) = some (n, tl) ∧ (tl.group.filterMap fun x => ((ch.memberOps tl x).head?).map fun o => (x, o.1, o.2)) = fs ∧ ch.reloadAll tl.ctx tl.run fs = (some ws, b) :=
  ⟨replayState, 0, _, 0, 0, 0, replayTile, ([(0, 0, 0)]), replayLoad.2, (replayLoad.1.getD []), rfl, by decide +kernel, by decide +kernel, by decide +kernel, by decide +kernel, by decide +kernel, rfl⟩

theorem witness_PartitionsLoadStreamAndDrain_10 : ∃ (s : State) (c : Fin 8) (ch : Chan) (k : Fin 32) (d : DrainSlot) (tl : Tile), s.chan c = ch ∧ ch.clocked = true ∧ (ch.part k).drain = some d ∧ d.swap = none ∧ ch.tile (tileKey (k / 8) d.tile) = some tl ∧ ch.chainLanded tl = true ∧ (ch.part k).crema = none ∧ (ch.part k).bufAt ≤ ch.coreNow :=
  ⟨(drainState none), 0, _, 0, (drain0 none), tile0, rfl, by decide +kernel⟩

theorem witness_PartitionsLoadStreamAndDrain_11 : ∃ (s : State) (c : Fin 8) (ch : Chan) (k : Fin 32) (d : DrainSlot) (t0 : Nat) (tl : Tile) (e : DrainDesc), s.chan c = ch ∧ ch.clocked = true ∧ (ch.part k).drain = some d ∧ d.swap = some t0 ∧ d.late = false ∧ ch.tile (tileKey (k / 8) d.tile) = some tl ∧ ch.sinceC t0 (drainRead (k % 8) - 1) = true ∧ ch.drainDesc d.ctx d.run ((ch.side d.ctx).cmd d.index).w36 = e ∧ (e.dest ≠ 2 ∨ ch.stepDead d.ctx = false) :=
  ⟨(drainSt 1 (some 0)), 0, _, 0, (drain0 (some 0)), 0, tile0, (drainSt 1 (some 0)).chan 0 |>.drainDesc 0 0 0, rfl, by decide +kernel⟩

theorem witness_PartitionsLoadStreamAndDrain_12 : ∃ (s : State) (c : Fin 8) (ch : Chan) (k : Fin 32) (j : Fin 64) (tk : Nat) (tl : Tile), s.chan c = ch ∧ ch.clocked = true ∧ j.val = k.val ∧ ((ch.tilesOn k).findSome? fun x => (ch.tile x).bind fun y => if y.cut && !y.dead && ch.rowsLanded y then some (x, y) else none) = some (tk, tl) ∧ (ch.flag R.ACU_CTRL F.ACU_CTRL_slot_mode = true ∨ ch.saveBase tl.tenant (k / 8) = none) :=
  ⟨cutState, 0, _, 0, 0, 0, ({ tile0 with cut := true }), rfl, by decide +kernel⟩

theorem witness_PartitionsLoadStreamAndDrain_13 : ∃ (s : State) (c : Fin 8) (ch : Chan) (k : Fin 32) (j : Fin 64) (tk : Nat) (tl : Tile), s.chan c = ch ∧ ch.clocked = true ∧ j.val = k.val ∧ ((ch.tilesOn k).findSome? fun x => (ch.tile x).bind fun y => if y.cut && !y.dead && ch.rowsLanded y then some (x, y) else none) = some (tk, tl) ∧ (ch.flag R.ACU_CTRL F.ACU_CTRL_slot_mode = true ∨ ch.saveBase tl.tenant (k / 8) = none) ∧ tl.starved < 3 :=
  ⟨cutState, 0, _, 0, 0, 0, ({ tile0 with cut := true }), rfl, by decide +kernel⟩

theorem witness_PartitionsLoadStreamAndDrain_14 : ∃ (s : State) (c : Fin 8) (ch : Chan) (k : Fin 32) (j : Fin 64) (tk : Nat) (tl : Tile) (ad : Nat), s.chan c = ch ∧ ch.clocked = true ∧ j.val = k.val ∧ ((ch.tilesOn k).findSome? fun x => (ch.tile x).bind fun y => if y.cut && !y.dead && ch.rowsLanded y then some (x, y) else none) = some (tk, tl) ∧ ch.flag R.ACU_CTRL F.ACU_CTRL_slot_mode = false ∧ ch.saveBase tl.tenant (k / 8) = some ad :=
  ⟨saveState, 0, _, 0, 0, 0, ({ tile0 with cut := true }), 0, rfl, by decide +kernel⟩

theorem witness_EngineOwnershipAbortAndRamps_1 : ∃ (s : State) (c : Fin 8) (ch : Chan) (src : Option (Fin 17)) (e : Fin 4) (v own : Word), s.chan c = ch ∧ s.reaches src c (R.MXE_PART e) = true ∧ ch.mxeOpen e = true ∧ mergeF (ch.rd (R.MXE_PART e)) v ((List.range 4).flatMap fun q => [F.MXE_PART_owner q, F.MXE_PART_assigned q]) = own ∧ ch.partPairOk (ch.fld (R.MXE_CTRL e) F.MXE_CTRL_part_mode) own = true :=
  ⟨(st withTenant), 0, _, none, 3, partOwn, partOwn, rfl, by decide +kernel⟩

theorem witness_EngineOwnershipAbortAndRamps_2 : ∃ (s : State) (c : Fin 8) (ch : Chan) (src : Option (Fin 17)) (e : Fin 4) (v : Word), s.chan c = ch ∧ s.reaches src c (R.MXE_PART e) = true ∧ ch.mxeOpen e = true ∧ ch.partPairOk (ch.fld (R.MXE_CTRL e) F.MXE_CTRL_part_mode) (mergeF (ch.rd (R.MXE_PART e)) v ((List.range 4).flatMap fun q => [F.MXE_PART_owner q, F.MXE_PART_assigned q])) = false :=
  ⟨live, 0, _, none, 3, partOwn, rfl, by decide +kernel⟩

theorem witness_EngineOwnershipAbortAndRamps_3 : ∃ (s : State) (c : Fin 8) (ch : Chan) (src : Option (Fin 17)) (e : Fin 4) (v : Word), s.chan c = ch ∧ s.reaches src c (R.MXE_PART e) = true ∧ ch.mxeOpen e = false :=
  ⟨(st fun ch => ch.setFlag (R.MXE_CTRL 3) F.MXE_CTRL_enable true), 0, _, none, 3, partOwn, rfl, by decide +kernel⟩

theorem witness_EngineOwnershipAbortAndRamps_4 : ∃ (s : State) (c : Fin 8) (ch : Chan) (src : Option (Fin 17)) (e : Fin 4) (v w : Word), s.chan c = ch ∧ s.reaches src c (R.MXE_CTRL e) = true ∧ ch.mxeOpen e = true ∧ mergeF (ch.rd (R.MXE_CTRL e)) v [F.MXE_CTRL_enable, F.MXE_CTRL_part_mode] = w ∧ ch.partPairOk (getF w F.MXE_CTRL_part_mode) (ch.rd (R.MXE_PART e)) = true :=
  ⟨(st fun ch => (withTenant ch).wr (R.MXE_PART 3) partOwn), 0, _, none, 3, (setF (setF 0 F.MXE_CTRL_enable 1) F.MXE_CTRL_part_mode 2), (setF (setF 0 F.MXE_CTRL_enable 1) F.MXE_CTRL_part_mode 2), rfl, by decide +kernel⟩

theorem witness_EngineOwnershipAbortAndRamps_5 : ∃ (s : State) (c : Fin 8) (ch : Chan) (src : Option (Fin 17)) (e : Fin 4) (v : Word), s.chan c = ch ∧ s.reaches src c (R.MXE_CTRL e) = true ∧ ch.mxeOpen e = true ∧ ch.partPairOk (getF (mergeF (ch.rd (R.MXE_CTRL e)) v [F.MXE_CTRL_enable, F.MXE_CTRL_part_mode]) F.MXE_CTRL_part_mode) (ch.rd (R.MXE_PART e)) = false :=
  ⟨live, 0, _, none, 3, 1, rfl, by decide +kernel⟩

theorem witness_EngineOwnershipAbortAndRamps_6 : ∃ (s : State) (c : Fin 8) (ch : Chan) (src : Option (Fin 17)) (e : Fin 4) (v : Word), s.chan c = ch ∧ s.reaches src c (R.MXE_CTRL e) = true ∧ ch.mxeOpen e = false :=
  ⟨(st fun ch => ch.setFlag (R.MXE_CTRL 3) F.MXE_CTRL_enable true), 0, _, none, 3, 0xFF, rfl, by decide +kernel⟩

theorem witness_EngineOwnershipAbortAndRamps_7 : ∃ (s : State) (c : Fin 8) (ch : Chan) (src : Option (Fin 17)) (u : Fin 2) (i : Fin 32) (v : Word), s.chan c = ch ∧ s.reaches src c (R.RVU_PAGE_OWNER u i) = true ∧ ch.safeServe = false ∧ ch.flag R.RVU_CTRL F.RVU_CTRL_enable_0 = false ∧ ch.flag R.RVU_CTRL F.RVU_CTRL_enable_1 = false ∧ (∀ p : Nat, p < 8 → getF (ch.rd (R.RVU_PAGE_OWNER u i)) ⟨8 * p, 8⟩ ≠ getF v ⟨8 * p, 8⟩ → ch.pageLoaded u (8 * i + p) = false) :=
  ⟨(st fun ch => ch.setRvu 1 { store := [(4096 * 255, 9)] }), 0, _, none, 1, 31, 0x8000000000000000, rfl, by decide +kernel⟩

theorem witness_EngineOwnershipAbortAndRamps_8 : ∃ (s : State) (c : Fin 8) (ch : Chan) (src : Option (Fin 17)) (u : Fin 2) (i : Fin 32) (v : Word) (p : Nat), s.chan c = ch ∧ s.reaches src c (R.RVU_PAGE_OWNER u i) = true ∧ ch.safeServe = false ∧ ch.flag R.RVU_CTRL F.RVU_CTRL_enable_0 = false ∧ ch.flag R.RVU_CTRL F.RVU_CTRL_enable_1 = false ∧ p < 8 ∧ getF (ch.rd (R.RVU_PAGE_OWNER u i)) ⟨8 * p, 8⟩ ≠ getF v ⟨8 * p, 8⟩ ∧ ch.pageLoaded u (8 * i + p) = true :=
  ⟨(st fun ch => { ch.setServing 0 1 with models := { sides := [(0, { units := 1, page0 := 0, pages := 1 })] } }), 0, _, none, 0, 0, 1, 0, rfl, by decide +kernel⟩

theorem witness_EngineOwnershipAbortAndRamps_9 : ∃ (s : State) (c : Fin 8) (ch : Chan) (src : Option (Fin 17)) (v w : Word) (n : Nat), s.chan c = ch ∧ s.reaches src c R.ACU_ABORT = true ∧ getF v F.ACU_ABORT_start = 1 ∧ (if writerInst src = 0 then mergeF (ch.rd R.ACU_ABORT) v [F.ACU_ABORT_tenant, F.ACU_ABORT_model_slot] else setF (mergeF (ch.rd R.ACU_ABORT) v [F.ACU_ABORT_tenant, F.ACU_ABORT_model_slot]) F.ACU_ABORT_tenant (ch.tid (writerInst src - 1))) = w ∧ getF w F.ACU_ABORT_model_slot = n ∧ n < 64 ∧ ch.slotTid n = getF w F.ACU_ABORT_tenant :=
  ⟨(seqState 1), 0, _, none, (setF 0 F.ACU_ABORT_start 1), 0, 0, rfl, by decide +kernel⟩

theorem witness_EngineOwnershipAbortAndRamps_10 : ∃ (s : State) (c : Fin 8) (ch : Chan) (src : Option (Fin 17)) (v w : Word), s.chan c = ch ∧ s.reaches src c R.ACU_ABORT = true ∧ getF v F.ACU_ABORT_start = 1 ∧ (if writerInst src = 0 then mergeF (ch.rd R.ACU_ABORT) v [F.ACU_ABORT_tenant, F.ACU_ABORT_model_slot] else setF (mergeF (ch.rd R.ACU_ABORT) v [F.ACU_ABORT_tenant, F.ACU_ABORT_model_slot]) F.ACU_ABORT_tenant (ch.tid (writerInst src - 1))) = w ∧ ch.slotTid (getF w F.ACU_ABORT_model_slot) ≠ getF w F.ACU_ABORT_tenant :=
  ⟨(seqState 1), 0, _, none, (setF (setF 0 F.ACU_ABORT_start 1) F.ACU_ABORT_tenant 5), (setF 0 F.ACU_ABORT_tenant 5), rfl, by decide +kernel⟩

theorem witness_EngineOwnershipAbortAndRamps_11 : ∃ (s : State) (c : Fin 8) (ch : Chan) (src : Option (Fin 17)) (v w : Word), s.chan c = ch ∧ s.reaches src c R.ACU_ABORT = true ∧ getF v F.ACU_ABORT_start = 0 ∧ (if writerInst src = 0 then mergeF (ch.rd R.ACU_ABORT) v [F.ACU_ABORT_tenant, F.ACU_ABORT_model_slot] else setF (mergeF (ch.rd R.ACU_ABORT) v [F.ACU_ABORT_tenant, F.ACU_ABORT_model_slot]) F.ACU_ABORT_tenant (ch.tid (writerInst src - 1))) = w :=
  ⟨(seqState 1), 0, _, none, (setF 0 F.ACU_ABORT_tenant 5), (setF 0 F.ACU_ABORT_tenant 5), rfl, by decide +kernel⟩

theorem witness_EngineOwnershipAbortAndRamps_12 : ∃ (s : State) (c : Fin 8) (ch : Chan) (u : Fin 2) (err : BitVec 32) (d : Dot) (rest : List Dot) (q : Cmd) (f : Fmt) (e : DrainDesc) (gs : List Nat) (m g : Nat) (xs : List Byte) (outs : List (Nat × Bool)) (res : CheckResult), s.chan c = ch ∧ ch.clocked = true ∧ (ch.rvu u).dots = d :: rest ∧ (ch.side d.ctx).cmd d.index = q ∧ q.engineFmt = some f ∧ d.waiting = false ∧ d.wide = false ∧ ch.sinceC d.issued (d.next * q.chunks + q.chunks - 1 + 29) = true ∧ ch.groupsOn q u = gs ∧ d.next / gs.length = m ∧ gs.getD (d.next % gs.length) 0 = g ∧ ch.drainDesc d.ctx d.run q.w36 = e ∧ ch.winBytes d.ctx d.run (q.w20 + m * q.w24) (codeBytes f q.h30) = xs ∧ ((((List.range 16).map (16 * g + ·)).filter (· < q.h32)).map fun n => dotProduct f q.h30 xs (ch.rvuRow d.ctx q n)) = outs ∧ (if f.isInt then (if err.toNat = 0 then CheckResult.pass else .fail) else rvuCheckFp f q.h30 xs ((((List.range 16).map (16 * g + ·)).filter (· < q.h32)).map fun n => ch.rvuRow d.ctx q n) (outs.map (·.1)) err.toNat) = res ∧ res ≠ .fail :=
  ⟨dotState, 0, _, 0, 0, dot0, [], ((dotState.chan 0).side 0).cmd 0, .int8, (dotState.chan 0).drainDesc 0 0 0, [0], 0, 0, (dotState.chan 0).winBytes 0 0 0 16, (List.replicate 2 (0, false)), .pass, rfl, by decide +kernel⟩

theorem witness_EngineOwnershipAbortAndRamps_13 : ∃ (s : State) (c : Fin 8) (ch : Chan) (unit : Fin 34) (p : Part) (t0 m n : Nat), s.chan c = ch ∧ ch.clocked = true ∧ unit.val < 32 ∧ ch.part unit = p ∧ p.drawn = some (t0, m) ∧ p.level ≠ 0 ∧ ch.sinceC t0 (m + 64 + 16 * (16 - p.level)) = true ∧ gapRows (ch.cyclesSince t0 - m) - p.dummies = n :=
  ⟨(partState { drawn := some (0, 1), level := 16 }), 0, _, 31, ({ drawn := some (0, 1), level := 16 }), 0, 1, 184, rfl, by decide +kernel⟩

theorem witness_EngineOwnershipAbortAndRamps_14 : ∃ (s : State) (c : Fin 8) (ch : Chan) (unit : Fin 34) (u : Nat) (x : Rvu) (t0 m n : Nat), s.chan c = ch ∧ ch.clocked = true ∧ unit.val = 32 + u ∧ ch.rvu u = x ∧ x.lastIssue = some (t0, m) ∧ x.level ≠ 0 ∧ ch.sinceC t0 (m + 64 + 16 * (16 - x.level)) = true ∧ gapRows (ch.cyclesSince t0 - m) - x.dummies = n :=
  ⟨(st fun ch => ch.setRvu 1 { lastIssue := some (0, 1), level := 1 }), 0, _, 33, 1, ({ lastIssue := some (0, 1), level := 1 }), 0, 1, 184, rfl, by decide +kernel⟩

theorem witness_BatchesAndRuns_1 : ∃ (s : State) (c : Fin 8) (ch : Chan) (ctx : Fin 128) (b : Batch), s.chan c = ch ∧ ch.clocked = true ∧ (ch.seqr ctx).batch = some b ∧ b.closed = false ∧ (ch.batchCap ctx ≤ b.jobs.length ∨ ch.sinceC b.at_ 126 = true) :=
  ⟨(st fun ch => let a : Chan := (withSide (oneCmd 9) ch).setServing 0 1; { a with models := { a.models with runs := [(0, { batch := some { at_ := 0, jobs := [0], copy := 0 } })] } }), 0, _, 0, ({ at_ := 0, jobs := [0], copy := 0 }), rfl, by decide +kernel⟩

theorem witness_BatchesAndRuns_2 : ∃ (s : State) (c : Fin 8) (ch : Chan) (ctx : Fin 128) (b : Batch), s.chan c = ch ∧ ch.clocked = true ∧ (ch.seqr ctx).batch = some b ∧ (ch.seqr ctx).run = none ∧ b.closed = true ∧ ch.slotKind (ctxSlot ctx) = 1 ∧ ch.sideRuns ctx = true :=
  ⟨(st fun ch => let a : Chan := (withSide (oneCmd 9) ch).setServing 0 1; { a with models := { a.models with runs := [(0, { batch := some { at_ := 0, jobs := [0], copy := 0, closed := true } })] } }), 0, _, 0, ({ at_ := 0, jobs := [0], copy := 0, closed := true }), rfl, by decide +kernel⟩

theorem witness_BatchesAndRuns_3 : ∃ (s : State) (c : Fin 8) (ch : Chan) (ctx : Fin 128) (b : Batch), s.chan c = ch ∧ ch.clocked = true ∧ (ch.seqr ctx).batch = some b ∧ (ch.seqr ctx).run = none ∧ b.closed = true ∧ ch.slotKind (ctxSlot ctx) = 1 ∧ ch.sideRuns ctx = false :=
  ⟨(st fun ch => let a : Chan := (withSide (oneCmd 9) ch).setServing 0 2; { a with models := { a.models with runs := [(0, { batch := some { at_ := 0, jobs := [0], copy := 0, closed := true } })] } }), 0, _, 0, ({ at_ := 0, jobs := [0], copy := 0, closed := true }), rfl, by decide +kernel⟩

theorem witness_BatchesAndRuns_4 : ∃ (s : State) (c : Fin 8) (ch : Chan) (ctx : Fin 128) (r : Run), s.chan c = ch ∧ ch.clocked = true ∧ ch.run ctx = some r ∧ ch.slotKind (ctxSlot ctx) = 1 ∧ (ch.side ctx).commands ≤ r.next ∧ r.live = [] ∧ r.failed = none ∧ ch.chk.muted.contains (ctxSlot ctx) = false :=
  ⟨(st fun ch => let a : Chan := (withSide (oneCmd 9) ch).setServing 0 1; { a with models := { a.models with runs := [(0, { run := some { run0 with next := 1, jobs := [0] } })] }, jobs := [{ job0 with stage := .neuralWait, neural := [0] }] }), 0, _, 0, ({ run0 with next := 1, jobs := [0] }), rfl, by decide +kernel⟩

theorem witness_BatchesAndRuns_5 : ∃ (s : State) (c : Fin 8) (ch : Chan) (ctx : Fin 128) (r : Run), s.chan c = ch ∧ ch.clocked = true ∧ ch.run ctx = some r ∧ ch.slotKind (ctxSlot ctx) = 1 ∧ (ch.side ctx).commands ≤ r.next ∧ r.live = [] ∧ r.failed = none ∧ ch.chk.muted.contains (ctxSlot ctx) = true :=
  ⟨(st fun ch => let a : Chan := (withSide (oneCmd 9) ch).setServing 0 1; { a with models := { a.models with runs := [(0, { run := some { run0 with next := 1, jobs := [0] } })] }, jobs := [{ job0 with stage := .neuralWait, neural := [0] }], chk := { a.chk with muted := [0] } }), 0, _, 0, ({ run0 with next := 1, jobs := [0] }), rfl, by decide +kernel⟩

theorem witness_BatchesAndRuns_6 : ∃ (s : State) (c : Fin 8) (ch : Chan) (ctx : Fin 128) (r : Run) (e : Nat × Nat), s.chan c = ch ∧ ch.clocked = true ∧ ch.run ctx = some r ∧ ch.slotKind (ctxSlot ctx) = 1 ∧ (ch.side ctx).commands ≤ r.next ∧ r.live = [] ∧ r.failed = some e :=
  ⟨(st fun ch => let a : Chan := (withSide (oneCmd 9) ch).setServing 0 1; { a with models := { a.models with runs := [(0, { run := some { run0 with next := 1, jobs := [0], failed := some (0, 4) } })] }, jobs := [{ job0 with stage := .neuralWait, neural := [0] }] }), 0, _, 0, ({ run0 with next := 1, jobs := [0], failed := some (0, 4) }), (0, 4), rfl, by decide +kernel⟩

theorem witness_StagingTakesAPackage_1 : ∃ (s : State) (c : Fin 8) (ch : Chan) (src : Option (Fin 17)) (v : Word) (n : Nat), s.chan c = ch ∧ s.reaches src c R.CHN_STAGE_REQ = true ∧ getF v F.CHN_STAGE_REQ_slot = n ∧ ch.slotForeign (writerInst src) n = false ∧ getF v F.CHN_STAGE_REQ_start = 1 ∧ (ch.setFld R.CHN_STAGE_REQ F.CHN_STAGE_REQ_slot n).stageStep1 n = none :=
  ⟨(st fun ch => ch.setFlag (R.CHN_SLOT_CFG 0) F.CHN_SLOT_CFG_enable true), 0, _, none, (setF 0 F.CHN_STAGE_REQ_start 1), 0, rfl, by decide +kernel⟩

theorem witness_StagingTakesAPackage_2 : ∃ (s : State) (c : Fin 8) (ch : Chan) (src : Option (Fin 17)) (v : Word) (n r : Nat), s.chan c = ch ∧ s.reaches src c R.CHN_STAGE_REQ = true ∧ getF v F.CHN_STAGE_REQ_slot = n ∧ ch.slotForeign (writerInst src) n = false ∧ getF v F.CHN_STAGE_REQ_start = 1 ∧ (ch.setFld R.CHN_STAGE_REQ F.CHN_STAGE_REQ_slot n).stageStep1 n = some r :=
  ⟨live, 0, _, none, (setF 0 F.CHN_STAGE_REQ_start 1), 0, 2, rfl, by decide +kernel⟩

theorem witness_StagingTakesAPackage_3 : ∃ (s : State) (c : Fin 8) (ch : Chan) (src : Option (Fin 17)) (v : Word) (n : Nat), s.chan c = ch ∧ s.reaches src c R.CHN_STAGE_REQ = true ∧ getF v F.CHN_STAGE_REQ_slot = n ∧ ch.slotForeign (writerInst src) n = false ∧ getF v F.CHN_STAGE_REQ_start = 0 :=
  ⟨live, 0, _, none, 63, 63, rfl, by decide +kernel⟩

theorem witness_StagingTakesAPackage_4 : ∃ (s : State) (c : Fin 8) (ch : Chan) (src : Option (Fin 17)) (v : Word), s.chan c = ch ∧ s.reaches src c R.CHN_STAGE_REQ = true ∧ ch.slotForeign (writerInst src) (getF v F.CHN_STAGE_REQ_slot) = true :=
  ⟨(st fun ch => { (ch.setFlag (R.CHN_TENANT 15) F.CHN_TENANT_exists true) with host := { numVFs := 16, vfEnable := true } }), 0, _, (some 16), (setF 0 F.CHN_STAGE_REQ_start 1), rfl, by decide +kernel⟩

theorem witness_StagingTakesAPackage_5 : ∃ (s : State) (c : Fin 8) (ch : Chan) (x : Staging), s.chan c = ch ∧ ch.clocked = true ∧ ch.models.staging = some x ∧ ch.slotKind x.slot = 0 ∧ ch.safeServe = false ∧ ((ch.sideOfPackage x).cmd 0).opcode = 7 :=
  ⟨(st fun ch => let a : Chan := (ch.setBytes 1 0 44 [1]).setBytes 1 0 256 [7]; { a with models := { a.models with staging := some { slot := 0, side := 1, src := 0, tier := 2, back := 0, banks := 0, at_ := 0 } } }), 0, _, ({ slot := 0, side := 1, src := 0, tier := 2, back := 0, banks := 0, at_ := 0 }), rfl, by decide +kernel⟩

theorem witness_StagingTakesAPackage_6 : ∃ (s : State) (c : Fin 8) (ch : Chan) (err : Bool) (x : Staging) (f : StageFault), s.chan c = ch ∧ ch.clocked = true ∧ ch.models.staging = some x ∧ ch.safeServe = false ∧ ch.stageChecks x = some f :=
  ⟨(st fun ch => let a : Chan := ch; { a with models := { a.models with staging := some { slot := 0, side := 1, src := 0, tier := 2, back := 0, banks := 0, at_ := 0 } } }), 0, _, false, ({ slot := 0, side := 1, src := 0, tier := 2, back := 0, banks := 0, at_ := 0 }), ({ step := 2, reason := 4 }), rfl, by decide +kernel⟩

theorem witness_StagingTakesAPackage_7 : ∃ (s : State) (c : Fin 8) (ch : Chan) (err : Bool) (x : Staging), s.chan c = ch ∧ ch.clocked = true ∧ ch.models.staging = some x ∧ ch.safeServe = false :=
  ⟨(st fun ch => let a : Chan := ch.setFld (R.CHN_SLOT_CFG 0) F.CHN_SLOT_CFG_kind 1; { a with models := { a.models with staging := some { slot := 0, side := 1, src := 0, tier := 2, back := 0, banks := 0, at_ := 0 } } }), 0, _, false, ({ slot := 0, side := 1, src := 0, tier := 2, back := 0, banks := 0, at_ := 0 }), rfl, by decide +kernel⟩

theorem witness_StagingTakesAPackage_8 : ∃ (s : State) (c : Fin 8) (ch : Chan) (h : SealHold) (rest : List SealHold) (k : Nat), s.chan c = ch ∧ ch.clocked = true ∧ ch.models.holds = h :: rest ∧ h.part = some k :=
  ⟨(st fun ch => { ch with models := { ch.models with holds := [{ ctx := 0, tile := 0, at_ := 0, part := some 3 }] } }), 0, _, ({ ctx := 0, tile := 0, at_ := 0, part := some 3 }), [], 3, rfl, by decide +kernel⟩

theorem witness_StagingTakesAPackage_9 : ∃ (s : State) (c : Fin 8) (ch : Chan) (h : SealHold) (rest : List SealHold), s.chan c = ch ∧ ch.clocked = true ∧ ch.models.holds = h :: rest ∧ h.part = none :=
  ⟨(st fun ch => { ch with models := { ch.models with holds := [{ ctx := 0, tile := 0, at_ := 0, part := none }] } }), 0, _, ({ ctx := 0, tile := 0, at_ := 0, part := none }), [], rfl, by decide +kernel⟩

theorem witness_SlotsSwapDiscardAndUnload_1 : ∃ (s : State) (c : Fin 8) (ch : Chan) (src : Option (Fin 17)) (n : Fin 64), s.chan c = ch ∧ s.reaches src c (R.CHN_SLOT_CMD n) = true ∧ ch.slotForeign (writerInst src) n = false ∧ (ch.setFld (R.CHN_SLOT_CMD n) F.CHN_SLOT_CMD_command 1).slotAnswer n 1 = 0 :=
  ⟨(st fun ch => (ch.setFlag (R.CHN_SLOT_CFG 0) F.CHN_SLOT_CFG_enable true).setFld (R.CHN_SLOT_STATE 0) F.CHN_SLOT_STATE_standby_state 2), 0, _, none, 0, rfl, by decide +kernel⟩

theorem witness_SlotsSwapDiscardAndUnload_2 : ∃ (s : State) (c : Fin 8) (ch : Chan) (src : Option (Fin 17)) (n : Fin 64) (a : Nat), s.chan c = ch ∧ s.reaches src c (R.CHN_SLOT_CMD n) = true ∧ ch.slotForeign (writerInst src) n = false ∧ (ch.setFld (R.CHN_SLOT_CMD n) F.CHN_SLOT_CMD_command 1).slotAnswer n 1 = a ∧ a ≠ 0 :=
  ⟨(st fun ch => (ch.setFlag (R.CHN_SLOT_CFG 0) F.CHN_SLOT_CFG_enable true).setFld (R.CHN_SLOT_STATE 0) F.CHN_SLOT_STATE_standby_state 1), 0, _, none, 0, 1, rfl, by decide +kernel⟩

theorem witness_SlotsSwapDiscardAndUnload_3 : ∃ (s : State) (c : Fin 8) (ch : Chan) (src : Option (Fin 17)) (n : Fin 64), s.chan c = ch ∧ s.reaches src c (R.CHN_SLOT_CMD n) = true ∧ ch.slotForeign (writerInst src) n = false ∧ (ch.setFld (R.CHN_SLOT_CMD n) F.CHN_SLOT_CMD_command 2).slotAnswer n 2 = 0 :=
  ⟨(st fun ch => (ch.setFlag (R.CHN_SLOT_CFG 0) F.CHN_SLOT_CFG_enable true).setFld (R.CHN_SLOT_STATE 0) F.CHN_SLOT_STATE_standby_state 3), 0, _, none, 0, rfl, by decide +kernel⟩

theorem witness_SlotsSwapDiscardAndUnload_4 : ∃ (s : State) (c : Fin 8) (ch : Chan) (src : Option (Fin 17)) (n : Fin 64) (a : Nat), s.chan c = ch ∧ s.reaches src c (R.CHN_SLOT_CMD n) = true ∧ ch.slotForeign (writerInst src) n = false ∧ (ch.setFld (R.CHN_SLOT_CMD n) F.CHN_SLOT_CMD_command 2).slotAnswer n 2 = a ∧ a ≠ 0 :=
  ⟨(st fun ch => (ch.setFlag (R.CHN_SLOT_CFG 0) F.CHN_SLOT_CFG_enable true).setFld (R.CHN_SLOT_STATE 0) F.CHN_SLOT_STATE_standby_state 4), 0, _, none, 0, 1, rfl, by decide +kernel⟩

theorem witness_SlotsSwapDiscardAndUnload_5 : ∃ (s : State) (c : Fin 8) (ch : Chan) (src : Option (Fin 17)) (n : Fin 64), s.chan c = ch ∧ s.reaches src c (R.CHN_SLOT_CMD n) = true ∧ ch.slotForeign (writerInst src) n = false ∧ (ch.setFld (R.CHN_SLOT_CMD n) F.CHN_SLOT_CMD_command 3).slotAnswer n 3 = 0 :=
  ⟨(st fun ch => ch.setServing 0 1), 0, _, none, 0, rfl, by decide +kernel⟩

theorem witness_SlotsSwapDiscardAndUnload_6 : ∃ (s : State) (c : Fin 8) (ch : Chan) (src : Option (Fin 17)) (n : Fin 64) (a : Nat), s.chan c = ch ∧ s.reaches src c (R.CHN_SLOT_CMD n) = true ∧ ch.slotForeign (writerInst src) n = false ∧ (ch.setFld (R.CHN_SLOT_CMD n) F.CHN_SLOT_CMD_command 3).slotAnswer n 3 = a ∧ a ≠ 0 :=
  ⟨live, 0, _, none, 0, 1, rfl, by decide +kernel⟩

theorem witness_SlotsSwapDiscardAndUnload_7 : ∃ (s : State) (c : Fin 8) (ch : Chan) (n : Fin 64) (k b : Nat) (u : Bool), s.chan c = ch ∧ ch.clocked = true ∧ ch.models.swaps.find? (·.1 == n.val) = some (k, b, u) ∧ b ≤ ch.ns :=
  ⟨(st fun ch => let a : Chan := ((ch.setFld (R.CHN_SLOT_CFG 0) F.CHN_SLOT_CFG_kind 1).setServing 0 1).setStandby 0 3; { a with models := { a.models with swaps := [(0, 0, false)] } }), 0, _, 0, 0, 0, false, rfl, by decide +kernel⟩

theorem witness_SlotsSwapDiscardAndUnload_8 : ∃ (s : State) (c : Fin 8) (ch : Chan) (n : Fin 64) (x : Nat), s.chan c = ch ∧ ch.clocked = true ∧ ctxOf n (1 - ch.servingSide n) = x ∧ ch.standbyState n = 4 ∧ (ch.seqr x).run = none ∧ (ch.seqr x).batch = none ∧ ch.sideSettled x = true ∧ (∀ e, (ch.side x).ens = some e → (ch.fst.leaving.any (·.1 == e)) = false) :=
  ⟨(st fun ch => ch.setStandby 63 4), 0, _, 63, 127, rfl, by decide +kernel⟩

theorem witness_RecordsLeaveAndEpochsPass_1 : ∃ (s : State) (c : Fin 8) (ch : Chan) (e : Bool) (j : Job), s.chan c = ch ∧ ch.clocked = true ∧ ch.jobs.find? ch.checkDue = some j ∧ ch.forestFault j.leafUses e = none ∧ j.checked = true :=
  ⟨(st fun ch => { ch with jobs := [{ job0 with stage := .sent, checked := true, verdict := some { seq := 7, code := 1, slot := 0 }, forest := [0], leaves := [(0, [])] }] }), 0, _, false, ({ job0 with stage := .sent, checked := true, verdict := some { seq := 7, code := 1, slot := 0 }, forest := [0], leaves := [(0, [])] }), rfl, by decide +kernel⟩

theorem witness_RecordsLeaveAndEpochsPass_2 : ∃ (s : State) (c : Fin 8) (ch : Chan) (e : Bool) (j : Job), s.chan c = ch ∧ ch.clocked = true ∧ ch.jobs.find? ch.checkDue = some j ∧ ch.forestFault j.leafUses e = none ∧ j.checked = false ∧ j.stage ≠ .held :=
  ⟨(st fun ch => { ch with jobs := [{ job0 with stage := .queued, verdict := some { seq := 7, code := 1, slot := 0 }, forest := [0], leaves := [(0, [])] }] }), 0, _, false, ({ job0 with stage := .queued, verdict := some { seq := 7, code := 1, slot := 0 }, forest := [0], leaves := [(0, [])] }), rfl, by decide +kernel⟩

theorem witness_RecordsLeaveAndEpochsPass_3 : ∃ (s : State) (c : Fin 8) (ch : Chan) (e : Bool) (j : Job) (r : VRec), s.chan c = ch ∧ ch.clocked = true ∧ ch.jobs.find? ch.checkDue = some j ∧ ch.forestFault j.leafUses e = none ∧ j.checked = false ∧ j.stage = .held ∧ j.verdict = some r :=
  ⟨(st fun ch => { ch with jobs := [{ job0 with stage := .held, verdict := some { seq := 7, code := 1, slot := 0 }, forest := [0], leaves := [(0, [])] }] }), 0, _, false, ({ job0 with stage := .held, verdict := some { seq := 7, code := 1, slot := 0 }, forest := [0], leaves := [(0, [])] }), ({ seq := 7, code := 1, slot := 0 }), rfl, by decide +kernel⟩

theorem witness_RecordsLeaveAndEpochsPass_4 : ∃ (s : State) (c : Fin 8) (ch : Chan) (e : Bool) (j : Job) (k : Nat), s.chan c = ch ∧ ch.clocked = true ∧ ch.jobs.find? ch.checkDue = some j ∧ ch.forestFault j.leafUses e = some (3, k) :=
  ⟨(st fun ch => { ch with jobs := [{ job0 with stage := .held, verdict := some { seq := 7, code := 1, slot := 0 }, forest := [0], leaves := [(0, [])] }] }), 0, _, true, ({ job0 with stage := .held, verdict := some { seq := 7, code := 1, slot := 0 }, forest := [0], leaves := [(0, [])] }), 0, rfl, by decide +kernel⟩

theorem witness_RecordsLeaveAndEpochsPass_5 : ∃ (s : State) (c : Fin 8) (ch : Chan) (e : Bool) (j : Job) (w k : Nat), s.chan c = ch ∧ ch.clocked = true ∧ ch.jobs.find? ch.checkDue = some j ∧ ch.forestFault j.leafUses e = some (w, k) ∧ w ≠ 3 :=
  ⟨(st fun ch => { ch with jobs := [{ job0 with stage := .held, verdict := some { seq := 7, code := 1, slot := 0 }, forest := [0], leaves := [(0, [{ entry := some 5, leaf := 0 }])] }], fst := { cam := [(5, { valid := true, parity := 2 })] } }), 0, _, false, ({ job0 with stage := .held, verdict := some { seq := 7, code := 1, slot := 0 }, forest := [0], leaves := [(0, [{ entry := some 5, leaf := 0 }])] }), 1, 5, rfl, by decide +kernel⟩

theorem witness_RecordsLeaveAndEpochsPass_6 : ∃ (s : State) (c : Fin 8) (ch : Chan) (ts rest : List TxRec), s.chan c = ch ∧ ch.clocked = true ∧ ch.linkState = 3 ∧ ch.mirror = false ∧ ch.pickTx 3 = (ts, rest) ∧ ts ≠ [] :=
  ⟨(st fun ch => let a : Chan := ch.setLink 3; { a with port := { a.port with txq := [{ kind := .verdict, vr := { seq := 7, code := 1 }, job := some 0 }] }, jobs := [{ job0 with stage := .queued, verdict := some { seq := 7, code := 1 } }] }), 0, _, ([{ kind := .verdict, vr := { seq := 7, code := 1 }, job := some 0 }]), [], rfl, by decide +kernel⟩

theorem witness_RecordsLeaveAndEpochsPass_7 : ∃ (s : State) (c : Fin 8) (ch : Chan) (ts rest : List TxRec), s.chan c = ch ∧ ch.clocked = true ∧ ch.linkState = 3 ∧ ch.mirror = true ∧ ch.pickTx 8 = (ts, rest) ∧ ts ≠ [] :=
  ⟨(st fun ch => let a : Chan := (ch.setLink 3).setFlag R.PDP_CTRL F.PDP_CTRL_mode true; { a with port := { a.port with txq := [{ kind := .verdict, vr := { seq := 7, code := 1 }, job := some 0 }] }, jobs := [{ job0 with stage := .queued, verdict := some { seq := 7, code := 1 } }] }), 0, _, ([{ kind := .verdict, vr := { seq := 7, code := 1 }, job := some 0 }]), [], rfl, by decide +kernel⟩

theorem witness_RecordsLeaveAndEpochsPass_8 : ∃ (s : State) (c : Fin 8) (ch : Chan) (n : Nat), s.chan c = ch ∧ ch.clocked = true ∧ ch.linkState = 3 ∧ ch.mirror = false ∧ (ch.port.txq.takeWhile fun x => decide (x.kind = .retract)).length = n ∧ 0 < n :=
  ⟨(st fun ch => let a : Chan := ch.setLink 3; { a with port := { a.port with txq := [{ kind := .retract, vr := { seq := 7, code := 6 }, job := some 0 }, { kind := .verdict, vr := { seq := 7, code := 1 }, job := some 0 }] }, jobs := [{ job0 with stage := .queued, verdict := some { seq := 7, code := 1 } }] }), 0, _, 1, rfl, by decide +kernel⟩

theorem witness_RecordsLeaveAndEpochsPass_9 : ∃ (s : State) (c : Fin 8) (ch : Chan) (n : Nat), s.chan c = ch ∧ ch.clocked = true ∧ ch.linkState = 3 ∧ ch.mirror = true ∧ (ch.port.txq.takeWhile fun x => decide (x.kind = .retract)).length = n ∧ 0 < n :=
  ⟨(st fun ch => let a : Chan := (ch.setLink 3).setFlag R.PDP_CTRL F.PDP_CTRL_mode true; { a with port := { a.port with txq := [{ kind := .retract, vr := { seq := 7, code := 6 }, job := some 0 }, { kind := .verdict, vr := { seq := 7, code := 1 }, job := some 0 }] }, jobs := [{ job0 with stage := .queued, verdict := some { seq := 7, code := 1 } }] }), 0, _, 1, rfl, by decide +kernel⟩

theorem witness_RecordsLeaveAndEpochsPass_10 : ∃ (s : State) (c : Fin 8) (ch : Chan) (v : Nat), s.chan c = ch ∧ ch.clocked = true ∧ ch.ns / 2000 ≠ ch.epoch ∧ ch.chk.vmodeNext = some v :=
  ⟨(st fun ch => { ch with chk := { vmodeNext := some 3 } }), 0, _, 3, rfl, by decide +kernel⟩

theorem witness_RecordsLeaveAndEpochsPass_11 : ∃ (s : State) (c : Fin 8) (ch : Chan), s.chan c = ch ∧ ch.clocked = true ∧ ch.ns / 2000 ≠ ch.epoch ∧ ch.chk.vmodeNext = none :=
  ⟨live, 0, _, rfl, by decide +kernel⟩

theorem witness_RecordsLeaveAndEpochsPass_12 : ∃ (s : State) (c : Fin 8) (ch : Chan) (src : Option (Fin 17)) (v : Word), s.chan c = ch ∧ s.reaches src c R.CHK_VMODE = true :=
  ⟨live, 0, _, none, 0x8001, rfl, by decide +kernel⟩

theorem witness_RecordsLeaveAndEpochsPass_13 : ∃ (s : State) (c : Fin 8) (ch : Chan) (n m : Nat), s.chan c = ch ∧ ch.clocked = true ∧ (if ch.chk.closedAny then (ch.rd R.CHK_EPOCH_CLOSED).toNat + 1 else 0) = n ∧ (ch.jobs.filter ch.keepsOpen).foldl (fun a j => min a j.epoch) (min ch.epoch (ch.ns / 2000)) = m ∧ n < m :=
  ⟨(st fun ch => let a : Chan := ch.wr R.CHK_EPOCH 100; { a with zlk := { a.zlk with sharesSent := [] } }), 0, _, 0, 100, rfl, by decide +kernel⟩

theorem witness_RecordsLeaveAndEpochsPass_14 : ∃ (s : State) (c : Fin 8) (ch : Chan), s.chan c = ch ∧ ch.clocked = true :=
  ⟨(st fun ch => { ch with chk := { shares := [{ num := 1, device := 3, origin := 0, seqNo := 5, epoch := 0, port := 0, at_ := 0 }] } }), 0, _, rfl, by decide +kernel⟩

theorem witness_TestsFencesRemapsAndRebuilds_1 : ∃ (s : State) (c : Fin 8) (ch : Chan) (x : SelfTest), s.chan c = ch ∧ ch.clocked = true ∧ ch.safeServe = false ∧ ch.chk.tests.find? (fun x => ch.testDue x.at_ x.unit) = some x ∧ x.un = false :=
  ⟨(st fun ch => let a : Chan := ch; { a with chk := { tests := [{ unit := .quadrant 1 2, at_ := 0, hold := false }] } }), 0, _, ({ unit := .quadrant 1 2, at_ := 0, hold := false }), rfl, by decide +kernel⟩

theorem witness_TestsFencesRemapsAndRebuilds_2 : ∃ (s : State) (c : Fin 8) (ch : Chan) (x : SelfTest) (e q : Nat), s.chan c = ch ∧ ch.clocked = true ∧ ch.safeServe = false ∧ ch.chk.tests.find? (fun x => ch.testDue x.at_ x.unit) = some x ∧ x.un = false ∧ x.unit = .quadrant e q ∧ ch.transientsOf x.unit = 0 :=
  ⟨(st fun ch => let a : Chan := ch; { a with chk := { tests := [{ unit := .quadrant 1 2, at_ := 0, hold := false }] } }), 0, _, ({ unit := .quadrant 1 2, at_ := 0, hold := false }), 1, 2, rfl, by decide +kernel⟩

theorem witness_TestsFencesRemapsAndRebuilds_3 : ∃ (s : State) (c : Fin 8) (ch : Chan) (x : SelfTest), s.chan c = ch ∧ ch.clocked = true ∧ ch.safeServe = false ∧ ch.chk.tests.find? (fun x => ch.testDue x.at_ x.unit) = some x ∧ x.un = false :=
  ⟨(st fun ch => let a : Chan := ch; { a with chk := { tests := [{ unit := .quadrant 1 2, at_ := 0, hold := false }] } }), 0, _, ({ unit := .quadrant 1 2, at_ := 0, hold := false }), rfl, by decide +kernel⟩

theorem witness_TestsFencesRemapsAndRebuilds_4 : ∃ (s : State) (c : Fin 8) (ch : Chan) (x : SelfTest) (e q : Nat), s.chan c = ch ∧ ch.clocked = true ∧ ch.safeServe = false ∧ ch.chk.tests.find? (fun x => ch.testDue x.at_ x.unit) = some x ∧ x.un = false ∧ x.unit = .quadrant e q ∧ e < 4 ∧ q < 4 :=
  ⟨(st fun ch => let a : Chan := ch; { a with chk := { tests := [{ unit := .quadrant 1 2, at_ := 0, hold := false }] } }), 0, _, ({ unit := .quadrant 1 2, at_ := 0, hold := false }), 1, 2, rfl, by decide +kernel⟩

theorem witness_TestsFencesRemapsAndRebuilds_5 : ∃ (s : State) (c : Fin 8) (ch : Chan) (pass : Bool) (x : SelfTest), s.chan c = ch ∧ ch.clocked = true ∧ ch.safeServe = false ∧ ch.chk.tests.find? (fun x => ch.testDue x.at_ x.unit) = some x ∧ x.un = true :=
  ⟨(st fun ch => let a : Chan := ch; { a with chk := { tests := [{ unit := .bank 31, at_ := 0, hold := false, un := true }] } }), 0, _, true, ({ unit := .bank 31, at_ := 0, hold := false, un := true }), rfl, by decide +kernel⟩

theorem witness_TestsFencesRemapsAndRebuilds_6 : ∃ (s : State) (c : Fin 8) (ch : Chan) (src : Option (Fin 17)) (v : Word), s.chan c = ch ∧ s.reaches src c R.CHK_UNFENCE = true :=
  ⟨(st fun ch => ch.wr R.CHK_FENCE 0x80001), 0, _, none, 0xFFFFF, rfl, by decide +kernel⟩

theorem witness_TestsFencesRemapsAndRebuilds_7 : ∃ (s : State) (c : Fin 8) (ch : Chan) (src : Option (Fin 17)) (v : Word), s.chan c = ch ∧ s.reaches src c R.CHK_UNFENCE_BANKS = true :=
  ⟨(st fun ch => ch.wr R.CHK_FENCE_BANKS 0x80000001), 0, _, (some 0), 0xFFFFFFFF, rfl, by decide +kernel⟩

theorem witness_TestsFencesRemapsAndRebuilds_8 : ∃ (s : State) (c : Fin 8) (ch : Chan) (r : Remap) (rest : List Remap) (e q p tid : Nat) (x y : Nat), s.chan c = ch ∧ ch.clocked = true ∧ ch.safeServe = false ∧ ch.chk.remaps = r :: rest ∧ r.unit = .quadrant e q ∧ ch.partOfQuad e q = p ∧ ch.fld (R.MXE_PART e) (F.MXE_PART_owner q) = tid ∧ ch.remapTarget e p tid = .owned x y ∧ ch.canTake (partKey e p) (partKey x y) = true :=
  ⟨(st fun ch => { ((ch.setFlag (R.MXE_CTRL 2) F.MXE_CTRL_enable true).setFld (R.MXE_PART 2) ⟨0, 32⟩ 0x80808080) with chk := { remaps := [{ unit := .quadrant 1 2, at_ := 0, hold := false, target := [], source := [] }] } }), 0, _, ({ unit := .quadrant 1 2, at_ := 0, hold := false, target := [], source := [] }), [], 1, 2, 0, 0, 2, 0, rfl, by decide +kernel⟩

theorem witness_TestsFencesRemapsAndRebuilds_9 : ∃ (s : State) (c : Fin 8) (ch : Chan) (r : Remap) (rest : List Remap) (e q p tid : Nat) (x : Nat), s.chan c = ch ∧ ch.clocked = true ∧ ch.safeServe = false ∧ ch.chk.remaps = r :: rest ∧ r.unit = .quadrant e q ∧ ch.partOfQuad e q = p ∧ ch.fld (R.MXE_PART e) (F.MXE_PART_owner q) = tid ∧ ch.remapTarget e p tid = .fresh x ∧ ch.canTake (partKey e p) (partKey x p) = true :=
  ⟨(st fun ch => { (ch) with chk := { remaps := [{ unit := .quadrant 1 2, at_ := 0, hold := false, target := [], source := [] }] } }), 0, _, ({ unit := .quadrant 1 2, at_ := 0, hold := false, target := [], source := [] }), [], 1, 2, 0, 0, 0, rfl, by decide +kernel⟩

theorem witness_TestsFencesRemapsAndRebuilds_10 : ∃ (s : State) (c : Fin 8) (ch : Chan) (r : Remap) (rest : List Remap) (e q p tid : Nat), s.chan c = ch ∧ ch.clocked = true ∧ ch.safeServe = false ∧ ch.chk.remaps = r :: rest ∧ r.unit = .quadrant e q ∧ ch.partOfQuad e q = p ∧ ch.fld (R.MXE_PART e) (F.MXE_PART_owner q) = tid ∧ ch.remapTarget e p tid = .none_ :=
  ⟨(st fun ch => { ([0, 2, 3].foldl (fun (a : Chan) e => a.setFlag (R.MXE_CTRL e) F.MXE_CTRL_enable true) ch) with chk := { remaps := [{ unit := .quadrant 1 2, at_ := 0, hold := false, target := [], source := [] }] } }), 0, _, ({ unit := .quadrant 1 2, at_ := 0, hold := false, target := [], source := [] }), [], 1, 2, 0, 0, rfl, by decide +kernel⟩

theorem witness_TestsFencesRemapsAndRebuilds_11 : ∃ (s : State) (c : Fin 8) (ch : Chan) (r : Remap) (rest : List Remap) (u : Nat), s.chan c = ch ∧ ch.clocked = true ∧ ch.safeServe = false ∧ ch.chk.remaps = r :: rest ∧ r.unit = .ristretto u :=
  ⟨(st fun ch => { ch with chk := { remaps := [{ unit := .ristretto 1, at_ := 0, hold := true, target := [], source := [] }], holdAt := some 0 } }), 0, _, ({ unit := .ristretto 1, at_ := 0, hold := true, target := [], source := [] }), [], 1, rfl, by decide +kernel⟩

theorem witness_TestsFencesRemapsAndRebuilds_12 : ∃ (s : State) (c : Fin 8) (ch : Chan) (r : Remap) (rest : List Remap) (b : Nat) (p : List Nat × List Nat), s.chan c = ch ∧ ch.clocked = true ∧ ch.safeServe = false ∧ ch.chk.remaps = r :: rest ∧ r.unit = .bank b ∧ ch.chk.rebuilds = [] ∧ ch.rebuildPlan b = some p :=
  ⟨(st fun ch => { ((ch.wr (R.FST_ENS_BANKS 0) 1).wr (R.FST_ENS_CFG 0) (setF (setF 0 F.FST_ENS_CFG_valid 1) F.FST_ENS_CFG_copies 1)) with chk := { remaps := [{ unit := .bank 0, at_ := 0, hold := true, target := [], source := [] }] }, fst := { golden := [(0, some { slot := 0, side := 0 })] } }), 0, _, ({ unit := .bank 0, at_ := 0, hold := true, target := [], source := [] }), [], 0, ([1], [0]), rfl, by decide +kernel⟩

theorem witness_TestsFencesRemapsAndRebuilds_13 : ∃ (s : State) (c : Fin 8) (ch : Chan) (r : Remap) (rest : List Remap) (b n : Nat) (g : Golden), s.chan c = ch ∧ ch.clocked = true ∧ ch.safeServe = false ∧ ch.chk.rebuilds = r :: rest ∧ r.source.headD 0 = b ∧ r.target.length = 1 ∧ ch.bankEns b = some n ∧ sget (fun _ => none) ch.fst.golden b = some g ∧ (Chan.goldenKind { ch with chk := { ch.chk with rebuilds := rest } } (ctxOf g.slot g.side) 6).1 = true :=
  ⟨(st fun ch => { ((ch.wr (R.FST_ENS_BANKS 0) 1).wr (R.FST_ENS_CFG 0) (setF (setF 0 F.FST_ENS_CFG_valid 1) F.FST_ENS_CFG_copies 1)) with chk := { rebuilds := [{ unit := .bank 0, at_ := 0, hold := false, target := [3], source := [0] }] }, fst := { golden := [(0, some { slot := 0, side := 0 })] } }), 0, _, ({ unit := .bank 0, at_ := 0, hold := false, target := [3], source := [0] }), [], 0, 0, ({ slot := 0, side := 0 }), rfl, by decide +kernel⟩

theorem witness_DigestSweepAndScrub_1 : ∃ (s : State) (c : Fin 8) (ch : Chan), s.chan c = ch ∧ ch.clocked = true ∧ ch.flag R.CHK_CTRL F.CHK_CTRL_digest_enable = true ∧ ch.since ch.chk.digestAt (max 1 (ch.fld R.CHK_CTRL F.CHK_CTRL_digest_period) * msG) = true :=
  ⟨(st fun ch => ch.setFlag R.CHK_CTRL F.CHK_CTRL_digest_enable true), 0, _, rfl, by decide +kernel⟩

theorem witness_DigestSweepAndScrub_2 : ∃ (s : State) (c : Fin 8) (ch : Chan) (n : Fin 40) (e q : Nat), s.chan c = ch ∧ ch.clocked = true ∧ ch.flag R.CHK_CTRL F.CHK_CTRL_sweep_enable = true ∧ ch.safeServe = false ∧ ch.chk.sweep = none ∧ ch.sweepNext = some n.val ∧ ch.sweepUnit n = some (.quadrant e q) :=
  ⟨(st fun ch => { ch.setFlag R.CHK_CTRL F.CHK_CTRL_sweep_enable true with chk := { sweepLast := 2 } }), 0, _, 3, 3, 0, rfl, by decide +kernel⟩

theorem witness_DigestSweepAndScrub_3 : ∃ (s : State) (c : Fin 8) (ch : Chan) (n : Fin 40) (v : Nat), s.chan c = ch ∧ ch.clocked = true ∧ ch.flag R.CHK_CTRL F.CHK_CTRL_sweep_enable = true ∧ ch.safeServe = false ∧ ch.chk.sweep = none ∧ ch.sweepNext = some n.val ∧ ch.sweepUnit n = some (.ristretto v) :=
  ⟨(st fun ch => { ch.setFlag R.CHK_CTRL F.CHK_CTRL_sweep_enable true with chk := { sweepLast := 3 } }), 0, _, 4, 0, rfl, by decide +kernel⟩

theorem witness_DigestSweepAndScrub_4 : ∃ (s : State) (c : Fin 8) (ch : Chan) (n : Fin 40) (b : Nat), s.chan c = ch ∧ ch.clocked = true ∧ ch.flag R.CHK_CTRL F.CHK_CTRL_sweep_enable = true ∧ ch.safeServe = false ∧ ch.chk.sweep = none ∧ ch.sweepNext = some n.val ∧ ch.sweepUnit n = some (.bank b) :=
  ⟨(st fun ch => { ch.setFlag R.CHK_CTRL F.CHK_CTRL_sweep_enable true with chk := { sweepLast := 38 } }), 0, _, 39, 31, rfl, by decide +kernel⟩

theorem witness_DigestSweepAndScrub_5 : ∃ (s : State) (c : Fin 8) (ch : Chan) (q : Fin 4) (u : TestUnit) (t0 : Nat) (again : Bool), s.chan c = ch ∧ ch.clocked = true ∧ ch.chk.sweep = some (u, t0, again) ∧ ch.since t0 (1500 * nsG) = true :=
  ⟨(st fun ch => { ch with chk := { sweep := some (.quadrant 2 0, 0, false) } }), 0, _, 0, (.quadrant 2 0), 0, false, rfl, by decide +kernel⟩

theorem witness_DigestSweepAndScrub_6 : ∃ (s : State) (c : Fin 8) (ch : Chan) (q : Fin 4) (u : TestUnit) (t0 : Nat), s.chan c = ch ∧ ch.clocked = true ∧ ch.chk.sweep = some (u, t0, false) ∧ ch.since t0 (1500 * nsG) = true :=
  ⟨(st fun ch => { ch with chk := { sweep := some (.quadrant 2 0, 0, false) } }), 0, _, 0, (.quadrant 2 0), 0, rfl, by decide +kernel⟩

theorem witness_DigestSweepAndScrub_7 : ∃ (s : State) (c : Fin 8) (ch : Chan) (q : Fin 4) (e z t0 : Nat), s.chan c = ch ∧ ch.clocked = true ∧ ch.chk.sweep = some (.quadrant e z, t0, true) ∧ ch.since t0 (1500 * nsG) = true :=
  ⟨(st fun ch => { ch with chk := { sweep := some (.quadrant 2 0, 0, true) } }), 0, _, 3, 2, 0, 0, rfl, by decide +kernel⟩

theorem witness_DigestSweepAndScrub_8 : ∃ (s : State) (c : Fin 8) (ch : Chan) (q : Fin 4) (b t0 : Nat), s.chan c = ch ∧ ch.clocked = true ∧ ch.chk.sweep = some (.bank b, t0, true) ∧ ch.since t0 (1500 * nsG) = true :=
  ⟨(st fun ch => { ch with chk := { sweep := some (.bank 31, 0, true) } }), 0, _, 3, 31, 0, rfl, by decide +kernel⟩

theorem witness_DigestSweepAndScrub_9 : ∃ (s : State) (c : Fin 8) (ch : Chan) (q : Fin 4) (v t0 : Nat), s.chan c = ch ∧ ch.clocked = true ∧ ch.chk.sweep = some (.ristretto v, t0, true) ∧ ch.since t0 (1500 * nsG) = true :=
  ⟨(st fun ch => { ch with chk := { sweep := some (.ristretto 1, 0, true) } }), 0, _, 3, 1, 0, rfl, by decide +kernel⟩

theorem witness_DigestSweepAndScrub_10 : ∃ (s : State) (c : Fin 8) (ch : Chan) (x : TestUnit × Nat × Bool), s.chan c = ch ∧ ch.clocked = true ∧ ch.chk.sweep = some x ∧ ch.workWaits x.1 = true :=
  ⟨(st fun ch => let a : Chan := withSide (oneCmd 1) ch; { a with chk := { sweep := some (.ristretto 1, 0, true) }, vpe := { a.vpe with wfq := [{ unit := 33, tenant := 0, cost := 1, ctx := 0, index := 0 }] } }), 0, _, (.ristretto 1, 0, true), rfl, by decide +kernel⟩

theorem witness_DigestSweepAndScrub_11 : ∃ (s : State) (c : Fin 8) (ch : Chan) (n : Nat), s.chan c = ch ∧ ch.clocked = true ∧ ch.flag R.CHK_CTRL F.CHK_CTRL_scrub_enable = true ∧ ch.safeServe = false ∧ 2048 * ch.scrubBanks.length = n ∧ ch.chk.scrubPos < n ∧ ch.since ch.chk.scrubAt (ch.chk.scrubPos * 50 * msG / n) = true :=
  ⟨(st fun ch => let a : Chan := ((ch.wr (R.FST_ENS_BANKS 0) 1).wr (R.FST_ENS_CFG 0) (setF (setF 0 F.FST_ENS_CFG_valid 1) F.FST_ENS_CFG_copies 1)).setFlag R.CHK_CTRL F.CHK_CTRL_scrub_enable true; { a with chk := { scrubEns := 1 }, fst := { golden := [(0, some { slot := 0, side := 0 })] } }), 0, _, 2048, rfl, by decide +kernel⟩

theorem witness_DigestSweepAndScrub_12 : ∃ (s : State) (c : Fin 8) (ch : Chan), s.chan c = ch ∧ ch.clocked = true ∧ ch.flag R.CHK_CTRL F.CHK_CTRL_scrub_enable = true ∧ ch.safeServe = false ∧ 2048 * ch.scrubBanks.length ≤ ch.chk.scrubPos ∧ ch.since ch.chk.scrubAt (50 * msG) = true :=
  ⟨(st fun ch => ch.setFlag R.CHK_CTRL F.CHK_CTRL_scrub_enable true), 0, _, rfl, by decide +kernel⟩

theorem witness_FeedersAndTurns_1 : ∃ (s : State) (c : Fin 8) (ch : Chan) (g : Fin 4) (x : TrnCtx) (n : Nat) (b : TrnBatch) (q : List (List Byte)), s.chan c = ch ∧ ch.clocked = true ∧ ch.trnCtx g = x ∧ ch.trnFeeds g = true ∧ x.vote = none ∧ min 64 (max 1 (ch.trnFld g F.TRN_CFG_batch_rows)) = n ∧ (n ≤ x.admitted.length ∨ (ch.trnWindow g = true ∧ max 1 (ch.trnFld g F.TRN_CFG_min_rows) ≤ x.admitted.length)) ∧ (x.admitted.take n).map (·.row) = q ∧ ({ step := ch.nextBatch g, turn := x.turn, m := q.length, bytes := (q.headD []).length, rows := q } : TrnBatch) = b :=
  ⟨(trnSt { admitted := [trow0] } 1 7), 0, _, 0, ({ admitted := [trow0] }), 1, batch0, [row0], rfl, by decide +kernel⟩

theorem witness_FeedersAndTurns_2 : ∃ (s : State) (c : Fin 8) (ch : Chan) (g : Fin 4) (x : TrnCtx), s.chan c = ch ∧ ch.clocked = true ∧ ch.trnCtx g = x ∧ ch.trnFeeds g = true ∧ ch.trnWindow g = true ∧ x.admitted.length < max 1 (ch.trnFld g F.TRN_CFG_min_rows) :=
  ⟨(trnSt {} 1 7), 0, _, 0, {}, rfl, by decide +kernel⟩

theorem witness_FeedersAndTurns_3 : ∃ (s : State) (c : Fin 8) (ch : Chan) (g : Fin 4) (p : Fin 3) (hd : MsgHead) (pay : List Byte) (m : ZMsg) (r n : Nat) (b : TrnBatch) (x : TrnCtx), s.chan c = ch ∧ ch.clocked = true ∧ ch.accepts p hd ∧ delivered 5 false hd pay = m ∧ 3 ≤ 2 + ceilDiv pay.length 16 ∧ 2 + ceilDiv pay.length 16 ≤ 65538 ∧ ch.trnFrom m = some (g.val, r) ∧ batchOf hd.args.toNat m.payload = some b ∧ ch.trnCtx g = x ∧ (ch.trnState g = 1 ∨ ch.trnState g = 3 ∨ ch.trnState g = 4) ∧ (if ch.trnState g = 3 then (match x.log.getLast?, x.wanted with | some y, _ => y.step + 1 | none, some w => w.1 + 1 | none, none => 0) else ch.nextBatch g) = n ∧ b.step = n ∧ ch.turnOk g b.turn = true :=
  ⟨(trnSt {} 1 7), 0, _, 0, 0, (msgHd 0), batch0.payload, (delivered 5 false (msgHd 0) (batch0.payload)), 1, 0, batch0, {}, rfl, by decide +kernel⟩

theorem witness_FeedersAndTurns_4 : ∃ (s : State) (c : Fin 8) (ch : Chan) (g : Fin 4) (p : Fin 3) (hd : MsgHead) (pay : List Byte) (m : ZMsg) (r n : Nat) (b : TrnBatch) (x : TrnCtx), s.chan c = ch ∧ ch.clocked = true ∧ ch.accepts p hd ∧ delivered 5 false hd pay = m ∧ 3 ≤ 2 + ceilDiv pay.length 16 ∧ 2 + ceilDiv pay.length 16 ≤ 65538 ∧ ch.trnFrom m = some (g.val, r) ∧ batchOf hd.args.toNat m.payload = some b ∧ ch.trnCtx g = x ∧ (if ch.trnState g = 3 then (match x.log.getLast?, x.wanted with | some y, _ => y.step + 1 | none, some w => w.1 + 1 | none, none => 0) else ch.nextBatch g) = n ∧ (b.step ≠ n ∨ ch.turnOk g b.turn = false ∨ ch.trnState g = 0 ∨ ch.trnState g = 2 ∨ ch.trnState g = 5 ∨ ch.trnState g = 6) :=
  ⟨(trnSt {} 1 7), 0, _, 0, 0, (msgHd 3), batch0.payload, (delivered 5 false (msgHd 3) (batch0.payload)), 1, 0, ({ batch0 with step := 3 }), {}, rfl, by decide +kernel⟩

theorem witness_FeedersAndTurns_5 : ∃ (s : State) (c : Fin 8) (ch : Chan) (g : Fin 4) (p : Fin 3) (hd : MsgHead) (pay : List Byte) (m : ZMsg) (r : Nat), s.chan c = ch ∧ ch.clocked = true ∧ ch.accepts p hd ∧ delivered 6 true hd pay = m ∧ 2 + ceilDiv pay.length 16 = 2 ∧ ch.trnFrom m = some (g.val, r) ∧ ((ch.trnState g = 1 ∧ ch.turnOk g hd.args.toNat = true) ∨ (ch.trnState g = 4 ∧ hd.args.toNat = (ch.trnCtx g).turn)) :=
  ⟨(trnSt { turn := 4 } 1 7), 0, _, 0, 0, (msgHd 4), [], (delivered 6 true (msgHd 4) ([])), 1, rfl, by decide +kernel⟩

theorem witness_FeedersAndTurns_6 : ∃ (s : State) (c : Fin 8) (ch : Chan) (g : Fin 4) (p : Fin 3) (hd : MsgHead) (pay : List Byte) (m : ZMsg) (r : Nat), s.chan c = ch ∧ ch.clocked = true ∧ ch.accepts p hd ∧ delivered 6 true hd pay = m ∧ 2 + ceilDiv pay.length 16 = 2 ∧ ch.trnFrom m = some (g.val, r) ∧ (ch.trnState g ≠ 1 ∨ ch.turnOk g hd.args.toNat = false) ∧ (ch.trnState g ≠ 4 ∨ hd.args.toNat ≠ (ch.trnCtx g).turn) :=
  ⟨(trnSt { turn := 4 } 1 7), 0, _, 0, 0, (msgHd 5), [], (delivered 6 true (msgHd 5) ([])), 1, rfl, by decide +kernel⟩

theorem witness_StepsCheckpointsAndVotes_1 : ∃ (s : State) (c : Fin 8) (ch : Chan) (g : Fin 4) (b : TrnBatch) (i : Nat), s.chan c = ch ∧ ch.clocked = true ∧ ch.trnTenant g = i ∧ ((List.range 4).any fun h => (ch.trnCtx h).running && ch.trnTenant h == i) = false ∧ ch.trnNext i = some g.val ∧ ((ch.trnCtx g).log.find? fun b => b.step == ch.trnStep g) = some b :=
  ⟨(trnSt { log := [batch0] } 1 7), 0, _, 0, batch0, 0, rfl, by decide +kernel⟩

theorem witness_StepsCheckpointsAndVotes_2 : ∃ (s : State) (c : Fin 8) (ch : Chan) (g : Fin 4) (x k : Nat) (r : Run), s.chan c = ch ∧ ch.clocked = true ∧ ch.stepSide g = x ∧ ch.run x = some r ∧ (ch.trnCtx g).running = true ∧ (ch.side x).commands ≤ r.next ∧ r.live = [] ∧ r.failed = none ∧ ch.trnStep g = k :=
  ⟨(st fun ch => let a : Chan := trnChan { running := true } 1 7 ch; { a with models := { runs := [(0, { run := some { run0 with next := 1 } })] } }), 0, _, 0, 0, 0, ({ run0 with next := 1 }), rfl, by decide +kernel⟩

theorem witness_StepsCheckpointsAndVotes_3 : ∃ (s : State) (c : Fin 8) (ch : Chan) (g : Fin 4) (x k i : Nat) (r : Run) (e : Nat × Nat), s.chan c = ch ∧ ch.clocked = true ∧ ch.stepSide g = x ∧ ch.run x = some r ∧ (ch.trnCtx g).running = true ∧ (ch.side x).commands ≤ r.next ∧ r.live = [] ∧ r.failed = some e ∧ ch.trnStep g = k ∧ ch.trnTenant g = i :=
  ⟨(st fun ch => let a : Chan := trnChan { running := true } 1 7 ch; { a with models := { runs := [(0, { run := some { run0 with next := 1, failed := some (0, 4) } })] } }), 0, _, 0, 0, 0, 0, ({ run0 with next := 1, failed := some (0, 4) }), (0, 4), rfl, by decide +kernel⟩

theorem witness_StepsCheckpointsAndVotes_4 : ∃ (s : State) (c : Fin 8) (ch : Chan) (g : Fin 4) (x : TrnCtx) (v : Vote) (t0 : Nat), s.chan c = ch ∧ ch.clocked = true ∧ ch.trnCtx g = x ∧ x.vote = some v ∧ x.snapshot = some t0 ∧ ch.trnOn g = true ∧ ch.trnState g = 1 ∧ v.ready = none ∧ ch.since t0 ((64 + 4 * ch.trnParams g) * nsG / 20) = true :=
  ⟨(trnSt { vote := some vote0, snapshot := some 0 } 1 7), 0, _, 0, ({ vote := some vote0, snapshot := some 0 }), vote0, 0, rfl, by decide +kernel⟩

theorem witness_StepsCheckpointsAndVotes_5 : ∃ (s : State) (c : Fin 8) (ch : Chan) (g : Fin 4) (v : Vote) (t0 : Nat), s.chan c = ch ∧ ch.clocked = true ∧ (ch.trnCtx g).vote = some v ∧ v.ready = some t0 ∧ ch.trnOn g = true ∧ ch.since t0 (max 1 (ch.fld (R.TRN_LINK g) F.TRN_LINK_vote_timeout) * msG) = true :=
  ⟨(trnSt { vote := some { vote0 with ready := some 0 }, snapshot := some 0 } 1 1), 0, _, 0, ({ vote0 with ready := some 0 }), 0, rfl, by decide +kernel⟩

theorem witness_StepsCheckpointsAndVotes_6 : ∃ (s : State) (c : Fin 8) (ch : Chan) (g : Fin 4) (p : Fin 3) (hd : MsgHead) (pay : List Byte) (m : ZMsg) (r : Nat) (x : TrnCtx) (v : Vote), s.chan c = ch ∧ ch.clocked = true ∧ ch.accepts p hd ∧ delivered 7 true hd pay = m ∧ 2 + ceilDiv pay.length 16 = 5 ∧ ch.trnFrom m = some (g.val, r) ∧ ch.trnCtx g = x ∧ ch.trnState g = 1 ∧ x.vote = some v ∧ hd.args.toNat = v.c :=
  ⟨(trnSt { vote := some vote0 } 1 7), 0, _, 0, 0, (msgHd 8), (List.replicate 48 9), (delivered 7 true (msgHd 8) (List.replicate 48 9)), 1, ({ vote := some vote0 }), vote0, rfl, by decide +kernel⟩

theorem witness_StepsCheckpointsAndVotes_7 : ∃ (s : State) (c : Fin 8) (ch : Chan) (g : Fin 4) (p : Fin 3) (hd : MsgHead) (pay : List Byte) (m : ZMsg) (r : Nat), s.chan c = ch ∧ ch.clocked = true ∧ ch.accepts p hd ∧ delivered 7 true hd pay = m ∧ 2 + ceilDiv pay.length 16 = 5 ∧ ch.trnFrom m = some (g.val, r) ∧ ch.voteStep g hd.args.toNat false = false :=
  ⟨(trnSt { vote := some vote0 } 1 7), 0, _, 0, 0, (msgHd 16), (List.replicate 48 9), (delivered 7 true (msgHd 16) (List.replicate 48 9)), 1, rfl, by decide +kernel⟩

theorem witness_StepsCheckpointsAndVotes_8 : ∃ (s : State) (c : Fin 8) (ch : Chan) (g : Fin 4) (p : Fin 3) (hd : MsgHead) (pay : List Byte) (m : ZMsg) (r : Nat) (x : TrnCtx), s.chan c = ch ∧ ch.clocked = true ∧ ch.accepts p hd ∧ delivered 7 true hd pay = m ∧ 2 + ceilDiv pay.length 16 = 5 ∧ ch.trnFrom m = some (g.val, r) ∧ ch.trnCtx g = x ∧ ch.trnState g ≠ 1 ∧ ch.voteStep g hd.args.toNat false = true :=
  ⟨(trnSt { feeds := [1] } 5 1), 0, _, 0, 0, (msgHd 8), (List.replicate 48 9), (delivered 7 true (msgHd 8) (List.replicate 48 9)), 1, ({ feeds := [1] }), rfl, by decide +kernel⟩

theorem witness_StepsCheckpointsAndVotes_9 : ∃ (s : State) (c : Fin 8) (ch : Chan) (g : Fin 4) (p : Fin 3) (hd : MsgHead) (pay : List Byte), s.chan c = ch ∧ ch.clocked = true ∧ ch.zLive p = true ∧ 2 < hd.args.toNat % 256 :=
  ⟨(trnSt {} 1 7), 0, _, 0, 0, (msgHd 3), [], rfl, by decide +kernel⟩

theorem witness_StepsCheckpointsAndVotes_10 : ∃ (s : State) (c : Fin 8) (ch : Chan) (g : Fin 4) (p : Fin 3) (hd : MsgHead) (pay : List Byte) (m : ZMsg) (r : Nat), s.chan c = ch ∧ ch.clocked = true ∧ ch.accepts p hd ∧ delivered 8 true hd pay = m ∧ 2 + ceilDiv pay.length 16 = 2 ∧ hd.args.toNat % 256 ≤ 2 ∧ ch.trnFrom m = some (g.val, r) ∧ ch.voteStep g (hd.args.toNat / 65536) true = false :=
  ⟨(trnSt { vote := some vote0 } 1 7), 0, _, 0, 0, (msgHd (16 * 65536 + 3 * 256)), [], (delivered 8 true (msgHd (16 * 65536 + 3 * 256)) ([])), 1, rfl, by decide +kernel⟩

theorem witness_StepsCheckpointsAndVotes_11 : ∃ (s : State) (c : Fin 8) (ch : Chan) (g : Fin 4) (p : Fin 3) (hd : MsgHead) (pay : List Byte) (m : ZMsg) (r n k : Nat) (x : TrnCtx), s.chan c = ch ∧ ch.clocked = true ∧ ch.accepts p hd ∧ delivered 8 true hd pay = m ∧ 2 + ceilDiv pay.length 16 = 2 ∧ hd.args.toNat % 256 ≤ 2 ∧ ch.trnFrom m = some (g.val, r) ∧ ch.safeServe = false ∧ ch.trnState g = 1 ∧ ch.trnCtx g = x ∧ ch.voteStep g k true = true ∧ x.decided.all (fun d => d.c != k) = true ∧ hd.args.toNat / 65536 = k ∧ hd.args.toNat = n :=
  ⟨(trnSt { vote := some vote0 } 1 7), 0, _, 0, 0, (msgHd (8 * 65536 + 3 * 256)), [], (delivered 8 true (msgHd (8 * 65536 + 3 * 256)) ([])), 1, (8 * 65536 + 3 * 256), 8, ({ vote := some vote0 }), rfl, by decide +kernel⟩

theorem witness_StepsCheckpointsAndVotes_12 : ∃ (s : State) (c : Fin 8) (ch : Chan) (g : Fin 4) (p : Fin 3) (hd : MsgHead) (pay : List Byte) (m : ZMsg) (r n k : Nat) (x : TrnCtx), s.chan c = ch ∧ ch.clocked = true ∧ ch.accepts p hd ∧ delivered 8 true hd pay = m ∧ 2 + ceilDiv pay.length 16 = 2 ∧ hd.args.toNat % 256 ≤ 2 ∧ ch.trnFrom m = some (g.val, r) ∧ ch.safeServe = true ∧ ch.trnState g = 1 ∧ ch.trnCtx g = x ∧ ch.voteStep g k true = true ∧ hd.args.toNat / 65536 = k ∧ hd.args.toNat = n :=
  ⟨(st fun ch => (trnChan { vote := some vote0 } 1 7 ch).setFlag R.PWR_STATUS F.PWR_STATUS_safe_serve true), 0, _, 0, 0, (msgHd (8 * 65536 + 6 * 256)), [], (delivered 8 true (msgHd (8 * 65536 + 6 * 256)) ([])), 1, (8 * 65536 + 6 * 256), 8, ({ vote := some vote0 }), rfl, by decide +kernel⟩

theorem witness_StepsCheckpointsAndVotes_13 : ∃ (s : State) (c : Fin 8) (ch : Chan) (g : Fin 4) (p : Fin 3) (hd : MsgHead) (pay : List Byte) (m : ZMsg) (r n : Nat) (x : TrnCtx) (d : Decided), s.chan c = ch ∧ ch.clocked = true ∧ ch.accepts p hd ∧ delivered 8 true hd pay = m ∧ 2 + ceilDiv pay.length 16 = 2 ∧ hd.args.toNat % 256 ≤ 2 ∧ ch.trnFrom m = some (g.val, r) ∧ ch.safeServe = false ∧ (ch.trnState g = 1 ∨ ch.trnState g = 2) ∧ ch.trnCtx g = x ∧ x.decided = some d ∧ hd.args.toNat / 65536 = d.c ∧ hd.args.toNat = n ∧ ch.voteStep g d.c true = true ∧ (Chan.trnAdopt (ch.setTrn g { x with heard := some d.c }) g r d.c (n / 256 % 8) (n % 256)).trnState g ≠ 5 :=
  ⟨(trnSt { decided := some decided0 } 1 7), 0, _, 0, 0, (msgHd (8 * 65536 + 3 * 256)), [], (delivered 8 true (msgHd (8 * 65536 + 3 * 256)) ([])), 1, (8 * 65536 + 3 * 256), ({ decided := some decided0 }), decided0, rfl, by decide +kernel⟩

theorem witness_StepsCheckpointsAndVotes_14 : ∃ (s : State) (c : Fin 8) (ch : Chan) (g : Fin 4) (p : Fin 3) (hd : MsgHead) (pay : List Byte) (m : ZMsg) (r n k : Nat) (x : TrnCtx), s.chan c = ch ∧ ch.clocked = true ∧ ch.accepts p hd ∧ delivered 8 true hd pay = m ∧ 2 + ceilDiv pay.length 16 = 2 ∧ hd.args.toNat % 256 ≤ 2 ∧ ch.trnFrom m = some (g.val, r) ∧ ch.trnState g = 5 ∧ ch.trnCtx g = x ∧ x.decided.all (fun d => d.c != k) = true ∧ hd.args.toNat / 65536 = k ∧ hd.args.toNat = n ∧ n % 256 ≤ 1 :=
  ⟨(trnSt {} 5 7), 0, _, 0, 0, (msgHd (8 * 65536 + 6 * 256)), [], (delivered 8 true (msgHd (8 * 65536 + 6 * 256)) ([])), 1, (8 * 65536 + 6 * 256), 8, {}, rfl, by decide +kernel⟩

theorem witness_ExpulsionRejoinAndPublication_1 : ∃ (s : State) (c : Fin 8) (ch : Chan) (g : Fin 4) (bad : BitVec 16) (qs : List (Nat × Nat)), s.chan c = ch ∧ ch.clocked = true ∧ ch.trnOn g = true ∧ ch.trnState g = 2 ∧ (ch.trnCtx g).used = qs ∧ ch.sinceC ((ch.trnCtx g).testAt + 2048 * (ch.side (ch.trnSide g)).tiles * nsG / 20) (2120 * qs.length) = true :=
  ⟨(st fun ch => (trnChan { wanted := some (8, []), donor := 1, used := [(0, 0)] } 2 6 ch).setSide 0 (oneCmd 1)), 0, _, 0, 1, ([(0, 0)]), rfl, by decide +kernel⟩

theorem witness_ExpulsionRejoinAndPublication_2 : ∃ (s : State) (c : Fin 8) (ch : Chan) (g : Fin 4) (p : Fin 3) (hd : MsgHead) (pay : List Byte) (m : ZMsg) (r : Nat) (x : TrnCtx), s.chan c = ch ∧ ch.clocked = true ∧ ch.accepts p hd ∧ delivered 9 true hd pay = m ∧ 2 + ceilDiv pay.length 16 = 2 ∧ ch.trnFrom m = some (g.val, r) ∧ ch.trnCtx g = x ∧ ch.trnState g = 1 ∧ x.agreedAny = true ∧ hd.args.toNat = (ch.rd (R.TRN_AGREED g)).toNat :=
  ⟨(trnSt { agreedAny := true } 1 7), 0, _, 0, 0, (msgHd 0), [], (delivered 9 true (msgHd 0) ([])), 1, ({ agreedAny := true }), rfl, by decide +kernel⟩

theorem witness_ExpulsionRejoinAndPublication_3 : ∃ (s : State) (c : Fin 8) (ch : Chan) (g : Fin 4) (p : Fin 3) (hd : MsgHead) (pay : List Byte) (m : ZMsg) (r : Nat), s.chan c = ch ∧ ch.clocked = true ∧ ch.accepts p hd ∧ delivered 9 true hd pay = m ∧ 2 + ceilDiv pay.length 16 = 2 ∧ ch.trnFrom m = some (g.val, r) ∧ (ch.trnState g ≠ 1 ∨ (ch.trnCtx g).agreedAny = false ∨ hd.args.toNat ≠ (ch.rd (R.TRN_AGREED g)).toNat) :=
  ⟨(trnSt {} 1 7), 0, _, 0, 0, (msgHd 0), [], (delivered 9 true (msgHd 0) ([])), 1, rfl, by decide +kernel⟩

theorem witness_ExpulsionRejoinAndPublication_4 : ∃ (s : State) (c : Fin 8) (ch : Chan) (g : Fin 4) (p : Fin 3) (hd : MsgHead) (pay : List Byte) (m : ZMsg) (x : TrnCtx) (w : Nat × List Byte) (i n : Nat), s.chan c = ch ∧ ch.clocked = true ∧ ch.accepts p hd ∧ delivered 10 false hd pay = m ∧ 3 ≤ 2 + ceilDiv pay.length 16 ∧ 2 + ceilDiv pay.length 16 ≤ 65542 ∧ ch.trnFrom m = some (g.val, x.donor) ∧ ch.trnCtx g = x ∧ x.wanted = some w ∧ ch.trnState g = 3 ∧ hd.args.toNat / 2 ^ 32 = i ∧ hd.args.toNat % 2 ^ 32 = n ∧ i = x.ckptSegs ∧ n = ckptCount (ch.trnParams g) :=
  ⟨(trnSt { wanted := some (8, []), donor := 1, used := [(0, 0)] } 3 6), 0, _, 0, 0, (msgHd 1), (List.replicate 64 0), (delivered 10 false (msgHd 1) (List.replicate 64 0)), ({ wanted := some (8, []), donor := 1, used := [(0, 0)] }), (8, []), 0, 1, rfl, by decide +kernel⟩

theorem witness_ExpulsionRejoinAndPublication_5 : ∃ (s : State) (c : Fin 8) (ch : Chan) (g : Fin 4) (p : Fin 3) (hd : MsgHead) (pay : List Byte) (m : ZMsg) (r : Nat) (x : TrnCtx), s.chan c = ch ∧ ch.clocked = true ∧ ch.accepts p hd ∧ delivered 10 false hd pay = m ∧ 3 ≤ 2 + ceilDiv pay.length 16 ∧ 2 + ceilDiv pay.length 16 ≤ 65542 ∧ ch.trnFrom m = some (g.val, r) ∧ ch.trnCtx g = x ∧ (x.wanted = none ∨ ch.trnState g ≠ 3 ∨ r ≠ x.donor ∨ hd.args.toNat / 2 ^ 32 ≠ x.ckptSegs ∨ hd.args.toNat % 2 ^ 32 ≠ ckptCount (ch.trnParams g)) :=
  ⟨(trnSt {} 3 6), 0, _, 0, 0, (msgHd 1), (List.replicate 64 0), (delivered 10 false (msgHd 1) (List.replicate 64 0)), 1, {}, rfl, by decide +kernel⟩

theorem witness_ExpulsionRejoinAndPublication_6 : ∃ (s : State) (c : Fin 8) (ch : Chan) (g : Fin 4) (x : TrnCtx) (n k : Nat), s.chan c = ch ∧ ch.clocked = true ∧ ch.trnCtx g = x ∧ x.pubWait = some k ∧ ch.trnOn g = true ∧ ch.trnFld g F.TRN_CFG_serve_slot = n ∧ ch.slotEnabled n = true ∧ ch.slotKind n = 1 ∧ ch.slotTid n = ch.slotTid (ch.trnSlot g) ∧ ch.servingState n = 1 ∧ ch.standbyState n = 0 ∧ ch.unloading n = false :=
  ⟨(st fun ch => (((trnChan { pubWait := some 8 } 1 7 ch).setFld (R.TRN_CFG 0) F.TRN_CFG_serve_slot 1).setFld (R.CHN_SLOT_CFG 1) ⟨0, 64⟩ (setF (setF 0 F.CHN_SLOT_CFG_enable 1) F.CHN_SLOT_CFG_kind 1).toNat).setServing 1 1), 0, _, 0, ({ pubWait := some 8 }), 1, 8, rfl, by decide +kernel⟩

theorem witness_ExpulsionRejoinAndPublication_7 : ∃ (s : State) (c : Fin 8) (ch : Chan) (g : Fin 4) (src : Option (Fin 17)) (v w : Word), s.chan c = ch ∧ s.reaches src c (R.TRN_CFG g) = true ∧ ch.flag (R.TRN_CFG g) F.TRN_CFG_enable = false ∧ mergeF (ch.rd (R.TRN_CFG g)) v (F.TRN_CFG_enable :: if ch.safeServe then [] else trnCfgLocked) = w ∧ ch.trnCfgBad g w = false ∧ getF w F.TRN_CFG_enable = 1 :=
  ⟨(st fun ch => ch.setFld (R.CHN_SLOT_CFG 0) F.CHN_SLOT_CFG_kind 2), 0, _, 3, none, (setF (setF (setF 0 F.TRN_CFG_enable 1) F.TRN_CFG_interval 8) F.TRN_CFG_batch_rows 64), (setF (setF (setF 0 F.TRN_CFG_enable 1) F.TRN_CFG_interval 8) F.TRN_CFG_batch_rows 64), rfl, by decide +kernel⟩

theorem witness_ExpulsionRejoinAndPublication_8 : ∃ (s : State) (c : Fin 8) (ch : Chan) (g : Fin 4) (src : Option (Fin 17)) (v w : Word), s.chan c = ch ∧ s.reaches src c (R.TRN_CFG g) = true ∧ ch.flag (R.TRN_CFG g) F.TRN_CFG_enable = false ∧ mergeF (ch.rd (R.TRN_CFG g)) v (F.TRN_CFG_enable :: if ch.safeServe then [] else trnCfgLocked) = w ∧ ch.trnCfgBad g w = true :=
  ⟨live, 0, _, 3, none, 1, (mergeF 0 1 (F.TRN_CFG_enable :: trnCfgLocked)), rfl, by decide +kernel⟩

theorem witness_ExpulsionRejoinAndPublication_9 : ∃ (s : State) (c : Fin 8) (ch : Chan) (g : Fin 4) (src : Option (Fin 17)) (v w : Word), s.chan c = ch ∧ s.reaches src c (R.TRN_CFG g) = true ∧ ch.flag (R.TRN_CFG g) F.TRN_CFG_enable = true ∧ mergeF (ch.rd (R.TRN_CFG g)) v [F.TRN_CFG_enable] = w ∧ getF w F.TRN_CFG_enable = 0 :=
  ⟨(trnSt {} 1 7), 0, _, 0, none, 0, (mergeF ((trnSt {} 1 7).chan 0 |>.rd (R.TRN_CFG 0)) 0 [F.TRN_CFG_enable]), rfl, by decide +kernel⟩

theorem witness_ExpulsionRejoinAndPublication_10 : ∃ (s : State) (c : Fin 8) (ch : Chan) (g : Fin 4) (src : Option (Fin 17)) (v w : Word), s.chan c = ch ∧ s.reaches src c (R.TRN_CFG g) = true ∧ mergeF (ch.rd (R.TRN_CFG g)) v (F.TRN_CFG_enable :: if ch.flag (R.TRN_CFG g) F.TRN_CFG_enable || ch.safeServe then [] else trnCfgLocked) = w ∧ getF w F.TRN_CFG_enable = getF (ch.rd (R.TRN_CFG g)) F.TRN_CFG_enable ∧ (ch.flag (R.TRN_CFG g) F.TRN_CFG_enable = true ∨ ch.trnCfgBad g w = false) :=
  ⟨(trnSt {} 1 7), 0, _, 0, none, 1, (mergeF ((trnSt {} 1 7).chan 0 |>.rd (R.TRN_CFG 0)) 1 [F.TRN_CFG_enable]), rfl, by decide +kernel⟩

theorem witness_GateListsCommitSwitchAndEnter_1 : ∃ (s : State) (c : Fin 8) (ch : Chan) (src : Option (Fin 17)) (v : Word), s.chan c = ch ∧ s.reaches src c R.VPE_GATE_CTRL = true ∧ getF v F.VPE_GATE_CTRL_commit = 1 ∧ (if (ch.wr R.VPE_GATE_CTRL (mergeF (ch.rd R.VPE_GATE_CTRL) v [F.VPE_GATE_CTRL_enable])).fld R.VPE_GATE_CTRL F.VPE_GATE_CTRL_enable = ch.fld R.VPE_GATE_CTRL F.VPE_GATE_CTRL_enable then ch.wr R.VPE_GATE_CTRL (mergeF (ch.rd R.VPE_GATE_CTRL) v [F.VPE_GATE_CTRL_enable]) else (ch.wr R.VPE_GATE_CTRL (mergeF (ch.rd R.VPE_GATE_CTRL) v [F.VPE_GATE_CTRL_enable])).gateChanged).commitResult = 0 :=
  ⟨(st fun ch => let a : Chan := (ch.setFld R.VPE_GATE_ADMIN F.VPE_GATE_ADMIN_count 1).setFld R.VPE_GATE_ADMIN F.VPE_GATE_ADMIN_cycle_time 100; { a with vpe := { a.vpe with gate := { lists := [(64, { duration := 100, mxe := [254, 254, 254, 254], rvu := 254, fst := 254, vec := 254 })] } } }), 0, _, none, 2, rfl, by decide +kernel⟩

theorem witness_GateListsCommitSwitchAndEnter_2 : ∃ (s : State) (c : Fin 8) (ch : Chan) (src : Option (Fin 17)) (v : Word) (r : Nat), s.chan c = ch ∧ s.reaches src c R.VPE_GATE_CTRL = true ∧ getF v F.VPE_GATE_CTRL_commit = 1 ∧ (if (ch.wr R.VPE_GATE_CTRL (mergeF (ch.rd R.VPE_GATE_CTRL) v [F.VPE_GATE_CTRL_enable])).fld R.VPE_GATE_CTRL F.VPE_GATE_CTRL_enable = ch.fld R.VPE_GATE_CTRL F.VPE_GATE_CTRL_enable then ch.wr R.VPE_GATE_CTRL (mergeF (ch.rd R.VPE_GATE_CTRL) v [F.VPE_GATE_CTRL_enable]) else (ch.wr R.VPE_GATE_CTRL (mergeF (ch.rd R.VPE_GATE_CTRL) v [F.VPE_GATE_CTRL_enable])).gateChanged).commitResult = r ∧ r ≠ 0 :=
  ⟨live, 0, _, none, 2, 1, rfl, by decide +kernel⟩

theorem witness_GateListsCommitSwitchAndEnter_3 : ∃ (s : State) (c : Fin 8) (ch : Chan) (src : Option (Fin 17)) (v : Word), s.chan c = ch ∧ s.reaches src c R.VPE_GATE_CTRL = true ∧ getF v F.VPE_GATE_CTRL_commit = 0 :=
  ⟨live, 0, _, none, 1, rfl, by decide +kernel⟩

theorem witness_GateListsCommitSwitchAndEnter_4 : ∃ (s : State) (c : Fin 8) (ch : Chan) (p : GatePending), s.chan c = ch ∧ ch.clocked = true ∧ ch.vpe.gate.pending = some p ∧ p.start ≤ ch.ns :=
  ⟨(st fun ch => let a : Chan := ch; { a with vpe := { a.vpe with gate := { lists := [(64, { duration := 100, mxe := [254, 254, 254, 254], rvu := 254, fst := 254, vec := 254 })], pending := some { cycle := 100, count := 1, start := 5 } } } }), 0, _, ({ cycle := 100, count := 1, start := 5 }), rfl, by decide +kernel⟩

theorem witness_GateListsCommitSwitchAndEnter_5 : ∃ (s : State) (c : Fin 8) (ch : Chan) (p : GatePending) (e n : Nat), s.chan c = ch ∧ ch.clocked = true ∧ ch.vpe.gate.oper = some p ∧ ch.fld R.VPE_GATE_STATUS F.VPE_GATE_STATUS_entry = e ∧ ch.vpe.gate.entryAt + (ch.gateEntry ch.activeList e).duration = n ∧ e + 1 < p.count ∧ n < p.start + p.cycle ∧ n ≤ ch.ns :=
  ⟨(st fun ch => let a : Chan := ch; { a with vpe := { a.vpe with gate := { lists := [(0, { duration := 100, mxe := [254, 254, 254, 254], rvu := 254, fst := 254, vec := 254 }), (1, { duration := 100, mxe := [254, 254, 254, 254], rvu := 254, fst := 254, vec := 254 })], oper := some { cycle := 1000, count := 2, start := 0 } } } }), 0, _, ({ cycle := 1000, count := 2, start := 0 }), 0, 100, rfl, by decide +kernel⟩

theorem witness_GateListsCommitSwitchAndEnter_6 : ∃ (s : State) (c : Fin 8) (ch : Chan) (p : GatePending) (e n : Nat), s.chan c = ch ∧ ch.clocked = true ∧ ch.vpe.gate.oper = some p ∧ ch.fld R.VPE_GATE_STATUS F.VPE_GATE_STATUS_entry = e ∧ ch.vpe.gate.entryAt + (ch.gateEntry ch.activeList e).duration = n ∧ (p.count ≤ e + 1 ∨ p.start + p.cycle ≤ n) ∧ p.start + p.cycle ≤ ch.ns :=
  ⟨(st fun ch => let a : Chan := ch; { a with vpe := { a.vpe with gate := { lists := [(0, { duration := 100, mxe := [254, 254, 254, 254], rvu := 254, fst := 254, vec := 254 })], oper := some { cycle := 1000, count := 1, start := 0 } } } }), 0, _, ({ cycle := 1000, count := 1, start := 0 }), 0, 100, rfl, by decide +kernel⟩

theorem witness_FairQueueingAndReentry_1 : ∃ (s : State) (c : Fin 8) (ch : Chan) (unit : Fin 36) (i : Nat) (x : WfqItem) (rest : List WfqItem), s.chan c = ch ∧ ch.clocked = true ∧ (ch.pump unit.val).unitFree unit = true ∧ (ch.pump unit.val).obs.dump = none ∧ (ch.pump unit.val).wfqPick unit = some i ∧ (ch.pump unit.val).wfqQueue unit i = x :: rest ∧ unit.val < 32 :=
  ⟨(st fun ch => let a : Chan := withSide (oneCmd 1) ch; { a with vpe := { a.vpe with wfq := [{ unit := 31, tenant := 0, cost := 1, ctx := 0, index := 0 }] } }), 0, _, 31, 0, ({ unit := 31, tenant := 0, cost := 1, ctx := 0, index := 0 }), [], rfl, by decide +kernel⟩

theorem witness_FairQueueingAndReentry_2 : ∃ (s : State) (c : Fin 8) (ch : Chan) (unit : Fin 36), s.chan c = ch ∧ ch.clocked = true ∧ unit.val < 32 ∧ ((ch.pump unit.val).unitFree unit = false ∨ (ch.pump unit.val).obs.dump ≠ none ∨ (ch.pump unit.val).wfqPick unit = none) :=
  ⟨live, 0, _, 31, rfl, by decide +kernel⟩

theorem witness_FairQueueingAndReentry_3 : ∃ (s : State) (c : Fin 8) (ch : Chan) (unit : Fin 36), s.chan c = ch ∧ ch.clocked = true ∧ 32 ≤ unit.val ∧ (unit.val = 35 ∨ ch.unitFree unit = false ∨ ch.obs.dump ≠ none ∨ ch.wfqPick unit = none) :=
  ⟨live, 0, _, 35, rfl, by decide +kernel⟩

theorem witness_FairQueueingAndReentry_4 : ∃ (s : State) (c : Fin 8) (ch : Chan) (unit : Fin 36) (i : Nat) (x : WfqItem) (rest : List WfqItem), s.chan c = ch ∧ ch.clocked = true ∧ (ch).unitFree unit = true ∧ (ch).obs.dump = none ∧ (ch).wfqPick unit = some i ∧ (ch).wfqQueue unit i = x :: rest ∧ (unit.val = 32 ∨ unit.val = 33) :=
  ⟨(st fun ch => let a : Chan := withSide (oneCmd 3) ch; { a with vpe := { a.vpe with wfq := [{ unit := 33, tenant := 0, cost := 1, ctx := 0, index := 0 }] } }), 0, _, 33, 0, ({ unit := 33, tenant := 0, cost := 1, ctx := 0, index := 0 }), [], rfl, by decide +kernel⟩

theorem witness_FairQueueingAndReentry_5 : ∃ (s : State) (c : Fin 8) (ch : Chan) (unit : Fin 36) (i : Nat) (x : WfqItem) (rest : List WfqItem), s.chan c = ch ∧ ch.clocked = true ∧ (ch).unitFree unit = true ∧ (ch).obs.dump = none ∧ (ch).wfqPick unit = some i ∧ (ch).wfqQueue unit i = x :: rest ∧ unit.val = 34 :=
  ⟨(st fun ch => let a : Chan := withSide (oneCmd 6) ch; { a with vpe := { a.vpe with wfq := [{ unit := 34, tenant := 0, cost := 1, ctx := 0, index := 0 }] } }), 0, _, 34, 0, ({ unit := 34, tenant := 0, cost := 1, ctx := 0, index := 0 }), [], rfl, by decide +kernel⟩

theorem witness_FairQueueingAndReentry_6 : ∃ (s : State) (c : Fin 8) (ch : Chan) (i : Nat) (x : WfqItem) (rest : List WfqItem) (j : Job), s.chan c = ch ∧ ch.clocked = true ∧ ch.wfqPick 35 = some i ∧ ch.wfqQueue 35 i = x :: rest ∧ ch.job x.index = some j ∧ ch.claimClash 0 j.ens j.laneB = false :=
  ⟨(st fun ch => { ch with vpe := { wfq := [{ unit := 35, tenant := 0, cost := 1, ctx := 0, index := 0 }] }, jobs := [{ job0 with stage := .gateWait, ens := [] }] }), 0, _, 0, ({ unit := 35, tenant := 0, cost := 1, ctx := 0, index := 0 }), [], ({ job0 with stage := .gateWait }), rfl, by decide +kernel⟩

theorem witness_FairQueueingAndReentry_7 : ∃ (s : State) (c : Fin 8) (ch : Chan) (i : Nat) (x : WfqItem) (rest : List WfqItem) (j : Job), s.chan c = ch ∧ ch.clocked = true ∧ ch.wfqPick 35 = some i ∧ ch.wfqQueue 35 i = x :: rest ∧ ch.job x.index = some j ∧ ch.claimClash 0 j.ens j.laneB = true :=
  ⟨(st fun ch => let a : Chan := ((ch.setFld (R.FST_ENS_CFG 0) F.FST_ENS_CFG_copies 1).setFld (R.FST_ENS_BANKS 0) ⟨0, 32⟩ 1); { a with fst := { a.fst with claims := [(a.coreNow / 240, 1)] }, vpe := { wfq := [{ unit := 35, tenant := 0, cost := 1, ctx := 0, index := 0 }] }, jobs := [{ job0 with stage := .gateWait, ens := [0] }] }), 0, _, 0, ({ unit := 35, tenant := 0, cost := 1, ctx := 0, index := 0 }), [], ({ job0 with stage := .gateWait, ens := [0] }), rfl, by decide +kernel⟩

theorem witness_FairQueueingAndReentry_8 : ∃ (s : State) (c : Fin 8) (ch : Chan), s.chan c = ch ∧ ch.clocked = true ∧ ch.wfqPick 35 = none :=
  ⟨live, 0, _, rfl, by decide +kernel⟩

theorem witness_ItemsGroupsAndPolicies_1 : ∃ (s : State) (c : Fin 8) (ch : Chan) (src : Option (Fin 17)) (v : Word) (tgt idx : Nat), s.chan c = ch ∧ s.reaches src c R.VPE_IND_SEL = true ∧ getF v F.VPE_IND_SEL_target = tgt ∧ getF v F.VPE_IND_SEL_index = idx ∧ (ch.wr (bank (writerInst src) R.VPE_IND_SEL) (mergeF (ch.rd (bank (writerInst src) R.VPE_IND_SEL)) v [F.VPE_IND_SEL_target, F.VPE_IND_SEL_index, F.VPE_IND_SEL_write])).vpeReach (writerInst src) tgt idx = 0 :=
  ⟨live, 0, _, none, (setF 0 F.VPE_IND_SEL_index 32767), 0, 32767, rfl, by decide +kernel⟩

theorem witness_ItemsGroupsAndPolicies_2 : ∃ (s : State) (c : Fin 8) (ch : Chan) (src : Option (Fin 17)) (v : Word) (tgt idx : Nat) (r : Nat), s.chan c = ch ∧ s.reaches src c R.VPE_IND_SEL = true ∧ getF v F.VPE_IND_SEL_target = tgt ∧ getF v F.VPE_IND_SEL_index = idx ∧ (ch.wr (bank (writerInst src) R.VPE_IND_SEL) (mergeF (ch.rd (bank (writerInst src) R.VPE_IND_SEL)) v [F.VPE_IND_SEL_target, F.VPE_IND_SEL_index, F.VPE_IND_SEL_write])).vpeReach (writerInst src) tgt idx = r ∧ r ≠ 0 :=
  ⟨live, 0, _, none, (setF (setF 0 F.VPE_IND_SEL_index 2048) F.VPE_IND_SEL_target 1), 1, 2048, 2, rfl, by decide +kernel⟩

theorem witness_ItemsGroupsAndPolicies_3 : ∃ (s : State) (c : Fin 8) (ch : Chan) (src : Option (Fin 17)) (v : Word) (tgt idx : Nat) (z : List Byte), s.chan c = ch ∧ s.reaches src c R.VPE_IND_SEL = true ∧ getF v F.VPE_IND_SEL_target = tgt ∧ getF v F.VPE_IND_SEL_index = idx ∧ (ch.wr (bank (writerInst src) R.VPE_IND_SEL) (mergeF (ch.rd (bank (writerInst src) R.VPE_IND_SEL)) v [F.VPE_IND_SEL_target, F.VPE_IND_SEL_index, F.VPE_IND_SEL_write])).vpeReach (writerInst src) tgt idx = 0 ∧ ((List.range 8).flatMap fun i => leBytes 8 (ch.rd (bank (writerInst src) (R.VPE_IND_DATA i))).toNat) = z ∧ ((ch.wr (bank (writerInst src) R.VPE_IND_SEL) (mergeF (ch.rd (bank (writerInst src) R.VPE_IND_SEL)) v [F.VPE_IND_SEL_target, F.VPE_IND_SEL_index, F.VPE_IND_SEL_write])).vpePut tgt idx z).1 = 0 :=
  ⟨live, 0, _, none, (setF (setF 0 F.VPE_IND_SEL_index 2047) F.VPE_IND_SEL_target 1), 1, 2047, (List.replicate 64 0), rfl, by decide +kernel⟩

theorem witness_ItemsGroupsAndPolicies_4 : ∃ (s : State) (c : Fin 8) (ch : Chan) (src : Option (Fin 17)) (v : Word) (tgt idx : Nat) (z : List Byte), s.chan c = ch ∧ s.reaches src c R.VPE_IND_SEL = true ∧ getF v F.VPE_IND_SEL_target = tgt ∧ getF v F.VPE_IND_SEL_index = idx ∧ tgt = 1 ∧ idx < 2048 ∧ writerInst src = 0 ∧ ((List.range 8).flatMap fun i => leBytes 8 (ch.rd (bank (writerInst src) (R.VPE_IND_DATA i))).toNat) = z ∧ actionEntryOk (slice z 0 16) = true :=
  ⟨live, 0, _, none, (setF (setF 0 F.VPE_IND_SEL_index 2047) F.VPE_IND_SEL_target 1), 1, 2047, (List.replicate 64 0), rfl, by decide +kernel⟩

theorem witness_ItemsGroupsAndPolicies_5 : ∃ (s : State) (c : Fin 8) (ch : Chan) (src : Option (Fin 17)) (v : Word) (tgt idx : Nat) (z : List Byte) (r : Nat), s.chan c = ch ∧ s.reaches src c R.VPE_IND_SEL = true ∧ getF v F.VPE_IND_SEL_target = tgt ∧ getF v F.VPE_IND_SEL_index = idx ∧ (ch.wr (bank (writerInst src) R.VPE_IND_SEL) (mergeF (ch.rd (bank (writerInst src) R.VPE_IND_SEL)) v [F.VPE_IND_SEL_target, F.VPE_IND_SEL_index, F.VPE_IND_SEL_write])).vpeReach (writerInst src) tgt idx = 0 ∧ ((List.range 8).flatMap fun i => leBytes 8 (ch.rd (bank (writerInst src) (R.VPE_IND_DATA i))).toNat) = z ∧ ((ch.wr (bank (writerInst src) R.VPE_IND_SEL) (mergeF (ch.rd (bank (writerInst src) R.VPE_IND_SEL)) v [F.VPE_IND_SEL_target, F.VPE_IND_SEL_index, F.VPE_IND_SEL_write])).vpePut tgt idx z).1 = r ∧ r ≠ 0 :=
  ⟨live, 0, _, none, (setF 0 F.VPE_IND_SEL_index 32767), 0, 32767, (List.replicate 64 0), 1, rfl, by decide +kernel⟩

theorem witness_ItemsGroupsAndPolicies_6 : ∃ (s : State) (c : Fin 8) (ch : Chan) (src : Option (Fin 17)) (v : Word) (tgt idx : Nat) (r : Nat), s.chan c = ch ∧ s.reaches src c R.VPE_IND_SEL = true ∧ getF v F.VPE_IND_SEL_target = tgt ∧ getF v F.VPE_IND_SEL_index = idx ∧ (ch.wr (bank (writerInst src) R.VPE_IND_SEL) (mergeF (ch.rd (bank (writerInst src) R.VPE_IND_SEL)) v [F.VPE_IND_SEL_target, F.VPE_IND_SEL_index, F.VPE_IND_SEL_write])).vpeReach (writerInst src) tgt idx = r ∧ r ≠ 0 :=
  ⟨live, 0, _, none, (setF (setF 0 F.VPE_IND_SEL_index 64) F.VPE_IND_SEL_target 2), 2, 64, 2, rfl, by decide +kernel⟩

theorem witness_ItemsGroupsAndPolicies_7 : ∃ (s : State) (c : Fin 8) (ch : Chan) (src : Option (Fin 17)) (g : Fin 16) (v w : Word), s.chan c = ch ∧ s.reaches src c (R.VPE_GROUP g) = true ∧ mergeF (ch.rd (R.VPE_GROUP g)) v [F.VPE_GROUP_members, F.VPE_GROUP_share_gate, F.VPE_GROUP_share_mxe, F.VPE_GROUP_valid] = w ∧ (getF w F.VPE_GROUP_valid == 1 && (List.range 16).any fun i => (getF w F.VPE_GROUP_members).testBit i && (List.range 16).any fun h => h != g && ch.inGroup h i) = false ∧ ((List.range 4).any fun e => decide (1 < (ch.engineOwners e).length) && ch.mayShare (ch.engineOwners e) && !(ch.wr (R.VPE_GROUP g) w).mayShare (ch.engineOwners e)) = false ∧ (getF (ch.rd (R.VPE_GROUP g)) F.VPE_GROUP_valid == 1 && (((List.range 16).any fun i => (getF (ch.rd (R.VPE_GROUP g)) F.VPE_GROUP_members).testBit i && !(getF w F.VPE_GROUP_members).testBit i) || (getF (ch.rd (R.VPE_GROUP g)) F.VPE_GROUP_share_gate == 1 && getF w F.VPE_GROUP_share_gate == 0) || (getF (ch.rd (R.VPE_GROUP g)) F.VPE_GROUP_valid == 1 && getF w F.VPE_GROUP_valid == 0)) && ch.gateNames g) = false :=
  ⟨live, 0, _, none, 15, 0xFFFFFFFFFFFFFFFF, (mergeF ((live.chan 0).rd (R.VPE_GROUP 15)) 0xFFFFFFFFFFFFFFFF [F.VPE_GROUP_members, F.VPE_GROUP_share_gate, F.VPE_GROUP_share_mxe, F.VPE_GROUP_valid]), rfl, by decide +kernel⟩

theorem witness_ItemsGroupsAndPolicies_8 : ∃ (s : State) (c : Fin 8) (ch : Chan) (src : Option (Fin 17)) (g : Fin 16) (v w : Word), s.chan c = ch ∧ s.reaches src c (R.VPE_GROUP g) = true ∧ mergeF (ch.rd (R.VPE_GROUP g)) v [F.VPE_GROUP_members, F.VPE_GROUP_share_gate, F.VPE_GROUP_share_mxe, F.VPE_GROUP_valid] = w ∧ ((getF w F.VPE_GROUP_valid == 1 && (List.range 16).any fun i => (getF w F.VPE_GROUP_members).testBit i && (List.range 16).any fun h => h != g && ch.inGroup h i) = true ∨ ((List.range 4).any fun e => decide (1 < (ch.engineOwners e).length) && ch.mayShare (ch.engineOwners e) && !(ch.wr (R.VPE_GROUP g) w).mayShare (ch.engineOwners e)) = true ∨ (getF (ch.rd (R.VPE_GROUP g)) F.VPE_GROUP_valid == 1 && (((List.range 16).any fun i => (getF (ch.rd (R.VPE_GROUP g)) F.VPE_GROUP_members).testBit i && !(getF w F.VPE_GROUP_members).testBit i) || (getF (ch.rd (R.VPE_GROUP g)) F.VPE_GROUP_share_gate == 1 && getF w F.VPE_GROUP_share_gate == 0) || (getF (ch.rd (R.VPE_GROUP g)) F.VPE_GROUP_valid == 1 && getF w F.VPE_GROUP_valid == 0)) && ch.gateNames g) = true) :=
  ⟨(st fun ch => (ch.setFld (R.VPE_GROUP 3) F.VPE_GROUP_members 2).setFlag (R.VPE_GROUP 3) F.VPE_GROUP_valid true), 0, _, none, 15, 0xFFFFFFFFFFFFFFFF, (mergeF ((live.chan 0).rd (R.VPE_GROUP 15)) 0xFFFFFFFFFFFFFFFF [F.VPE_GROUP_members, F.VPE_GROUP_share_gate, F.VPE_GROUP_share_mxe, F.VPE_GROUP_valid]), rfl, by decide +kernel⟩

theorem witness_ItemsGroupsAndPolicies_9 : ∃ (s : State) (c : Fin 8) (ch : Chan) (src : Option (Fin 17)) (i : Fin 16) (v : Word), s.chan c = ch ∧ s.reaches src c (R.VPE_TPOL i) = true ∧ ch.policySlot i (getF v F.VPE_TPOL_primary_slot) = true ∧ ch.policySlot i (getF v F.VPE_TPOL_fallback_slot) = true ∧ getF v F.VPE_TPOL_default_code ≤ 5 :=
  ⟨live, 0, _, none, 15, (setF (setF (setF 0 F.VPE_TPOL_primary_slot 63) F.VPE_TPOL_fallback_slot 255) F.VPE_TPOL_default_code 5), rfl, by decide +kernel⟩

theorem witness_ItemsGroupsAndPolicies_10 : ∃ (s : State) (c : Fin 8) (ch : Chan) (src : Option (Fin 17)) (i : Fin 16) (v : Word), s.chan c = ch ∧ s.reaches src c (R.VPE_TPOL i) = true ∧ (ch.policySlot i (getF v F.VPE_TPOL_primary_slot) = false ∨ ch.policySlot i (getF v F.VPE_TPOL_fallback_slot) = false ∨ 5 < getF v F.VPE_TPOL_default_code) :=
  ⟨live, 0, _, none, 15, (setF 0 F.VPE_TPOL_default_code 6), rfl, by decide +kernel⟩

theorem witness_ShapersAndHostQueues_1 : ∃ (s : State) (c : Fin 8) (ch : Chan) (src : Option (Fin 17)) (i : Fin 16) (q : Fin 2) (v w : Word), s.chan c = ch ∧ s.reaches src c (R.VPE_SHP i q) = true ∧ mergeF (ch.rd (R.VPE_SHP i q)) v shpFields = w ∧ (getF w F.VPE_SHP_enable = 0 ∨ 256 ≤ getF w F.VPE_SHP_burst) ∧ ch.flag R.VPE_CTRL F.VPE_CTRL_xitar4_refill = false :=
  ⟨live, 0, _, none, 15, 1, 0xFFFFFFFFFFFFFFFF, (mergeF ((live.chan 0).rd (R.VPE_SHP 15 1)) 0xFFFFFFFFFFFFFFFF shpFields), rfl, by decide +kernel⟩

theorem witness_ShapersAndHostQueues_2 : ∃ (s : State) (c : Fin 8) (ch : Chan) (src : Option (Fin 17)) (i : Fin 16) (q : Fin 2) (v w : Word), s.chan c = ch ∧ s.reaches src c (R.VPE_SHP i q) = true ∧ mergeF (ch.rd (R.VPE_SHP i q)) v shpFields = w ∧ (getF w F.VPE_SHP_enable = 0 ∨ 256 ≤ getF w F.VPE_SHP_burst) ∧ ch.flag R.VPE_CTRL F.VPE_CTRL_xitar4_refill = true :=
  ⟨(st fun ch => ch.setFlag R.VPE_CTRL F.VPE_CTRL_xitar4_refill true), 0, _, none, 0, 0, 0, (mergeF ((live.chan 0).rd (R.VPE_SHP 0 0)) 0 shpFields), rfl, by decide +kernel⟩

theorem witness_ShapersAndHostQueues_3 : ∃ (s : State) (c : Fin 8) (ch : Chan) (src : Option (Fin 17)) (i : Fin 16) (q : Fin 2) (v w : Word), s.chan c = ch ∧ s.reaches src c (R.VPE_SHP i q) = true ∧ mergeF (ch.rd (R.VPE_SHP i q)) v shpFields = w ∧ getF w F.VPE_SHP_enable = 1 ∧ getF w F.VPE_SHP_burst < 256 :=
  ⟨live, 0, _, none, 0, 0, (setF (setF 0 F.VPE_SHP_enable 1) F.VPE_SHP_burst 255), (mergeF ((live.chan 0).rd (R.VPE_SHP 0 0)) (setF (setF 0 F.VPE_SHP_enable 1) F.VPE_SHP_burst 255) shpFields), rfl, by decide +kernel⟩

theorem witness_ShapersAndHostQueues_4 : ∃ (s : State) (c : Fin 8) (ch : Chan), s.chan c = ch ∧ ch.clocked = true ∧ ch.flag R.VPE_CTRL F.VPE_CTRL_xitar4_refill = true ∧ ch.flag R.VPE_CTRL F.VPE_CTRL_enable = true :=
  ⟨(st fun ch => (ch.setFlag R.VPE_CTRL F.VPE_CTRL_xitar4_refill true).setFlag R.VPE_CTRL F.VPE_CTRL_enable true), 0, _, rfl, by decide +kernel⟩

theorem witness_ShapersAndHostQueues_5 : ∃ (s : State) (c : Fin 8) (ch : Chan) (i : Fin 16) (q : Fin 2) (r : List Byte) (rest : List (List Byte)) (x k n : Nat), s.chan c = ch ∧ ch.clocked = true ∧ ch.hq i q = r :: rest ∧ ch.hostOpen i = true ∧ ch.hringRoom i q = true ∧ bank (i + 1) (R.CHN_HRING_IDX q) = x ∧ ch.fld (bank (i + 1) (R.CHN_HRING_BASE q)) F.CHN_HRING_BASE_log2_size = k ∧ ch.fld x F.CHN_HRING_IDX_prod = n ∧ ch.flag (R.VPE_SHP i q) F.VPE_SHP_enable = false :=
  ⟨(st fun ch => { ((ch.setFld (bank 1 (R.CHN_HRING_BASE 0)) F.CHN_HRING_BASE_log2_size 4).setFlag (R.CHN_TENANT 0) F.CHN_TENANT_exists true).setHq 0 0 [[1]] with host := { numVFs := 16, vfEnable := true } }), 0, _, 0, 0, [1], [], (bank 1 (R.CHN_HRING_IDX 0)), 4, 0, rfl, by decide +kernel⟩

theorem witness_ShapersAndHostQueues_6 : ∃ (s : State) (c : Fin 8) (ch : Chan) (i : Fin 16) (q : Fin 2) (r : List Byte) (rest : List (List Byte)) (x k n : Nat), s.chan c = ch ∧ ch.clocked = true ∧ ch.hq i q = r :: rest ∧ ch.hostOpen i = true ∧ ch.hringRoom i q = true ∧ bank (i + 1) (R.CHN_HRING_IDX q) = x ∧ ch.fld (bank (i + 1) (R.CHN_HRING_BASE q)) F.CHN_HRING_BASE_log2_size = k ∧ ch.fld x F.CHN_HRING_IDX_prod = n ∧ ch.flag (R.VPE_SHP i q) F.VPE_SHP_enable = true ∧ r.length * 65536 ≤ ch.shpTokens i q :=
  ⟨(st fun ch => { ((((((ch.setFld (bank 1 (R.CHN_HRING_BASE 0)) F.CHN_HRING_BASE_log2_size 4).setFlag (R.CHN_TENANT 0) F.CHN_TENANT_exists true).setFlag (R.VPE_SHP 0 0) F.VPE_SHP_enable true).setFlag R.VPE_CTRL F.VPE_CTRL_enable true).setFld (R.VPE_SHP 0 0) F.VPE_SHP_burst 256).setShaper 0 0 { tokens := 65536 }).setHq 0 0 [[1]] with host := { numVFs := 16, vfEnable := true } }), 0, _, 0, 0, [1], [], (bank 1 (R.CHN_HRING_IDX 0)), 4, 0, rfl, by decide +kernel⟩

theorem witness_ShapersAndHostQueues_7 : ∃ (s : State) (c : Fin 8) (ch : Chan) (i : Fin 16) (q : Fin 2), s.chan c = ch ∧ ch.clocked = true ∧ (ch.hq i q = [] ∨ ch.hostOpen i = false ∨ ch.hringRoom i q = false ∨ (ch.flag (R.VPE_SHP i q) F.VPE_SHP_enable = true ∧ ch.shpTokens i q < ((ch.hq i q).headD []).length * 65536)) :=
  ⟨live, 0, _, 15, 1, rfl, by decide +kernel⟩

theorem witness_ShapersAndHostQueues_8 : ∃ (s : State) (c : Fin 8) (ch : Chan), s.chan c = ch ∧ ch.clocked = true ∧ (ch.flag R.VPE_CTRL F.VPE_CTRL_xitar4_refill = false ∨ ch.flag R.VPE_CTRL F.VPE_CTRL_enable = false) :=
  ⟨live, 0, _, rfl, by decide +kernel⟩

theorem witness_TierAnswers_1 : ∃ (s : State) (c : Fin 8) (ch : Chan) (tier : Fin 4) (addr : BitVec 48) (len : BitVec 32) (who : TierUser), s.chan c = ch ∧ ch.clocked = true ∧ addr.toNat + len.toNat ≤ ch.tierSize tier ∧ (tier ≠ 3 ∨ ch.t3Up = true) :=
  ⟨(st fun ch => ch.setFld R.MEM_STATUS F.MEM_STATUS_t3_link 2), 0, _, 3, 0x1FFFFFFFC0, 64, .other, rfl, by decide +kernel⟩

theorem witness_TierAnswers_2 : ∃ (s : State) (c : Fin 8) (ch : Chan) (tier : Fin 4) (addr : BitVec 48) (len : BitVec 32) (who : TierUser) (k : Nat), s.chan c = ch ∧ ch.clocked = true ∧ addr.toNat + len.toNat ≤ ch.tierSize tier ∧ corrCounter tier = some k :=
  ⟨live, 0, _, 2, 0, 64, .other, R.MEM_CNT_T2_CORR, rfl, by decide +kernel⟩

theorem witness_TierAnswers_3 : ∃ (s : State) (c : Fin 8) (ch : Chan) (tier : Fin 4) (addr : BitVec 48) (len : BitVec 32) (who : TierUser) (st : ReadStatus), s.chan c = ch ∧ ch.clocked = true ∧ addr.toNat + len.toNat ≤ ch.tierSize tier ∧ (st = .uncorrectable ∨ (tier = 3 ∧ ch.t3Up = false)) :=
  ⟨live, 0, _, 1, 512, 64, .other, .uncorrectable, rfl, by decide +kernel⟩

theorem witness_TierAnswers_4 : ∃ (s : State) (c : Fin 8) (ch : Chan) (tier : Fin 4) (addr : BitVec 48) (len : BitVec 32) (who : TierUser), s.chan c = ch ∧ ch.clocked = true ∧ addr.toNat + len.toNat ≤ ch.tierSize tier ∧ (ch.watch tier addr.toNat len.toNat false) = ch ∧ (who = .other ∨ who = .entity) :=
  ⟨live, 0, _, 2, 512, 64, .entity, rfl, by decide +kernel, by decide +kernel, rfl, by decide +kernel⟩

theorem witness_TierAnswers_5 : ∃ (s : State) (c : Fin 8) (ch : Chan) (tier : Fin 4) (addr : BitVec 48) (len : BitVec 32) (who : TierUser) (st : ReadStatus), s.chan c = ch ∧ ch.clocked = true ∧ ch.tierSize tier < addr.toNat + len.toNat ∧ (∀ i q n, who ≠ .dma i q n) :=
  ⟨live, 0, _, 3, 0x1FFFFFFFC1, 64, .other, .ok, rfl, by decide +kernel, by decide +kernel, by intro _ _ _ h; cases h⟩

theorem witness_TierAnswers_6 : ∃ (s : State) (c : Fin 8) (ch : Chan) (tier : Fin 4) (addr : BitVec 48) (len : BitVec 32) (i : Fin 17) (q : Fin 4) (n : BitVec 16) (st : ReadStatus) (r : DmaRun), s.chan c = ch ∧ ch.clocked = true ∧ ch.tierSize tier < addr.toNat + len.toNat ∧ ch.dmaFind i q n.toNat = some r :=
  ⟨(st fun ch => { ch with host := { dma := [{ inst := 0, q := 0, index := 7, cmd := { op := 1, flags := 0, tier := 1, len := 64, host := 0, dev := 0, tag := 0 }, at_ := 0 }] } }), 0, _, 1, 0x1000000000, 64, 0, 0, 7, .ok, ({ inst := 0, q := 0, index := 7, cmd := { op := 1, flags := 0, tier := 1, len := 64, host := 0, dev := 0, tag := 0 }, at_ := 0 }), rfl, by decide +kernel⟩

theorem witness_TierAnswers_7 : ∃ (s : State) (c : Fin 8) (ch : Chan) (tier : Fin 4) (addr : BitVec 48) (who : TierUser), s.chan c = ch ∧ ch.clocked = true :=
  ⟨live, 0, _, 3, 0, .staging, rfl, by decide +kernel⟩

theorem witness_TierAnswers_8 : ∃ (s : State) (c : Fin 8) (ch : Chan) (tier : Fin 4) (addr : BitVec 48) (who : TierUser), s.chan c = ch ∧ ch.clocked = true :=
  ⟨live, 0, _, 3, 0, .staging, rfl, by decide +kernel⟩

theorem witness_TierAnswers_9 : ∃ (s : State) (c : Fin 8) (ch : Chan) (rs : ReadStatus), s.chan c = ch ∧ ch.clocked = true ∧ ch.t2State = 0 ∧ ch.since ch.mem.patrolAt patrolG = true :=
  ⟨(st fun ch => { ch.setFld R.MEM_STATUS F.MEM_STATUS_t2_state 0 with mem := { patrol := 549755813824 } }), 0, _, .corrected, rfl, by decide +kernel⟩

theorem witness_RegionsAndTenantErase_1 : ∃ (s : State) (c : Fin 8) (ch : Chan) (src : Option (Fin 17)) (i : Fin 64) (v : Word) (old new : Region), s.chan c = ch ∧ s.reaches src c (R.MEM_REGION_A i) = true ∧ ch.region i = old ∧ regionOf (mergeF (ch.rd (R.MEM_REGION_A i)) v regionAFields) (ch.rd (R.MEM_REGION_B i)) = new ∧ new.owner ≤ 16 ∧ old.valid = false ∧ new.valid = true ∧ ch.entryFits i new = true :=
  ⟨(st fun ch => ch.wr (R.MEM_REGION_B 63) (setF 0 F.MEM_REGION_B_size 1)), 0, _, none, 63, (setF (setF 0 F.MEM_REGION_A_valid 1) F.MEM_REGION_A_tier 1), ((st fun ch => ch.wr (R.MEM_REGION_B 63) (setF 0 F.MEM_REGION_B_size 1)).chan 0).region 63, (regionOf (mergeF (((st fun ch => ch.wr (R.MEM_REGION_B 63) (setF 0 F.MEM_REGION_B_size 1)).chan 0).rd (R.MEM_REGION_A 63)) (setF (setF 0 F.MEM_REGION_A_valid 1) F.MEM_REGION_A_tier 1) regionAFields) (((st fun ch => ch.wr (R.MEM_REGION_B 63) (setF 0 F.MEM_REGION_B_size 1)).chan 0).rd (R.MEM_REGION_B 63))), rfl, by decide +kernel⟩

theorem witness_RegionsAndTenantErase_2 : ∃ (s : State) (c : Fin 8) (ch : Chan) (src : Option (Fin 17)) (i : Fin 64) (v : Word) (old new : Region), s.chan c = ch ∧ s.reaches src c (R.MEM_REGION_A i) = true ∧ ch.region i = old ∧ regionOf (mergeF (ch.rd (R.MEM_REGION_A i)) v regionAFields) (ch.rd (R.MEM_REGION_B i)) = new ∧ new.owner ≤ 16 ∧ old.valid = false ∧ new.valid = true ∧ ch.entryFits i new = false :=
  ⟨live, 0, _, none, 63, (setF (setF 0 F.MEM_REGION_A_valid 1) F.MEM_REGION_A_tier 1), ((live).chan 0).region 63, (regionOf (mergeF (((live).chan 0).rd (R.MEM_REGION_A 63)) (setF (setF 0 F.MEM_REGION_A_valid 1) F.MEM_REGION_A_tier 1) regionAFields) (((live).chan 0).rd (R.MEM_REGION_B 63))), rfl, by decide +kernel⟩

theorem witness_RegionsAndTenantErase_3 : ∃ (s : State) (c : Fin 8) (ch : Chan) (src : Option (Fin 17)) (i : Fin 64) (v : Word) (old new : Region), s.chan c = ch ∧ s.reaches src c (R.MEM_REGION_A i) = true ∧ ch.region i = old ∧ regionOf (mergeF (ch.rd (R.MEM_REGION_A i)) v regionAFields) (ch.rd (R.MEM_REGION_B i)) = new ∧ new.owner ≤ 16 ∧ old.valid = false ∧ new.valid = false :=
  ⟨live, 0, _, (some 0), 63, 0x2000, ((live).chan 0).region 63, (regionOf (mergeF (((live).chan 0).rd (R.MEM_REGION_A 63)) (0x2000) regionAFields) (((live).chan 0).rd (R.MEM_REGION_B 63))), rfl, by decide +kernel⟩

theorem witness_RegionsAndTenantErase_4 : ∃ (s : State) (c : Fin 8) (ch : Chan) (src : Option (Fin 17)) (i : Fin 64) (v : Word) (old new : Region), s.chan c = ch ∧ s.reaches src c (R.MEM_REGION_B i) = true ∧ ch.region i = old ∧ regionOf (ch.rd (R.MEM_REGION_A i)) (mergeF (ch.rd (R.MEM_REGION_B i)) v regionBFields) = new ∧ new.owner ≤ 16 ∧ old.valid = false :=
  ⟨live, 0, _, none, 63, 0xFFFFFFFFFFFFFFFF, ((live).chan 0).region 63, (regionOf (((live).chan 0).rd (R.MEM_REGION_A 63)) (mergeF (((live).chan 0).rd (R.MEM_REGION_B 63)) (0xFFFFFFFFFFFFFFFF) regionBFields)), rfl, by decide +kernel⟩

theorem witness_RegionsAndTenantErase_5 : ∃ (s : State) (c : Fin 8) (ch : Chan) (src : Option (Fin 17)) (i : Fin 64) (v : Word) (old new : Region), s.chan c = ch ∧ s.reaches src c (R.MEM_REGION_A i) = true ∧ ch.region i = old ∧ regionOf (mergeF (ch.rd (R.MEM_REGION_A i)) v regionAFields) (ch.rd (R.MEM_REGION_B i)) = new ∧ 16 < new.owner :=
  ⟨live, 0, _, none, 63, (setF 0 F.MEM_REGION_A_owner 17), ((live).chan 0).region 63, (regionOf (mergeF (((live).chan 0).rd (R.MEM_REGION_A 63)) (setF 0 F.MEM_REGION_A_owner 17) regionAFields) (((live).chan 0).rd (R.MEM_REGION_B 63))), rfl, by decide +kernel⟩

theorem witness_RegionsAndTenantErase_6 : ∃ (s : State) (c : Fin 8) (ch : Chan) (src : Option (Fin 17)) (i : Fin 64) (v : Word) (old new : Region), s.chan c = ch ∧ s.reaches src c (R.MEM_REGION_A i) = true ∧ ch.region i = old ∧ regionOf (mergeF (ch.rd (R.MEM_REGION_A i)) v regionAFields) (ch.rd (R.MEM_REGION_B i)) = new ∧ new.owner ≤ 16 ∧ old.valid = true ∧ (old.tier ≠ new.tier ∨ old.owner ≠ new.owner) :=
  ⟨(st fun ch => (ch.wr (R.MEM_REGION_B 63) (setF 0 F.MEM_REGION_B_size 1)).wr (R.MEM_REGION_A 63) (setF (setF 0 F.MEM_REGION_A_valid 1) F.MEM_REGION_A_tier 1)), 0, _, none, 63, 1, ((st fun ch => (ch.wr (R.MEM_REGION_B 63) (setF 0 F.MEM_REGION_B_size 1)).wr (R.MEM_REGION_A 63) (setF (setF 0 F.MEM_REGION_A_valid 1) F.MEM_REGION_A_tier 1)).chan 0).region 63, (regionOf (mergeF (((st fun ch => (ch.wr (R.MEM_REGION_B 63) (setF 0 F.MEM_REGION_B_size 1)).wr (R.MEM_REGION_A 63) (setF (setF 0 F.MEM_REGION_A_valid 1) F.MEM_REGION_A_tier 1)).chan 0).rd (R.MEM_REGION_A 63)) (1) regionAFields) (((st fun ch => (ch.wr (R.MEM_REGION_B 63) (setF 0 F.MEM_REGION_B_size 1)).wr (R.MEM_REGION_A 63) (setF (setF 0 F.MEM_REGION_A_valid 1) F.MEM_REGION_A_tier 1)).chan 0).rd (R.MEM_REGION_B 63))), rfl, by decide +kernel⟩

theorem witness_RegionsAndTenantErase_7 : ∃ (s : State) (c : Fin 8) (ch : Chan) (src : Option (Fin 17)) (i : Fin 64) (v : Word) (old new : Region), s.chan c = ch ∧ s.reaches src c (R.MEM_REGION_B i) = true ∧ ch.region i = old ∧ regionOf (ch.rd (R.MEM_REGION_A i)) (mergeF (ch.rd (R.MEM_REGION_B i)) v regionBFields) = new ∧ new.owner ≤ 16 ∧ old.valid = true ∧ (old.base ≠ new.base ∨ old.len ≠ new.len) :=
  ⟨(st fun ch => (ch.wr (R.MEM_REGION_B 63) (setF 0 F.MEM_REGION_B_size 1)).wr (R.MEM_REGION_A 63) (setF (setF 0 F.MEM_REGION_A_valid 1) F.MEM_REGION_A_tier 1)), 0, _, none, 63, 0, ((st fun ch => (ch.wr (R.MEM_REGION_B 63) (setF 0 F.MEM_REGION_B_size 1)).wr (R.MEM_REGION_A 63) (setF (setF 0 F.MEM_REGION_A_valid 1) F.MEM_REGION_A_tier 1)).chan 0).region 63, (regionOf (((st fun ch => (ch.wr (R.MEM_REGION_B 63) (setF 0 F.MEM_REGION_B_size 1)).wr (R.MEM_REGION_A 63) (setF (setF 0 F.MEM_REGION_A_valid 1) F.MEM_REGION_A_tier 1)).chan 0).rd (R.MEM_REGION_A 63)) (mergeF (((st fun ch => (ch.wr (R.MEM_REGION_B 63) (setF 0 F.MEM_REGION_B_size 1)).wr (R.MEM_REGION_A 63) (setF (setF 0 F.MEM_REGION_A_valid 1) F.MEM_REGION_A_tier 1)).chan 0).rd (R.MEM_REGION_B 63)) (0) regionBFields)), rfl, by decide +kernel⟩

theorem witness_RegionsAndTenantErase_8 : ∃ (s : State) (c : Fin 8) (ch : Chan) (src : Option (Fin 17)) (i : Fin 64) (v : Word) (old new : Region), s.chan c = ch ∧ s.reaches src c (R.MEM_REGION_A i) = true ∧ ch.region i = old ∧ regionOf (mergeF (ch.rd (R.MEM_REGION_A i)) v regionAFields) (ch.rd (R.MEM_REGION_B i)) = new ∧ new.owner ≤ 16 ∧ old.valid = true ∧ old.tier = new.tier ∧ old.owner = new.owner ∧ new.valid = false ∧ ch.confines i = false :=
  ⟨(st fun ch => (ch.wr (R.MEM_REGION_B 63) (setF 0 F.MEM_REGION_B_size 1)).wr (R.MEM_REGION_A 63) (setF (setF 0 F.MEM_REGION_A_valid 1) F.MEM_REGION_A_tier 1)), 0, _, none, 63, (setF 0 F.MEM_REGION_A_tier 1), ((st fun ch => (ch.wr (R.MEM_REGION_B 63) (setF 0 F.MEM_REGION_B_size 1)).wr (R.MEM_REGION_A 63) (setF (setF 0 F.MEM_REGION_A_valid 1) F.MEM_REGION_A_tier 1)).chan 0).region 63, (regionOf (mergeF (((st fun ch => (ch.wr (R.MEM_REGION_B 63) (setF 0 F.MEM_REGION_B_size 1)).wr (R.MEM_REGION_A 63) (setF (setF 0 F.MEM_REGION_A_valid 1) F.MEM_REGION_A_tier 1)).chan 0).rd (R.MEM_REGION_A 63)) (setF 0 F.MEM_REGION_A_tier 1) regionAFields) (((st fun ch => (ch.wr (R.MEM_REGION_B 63) (setF 0 F.MEM_REGION_B_size 1)).wr (R.MEM_REGION_A 63) (setF (setF 0 F.MEM_REGION_A_valid 1) F.MEM_REGION_A_tier 1)).chan 0).rd (R.MEM_REGION_B 63))), rfl, by decide +kernel⟩

theorem witness_RegionsAndTenantErase_9 : ∃ (s : State) (c : Fin 8) (ch : Chan) (src : Option (Fin 17)) (i : Fin 64) (v : Word) (old new : Region), s.chan c = ch ∧ s.reaches src c (R.MEM_REGION_B i) = true ∧ ch.region i = old ∧ regionOf (ch.rd (R.MEM_REGION_A i)) (mergeF (ch.rd (R.MEM_REGION_B i)) v regionBFields) = new ∧ new.owner ≤ 16 ∧ old.valid = true ∧ old.base = new.base ∧ old.len = new.len ∧ ((old.moveTo = new.moveTo ∧ old.move = new.move) ∨ ch.t2State ≠ 1) :=
  ⟨(st fun ch => (ch.wr (R.MEM_REGION_B 63) (setF 0 F.MEM_REGION_B_size 1)).wr (R.MEM_REGION_A 63) (setF (setF 0 F.MEM_REGION_A_valid 1) F.MEM_REGION_A_tier 1)), 0, _, none, 63, (setF (setF 0 F.MEM_REGION_B_size 1) F.MEM_REGION_B_move_valid 1), ((st fun ch => (ch.wr (R.MEM_REGION_B 63) (setF 0 F.MEM_REGION_B_size 1)).wr (R.MEM_REGION_A 63) (setF (setF 0 F.MEM_REGION_A_valid 1) F.MEM_REGION_A_tier 1)).chan 0).region 63, (regionOf (((st fun ch => (ch.wr (R.MEM_REGION_B 63) (setF 0 F.MEM_REGION_B_size 1)).wr (R.MEM_REGION_A 63) (setF (setF 0 F.MEM_REGION_A_valid 1) F.MEM_REGION_A_tier 1)).chan 0).rd (R.MEM_REGION_A 63)) (mergeF (((st fun ch => (ch.wr (R.MEM_REGION_B 63) (setF 0 F.MEM_REGION_B_size 1)).wr (R.MEM_REGION_A 63) (setF (setF 0 F.MEM_REGION_A_valid 1) F.MEM_REGION_A_tier 1)).chan 0).rd (R.MEM_REGION_B 63)) (setF (setF 0 F.MEM_REGION_B_size 1) F.MEM_REGION_B_move_valid 1) regionBFields)), rfl, by decide +kernel⟩

theorem witness_RegionsAndTenantErase_10 : ∃ (s : State) (c : Fin 8) (ch : Chan) (src : Option (Fin 17)) (i : Fin 64) (v : Word) (old new : Region), s.chan c = ch ∧ s.reaches src c (R.MEM_REGION_B i) = true ∧ ch.region i = old ∧ regionOf (ch.rd (R.MEM_REGION_A i)) (mergeF (ch.rd (R.MEM_REGION_B i)) v regionBFields) = new ∧ new.owner ≤ 16 ∧ old.valid = true ∧ (old.moveTo ≠ new.moveTo ∨ old.move ≠ new.move) ∧ ch.t2State = 1 :=
  ⟨(st fun ch => ((ch.wr (R.MEM_REGION_B 63) (setF 0 F.MEM_REGION_B_size 1)).wr (R.MEM_REGION_A 63) (setF (setF 0 F.MEM_REGION_A_valid 1) F.MEM_REGION_A_tier 1)).setFld R.MEM_STATUS F.MEM_STATUS_t2_state 1), 0, _, none, 63, (setF (setF 0 F.MEM_REGION_B_size 1) F.MEM_REGION_B_move_valid 1), ((st fun ch => ((ch.wr (R.MEM_REGION_B 63) (setF 0 F.MEM_REGION_B_size 1)).wr (R.MEM_REGION_A 63) (setF (setF 0 F.MEM_REGION_A_valid 1) F.MEM_REGION_A_tier 1)).setFld R.MEM_STATUS F.MEM_STATUS_t2_state 1).chan 0).region 63, (regionOf (((st fun ch => ((ch.wr (R.MEM_REGION_B 63) (setF 0 F.MEM_REGION_B_size 1)).wr (R.MEM_REGION_A 63) (setF (setF 0 F.MEM_REGION_A_valid 1) F.MEM_REGION_A_tier 1)).setFld R.MEM_STATUS F.MEM_STATUS_t2_state 1).chan 0).rd (R.MEM_REGION_A 63)) (mergeF (((st fun ch => ((ch.wr (R.MEM_REGION_B 63) (setF 0 F.MEM_REGION_B_size 1)).wr (R.MEM_REGION_A 63) (setF (setF 0 F.MEM_REGION_A_valid 1) F.MEM_REGION_A_tier 1)).setFld R.MEM_STATUS F.MEM_STATUS_t2_state 1).chan 0).rd (R.MEM_REGION_B 63)) (setF (setF 0 F.MEM_REGION_B_size 1) F.MEM_REGION_B_move_valid 1) regionBFields)), rfl, by decide +kernel⟩

theorem witness_RegionsAndTenantErase_11 : ∃ (s : State) (c : Fin 8) (ch : Chan) (src : Option (Fin 17)) (i : Fin 64) (v : Word) (old new : Region), s.chan c = ch ∧ s.reaches src c (R.MEM_REGION_A i) = true ∧ ch.region i = old ∧ regionOf (mergeF (ch.rd (R.MEM_REGION_A i)) v regionAFields) (ch.rd (R.MEM_REGION_B i)) = new ∧ new.owner ≤ 16 ∧ old.valid = true ∧ old.tier = new.tier ∧ old.owner = new.owner ∧ new.valid = true :=
  ⟨(st fun ch => (ch.wr (R.MEM_REGION_B 63) (setF 0 F.MEM_REGION_B_size 1)).wr (R.MEM_REGION_A 63) (setF (setF 0 F.MEM_REGION_A_valid 1) F.MEM_REGION_A_tier 1)), 0, _, none, 63, (setF (setF 0 F.MEM_REGION_A_valid 1) F.MEM_REGION_A_tier 1), ((st fun ch => (ch.wr (R.MEM_REGION_B 63) (setF 0 F.MEM_REGION_B_size 1)).wr (R.MEM_REGION_A 63) (setF (setF 0 F.MEM_REGION_A_valid 1) F.MEM_REGION_A_tier 1)).chan 0).region 63, (regionOf (mergeF (((st fun ch => (ch.wr (R.MEM_REGION_B 63) (setF 0 F.MEM_REGION_B_size 1)).wr (R.MEM_REGION_A 63) (setF (setF 0 F.MEM_REGION_A_valid 1) F.MEM_REGION_A_tier 1)).chan 0).rd (R.MEM_REGION_A 63)) (setF (setF 0 F.MEM_REGION_A_valid 1) F.MEM_REGION_A_tier 1) regionAFields) (((st fun ch => (ch.wr (R.MEM_REGION_B 63) (setF 0 F.MEM_REGION_B_size 1)).wr (R.MEM_REGION_A 63) (setF (setF 0 F.MEM_REGION_A_valid 1) F.MEM_REGION_A_tier 1)).chan 0).rd (R.MEM_REGION_B 63))), rfl, by decide +kernel⟩

theorem witness_RegionsAndTenantErase_12 : ∃ (s : State) (c : Fin 8) (ch : Chan) (src : Option (Fin 17)) (i : Fin 64) (v : Word) (old new : Region), s.chan c = ch ∧ s.reaches src c (R.MEM_REGION_A i) = true ∧ ch.region i = old ∧ regionOf (mergeF (ch.rd (R.MEM_REGION_A i)) v regionAFields) (ch.rd (R.MEM_REGION_B i)) = new ∧ new.owner ≤ 16 ∧ old.valid = true ∧ old.tier = new.tier ∧ old.owner = new.owner ∧ new.valid = false ∧ ch.confines i = true :=
  ⟨(st fun ch => let a : Chan := (ch.wr (R.MEM_REGION_B 63) (setF 0 F.MEM_REGION_B_size 1)).wr (R.MEM_REGION_A 63) (setF (setF 0 F.MEM_REGION_A_valid 1) F.MEM_REGION_A_tier 1); { a with models := { a.models with staging := some { slot := 0, side := 1, src := 0, tier := 1, back := 0, banks := 0, at_ := 0 } } }), 0, _, none, 63, (setF 0 F.MEM_REGION_A_tier 1), ((st fun ch => let a : Chan := (ch.wr (R.MEM_REGION_B 63) (setF 0 F.MEM_REGION_B_size 1)).wr (R.MEM_REGION_A 63) (setF (setF 0 F.MEM_REGION_A_valid 1) F.MEM_REGION_A_tier 1); { a with models := { a.models with staging := some { slot := 0, side := 1, src := 0, tier := 1, back := 0, banks := 0, at_ := 0 } } }).chan 0).region 63, (regionOf (mergeF (((st fun ch => let a : Chan := (ch.wr (R.MEM_REGION_B 63) (setF 0 F.MEM_REGION_B_size 1)).wr (R.MEM_REGION_A 63) (setF (setF 0 F.MEM_REGION_A_valid 1) F.MEM_REGION_A_tier 1); { a with models := { a.models with staging := some { slot := 0, side := 1, src := 0, tier := 1, back := 0, banks := 0, at_ := 0 } } }).chan 0).rd (R.MEM_REGION_A 63)) (setF 0 F.MEM_REGION_A_tier 1) regionAFields) (((st fun ch => let a : Chan := (ch.wr (R.MEM_REGION_B 63) (setF 0 F.MEM_REGION_B_size 1)).wr (R.MEM_REGION_A 63) (setF (setF 0 F.MEM_REGION_A_valid 1) F.MEM_REGION_A_tier 1); { a with models := { a.models with staging := some { slot := 0, side := 1, src := 0, tier := 1, back := 0, banks := 0, at_ := 0 } } }).chan 0).rd (R.MEM_REGION_B 63))), rfl, by decide +kernel⟩

theorem witness_RegionsAndTenantErase_13 : ∃ (s : State) (c : Fin 8) (ch : Chan) (src : Option (Fin 17)) (v : Word), s.chan c = ch ∧ s.reaches src c R.MEM_KEY_CMD = true ∧ (ch.mem.erase ≠ none ∨ getF v F.MEM_KEY_CMD_erase = 0) :=
  ⟨live, 0, _, none, (setF 0 F.MEM_KEY_CMD_tenant 7), rfl, by decide +kernel⟩

theorem witness_RegionsAndTenantErase_14 : ∃ (s : State) (c : Fin 8) (ch : Chan) (i : Fin 64) (f : Fill), s.chan c = ch ∧ ch.clocked = true ∧ ch.mem.fills = [f] ∧ f.entry = i.val ∧ (f.tier = 0 ∨ f.tier = 1) :=
  ⟨(st fun ch => { ch with mem := { fills := [{ entry := 63, tier := 1, base := 4096, len := 4096 }], t1 := [(4095, 1), (4096, 2), (8191, 3), (8192, 4)] } }), 0, _, 63, ({ entry := 63, tier := 1, base := 4096, len := 4096 }), rfl, by decide +kernel⟩

theorem witness_RegionsAndTenantErase_15 : ∃ (s : State) (c : Fin 8) (ch : Chan) (src : Option (Fin 17)) (v : Word) (i : Nat), s.chan c = ch ∧ s.reaches src c R.MEM_KEY_CMD = true ∧ getF v F.MEM_KEY_CMD_tenant = i ∧ ch.mem.erase = none ∧ getF v F.MEM_KEY_CMD_erase = 1 ∧ ch.eraseRefused i = false ∧ ch.safeServe = false :=
  ⟨(st fun ch => ((ch.wr (R.MEM_REGION_B 63) (setF 0 F.MEM_REGION_B_size 1)).wr (R.MEM_REGION_A 63) (setF (setF 0 F.MEM_REGION_A_valid 1) F.MEM_REGION_A_tier 1)).setFld (R.FLW_REGION_A 0) F.FLW_REGION_A_log2_buckets 12), 0, _, none, (setF 0 F.MEM_KEY_CMD_erase 1), 0, rfl, by decide +kernel⟩

theorem witness_RegionsAndTenantErase_16 : ∃ (s : State) (c : Fin 8) (ch : Chan) (src : Option (Fin 17)) (v : Word) (i : Nat), s.chan c = ch ∧ s.reaches src c R.MEM_KEY_CMD = true ∧ getF v F.MEM_KEY_CMD_tenant = i ∧ ch.mem.erase = none ∧ getF v F.MEM_KEY_CMD_erase = 1 ∧ (ch.eraseRefused i = true ∨ ch.safeServe = true) :=
  ⟨(st fun ch => ch.setServing 0 1), 0, _, none, (setF 0 F.MEM_KEY_CMD_erase 1), 0, rfl, by decide +kernel⟩

theorem witness_RegionsAndTenantErase_17 : ∃ (s : State) (c : Fin 8) (ch : Chan) (i b n : Nat), s.chan c = ch ∧ ch.clocked = true ∧ ch.mem.erase = some (i, b, n) ∧ (ch.host.dma.any fun d => d.inst == i + 1) = false :=
  ⟨(st fun ch => { ((ch.wr (R.MEM_REGION_B 3) (setF 0 F.MEM_REGION_B_size 1)).wr (R.MEM_REGION_A 3) (setF (setF 0 F.MEM_REGION_A_valid 1) F.MEM_REGION_A_tier 1)) with mem := { erase := some (0, 0, 4096), t1 := [(0, 1), (4096, 1)] } }), 0, _, 0, 0, 4096, rfl, by decide +kernel⟩

theorem witness_TierTwoAndThree_1 : ∃ (s : State) (c : Fin 8) (ch : Chan) (src : Option (Fin 17)), s.chan c = ch ∧ s.reaches src c R.MEM_T2_CTRL = true ∧ ch.t2State = 0 :=
  ⟨(st fun ch => ch.setFld R.MEM_STATUS F.MEM_STATUS_t2_state 0), 0, _, none, rfl, by decide +kernel⟩

theorem witness_TierTwoAndThree_2 : ∃ (s : State) (c : Fin 8) (ch : Chan) (src : Option (Fin 17)), s.chan c = ch ∧ s.reaches src c R.MEM_T2_CTRL = true ∧ ch.t2State ≠ 0 :=
  ⟨(st fun ch => ch.setFld R.MEM_STATUS F.MEM_STATUS_t2_state 5), 0, _, none, rfl, by decide +kernel⟩

theorem witness_TierTwoAndThree_3 : ∃ (s : State) (c : Fin 8) (ch : Chan), s.chan c = ch ∧ ch.clocked = true ∧ ch.t2State = 1 :=
  ⟨(st fun ch => ch.setFld R.MEM_STATUS F.MEM_STATUS_t2_state 1), 0, _, rfl, by decide +kernel⟩

theorem witness_TierTwoAndThree_4 : ∃ (s : State) (c : Fin 8) (ch : Chan) (src : Option (Fin 17)) (v w : Word), s.chan c = ch ∧ s.reaches src c R.MEM_T2_CTRL = true ∧ (ch.t2State = 2 ∨ ch.t2State = 5) ∧ mergeF (ch.rd R.MEM_T2_CTRL) v [F.MEM_T2_CTRL_dimm0_power, F.MEM_T2_CTRL_dimm1_power] = w ∧ getF w F.MEM_T2_CTRL_dimm0_power = 0 ∧ getF w F.MEM_T2_CTRL_dimm1_power = 0 :=
  ⟨(st fun ch => ch.setFld R.MEM_STATUS F.MEM_STATUS_t2_state 2), 0, _, none, 0, (mergeF ((live.chan 0).rd R.MEM_T2_CTRL) 0 [F.MEM_T2_CTRL_dimm0_power, F.MEM_T2_CTRL_dimm1_power]), rfl, by decide +kernel⟩

theorem witness_TierTwoAndThree_5 : ∃ (s : State) (c : Fin 8) (ch : Chan) (src : Option (Fin 17)) (v w : Word), s.chan c = ch ∧ s.reaches src c R.MEM_T2_CTRL = true ∧ (ch.t2State = 2 ∨ ch.t2State = 3 ∨ ch.t2State = 5) ∧ mergeF (ch.rd R.MEM_T2_CTRL) v [F.MEM_T2_CTRL_dimm0_power, F.MEM_T2_CTRL_dimm1_power] = w ∧ (getF w F.MEM_T2_CTRL_dimm0_power = 1 ∨ getF w F.MEM_T2_CTRL_dimm1_power = 1) :=
  ⟨(st fun ch => ch.setFld R.MEM_STATUS F.MEM_STATUS_t2_state 3), 0, _, none, 0xF, (mergeF ((live.chan 0).rd R.MEM_T2_CTRL) 0xF [F.MEM_T2_CTRL_dimm0_power, F.MEM_T2_CTRL_dimm1_power]), rfl, by decide +kernel⟩

theorem witness_TierTwoAndThree_6 : ∃ (s : State) (c : Fin 8) (ch : Chan) (src : Option (Fin 17)) (v : Word), s.chan c = ch ∧ s.reaches src c R.MEM_T2_CTRL = true ∧ (ch.t2State = 0 ∨ ch.t2State = 1 ∨ ch.t2State = 4) :=
  ⟨(st fun ch => ch.setFld R.MEM_STATUS F.MEM_STATUS_t2_state 4), 0, _, none, 0, rfl, by decide +kernel⟩

theorem witness_TierTwoAndThree_7 : ∃ (s : State) (c : Fin 8) (ch : Chan) (src : Option (Fin 17)), s.chan c = ch ∧ s.reaches src c R.MEM_T2_CTRL = true ∧ (ch.t2State = 2 ∨ (ch.t2State = 3 ∧ ch.flag R.MEM_T2_CTRL F.MEM_T2_CTRL_dimm0_power = true ∧ ch.flag R.MEM_T2_CTRL F.MEM_T2_CTRL_dimm1_power = true)) :=
  ⟨(st fun ch => ch.setFld R.MEM_STATUS F.MEM_STATUS_t2_state 2), 0, _, none, rfl, by decide +kernel⟩

theorem witness_TierTwoAndThree_8 : ∃ (s : State) (c : Fin 8) (ch : Chan), s.chan c = ch ∧ ch.isOn = true ∧ ch.boot.quarantined = false ∧ ch.t2State = 4 :=
  ⟨(st fun ch => ch.setFld R.MEM_STATUS F.MEM_STATUS_t2_state 4), 0, _, rfl, by decide +kernel⟩

theorem witness_TierTwoAndThree_9 : ∃ (s : State) (c : Fin 8) (ch : Chan), s.chan c = ch ∧ ch.isOn = true ∧ ch.boot.quarantined = false ∧ ch.t2State = 4 :=
  ⟨(st fun ch => ch.setFld R.MEM_STATUS F.MEM_STATUS_t2_state 4), 0, _, rfl, by decide +kernel⟩

theorem witness_TierTwoAndThree_10 : ∃ (s : State) (c : Fin 8) (ch : Chan) (b : Bool), s.chan c = ch ∧ ch.isOn = true ∧ ch.t2State = 0 ∧ (b = true ∨ 64 < (ch.mem.t2Bad.filter fun t => decide (ch.now < t + 1000 * msG)).length) :=
  ⟨(st fun ch => { (ch.setFld R.MEM_STATUS F.MEM_STATUS_t2_state 0) with mem := { t2Bad := List.replicate 65 ch.now } }), 0, _, false, rfl, by decide +kernel⟩

theorem witness_TierTwoAndThree_11 : ∃ (s : State) (c : Fin 8) (ch : Chan), s.chan c = ch ∧ ch.isOn = true ∧ ch.fld R.MEM_STATUS F.MEM_STATUS_t3_link = 2 :=
  ⟨(st fun ch => ch.setFld R.MEM_STATUS F.MEM_STATUS_t3_link 2), 0, _, rfl, by decide +kernel⟩

theorem witness_TierTwoAndThree_12 : ∃ (s : State) (c : Fin 8) (ch : Chan) (gib : BitVec 16), s.chan c = ch ∧ ch.isOn = true ∧ ch.boot.quarantined = false ∧ ch.fld R.MEM_STATUS F.MEM_STATUS_t3_link ≠ 2 :=
  ⟨live, 0, _, 0xFFFF, rfl, by decide +kernel⟩

theorem witness_TierTwoAndThree_13 : ∃ (s : State) (c : Fin 8) (ch : Chan) (b : Bool), s.chan c = ch ∧ ch.boot.quarantined = true :=
  ⟨(st fun ch => { ch with boot := { state := .quarantine } }), 0, _, true, rfl, by decide +kernel⟩

theorem witness_TierTwoAndThree_14 : ∃ (s : State) (c : Fin 8) (ch : Chan) (gib : BitVec 16), s.chan c = ch ∧ ch.boot.quarantined = true :=
  ⟨(st fun ch => { ch with boot := { state := .quarantine } }), 0, _, 0xFFFF, rfl, by decide +kernel⟩

theorem witness_ZorbexPortStates_1 : ∃ (s : State) (c : Fin 8) (ch : Chan) (p : Fin 3) (src : Option (Fin 17)), s.chan c = ch ∧ s.reaches src c (R.ZLK_PORT_CTRL p) = true ∧ ch.zTopo ≠ 0 ∧ ch.zState p = 0 ∧ ch.failStopped = false :=
  ⟨(st fun ch => ch.setFld R.ZLK_CTRL F.ZLK_CTRL_topology 2), 0, _, 2, none, rfl, by decide +kernel⟩

theorem witness_ZorbexPortStates_2 : ∃ (s : State) (c : Fin 8) (ch : Chan) (p : Fin 3) (src : Option (Fin 17)), s.chan c = ch ∧ s.reaches src c (R.ZLK_PORT_CTRL p) = true ∧ ch.zTopo ≠ 0 ∧ (ch.zState p ≠ 0 ∨ ch.failStopped = true) :=
  ⟨(st fun ch => ((ch.setFld R.ZLK_CTRL F.ZLK_CTRL_topology 1).setZState 0 3).setZp 0 {}), 0, _, 0, (some 0), rfl, by decide +kernel⟩

theorem witness_ZorbexPortStates_3 : ∃ (s : State) (c : Fin 8) (ch : Chan) (p : Fin 3) (src : Option (Fin 17)), s.chan c = ch ∧ s.reaches src c (R.ZLK_PORT_CTRL p) = true ∧ ch.zTopo = 0 :=
  ⟨live, 0, _, 1, none, rfl, by decide +kernel⟩

theorem witness_ZorbexPortStates_4 : ∃ (s : State) (c : Fin 8) (ch : Chan) (p : Fin 3) (src : Option (Fin 17)), s.chan c = ch ∧ s.reaches src c (R.ZLK_PORT_CTRL p) = true :=
  ⟨(st fun ch => ((ch.setFld R.ZLK_CTRL F.ZLK_CTRL_topology 1).setZState 0 3).setZp 0 { unacked := [{ num := 0, ends := 1 }] }), 0, _, 0, none, rfl, by decide +kernel⟩

theorem witness_ZorbexPortStates_5 : ∃ (s : State) (c : Fin 8) (ch : Chan) (p : Fin 3), s.chan c = ch ∧ ch.clocked = true ∧ ch.zState p = 1 :=
  ⟨(st fun ch => ((ch.setFld R.ZLK_CTRL F.ZLK_CTRL_topology 1).setZState 0 1).setZp 0 {}), 0, _, 0, rfl, by decide +kernel⟩

theorem witness_ZorbexPortStates_6 : ∃ (s : State) (c : Fin 8) (ch : Chan) (p : Fin 3) (d q n o : BitVec 8) (idn : BitVec 64) (a : Chan), s.chan c = ch ∧ ch.clocked = true ∧ ch.zState p = 2 ∧ (ch.zp p).known = false ∧ ((ch.setFld (R.ZLK_PORT_STATUS p) F.ZLK_PORT_STATUS_partner_device d.toNat).setFld (R.ZLK_PORT_STATUS p) F.ZLK_PORT_STATUS_partner_port q.toNat).wr (R.ZLK_PARTNER_ID p) (BitVec.ofNat 64 idn.toNat) = a ∧ idn.toNat ≠ ch.fuses.deviceId ∧ zPartner ch.zTopo ch.zDev p = some (d.toNat, q.toNat) ∧ n.toNat = ch.idx ∧ o.toNat = ch.zTopo :=
  ⟨(st fun ch => ((ch.setFld R.ZLK_CTRL F.ZLK_CTRL_topology 1).setZState 0 2).setZp 0 {}), 0, _, 0, 1, 2, 0, 1, 77, (((st fun ch => ((ch.setFld R.ZLK_CTRL F.ZLK_CTRL_topology 1).setZState 0 2).setZp 0 {}).chan 0 |>.setFld (R.ZLK_PORT_STATUS 0) F.ZLK_PORT_STATUS_partner_device 1).setFld (R.ZLK_PORT_STATUS 0) F.ZLK_PORT_STATUS_partner_port 2).wr (R.ZLK_PARTNER_ID 0) 77, rfl, by decide +kernel, by decide +kernel, by decide +kernel, rfl, by decide +kernel, by decide +kernel, by decide +kernel, by decide +kernel⟩

theorem witness_ZorbexPortStates_7 : ∃ (s : State) (c : Fin 8) (ch : Chan) (p : Fin 3) (d q n o : BitVec 8) (idn : BitVec 64), s.chan c = ch ∧ ch.clocked = true ∧ ch.zState p = 2 ∧ (ch.zp p).known = false ∧ idn.toNat = ch.fuses.deviceId :=
  ⟨(st fun ch => ((ch.setFld R.ZLK_CTRL F.ZLK_CTRL_topology 1).setZState 0 2).setZp 0 {}), 0, _, 0, 9, 2, 0, 1, (BitVec.ofNat 64 (live.chan 0).fuses.deviceId), rfl, by decide +kernel⟩

theorem witness_ZorbexPortStates_8 : ∃ (s : State) (c : Fin 8) (ch : Chan) (p : Fin 3) (d q n o : BitVec 8) (idn : BitVec 64), s.chan c = ch ∧ ch.clocked = true ∧ ch.zState p = 2 ∧ (ch.zp p).known = false ∧ idn.toNat ≠ ch.fuses.deviceId ∧ (zPartner ch.zTopo ch.zDev p ≠ some (d.toNat, q.toNat) ∨ n.toNat ≠ ch.idx ∨ o.toNat ≠ ch.zTopo) :=
  ⟨(st fun ch => ((ch.setFld R.ZLK_CTRL F.ZLK_CTRL_topology 1).setZState 0 2).setZp 0 {}), 0, _, 0, 1, 1, 0, 1, 77, rfl, by decide +kernel⟩

theorem witness_ZorbexPortStates_9 : ∃ (s : State) (c : Fin 8) (ch : Chan) (p : Fin 3), s.chan c = ch ∧ ch.clocked = true ∧ ch.zState p = 3 :=
  ⟨(st fun ch => ((ch.setFld R.ZLK_CTRL F.ZLK_CTRL_topology 1).setZState 0 3).setZp 0 {}), 0, _, 0, rfl, by decide +kernel⟩

theorem witness_ZorbexGroupsCreditsAndAcks_1 : ∃ (s : State) (c : Fin 8) (ch : Chan) (p : Fin 3) (num : BitVec 16) (bs : List (Nat × List Byte)) (x : ZPort) (y : Bool × Chan), s.chan c = ch ∧ ch.clocked = true ∧ ch.zLive p = true ∧ ch.zp p = x ∧ num = x.rxNum ∧ (bs.any fun b => b.1 == 0 || decide (3 < b.1)) = false ∧ (bs.foldl (Chan.zBlock p num.toNat) (true, ch.setZp p { x with rxNum := num + 1, rxAny := true, naking := false, rxLog := ((num.toNat, x.rxWords.1, x.rxWords.2) :: x.rxLog).take 512 })).1 = true ∧ (bs.foldl (Chan.zBlock p num.toNat) (true, ch.setZp p { x with rxNum := num + 1, rxAny := true, naking := false, rxLog := ((num.toNat, x.rxWords.1, x.rxWords.2) :: x.rxLog).take 512 })) = y ∧ y.2.zLive p = true :=
  ⟨(st fun ch => ((ch.setFld R.ZLK_CTRL F.ZLK_CTRL_topology 1).setZState 0 3).setZp 0 {}), 0, _, 0, 0, [], {}, (true, (st fun ch => ((ch.setFld R.ZLK_CTRL F.ZLK_CTRL_topology 1).setZState 0 3).setZp 0 {}).chan 0 |>.setZp 0 { rxNum := 1, rxAny := true, naking := false, rxLog := [(0, 0, 0)] }), rfl, by decide +kernel, by decide +kernel, by decide +kernel, by decide +kernel, by decide +kernel, by decide +kernel, rfl, by decide +kernel⟩

theorem witness_ZorbexGroupsCreditsAndAcks_2 : ∃ (s : State) (c : Fin 8) (ch : Chan) (p : Fin 3) (num : BitVec 16) (bs : List (Nat × List Byte)) (x : ZPort) (y : Bool × Chan), s.chan c = ch ∧ ch.clocked = true ∧ ch.zLive p = true ∧ ch.zp p = x ∧ num = x.rxNum ∧ (bs.any fun b => b.1 == 0 || decide (3 < b.1)) = false ∧ (bs.foldl (Chan.zBlock p num.toNat) (true, ch.setZp p { x with rxNum := num + 1, rxAny := true, naking := false, rxLog := ((num.toNat, x.rxWords.1, x.rxWords.2) :: x.rxLog).take 512 })) = y ∧ (y.1 = false ∨ y.2.zLive p = false) :=
  ⟨(st fun ch => ((ch.setFld R.ZLK_CTRL F.ZLK_CTRL_topology 1).setZState 0 3).setZp 0 {}), 0, _, 0, 0, ([(3, List.replicate 64 0)]), {}, ([(3, List.replicate 64 0)].foldl (Chan.zBlock 0 0) (true, (st fun ch => ((ch.setFld R.ZLK_CTRL F.ZLK_CTRL_topology 1).setZState 0 3).setZp 0 {}).chan 0 |>.setZp 0 { rxNum := 1, rxAny := true, naking := false, rxLog := [(0, 0, 0)] })), rfl, by decide +kernel, by decide +kernel, by decide +kernel, by decide +kernel, by decide +kernel, rfl, by decide +kernel⟩

theorem witness_ZorbexGroupsCreditsAndAcks_3 : ∃ (s : State) (c : Fin 8) (ch : Chan) (p : Fin 3) (num : BitVec 16) (bad : Bool) (bs : List (Nat × List Byte)), s.chan c = ch ∧ ch.clocked = true ∧ ch.zLive p = true ∧ num = (ch.zp p).rxNum ∧ (bad = true ∨ (bs.any fun b => b.1 == 0 || decide (3 < b.1)) = true) :=
  ⟨(st fun ch => ((ch.setFld R.ZLK_CTRL F.ZLK_CTRL_topology 1).setZState 0 3).setZp 0 {}), 0, _, 0, 0, false, ([(1, []), (4, [])]), rfl, by decide +kernel⟩

theorem witness_ZorbexGroupsCreditsAndAcks_4 : ∃ (s : State) (c : Fin 8) (ch : Chan) (p : Fin 3) (num : BitVec 16) (bad : Bool) (bs : List (Nat × List Byte)), s.chan c = ch ∧ ch.clocked = true ∧ ch.zLive p = true ∧ num ≠ (ch.zp p).rxNum ∧ (ch.zp p).naking = false ∧ (num - (ch.zp p).rxNum).toNat < 32768 :=
  ⟨(st fun ch => ((ch.setFld R.ZLK_CTRL F.ZLK_CTRL_topology 1).setZState 0 3).setZp 0 {}), 0, _, 0, 32767, false, [], rfl, by decide +kernel⟩

theorem witness_ZorbexGroupsCreditsAndAcks_5 : ∃ (s : State) (c : Fin 8) (ch : Chan) (p : Fin 3) (num : BitVec 16) (bad : Bool) (bs : List (Nat × List Byte)), s.chan c = ch ∧ ch.clocked = true ∧ ch.zLive p = true ∧ num ≠ (ch.zp p).rxNum ∧ ((ch.zp p).naking = true ∨ 32768 ≤ (num - (ch.zp p).rxNum).toNat) :=
  ⟨(st fun ch => ((ch.setFld R.ZLK_CTRL F.ZLK_CTRL_topology 1).setZState 0 3).setZp 0 {}), 0, _, 0, 32768, false, [], rfl, by decide +kernel⟩

theorem witness_ZorbexGroupsCreditsAndAcks_6 : ∃ (s : State) (c : Fin 8) (ch : Chan) (p : Fin 3) (num : BitVec 16) (x : ZPort), s.chan c = ch ∧ ch.clocked = true ∧ ch.zLive p = true ∧ ch.zp p = x :=
  ⟨(st fun ch => ((ch.setFld R.ZLK_CTRL F.ZLK_CTRL_topology 1).setZState 0 3).setZp 0 { unacked := [{ num := 7, blocks := [(3, (delivered 11 true (msgHd 0) []).bytes)], ends := 1 }, { num := 8, blocks := [(3, (delivered 11 true (msgHd 0) []).bytes)], ends := 1 }] }), 0, _, 0, 7, ({ unacked := [{ num := 7, blocks := [(3, (delivered 11 true (msgHd 0) []).bytes)], ends := 1 }, { num := 8, blocks := [(3, (delivered 11 true (msgHd 0) []).bytes)], ends := 1 }] }), rfl, by decide +kernel⟩

theorem witness_ZorbexGroupsCreditsAndAcks_7 : ∃ (s : State) (c : Fin 8) (ch : Chan) (p : Fin 3) (num : BitVec 16) (x : ZPort) (n : Nat), s.chan c = ch ∧ ch.clocked = true ∧ ch.zLive p = true ∧ ch.zp p = x ∧ (if x.nakNum = some num then x.nakCount + 1 else 1) = n ∧ (x.unacked.any fun g => g.num == num) = true ∧ n < 8 :=
  ⟨(st fun ch => ((ch.setFld R.ZLK_CTRL F.ZLK_CTRL_topology 1).setZState 0 3).setZp 0 { unacked := [{ num := 7, blocks := [(3, (delivered 11 true (msgHd 0) []).bytes)], ends := 1 }, { num := 8, blocks := [(3, (delivered 11 true (msgHd 0) []).bytes)], ends := 1 }] }), 0, _, 0, 8, ({ unacked := [{ num := 7, blocks := [(3, (delivered 11 true (msgHd 0) []).bytes)], ends := 1 }, { num := 8, blocks := [(3, (delivered 11 true (msgHd 0) []).bytes)], ends := 1 }] }), 1, rfl, by decide +kernel⟩

theorem witness_ZorbexGroupsCreditsAndAcks_8 : ∃ (s : State) (c : Fin 8) (ch : Chan) (p : Fin 3) (num : BitVec 16) (x : ZPort), s.chan c = ch ∧ ch.clocked = true ∧ ch.zLive p = true ∧ ch.zp p = x ∧ ((x.unacked.any fun g => g.num == num) = false ∨ (x.nakNum = some num ∧ 7 ≤ x.nakCount)) :=
  ⟨(st fun ch => ((ch.setFld R.ZLK_CTRL F.ZLK_CTRL_topology 1).setZState 0 3).setZp 0 {}), 0, _, 0, 8, {}, rfl, by decide +kernel⟩

theorem witness_ZorbexGroupsCreditsAndAcks_9 : ∃ (s : State) (c : Fin 8) (ch : Chan) (p : Fin 3) (vl : Bool) (limit : BitVec 32) (x : ZPort), s.chan c = ch ∧ ch.clocked = true ∧ ch.zLive p = true ∧ ch.zp p = x :=
  ⟨(st fun ch => ((ch.setFld R.ZLK_CTRL F.ZLK_CTRL_topology 1).setZState 0 3).setZp 0 {}), 0, _, 0, true, 0xFFFFFFFF, {}, rfl, by decide +kernel⟩

theorem witness_ZorbexGroupsCreditsAndAcks_10 : ∃ (s : State) (c : Fin 8) (ch : Chan) (p : Fin 3), s.chan c = ch ∧ ch.clocked = true ∧ ch.zState p ≠ 0 :=
  ⟨(st fun ch => ((ch.setFld R.ZLK_CTRL F.ZLK_CTRL_topology 1).setZState 0 3).setZp 0 {}), 0, _, 0, rfl, by decide +kernel⟩

theorem witness_ZorbexGroupsCreditsAndAcks_11 : ∃ (s : State) (c : Fin 8) (ch : Chan) (p : Fin 3) (d q : Nat), s.chan c = ch ∧ ch.clocked = true ∧ ch.zState p = 3 ∧ ch.since (ch.zp p).probeAt msG = true ∧ zPartner ch.zTopo ch.zDev p = some (d, q) :=
  ⟨(st fun ch => ((ch.setFld R.ZLK_CTRL F.ZLK_CTRL_topology 1).setZState 0 3).setZp 0 {}), 0, _, 0, 1, 2, rfl, by decide +kernel⟩

theorem witness_ZorbexMessages_1 : ∃ (s : State) (c : Fin 8) (ch : Chan) (p : Fin 3) (hd : MsgHead) (pay : List Byte), s.chan c = ch ∧ ch.clocked = true :=
  ⟨(st fun ch => ((ch.setFld R.ZLK_CTRL F.ZLK_CTRL_topology 1).setZState 0 3).setZp 0 {}), 0, _, 0, (msgHd 0), [], rfl, by decide +kernel⟩

theorem witness_ZorbexMessages_2 : ∃ (s : State) (c : Fin 8) (ch : Chan) (p : Fin 3) (hd : MsgHead) (pay : List Byte) (m : ZMsg) (e old : List Byte) (i k b w n : Nat) (b2 : Nat × Nat), s.chan c = ch ∧ ch.clocked = true ∧ ch.accepts p hd ∧ delivered 2 true hd pay = m ∧ 2 + ceilDiv pay.length 16 = 6 ∧ entParity (slice m.payload 0 64) = e ∧ le e 33 1 % 128 = 16 * ch.idx.val + i ∧ i < 16 ∧ ch.fld (R.ZLK_ACCEPT i) F.ZLK_ACCEPT_lookup = k ∧ (ch.fld (R.ZLK_ACCEPT i) F.ZLK_ACCEPT_from_mask).testBit hd.src.toNat = true ∧ ch.fld (R.ZLK_ACCEPT i) F.ZLK_ACCEPT_origin_tenant = hd.context.toNat % 16 ∧ ch.lookupKind i k = 1 ∧ ch.entityBuckets i k (slice e 0 32) = b2 ∧ ch.locked i (k + 1) b2.1 = false ∧ ch.locked i (k + 1) b2.2 = false ∧ ch.chk.undo.length + 16 ≤ undoSize ∧ ch.sharePlace i k e = some (b, w) ∧ ch.chk.shareNum + 1 = n ∧ entAt (ch.entBucket i k b) w = old :=
  ⟨shareState, 0, _, 0, (msgHd 9), (List.replicate 32 0 ++ [0, 0, 1, 0] ++ List.replicate 28 0), (delivered 2 true (msgHd 9) (List.replicate 32 0 ++ [0, 0, 1, 0] ++ List.replicate 28 0)), (entParity (slice (List.replicate 32 0 ++ [0, 0, 1, 0] ++ List.replicate 28 0) 0 64)), (List.replicate 64 0), 0, 0, (shareB2).1, 0, 1, shareB2, rfl, by decide +kernel⟩

theorem witness_ZorbexMessages_3 : ∃ (s : State) (c : Fin 8) (ch : Chan) (p : Fin 3) (hd : MsgHead) (pay : List Byte) (m : ZMsg) (t i : Nat), s.chan c = ch ∧ ch.clocked = true ∧ ch.accepts p hd ∧ delivered 2 true hd pay = m ∧ 2 + ceilDiv pay.length 16 = 6 ∧ le (entParity (slice m.payload 0 64)) 33 1 % 128 = t ∧ t % 16 = i ∧ (t / 16 ≠ ch.idx.val ∨ (ch.fld (R.ZLK_ACCEPT i) F.ZLK_ACCEPT_from_mask).testBit hd.src.toNat = false ∨ ch.fld (R.ZLK_ACCEPT i) F.ZLK_ACCEPT_origin_tenant ≠ hd.context.toNat % 16 ∨ ch.lookupKind i (ch.fld (R.ZLK_ACCEPT i) F.ZLK_ACCEPT_lookup) ≠ 1) :=
  ⟨(st fun ch => ((ch.setFld R.ZLK_CTRL F.ZLK_CTRL_topology 1).setZState 0 3)), 0, _, 0, (msgHd 0), (List.replicate 32 0 ++ [0, 0, 1, 0] ++ List.replicate 28 0), (delivered 2 true (msgHd 0) (List.replicate 32 0 ++ [0, 0, 1, 0] ++ List.replicate 28 0)), 0, 0, rfl, by decide +kernel⟩

theorem witness_ZorbexMessages_4 : ∃ (s : State) (c : Fin 8) (ch : Chan) (p : Fin 3) (hd : MsgHead) (pay : List Byte) (m : ZMsg) (e : List Byte) (i k : Nat) (b2 : Nat × Nat), s.chan c = ch ∧ ch.clocked = true ∧ ch.accepts p hd ∧ delivered 2 true hd pay = m ∧ 2 + ceilDiv pay.length 16 = 6 ∧ entParity (slice m.payload 0 64) = e ∧ le e 33 1 % 16 = i ∧ ch.fld (R.ZLK_ACCEPT i) F.ZLK_ACCEPT_lookup = k ∧ ch.entityBuckets i k (slice e 0 32) = b2 ∧ (ch.locked i (k + 1) b2.1 = true ∨ ch.locked i (k + 1) b2.2 = true ∨ undoSize < ch.chk.undo.length + 16 ∨ ch.sharePlace i k e = none) :=
  ⟨(st fun ch => { shareChan ch with flow := { ch.flow with locks := [{ tenant := 0, table := 1, bucket := shareB2.1, holder := 0, at_ := 0 }] } }), 0, _, 0, (msgHd 9), (List.replicate 32 0 ++ [0, 0, 1, 0] ++ List.replicate 28 0), (delivered 2 true (msgHd 9) (List.replicate 32 0 ++ [0, 0, 1, 0] ++ List.replicate 28 0)), (entParity (slice (List.replicate 32 0 ++ [0, 0, 1, 0] ++ List.replicate 28 0) 0 64)), 0, 0, shareB2, rfl, by decide +kernel⟩

theorem witness_ZorbexMessages_5 : ∃ (s : State) (c : Fin 8) (ch : Chan) (p : Fin 3) (hd : MsgHead) (pay : List Byte) (x : PeerShare), s.chan c = ch ∧ ch.clocked = true ∧ ch.accepts p hd ∧ 2 + ceilDiv pay.length 16 = 2 ∧ (ch.chk.shares.find? fun y => y.device == hd.src.toNat && y.origin == hd.context.toNat % 16 && y.seqNo == hd.args.toNat / 2 ^ 32 && y.epoch % 2 ^ 32 == hd.args.toNat % 2 ^ 32) = some x :=
  ⟨(st fun ch => { ((ch.setFld R.ZLK_CTRL F.ZLK_CTRL_topology 1).setZState 0 3) with chk := { shareNum := 1, shares := [{ num := 1, device := 1, origin := 5, seqNo := 3, epoch := 9, port := 0, at_ := 0 }] } }), 0, _, 0, (msgHd (3 * 4294967296 + 9)), [], ({ num := 1, device := 1, origin := 5, seqNo := 3, epoch := 9, port := 0, at_ := 0 }), rfl, by decide +kernel⟩

theorem witness_ZorbexMessages_6 : ∃ (s : State) (c : Fin 8) (ch : Chan) (p : Fin 3) (hd : MsgHead) (pay : List Byte), s.chan c = ch ∧ ch.clocked = true ∧ ch.accepts p hd ∧ 2 + ceilDiv pay.length 16 = 2 ∧ (ch.chk.shares.find? fun y => y.device == hd.src.toNat && y.origin == hd.context.toNat % 16 && y.seqNo == hd.args.toNat / 2 ^ 32 && y.epoch % 2 ^ 32 == hd.args.toNat % 2 ^ 32) = none :=
  ⟨(st fun ch => { ((ch.setFld R.ZLK_CTRL F.ZLK_CTRL_topology 1).setZState 0 3) with chk := { shareNum := 1, shares := [{ num := 1, device := 1, origin := 5, seqNo := 3, epoch := 9, port := 0, at_ := 0 }] } }), 0, _, 0, (msgHd (3 * 4294967296 + 8)), [], rfl, by decide +kernel⟩

theorem witness_ZorbexMessages_7 : ∃ (s : State) (c : Fin 8) (ch : Chan) (p : Fin 3) (hd : MsgHead) (pay : List Byte) (o e : Nat), s.chan c = ch ∧ ch.clocked = true ∧ ch.accepts p hd ∧ 2 + ceilDiv pay.length 16 = 2 ∧ 16 * hd.src.toNat + hd.context.toNat % 16 = o ∧ hd.args.toNat = e ∧ sget (fun _ => 0) ch.chk.peerClosed o ≤ e :=
  ⟨(st fun ch => { ((ch.setFld R.ZLK_CTRL F.ZLK_CTRL_topology 1).setZState 0 3) with chk := { shareNum := 1, shares := [{ num := 1, device := 1, origin := 5, seqNo := 3, epoch := 9, port := 0, at_ := 0 }] } }), 0, _, 0, (msgHd 9), [], 21, 9, rfl, by decide +kernel⟩

theorem witness_ZorbexMessages_8 : ∃ (s : State) (c : Fin 8) (ch : Chan) (p : Fin 3) (hd : MsgHead) (pay : List Byte), s.chan c = ch ∧ ch.clocked = true ∧ ch.accepts p hd ∧ 2 + ceilDiv pay.length 16 = 2 ∧ hd.args.toNat < sget (fun _ => 0) ch.chk.peerClosed (16 * hd.src.toNat + hd.context.toNat % 16) :=
  ⟨(st fun ch => { ((ch.setFld R.ZLK_CTRL F.ZLK_CTRL_topology 1).setZState 0 3) with chk := { peerClosed := [(21, 10)] } }), 0, _, 0, (msgHd 9), [], rfl, by decide +kernel⟩

theorem witness_ZorbexMessages_9 : ∃ (s : State) (c : Fin 8) (ch : Chan) (p : Fin 3) (hd : MsgHead) (pay : List Byte), s.chan c = ch ∧ ch.clocked = true ∧ ch.accepts p hd ∧ 2 + ceilDiv pay.length 16 = 2 :=
  ⟨(st fun ch => ((ch.setFld R.ZLK_CTRL F.ZLK_CTRL_topology 1).setZState 0 3)), 0, _, 0, (msgHd 0), [], rfl, by decide +kernel⟩

theorem witness_ZorbexMessages_10 : ∃ (s : State) (c : Fin 8) (ch : Chan) (p : Fin 3) (hd : MsgHead) (pay : List Byte) (m : ZMsg) (t1 : Nat), s.chan c = ch ∧ ch.clocked = true ∧ ch.accepts p hd ∧ delivered 12 true hd pay = m ∧ 2 + ceilDiv pay.length 16 = 7 ∧ (ch.zp p).probe = some t1 :=
  ⟨(st fun ch => ((ch.setFld R.ZLK_CTRL F.ZLK_CTRL_topology 1).setZState 0 3).modZp 0 fun x => { x with probe := some 0 }), 0, _, 0, (msgHd 0), (List.replicate 80 0), (delivered 12 true (msgHd 0) (List.replicate 80 0)), 0, rfl, by decide +kernel⟩

theorem witness_ZorbexMessages_11 : ∃ (s : State) (c : Fin 8) (ch : Chan) (p : Fin 3) (hd : MsgHead) (pay : List Byte), s.chan c = ch ∧ ch.clocked = true ∧ ch.zLive p = true ∧ 2 + ceilDiv pay.length 16 ≠ 6 :=
  ⟨(st fun ch => ((ch.setFld R.ZLK_CTRL F.ZLK_CTRL_topology 1).setZState 0 3).setZp 0 {}), 0, _, 0, (msgHd 0), (List.replicate 17 0), rfl, by decide +kernel⟩

theorem witness_ZorbexMessages_12 : ∃ (s : State) (c : Fin 8) (ch : Chan) (p : Fin 3) (hd : MsgHead) (pay : List Byte), s.chan c = ch ∧ ch.clocked = true ∧ ch.zLive p = true ∧ 2 + ceilDiv pay.length 16 ≠ 2 :=
  ⟨(st fun ch => ((ch.setFld R.ZLK_CTRL F.ZLK_CTRL_topology 1).setZState 0 3).setZp 0 {}), 0, _, 0, (msgHd 0), (List.replicate 17 0), rfl, by decide +kernel⟩

theorem witness_ZorbexMessages_13 : ∃ (s : State) (c : Fin 8) (ch : Chan) (p : Fin 3) (hd : MsgHead) (pay : List Byte), s.chan c = ch ∧ ch.clocked = true ∧ ch.zLive p = true ∧ 2 + ceilDiv pay.length 16 ≠ 2 :=
  ⟨(st fun ch => ((ch.setFld R.ZLK_CTRL F.ZLK_CTRL_topology 1).setZState 0 3).setZp 0 {}), 0, _, 0, (msgHd 0), (List.replicate 17 0), rfl, by decide +kernel⟩

theorem witness_ZorbexMessages_14 : ∃ (s : State) (c : Fin 8) (ch : Chan) (p : Fin 3) (hd : MsgHead) (pay : List Byte), s.chan c = ch ∧ ch.clocked = true ∧ ch.zLive p = true ∧ 2 + ceilDiv pay.length 16 ≠ 2 :=
  ⟨(st fun ch => ((ch.setFld R.ZLK_CTRL F.ZLK_CTRL_topology 1).setZState 0 3).setZp 0 {}), 0, _, 0, (msgHd 0), (List.replicate 17 0), rfl, by decide +kernel⟩

theorem witness_ZorbexMessages_15 : ∃ (s : State) (c : Fin 8) (ch : Chan) (p : Fin 3) (hd : MsgHead) (pay : List Byte), s.chan c = ch ∧ ch.clocked = true ∧ ch.zLive p = true ∧ 2 + ceilDiv pay.length 16 ≠ 7 :=
  ⟨(st fun ch => ((ch.setFld R.ZLK_CTRL F.ZLK_CTRL_topology 1).setZState 0 3).setZp 0 {}), 0, _, 0, (msgHd 0), (List.replicate 17 0), rfl, by decide +kernel⟩

theorem witness_ZorbexMessages_16 : ∃ (s : State) (c : Fin 8) (ch : Chan) (p : Fin 3) (hd : MsgHead) (pay : List Byte), s.chan c = ch ∧ ch.clocked = true ∧ ch.accepts p hd ∧ 2 + ceilDiv pay.length 16 = 7 ∧ (ch.zp p).probe = none :=
  ⟨(st fun ch => ((ch.setFld R.ZLK_CTRL F.ZLK_CTRL_topology 1).setZState 0 3)), 0, _, 0, (msgHd 0), (List.replicate 80 0), rfl, by decide +kernel⟩

theorem witness_FunctionResetsAndHostLink_1 : ∃ (s : State) (c : Fin 8) (ch : Chan) (i : Fin 16), s.chan c = ch ∧ s.hubRuns = true :=
  ⟨(st fun ch => { withTenant ch with host := { vfEnable := true, numVFs := 1 }, flow := { locks := [{ tenant := 0, table := 0, bucket := 5, holder := 1, at_ := 0 }] } }), 0, _, 0, rfl, by decide +kernel⟩

theorem witness_FunctionResetsAndHostLink_2 : ∃ (s : State) (c : Fin 8) (ch : Chan), s.chan c = ch ∧ s.hubRuns = true :=
  ⟨(st fun ch => { withTenant ch with host := { vfEnable := true, numVFs := 1 }, flow := { locks := [{ tenant := 0, table := 0, bucket := 5, holder := 1, at_ := 0 }] } }), 0, _, rfl, by decide +kernel⟩

theorem witness_FunctionResetsAndHostLink_3 : ∃ (s : State) (c : Fin 8) (ch : Chan) (en : Bool) (n : Fin 17), s.chan c = ch ∧ s.hubRuns = true :=
  ⟨(st fun ch => { withTenant ch with host := { vfEnable := true, numVFs := 1 }, flow := { locks := [{ tenant := 0, table := 0, bucket := 5, holder := 1, at_ := 0 }] } }), 0, _, true, 16, rfl, by decide +kernel⟩

theorem witness_FunctionResetsAndHostLink_4 : ∃ (s : State) (c : Fin 8) (ch : Chan) (inst : Fin 17) (on : Bool), s.chan c = ch ∧ s.hubRuns = true :=
  ⟨live, 0, _, 16, true, rfl, by decide +kernel⟩

theorem witness_FunctionResetsAndHostLink_5 : ∃ (s : State) (c : Fin 8) (ch : Chan) (on : Bool), s.chan c = ch ∧ s.hubRuns = true :=
  ⟨live, 0, _, true, rfl, by decide +kernel⟩

theorem witness_FunctionResetsAndHostLink_6 : ∃ (s : State) (c : Fin 8) (ch : Chan), s.chan c = ch ∧ s.hubRuns = true :=
  ⟨({ live with hub := { live.hub.wr R.HIF_EVQ_BASE 8 with d3hot := true } }), 0, _, rfl, by decide +kernel⟩

theorem witness_FunctionResetsAndHostLink_7 : ∃ (s : State) (c : Fin 8) (ch : Chan), s.chan c = ch ∧ s.hubRuns = true ∧ (∀ d : Fin 8, (s.chan d).toHub = []) :=
  ⟨({ live with hub := live.hub.setFld R.HIF_LINK_STATUS F.HIF_LINK_STATUS_speed 4 }), 0, _, rfl, by decide +kernel⟩

theorem witness_FunctionResetsAndHostLink_8 : ∃ (s : State) (c : Fin 8) (ch : Chan), s.chan c = ch ∧ s.hubRuns = true ∧ (∀ d : Fin 8, (s.chan d).toHub = []) ∧ s.hub.linkUp = true :=
  ⟨({ live with hub := live.hub.setFld R.HIF_LINK_STATUS F.HIF_LINK_STATUS_speed 4 }), 0, _, rfl, by decide +kernel⟩

theorem witness_FunctionResetsAndHostLink_9 : ∃ (s : State) (c : Fin 8) (ch : Chan), s.chan c = ch ∧ s.hubRuns = true ∧ s.hub.linkUp = false :=
  ⟨live, 0, _, rfl, by decide +kernel⟩

theorem witness_FunctionResetsAndHostLink_10 : ∃ (s : State) (c : Fin 8) (ch : Chan) (speed : Fin 6) (width : Fin 17) (flit : Bool), s.chan c = ch ∧ s.hubRuns = true ∧ s.hub.linkUp = false ∧ linkWidths.contains width.val = true :=
  ⟨live, 0, _, 5, 16, true, rfl, by decide +kernel⟩

theorem witness_FunctionResetsAndHostLink_11 : ∃ (s : State) (c : Fin 8) (ch : Chan) (speed : Fin 6) (width : Fin 17) (flit : Bool), s.chan c = ch ∧ s.hubRuns = true ∧ (s.hub.linkUp = true ∨ linkWidths.contains width.val = false) :=
  ⟨({ live with hub := live.hub.setFld R.HIF_LINK_STATUS F.HIF_LINK_STATUS_speed 4 }), 0, _, 5, 16, true, rfl, by decide +kernel⟩

theorem witness_HostErrorsAndCounterReads_1 : ∃ (s : State) (c : Fin 8) (ch : Chan), s.chan c = ch ∧ s.hubRuns = true :=
  ⟨live, 0, _, rfl, by decide +kernel⟩

theorem witness_HostErrorsAndCounterReads_2 : ∃ (s : State) (c : Fin 8) (ch : Chan) (inst : Fin 17) (q : Fin 4) (n : BitVec 16), s.chan c = ch ∧ s.hubRuns = true ∧ ch.isOn = true :=
  ⟨live, 0, _, 0, 0, 0, rfl, by decide +kernel⟩

theorem witness_HostErrorsAndCounterReads_3 : ∃ (s : State) (c : Fin 8) (ch : Chan), s.chan c = ch ∧ s.hubRuns = true :=
  ⟨live, 7, _, rfl, by decide +kernel⟩

theorem witness_HostErrorsAndCounterReads_4 : ∃ (s : State) (c : Fin 8) (ch : Chan), s.chan c = ch ∧ s.hubRuns = true :=
  ⟨live, 0, _, rfl, by decide +kernel⟩

theorem witness_HostErrorsAndCounterReads_5 : ∃ (s : State) (c : Fin 8) (ch : Chan), s.chan c = ch ∧ s.hubRuns = true :=
  ⟨live, 0, _, rfl, by decide +kernel⟩

theorem witness_HostErrorsAndCounterReads_6 : ∃ (s : State) (c : Fin 8) (ch : Chan) (v : Word), s.chan c = ch ∧ s.hubRuns = true ∧ getF v F.HIF_CNT_SEL_offset % 8 = 0 ∧ getF v F.HIF_CNT_SEL_start = 1 ∧ s.hub.flag R.HIF_CNT_SEL F.HIF_CNT_SEL_start = false :=
  ⟨live, 0, _, (setF (setF 0 F.HIF_CNT_SEL_start 1) F.HIF_CNT_SEL_offset R.PDP_CNT_DESC), rfl, by decide +kernel⟩

theorem witness_HostErrorsAndCounterReads_7 : ∃ (s : State) (c : Fin 8) (ch : Chan) (v : Word), s.chan c = ch ∧ s.hubRuns = true ∧ getF v F.HIF_CNT_SEL_offset % 8 ≠ 0 :=
  ⟨live, 0, _, (setF (setF 0 F.HIF_CNT_SEL_start 1) F.HIF_CNT_SEL_offset 4), rfl, by decide +kernel⟩

theorem witness_HostErrorsAndCounterReads_8 : ∃ (s : State) (c : Fin 8) (ch : Chan) (off : Nat), s.chan c = ch ∧ s.hub.cntRead = some (c.val, off) ∧ ch.isOn = true ∧ ch.pwrState < 2 :=
  ⟨({ (st fun ch => ch.wr R.PDP_CNT_DESC 77) with hub := { (st fun ch => ch.wr R.PDP_CNT_DESC 77).hub.setFld R.HIF_CNT_SEL F.HIF_CNT_SEL_start 1 with cntRead := some (0, R.PDP_CNT_DESC) } }), 0, _, R.PDP_CNT_DESC, rfl, by decide +kernel⟩

theorem witness_HostErrorsAndCounterReads_9 : ∃ (s : State) (c : Fin 8) (ch : Chan) (off : Nat), s.chan c = ch ∧ s.hub.cntRead = some (c.val, off) ∧ ch.isOn = false :=
  ⟨({ (live) with hub := { (live).hub.setFld R.HIF_CNT_SEL F.HIF_CNT_SEL_start 1 with cntRead := some (7, R.PDP_CNT_DESC) } }), 7, _, R.PDP_CNT_DESC, rfl, by decide +kernel⟩

theorem witness_HostErrorsAndCounterReads_10 : ∃ (s : State) (c : Fin 8) (ch : Chan) (off : Nat), s.chan c = ch ∧ s.hub.cntRead = some (c.val, off) ∧ ch.isOn = true ∧ 2 ≤ ch.pwrState :=
  ⟨({ (st fun ch => ch.setPwrState 3) with hub := { (st fun ch => ch.setPwrState 3).hub.setFld R.HIF_CNT_SEL F.HIF_CNT_SEL_start 1 with cntRead := some (0, R.PDP_CNT_DESC) } }), 0, _, R.PDP_CNT_DESC, rfl, by decide +kernel⟩

theorem witness_TenantsDmaAndVectors_1 : ∃ (s : State) (c : Fin 8) (ch : Chan) (src : Option (Fin 17)) (i : Fin 16) (v : Word), s.chan c = ch ∧ s.reaches src c (R.CHN_TENANT i) = true ∧ getF v F.CHN_TENANT_create = 1 ∧ ch.tenantExists i = false ∧ (ch.mem.erase.any fun e => e.1 == i.val) = false ∧ ch.safeServe = false :=
  ⟨live, 0, _, (some 0), 15, (setF (setF 0 F.CHN_TENANT_create 1) F.CHN_TENANT_class 1), rfl, by decide +kernel⟩

theorem witness_TenantsDmaAndVectors_2 : ∃ (s : State) (c : Fin 8) (ch : Chan) (src : Option (Fin 17)) (i : Fin 16) (v : Word), s.chan c = ch ∧ s.reaches src c (R.CHN_TENANT i) = true ∧ getF v F.CHN_TENANT_create = 1 ∧ (ch.tenantExists i = true ∨ (ch.mem.erase.any fun e => e.1 == i.val) = true ∨ ch.safeServe = true) :=
  ⟨(st withTenant), 0, _, none, 0, (setF 0 F.CHN_TENANT_create 1), rfl, by decide +kernel⟩

theorem witness_TenantsDmaAndVectors_3 : ∃ (s : State) (c : Fin 8) (ch : Chan) (src : Option (Fin 17)) (i : Fin 16) (v : Word), s.chan c = ch ∧ s.reaches src c (R.CHN_TENANT i) = true ∧ getF v F.CHN_TENANT_create = 0 :=
  ⟨live, 0, _, none, 0, (setF 0 F.CHN_TENANT_class 1), rfl, by decide +kernel⟩

theorem witness_TenantsDmaAndVectors_4 : ∃ (s : State) (c : Fin 8) (ch : Chan) (src : Option (Fin 17)) (q : Fin 4) (v : Word), s.chan c = ch ∧ s.reaches src c (R.CHN_HQ_PROD q) = true :=
  ⟨live, 0, _, (some 0), 3, 0xFFFF, rfl, by decide +kernel⟩

theorem witness_TenantsDmaAndVectors_5 : ∃ (s : State) (c : Fin 8) (ch : Chan) (inst : Fin 17) (q : Fin 4) (e : List Byte), s.chan c = ch ∧ ch.clocked = true ∧ ch.dmaMayStart inst q (dmaOf e) = false :=
  ⟨live, 0, _, 0, 1, (List.replicate 32 0), rfl, by decide +kernel⟩

theorem witness_TenantsDmaAndVectors_6 : ∃ (s : State) (c : Fin 8) (ch : Chan) (inst : Fin 17) (q : Fin 4) (e : List Byte), s.chan c = ch ∧ ch.clocked = true ∧ ch.dmaMayStart inst q (dmaOf e) = true ∧ (dmaOf e).bad = true :=
  ⟨(st fun ch => ((ch).wr (R.CHN_HQ_BASE 1) 6).setFld (R.CHN_HQ_PROD 1) F.CHN_HQ_PROD_prod 1), 0, _, 0, 1, (9 :: List.replicate 31 0), rfl, by decide +kernel⟩

theorem witness_TenantsDmaAndVectors_7 : ∃ (s : State) (c : Fin 8) (ch : Chan) (inst : Fin 17) (q : Fin 4) (e : List Byte) (x : Bool × Chan), s.chan c = ch ∧ ch.clocked = true ∧ ch.dmaMayStart inst q (dmaOf e) = true ∧ (dmaOf e).bad = false ∧ (ch.hqTake inst q).dmaAllowed inst (dmaOf e) (s.priv c) = x ∧ x.1 = false :=
  ⟨(st fun ch => ((ch).wr (R.CHN_HQ_BASE 1) 6).setFld (R.CHN_HQ_PROD 1) F.CHN_HQ_PROD_prod 1), 0, _, 0, 1, ([1, 0, 3, 0, 64, 0, 0, 0] ++ List.replicate 14 0 ++ [255, 255] ++ List.replicate 8 0), (((st fun ch => ((ch).wr (R.CHN_HQ_BASE 1) 6).setFld (R.CHN_HQ_PROD 1) F.CHN_HQ_PROD_prod 1).chan 0).hqTake 0 1).dmaAllowed 0 (dmaOf ([1, 0, 3, 0, 64, 0, 0, 0] ++ List.replicate 14 0 ++ [255, 255] ++ List.replicate 8 0)) ((st fun ch => ((ch).wr (R.CHN_HQ_BASE 1) 6).setFld (R.CHN_HQ_PROD 1) F.CHN_HQ_PROD_prod 1).priv 0), rfl, by decide +kernel, by decide +kernel, by decide +kernel, rfl, by decide +kernel⟩

theorem witness_TenantsDmaAndVectors_8 : ∃ (s : State) (c : Fin 8) (ch : Chan) (inst : Fin 17) (q : Fin 4) (e : List Byte), s.chan c = ch ∧ ch.clocked = true ∧ ch.dmaMayStart inst q (dmaOf e) = true ∧ (dmaOf e).bad = false ∧ ch.fnLive inst = true ∧ ((dmaOf e).op = 0 ∨ ch.moverAllows (dmaOf e).tier (ownerOf inst) (dmaOf e).dev (dmaOf e).len = true) ∧ ((dmaOf e).op = 1 → (dmaOf e).tier ≠ 1 ∨ ch.dmaLocked inst (dmaOf e).dev (dmaOf e).len = true) ∧ ((dmaOf e).op = 2 → inst.val ≠ 0 ∨ s.priv c = true ∨ ch.observes (dmaOf e).tier (dmaOf e).dev (dmaOf e).len = false) :=
  ⟨(st fun ch => ((ch).wr (R.CHN_HQ_BASE 1) 6).setFld (R.CHN_HQ_PROD 1) F.CHN_HQ_PROD_prod 1), 0, _, 0, 1, (List.replicate 32 0), rfl, by decide +kernel⟩

theorem witness_TenantsDmaAndVectors_9 : ∃ (s : State) (c : Fin 8) (ch : Chan) (inst : Fin 17) (q : Fin 4) (n : BitVec 16) (r : DmaRun) (data : List Byte), s.chan c = ch ∧ ch.clocked = true ∧ ch.dmaFind inst q n.toNat = some r ∧ r.cmd.op = 0 :=
  ⟨(st fun ch => { ch.wr (R.CHN_HQ_BASE 1) 6 with host := { dma := [{ inst := 0, q := 1, index := 7, cmd := { op := 0, flags := 1, tier := 3, len := 64, host := 128, dev := 192, tag := 0 }, at_ := 0 }] } }), 0, _, 0, 1, 7, ({ inst := 0, q := 1, index := 7, cmd := { op := 0, flags := 1, tier := 3, len := 64, host := 128, dev := 192, tag := 0 }, at_ := 0 }), [1], rfl, by decide +kernel⟩

theorem witness_TenantsDmaAndVectors_10 : ∃ (s : State) (c : Fin 8) (ch : Chan) (inst : Fin 17) (q : Fin 4) (n : BitVec 16) (r : DmaRun) (data : List Byte), s.chan c = ch ∧ ch.clocked = true ∧ ch.dmaFind inst q n.toNat = some r ∧ r.cmd.op = 1 ∧ ch.tierServes r.cmd.tier = true :=
  ⟨(st fun ch => { ((ch.setFld R.MEM_STATUS F.MEM_STATUS_t3_link 2).setFlag R.MEM_STATUS F.MEM_STATUS_t3_hdm_ready true).wr (R.CHN_HQ_BASE 1) 6 with host := { dma := [{ inst := 0, q := 1, index := 7, cmd := { op := 1, flags := 1, tier := 3, len := 64, host := 128, dev := 192, tag := 0 }, at_ := 0 }] } }), 0, _, 0, 1, 7, ({ inst := 0, q := 1, index := 7, cmd := { op := 1, flags := 1, tier := 3, len := 64, host := 128, dev := 192, tag := 0 }, at_ := 0 }), (List.replicate 64 9), rfl, by decide +kernel⟩

theorem witness_TenantsDmaAndVectors_11 : ∃ (s : State) (c : Fin 8) (ch : Chan) (inst : Fin 17) (q : Fin 4) (n : BitVec 16) (r : DmaRun) (data : List Byte), s.chan c = ch ∧ ch.clocked = true ∧ ch.dmaFind inst q n.toNat = some r ∧ r.cmd.op = 2 ∧ ch.tierServes r.cmd.tier = true :=
  ⟨(st fun ch => { ((ch.setFld R.MEM_STATUS F.MEM_STATUS_t3_link 2).setFlag R.MEM_STATUS F.MEM_STATUS_t3_hdm_ready true).wr (R.CHN_HQ_BASE 1) 6 with host := { dma := [{ inst := 0, q := 1, index := 7, cmd := { op := 2, flags := 1, tier := 3, len := 64, host := 128, dev := 192, tag := 0 }, at_ := 0 }] } }), 0, _, 0, 1, 7, ({ inst := 0, q := 1, index := 7, cmd := { op := 2, flags := 1, tier := 3, len := 64, host := 128, dev := 192, tag := 0 }, at_ := 0 }), [], rfl, by decide +kernel⟩

theorem witness_TenantsDmaAndVectors_12 : ∃ (s : State) (c : Fin 8) (ch : Chan) (inst : Fin 17) (q : Fin 4) (n : BitVec 16) (r : DmaRun) (data : List Byte) (e : DmaEnd), s.chan c = ch ∧ ch.clocked = true ∧ ch.dmaFind inst q n.toNat = some r ∧ r.cmd.op ≠ 0 ∧ (e = .tierError ∨ (e = .done ∧ ch.tierServes r.cmd.tier = false)) :=
  ⟨(st fun ch => { ch.wr (R.CHN_HQ_BASE 1) 6 with host := { dma := [{ inst := 0, q := 1, index := 7, cmd := { op := 1, flags := 1, tier := 3, len := 64, host := 128, dev := 192, tag := 0 }, at_ := 0 }] } }), 0, _, 0, 1, 7, ({ inst := 0, q := 1, index := 7, cmd := { op := 1, flags := 1, tier := 3, len := 64, host := 128, dev := 192, tag := 0 }, at_ := 0 }), [], .done, rfl, by decide +kernel⟩

theorem witness_TenantsDmaAndVectors_13 : ∃ (s : State) (c : Fin 8) (ch : Chan) (inst : Fin 17) (q : Fin 4) (n : BitVec 16) (r : DmaRun) (data : List Byte), s.chan c = ch ∧ ch.clocked = true ∧ ch.dmaFind inst q n.toNat = some r ∧ r.cmd.op ≠ 0 :=
  ⟨(st fun ch => { ch.wr (R.CHN_HQ_BASE 1) 6 with host := { dma := [{ inst := 0, q := 1, index := 7, cmd := { op := 1, flags := 1, tier := 3, len := 64, host := 128, dev := 192, tag := 0 }, at_ := 0 }] } }), 0, _, 0, 1, 7, ({ inst := 0, q := 1, index := 7, cmd := { op := 1, flags := 1, tier := 3, len := 64, host := 128, dev := 192, tag := 0 }, at_ := 0 }), [], rfl, by decide +kernel⟩

theorem witness_TenantsDmaAndVectors_14 : ∃ (s : State) (c : Fin 8) (ch : Chan) (inst : Fin 17) (q : Fin 4) (n : BitVec 16) (r : DmaRun), s.chan c = ch ∧ ch.clocked = true ∧ ch.dmaFind inst q n.toNat = some r ∧ r.cmd.op = 1 ∧ ch.since r.at_ (10 * msG) = true :=
  ⟨(st fun ch => { ch.wr (R.CHN_HQ_BASE 1) 6 with host := { dma := [{ inst := 0, q := 1, index := 7, cmd := { op := 1, flags := 1, tier := 3, len := 64, host := 128, dev := 192, tag := 0 }, at_ := 0 }] } }), 0, _, 0, 1, 7, ({ inst := 0, q := 1, index := 7, cmd := { op := 1, flags := 1, tier := 3, len := 64, host := 128, dev := 192, tag := 0 }, at_ := 0 }), rfl, by decide +kernel⟩

theorem witness_TenantsDmaAndVectors_15 : ∃ (s : State) (c : Fin 8) (ch : Chan) (inst : Fin 17) (q : Fin 4) (n : BitVec 16) (r : DmaRun), s.chan c = ch ∧ ch.clocked = true ∧ ch.dmaFind inst q n.toNat = some r ∧ (r.cmd.op ≠ 1 ∨ ch.since r.at_ (10 * msG) = false) :=
  ⟨(st fun ch => { ch.wr (R.CHN_HQ_BASE 1) 6 with host := { dma := [{ inst := 0, q := 1, index := 7, cmd := { op := 2, flags := 1, tier := 3, len := 64, host := 128, dev := 192, tag := 0 }, at_ := 0 }] } }), 0, _, 0, 1, 7, ({ inst := 0, q := 1, index := 7, cmd := { op := 2, flags := 1, tier := 3, len := 64, host := 128, dev := 192, tag := 0 }, at_ := 0 }), rfl, by decide +kernel⟩

theorem witness_TenantsDmaAndVectors_16 : ∃ (s : State) (c : Fin 8) (ch : Chan) (inst : Fin 17) (vec : Fin 64) (u : Nat), s.chan c = ch ∧ ch.isOn = true ∧ ch.ev.vecDue.contains (vecKey inst vec) = true ∧ sget (fun _ => none) ch.ev.vecAt (vecKey inst vec) = some u ∧ ch.since u (ch.holdoff inst vec * usG) = true :=
  ⟨(st fun ch => { ch with ev := { vecDue := [1], vecAt := [(1, some 7)] } }), 0, _, 0, 1, 7, rfl, by decide +kernel⟩

theorem witness_TenantsDmaAndVectors_17 : ∃ (s : State) (c : Fin 8) (ch : Chan) (inst : Fin 17) (vec : Fin 64) (u : Nat), s.chan c = ch ∧ ch.isOn = true ∧ sget (fun _ => none) ch.ev.vecAt (vecKey inst vec) = some u ∧ ch.since u (ch.holdoff inst vec * usG) = false :=
  ⟨(st fun ch => { ch.setFld R.CHN_EVQ_CTRL F.CHN_EVQ_CTRL_holdoff 10 with ev := { vecDue := [1], vecAt := [(1, some 62999999999)] } }), 0, _, 0, 1, 62999999999, rfl, by decide +kernel⟩

theorem witness_BootPicksAnImageAndConfigures_1 : ∃ (s : State) (c : Fin 8) (ch : Chan) (fl fu : Bool), s.chan c = ch ∧ s.hubRuns = true ∧ ((ch.pwr.power = .ramping ∧ ch.since ch.pwr.since (rampGrains c) = true) ∨ (ch.pwr.power = .inReset ∧ ch.since ch.pwr.since (10 * usG) = true)) ∧ (fl = false ∨ fu = false) :=
  ⟨(st fun ch => { ch with pwr := { power := .inReset, since := 5 } }), 0, _, false, true, rfl, by decide +kernel⟩

theorem witness_BootPicksAnImageAndConfigures_2 : ∃ (s : State) (c : Fin 8) (ch : Chan) (first r1 r2 : Nat), s.chan c = ch ∧ s.hubRuns = true ∧ ((ch.pwr.power = .ramping ∧ ch.since ch.pwr.since (rampGrains c) = true) ∨ (ch.pwr.power = .inReset ∧ ch.since ch.pwr.since (10 * usG) = true)) ∧ (if imgSeq (ch.flash.bytes 0 0 1024) < imgSeq (ch.flash.bytes 1 0 1024) then 1 else 0) = first ∧ ch.bankReason first true true = r1 ∧ (if r1 = 0 then 0 else ch.bankReason (1 - first) true true) = r2 :=
  ⟨(st fun ch => { ch with pwr := { power := .inReset, since := 5 } }), 0, _, 0, ((st fun ch => { ch with pwr := { power := .inReset, since := 5 } }).chan 0).bankReason 0 true true, (if ((st fun ch => { ch with pwr := { power := .inReset, since := 5 } }).chan 0).bankReason 0 true true = 0 then 0 else ((st fun ch => { ch with pwr := { power := .inReset, since := 5 } }).chan 0).bankReason (1 - 0) true true), rfl, by decide +kernel, by decide +kernel, rfl, rfl, rfl⟩

theorem witness_BootPicksAnImageAndConfigures_3 : ∃ (s : State) (c : Fin 8) (ch : Chan) (t3f : Bool), s.chan c = ch ∧ ch.isOn = true ∧ (ch.boot.state ≠ .booting ∨ ch.boot.configDone = true ∨ ch.t2State = 4 ∨ (t3f = false ∧ ch.t3Up = false)) :=
  ⟨live, 0, _, true, rfl, by decide +kernel⟩

theorem witness_BootPicksAnImageAndConfigures_4 : ∃ (s : State) (c : Fin 8) (ch : Chan) (t3f : Bool), s.chan c = ch ∧ ch.isOn = true ∧ ch.boot.state = .booting ∧ ch.boot.configDone = false ∧ ch.t2State ≠ 4 ∧ (t3f = true ∨ ch.t3Up = true) ∧ ch.bootSections 3 = [] :=
  ⟨(st fun ch => { ch.setFld R.MEM_STATUS F.MEM_STATUS_t2_state 0 with boot := { state := .booting } }), 0, _, true, rfl, by decide +kernel⟩

theorem witness_BootPicksAnImageAndConfigures_5 : ∃ (s : State) (c : Fin 8) (ch : Chan) (t3f : Bool) (x : ImgSection) (xs : List ImgSection) (r : List Byte) (n : Nat), s.chan c = ch ∧ ch.isOn = true ∧ ch.boot.state = .booting ∧ ch.boot.configDone = false ∧ ch.t2State ≠ 4 ∧ (t3f = true ∨ ch.t3Up = true) ∧ ch.bootSections 3 = x :: xs ∧ slice (ch.sectionBytes x) (24 * ch.boot.configAt) 24 = r ∧ (ch.sectionBytes x).length / 24 - ch.boot.configAt = n + 1 ∧ le r 0 1 = 0 :=
  ⟨(confState (recEnd)), 0, _, true, (confSec (recEnd)), [], recEnd, 0, rfl, by decide +kernel⟩

theorem witness_BootPicksAnImageAndConfigures_6 : ∃ (s : State) (c : Fin 8) (ch : Chan) (t3f : Bool) (x : ImgSection) (xs : List ImgSection) (r : List Byte) (n : Nat), s.chan c = ch ∧ ch.isOn = true ∧ ch.boot.state = .booting ∧ ch.boot.configDone = false ∧ ch.t2State ≠ 4 ∧ (t3f = true ∨ ch.t3Up = true) ∧ ch.bootSections 3 = x :: xs ∧ slice (ch.sectionBytes x) (24 * ch.boot.configAt) 24 = r ∧ (ch.sectionBytes x).length / 24 - ch.boot.configAt = n + 1 ∧ le r 0 1 = 1 ∧ le r 4 4 < 0x2000000 :=
  ⟨(confState (recSet)), 0, _, true, (confSec (recSet)), [], recSet, 0, rfl, by decide +kernel⟩

theorem witness_BootPicksAnImageAndConfigures_7 : ∃ (s : State) (c : Fin 8) (ch : Chan) (t3f : Bool) (x : ImgSection) (xs : List ImgSection) (r : List Byte) (n : Nat), s.chan c = ch ∧ ch.isOn = true ∧ ch.boot.state = .booting ∧ ch.boot.configDone = false ∧ ch.t2State ≠ 4 ∧ (t3f = true ∨ ch.t3Up = true) ∧ ch.bootSections 3 = x :: xs ∧ slice (ch.sectionBytes x) (24 * ch.boot.configAt) 24 = r ∧ (ch.sectionBytes x).length / 24 - ch.boot.configAt = n + 1 ∧ (le r 0 1 = 1 ∨ le r 0 1 = 2) ∧ 0x2000000 ≤ le r 4 4 :=
  ⟨(confState (putBytes recSet 7 [2])), 0, _, true, (confSec (putBytes recSet 7 [2])), [], (putBytes recSet 7 [2]), 0, rfl, by decide +kernel⟩

theorem witness_BootPicksAnImageAndConfigures_8 : ∃ (s : State) (c : Fin 8) (ch : Chan) (t3f : Bool) (x : ImgSection) (xs : List ImgSection) (r : List Byte) (n : Nat), s.chan c = ch ∧ ch.isOn = true ∧ ch.boot.state = .booting ∧ ch.boot.configDone = false ∧ ch.t2State ≠ 4 ∧ (t3f = true ∨ ch.t3Up = true) ∧ ch.bootSections 3 = x :: xs ∧ slice (ch.sectionBytes x) (24 * ch.boot.configAt) 24 = r ∧ (ch.sectionBytes x).length / 24 - ch.boot.configAt = n + 1 ∧ le r 0 1 = 2 ∧ le r 4 4 < 0x2000000 ∧ ch.readReg 0 (le r 4 4) (s.priv c) &&& BitVec.ofNat 64 (le r 16 8) = BitVec.ofNat 64 (le r 8 8) :=
  ⟨(confState ([2] ++ List.replicate 23 0)), 0, _, true, (confSec ([2] ++ List.replicate 23 0)), [], ([2] ++ List.replicate 23 0), 0, rfl, by decide +kernel⟩

theorem witness_BootPicksAnImageAndConfigures_9 : ∃ (s : State) (c : Fin 8) (ch : Chan) (t3f : Bool) (x : ImgSection) (xs : List ImgSection) (r : List Byte) (n : Nat), s.chan c = ch ∧ ch.isOn = true ∧ ch.boot.state = .booting ∧ ch.boot.configDone = false ∧ ch.t2State ≠ 4 ∧ (t3f = true ∨ ch.t3Up = true) ∧ ch.bootSections 3 = x :: xs ∧ slice (ch.sectionBytes x) (24 * ch.boot.configAt) 24 = r ∧ (ch.sectionBytes x).length / 24 - ch.boot.configAt = n + 1 ∧ le r 0 1 = 2 ∧ le r 4 4 < 0x2000000 ∧ ch.readReg 0 (le r 4 4) (s.priv c) &&& BitVec.ofNat 64 (le r 16 8) ≠ BitVec.ofNat 64 (le r 8 8) :=
  ⟨(confState (recWait)), 0, _, true, (confSec (recWait)), [], recWait, 0, rfl, by decide +kernel⟩

theorem witness_BootPicksAnImageAndConfigures_10 : ∃ (s : State) (c : Fin 8) (ch : Chan) (t3f : Bool) (x : ImgSection) (xs : List ImgSection) (r : List Byte) (n : Nat), s.chan c = ch ∧ ch.isOn = true ∧ ch.boot.state = .booting ∧ ch.boot.configDone = false ∧ ch.t2State ≠ 4 ∧ (t3f = true ∨ ch.t3Up = true) ∧ ch.bootSections 3 = x :: xs ∧ slice (ch.sectionBytes x) (24 * ch.boot.configAt) 24 = r ∧ (ch.sectionBytes x).length / 24 - ch.boot.configAt = n + 1 ∧ 2 < le r 0 1 :=
  ⟨(confState (putBytes recSet 0 [3])), 0, _, true, (confSec (putBytes recSet 0 [3])), [], (putBytes recSet 0 [3]), 0, rfl, by decide +kernel⟩

theorem witness_BootPicksAnImageAndConfigures_11 : ∃ (s : State) (c : Fin 8) (ch : Chan) (k : Nat) (ks : List Nat), s.chan c = ch ∧ ch.isOn = true ∧ ch.boot.state = .booting ∧ ch.boot.configDone = true ∧ ch.models.staging = none ∧ ch.boot.models = k :: ks :=
  ⟨(st fun ch => { ch with boot := { state := .booting, configDone := true, models := [0, 1] } }), 0, _, 0, [1], rfl, by decide +kernel⟩

theorem witness_BootPicksAnImageAndConfigures_12 : ∃ (s : State) (c : Fin 8) (ch : Chan), s.chan c = ch ∧ ch.isOn = true ∧ ch.boot.state = .booting ∧ ch.boot.configDone = true ∧ ch.models.staging = none ∧ ch.boot.models = [] :=
  ⟨(st fun ch => { ch with boot := { state := .booting, configDone := true, onTrial := true }, flash := { trial := some 1 } }), 0, _, rfl, by decide +kernel⟩

theorem witness_BootPicksAnImageAndConfigures_13 : ∃ (s : State) (c : Fin 8) (ch : Chan), s.chan c = ch ∧ ch.isOn = true ∧ (ch.boot.state ≠ .booting ∨ ch.boot.configDone = false ∨ ch.models.staging ≠ none) :=
  ⟨live, 0, _, rfl, by decide +kernel⟩

theorem witness_BootPicksAnImageAndConfigures_14 : ∃ (s : State) (c : Fin 8) (ch : Chan), s.chan c = ch ∧ ch.isOn = true ∧ ch.boot.state = .booting ∧ ch.boot.onTrial = true ∧ ch.since ch.boot.at_ (10000 * msG) = true :=
  ⟨(st fun ch => { ch with now := 1630000000000, boot := { state := .booting, onTrial := true } }), 0, _, rfl, by decide +kernel⟩

theorem witness_BootPicksAnImageAndConfigures_15 : ∃ (s : State) (c : Fin 8) (ch : Chan), s.chan c = ch ∧ ch.isOn = true ∧ (ch.boot.state ≠ .booting ∨ ch.boot.onTrial = false ∨ ch.since ch.boot.at_ (10000 * msG) = false) :=
  ⟨live, 0, _, rfl, by decide +kernel⟩

theorem witness_ImageAndFuseCommands_1 : ∃ (s : State) (c : Fin 8) (ch : Chan), s.chan c = ch ∧ s.hubRuns = true ∧ s.hub.program = none ∧ (ch.isOn = false ∨ (ch.boot.state ≠ .ready ∧ ch.boot.state ≠ .quarantine)) :=
  ⟨live, 3, _, rfl, by decide +kernel⟩

theorem witness_ImageAndFuseCommands_2 : ∃ (s : State) (c : Fin 8) (ch : Chan) (why : Nat), s.chan c = ch ∧ s.hubRuns = true ∧ s.hub.program = none ∧ ch.isOn = true ∧ (ch.boot.state = .ready ∨ ch.boot.state = .quarantine) ∧ (ch.imageReason fun o n => ch.bytes 1 chanKey (s.hub.fld R.BOOT_SRC F.BOOT_SRC_address / 4096 * 4096 + o) n) = why :=
  ⟨live, 0, _, (live.chan 0).imageReason fun o n => (live.chan 0).bytes 1 chanKey (live.hub.fld R.BOOT_SRC F.BOOT_SRC_address / 4096 * 4096 + o) n, rfl, by decide +kernel, by decide +kernel, by decide +kernel, by decide +kernel, rfl⟩

theorem witness_ImageAndFuseCommands_3 : ∃ (s : State) (c : Fin 8) (ch : Chan) (err : Bool) (img : List Byte) (b : Nat), s.chan c = ch ∧ s.hub.program = some c.val ∧ ch.boot.program = some (img, b) :=
  ⟨({ (st fun ch => { ch with boot := { state := .programming, bank := 0, program := some ([1, 2, 3], 1) } }) with hub := { live.hub with program := some 0 } }), 0, _, false, ([1, 2, 3]), 1, rfl, by decide +kernel⟩

theorem witness_ImageAndFuseCommands_4 : ∃ (s : State) (c : Fin 8) (ch : Chan), s.chan c = ch ∧ s.hubRuns = true ∧ s.hub.program = none ∧ ch.isOn = true ∧ (∀ d : Fin 8, d ≠ c → (s.chan d).boot.state ≠ .booting) :=
  ⟨live, 0, _, rfl, by decide +kernel⟩

theorem witness_ImageAndFuseCommands_5 : ∃ (s : State) (c : Fin 8) (ch : Chan), s.chan c = ch ∧ s.hubRuns = true ∧ s.hub.program = none ∧ ((∀ d : Fin 8, d ≠ c → (s.chan d).boot.state ≠ .booting) → ch.isOn = false) :=
  ⟨live, 1, _, rfl, by decide +kernel⟩

theorem witness_ImageAndFuseCommands_6 : ∃ (s : State) (c : Fin 8) (ch : Chan), s.chan c = ch ∧ s.hubRuns = true ∧ s.hub.program = none ∧ ch.isOn = true ∧ ch.boot.state = .ready :=
  ⟨(st fun ch => { ch with boot := { state := .ready, header := List.replicate 16 0 ++ [9] } }), 0, _, rfl, by decide +kernel⟩

theorem witness_ImageAndFuseCommands_7 : ∃ (s : State) (c : Fin 8) (ch : Chan), s.chan c = ch ∧ s.hubRuns = true ∧ s.hub.program = none ∧ (ch.isOn = false ∨ ch.boot.state ≠ .ready) :=
  ⟨live, 1, _, rfl, by decide +kernel⟩

theorem witness_ImageAndFuseCommands_8 : ∃ (s : State) (c : Fin 8) (ch : Chan) (slot : Fin 8) (ok : Bool), s.chan c = ch ∧ s.hubRuns = true ∧ ch.isOn = true ∧ ch.fuses.programmed.testBit slot = false :=
  ⟨live, 0, _, 7, true, rfl, by decide +kernel⟩

theorem witness_ImageAndFuseCommands_9 : ∃ (s : State) (c : Fin 8) (ch : Chan) (slot : Fin 8) (ok : Bool), s.chan c = ch ∧ s.hubRuns = true ∧ ch.fuses.programmed.testBit slot = true :=
  ⟨(st fun ch => { ch with fuses := { programmed := 128 } }), 0, _, 7, true, rfl, by decide +kernel⟩

theorem witness_ImageAndFuseCommands_10 : ∃ (s : State) (c : Fin 8) (ch : Chan) (slot : Fin 8) (ok : Bool), s.chan c = ch ∧ s.hubRuns = true ∧ ch.fuses.programmed.testBit slot = false ∧ ch.isOn = false :=
  ⟨live, 1, _, 7, true, rfl, by decide +kernel⟩

theorem witness_ImageAndFuseCommands_11 : ∃ (s : State) (c : Fin 8) (ch : Chan) (slot : Fin 8), s.chan c = ch ∧ s.hubRuns = true ∧ ch.isOn = true ∧ ch.fuses.live slot ≠ [slot.val] :=
  ⟨(st fun ch => { ch with fuses := { programmed := 3 } }), 0, _, 1, rfl, by decide +kernel⟩

theorem witness_ImageAndFuseCommands_12 : ∃ (s : State) (c : Fin 8) (ch : Chan) (slot : Fin 8) (ok : Bool), s.chan c = ch ∧ s.hubRuns = true ∧ ch.fuses.live slot = [slot.val] :=
  ⟨(st fun ch => { ch with fuses := { programmed := 18 } }), 0, _, 4, true, rfl, by decide +kernel⟩

theorem witness_ImageAndFuseCommands_13 : ∃ (s : State) (c : Fin 8) (ch : Chan) (slot : Fin 8) (ok : Bool), s.chan c = ch ∧ s.hubRuns = true ∧ ch.fuses.live slot ≠ [slot.val] ∧ (ch.isOn = false ∨ ok = false) :=
  ⟨live, 0, _, 4, false, rfl, by decide +kernel⟩

theorem witness_ImageAndFuseCommands_14 : ∃ (s : State) (c : Fin 8) (ch : Chan) (ok : Bool), s.chan c = ch ∧ s.hubRuns = true ∧ ch.isOn = true ∧ ch.fuses.deviceId = 0 :=
  ⟨({ live with hub := live.hub.wr (R.BOOT_FUSE_DATA 0) 0x1234567890ABCDEF }), 0, _, true, rfl, by decide +kernel⟩

theorem witness_ImageAndFuseCommands_15 : ∃ (s : State) (c : Fin 8) (ch : Chan) (ok : Bool), s.chan c = ch ∧ s.hubRuns = true ∧ ch.fuses.deviceId ≠ 0 :=
  ⟨(st fun ch => { ch with fuses := { deviceId := 5 } }), 0, _, true, rfl, by decide +kernel⟩

theorem witness_ImageAndFuseCommands_16 : ∃ (s : State) (c : Fin 8) (ch : Chan) (ok : Bool), s.chan c = ch ∧ s.hubRuns = true ∧ ch.fuses.deviceId = 0 ∧ ch.isOn = false :=
  ⟨live, 2, _, true, rfl, by decide +kernel⟩

theorem witness_AttestationRequestsAndReports_1 : ∃ (s : State) (c : Fin 8) (ch : Chan) (src : Option (Fin 17)) (v : Word) (inst : Nat), s.chan c = ch ∧ s.reaches src c R.LDS_ATT_REQ = true ∧ writerInst src = inst ∧ ch.boot.requests.contains inst = true ∧ getF v F.LDS_ATT_REQ_start = 1 :=
  ⟨(st fun ch => { ch with boot := { state := .ready, requests := [0] } }), 0, _, (some 0), (setF 0 F.LDS_ATT_REQ_start 1), 0, rfl, by decide +kernel⟩

theorem witness_AttestationRequestsAndReports_2 : ∃ (s : State) (c : Fin 8) (ch : Chan) (src : Option (Fin 17)) (v : Word) (inst : Nat), s.chan c = ch ∧ s.reaches src c R.LDS_ATT_REQ = true ∧ writerInst src = inst ∧ ch.boot.requests.contains inst = true ∧ getF v F.LDS_ATT_REQ_start = 0 :=
  ⟨(st fun ch => { ch with boot := { state := .ready, requests := [0] } }), 0, _, (some 0), 0, 0, rfl, by decide +kernel⟩

theorem witness_AttestationRequestsAndReports_3 : ∃ (s : State) (c : Fin 8) (ch : Chan) (src : Option (Fin 17)) (v : Word) (inst : Nat), s.chan c = ch ∧ s.reaches src c R.LDS_ATT_REQ = true ∧ writerInst src = inst ∧ ch.boot.requests.contains inst = false ∧ getF v F.LDS_ATT_REQ_start = 0 :=
  ⟨live, 0, _, (some 0), (setF 0 F.LDS_ATT_REQ_scope 1), 0, rfl, by decide +kernel⟩

theorem witness_AttestationRequestsAndReports_4 : ∃ (s : State) (c : Fin 8) (ch : Chan) (src : Option (Fin 17)) (v : Word) (inst : Nat) (n : Nat), s.chan c = ch ∧ s.reaches src c R.LDS_ATT_REQ = true ∧ writerInst src = inst ∧ ch.boot.requests.contains inst = false ∧ getF v F.LDS_ATT_REQ_start = 1 ∧ (if aliasLimit ≤ ch.boot.nextQ then 2 else if ch.boot.stateLost then 3 else if ch.attDestOk inst then 0 else 4) = n ∧ n ≠ 0 :=
  ⟨live, 0, _, (some 0), (setF 0 F.LDS_ATT_REQ_start 1), 0, 4, rfl, by decide +kernel⟩

theorem witness_AttestationRequestsAndReports_5 : ∃ (s : State) (c : Fin 8) (ch : Chan) (src : Option (Fin 17)) (v : Word) (inst : Nat), s.chan c = ch ∧ s.reaches src c R.LDS_ATT_REQ = true ∧ writerInst src = inst ∧ ch.boot.requests.contains inst = false ∧ getF v F.LDS_ATT_REQ_start = 1 ∧ ch.boot.nextQ < aliasLimit ∧ ch.boot.stateLost = false ∧ ch.attDestOk inst = true :=
  ⟨(st attChan), 0, _, (some 0), (setF 0 F.LDS_ATT_REQ_start 1), 0, rfl, by decide +kernel⟩

theorem witness_AttestationRequestsAndReports_6 : ∃ (s : State) (c : Fin 8) (ch : Chan), s.chan c = ch ∧ (ch.attDue = false ∨ ch.boot.requests = []) :=
  ⟨live, 0, _, rfl, by decide +kernel⟩

theorem witness_AttestationRequestsAndReports_7 : ∃ (s : State) (c : Fin 8) (ch : Chan) (inst : Nat) (rest : List Nat), s.chan c = ch ∧ ch.attDue = true ∧ ch.boot.requests = inst :: rest ∧ aliasLimit ≤ ch.boot.nextQ :=
  ⟨(st (fun ch => { attChan ch with boot := { state := .ready, requests := [0, 3], nextQ := 1073741824 } })), 0, _, 0, [3], rfl, by decide +kernel⟩

theorem witness_AttestationRequestsAndReports_8 : ∃ (s : State) (c : Fin 8) (ch : Chan) (inst : Nat) (rest : List Nat), s.chan c = ch ∧ ch.attDue = true ∧ ch.boot.requests = inst :: rest ∧ ch.boot.nextQ < aliasLimit ∧ ch.attDestOk inst = false :=
  ⟨(st fun ch => { ch with boot := { state := .ready, requests := [0, 3] } }), 0, _, 0, [3], rfl, by decide +kernel⟩

theorem witness_AttestationRequestsAndReports_9 : ∃ (s : State) (c : Fin 8) (ch : Chan) (inst : Nat) (rest : List Nat), s.chan c = ch ∧ ch.attDue = true ∧ ch.boot.requests = inst :: rest ∧ ch.boot.nextQ < aliasLimit ∧ ch.attDestOk inst = true :=
  ⟨(st (fun ch => { attChan ch with boot := { state := .ready, requests := [0, 3], nextQ := 7 } })), 0, _, 0, [3], rfl, by decide +kernel⟩

theorem witness_PowerStates_1 : ∃ (s : State) (c : Fin 8) (ch : Chan) (u : Nat), s.chan c = ch ∧ ch.clocked = true ∧ ch.pwr.idleSince = some u ∧ ch.pwrState = 0 ∧ ch.sinceC u 64 = true ∧ ch.idleHolds = true :=
  ⟨(st fun ch => { (ch.setFlag R.PWR_CTRL F.PWR_CTRL_idle_enable true) with pwr := { ch.pwr with idleSince := some 7 } }), 0, _, 7, rfl, by decide +kernel⟩

theorem witness_PowerStates_2 : ∃ (s : State) (c : Fin 8) (ch : Chan), s.chan c = ch ∧ ch.isOn = true ∧ (ch.clocked = false ∨ ch.pwr.idleSince = none ∨ ch.pwrState ≠ 0 ∨ ch.idleHolds = false) :=
  ⟨live, 0, _, rfl, by decide +kernel⟩

theorem witness_PowerStates_3 : ∃ (s : State) (c : Fin 8) (ch : Chan) (u : Nat), s.chan c = ch ∧ ch.isOn = true ∧ ch.pwr.idleSince = some u ∧ ch.sinceC u 64 = false :=
  ⟨(st fun ch => { ch with pwr := { ch.pwr with idleSince := some ch.now } }), 0, _, (live.chan 0).now, rfl, by decide +kernel⟩

theorem witness_PowerStates_4 : ∃ (s : State) (c : Fin 8) (ch : Chan), s.chan c = ch ∧ ch.isOn = true ∧ ch.pwrState = 1 ∧ (ch.idleHolds = false ∨ ch.timerDue = true) :=
  ⟨(st fun ch => ch.setPwrState 1), 0, _, rfl, by decide +kernel⟩

theorem witness_PowerStates_5 : ∃ (s : State) (c : Fin 8) (ch : Chan), s.chan c = ch ∧ ch.isOn = true ∧ (ch.pwrState = 1 → ch.idleHolds = true ∧ ch.timerDue = false) :=
  ⟨live, 0, _, rfl, by decide +kernel⟩

theorem witness_PowerStates_6 : ∃ (s : State) (c : Fin 8) (ch : Chan) (src : Option (Fin 17)), s.chan c = ch ∧ s.reaches src c R.PWR_CTRL = true ∧ ch.flag R.PWR_CTRL F.PWR_CTRL_go = true :=
  ⟨(st fun ch => ch.setFlag R.PWR_CTRL F.PWR_CTRL_go true), 0, _, none, rfl, by decide +kernel⟩

theorem witness_PowerStates_7 : ∃ (s : State) (c : Fin 8) (ch : Chan) (src : Option (Fin 17)), s.chan c = ch ∧ s.reaches src c R.PWR_CTRL = true ∧ ch.flag R.PWR_CTRL F.PWR_CTRL_go = false ∧ (ch.safeServe = true ∨ ch.pwr.entering ≠ none) :=
  ⟨(st fun ch => ch.setFlag R.PWR_STATUS F.PWR_STATUS_safe_serve true), 0, _, (some 0), rfl, by decide +kernel⟩

theorem witness_PowerStates_8 : ∃ (s : State) (c : Fin 8) (ch : Chan) (src : Option (Fin 17)), s.chan c = ch ∧ s.reaches src c R.PWR_CTRL = true ∧ ch.flag R.PWR_CTRL F.PWR_CTRL_go = false ∧ ch.safeServe = false ∧ ch.pwr.entering = none ∧ ch.pwrState < 2 :=
  ⟨(st fun ch => ch.setPwrState 1), 0, _, (some 0), rfl, by decide +kernel⟩

theorem witness_PowerStates_9 : ∃ (s : State) (c : Fin 8) (ch : Chan) (src : Option (Fin 17)), s.chan c = ch ∧ s.reaches src c R.PWR_CTRL = true ∧ ch.flag R.PWR_CTRL F.PWR_CTRL_go = false ∧ ch.safeServe = false ∧ ch.pwr.entering = none ∧ 2 ≤ ch.pwrState ∧ ch.pwr.waking = none :=
  ⟨(st fun ch => ch.setPwrState 2), 0, _, none, rfl, by decide +kernel⟩

theorem witness_PowerStates_10 : ∃ (s : State) (c : Fin 8) (ch : Chan) (src : Option (Fin 17)), s.chan c = ch ∧ s.reaches src c R.PWR_CTRL = true ∧ ch.flag R.PWR_CTRL F.PWR_CTRL_go = true :=
  ⟨(st fun ch => ch.setFlag R.PWR_CTRL F.PWR_CTRL_go true), 0, _, none, rfl, by decide +kernel⟩

theorem witness_PowerStates_11 : ∃ (s : State) (c : Fin 8) (ch : Chan) (src : Option (Fin 17)), s.chan c = ch ∧ s.reaches src c R.PWR_CTRL = true ∧ ch.flag R.PWR_CTRL F.PWR_CTRL_go = false ∧ (ch.safeServe = true ∨ ch.pwr.entering ≠ none ∨ 2 ≤ ch.pwrState ∨ ch.sleepHolds = false) :=
  ⟨(st fun ch => ch.setFlag R.PWR_STATUS F.PWR_STATUS_safe_serve true), 0, _, (some 0), rfl, by decide +kernel⟩

theorem witness_PowerStates_12 : ∃ (s : State) (c : Fin 8) (ch : Chan) (src : Option (Fin 17)), s.chan c = ch ∧ s.reaches src c R.PWR_CTRL = true ∧ ch.flag R.PWR_CTRL F.PWR_CTRL_go = false ∧ ch.safeServe = false ∧ ch.pwr.entering = none ∧ ch.pwrState < 2 ∧ ch.sleepHolds = true :=
  ⟨(st fun ch => (ch.setFlag R.PWR_CTRL F.PWR_CTRL_idle_enable true)), 0, _, (some 0), rfl, by decide +kernel⟩

theorem witness_PowerStates_13 : ∃ (s : State) (c : Fin 8) (ch : Chan) (src : Option (Fin 17)), s.chan c = ch ∧ s.reaches src c R.PWR_CTRL = true ∧ ch.flag R.PWR_CTRL F.PWR_CTRL_go = true :=
  ⟨(st fun ch => ch.setFlag R.PWR_CTRL F.PWR_CTRL_go true), 0, _, none, rfl, by decide +kernel⟩

theorem witness_PowerStates_14 : ∃ (s : State) (c : Fin 8) (ch : Chan) (src : Option (Fin 17)), s.chan c = ch ∧ s.reaches src c R.PWR_CTRL = true ∧ ch.flag R.PWR_CTRL F.PWR_CTRL_go = false ∧ (ch.safeServe = true ∨ ch.pwr.entering ≠ none ∨ 2 ≤ ch.pwrState ∨ ch.sleepHolds = false) :=
  ⟨(st fun ch => ch.setFlag R.PWR_STATUS F.PWR_STATUS_safe_serve true), 0, _, (some 0), rfl, by decide +kernel⟩

theorem witness_PowerStates_15 : ∃ (s : State) (c : Fin 8) (ch : Chan) (src : Option (Fin 17)), s.chan c = ch ∧ s.reaches src c R.PWR_CTRL = true ∧ ch.flag R.PWR_CTRL F.PWR_CTRL_go = false ∧ ch.safeServe = false ∧ ch.pwr.entering = none ∧ ch.pwrState < 2 ∧ ch.sleepHolds = true :=
  ⟨(st fun ch => (ch.setFlag R.PWR_CTRL F.PWR_CTRL_idle_enable true)), 0, _, (some 0), rfl, by decide +kernel⟩

theorem witness_PowerStates_16 : ∃ (s : State) (c : Fin 8) (ch : Chan) (g u : Nat), s.chan c = ch ∧ ch.isOn = true ∧ ch.pwr.entering = some (g, u) ∧ ch.sleepHolds = true :=
  ⟨(st fun ch => { (ch.setFlag R.PWR_CTRL F.PWR_CTRL_idle_enable true) with pwr := { ch.pwr with entering := some (2, 5) } }), 0, _, 2, 5, rfl, by decide +kernel⟩

theorem witness_PowerStates_17 : ∃ (s : State) (c : Fin 8) (ch : Chan) (g u : Nat), s.chan c = ch ∧ ch.isOn = true ∧ ch.pwr.entering = some (g, u) ∧ ch.sleepHolds = false :=
  ⟨(st fun ch => { ch.setFlag R.PWR_CTRL F.PWR_CTRL_idle_enable false with pwr := { ch.pwr with entering := some (1, 5) } }), 0, _, 1, 5, rfl, by decide +kernel⟩

theorem witness_PowerStates_18 : ∃ (s : State) (c : Fin 8) (ch : Chan), s.chan c = ch ∧ ch.isOn = true ∧ ch.pwr.entering = none :=
  ⟨live, 0, _, rfl, by decide +kernel⟩

theorem witness_PowerStates_19 : ∃ (s : State) (c : Fin 8) (ch : Chan) (inst : Fin 17) (off : Nat) (v : Option Word), s.chan c = ch ∧ ch.isOn = true ∧ ch.fnLive inst = true ∧ 2 ≤ ch.pwrState :=
  ⟨(st fun ch => ch.setPwrState 3), 0, _, 0, 8, (some 5), rfl, by decide +kernel⟩

theorem witness_PowerStates_20 : ∃ (s : State) (c : Fin 8) (ch : Chan) (inst : Fin 17) (off : Nat) (v : Option Word), s.chan c = ch ∧ ch.isOn = true ∧ (ch.fnLive inst = false ∨ ch.pwrState < 2) :=
  ⟨live, 0, _, 0, 8, (some 5), rfl, by decide +kernel⟩

theorem witness_PowerStates_21 : ∃ (s : State) (c : Fin 8) (ch : Chan) (w : Nat × Nat), s.chan c = ch ∧ ch.isOn = true ∧ ch.pwr.waking = some w :=
  ⟨(st fun ch => { ch.setPwrState 2 with pwr := { ch.pwr with waking := some (2, 5), since := 9 }, chk := { digestAt := 4 }, host := { held := [(0, R.PDP_FAIL_POLICY, some 0), (0, R.PDP_FAIL_POLICY, none)] } }), 0, _, (2, 5), rfl, by decide +kernel⟩

theorem witness_PowerStates_22 : ∃ (s : State) (c : Fin 8) (ch : Chan), s.chan c = ch ∧ ch.isOn = true ∧ ch.pwr.waking = none :=
  ⟨live, 0, _, rfl, by decide +kernel⟩

theorem witness_OperatingPointsAndTemperature_1 : ∃ (s : State) (c : Fin 8) (ch : Chan) (src : Option (Fin 17)) (v : Word), s.chan c = ch ∧ s.reaches src c R.PWR_OPP_REQ = true ∧ (ch.clocked = false ∨ ch.pwr.opp ≠ none ∨ max (getF v F.PWR_OPP_REQ_point) ch.floorPoint = ch.point) :=
  ⟨live, 0, _, (some 0), 0, rfl, by decide +kernel⟩

theorem witness_OperatingPointsAndTemperature_2 : ∃ (s : State) (c : Fin 8) (ch : Chan) (src : Option (Fin 17)) (v : Word) (n : Nat), s.chan c = ch ∧ s.reaches src c R.PWR_OPP_REQ = true ∧ ch.clocked = true ∧ ch.pwr.opp = none ∧ max (getF v F.PWR_OPP_REQ_point) ch.floorPoint = n ∧ n ≠ ch.point :=
  ⟨live, 0, _, (some 0), 3, 3, rfl, by decide +kernel⟩

theorem witness_OperatingPointsAndTemperature_3 : ∃ (s : State) (c : Fin 8) (ch : Chan) (o : OppChange), s.chan c = ch ∧ ch.clocked = true ∧ ch.pwr.opp = some o ∧ o.switched = false ∧ (o.raising = true → o.ramped = true) :=
  ⟨(st fun ch => ch.setFld R.PWR_STATUS F.PWR_STATUS_point 2 |> fun ch => { ch with pwr := { ch.pwr with opp := some { target := 1, raising := true, at_ := 5, ramped := true } } }), 0, _, ({ target := 1, raising := true, at_ := 5, ramped := true }), rfl, by decide +kernel⟩

theorem witness_OperatingPointsAndTemperature_4 : ∃ (s : State) (c : Fin 8) (ch : Chan), s.chan c = ch ∧ ch.isOn = true ∧ (ch.clocked = false ∨ ch.pwr.opp = none) :=
  ⟨live, 0, _, rfl, by decide +kernel⟩

theorem witness_OperatingPointsAndTemperature_5 : ∃ (s : State) (c : Fin 8) (ch : Chan) (o : OppChange), s.chan c = ch ∧ ch.isOn = true ∧ ch.pwr.opp = some o ∧ (o.switched = true ∨ (o.raising = true ∧ o.ramped = false)) :=
  ⟨(st fun ch => { ch with pwr := { ch.pwr with opp := some { target := 1, raising := true, at_ := 5 } } }), 0, _, ({ target := 1, raising := true, at_ := 5 }), rfl, by decide +kernel⟩

theorem witness_OperatingPointsAndTemperature_6 : ∃ (s : State) (c : Fin 8) (ch : Chan) (o : OppChange), s.chan c = ch ∧ ch.isOn = true ∧ ch.pwr.opp = some o ∧ o.ramped = false ∧ o.raising = true ∧ ch.since o.at_ (ch.rampTime ch.point o.target) = true :=
  ⟨(st fun ch => { ch with pwr := { ch.pwr with opp := some { target := 0, raising := true, at_ := 5 } } }), 0, _, ({ target := 0, raising := true, at_ := 5 }), rfl, by decide +kernel, by decide +kernel, by decide +kernel, by decide +kernel, sample_no_ramp (by decide +kernel) (by decide +kernel)⟩

theorem witness_OperatingPointsAndTemperature_7 : ∃ (s : State) (c : Fin 8) (ch : Chan) (o : OppChange), s.chan c = ch ∧ ch.isOn = true ∧ ch.pwr.opp = some o ∧ o.ramped = false ∧ o.raising = false ∧ o.switched = true :=
  ⟨(st fun ch => { ch with pwr := { ch.pwr with opp := some { target := 3, raising := false, at_ := 5, switched := true } } }), 0, _, ({ target := 3, raising := false, at_ := 5, switched := true }), rfl, by decide +kernel⟩

theorem witness_OperatingPointsAndTemperature_8 : ∃ (s : State) (c : Fin 8) (ch : Chan), s.chan c = ch ∧ ch.isOn = true ∧ (ch.pwr.opp.all fun o => o.ramped || (!o.raising && !o.switched) || !ch.rampDone o) = true :=
  ⟨live, 0, _, rfl, by decide +kernel⟩

theorem witness_OperatingPointsAndTemperature_9 : ∃ (s : State) (c : Fin 8) (ch : Chan) (t0 t1 t2 t3 : BitVec 8) (m : Nat), s.chan c = ch ∧ ch.isOn = true ∧ max (max t0.toNat t1.toNat) (max t2.toNat t3.toNat) = m ∧ ch.since ch.pwr.sampleAt (10 * usG) = true ∧ m < 110 :=
  ⟨live, 0, _, 1, 2, 94, 3, 94, rfl, by decide +kernel⟩

theorem witness_OperatingPointsAndTemperature_10 : ∃ (s : State) (c : Fin 8) (ch : Chan) (t0 t1 t2 t3 : BitVec 8) (m : Nat), s.chan c = ch ∧ ch.isOn = true ∧ max (max t0.toNat t1.toNat) (max t2.toNat t3.toNat) = m ∧ ch.since ch.pwr.sampleAt (10 * usG) = true ∧ 110 ≤ m :=
  ⟨live, 0, _, 1, 2, 110, 3, 110, rfl, by decide +kernel⟩

theorem witness_OperatingPointsAndTemperature_11 : ∃ (s : State) (c : Fin 8) (ch : Chan) (t0 t1 t2 t3 : BitVec 8) (m : Nat), s.chan c = ch ∧ ch.isOn = true ∧ max (max t0.toNat t1.toNat) (max t2.toNat t3.toNat) = m ∧ ch.since ch.pwr.sampleAt (10 * usG) = false :=
  ⟨(st fun ch => { ch with pwr := { ch.pwr with sampleAt := ch.now } }), 0, _, 1, 2, 110, 3, 110, rfl, by decide +kernel⟩

theorem witness_OperatingPointsAndTemperature_12 : ∃ (s : State) (c : Fin 8) (ch : Chan), s.chan c = ch ∧ ch.isOn = true ∧ (100 ≤ ch.fld R.PWR_STATUS F.PWR_STATUS_temp ∨ 30 < ch.hotterBy) ∧ ch.floorPoint < 3 ∧ ch.since ch.pwr.floorAt (100 * usG) = true :=
  ⟨(st fun ch => ch.setFld R.PWR_STATUS F.PWR_STATUS_temp 100), 0, _, rfl, by decide +kernel⟩

theorem witness_OperatingPointsAndTemperature_13 : ∃ (s : State) (c : Fin 8) (ch : Chan), s.chan c = ch ∧ ch.isOn = true ∧ ((ch.fld R.PWR_STATUS F.PWR_STATUS_temp < 100 ∧ ch.hotterBy ≤ 30) ∨ 3 ≤ ch.floorPoint ∨ ch.since ch.pwr.floorAt (100 * usG) = false) :=
  ⟨live, 0, _, rfl, by decide +kernel⟩

theorem witness_OperatingPointsAndTemperature_14 : ∃ (s : State) (c : Fin 8) (ch : Chan), s.chan c = ch ∧ ch.isOn = true ∧ ch.fld R.PWR_STATUS F.PWR_STATUS_temp ≤ 95 ∧ ch.hotterBy ≤ 25 ∧ 0 < ch.floorPoint ∧ ch.since ch.pwr.floorAt msG = true :=
  ⟨(st fun ch => ch.setFld R.PWR_STATUS F.PWR_STATUS_floor 3), 0, _, rfl, by decide +kernel⟩

theorem witness_OperatingPointsAndTemperature_15 : ∃ (s : State) (c : Fin 8) (ch : Chan), s.chan c = ch ∧ ch.isOn = true ∧ (95 < ch.fld R.PWR_STATUS F.PWR_STATUS_temp ∨ 25 < ch.hotterBy ∨ ch.floorPoint = 0 ∨ ch.since ch.pwr.floorAt msG = false) :=
  ⟨live, 0, _, rfl, by decide +kernel⟩

theorem witness_WatchAndLodestar_1 : ∃ (s : State) (c : Fin 8) (ch : Chan), s.chan c = ch ∧ ch.isOn = true ∧ ch.since ch.pwr.frameAt (9600 * nsG) = true :=
  ⟨live, 0, _, rfl, by decide +kernel⟩

theorem witness_WatchAndLodestar_2 : ∃ (s : State) (c : Fin 8) (ch : Chan), s.chan c = ch ∧ ch.isOn = true ∧ ch.since ch.pwr.frameAt (9600 * nsG) = false :=
  ⟨(st fun ch => { ch with pwr := { ch.pwr with frameAt := ch.now } }), 0, _, rfl, by decide +kernel⟩

theorem witness_WatchAndLodestar_3 : ∃ (s : State) (c : Fin 8) (ch : Chan) (next : Bool) (f : BitVec 64), s.chan c = ch ∧ ch.isOn = true ∧ frameOk f.toNat = false :=
  ⟨live, 0, _, true, 0, rfl, by decide +kernel⟩

theorem witness_WatchAndLodestar_4 : ∃ (s : State) (c : Fin 8) (ch : Chan) (next : Bool) (f : BitVec 64) (n : Neighbour), s.chan c = ch ∧ ch.isOn = true ∧ frameOk f.toNat = true ∧ { lastAt := ch.now, misses := 0, seqNo := (f.extractLsb' 48 8).toNat, absent := f.getLsbD 47, powered := !f.getLsbD 47, temp := (f.extractLsb' 32 8).toNat, tempValid := true, point := (f.extractLsb' 43 2).toNat, vdd := (f.extractLsb' 22 10).toNat, safeServe := f.getLsbD 42, failStop := f.getLsbD 41, restarting := f.getLsbD 40, resets := (ch.neighbour next).resets } = n :=
  ⟨live, 0, _, false, (BitVec.ofNat 64 (0xC612345678900000 / 256 * 256 + frameCrc 0xC612345678900000)), ({ lastAt := (live.chan 0).now, misses := 0, seqNo := 0x12, absent := false, powered := true, temp := 0x56, tempValid := true, point := 2, vdd := 482, safeServe := true, failStop := false, restarting := false, resets := [] }), rfl, by decide +kernel⟩

theorem witness_WatchAndLodestar_5 : ∃ (s : State) (c : Fin 8) (ch : Chan) (next : Bool) (n : Neighbour), s.chan c = ch ∧ ch.neighbour next = n ∧ (ch.isOn = false ∨ n.absent = true ∨ ch.since n.lastAt ((n.misses + 1) * 10 * usG + 800 * nsG) = false) :=
  ⟨live, 0, _, true, {}, rfl, by decide +kernel⟩

theorem witness_WatchAndLodestar_6 : ∃ (s : State) (c : Fin 8) (ch : Chan) (next : Bool) (n : Neighbour), s.chan c = ch ∧ ch.neighbour next = n ∧ ch.isOn = true ∧ n.absent = false ∧ ch.since n.lastAt ((n.misses + 1) * 10 * usG + 800 * nsG) = true ∧ (ch.pwr.lodestar ≠ .running ∨ n.misses + 1 < (if next then 3 else 6)) :=
  ⟨(st fun ch => { ch with pwr := { ch.pwr with next := { absent := false, misses := 0 } } }), 0, _, true, ({ absent := false, misses := 0 }), rfl, by decide +kernel⟩

theorem witness_WatchAndLodestar_7 : ∃ (s : State) (c : Fin 8) (ch : Chan) (next : Bool) (n : Neighbour) (d : Fin 8), s.chan c = ch ∧ ch.neighbour next = n ∧ ch.isOn = true ∧ n.absent = false ∧ ch.since n.lastAt ((n.misses + 1) * 10 * usG + 800 * nsG) = true ∧ ch.pwr.lodestar = .running ∧ (if next then 3 else 6) ≤ n.misses + 1 ∧ (if next then c + 1 else c - 1) = d ∧ (s.chan d).pwr.power ≠ .on ∧ (s.chan d).pwr.power ≠ .ramping :=
  ⟨(st fun ch => { ch with pwr := { ch.pwr with next := { absent := false, misses := 2 } } }), 0, _, true, ({ absent := false, misses := 2 }), 1, rfl, by decide +kernel⟩

theorem witness_WatchAndLodestar_8 : ∃ (s : State) (c : Fin 8) (ch : Chan) (next : Bool) (n : Neighbour) (d : Fin 8), s.chan c = ch ∧ ch.neighbour next = n ∧ ch.isOn = true ∧ n.absent = false ∧ ch.since n.lastAt ((n.misses + 1) * 10 * usG + 800 * nsG) = true ∧ ch.pwr.lodestar = .running ∧ (if next then 3 else 6) ≤ n.misses + 1 ∧ (if next then c + 1 else c - 1) = d ∧ ((s.chan d).pwr.power = .on ∨ (s.chan d).pwr.power = .ramping) ∧ (n.resets.filter fun u => decide (ch.now < u + 1000 * msG)).length < 3 ∧ ch.toHub = [] :=
  ⟨(st fun ch => { ch with toHub := [], pwr := { ch.pwr with next := { absent := false, misses := 2 } } }).setChan 1 { liveChan with idx := 1 }, 0, _, true, ({ absent := false, misses := 2 }), 1, rfl, by decide +kernel⟩

theorem witness_WatchAndLodestar_9 : ∃ (s : State) (c : Fin 8) (ch : Chan) (next : Bool) (n : Neighbour) (d : Fin 8), s.chan c = ch ∧ ch.neighbour next = n ∧ ch.isOn = true ∧ n.absent = false ∧ ch.since n.lastAt ((n.misses + 1) * 10 * usG + 800 * nsG) = true ∧ ch.pwr.lodestar = .running ∧ (if next then 3 else 6) ≤ n.misses + 1 ∧ (if next then c + 1 else c - 1) = d ∧ ((s.chan d).pwr.power = .on ∨ (s.chan d).pwr.power = .ramping) ∧ 3 ≤ (n.resets.filter fun u => decide (ch.now < u + 1000 * msG)).length :=
  ⟨(st fun ch => { ch with toHub := [], pwr := { ch.pwr with next := { absent := false, misses := 2, resets := [62999999999, 62999999998, 62999999997] } } }).setChan 1 { liveChan with idx := 1 }, 0, _, true, ({ absent := false, misses := 2, resets := [62999999999, 62999999998, 62999999997] }), 1, rfl, by decide +kernel⟩

theorem witness_WatchAndLodestar_10 : ∃ (s : State) (c : Fin 8) (ch : Chan), s.chan c = ch ∧ ch.isOn = true :=
  ⟨live, 0, _, rfl, by decide +kernel⟩

theorem witness_WatchAndLodestar_11 : ∃ (s : State) (c : Fin 8) (ch : Chan), s.chan c = ch ∧ ch.isOn = true ∧ ch.since ch.pwr.watchdogAt (100 * usG) = true :=
  ⟨live, 0, _, rfl, by decide +kernel⟩

theorem witness_WatchAndLodestar_12 : ∃ (s : State) (c : Fin 8) (ch : Chan), s.chan c = ch ∧ ch.isOn = true ∧ ch.since ch.pwr.watchdogAt (100 * usG) = false :=
  ⟨(st fun ch => { ch with pwr := { ch.pwr with watchdogAt := ch.now } }), 0, _, rfl, by decide +kernel⟩

theorem witness_WatchAndLodestar_13 : ∃ (s : State) (c : Fin 8) (ch : Chan) (fs : List (Nat × Byte)) (fw : List Byte), s.chan c = ch ∧ ch.isOn = true ∧ ch.pwr.lodestar = .restarting ∧ upset ch.pwr.fw fs = fw :=
  ⟨(st fun ch => { ch.setFlag R.PWR_STATUS F.PWR_STATUS_safe_serve true with pwr := { ch.pwr with lodestar := .restarting, fw := [7], fwHash := sha384 [7] } }), 0, _, [], [7], rfl, by decide +kernel⟩

theorem witness_WatchAndLodestar_14 : ∃ (s : State) (c : Fin 8) (ch : Chan) (fs : List (Nat × Byte)), s.chan c = ch ∧ ch.isOn = true ∧ ch.pwr.lodestar ≠ .restarting :=
  ⟨live, 0, _, ([(0, 1)]), rfl, by decide +kernel⟩

theorem witness_WatchAndLodestar_15 : ∃ (s : State) (c : Fin 8) (ch : Chan), s.chan c = ch ∧ ch.isOn = true ∧ ch.safeServe = true ∧ ch.pwr.lodestar = .running :=
  ⟨(st fun ch => { ch.setFlag R.PWR_STATUS F.PWR_STATUS_safe_serve true with pwr := { ch.pwr with safeSince := some 4 }, chk := { scrubPos := 77, muted := [3] } }), 0, _, rfl, by decide +kernel⟩

theorem witness_WatchAndLodestar_16 : ∃ (s : State) (c : Fin 8) (ch : Chan), s.chan c = ch ∧ ch.isOn = true ∧ (ch.safeServe = false ∨ ch.pwr.lodestar ≠ .running) :=
  ⟨live, 0, _, rfl, by decide +kernel⟩

theorem witness_FailStopsAndRestarts_1 : ∃ (s : State) (c : Fin 8) (ch : Chan), s.chan c = ch ∧ ch.isOn = true ∧ ch.failStopped = false ∧ ch.port.carafe ≠ [] ∧ ch.stallExempt = false ∧ ch.since ch.stallStart (25 * acG) = true :=
  ⟨(st fun ch => { (ch.setLink 3) with port := { ch.port with carafe := [smallDesc] } }), 0, _, rfl, by decide +kernel⟩

theorem witness_FailStopsAndRestarts_2 : ∃ (s : State) (c : Fin 8) (ch : Chan), s.chan c = ch ∧ ch.isOn = true ∧ (ch.port.carafe = [] ∨ ch.stallExempt = true ∨ ch.since ch.stallStart (25 * acG) = false) :=
  ⟨live, 0, _, rfl, by decide +kernel⟩

theorem witness_FailStopsAndRestarts_3 : ∃ (s : State) (c : Fin 8) (ch : Chan) (u : Nat), s.chan c = ch ∧ ch.isOn = true ∧ ch.failStopped = false ∧ ch.pwr.safeSince = some u ∧ ch.fld R.PWR_CTRL F.PWR_CTRL_safe_serve_limit ≠ 0 ∧ ch.since u (ch.fld R.PWR_CTRL F.PWR_CTRL_safe_serve_limit * msG) = true :=
  ⟨(st fun ch => { ch.setFld R.PWR_CTRL F.PWR_CTRL_safe_serve_limit 5 with pwr := { ch.pwr with safeSince := some 9 } }), 0, _, 9, rfl, by decide +kernel⟩

theorem witness_FailStopsAndRestarts_4 : ∃ (s : State) (c : Fin 8) (ch : Chan), s.chan c = ch ∧ ch.isOn = true ∧ (ch.fld R.PWR_CTRL F.PWR_CTRL_safe_serve_limit = 0 ∨ (ch.pwr.safeSince.all fun u => !ch.since u (ch.fld R.PWR_CTRL F.PWR_CTRL_safe_serve_limit * msG)) = true) :=
  ⟨live, 0, _, rfl, by decide +kernel⟩

theorem witness_FailStopsAndRestarts_5 : ∃ (s : State) (c : Fin 8) (ch : Chan), s.chan c = ch ∧ ch.isOn = true ∧ ch.failStopped = false ∧ (match ch.pwr.opp with | some o => if o.raising then !o.ramped else o.switched | none => ch.pwr.waking.isSome || ch.pwr.entering.isSome) = false :=
  ⟨live, 0, _, rfl, by decide +kernel⟩

theorem witness_FailStopsAndRestarts_6 : ∃ (s : State) (c : Fin 8) (ch : Chan), s.chan c = ch ∧ ch.isOn = true ∧ (match ch.pwr.opp with | some o => if o.raising then !o.ramped else o.switched | none => ch.pwr.waking.isSome || ch.pwr.entering.isSome) = true :=
  ⟨(st fun ch => { ch with pwr := { ch.pwr with waking := some (2, 4) } }), 0, _, rfl, by decide +kernel⟩

theorem witness_FailStopsAndRestarts_7 : ∃ (s : State) (c : Fin 8) (ch : Chan), s.chan c = ch ∧ ch.clocked = true ∧ ch.failStopped = false :=
  ⟨live, 0, _, rfl, by decide +kernel⟩

theorem witness_FailStopsAndRestarts_8 : ∃ (s : State) (c : Fin 8) (ch : Chan), s.chan c = ch ∧ ch.isOn = true ∧ ch.clocked = false :=
  ⟨(st fun ch => ch.setPwrState 2), 0, _, rfl, by decide +kernel⟩

theorem witness_FailStopsAndRestarts_9 : ∃ (s : State) (c : Fin 8) (ch : Chan), s.chan c = ch ∧ ch.isOn = true ∧ ch.failStopped = false ∧ ch.pwr.lodestar = .running :=
  ⟨live, 0, _, rfl, by decide +kernel⟩

theorem witness_FailStopsAndRestarts_10 : ∃ (s : State) (c : Fin 8) (ch : Chan), s.chan c = ch ∧ ch.isOn = true ∧ ch.pwr.lodestar ≠ .running :=
  ⟨(st fun ch => { ch.setFlag R.PWR_STATUS F.PWR_STATUS_safe_serve true with pwr := { ch.pwr with lodestar := .restarting, fw := [7], fwHash := sha384 [7] } }), 0, _, rfl, by decide +kernel⟩

theorem witness_FailStopsAndRestarts_11 : ∃ (s : State) (c : Fin 8) (ch : Chan) (i : Instr), s.chan c = ch ∧ ch.isOn = true ∧ ch.failStopped = true ∧ (i = .dispatchStall c ∨ i = .safeServeTimeout c ∨ i = .vddChFault c ∨ i = .corePllUnlock c ∨ i = .lodestarFailDeclare c) :=
  ⟨(st fun ch => ch.setFlag R.PWR_STATUS F.PWR_STATUS_fail_stop true), 0, _, (.vddChFault 0), rfl, by decide +kernel⟩

theorem witness_FailStopsAndRestarts_12 : ∃ (s : State) (c : Fin 8) (ch : Chan) (own prev next : Bool), s.chan c = ch ∧ s.hubRuns = true ∧ s.pack.suspended = false ∧ ((s.chan (c)).isOn && (s.chan (c)).pwr.lodestar == .running) = own ∧ ((s.chan (c - 1)).isOn && (s.chan (c - 1)).pwr.lodestar == .running) = prev ∧ ((s.chan (c + 1)).isOn && (s.chan (c + 1)).pwr.lodestar == .running) = next ∧ ch.autoDue ((if own || prev then 10 else 40) * usG) = true ∧ (own || prev || next) = true :=
  ⟨(st fun ch => { (ch.setFlag R.PWR_STATUS F.PWR_STATUS_fail_stop true).setFlag R.PWR_CTRL F.PWR_CTRL_auto_restart true with pwr := { ch.pwr with latchAt := 7, latchAuto := true, autoRestarts := [9, 5] } }), 0, _, true, false, false, rfl, by decide +kernel⟩

theorem witness_FailStopsAndRestarts_13 : ∃ (s : State) (c : Fin 8) (ch : Chan) (own prev next : Bool), s.chan c = ch ∧ s.hubRuns = true ∧ ((s.chan (c)).isOn && (s.chan (c)).pwr.lodestar == .running) = own ∧ ((s.chan (c - 1)).isOn && (s.chan (c - 1)).pwr.lodestar == .running) = prev ∧ ((s.chan (c + 1)).isOn && (s.chan (c + 1)).pwr.lodestar == .running) = next ∧ (s.pack.suspended = true ∨ ch.autoDue ((if own || prev then 10 else 40) * usG) = false ∨ (own || prev || next) = false) :=
  ⟨live, 0, _, true, false, false, rfl, by decide +kernel⟩

theorem witness_SupplyAndChannelPower_1 : ∃ (s : State) (c : Fin 8) (ch : Chan), s.chan c = ch ∧ (s.pack.porn = true ∨ s.pack.unpowered = true) ∧ (∀ d : Fin 8, (s.chan d).toHub = []) :=
  ⟨({ (live) with pack := { State.reset.pack with unpowered := true, ir := .extest } }), 0, _, rfl, by decide +kernel⟩

theorem witness_SupplyAndChannelPower_2 : ∃ (s : State) (c : Fin 8) (ch : Chan), s.chan c = ch ∧ s.pack.porn = false ∧ s.pack.unpowered = false :=
  ⟨({ (live) with pack := { State.reset.pack with porn := false } }), 0, _, rfl, by decide +kernel⟩

theorem witness_SupplyAndChannelPower_3 : ∃ (s : State) (c : Fin 8) (ch : Chan), s.chan c = ch ∧ s.pack.porn = false ∧ (∀ d : Fin 8, (s.chan d).toHub = []) :=
  ⟨live, 0, _, rfl, by decide +kernel⟩

theorem witness_SupplyAndChannelPower_4 : ∃ (s : State) (c : Fin 8) (ch : Chan), s.chan c = ch ∧ s.pack.porn = true :=
  ⟨({ (live) with pack := { State.reset.pack with porn := true } }), 0, _, rfl, by decide +kernel⟩

theorem witness_SupplyAndChannelPower_5 : ∃ (s : State) (c : Fin 8) (ch : Chan), s.chan c = ch ∧ s.hubRuns = true ∧ s.hub.flag (R.SUP_CHN_CTRL c) F.SUP_CHN_CTRL_power_on = false ∧ ch.pwr.power = .off :=
  ⟨({ live with hub := { live.hub with ramps := [2] } }), 1, _, rfl, by decide +kernel⟩

theorem witness_SupplyAndChannelPower_6 : ∃ (s : State) (c : Fin 8) (ch : Chan), s.chan c = ch ∧ s.hubRuns = true ∧ s.hub.flag (R.SUP_CHN_CTRL c) F.SUP_CHN_CTRL_power_on = false ∧ ch.pwr.power ≠ .off :=
  ⟨live, 0, _, rfl, by decide +kernel⟩

theorem witness_SupplyAndChannelPower_7 : ∃ (s : State) (c : Fin 8) (ch : Chan), s.chan c = ch ∧ s.hubRuns = true ∧ s.hub.flag (R.SUP_CHN_CTRL c) F.SUP_CHN_CTRL_power_on = true :=
  ⟨({ live with hub := live.hub.setFld (R.SUP_CHN_CTRL 0) F.SUP_CHN_CTRL_power_on 1 }), 0, _, rfl, by decide +kernel⟩

theorem witness_SupplyAndChannelPower_8 : ∃ (s : State) (c : Fin 8) (ch : Chan), s.chan c = ch ∧ s.hubRuns = true ∧ ch.pwr.power ≠ .off :=
  ⟨live, 0, _, rfl, by decide +kernel⟩

theorem witness_SupplyAndChannelPower_9 : ∃ (s : State) (c : Fin 8) (ch : Chan), s.chan c = ch ∧ s.hubRuns = true ∧ ch.pwr.power = .off :=
  ⟨live, 7, _, rfl, by decide +kernel⟩

theorem witness_SupplyAndChannelPower_10 : ∃ (s : State) (c : Fin 8) (ch : Chan), s.chan c = ch ∧ s.hubRuns = true ∧ s.hub.flag (R.SUP_CHN_CTRL c) F.SUP_CHN_CTRL_reset = false ∧ ch.isOn = true :=
  ⟨live, 0, _, rfl, by decide +kernel⟩

theorem witness_SupplyAndChannelPower_11 : ∃ (s : State) (c : Fin 8) (ch : Chan), s.chan c = ch ∧ s.hubRuns = true ∧ s.hub.flag (R.SUP_CHN_CTRL c) F.SUP_CHN_CTRL_reset = false ∧ ch.isOn = false :=
  ⟨live, 7, _, rfl, by decide +kernel⟩

theorem witness_SupplyAndChannelPower_12 : ∃ (s : State) (c : Fin 8) (ch : Chan), s.chan c = ch ∧ s.hubRuns = true ∧ s.hub.flag (R.SUP_CHN_CTRL c) F.SUP_CHN_CTRL_reset = true :=
  ⟨({ live with hub := live.hub.setFld (R.SUP_CHN_CTRL 0) F.SUP_CHN_CTRL_reset 1 }), 0, _, rfl, by decide +kernel⟩

theorem witness_SupplyAndChannelPower_13 : ∃ (s : State) (c : Fin 8) (ch : Chan), s.chan c = ch ∧ s.hubRuns = true ∧ s.hub.ramps.contains c.val = true ∧ ch.pwr.power = .off ∧ s.pack.ramping = none ∧ s.pack.released + c.val * 100 * usG ≤ s.hub.now :=
  ⟨({ State.reset with hub := { State.reset.hub with now := 70000000 }, pack := { State.reset.pack with porn := false, released := 0 } }), 7, _, rfl, by decide +kernel⟩

theorem witness_SupplyAndChannelPower_14 : ∃ (s : State) (c : Fin 8) (ch : Chan), s.chan c = ch ∧ s.hubRuns = true ∧ s.hub.ramps.contains c.val = true ∧ ch.pwr.power = .off ∧ s.pack.ramping = none ∧ s.pack.released + c.val * 100 * usG ≤ s.hub.now :=
  ⟨({ State.reset with hub := { State.reset.hub with now := 70000000 }, pack := { State.reset.pack with porn := false, released := 0 } }), 7, _, rfl, by decide +kernel⟩

theorem witness_SupplyAndChannelPower_15 : ∃ (s : State) (c : Fin 8) (ch : Chan) (ref : Bool), s.chan c = ch ∧ s.hubRuns = true ∧ (s.hub.ramps.contains c.val = false ∨ ch.pwr.power ≠ .off ∨ s.pack.ramping ≠ none ∨ s.hub.now < s.pack.released + c.val * 100 * usG) :=
  ⟨live, 0, _, true, rfl, by decide +kernel⟩

theorem witness_TimeOfDayAndPps_1 : ∃ (s : State) (c : Fin 8) (ch : Chan) (b : List Byte) (u n : Nat), s.chan c = ch ∧ ch.isOn = true ∧ ch.sid.lastEdge = some u ∧ u + 100 * msG ≤ ch.now ∧ ch.now ≤ u + 900 * msG ∧ todSeconds b = some n :=
  ⟨(st fun ch => { ch with sid := { at_ := ch.now, lastEdge := some 6300000000 } , now := 12600000000 }), 0, _, ([0x59, 0x54, 1, 1, 0, 0, 0, 0, 0, 9, 0, 0, 0, 0, 0] ++ [crc8 [0x59, 0x54, 1, 1, 0, 0, 0, 0, 0, 9, 0, 0, 0, 0, 0]]), 6300000000, 9, rfl, by decide +kernel⟩

theorem witness_TimeOfDayAndPps_2 : ∃ (s : State) (c : Fin 8) (ch : Chan) (b : List Byte), s.chan c = ch ∧ ch.isOn = true ∧ (todSeconds b = none ∨ (ch.sid.lastEdge.all fun u => decide (ch.now < u + 100 * msG ∨ u + 900 * msG < ch.now)) = true) :=
  ⟨live, 0, _, [], rfl, by decide +kernel⟩

theorem witness_TimeOfDayAndPps_3 : ∃ (s : State) (c : Fin 8) (ch : Chan), s.chan c = ch ∧ ch.isOn = true ∧ ch.sid.announced = none :=
  ⟨live, 0, _, rfl, by decide +kernel⟩

theorem witness_TimeOfDayAndPps_4 : ∃ (s : State) (c : Fin 8) (ch : Chan) (n : Nat), s.chan c = ch ∧ ch.isOn = true ∧ ch.sid.announced = some n ∧ ch.linkState = 0 ∧ (∀ p : Nat, p < 3 → ch.zState p = 0) :=
  ⟨(st fun ch => { ch with sid := { units := 77, at_ := ch.now, announced := some 5, lost := true } }), 0, _, 5, rfl, by decide +kernel⟩

theorem witness_TimeOfDayAndPps_5 : ∃ (s : State) (c : Fin 8) (ch : Chan) (n : Nat) (e : Int), s.chan c = ch ∧ ch.isOn = true ∧ ch.sid.announced = some n ∧ (ch.linkState ≠ 0 ∨ ch.zState 0 ≠ 0 ∨ ch.zState 1 ≠ 0 ∨ ch.zState 2 ≠ 0) ∧ ((ch.sid.unitsAt ch.now / 63000000000 : Nat) : Int) - ((n * 1000000000 : Nat) : Int) = e ∧ e.natAbs ≤ 1000 :=
  ⟨(st fun ch => { ch.setLink 3 with sid := { units := (5000000300 * 63000000000), at_ := ch.now, announced := some 5, lost := true } }), 0, _, 5, 300, rfl, by decide +kernel⟩

theorem witness_TimeOfDayAndPps_6 : ∃ (s : State) (c : Fin 8) (ch : Chan) (n : Nat) (e : Int), s.chan c = ch ∧ ch.isOn = true ∧ ch.sid.announced = some n ∧ (ch.linkState ≠ 0 ∨ ch.zState 0 ≠ 0 ∨ ch.zState 1 ≠ 0 ∨ ch.zState 2 ≠ 0) ∧ ((ch.sid.unitsAt ch.now / 63000000000 : Nat) : Int) - ((n * 1000000000 : Nat) : Int) = e ∧ 1000 < e.natAbs :=
  ⟨(st fun ch => { ch.setLink 3 with sid := { units := (6000000300 * 63000000000), at_ := ch.now, announced := some 5 } }), 0, _, 5, 1000000300, rfl, by decide +kernel⟩

theorem witness_TimeOfDayAndPps_7 : ∃ (s : State) (c : Fin 8) (ch : Chan) (u : Nat), s.chan c = ch ∧ ch.isOn = true ∧ ch.sid.lastGood = some u ∧ ch.sid.lost = false ∧ ch.since u (1500 * msG) = true :=
  ⟨(st fun ch => { ch with now := 200000000000, sid := { lastGood := some 3 } }), 0, _, 3, rfl, by decide +kernel⟩

theorem witness_TimeOfDayAndPps_8 : ∃ (s : State) (c : Fin 8) (ch : Chan), s.chan c = ch ∧ ch.isOn = true ∧ (ch.sid.lost = true ∨ (ch.sid.lastGood.all fun u => !ch.since u (1500 * msG)) = true) :=
  ⟨live, 0, _, rfl, by decide +kernel⟩

theorem witness_TestPort_1 : ∃ (s : State) (i : Instr) (ir : TapIr) (n : Nat), s.pack.unpowered = false ∧ ((i = .extest ∧ ir = .extest ∧ n = 1) ∨ (i = .extestPulse ∧ ir = .extestPulse ∧ n = 2) ∨ (i = .extestTrain ∧ ir = .extestTrain ∧ n = 3) ∨ (i = .clamp ∧ ir = .clamp ∧ n = 4) ∨ (i = .highz ∧ ir = .highz ∧ n = 5) ∨ (i = .bypass ∧ ir = .bypass ∧ n = 0)) :=
  ⟨({ (live) with pack := { State.reset.pack with porn := true } }), .highz, .highz, 5, by decide +kernel⟩

theorem witness_TestPort_2 : ∃ (s : State) (i : Instr), s.pack.unpowered = true ∧ (i = .extest ∨ i = .extestPulse ∨ i = .extestTrain ∨ i = .clamp ∨ i = .highz ∨ i = .bypass) :=
  ⟨({ (live) with pack := { State.reset.pack with unpowered := true } }), .clamp, by decide +kernel⟩

theorem witness_TestPort_3 : ∃ (s : State) (a b : List Bool), s.pack.unpowered = true :=
  ⟨({ (live) with pack := { State.reset.pack with unpowered := true } }), [], [true], by decide +kernel⟩

theorem witness_TestPort_4 : ∃ (s : State) (a b : List Bool), s.pack.unpowered = false :=
  ⟨live, [true], ([false, true]), by decide +kernel⟩

theorem witness_FreezesAndMarkers_1 : ∃ (s : State) (c : Fin 8) (ch : Chan) (src : Option (Fin 17)), s.chan c = ch ∧ s.reaches src c R.OBS_FREEZE = true ∧ ch.frozen = false :=
  ⟨live, 0, _, none, rfl, by decide +kernel⟩

theorem witness_FreezesAndMarkers_2 : ∃ (s : State) (c : Fin 8) (ch : Chan) (src : Option (Fin 17)), s.chan c = ch ∧ s.reaches src c R.OBS_FREEZE = true ∧ ch.frozen = true :=
  ⟨(st fun ch => ch.freeze .host), 0, _, none, rfl, by decide +kernel⟩

theorem witness_FreezesAndMarkers_3 : ∃ (s : State) (c : Fin 8) (ch : Chan) (src : Option (Fin 17)), s.chan c = ch ∧ s.reaches src c R.OBS_FREEZE = true ∧ ch.frozen = true ∧ ch.toHub = [] :=
  ⟨(st fun ch => ch.freeze .host), 0, _, none, rfl, by decide +kernel⟩

theorem witness_FreezesAndMarkers_4 : ∃ (s : State) (c : Fin 8) (ch : Chan) (src : Option (Fin 17)), s.chan c = ch ∧ s.reaches src c R.OBS_FREEZE = true ∧ ch.frozen = false ∧ ch.toHub = [] :=
  ⟨live, 0, _, none, rfl, by decide +kernel⟩

theorem witness_FreezesAndMarkers_5 : ∃ (s : State) (c : Fin 8) (ch : Chan) (src : Option (Fin 17)), s.chan c = ch ∧ s.reaches src c R.OBS_FREEZE = true :=
  ⟨live, 0, _, none, rfl, by decide +kernel⟩

theorem witness_FreezesAndMarkers_6 : ∃ (s : State) (c : Fin 8) (ch : Chan), s.chan c = ch ∧ ch.isOn = true ∧ ch.flag R.OBS_FREEZE F.OBS_FREEZE_arm = true ∧ (ch.rd R.OBS_FREEZE_AT).toNat ≤ ch.ns ∧ ch.frozen = false :=
  ⟨(st fun ch => ch.obsArm), 0, _, rfl, by decide +kernel⟩

theorem witness_FreezesAndMarkers_7 : ∃ (s : State) (c : Fin 8) (ch : Chan), s.chan c = ch ∧ ch.isOn = true ∧ (ch.flag R.OBS_FREEZE F.OBS_FREEZE_arm = false ∨ ch.ns < (ch.rd R.OBS_FREEZE_AT).toNat) ∧ ch.toHub = [] :=
  ⟨live, 0, _, rfl, by decide +kernel⟩

theorem witness_FreezesAndMarkers_8 : ∃ (s : State) (c : Fin 8) (ch : Chan) (mask : BitVec 8) (follow : Bool) (d : Fin 8), s.chan c = ch ∧ s.hubRuns = true ∧ mask.toNat.testBit (s.chan d).idx = true ∧ (s.chan d).isOn = true ∧ (s.chan d).frozen = false :=
  ⟨live, 0, _, 1, true, 0, rfl, by decide +kernel⟩

theorem witness_FreezesAndMarkers_9 : ∃ (s : State) (c : Fin 8) (ch : Chan) (mask : BitVec 8) (follow : Bool) (d : Fin 8), s.chan c = ch ∧ s.hubRuns = true ∧ (mask.toNat.testBit (s.chan d).idx = false ∨ (s.chan d).isOn = false ∨ (s.chan d).frozen = true) :=
  ⟨live, 0, _, 255, true, 1, rfl, by decide +kernel⟩

theorem witness_FreezesAndMarkers_10 : ∃ (s : State) (c : Fin 8) (ch : Chan) (mask : BitVec 8) (follow : Bool) (d : Fin 8), s.chan c = ch ∧ s.hubRuns = true :=
  ⟨(st fun ch => ch.freeze .host), 0, _, 1, false, 0, rfl, by decide +kernel⟩

theorem witness_FreezesAndMarkers_11 : ∃ (s : State) (c : Fin 8) (ch : Chan) (src : Option (Fin 17)) (v : Word), s.chan c = ch ∧ s.reaches src c R.OBS_MARKER = true ∧ ch.flag R.OBS_TRACE_CTRL F.OBS_TRACE_CTRL_enable = false :=
  ⟨live, 0, _, none, 77, rfl, by decide +kernel⟩

theorem witness_FreezesAndMarkers_12 : ∃ (s : State) (c : Fin 8) (ch : Chan) (src : Option (Fin 17)) (v : Word) (a : Chan), s.chan c = ch ∧ s.reaches src c R.OBS_MARKER = true ∧ ch.flag R.OBS_TRACE_CTRL F.OBS_TRACE_CTRL_enable = true ∧ ch.setFld R.OBS_MARKER F.OBS_MARKER_value (getF v F.OBS_MARKER_value) = a :=
  ⟨(st fun ch => ch.setFlag R.OBS_TRACE_CTRL F.OBS_TRACE_CTRL_enable true), 0, _, none, 77, ((st fun ch => ch.setFlag R.OBS_TRACE_CTRL F.OBS_TRACE_CTRL_enable true).chan 0).setFld R.OBS_MARKER F.OBS_MARKER_value (getF 77 F.OBS_MARKER_value), rfl, by decide +kernel, by decide +kernel, rfl⟩

theorem witness_TracesRunsAndDumps_1 : ∃ (s : State) (c : Fin 8) (ch : Chan) (pcs : List Nat), s.chan c = ch ∧ ch.clocked = true ∧ (ch.flag R.OBS_TRACE_CTRL F.OBS_TRACE_CTRL_enable = false ∨ ch.since ch.obs.traceAt (ch.cc (2 ^ ch.fld R.OBS_TRACE_CTRL F.OBS_TRACE_CTRL_sample_log2)) = false) ∧ ch.toHub = [] :=
  ⟨live, 0, _, [1], rfl, by decide +kernel⟩

theorem witness_TracesRunsAndDumps_2 : ∃ (s : State) (c : Fin 8) (ch : Chan) (pcs : List Nat) (u : Nat), s.chan c = ch ∧ ch.clocked = true ∧ ch.flag R.OBS_TRACE_CTRL F.OBS_TRACE_CTRL_enable = true ∧ ch.since ch.obs.traceAt (ch.cc (2 ^ ch.fld R.OBS_TRACE_CTRL F.OBS_TRACE_CTRL_sample_log2)) = true ∧ 28 ≤ u ∧ u < 36 ∧ ch.rd R.OBS_TRACE_UNITS = BitVec.ofNat 64 (2 ^ u) :=
  ⟨(st fun ch => (ch.setFlag R.OBS_TRACE_CTRL F.OBS_TRACE_CTRL_enable true).wr R.OBS_TRACE_UNITS 0x800000000), 0, _, ([0, 1, 2, 3, 4, 5, 6, 777]), 35, rfl, by decide +kernel⟩

theorem witness_TracesRunsAndDumps_3 : ∃ (s : State) (c : Fin 8) (ch : Chan) (pcs : List Nat) (u : Nat), s.chan c = ch ∧ ch.clocked = true ∧ ch.flag R.OBS_TRACE_CTRL F.OBS_TRACE_CTRL_enable = true ∧ ch.since ch.obs.traceAt (ch.cc (2 ^ ch.fld R.OBS_TRACE_CTRL F.OBS_TRACE_CTRL_sample_log2)) = true ∧ (u < 28 ∨ u = 36) ∧ ch.rd R.OBS_TRACE_UNITS = BitVec.ofNat 64 (2 ^ u) :=
  ⟨(dotState).setChan 0 ((((dotState).chan 0).setFlag R.OBS_TRACE_CTRL F.OBS_TRACE_CTRL_enable true).wr R.OBS_TRACE_UNITS 0x200000), 0, _, [], 21, rfl, by decide +kernel⟩

theorem witness_TracesRunsAndDumps_4 : ∃ (s : State) (c : Fin 8) (ch : Chan) (ctx : Fin 128) (r : Run), s.chan c = ch ∧ ch.clocked = true ∧ ch.run ctx = some r ∧ ch.fld R.OBS_CTRL F.OBS_CTRL_run_limit ≠ 0 ∧ r.hung = false ∧ ch.since r.at_ (ch.fld R.OBS_CTRL F.OBS_CTRL_run_limit * usG) = true :=
  ⟨(st fun ch => { ch.setFld R.OBS_CTRL F.OBS_CTRL_run_limit 5 with models := { runs := [(0, { run := some run0 })] } }), 0, _, 0, run0, rfl, by decide +kernel⟩

theorem witness_TracesRunsAndDumps_5 : ∃ (s : State) (c : Fin 8) (ch : Chan) (ctx : Fin 128), s.chan c = ch ∧ ch.clocked = true ∧ (ch.fld R.OBS_CTRL F.OBS_CTRL_run_limit = 0 ∨ ((ch.run ctx).all fun r => r.hung || !ch.since r.at_ (ch.fld R.OBS_CTRL F.OBS_CTRL_run_limit * usG)) = true) :=
  ⟨live, 0, _, 127, rfl, by decide +kernel⟩

theorem witness_TracesRunsAndDumps_6 : ∃ (s : State) (c : Fin 8) (ch : Chan), s.chan c = ch ∧ ch.clocked = true ∧ ch.fld R.OBS_CTRL F.OBS_CTRL_summary_period ≠ 0 ∧ ch.since ch.obs.summaryAt (ch.fld R.OBS_CTRL F.OBS_CTRL_summary_period * usG) = true :=
  ⟨(st fun ch => (withTenant ch).setFld R.OBS_CTRL F.OBS_CTRL_summary_period 5), 0, _, rfl, by decide +kernel⟩

theorem witness_TracesRunsAndDumps_7 : ∃ (s : State) (c : Fin 8) (ch : Chan), s.chan c = ch ∧ ch.clocked = true ∧ (ch.fld R.OBS_CTRL F.OBS_CTRL_summary_period = 0 ∨ ch.since ch.obs.summaryAt (ch.fld R.OBS_CTRL F.OBS_CTRL_summary_period * usG) = false) :=
  ⟨live, 0, _, rfl, by decide +kernel⟩

theorem witness_TracesRunsAndDumps_8 : ∃ (s : State) (c : Fin 8) (ch : Chan) (src : Option (Fin 17)) (v : Word), s.chan c = ch ∧ s.reaches src c R.OBS_DEBUG = true ∧ ((List.range 16).any fun i => ch.tenantExists i) = true :=
  ⟨(st withTenant), 0, _, none, 1, rfl, by decide +kernel⟩

theorem witness_TracesRunsAndDumps_9 : ∃ (s : State) (c : Fin 8) (ch : Chan) (src : Option (Fin 17)) (v : Word), s.chan c = ch ∧ s.reaches src c R.OBS_DEBUG = true ∧ ((List.range 16).any fun i => ch.tenantExists i) = false :=
  ⟨live, 0, _, none, 1, rfl, by decide +kernel⟩

theorem witness_TracesRunsAndDumps_10 : ∃ (s : State) (c : Fin 8) (ch : Chan) (src : Option (Fin 17)), s.chan c = ch ∧ s.reaches src c R.OBS_DUMP_CMD = true ∧ (ch.safeServe = true ∨ ch.pwr.lodestar ≠ .running) :=
  ⟨(st fun ch => ch.setFlag R.PWR_STATUS F.PWR_STATUS_safe_serve true), 0, _, none, rfl, by decide +kernel⟩

theorem witness_TracesRunsAndDumps_11 : ∃ (s : State) (c : Fin 8) (ch : Chan) (src : Option (Fin 17)), s.chan c = ch ∧ s.reaches src c R.OBS_DUMP_CMD = true ∧ ch.safeServe = false ∧ ch.pwr.lodestar = .running ∧ ch.failStopped = false :=
  ⟨(st fun ch => ch.setLink 3), 0, _, none, rfl, by decide +kernel⟩

theorem witness_TracesRunsAndDumps_12 : ∃ (s : State) (c : Fin 8) (ch : Chan) (src : Option (Fin 17)), s.chan c = ch ∧ s.reaches src c R.OBS_DUMP_CMD = true ∧ ch.safeServe = false ∧ ch.pwr.lodestar = .running ∧ ch.failStopped = true :=
  ⟨(st fun ch => (ch.setFlag R.PWR_STATUS F.PWR_STATUS_fail_stop true).setFld R.PWR_STATUS F.PWR_STATUS_fail_reason 1), 0, _, none, rfl, by decide +kernel⟩

theorem witness_TracesRunsAndDumps_13 : ∃ (s : State) (c : Fin 8) (ch : Chan) (src : Option (Fin 17)), s.chan c = ch ∧ s.reaches src c R.OBS_DUMP_CMD = true ∧ (match ch.obs.dump with | some d => !d.done | none => false) = false :=
  ⟨live, 0, _, none, rfl, by decide +kernel⟩

theorem witness_TracesRunsAndDumps_14 : ∃ (s : State) (c : Fin 8) (ch : Chan) (src : Option (Fin 17)), s.chan c = ch ∧ s.reaches src c R.OBS_DUMP_CMD = true ∧ (match ch.obs.dump with | some d => !d.done | none => false) = true :=
  ⟨(st fun ch => { ch with obs := { ch.obs with dump := some { at_ := 5 } } }), 0, _, none, rfl, by decide +kernel⟩

theorem witness_TracesRunsAndDumps_15 : ∃ (s : State) (c : Fin 8) (ch : Chan) (src : Option (Fin 17)), s.chan c = ch ∧ ch.isOn = true :=
  ⟨(st fun ch => Chan.setFlag ((ch.setFlag R.PWR_STATUS F.PWR_STATUS_fail_stop true).setFld R.PWR_STATUS F.PWR_STATUS_fail_reason 1) R.OBS_CTRL F.OBS_CTRL_dump_on_fail true), 0, _, none, rfl, by decide +kernel⟩

theorem witness_TracesRunsAndDumps_16 : ∃ (s : State) (c : Fin 8) (ch : Chan), s.chan c = ch ∧ ch.isOn = true :=
  ⟨(st fun ch => { { ch with flow := { ch.flow with fills := [7] } } with obs := { ch.obs with dump := some { at_ := 5 } } }), 0, _, rfl, by decide +kernel⟩

theorem witness_TracesRunsAndDumps_17 : ∃ (s : State) (c : Fin 8) (ch : Chan) (d : Dump), s.chan c = ch ∧ ch.isOn = true ∧ ch.obs.dump = some d ∧ d.done = false ∧ (d.partial_ = true ∨ ch.dumpQuiet = true) :=
  ⟨(st fun ch => { ch with obs := { ch.obs with dump := some { at_ := 5 } } }), 0, _, ({ at_ := 5 }), rfl, by decide +kernel⟩

theorem witness_TracesRunsAndDumps_18 : ∃ (s : State) (c : Fin 8) (ch : Chan), s.chan c = ch ∧ ch.isOn = true ∧ (ch.obs.dump.all fun d => d.done || (!d.partial_ && !ch.dumpQuiet)) = true :=
  ⟨live, 0, _, rfl, by decide +kernel⟩

theorem witness_RegisterWritesByAccessType_1 : ∃ (s : State) (c : Fin 8) (ch : Chan) (who : Agent) (off : Nat) (v : Word), s.chan c = ch ∧ s.hubRuns = true ∧ (∀ d : Fin 8, who ≠ .firmware d) :=
  ⟨live, 0, _, (.fn 0 0), 0x100, 1, rfl, by decide +kernel⟩

theorem witness_RegisterWritesByAccessType_3 : ∃ (s : State) (c : Fin 8) (ch : Chan) (inst : Fin 17) (off : Nat) (v : Word), s.chan c = ch ∧ (ch.isOn = false ∨ ch.fnLive inst = false) :=
  ⟨live, 0, _, 1, R.CHN_STAGE_SRC, 1, rfl, by decide +kernel⟩

theorem witness_RegisterWritesByAccessType_4 : ∃ (s : State) (c : Fin 8) (ch : Chan) (inst : Fin 17) (off : Nat) (v : Word), s.chan c = ch ∧ ch.isOn = true ∧ ch.fnLive inst = true ∧ ch.boot.quarantined = true ∧ (inst.val ≠ 0 ∨ off % 8 ≠ 0 ∨ ch.quarantineWrite off v = false) :=
  ⟨(st fun ch => { ch with boot := { state := .quarantine } }), 0, _, 0, R.CHN_STAGE_SRC, 1, rfl, by decide +kernel⟩

theorem witness_RegisterWritesByAccessType_5 : ∃ (s : State) (c : Fin 8) (ch : Chan) (inst : Fin 17) (off : Nat) (v : Word), s.chan c = ch ∧ ch.isOn = true ∧ ch.fnLive inst = true ∧ ch.boot.quarantined = false ∧ 2 ≤ ch.pwrState :=
  ⟨(st fun ch => ch.setPwrState 3), 0, _, 0, R.CHN_STAGE_SRC, 1, rfl, by decide +kernel⟩

theorem witness_RegisterWritesByAccessType_6 : ∃ (s : State) (c : Fin 8) (ch : Chan) (inst : Fin 17) (off : Nat) (v : Word), s.chan c = ch ∧ ch.isOn = true ∧ ch.fnLive inst = true ∧ ch.boot.quarantined = false ∧ ch.pwrState < 2 ∧ (off % 8 ≠ 0 ∨ 0x4000000 ≤ off ∨ (inst.val = 0 ∧ off < 0x2000000 ∧ obsPriv off = true ∧ s.priv c = false) ∨ (inst.val ≠ 0 ∧ off < 0x3000000 ∧ (ch.vfReach inst off = .absent ∨ ch.vfReach inst off = .readOnly))) :=
  ⟨live, 0, _, 0, 0x111, 1, rfl, by decide +kernel⟩

theorem witness_RegisterWritesByAccessType_7 : ∃ (s : State) (c : Fin 8) (ch : Chan) (inst : Fin 17) (off : Nat) (v : Word), s.chan c = ch ∧ ch.isOn = true ∧ ch.fnLive inst = true ∧ ch.boot.quarantined = false ∧ ch.pwrState < 2 ∧ inst.val ≠ 0 ∧ off % 8 = 0 ∧ off < 0x2000000 ∧ ch.vfReach inst off = .denied :=
  ⟨(st fun ch => { withTenant ch with host := { vfEnable := true, numVFs := 1 } }), 0, _, 1, R.PDP_CTRL, 1, rfl, by decide +kernel⟩

theorem witness_RegisterWritesByAccessType_8 : ∃ (s : State) (c : Fin 8) (ch : Chan) (off : Nat) (v : Word), s.chan c = ch ∧ (ch.isOn = false ∨ ch.pwr.lodestar ≠ .running ∨ off % 8 ≠ 0 ∨ 0x4000000 ≤ off) :=
  ⟨live, 0, _, 4, 1, rfl, by decide +kernel⟩

theorem witness_RegisterWritesByAccessType_9 : ∃ (s : State) (c : Fin 8) (ch : Chan) (src : Option (Fin 17)) (who : Agent) (v : Word) (off : Nat), s.chan c = ch ∧ (match src with | some inst => Agent.fn c inst | none => .firmware c) = who ∧ s.reaches src c off = true ∧ (off = R.CHN_ID ∨ off = R.CHN_CAP ∨ off = R.CHN_LOCATION) :=
  ⟨live, 0, _, none, (.firmware 0), 0, R.CHN_CAP, rfl, by decide +kernel⟩

theorem witness_RegisterWritesByAccessType_10 : ∃ (s : State) (c : Fin 8) (ch : Chan) (src : Option (Fin 17)) (who : Agent) (v : Word), s.chan c = ch ∧ (match src with | some inst => Agent.fn c inst | none => .firmware c) = who ∧ s.reaches src c (R.CHN_STAGE_SRC) = true :=
  ⟨live, 0, _, none, (.firmware 0), 0xFFFFFFFFFFFFFFFF, rfl, by decide +kernel⟩

theorem witness_RegisterWritesByAccessType_11 : ∃ (s : State) (c : Fin 8) (ch : Chan) (src : Option (Fin 17)) (who : Agent) (v : Word), s.chan c = ch ∧ (match src with | some inst => Agent.fn c inst | none => .firmware c) = who ∧ s.reaches src c (R.FLW_HASH_SEED) = true :=
  ⟨live, 0, _, none, (.firmware 0), 0x1234567890ABCDEF, rfl, by decide +kernel⟩

theorem witness_RegisterWritesByAccessType_12 : ∃ (s : State) (c : Fin 8) (ch : Chan) (src : Option (Fin 17)) (who : Agent) (v : Word), s.chan c = ch ∧ (match src with | some inst => Agent.fn c inst | none => .firmware c) = who ∧ s.reaches src c (R.PRS_CTRL) = true :=
  ⟨live, 0, _, none, (.firmware 0), 0xFFFF, rfl, by decide +kernel⟩

theorem witness_RegisterWritesByAccessType_13 : ∃ (s : State) (c : Fin 8) (ch : Chan) (src : Option (Fin 17)) (who : Agent) (v : Word) (k : Nat), s.chan c = ch ∧ (match src with | some inst => Agent.fn c inst | none => .firmware c) = who ∧ s.reaches src c (R.CHN_EVQ_BASE) = true ∧ bank (writerInst src) R.CHN_EVQ_BASE = k ∧ (getF v F.CHN_EVQ_BASE_log2_size = 0 ∨ (6 ≤ getF v F.CHN_EVQ_BASE_log2_size ∧ getF v F.CHN_EVQ_BASE_log2_size ≤ 16)) :=
  ⟨live, 0, _, none, (.firmware 0), 0xABCDEF0012345650, R.CHN_EVQ_BASE, rfl, by decide +kernel⟩

theorem witness_RegisterWritesByAccessType_14 : ∃ (s : State) (c : Fin 8) (ch : Chan) (src : Option (Fin 17)) (who : Agent) (v : Word), s.chan c = ch ∧ (match src with | some inst => Agent.fn c inst | none => .firmware c) = who ∧ s.reaches src c (R.CHN_EVQ_BASE) = true ∧ getF v F.CHN_EVQ_BASE_log2_size ≠ 0 ∧ (getF v F.CHN_EVQ_BASE_log2_size < 6 ∨ 16 < getF v F.CHN_EVQ_BASE_log2_size) :=
  ⟨live, 0, _, none, (.firmware 0), 5, rfl, by decide +kernel⟩

theorem witness_RegisterWritesByAccessType_15 : ∃ (s : State) (c : Fin 8) (ch : Chan) (inst : Fin 17) (off : Nat) (v : Word), s.chan c = ch ∧ ch.isOn = true ∧ ch.fnLive inst = true ∧ ch.boot.quarantined = false ∧ ch.pwrState < 2 ∧ off % 8 = 0 ∧ 0x3000000 ≤ off ∧ off < 0x4000000 :=
  ⟨live, 0, _, 0, 0x3000008, 0x0102030405060708, rfl, by decide +kernel⟩

theorem witness_HubRegisterWrites_1 : ∃ (s : State) (off : Nat) (v : Word), s.hubRuns = false :=
  ⟨({ live with pack := { live.pack with porn := true } }), 0x10, 0, by decide +kernel⟩

theorem witness_HubRegisterWrites_2 : ∃ (s : State) (v : Word), s.hubRuns = true :=
  ⟨live, 0x0807060504030201, by decide +kernel⟩

theorem witness_HubRegisterWrites_3 : ∃ (s : State) (v : Word), s.hubRuns = true :=
  ⟨live, 0xFFA5, by decide +kernel⟩

theorem witness_HubRegisterWrites_4 : ∃ (s : State) (off : Nat) (v : Word) (i : Fin 8), s.hubRuns = true ∧ (off = R.HIF_LINK_STATUS ∨ off = R.HIF_CNT_DATA ∨ off = R.BOOT_STATUS i ∨ off = R.BOOT_FUSE_STATE i ∨ off = R.BOOT_DEVICE_ID i ∨ off = R.SUP_ID ∨ off = R.SUP_CAP ∨ off = R.SUP_CHN_STATUS i) :=
  ⟨live, R.SUP_CAP, 0, 0, by decide +kernel⟩

theorem witness_HubRegisterWrites_5 : ∃ (s : State) (v : Word), s.hubRuns = true :=
  ⟨({ live with hub := live.hub.wr R.HIF_BRIDGE_STATUS 0xF }), 0x5, by decide +kernel⟩

theorem witness_HubRegisterWrites_6 : ∃ (s : State) (v : Word), s.hubRuns = true ∧ ringBits v 6 16 = false :=
  ⟨live, 5, by decide +kernel⟩

theorem witness_HubRegisterWrites_7 : ∃ (s : State) (v : Word), s.hubRuns = true ∧ ringBits v 6 16 = true :=
  ⟨live, 0xFFFFFFFFFFFFFFF0, by decide +kernel⟩

theorem witness_HubRegisterWrites_8 : ∃ (s : State) (v : Word) (d : Fin 8), s.hubRuns = true ∧ s.hub.flag R.BOOT_CMD F.BOOT_CMD_start = false ∧ getF v F.BOOT_CMD_start = 1 ∧ getF v F.BOOT_CMD_command = 1 ∧ getF v F.BOOT_CMD_channel = d.val :=
  ⟨live, (setF (setF 0 F.BOOT_CMD_start 1) F.BOOT_CMD_command 1), 0, by decide +kernel⟩

theorem witness_HubRegisterWrites_9 : ∃ (s : State) (v : Word) (d : Fin 8), s.hubRuns = true ∧ s.hub.flag R.BOOT_CMD F.BOOT_CMD_start = false ∧ getF v F.BOOT_CMD_start = 1 ∧ getF v F.BOOT_CMD_command = 2 ∧ getF v F.BOOT_CMD_channel = d.val :=
  ⟨live, (setF (setF 0 F.BOOT_CMD_start 1) F.BOOT_CMD_command 2), 0, by decide +kernel⟩

theorem witness_HubRegisterWrites_10 : ∃ (s : State) (v : Word) (d : Fin 8), s.hubRuns = true ∧ s.hub.flag R.BOOT_CMD F.BOOT_CMD_start = false ∧ getF v F.BOOT_CMD_start = 1 ∧ getF v F.BOOT_CMD_command = 3 ∧ getF v F.BOOT_CMD_channel = d.val :=
  ⟨live, (setF (setF 0 F.BOOT_CMD_start 1) F.BOOT_CMD_command 3), 0, by decide +kernel⟩

theorem witness_HubRegisterWrites_11 : ∃ (s : State) (v : Word) (d : Fin 8), s.hubRuns = true ∧ s.hub.flag R.BOOT_CMD F.BOOT_CMD_start = false ∧ getF v F.BOOT_CMD_start = 1 ∧ 3 < getF v F.BOOT_CMD_command :=
  ⟨live, (setF (setF 0 F.BOOT_CMD_start 1) F.BOOT_CMD_command 9), 0, by decide +kernel⟩

theorem witness_HubRegisterWrites_12 : ∃ (s : State) (v : Word) (d k : Fin 8), s.hubRuns = true ∧ getF v F.BOOT_FUSE_CMD_start = 1 ∧ getF v F.BOOT_FUSE_CMD_op = 1 ∧ getF v F.BOOT_FUSE_CMD_channel = d.val ∧ getF v F.BOOT_FUSE_CMD_slot = k.val :=
  ⟨live, (setF (setF 0 F.BOOT_FUSE_CMD_start 1) F.BOOT_FUSE_CMD_op 1), 0, 0, by decide +kernel⟩

theorem witness_HubRegisterWrites_13 : ∃ (s : State) (v : Word) (d k : Fin 8), s.hubRuns = true ∧ getF v F.BOOT_FUSE_CMD_start = 1 ∧ getF v F.BOOT_FUSE_CMD_op = 2 ∧ getF v F.BOOT_FUSE_CMD_channel = d.val ∧ getF v F.BOOT_FUSE_CMD_slot = k.val :=
  ⟨live, (setF (setF 0 F.BOOT_FUSE_CMD_start 1) F.BOOT_FUSE_CMD_op 2), 0, 0, by decide +kernel⟩

theorem witness_HubRegisterWrites_14 : ∃ (s : State) (v : Word) (d : Fin 8), s.hubRuns = true ∧ getF v F.SUP_CHN_CTRL_power_on = 1 ∧ getF v F.SUP_CHN_CTRL_power_off = 0 ∧ getF v F.SUP_CHN_CTRL_reset = 0 :=
  ⟨live, 1, 3, by decide +kernel⟩

theorem witness_HubRegisterWrites_15 : ∃ (s : State) (v : Word) (d : Fin 8), s.hubRuns = true ∧ getF v F.SUP_CHN_CTRL_power_on = 0 ∧ getF v F.SUP_CHN_CTRL_power_off = 1 ∧ getF v F.SUP_CHN_CTRL_reset = 0 :=
  ⟨live, 2, 0, by decide +kernel⟩

theorem witness_HubRegisterWrites_16 : ∃ (s : State) (v : Word) (d : Fin 8), s.hubRuns = true ∧ getF v F.SUP_CHN_CTRL_power_on = 0 ∧ getF v F.SUP_CHN_CTRL_power_off = 0 ∧ getF v F.SUP_CHN_CTRL_reset = 1 :=
  ⟨live, 4, 0, by decide +kernel⟩

theorem witness_HubRegisterWrites_17 : ∃ (s : State) (v : Word), s.hubRuns = true :=
  ⟨live, 8, by decide +kernel⟩

theorem witness_HubRegisterWrites_18 : ∃ (s : State) (v : Word) (m : BitVec 8) (f : Bool), s.hubRuns = true ∧ v = supFreezeWord m.toNat f true :=
  ⟨live, (supFreezeWord 1 true true), 1, true, by decide +kernel⟩

theorem witness_HubRegisterWrites_19 : ∃ (s : State) (v : Word) (m : BitVec 8) (f : Bool), s.hubRuns = true ∧ v = supFreezeWord m.toNat f false :=
  ⟨live, (supFreezeWord 1 false false), 1, false, by decide +kernel⟩

theorem witness_RegisterWritesAreTheirRows : ∃ (s : State) (c : Fin 8) (src : Option (Fin 17)) (v : Word) (who : Agent), (match src with | some inst => Agent.fn c inst | none => .firmware c) = who ∧
    getF v F.FLW_LOCK_REQ_start = 1 ∧ getF v F.FLW_LOCK_REL_start = 1 ∧ ∀ off, s.reaches src c off = true :=
  ⟨live, 0, none, BitVec.allOnes 64, .firmware 0, rfl, by decide +kernel, by decide +kernel, fun _ => rfl⟩

end Sys2Proof.Tests
end

section
/-!
PROOFS of 00_scope.md: a tenant identifier names its channel and its local tenant (R5).
-/

namespace Sys2Proof.Machine

open Sys2Proof

/-- The channel number in a tenant identifier. -/
theorem tid_channel_bits (t : BitVec 7) : (t.extractLsb' 4 3).toNat = t.toNat / 16 := by
  have ht := t.isLt
  rw [BitVec.extractLsb'_toNat, Nat.shiftRight_eq_div_pow]
  omega

/-- The local tenant number in a tenant identifier. -/
theorem tid_local_bits (t : BitVec 7) : (t.extractLsb' 0 4).toNat = t.toNat % 16 := by
  rw [BitVec.extractLsb'_toNat, Nat.shiftRight_zero]

theorem Chan.ownsTid_iff (ch : Chan) (t : Nat) : ch.ownsTid t = true ↔ t / 16 = ch.idx.val := beq_iff_eq

/-- A local tenant's identifier is split into its channel and its number by division by 16. -/
theorem Chan.tid_eq_iff (ch : Chan) {i : Nat} (hi : i < 16) (t : Nat) :
    ch.tid i = t ↔ t / 16 = ch.idx.val ∧ t % 16 = i := by
  unfold Chan.tid
  omega

/-- Settles O3: an identifier is 16 × channel + local tenant, and division by 16 takes it apart in one way only. -/
theorem tenantIdentifiers : Obligations.TenantIdentifiers := by
  intro ch t
  have ht := t.isLt
  rw [tid_channel_bits, tid_local_bits]
  refine ⟨ch.ownsTid_iff _, fun i hi => ch.tid_eq_iff hi _, ⟨t.toNat / 16, by omega⟩, ⟨t.toNat % 16, by omega⟩, ?_, ?_⟩
  · exact (Nat.div_add_mod _ _).symm
  · intro d j h
    simp only [Fin.ext_iff]
    omega

end Sys2Proof.Machine
end

section
/-!
PROOFS of 00_scope.md: a command of one channel leaves the rest of the device alone but for events and a freeze (R6, R377, R431).
-/

namespace Sys2Proof.Machine

open Sys2Proof

/-- `b` is the hub die `a` after events and interrupt vectors only: its time, boot command, ramps, indirect read, D3hot and every
register but its event ring's HIF_EVQ_CONS are as they were. -/
structure HubKept (a b : Hub) : Prop where
  now : b.now = a.now
  program : b.program = a.program
  ramps : b.ramps = a.ramps
  cntRead : b.cntRead = a.cntRead
  d3hot : b.d3hot = a.d3hot
  rd : ∀ k, k ≠ R.HIF_EVQ_CONS → b.rd k = a.rd k

theorem HubKept.refl (a : Hub) : HubKept a a := by constructor <;> intros <;> rfl

theorem HubKept.trans {a b c : Hub} (h : HubKept a b) (g : HubKept b c) : HubKept a c where
  now := g.now.trans h.now
  program := g.program.trans h.program
  ramps := g.ramps.trans h.ramps
  cntRead := g.cntRead.trans h.cntRead
  d3hot := g.d3hot.trans h.d3hot
  rd k hk := (g.rd k hk).trans (h.rd k hk)

theorem HubKept.setEv (a : Hub) (ev : Events) : HubKept a { a with ev := ev } := by constructor <;> intros <;> rfl

theorem HubKept.setFld (a : Hub) (f : Fld) (v : Nat) : HubKept a (a.setFld R.HIF_EVQ_CONS f v) := by
  constructor
  case rd => exact fun k hk => a.rd_wr_ne _ hk
  all_goals rfl

theorem HubKept.vector (a : Hub) (vec : Nat) : HubKept a (a.vector vec) := by
  unfold Hub.vector
  split
  · exact .refl a
  · exact .setEv a _

theorem HubKept.ringEvent (a : Hub) (r : EvRec) : HubKept a (a.ringEvent r) := by
  unfold Hub.ringEvent
  extract_lets _ prod _ _ _ ev b b'
  have hb : HubKept a b' := (HubKept.setEv a ev).trans (.setFld b _ _)
  split
  · exact .refl a
  · split
    · exact .setFld a _ _
    · split
      · exact hb
      · exact hb.trans (.setEv b' _)

/-- Raising an event of the hub die. -/
theorem HubKept.raise (a : Hub) (e : Ev) : HubKept a (a.raise e) := by
  unfold Hub.raise
  generalize a.ev.allow e.id a.now = p
  obtain ⟨ok, supp, ev⟩ := p
  cases ok
  · exact .setEv a _
  · exact (HubKept.setEv a _).trans (.ringEvent _ _)

/-- What a command on channel `c` may do to the rest of the device, from `s` to `t`: events, and a freeze that SUP_FREEZE.follow_fail asks
for. -/
structure Isolated (c : Fin 8) (s t : State) : Prop where
  pack : t.pack = s.pack
  pending : t.pending = s.pending
  hub : HubKept s.hub t.hub
  others : ∀ d, d ≠ c → Agrees (s.chan d) (t.chan d)
  unfollowed : s.hub.flag R.SUP_FREEZE F.SUP_FREEZE_follow_fail = false → ∀ d, d ≠ c → t.chan d = s.chan d

section

variable (s : State) (c : Fin 8)

theorem Isolated.refl : Isolated c s s :=
  ⟨rfl, rfl, .refl _, fun _ _ => .refl _, fun _ _ _ => rfl⟩

theorem HubKept.hubMsg (x : HubMsg) : HubKept s.hub (s.hubMsg c x).hub := by
  cases x with
  | event e => exact .raise _ e
  | failStop =>
    unfold State.hubMsg
    dsimp only
    split <;> exact .refl _

theorem HubKept.hubMsgs (l : List HubMsg) (s : State) : HubKept s.hub (l.foldl (fun s m => s.hubMsg c m) s).hub := by
  induction l generalizing s with
  | nil => exact .refl _
  | cons x r ih => exact (HubKept.hubMsg s c x).trans (ih _)

theorem HubKept.flush : HubKept s.hub (s.flush c).hub := HubKept.hubMsgs c _ (s.setChan c _)

/-- Whatever a command does to its channel. -/
theorem Isolated.onChan (f : Chan → Chan) : Isolated c s (s.onChan c f) where
  pack := s.onChan_pack c f
  pending := s.onChan_pending c f
  hub := HubKept.flush (s.setChan c _) c
  others _ hd := s.onChan_other f hd
  unfollowed h _ hd := s.onChan_other_eq f hd h

theorem Isolated.onLive (f : Chan → Chan) : Isolated c s (s.onLive c f) := .onChan s c _

theorem Isolated.onClocked (f : Chan → Chan) : Isolated c s (s.onClocked c f) := .onChan s c _

/-- A change of HIF_BRIDGE_STATUS sends a vector of PF0, which touches no channel. -/
theorem Isolated.bridgeNote (old : State) {t : State} (h : Isolated c s t) : Isolated c s (old.bridgeNote c t) := by
  unfold State.bridgeNote
  split
  · exact h
  · exact { h with hub := h.hub.trans (.vector _ _) }

theorem Isolated.hostAct (f : Chan → Chan) : Isolated c s (s.hostAct c f) := by
  unfold State.hostAct
  split
  · exact (Isolated.onChan s c f).bridgeNote s c s
  · exact .onChan s c f

theorem Isolated.writeRow (src : Option (Fin 17)) (off : Nat) (v : Word) (f : Chan → Chan) :
    Isolated c s (s.writeRow src c off v f) := by
  cases src with
  | none => exact .onChan s c _
  | some inst => exact .hostAct s c _

theorem Isolated.wordRow (src : Option (Fin 17)) (off : Nat) (mk : Word → Word) (f : Word → Chan → Chan) :
    Isolated c s (s.wordRow src c off mk f) := .writeRow s c src off _ _

theorem Isolated.dumpRow (src : Option (Fin 17)) (auto : Bool) : Isolated c s (s.dumpRow src c auto) := by
  unfold State.dumpRow
  split
  · exact .onLive s c _
  · exact .wordRow s c src _ _ _

theorem Isolated.onConfig (f : Chan → Chan) : Isolated c s (s.onConfig c f) := by
  unfold State.onConfig
  split
  · exact .onChan s c f
  · exact .refl s c

theorem Isolated.dozeAccess (inst off : Nat) (v : Option Word) : Isolated c s (s.dozeAccess c inst off v) := .hostAct s c _

theorem Isolated.d3hotRow {fn : Option (Fin 8 × Fin 17)} (on : Bool) (h : (Instr.d3hot fn on).onlyChan = some c) :
    Isolated c s (s.d3hotRow fn on) := by
  cases fn with
  | none => cases h
  | some f =>
    obtain rfl : f.1 = c := Option.some.inj h
    exact .onConfig s _ _

/-- A whole write of a channel's register, by one of its functions or its firmware. -/
theorem Isolated.registerWrite {who : Agent} (off : Nat) (v : Word) {whole : Bool}
    (h : (Instr.registerWrite who off v whole).onlyChan = some c) : Isolated c s (s.registerWrite who off v whole) := by
  cases whole with
  | false => cases who <;> cases h
  | true =>
    simp only [State.registerWrite, if_true]
    cases who with
    | hub => cases h
    | fn d inst =>
      obtain rfl : d = c := Option.some.inj h
      exact .hostAct s d _
    | firmware d =>
      obtain rfl : d = c := Option.some.inj h
      exact .onChan s d _

/-- Every command of one channel answers a next state, which is isolated: a register row writes through its channel's gate, a write of
the configuration acts while the hub die runs, and every other command is an event inside its channel. -/
theorem exec_isolated (i : Instr) (h : i.onlyChan = some c) : ∃ t, exec i s = .next t ∧ Isolated c s t := by
  cases i with
  | flwLockRequest | flwLockRelease | flwRegionWrite | prsIndRead | prsIndWrite | ldsNoteConsWrite | ldsInsProdWrite | ftrProgWrite
  | fstEnsWrite | camWindowWrite | camWindowCommit | mxePartWrite | rvuPageOwnerWrite | acuAbort | stageRequest | chkUnfence
  | chkUnfenceBanks | chkVmodeWrite | trnContextEnable | vpeGateCommit | vpeIndRead | vpeIndWrite | vpeGroupWrite | vpeTpolWrite
  | vpeShpWrite | memRegionWrite | tenantErase | t2DimmPowerWrite | tenantCreate | dmaDoorbell | attestRequest | pwrOppRequest
  | obsMarkerWrite | obsDebugWrite =>
    obtain rfl := Option.some.inj h
    exact ⟨_, rfl, .writeRow s _ _ _ _ _⟩
  | pdpPortEnable | pdpPortDisable | crfResetHighWater | flwRegionRemove | swap | discard | unload | t2Evacuate | t2Restore
  | zlkPortEnable | zlkPortDisable | pwrGoRun | pwrGoDoze | pwrGoVault | obsFreeze | obsUnfreeze | obsArm | hangDeclare =>
    obtain rfl := Option.some.inj h
    exact ⟨_, rfl, .wordRow s _ _ _ _ _⟩
  | flrChannelPf | flrVf | vfEnableChange =>
    obtain rfl := Option.some.inj h
    exact ⟨_, rfl, .onConfig s _ _⟩
  | registerWrite => exact ⟨_, rfl, .registerWrite s c _ _ h⟩
  | d3hot => exact ⟨_, rfl, .d3hotRow s c _ h⟩
  | dozeAccessWake =>
    obtain rfl := Option.some.inj h
    exact ⟨_, rfl, .dozeAccess s _ _ _ _⟩
  | wakeComplete =>
    obtain rfl := Option.some.inj h
    exact ⟨_, rfl, (Isolated.onLive s _ _).bridgeNote s _ s⟩
  | dumpStart =>
    obtain rfl := Option.some.inj h
    exact ⟨_, rfl, .dumpRow s _ _ _⟩
  | hostLinkUp | malformedTlp | channelNoAnswer | hifCounterRead | bootStart | program | programComplete | activate | commitSv
  | programSlot | revokeSlot | programDeviceId | watchFrameMiss | autoRestart | channelRampStart | channelPowerOn | channelPowerOff
  | channelReset | supFreeze | supUnfreeze | samplePreload | hostPortReset | flrPf0 | hostLinkDown | unsupportedRequest
  | supWatchdogRestart | hifCounterReadDone | vinLow | vinRecovered | packagePowerOn | tapReset | extest | extestPulse | extestTrain
  | clamp | highz | bypass | pornLow | vinPowerLoss => cases h
  | _ =>
    obtain rfl := Option.some.inj h
    exact ⟨_, rfl, .onChan s _ _⟩

end

/-- Settles O6: what a command leaves for the hub die is all that leaves its channel. -/
theorem channelsAreIsolated : Obligations.ChannelsAreIsolated := by
  intro i s c h
  obtain ⟨t, ht, hs⟩ := exec_isolated s c i h
  exact ⟨t, ht, hs.pack, hs.pending, hs.hub.now, hs.hub.program, hs.hub.ramps, hs.hub.cntRead, hs.hub.d3hot, hs.hub.rd,
    fun d hd => ⟨hs.others d hd, fun hf => hs.unfollowed hf d hd⟩⟩

end Sys2Proof.Machine
end

section
/-!
PROOFS of 00_scope.md: a write to a register with a behaviour of its own is that register's command (R11, R446).
-/

namespace Sys2Proof.Machine

open Sys2Proof

/-! ## Register writes: the writer, and the place of an indexed register -/

/-- Who makes a register access of channel `c`: one of its functions or the firmware. -/
def writerOf (c : Fin 8) : Option (Fin 17) → Agent
  | some inst => .fn c inst
  | none => .firmware c

theorem idxOf_eq_some {base stride n off i : Nat} (ho : off = base + stride * i) (hs : 0 < stride) (hi : i < n) :
    idxOf base stride n off = some i := by
  subst ho
  have hd : base + stride * i - base = stride * i := Nat.add_sub_cancel_left ..
  simp [idxOf, hd, Nat.mul_div_cancel_left i hs, hi]

/-- The place of register `i` of a family, as the map lays every family out. -/
theorem idxOf_indexed (base : Nat) {stride n i : Nat} (hs : 0 < stride) (hi : i < n) :
    idxOf (base + stride * 0) stride n (base + stride * i) = some i :=
  idxOf_eq_some (by omega) hs hi

theorem idxOf_eq_none {base stride n off : Nat} (h : off < base ∨ (off - base) % stride ≠ 0 ∨ base + stride * n ≤ off)
    (hs : 0 < stride) : idxOf base stride n off = none := by
  unfold idxOf
  rw [if_neg]
  rintro ⟨h1, h2, h3⟩
  rw [Nat.div_lt_iff_lt_mul hs, Nat.mul_comm] at h3
  omega

/-- `off` is the place of a register below the windows (R159, R339) and not one of the four words from CHN_HRING_BASE on, which only
virtual functions have (Table 14.12). -/
def PlainPlace (off : Nat) : Prop := off % 8 = 0 ∧ off < 0x2000000 ∧ (off < 0x3200 ∨ 0x3220 ≤ off)

/-- A write of `v` to the register at `off` does `f` to its channel, by the number of the writer's function and by whether the
firmware makes it. -/
structure WriteIs (off : Nat) (v : Word) (f : Nat → Bool → Chan → Chan) : Prop where
  place : PlainPlace off
  write : ∀ inst fw ch, ch.regWrite inst fw off v = f inst fw ch

/-! ## A register write is a row's write -/

theorem Chan.awakeWrite_eq {off : Nat} {v : Word} {f : Nat → Bool → Chan → Chan} (h : WriteIs off v f) (ch : Chan) (inst : Nat)
    (priv : Bool) : ch.awakeWrite inst off v priv = ch.reachWrite inst off priv (f inst false) := by
  obtain ⟨⟨h8, hlow, hring⟩, hf⟩ := h
  have hr : idxOf (R.CHN_HRING_BASE 0) 8 4 off = none := idxOf_eq_none (hring.imp_right .inr) (by decide)
  have hw : ¬ (off % 8 ≠ 0 ∨ 0x4000000 ≤ off) := by omega
  have h3 : ¬ 0x3000000 ≤ off := by omega
  have h2 : ¬ 0x2000000 ≤ off := by omega
  simp only [Chan.awakeWrite, Chan.reachWrite, hw, h3, h2, hr, hf, if_false, Option.isSome_none, Bool.false_eq_true]
  by_cases hi : inst = 0
  · subst hi; rfl
  · cases ch.vfReach inst off <;> simp only [hi, if_false]

theorem Chan.fwWrite_eq {off : Nat} {v : Word} {f : Nat → Bool → Chan → Chan} (h : WriteIs off v f) (ch : Chan) :
    ch.fwWrite off v = if ch.isOn && ch.pwr.lodestar == .running then f 0 true ch else ch := by
  obtain ⟨⟨h8, hlow, -⟩, hf⟩ := h
  have h4 : ¬ 0x4000000 ≤ off := by omega
  have h3 : ¬ 0x3000000 ≤ off := by omega
  have h2 : ¬ 0x2000000 ≤ off := by omega
  simp only [Chan.fwWrite, h8, h4, h3, h2, hf, if_false]
  cases ch.isOn <;> cases hl : ch.pwr.lodestar == .running <;> simp [bne, hl]

section

variable (s : State) (c : Fin 8) {off : Nat} {v : Word}

theorem exec_registerWrite_fn {inst : Fin 17} {f : Chan → Chan}
    (h : ∀ (ch : Chan) (priv : Bool), ch.awakeWrite inst off v priv = ch.reachWrite inst off priv f) :
    exec (.registerWrite (.fn c inst) off v true) s = .next (s.writeRow (some inst) c off v f) := by
  simp only [exec, execRegisterWrite, State.registerWrite, State.writeRow, Chan.hostWrite, if_true, h]

theorem exec_registerWrite_firmware {f : Chan → Chan}
    (h : ∀ ch : Chan, ch.fwWrite off v = if ch.isOn && ch.pwr.lodestar == .running then f ch else ch) :
    exec (.registerWrite (.firmware c) off v true) s = .next (s.writeRow none c off v f) := by
  simp only [exec, execRegisterWrite, State.registerWrite, State.writeRow, if_true, h]

/-- A REGISTER_WRITE to a place below the windows meets what a row's write meets, whether or not it reaches the register. -/
theorem exec_registerWrite_eq (src : Option (Fin 17)) {f : Nat → Bool → Chan → Chan} (h : WriteIs off v f) :
    exec (.registerWrite (writerOf c src) off v true) s = .next (s.writeRow src c off v (f (writerInst src) src.isNone)) := by
  cases src with
  | some inst => exact exec_registerWrite_fn s c fun ch priv => ch.awakeWrite_eq h inst priv
  | none => exact exec_registerWrite_firmware s c fun ch => ch.fwWrite_eq h

end

/-! ## What a write of each register does -/

theorem writeIs_stageRequest (v : Word) : WriteIs R.CHN_STAGE_REQ v fun inst _ ch => ch.stageRequest inst v :=
  ⟨by unfold PlainPlace; decide, fun _ _ _ => rfl⟩

theorem writeIs_tenantCreate (i : Fin 16) (v : Word) : WriteIs (R.CHN_TENANT i) v fun _ _ ch => ch.tenantCreate i v where
  place := by simp only [PlainPlace, R.CHN_TENANT]; omega
  write inst fw ch := by
    simp (disch := omega) only [Chan.regWrite, Chan.writeChn, R.CHN_TENANT, R.CHN_STAGE_REQ, if_pos, if_neg, idxOf_indexed]

theorem writeIs_dmaDoorbell (q : Fin 4) (v : Word) : WriteIs (R.CHN_HQ_PROD q) v fun inst _ ch => ch.dmaDoorbell inst q v where
  place := by simp only [PlainPlace, R.CHN_HQ_PROD]; omega
  write inst fw ch := by
    simp (disch := omega) only [Chan.regWrite, Chan.writeChn, R.CHN_TENANT, R.CHN_STAGE_REQ, R.CHN_HQ_PROD, if_pos, if_neg,
      idxOf_eq_none, idxOf_indexed, Option.map_some]

theorem writeIs_slotCmd (n : Fin 64) {v : Word} (hv : getF v F.CHN_SLOT_CMD_start = 1) :
    WriteIs (R.CHN_SLOT_CMD n) v fun inst _ ch => ch.slotCmd inst n (getF v F.CHN_SLOT_CMD_command) where
  place := by simp only [PlainPlace, R.CHN_SLOT_CMD]; omega
  write inst fw ch := by
    have hn : (0x1020 + 0x40 * n.val - 0x1000) / 64 = n := by omega
    simp (disch := omega) only [Chan.regWrite, Chan.writeChn, R.CHN_STAGE_REQ, R.CHN_SLOT_CMD, R.CHN_SLOT_CFG, R.CHN_SLOT_WIN,
      if_pos, if_neg, hn, hv, and_self, if_true]

theorem writeIs_prsInd {v : Word} (hv : getF v F.PRS_IND_SEL_start = 1) :
    WriteIs R.PRS_IND_SEL v fun inst _ ch => ch.prsAccess inst v (getF v F.PRS_IND_SEL_write == 1) :=
  ⟨by unfold PlainPlace; decide, fun inst fw ch => by
    simp [Chan.regWrite, Chan.writePort, R.PRS_IND_SEL, R.PDP_CTRL, R.CRF_STATUS, hv]⟩

theorem writeIs_lockRequest {v : Word} (hv : getF v F.FLW_LOCK_REQ_start = 1) :
    WriteIs R.FLW_LOCK_REQ v fun inst _ ch => ch.lockRequest inst v :=
  ⟨by unfold PlainPlace; decide, fun _ _ _ => if_pos hv⟩

theorem writeIs_lockRelease {v : Word} (hv : getF v F.FLW_LOCK_REL_start = 1) :
    WriteIs R.FLW_LOCK_REL v fun inst _ ch => ch.lockRelease inst v :=
  ⟨by unfold PlainPlace; decide, fun _ _ _ => if_pos hv⟩

theorem writeIs_flwRegionA (i : Fin 16) (v : Word) : WriteIs (R.FLW_REGION_A i) v fun _ _ ch => ch.regionWrite i 0 v where
  place := by simp only [PlainPlace, R.FLW_REGION_A]; omega
  write inst fw ch := by
    simp (disch := omega) only [Chan.regWrite, Chan.writeFlw, R.FLW_LOCK_REQ, R.FLW_LOCK_REL, R.FLW_REGION_A, if_pos, if_neg,
      idxOf_indexed]

theorem writeIs_flwRegionB (i : Fin 16) (v : Word) : WriteIs (R.FLW_REGION_B i) v fun _ _ ch => ch.regionWrite i 1 v where
  place := by simp only [PlainPlace, R.FLW_REGION_B]; omega
  write inst fw ch := by
    simp (disch := omega) only [Chan.regWrite, Chan.writeFlw, R.FLW_LOCK_REQ, R.FLW_LOCK_REL, R.FLW_REGION_A, R.FLW_REGION_B,
      if_pos, if_neg, idxOf_eq_none, idxOf_indexed, Option.map_some]

theorem writeIs_ftrProg (n : Fin 64) (v : Word) :
    WriteIs (R.FTR_PROG n) v fun inst _ ch => ch.ftrProgWrite n (instTenant inst) v where
  place := by simp only [PlainPlace, R.FTR_PROG]; omega
  write inst fw ch := by
    simp (disch := omega) only [Chan.regWrite, Chan.writeFeature, R.FTR_PROG, if_pos, if_neg, idxOf_indexed]

theorem writeIs_fstEns (n : Fin 32) (k : Fin 4) (v : Word) :
    WriteIs (R.FST_ENS_CFG n + 8 * k.val) v fun _ fw ch => ch.fstEnsWrite n k (!fw) v where
  place := by simp only [PlainPlace, R.FST_ENS_CFG]; omega
  write inst fw ch := by
    have hn : (0x500100 + 0x20 * n.val + 8 * k.val - 0x500100) / 32 = n := by omega
    have hk : (0x500100 + 0x20 * n.val + 8 * k.val - 0x500100) % 32 / 8 = k := by omega
    simp (disch := omega) only [Chan.regWrite, Chan.writeFeature, R.FTR_PROG, R.FST_ENS_CFG, if_pos, if_neg, idxOf_eq_none, hn,
      hk]

theorem writeIs_mxeCtrl (e : Fin 4) (v : Word) : WriteIs (R.MXE_CTRL e) v fun _ _ ch => ch.mxePartWrite e false v where
  place := by simp only [PlainPlace, R.MXE_CTRL]; omega
  write inst fw ch := by
    simp (disch := omega) only [Chan.regWrite, Chan.writeEngines, R.MXE_CTRL, if_pos, if_neg, idxOf_indexed]

theorem writeIs_mxePart (e : Fin 4) (v : Word) : WriteIs (R.MXE_PART e) v fun _ _ ch => ch.mxePartWrite e true v where
  place := by simp only [PlainPlace, R.MXE_PART]; omega
  write inst fw ch := by
    simp (disch := omega) only [Chan.regWrite, Chan.writeEngines, R.MXE_CTRL, R.MXE_PART, if_pos, if_neg, idxOf_eq_none,
      idxOf_indexed]

theorem writeIs_pageOwner (u : Fin 2) (i : Fin 32) (v : Word) :
    WriteIs (R.RVU_PAGE_OWNER u i) v fun _ _ ch => ch.pageOwnerWrite u i v where
  place := by simp only [PlainPlace, R.RVU_PAGE_OWNER]; omega
  write inst fw ch := by
    match u with
    | 0 | 1 =>
      simp (disch := omega) only [Chan.regWrite, Chan.writeEngines, R.MXE_CTRL, R.MXE_PART, R.RVU_PAGE_OWNER, if_pos, if_neg,
        idxOf_eq_none, idxOf_indexed, Fin.isValue, Fin.val_zero, Fin.val_one]

theorem writeIs_acuAbort (v : Word) : WriteIs R.ACU_ABORT v fun inst _ ch => ch.acuAbort inst v :=
  ⟨by unfold PlainPlace; decide, fun _ _ _ => rfl⟩

theorem writeIs_gateCtrl (v : Word) : WriteIs R.VPE_GATE_CTRL v fun _ _ ch => ch.gateCtrlWrite v :=
  ⟨by unfold PlainPlace; decide, fun _ _ _ => rfl⟩

theorem writeIs_vpeInd {v : Word} (hv : getF v F.VPE_IND_SEL_start = 1) :
    WriteIs R.VPE_IND_SEL v fun inst _ ch => ch.vpeAccess inst v (getF v F.VPE_IND_SEL_write == 1) :=
  ⟨by unfold PlainPlace; decide, fun inst fw ch => by
    simp [Chan.regWrite, Chan.writeVpe, R.VPE_IND_SEL, R.VPE_CTRL, R.VPE_GATE_CTRL, hv]⟩

theorem writeIs_vpeTpol (i : Fin 16) (v : Word) : WriteIs (R.VPE_TPOL i) v fun _ _ ch => ch.tpolWrite i v where
  place := by simp only [PlainPlace, R.VPE_TPOL]; omega
  write inst fw ch := by
    simp (disch := omega) only [Chan.regWrite, Chan.writeVpe, R.VPE_CTRL, R.VPE_GATE_CTRL, R.VPE_IND_SEL, R.VPE_TPOL, if_pos,
      if_neg, idxOf_indexed]

theorem writeIs_vpeGroup (g : Fin 16) (v : Word) : WriteIs (R.VPE_GROUP g) v fun _ _ ch => ch.groupWrite g v where
  place := by simp only [PlainPlace, R.VPE_GROUP]; omega
  write inst fw ch := by
    simp (disch := omega) only [Chan.regWrite, Chan.writeVpe, R.VPE_CTRL, R.VPE_GATE_CTRL, R.VPE_IND_SEL, R.VPE_TPOL,
      R.VPE_GROUP, if_pos, if_neg, idxOf_eq_none, idxOf_indexed]

theorem writeIs_vpeShp (i : Fin 16) (q : Fin 2) (v : Word) : WriteIs (R.VPE_SHP i q) v fun _ _ ch => ch.shpWrite i q v where
  place := by simp only [PlainPlace, R.VPE_SHP]; omega
  write inst fw ch := by
    have hk : idxOf (0x900500 + 0x10 * 0 + 0x8 * 0) 8 32 (0x900500 + 0x10 * i.val + 0x8 * q.val) = some (2 * i.val + q.val) :=
      idxOf_eq_some (by omega) (by decide) (by omega)
    have hi : (2 * i.val + q.val) / 2 = i := by omega
    have hq : (2 * i.val + q.val) % 2 = q := by omega
    simp (disch := omega) only [Chan.regWrite, Chan.writeVpe, R.VPE_CTRL, R.VPE_GATE_CTRL, R.VPE_IND_SEL, R.VPE_TPOL,
      R.VPE_GROUP, R.VPE_SLOT, R.VPE_MTR_REGION, R.VPE_SHP, if_pos, if_neg, idxOf_eq_none, Option.map_some, hk, hi, hq]

theorem writeIs_trnCfg (g : Fin 4) (v : Word) : WriteIs (R.TRN_CFG g) v fun _ _ ch => ch.trnCfgWrite g v (ch.trnHeld g) where
  place := by simp only [PlainPlace, R.TRN_CFG]; omega
  write inst fw ch := by
    simp (disch := omega) only [Chan.regWrite, Chan.writeTrnChkMem, R.CHK_VMODE, R.CHK_UNFENCE, R.CHK_UNFENCE_BANKS,
      R.MEM_T2_CTRL, R.MEM_KEY_CMD, R.TRN_CFG, if_pos, if_neg, idxOf_indexed]

theorem writeIs_vmode (v : Word) : WriteIs R.CHK_VMODE v fun _ _ ch => ch.vmodeWrite v :=
  ⟨by unfold PlainPlace; decide, fun _ _ _ => rfl⟩

theorem writeIs_unfence (v : Word) : WriteIs R.CHK_UNFENCE v fun _ _ ch => ch.unfenceWrite v :=
  ⟨by unfold PlainPlace; decide, fun _ _ _ => rfl⟩

theorem writeIs_unfenceBanks (v : Word) : WriteIs R.CHK_UNFENCE_BANKS v fun _ _ ch => ch.unfenceBanksWrite v :=
  ⟨by unfold PlainPlace; decide, fun _ _ _ => rfl⟩

theorem writeIs_tenantErase (v : Word) : WriteIs R.MEM_KEY_CMD v fun _ _ ch => ch.tenantErase v :=
  ⟨by unfold PlainPlace; decide, fun _ _ _ => rfl⟩

theorem writeIs_memRegionA (i : Fin 64) (v : Word) : WriteIs (R.MEM_REGION_A i) v fun _ _ ch => ch.memRegionWrite i 0 v where
  place := by simp only [PlainPlace, R.MEM_REGION_A]; omega
  write inst fw ch := by
    simp (disch := omega) only [Chan.regWrite, Chan.writeTrnChkMem, R.CHK_VMODE, R.CHK_UNFENCE, R.CHK_UNFENCE_BANKS,
      R.MEM_T2_CTRL, R.MEM_KEY_CMD, R.TRN_CFG, R.MEM_REGION_A, if_pos, if_neg, idxOf_eq_none, idxOf_indexed]

theorem writeIs_memRegionB (i : Fin 64) (v : Word) : WriteIs (R.MEM_REGION_B i) v fun _ _ ch => ch.memRegionWrite i 1 v where
  place := by simp only [PlainPlace, R.MEM_REGION_B]; omega
  write inst fw ch := by
    simp (disch := omega) only [Chan.regWrite, Chan.writeTrnChkMem, R.CHK_VMODE, R.CHK_UNFENCE, R.CHK_UNFENCE_BANKS,
      R.MEM_T2_CTRL, R.MEM_KEY_CMD, R.TRN_CFG, R.MEM_REGION_A, R.MEM_REGION_B, if_pos, if_neg, idxOf_eq_none, idxOf_indexed,
      Option.map_some]

theorem writeIs_zlkPort (p : Fin 3) (v : Word) : WriteIs (R.ZLK_PORT_CTRL p) v fun _ _ ch => ch.zPortWrite p v where
  place := by simp only [PlainPlace, R.ZLK_PORT_CTRL]; omega
  write inst fw ch := by
    simp (disch := omega) only [Chan.regWrite, Chan.writeControl, R.ZLK_CTRL, R.PWR_CTRL, R.PWR_OPP_REQ, R.LDS_ATT_REQ,
      R.OBS_FREEZE, R.OBS_MARKER, R.OBS_DEBUG, R.OBS_DUMP_CMD, R.ZLK_PORT_CTRL, if_neg, idxOf_indexed]

theorem writeIs_pwrCtrl (v : Word) : WriteIs R.PWR_CTRL v fun _ _ ch => ch.pwrCtrlWrite v :=
  ⟨by unfold PlainPlace; decide, fun _ _ _ => rfl⟩

theorem writeIs_oppRequest (v : Word) : WriteIs R.PWR_OPP_REQ v fun _ _ ch => ch.oppRequest v :=
  ⟨by unfold PlainPlace; decide, fun _ _ _ => rfl⟩

theorem writeIs_attestRequest (v : Word) : WriteIs R.LDS_ATT_REQ v fun inst _ ch => ch.attestRequest inst v :=
  ⟨by unfold PlainPlace; decide, fun _ _ _ => rfl⟩

theorem writeIs_obsFreeze (v : Word) : WriteIs R.OBS_FREEZE v fun _ _ ch => ch.obsFreezeWrite v :=
  ⟨by unfold PlainPlace; decide, fun _ _ _ => rfl⟩

theorem writeIs_obsMarker (v : Word) : WriteIs R.OBS_MARKER v fun _ _ ch => ch.obsMarker v :=
  ⟨by unfold PlainPlace; decide, fun _ _ _ => rfl⟩

theorem writeIs_obsDebug (v : Word) : WriteIs R.OBS_DEBUG v fun _ _ ch => ch.debugWrite v :=
  ⟨by unfold PlainPlace; decide, fun _ _ _ => rfl⟩

theorem writeIs_dumpCmd (v : Word) : WriteIs R.OBS_DUMP_CMD v fun _ _ ch => ch.dumpCmdWrite v :=
  ⟨by unfold PlainPlace; decide, fun _ _ _ => rfl⟩

theorem writeIs_noteIdx (i : Fin 16) (v : Word) :
    WriteIs (R.LDS_NOTE_IDX i) v fun inst fw ch => ch.noteConsWrite (if fw then .firmware else .host inst) i v where
  place := by simp only [PlainPlace, R.LDS_NOTE_IDX]; omega
  write inst fw ch := by
    simp (disch := omega) only [Chan.regWrite, Chan.writeControl, R.ZLK_CTRL, R.PWR_CTRL, R.PWR_OPP_REQ, R.LDS_ATT_REQ,
      R.OBS_FREEZE, R.OBS_MARKER, R.OBS_DEBUG, R.OBS_DUMP_CMD, R.ZLK_PORT_CTRL, R.ZLK_SHARE, R.LDS_NOTE_IDX, if_neg,
      idxOf_eq_none, idxOf_indexed]

theorem writeIs_insIdx (k : Fin 17) (v : Word) : WriteIs (R.LDS_INS_IDX k) v fun _ _ ch => ch.insProdWrite k v where
  place := by simp only [PlainPlace, R.LDS_INS_IDX]; omega
  write inst fw ch := by
    simp (disch := omega) only [Chan.regWrite, Chan.writeControl, R.ZLK_CTRL, R.PWR_CTRL, R.PWR_OPP_REQ, R.LDS_ATT_REQ,
      R.OBS_FREEZE, R.OBS_MARKER, R.OBS_DEBUG, R.OBS_DUMP_CMD, R.ZLK_PORT_CTRL, R.ZLK_SHARE, R.LDS_NOTE_IDX, R.LDS_INS_IDX,
      if_neg, idxOf_eq_none, idxOf_indexed, Option.map_some]

/-! ## Action words -/

theorem Chan.zPortWrite_enable (ch : Chan) (p : Nat) (w : Word) :
    ch.zPortWrite p (setF w F.ZLK_PORT_CTRL_port_enable 1) = ch.zEnable p := by
  unfold Chan.zPortWrite
  rw [getF_setF_same _ _ _ (by decide), if_pos (by decide)]

theorem Chan.zPortWrite_disable (ch : Chan) (p : Nat) (w : Word) :
    ch.zPortWrite p (setF w F.ZLK_PORT_CTRL_port_enable 0) = ch.zDisable p := by
  unfold Chan.zPortWrite
  rw [getF_setF_same _ _ _ (by decide), if_neg (by decide)]

/-! ## The Leaf CAM window (R159) -/

theorem add_stride_parts (s d : Nat) : s * (if s = 0 then 0 else d / s) + (if s = 0 then d else d % s) = d := by
  split
  · simp
  · exact Nat.div_add_mod d s

/-- The indices a row gives an offset name its place in the row. -/
theorem RegRow.find_eq_some {r : RegRow} {off i j : Nat} (h : r.find off = some (i, j)) :
    off = r.base + r.s1 * i + r.s2 * j ∧ i < r.n1 ∧ j < r.n2 := by
  unfold RegRow.find at h
  split at h
  · cases h
  · extract_lets d i' d' j' e at h
    split at h
    next hlow hrow =>
      obtain ⟨he, hi, hj⟩ := hrow
      obtain ⟨rfl, rfl⟩ := Prod.mk.inj (Option.some.inj h)
      have h1 : r.s1 * i' + d' = d := add_stride_parts r.s1 d
      have h2 : r.s2 * j' + e = d' := add_stride_parts r.s2 d'
      exact ⟨by omega, hi, hj⟩
    · cases h

theorem RegRow.find_eq_none {r : RegRow} {off : Nat} (h : r.base + r.s1 * r.n1 + r.s2 * r.n2 < off) : r.find off = none := by
  by_contra hne
  obtain ⟨⟨i, j⟩, hij⟩ := Option.ne_none_iff_exists'.mp hne
  obtain ⟨ho, hi, hj⟩ := RegRow.find_eq_some hij
  have h1 := Nat.mul_le_mul_left r.s1 hi.le
  have h2 := Nat.mul_le_mul_left r.s2 hj.le
  omega

theorem findRow_eq_none {rows : List RegRow} {off : Nat} (h : ∀ r ∈ rows, r.find off = none) : findRow rows off = none := by
  induction rows with
  | nil => rfl
  | cons r rs ih =>
    simp only [findRow, h r List.mem_cons_self]
    exact ih fun r' hr => h r' (List.mem_cons_of_mem r hr)

/-- Every register lies below the windows. -/
theorem channelRows_low : ∀ r ∈ channelRows, r.base + r.s1 * r.n1 + r.s2 * r.n2 < 0x2000000 := by
  decide +kernel

/-- No virtual function reaches a register at a place of a window. -/
theorem Chan.vfReach_window (ch : Chan) (inst : Nat) {off : Nat} (h : 0x2000000 ≤ off) : ch.vfReach inst off = .absent := by
  have hrow : findRow channelRows off = none :=
    findRow_eq_none fun r hr => RegRow.find_eq_none ((channelRows_low r hr).trans_le h)
  unfold Chan.vfReach
  rw [hrow]

theorem State.reaches_window {s : State} {c : Fin 8} {inst : Fin 17} {off : Nat} (h : s.reaches (some inst) c off = true)
    (hoff : 0x2000000 ≤ off) : inst = 0 := by
  by_contra hi
  have hv : inst.val ≠ 0 := fun e => hi (Fin.ext e)
  simp [State.reaches, hv, Chan.vfReach_window _ _ hoff] at h

/-- The places of the window are words of 8 bytes below the scratchpad's window. -/
theorem camOffset_place (e : BitVec 16) :
    camOffset e.toNat 20 % 8 = 0 ∧ 0x2000000 ≤ camOffset e.toNat 20 ∧ camOffset e.toNat 20 < 0x3000000 := by
  have := e.isLt
  unfold camOffset
  omega

theorem Chan.camWrite_commit (ch : Chan) (e : BitVec 16) (v : Word) :
    ch.camWrite (camOffset e.toNat 20) v = ch.camWindowCommit e.toNat v := by
  have he : (camOffset e.toNat 20 - 0x2000000) / 256 = e.toNat := by unfold camOffset; omega
  have hw : (camOffset e.toNat 20 - 0x2000000) % 256 / 8 = 20 := by unfold camOffset; omega
  simp only [Chan.camWrite, camPlace, he, hw, if_true]

section

variable (ch : Chan) {off : Nat} (v : Word) (h8 : off % 8 = 0) (hlow : 0x2000000 ≤ off) (hhigh : off < 0x3000000)

include h8 hlow hhigh

theorem Chan.awakeWrite_window (priv : Bool) :
    ch.awakeWrite 0 off v priv = ch.reachWrite 0 off priv fun ch => ch.camWrite off v := by
  have hw : ¬ (off % 8 ≠ 0 ∨ 0x4000000 ≤ off) := by omega
  have hp : obsPriv off = false := decide_eq_false (by omega)
  simp [Chan.awakeWrite, Chan.reachWrite, hw, Nat.not_le.mpr hhigh, hlow, hp]

theorem Chan.fwWrite_window :
    ch.fwWrite off v = if ch.isOn && ch.pwr.lodestar == .running then ch.camWrite off v else ch := by
  have h4 : ¬ 0x4000000 ≤ off := by omega
  simp only [Chan.fwWrite, h8, h4, Nat.not_le.mpr hhigh, hlow, if_true, if_false]
  cases ch.isOn <;> cases hl : ch.pwr.lodestar == .running <;> simp [bne, hl]

end

/-- Word 20 of an entry in the window: only the physical function and the firmware reach it. -/
theorem exec_registerWrite_camCommit (s : State) (c : Fin 8) (src : Option (Fin 17)) (e : BitVec 16) (v : Word)
    (h : s.reaches src c (camOffset e.toNat 20) = true) :
    exec (.registerWrite (writerOf c src) (camOffset e.toNat 20) v true) s = exec (.camWindowCommit c src e v) s := by
  obtain ⟨h8, hlow, hhigh⟩ := camOffset_place e
  cases src with
  | some inst =>
    obtain rfl := State.reaches_window h hlow
    refine exec_registerWrite_fn s c fun ch priv => ?_
    exact (ch.awakeWrite_window v h8 hlow hhigh priv).trans (by simp only [Chan.camWrite_commit]; rfl)
  | none =>
    refine exec_registerWrite_firmware s c fun ch => ?_
    simpa only [Chan.camWrite_commit] using ch.fwWrite_window v h8 hlow hhigh

/-! ## The rows -/

/-- Settles O60: a REGISTER_WRITE passes the gate of a row's write, and the register it names does what the row does. -/
theorem registerWritesAreTheirRows : Obligations.RegisterWritesAreTheirRows := by
  intro s c src v who hwho
  obtain rfl : who = writerOf c src := by
    cases src with
    | some inst => exact hwho.symm
    | none => exact hwho.symm
  have row {off : Nat} {v : Word} {f : Nat → Bool → Chan → Chan} {i : Instr} (h : WriteIs off v f)
      (hi : .next (s.writeRow src c off v (f (writerInst src) src.isNone)) = exec i s) :
      exec (.registerWrite (writerOf c src) off v true) s = exec i s := (exec_registerWrite_eq s c src h).trans hi
  exact ⟨fun i _ => row (writeIs_tenantCreate i v) rfl,
    fun q _ => row (writeIs_dmaDoorbell q v) rfl,
    fun i _ => row (writeIs_memRegionA i v) rfl,
    fun i _ => row (writeIs_memRegionB i v) rfl,
    fun _ => row (writeIs_tenantErase v) rfl,
    fun _ => row (writeIs_unfence v) rfl,
    fun _ => row (writeIs_unfenceBanks v) rfl,
    fun _ => row (writeIs_vmode v) rfl,
    fun e _ => row (writeIs_mxeCtrl e v) rfl,
    fun e _ => row (writeIs_mxePart e v) rfl,
    fun u i _ => row (writeIs_pageOwner u i v) rfl,
    fun _ => row (writeIs_acuAbort v) rfl,
    fun n _ => row (writeIs_ftrProg n v) rfl,
    fun n k _ => row (writeIs_fstEns n k v) (by cases src <;> rfl),
    fun i _ => row (writeIs_flwRegionA i v) rfl,
    fun i _ => row (writeIs_flwRegionB i v) rfl,
    fun i _ => row (writeIs_noteIdx i v) (by cases src <;> rfl),
    fun k _ => row (writeIs_insIdx k v) rfl,
    fun _ => row (writeIs_stageRequest v) rfl,
    fun _ => row (writeIs_gateCtrl v) rfl,
    fun g _ => row (writeIs_vpeGroup g v) rfl,
    fun i _ => row (writeIs_vpeTpol i v) rfl,
    fun i q _ => row (writeIs_vpeShp i q v) rfl,
    fun g _ => row (writeIs_trnCfg g v) rfl,
    fun _ => row (writeIs_oppRequest v) rfl,
    fun _ => row (writeIs_attestRequest v) rfl,
    fun _ => row (writeIs_obsMarker v) rfl,
    fun _ => row (writeIs_obsDebug v) rfl,
    fun e h => exec_registerWrite_camCommit s c src e v h,
    fun _ hv => row (writeIs_lockRequest hv) rfl,
    fun _ hv => row (writeIs_lockRelease hv) rfl,
    fun _ hv => row (writeIs_prsInd hv.1) (by rw [hv.2]; rfl),
    fun _ hv => row (writeIs_prsInd hv.1) (by rw [hv.2]; rfl),
    fun _ hv => row (writeIs_vpeInd hv.1) (by rw [hv.2]; rfl),
    fun _ hv => row (writeIs_vpeInd hv.1) (by rw [hv.2]; rfl),
    fun n _ => row (writeIs_slotCmd n (v := slotCmdWord 1) rfl) rfl,
    fun n _ => row (writeIs_slotCmd n (v := slotCmdWord 2) rfl) rfl,
    fun n _ => row (writeIs_slotCmd n (v := slotCmdWord 3) rfl) rfl,
    fun _ => row (writeIs_pwrCtrl _) rfl,
    fun _ => row (writeIs_pwrCtrl _) rfl,
    fun _ => row (writeIs_pwrCtrl _) rfl,
    fun _ => row (writeIs_obsFreeze _) rfl,
    fun _ => row (writeIs_obsFreeze _) rfl,
    fun _ => row (writeIs_obsFreeze _) rfl,
    fun _ => row (writeIs_dumpCmd _) rfl,
    fun _ => row (writeIs_dumpCmd _) rfl,
    fun p _ => row (writeIs_zlkPort p _) (by simp only [Chan.zPortWrite_enable]; rfl),
    fun p _ => row (writeIs_zlkPort p _) (by simp only [Chan.zPortWrite_disable]; rfl)⟩

end Sys2Proof.Machine
end

section
/-!
PROOFS of 01_channel_and_device_organisation.md: the device right after PORN is released (R36, R422, R447, R448, R457).
-/

namespace Sys2Proof.Machine

open Sys2Proof

/-- Every channel begins with nothing but its number. -/
theorem State.reset_chan (c : Fin 8) : State.reset.chan c = { idx := c } := by
  fin_cases c <;> rfl

/-- No register of it is written, so each reads its reset value. -/
theorem State.reset_rd (c : Fin 8) (k : Nat) : (State.reset.chan c).rd k = regReset c k := by
  rw [State.reset_chan]; rfl

theorem State.reset_allOff : State.reset.allOff := fun c => by rw [State.reset_chan]

theorem State.reset_flushed : State.reset.flushed := fun c => by rw [State.reset_chan]

/-- The fields of CHN_LOCATION: number, die, position and the neighbours of the ring. -/
theorem regReset_location (c : Fin 8) :
    getF (regReset c R.CHN_LOCATION) ⟨0, 3⟩ = c.val ∧ getF (regReset c R.CHN_LOCATION) ⟨3, 2⟩ = c.val / 2 ∧
    getF (regReset c R.CHN_LOCATION) ⟨5, 1⟩ = c.val % 2 ∧ getF (regReset c R.CHN_LOCATION) ⟨8, 3⟩ = (c.val + 7) % 8 ∧
    getF (regReset c R.CHN_LOCATION) ⟨12, 3⟩ = (c.val + 1) % 8 := by
  revert c
  decide

/-- A register that does not differ by channel has the reset value that the rows give. -/
theorem regReset_shared {c k v : Nat} (hloc : k % 4294967296 ≠ R.CHN_LOCATION)
    (hopp : inRow (R.PWR_OPP 0) 8 4 0 1 (k % 4294967296) = false) (hv : resetOf resetRows (k % 4294967296) = v) :
    regReset c k = BitVec.ofNat 64 v := by
  simp only [regReset, hloc, hopp, hv, if_false, Bool.false_eq_true]

/-- The rows of reset values agree with the register index of chapter 18. -/
theorem channelRows_reset : ∀ r ∈ channelRows, r.base ≠ R.CHN_LOCATION → r.base ≠ R.PWR_OPP 0 →
    r.base % 4294967296 ≠ R.CHN_LOCATION ∧ inRow (R.PWR_OPP 0) 8 4 0 1 (r.base % 4294967296) = false ∧
    resetOf resetRows (r.base % 4294967296) = r.reset := by
  decide +kernel

theorem regReset_row (c : Nat) {r : RegRow} (hr : r ∈ channelRows) (hloc : r.base ≠ R.CHN_LOCATION)
    (hopp : r.base ≠ R.PWR_OPP 0) : regReset c r.base = BitVec.ofNat 64 r.reset := by
  obtain ⟨h1, h2, h3⟩ := channelRows_reset r hr hloc hopp
  exact regReset_shared h1 h2 h3

theorem regReset_id (c : Nat) : regReset c R.CHN_ID = 0x0000000824164200 :=
  regReset_shared (by decide) (by decide) (by decide)

theorem regReset_cap (c : Nat) : regReset c R.CHN_CAP = 0x001040141C840824 :=
  regReset_shared (by decide) (by decide) (by decide)

/-- Settles O2: nothing is written yet, so every register reads its reset value and every memory is empty. -/
theorem resetState : Obligations.ResetState := by
  refine ⟨rfl, rfl, State.reset_allOff, fun _ => State.reset_allOff, State.reset_flushed, rfl, rfl, rfl, rfl, fun c => ?_⟩
  simp only [State.reset_rd]
  rw [State.reset_chan]
  obtain ⟨hnum, hdie, hpos, hprev, hnext⟩ := regReset_location c
  exact ⟨rfl, ⟨rfl, rfl, rfl, rfl⟩, rfl, regReset_id c, regReset_cap c, hnum, hdie, hpos, hprev, hnext,
    fun _ hr hloc hopp => regReset_row c hr hloc hopp⟩

end Sys2Proof.Machine
end

section
/-!
PROOFS of 01_channel_and_device_organisation.md: what a command of the fast domain does to its channel.
-/

namespace Sys2Proof.Machine

open Sys2Proof

section

variable {s : State} {c : Fin 8} {ch : Chan} (h : s.chan c = ch)

include h

/-- A command of the fast domain does its work on a channel whose core clock runs. -/
theorem State.onClocked_agrees (hc : ch.clocked = true) (f : Chan → Chan) : Agrees (f ch) ((s.onClocked c f).chan c) := by
  subst h
  have ha := s.onChan_same c fun ch => if ch.clocked then f ch else ch
  simp only [hc, if_true] at ha
  exact ha

/-- A command of the fast domain whose work is `f` leaves the channel as `a`, the outcome of `f`, up to events. -/
theorem exec_clocked {i : Instr} {f : Chan → Chan} {a : Chan} (hi : exec i s = .next (s.onClocked c f)) (hc : ch.clocked = true)
    (ha : f ch = a) : ∃ t, exec i s = .next t ∧ Agrees a (t.chan c) :=
  ⟨_, hi, ha ▸ State.onClocked_agrees h hc f⟩

/-- A register row whose work is `f`, written by one that reaches the register. -/
theorem exec_writeRow {i : Instr} {src : Option (Fin 17)} {off : Nat} {v : Word} {f : Chan → Chan} {a : Chan}
    (hi : exec i s = .next (s.writeRow src c off v f)) (hr : s.reaches src c off = true) (ha : f ch = a) :
    ∃ t, exec i s = .next t ∧ Agrees a (t.chan c) := by
  subst h
  exact ⟨_, hi, ha ▸ (s.writeRow_reaches src c off v f hr).symm ▸ s.onChan_same c f⟩

end

end Sys2Proof.Machine
end

section
/-!
PROOFS of 01_channel_and_device_organisation.md: the forest check, verdict records and epochs (R33, R51, R53, R249 to R259, R275).
-/

namespace Sys2Proof.Machine

open Sys2Proof

variable {ch : Chan}

/-! ## The forest check -/

section

variable {e : Bool} {j : Job} (hj : ch.jobs.find? ch.checkDue = some j)

include hj

theorem Chan.forestCheck_good (hf : ch.forestFault j.leafUses e = none) :
    ch.forestCheck e =
      let a := ch.modJob j.id fun x => { x with leafDone := true }
      if j.checked then a else a.forestPassed j := by
  simp only [Chan.forestCheck, hj, show (ch.modJob j.id _).forestFault j.leafUses e = none from hf]

/-- The recomputed sum differs (reason 3): the lane's adder tree is tested. -/
theorem Chan.forestCheck_sum {k : Nat} (hf : ch.forestFault j.leafUses e = some (3, k)) :
    ch.forestCheck e =
      let a : Chan := (ch.modJob j.id fun x => { x with leafDone := true }).inc R.CHK_CNT_FOREST_MISMATCH
      let b : Chan := a.fault 4 (if j.laneB then 1 else 0) 0 0 0 0 (a.tid j.tenant)
      let d : Chan := if j.decider.isSome then b.withdraw j.id 3 else b
      if d.safeServe then d else d.startTest (.tree (if j.laneB then 1 else 0)) true := by
  simp only [Chan.forestCheck, hj, show (ch.modJob j.id _).forestFault j.leafUses e = some (3, k) from hf, if_true]

/-- A matched entry `k` is wrong: it is queued for repair. -/
theorem Chan.forestCheck_entry {r k : Nat} (hf : ch.forestFault j.leafUses e = some (r, k)) (hr : r ≠ 3) :
    ch.forestCheck e =
      let a : Chan := (ch.modJob j.id fun x => { x with leafDone := true }).inc R.CHK_CNT_FOREST_MISMATCH
      let b : Chan := a.fault 5 0 0 (k / 2048) (k % 2048) 0 (a.tid j.tenant)
      (if j.decider.isSome then b.withdraw j.id r else b).queueRepair k := by
  simp only [Chan.forestCheck, hj, show (ch.modJob j.id _).forestFault j.leafUses e = some (r, k) from hf, hr, if_false]

end

theorem Chan.forestPassed_of_not_held {j : Job} (h : j.stage ≠ .held) :
    ch.forestPassed j = (ch.modJob j.id fun x => { x with checked := true }).undoFree j.id := if_neg h

theorem Chan.forestPassed_of_held {j : Job} {r : VRec} (h : j.stage = .held) (hv : j.verdict = some r) :
    ch.forestPassed j =
      let a : Chan := (ch.modJob j.id fun x => { x with checked := true }).undoFree j.id
      let b : Chan := a.modJob j.id fun x => { x with stage := .queued }
      (if j.copy then b.mirrorCopy j r else b).pushTx { kind := .verdict, vr := r, job := some j.id } := by
  simp only [Chan.forestPassed, h, hv, if_true]

/-! ## The transmit lane -/

theorem Chan.transmit_native (hm : ch.mirror = false) (ts rest : List TxRec) :
    ch.transmit ts rest =
      let a : Chan := { ch with port := { ch.port with txq := rest } }
      ts.foldl Chan.recordSent (a.portSend (verdictBlock none (ts.map (·.vr)))) :=
  congrArg (fun x => ts.foldl Chan.recordSent (Chan.portSend _ x)) (if_neg (Bool.eq_false_iff.mp hm))

theorem Chan.transmit_mirror (hm : ch.mirror = true) (ts rest : List TxRec) :
    ch.transmit ts rest =
      let a : Chan := { ch with port := { ch.port with txq := rest } }
      ts.foldl Chan.recordSent (a.portSend (verdictFrame ch.ethDa ch.ethSa (ts.map (·.vr)))) :=
  congrArg (fun x => ts.foldl Chan.recordSent (Chan.portSend _ x)) (if_pos hm)

theorem Chan.verdictTransmit_serving {ts rest : List TxRec} (hl : ch.linkState = 3) (hp : ch.pickTx ch.frameMax = (ts, rest))
    (ht : ts ≠ []) : ch.verdictTransmit = (ch.transmit ts rest).sendCloses.dropDone := by
  simp [Chan.verdictTransmit, hp, hl, ht]

theorem Chan.retractTransmit_serving {n m : Nat} (hl : ch.linkState = 3) (hm : ch.frameMax = m) (hm0 : 0 < m)
    (hn : (ch.port.txq.takeWhile fun x => decide (x.kind = .retract)).length = n) (hn0 : 0 < n) :
    ch.retractTransmit = (ch.transmit (ch.port.txq.take (min n m)) (ch.port.txq.drop (min n m))).dropDone := by
  have : ¬ (ch.linkState ≠ 3 ∨ min n m = 0) := by omega
  simp only [Chan.retractTransmit, hn, hm, if_neg this]

theorem Chan.frameMax_native (hm : ch.mirror = false) : ch.frameMax = 3 := if_neg (Bool.eq_false_iff.mp hm)

theorem Chan.frameMax_mirror (hm : ch.mirror = true) : ch.frameMax = 8 := if_pos hm

/-! ## Epochs -/

theorem Chan.epochBoundary_modes (he : ch.ns / 2000 ≠ ch.epoch) {v : Nat} (hv : ch.chk.vmodeNext = some v) :
    ch.epochBoundary =
      let a : Chan := ((ch.wr R.CHK_EPOCH (BitVec.ofNat 64 (ch.ns / 2000))).setFld R.CHK_VMODE F.CHK_VMODE_gated v).setFld
        R.CHK_VMODE F.CHK_VMODE_pending 0
      { a with chk := { a.chk with vmodeNext := none } } := by
  simp only [Chan.epochBoundary, he, if_false, Chan.wr_chk, hv]

theorem Chan.epochBoundary_plain (he : ch.ns / 2000 ≠ ch.epoch) (hv : ch.chk.vmodeNext = none) :
    ch.epochBoundary = ch.wr R.CHK_EPOCH (BitVec.ofNat 64 (ch.ns / 2000)) := by
  simp only [Chan.epochBoundary, he, if_false, Chan.wr_chk, hv]

theorem Chan.epochCloses_eq {n m : Nat} (hn : (if ch.chk.closedAny then (ch.rd R.CHK_EPOCH_CLOSED).toNat + 1 else 0) = n)
    (hm : (ch.jobs.filter ch.keepsOpen).foldl (fun a j => min a j.epoch) (min ch.epoch (ch.ns / 2000)) = m) (h : n < m) :
    ch.epochCloses = ch.closeEpochs (m - 1) := by
  simp only [Chan.epochCloses, hn, hm, h, if_true]

/-- Settles O27: each command runs while the core clock does, and takes the branch that its clause names. -/
theorem recordsLeaveAndEpochsPass : Obligations.RecordsLeaveAndEpochsPass := by
  intro s c ch h
  refine ⟨?_, ?_, ?_, ?_, ?_, ?_, ?_, ?_, ?_, ?_, ?_, ?_, ?_, ?_⟩
  · intro e j hc hj hf hk
    exact exec_clocked h rfl hc (by simp only [Chan.forestCheck_good hj hf, hk, if_true])
  · intro e j hc hj hf hk hs
    exact exec_clocked h rfl hc (by
      simp only [Chan.forestCheck_good hj hf, hk, Bool.false_eq_true, if_false, Chan.forestPassed_of_not_held hs])
  · intro e j r hc hj hf hk hs hv
    exact exec_clocked h rfl hc (by
      simp only [Chan.forestCheck_good hj hf, hk, Bool.false_eq_true, if_false, Chan.forestPassed_of_held hs hv])
  · intro e j k hc hj hf
    exact exec_clocked h rfl hc (Chan.forestCheck_sum hj hf)
  · intro e j r k hc hj hf hr
    exact exec_clocked h rfl hc (Chan.forestCheck_entry hj hf hr)
  · intro ts rest hc hl hm hp ht
    rw [← Chan.frameMax_native hm] at hp
    exact exec_clocked h rfl hc (by rw [Chan.verdictTransmit_serving hl hp ht, Chan.transmit_native hm])
  · intro ts rest hc hl hm hp ht
    rw [← Chan.frameMax_mirror hm] at hp
    exact exec_clocked h rfl hc (by rw [Chan.verdictTransmit_serving hl hp ht, Chan.transmit_mirror hm])
  · intro n hc hl hm hn hn0
    exact exec_clocked h rfl hc (by
      rw [Chan.retractTransmit_serving hl (Chan.frameMax_native hm) (by omega) hn hn0, Chan.transmit_native hm])
  · intro n hc hl hm hn hn0
    exact exec_clocked h rfl hc (by
      rw [Chan.retractTransmit_serving hl (Chan.frameMax_mirror hm) (by omega) hn hn0, Chan.transmit_mirror hm])
  · intro v hc he hv
    exact exec_clocked h rfl hc (Chan.epochBoundary_modes he hv)
  · intro hc he hv
    exact exec_clocked h rfl hc (Chan.epochBoundary_plain he hv)
  · intro src v hr
    exact exec_writeRow h rfl hr rfl
  · intro n m hc hn hm hnm
    exact exec_clocked h rfl hc (Chan.epochCloses_eq hn hm hnm)
  · intro hc
    exact exec_clocked h rfl hc rfl

end Sys2Proof.Machine
end

section
/-!
PROOFS of 01_channel_and_device_organisation.md: the units that worked in a core cycle are a note (R425).

A dispatch notes the Carafe, the lane and the Parser among them, and nothing on the way of a descriptor reads the note: each
function of that way takes a channel with another note to the same outcome, with the note it was given (`Chan.noted`).
-/

namespace Sys2Proof.Machine
open Sys2Proof

/-- The channel with the units `w` noted as having worked in this core cycle (R425). -/
def Chan.noted (ch : Chan) (w : List Nat) : Chan := { ch with obs := { ch.obs with worked := w } }

section
variable (ch : Chan) (w : List Nat)

/-- No part of the channel but the observation state holds the note. -/
@[simp] theorem Chan.noted_fields :
    (ch.noted w).idx = ch.idx ∧ (ch.noted w).now = ch.now ∧ (ch.noted w).core = ch.core ∧ (ch.noted w).sid = ch.sid ∧
    (ch.noted w).regs = ch.regs ∧ (ch.noted w).rwo = ch.rwo ∧ (ch.noted w).draws = ch.draws ∧ (ch.noted w).toHub = ch.toHub ∧
    (ch.noted w).ev = ch.ev ∧ (ch.noted w).host = ch.host ∧ (ch.noted w).port = ch.port ∧ (ch.noted w).pwr = ch.pwr ∧
    (ch.noted w).parser = ch.parser ∧ (ch.noted w).flow = ch.flow ∧ (ch.noted w).vpe = ch.vpe ∧ (ch.noted w).mem = ch.mem ∧
    (ch.noted w).ftr = ch.ftr ∧ (ch.noted w).fst = ch.fst ∧ (ch.noted w).eng = ch.eng ∧ (ch.noted w).models = ch.models ∧
    (ch.noted w).jobs = ch.jobs ∧ (ch.noted w).jobNum = ch.jobNum ∧ (ch.noted w).chk = ch.chk ∧ (ch.noted w).trn = ch.trn ∧
    (ch.noted w).trnLast = ch.trnLast ∧ (ch.noted w).zlk = ch.zlk ∧ (ch.noted w).boot = ch.boot ∧ (ch.noted w).flash = ch.flash ∧
    (ch.noted w).fuses = ch.fuses := by
  and_intros <;> rfl

/-- Nothing that is read on the way of a descriptor sees the note. -/
@[simp] theorem Chan.noted_readers :
    (ch.noted w).action = ch.action ∧ (ch.noted w).backTile = ch.backTile ∧ (ch.noted w).backupServes = ch.backupServes ∧
    (ch.noted w).baseRec = ch.baseRec ∧ (ch.noted w).batchCap = ch.batchCap ∧
    (ch.noted w).batchesWaiting = ch.batchesWaiting ∧ (ch.noted w).bucketBytes = ch.bucketBytes ∧
    (ch.noted w).bucketPending = ch.bucketPending ∧ (ch.noted w).cam = ch.cam ∧ (ch.noted w).coldAddr = ch.coldAddr ∧
    (ch.noted w).coldOn = ch.coldOn ∧ (ch.noted w).defaultCode = ch.defaultCode ∧ (ch.noted w).defaultRec = ch.defaultRec ∧
    (ch.noted w).ensDown = ch.ensDown ∧ (ch.noted w).ensFld = ch.ensFld ∧ (ch.noted w).ensOutputs = ch.ensOutputs ∧
    (ch.noted w).ensPasses = ch.ensPasses ∧ (ch.noted w).ensServes = ch.ensServes ∧ (ch.noted w).entLine = ch.entLine ∧
    (ch.noted w).entWay = ch.entWay ∧ (ch.noted w).entityBuckets = ch.entityBuckets ∧ (ch.noted w).entityKey = ch.entityKey ∧
    (ch.noted w).epoch = ch.epoch ∧ (ch.noted w).exacting = ch.exacting ∧ (ch.noted w).excluded = ch.excluded ∧
    (ch.noted w).fallbackSlot = ch.fallbackSlot ∧ (ch.noted w).findAny = ch.findAny ∧ (ch.noted w).findRec = ch.findRec ∧
    (ch.noted w).finishTag = ch.finishTag ∧ (ch.noted w).flag = ch.flag ∧ (ch.noted w).fld = ch.fld ∧
    (ch.noted w).flowBuckets = ch.flowBuckets ∧ (ch.noted w).flowLocked = ch.flowLocked ∧ (ch.noted w).flowWay = ch.flowWay ∧
    (ch.noted w).fnLive = ch.fnLive ∧ (ch.noted w).freezeSample = ch.freezeSample ∧ (ch.noted w).frozen = ch.frozen ∧
    (ch.noted w).gateWaiting = ch.gateWaiting ∧ (ch.noted w).gated = ch.gated ∧ (ch.noted w).gatherFmt = ch.gatherFmt ∧
    (ch.noted w).gatherRow = ch.gatherRow ∧ (ch.noted w).goldTile = ch.goldTile ∧ (ch.noted w).hasRegion = ch.hasRegion ∧
    (ch.noted w).holdsUnit = ch.holdsUnit ∧ (ch.noted w).hq = ch.hq ∧ (ch.noted w).isPending = ch.isPending ∧
    (ch.noted w).isServing = ch.isServing ∧ (ch.noted w).itemRank = ch.itemRank ∧ (ch.noted w).job = ch.job ∧
    (ch.noted w).keyOf = ch.keyOf ∧ (ch.noted w).learnTo = ch.learnTo ∧ (ch.noted w).linkState = ch.linkState ∧
    (ch.noted w).linkedBehind = ch.linkedBehind ∧ (ch.noted w).locked = ch.locked ∧ (ch.noted w).meter = ch.meter ∧
    (ch.noted w).meterOf = ch.meterOf ∧ (ch.noted w).neuralOf = ch.neuralOf ∧ (ch.noted w).noteCount = ch.noteCount ∧
    (ch.noted w).ns = ch.ns ∧ (ch.noted w).parkedOn = ch.parkedOn ∧ (ch.noted w).peerAt = ch.peerAt ∧
    (ch.noted w).primarySlot = ch.primarySlot ∧ (ch.noted w).rd = ch.rd ∧ (ch.noted w).ringAddr = ch.ringAddr ∧
    (ch.noted w).runsExecuting = ch.runsExecuting ∧ (ch.noted w).safeServe = ch.safeServe ∧
    (ch.noted w).scaleEntry = ch.scaleEntry ∧ (ch.noted w).searchBanks = ch.searchBanks ∧ (ch.noted w).seqr = ch.seqr ∧
    (ch.noted w).side = ch.side ∧ (ch.noted w).sideRuns = ch.sideRuns ∧ (ch.noted w).slotKind = ch.slotKind ∧
    (ch.noted w).slotTenant = ch.slotTenant ∧ (ch.noted w).spad = ch.spad ∧ (ch.noted w).speculates = ch.speculates ∧
    (ch.noted w).standbyState = ch.standbyState ∧ (ch.noted w).tab = ch.tab ∧ (ch.noted w).tableTiles = ch.tableTiles ∧
    (ch.noted w).tenantExists = ch.tenantExists ∧ (ch.noted w).tid = ch.tid ∧ (ch.noted w).tileCached = ch.tileCached ∧
    (ch.noted w).trainCtxs = ch.trainCtxs ∧ (ch.noted w).trnCtx = ch.trnCtx ∧ (ch.noted w).watchHit = ch.watchHit ∧
    (ch.noted w).wfqQueue = ch.wfqQueue ∧ (ch.noted w).wfqTag = ch.wfqTag ∧ (ch.noted w).winAddr = ch.winAddr ∧
    (ch.noted w).winBase = ch.winBase := by
  and_intros <;> rfl

@[simp] theorem Chan.obs_noted : (ch.noted w).obs = { ch.obs with worked := w } := (rfl)

end

/-! ## The note and the forms of a program -/

section

variable {w : List Nat} {α β : Type} {c : Prop} [Decidable c]

@[simp] theorem ite_noted (x y : Chan) : (if c then x.noted w else y.noted w) = (if c then x else y).noted w :=
  (apply_ite (Chan.noted · w) c x y).symm

/-- The same of an outcome that comes with a channel. -/
def notedSnd (p : β × Chan) (w : List Nat) : β × Chan := (p.1, p.2.noted w)

@[simp] theorem notedSnd_mk (b : β) (x : Chan) : notedSnd (b, x) w = (b, x.noted w) := rfl
@[simp] theorem notedSnd_fst (p : β × Chan) : (notedSnd p w).1 = p.1 := rfl
@[simp] theorem notedSnd_snd (p : β × Chan) : (notedSnd p w).2 = p.2.noted w := rfl

@[simp] theorem ite_pair_noted (a b : β) (x y : Chan) :
    (if c then (a, x.noted w) else (b, y.noted w)) = notedSnd (if c then (a, x) else (b, y)) w :=
  (apply_ite (notedSnd · w) c (a, x) (b, y)).symm

@[simp] theorem ite_pair_notedSnd (a : β) (x : Chan) (p : β × Chan) :
    (if c then (a, x.noted w) else notedSnd p w) = notedSnd (if c then (a, x) else p) w :=
  (apply_ite (notedSnd · w) c (a, x) p).symm

@[simp] theorem ite_notedSnd_pair (p : β × Chan) (b : β) (y : Chan) :
    (if c then notedSnd p w else (b, y.noted w)) = notedSnd (if c then p else (b, y)) w :=
  (apply_ite (notedSnd · w) c p (b, y)).symm

@[simp] theorem foldl_noted {g : Chan → α → Chan} (h : ∀ c x, g (c.noted w) x = (g c x).noted w) (l : List α) (ch : Chan) :
    l.foldl g (ch.noted w) = (l.foldl g ch).noted w :=
  List.foldl_hom (Chan.noted · w) h

@[simp] theorem foldl_notedSnd {g : β × Chan → α → β × Chan}
    (h : ∀ b c x, g (b, c.noted w) x = notedSnd (g (b, c) x) w) (l : List α) (b : β) (ch : Chan) :
    l.foldl g (b, ch.noted w) = notedSnd (l.foldl g (b, ch)) w :=
  List.foldl_hom (init := (b, ch)) (notedSnd · w) fun p x => h p.1 p.2 x

/-- The same of a scored record. -/
def notedRec (p : VRec × Nat × Action × Chan) (w : List Nat) : VRec × Nat × Action × Chan :=
  (p.1, p.2.1, p.2.2.1, p.2.2.2.noted w)

end

/-! ## An exact lookup, one bucket at a time -/

/-- One bucket of an exact lookup (R110): the matching entry of a cached line, and the channel with its bad entries reported. -/
def Chan.exactTry (ch : Chan) (i k : Nat) (key : List Byte) (len b : Nat) : Option (Nat × Nat × List Byte) × Chan :=
  match ch.entLine i k b, ch.entWay i k b with
  | some line, some way =>
    let (f, bad) := entFind line key len (ch.tid i)
    let a := (List.range bad).foldl (fun (a : Chan) _ => a.raise EV_FTR_ENTITY_PARITY (some i)) ch
    match f with
    | some w => (some (b, w, entAt line w), a.entTouch i b way)
    | none => (none, a)
  | _, _ => (none, ch)

/-- An exact lookup tries its first bucket, then its second, then fills those not cached. -/
theorem Chan.exactLookup_eq (ch : Chan) (i k : Nat) (bus : List Byte) :
    ch.exactLookup i k bus =
      let key := ch.entityKey i k bus
      let len := ch.fld (R.FTR_LOOKUP (4 * i + k)) F.FTR_LOOKUP_key_len + 1
      let b1 := (ch.entityBuckets i k key).1
      let b2 := (ch.entityBuckets i k key).2
      let fills (a : Chan) : Chan := (a.entFill i k b1).entFill i k b2
      if ch.locked i (k + 1) b1 || ch.locked i (k + 1) b2 then (none, fills ch)
      else match ch.exactTry i k key len b1 with
      | (some r, a) => (some r, a)
      | (none, a) =>
        match a.exactTry i k key len b2 with
        | (some r, a) => (some r, a)
        | (none, a) => if (a.entWay i k b1).isSome && (a.entWay i k b2).isSome then (none, a) else (none, fills a) := rfl

/-! ## The functions that note no unit -/

section
variable (ch : Chan) (w : List Nat)

@[simp] theorem Chan.setFld_noted (k : Nat) (f : Fld) (v : Nat) : (ch.noted w).setFld k f v = (ch.setFld k f v).noted w := (rfl)
@[simp] theorem Chan.setFlag_noted (k : Nat) (f : Fld) (v : Bool) :
    (ch.noted w).setFlag k f v = (ch.setFlag k f v).noted w := (rfl)
@[simp] theorem Chan.inc_noted (k n : Nat) : (ch.noted w).inc k n = (ch.inc k n).noted w := (rfl)
@[simp] theorem Chan.setEv_noted (ev : Events) : (ch.noted w).setEv ev = (ch.setEv ev).noted w := (rfl)
@[simp] theorem Chan.setHq_noted (i q : Nat) (rs : List (List Byte)) :
    (ch.noted w).setHq i q rs = (ch.setHq i q rs).noted w := (rfl)
@[simp] theorem Chan.drawKey_noted (o : Nat) : (ch.noted w).drawKey o = (ch.drawKey o).noted w := (rfl)

@[simp] theorem Chan.vector_noted (inst vec hold : Nat) :
    (ch.noted w).vector inst vec hold = (ch.vector inst vec hold).noted w := by
  simp [Chan.vector]

@[simp] theorem Chan.ringEvent_noted (inst : Nat) (s : Severity) (r : EvRec) :
    (ch.noted w).ringEvent inst s r = (ch.ringEvent inst s r).noted w := by
  simp [Chan.ringEvent]

@[simp] theorem Chan.raiseCore_noted (e : Ev) (t n : Option Nat) :
    (ch.noted w).raiseCore e t n = notedSnd (ch.raiseCore e t n) w := by
  cases t <;> simp [Chan.raiseCore]

@[simp] theorem Chan.putTelemetry_noted (i : Nat) (r : List Byte) :
    (ch.noted w).putTelemetry i r = (ch.putTelemetry i r).noted w := by
  simp only [Chan.putTelemetry, Chan.noted_readers, Chan.setHq_noted, Chan.inc_noted, Chan.raiseCore_noted]
  rcases Chan.raiseCore _ _ _ _ with ⟨_ | _, c⟩ <;> simp

@[simp] theorem Chan.raise_noted (e : Ev) (t n : Option Nat) : (ch.noted w).raise e t n = (ch.raise e t n).noted w := by
  unfold Chan.raise
  rw [Chan.raiseCore_noted]
  split
  · rfl
  · rcases ch.raiseCore e t n with ⟨_ | _, c⟩ <;> cases t <;> simp

@[simp] theorem Chan.count_noted (k : Nat) (e : Ev) (t : Option Nat) (n : Nat) :
    (ch.noted w).count k e t n = (ch.count k e t n).noted w := by
  simp [Chan.count]

@[simp] theorem Chan.useKey_noted (o : Nat) : (ch.noted w).useKey o = (ch.useKey o).noted w := by
  simp [Chan.useKey]

@[simp] theorem Chan.setBytes_noted (tier o a : Nat) (bs : List Byte) :
    (ch.noted w).setBytes tier o a bs = (ch.setBytes tier o a bs).noted w := by
  unfold Chan.setBytes
  split <;> simp
  all_goals rfl

@[simp] theorem Chan.freeze_noted (k : FreezeCause) : (ch.noted w).freeze k = (ch.freeze k).noted w := by
  unfold Chan.freeze
  simp only [Chan.noted_readers]
  split
  · rfl
  · rw [← Chan.raise_noted]; rfl

@[simp] theorem Chan.watchJoin_noted (a b c d : Nat) : (ch.noted w).watchJoin a b c d = (ch.watchJoin a b c d).noted w := (rfl)

@[simp] theorem Chan.watchOne_noted (t a n : Nat) (b : Bool) (k : Nat) :
    Chan.watchOne t a n b (ch.noted w) k = (Chan.watchOne t a n b ch k).noted w := by
  simp [Chan.watchOne]

@[simp] theorem Chan.watch_noted (t a n : Nat) (b : Bool) : (ch.noted w).watch t a n b = (ch.watch t a n b).noted w :=
  foldl_noted (fun c => c.watchOne_noted w t a n b) _ _

@[simp] theorem Chan.store_noted (t o a : Nat) (bs : List Byte) : (ch.noted w).store t o a bs = (ch.store t o a bs).noted w := by
  simp [Chan.store]

@[simp] theorem Chan.modJob_noted (id : Nat) (f : Job → Job) : (ch.noted w).modJob id f = (ch.modJob id f).noted w := (rfl)
@[simp] theorem Chan.setTrn_noted (g : Nat) (t : TrnCtx) : (ch.noted w).setTrn g t = (ch.setTrn g t).noted w := (rfl)
@[simp] theorem Chan.setServing_noted (n v : Nat) : (ch.noted w).setServing n v = (ch.setServing n v).noted w := (rfl)
@[simp] theorem Chan.setStandby_noted (n v : Nat) : (ch.noted w).setStandby n v = (ch.setStandby n v).noted w := (rfl)
@[simp] theorem Chan.setSide_noted (c : Nat) (s : Side) : (ch.noted w).setSide c s = (ch.setSide c s).noted w := (rfl)
@[simp] theorem Chan.setSeqr_noted (c : Nat) (s : SideRun) : (ch.noted w).setSeqr c s = (ch.setSeqr c s).noted w := (rfl)
@[simp] theorem Chan.undoPush_noted (d : Delta) : (ch.noted w).undoPush d = (ch.undoPush d).noted w := (rfl)
@[simp] theorem Chan.undoFree_noted (j : Nat) : (ch.noted w).undoFree j = (ch.undoFree j).noted w := (rfl)
@[simp] theorem Chan.countFeatures_noted (p : Nat) (fs : List Feat) :
    (ch.noted w).countFeatures p fs = (ch.countFeatures p fs).noted w := (rfl)
@[simp] theorem Chan.entTouch_noted (i b k : Nat) : (ch.noted w).entTouch i b k = (ch.entTouch i b k).noted w := (rfl)
@[simp] theorem Chan.setLine_noted (k : Nat) (l : Option FlowLine) : (ch.noted w).setLine k l = (ch.setLine k l).noted w := (rfl)
@[simp] theorem Chan.flowTouch_noted (k : Nat) : (ch.noted w).flowTouch k = (ch.flowTouch k).noted w := (rfl)
@[simp] theorem Chan.unpend_noted (k : Nat) (l : List Byte) : (ch.noted w).unpend k l = (ch.unpend k l).noted w := (rfl)
@[simp] theorem Chan.sealCheck_noted (c i : Nat) : (ch.noted w).sealCheck c i = notedSnd (ch.sealCheck c i) w := (rfl)
@[simp] theorem Chan.dropTables_noted (c : Nat) : (ch.noted w).dropTables c = (ch.dropTables c).noted w := (rfl)
@[simp] theorem Chan.cacheTile_noted (c i : Nat) : (ch.noted w).cacheTile c i = (ch.cacheTile c i).noted w := (rfl)
@[simp] theorem Chan.repairStatus_noted : (ch.noted w).repairStatus = ch.repairStatus.noted w := by
  simp [Chan.repairStatus]
@[simp] theorem Chan.setTag_noted (u i : Nat) (t : WfqTag) : (ch.noted w).setTag u i t = (ch.setTag u i t).noted w := (rfl)
@[simp] theorem Chan.onHead_noted (u i k : Nat) (b : Bool) : (ch.noted w).onHead u i k b = (ch.onHead u i k b).noted w := (rfl)
@[simp] theorem Chan.setMeter_noted (n : Nat) (m : Meter) : (ch.noted w).setMeter n m = (ch.setMeter n m).noted w := (rfl)
@[simp] theorem Chan.forestKey_noted (n : Nat) (fs : List Feat) :
    (ch.noted w).forestKey n fs = notedSnd (ch.forestKey n fs) w := (rfl)

@[simp] theorem Chan.entFill_noted (i k b : Nat) : (ch.noted w).entFill i k b = (ch.entFill i k b).noted w := by
  unfold Chan.entFill
  rw [← ite_noted]
  rfl

@[simp] theorem Chan.parityMaint_noted (c : Bool) (i b k : Nat) (key : List Byte) :
    (ch.noted w).parityMaint c i b k key = (ch.parityMaint c i b k key).noted w := by
  unfold Chan.parityMaint
  rw [← ite_noted]
  rfl

@[simp] theorem Chan.startFill_noted (i b : Nat) : (ch.noted w).startFill i b = (ch.startFill i b).noted w := by
  unfold Chan.startFill
  rw [← ite_noted]
  rfl

@[simp] theorem Chan.pend_noted (i : Nat) (key : List Byte) : (ch.noted w).pend i key = (ch.pend i key).noted w := by
  unfold Chan.pend
  simp only [Chan.inc_noted, ite_noted]
  rfl

/-! A part of the channel replaced, and the note made, in either order. -/

theorem Chan.mk_models_noted (m : Models) :
    ({ ch.noted w with models := m } : Chan) = Chan.noted { ch with models := m } w := (rfl)
theorem Chan.mk_fst_noted (m : Forest) : ({ ch.noted w with fst := m } : Chan) = Chan.noted { ch with fst := m } w := (rfl)
theorem Chan.mk_vpe_noted (m : Vpe) : ({ ch.noted w with vpe := m } : Chan) = Chan.noted { ch with vpe := m } w := (rfl)
theorem Chan.mk_flow_noted (m : Flow) : ({ ch.noted w with flow := m } : Chan) = Chan.noted { ch with flow := m } w := (rfl)

@[simp] theorem Chan.spadCount_noted (a n : Nat) : (ch.noted w).spadCount a n = (ch.spadCount a n).noted w := by
  simp [Chan.spadCount]

@[simp] theorem Chan.driftWindow_noted (a b c t : Nat) : (ch.noted w).driftWindow a b c t = (ch.driftWindow a b c t).noted w := by
  simp [Chan.driftWindow]

@[simp] theorem Chan.quantRow_noted (f : Fmt) (a b c j : Nat) (xs : List Nat) :
    (ch.noted w).quantRow f a b c j xs =
      ((ch.quantRow f a b c j xs).1, (ch.quantRow f a b c j xs).2.1, (ch.quantRow f a b c j xs).2.2.noted w) := by
  simp [Chan.quantRow]

@[simp] theorem Chan.putBucket_noted (i b : Nat) (bs : List Byte) :
    (ch.noted w).putBucket i b bs = (ch.putBucket i b bs).noted w := by
  simp only [Chan.putBucket, Chan.noted_readers, Chan.setLine_noted, Chan.store_noted]
  split <;> rfl

@[simp] theorem Chan.putRec_noted (i b k : Nat) (bs : List Byte) :
    (ch.noted w).putRec i b k bs = (ch.putRec i b k bs).noted w := by
  simp [Chan.putRec]

@[simp] theorem Chan.putCold_noted (i b k : Nat) (bs : List Byte) :
    (ch.noted w).putCold i b k bs = (ch.putCold i b k bs).noted w := by
  simp [Chan.putCold]

@[simp] theorem Chan.tblPut_noted (c : Bool) (i b k : Nat) (bs : List Byte) :
    (ch.noted w).tblPut c i b k bs = (ch.tblPut c i b k bs).noted w := by
  simp [Chan.tblPut]

@[simp] theorem Chan.note_noted (i : Nat) (key : List Byte) (a b c d : Nat) :
    (ch.noted w).note i key a b c d = (ch.note i key a b c d).noted w := by
  simp [Chan.note]

@[simp] theorem Chan.learnNote_noted (i : Nat) (key : List Byte) (a b : Nat) (t : Bool) :
    (ch.noted w).learnNote i key a b t = notedSnd (ch.learnNote i key a b t) w := by
  simp [Chan.learnNote]

@[simp] theorem Chan.putWork_noted (c i : Nat) (t : List Byte) : (ch.noted w).putWork c i t = (ch.putWork c i t).noted w := by
  simp [Chan.putWork]
@[simp] theorem Chan.putGold_noted (c i : Nat) (t : List Byte) : (ch.noted w).putGold c i t = (ch.putGold c i t).noted w := by
  simp [Chan.putGold]
@[simp] theorem Chan.ensOff_noted (n : Option Nat) : (ch.noted w).ensOff n = (ch.ensOff n).noted w := by
  cases n <;> rfl
@[simp] theorem Chan.failRun_noted (c i n : Nat) : (ch.noted w).failRun c i n = (ch.failRun c i n).noted w := by
  simp only [Chan.failRun, Chan.noted_readers, Chan.setFld_noted, Chan.setSeqr_noted, ite_noted]
  split <;> simp
@[simp] theorem Chan.slotChange_noted (n : Nat) : (ch.noted w).slotChange n = (ch.slotChange n).noted w := by
  simp [Chan.slotChange]
@[simp] theorem Chan.stageFail_noted (n m : Nat) : (ch.noted w).stageFail n m = (ch.stageFail n m).noted w := by
  simp only [Chan.stageFail, ↓Chan.mk_models_noted, Chan.noted_fields]
  cases ch.models.staging <;> simp
@[simp] theorem Chan.quarantine_noted (c : Nat) (o : Option Nat) : (ch.noted w).quarantine c o = (ch.quarantine c o).noted w := by
  simp [Chan.quarantine]

@[simp] theorem Chan.sealRefetch_noted (c i : Nat) (o : Option Nat) :
    (ch.noted w).sealRefetch c i o = notedSnd (ch.sealRefetch c i o) w := by
  simp [Chan.sealRefetch, ↓Chan.mk_models_noted]
@[simp] theorem Chan.loadTile_noted (c i : Nat) : (ch.noted w).loadTile c i = notedSnd (ch.loadTile c i) w := by
  simp [Chan.loadTile]

@[simp] theorem Chan.exactTry_noted (i k : Nat) (key : List Byte) (len b : Nat) :
    (ch.noted w).exactTry i k key len b = notedSnd (ch.exactTry i k key len b) w := by
  simp only [Chan.exactTry, Chan.noted_readers]
  split
  · simp only [Chan.raise_noted, implies_true, foldl_noted, Chan.entTouch_noted]
    split <;> simp
  · rfl

@[simp] theorem Chan.exactLookup_noted (i k : Nat) (bus : List Byte) :
    (ch.noted w).exactLookup i k bus = notedSnd (ch.exactLookup i k bus) w := by
  simp only [Chan.exactLookup_eq, Chan.noted_readers, Chan.exactTry_noted]
  split
  · simp only [Chan.entFill_noted, notedSnd_mk]
  · rcases ch.exactTry .. with ⟨_ | r, a⟩
    · simp [Chan.exactTry_noted]
      rcases a.exactTry .. with ⟨_ | r, b⟩ <;> simp
    · rfl

@[simp] theorem Chan.queueRepair_noted (e : Nat) : (ch.noted w).queueRepair e = (ch.queueRepair e).noted w := by
  simp only [Chan.queueRepair, ↓Chan.mk_fst_noted, Chan.noted_fields]
  split <;> simp

@[simp] theorem Chan.seeExclusion_noted (e : Nat) : (ch.noted w).seeExclusion e = (ch.seeExclusion e).noted w := by
  simp only [Chan.seeExclusion, ↓Chan.mk_fst_noted, Chan.noted_fields]
  split <;> simp

@[simp] theorem Chan.defaultLeaf_noted (a b : Nat) : (ch.noted w).defaultLeaf a b = notedSnd (ch.defaultLeaf a b) w := by
  unfold Chan.defaultLeaf
  rw [show (ch.noted w).defaultWord = ch.defaultWord from rfl]
  obtain ⟨x, e⟩ := ch.defaultWord a b
  dsimp only
  cases eccDecode x e <;> simp

@[simp] theorem Chan.searchWindow_noted (key : Key) (a b c d : Nat) :
    (ch.noted w).searchWindow key a b c d = notedSnd (ch.searchWindow key a b c d) w := by
  simp only [Chan.searchWindow, Chan.noted_readers, Chan.seeExclusion_noted, ite_noted, implies_true, foldl_noted,
    Chan.defaultLeaf_noted, notedSnd_fst, notedSnd_snd, Chan.inc_noted, Chan.count_noted, Chan.queueRepair_noted]
  generalize List.foldl _ ch _ = d
  generalize List.filter _ _ = hits
  cases hits with
  | nil => rfl
  | cons e rest =>
    dsimp only
    generalize (if rest.isEmpty = true then _ else _ : Chan) = f
    cases eccDecode (f.cam e).leaf (f.cam e).ecc <;> simp

@[simp] theorem Chan.searchTrees_noted (n : Nat) (b : Bool) (key : Key) :
    (ch.noted w).searchTrees n b key = notedSnd (ch.searchTrees n b key) w := by
  simp [Chan.searchTrees]

@[simp] theorem Chan.meterLost_noted (n : Nat) (t : Option Nat) : (ch.noted w).meterLost n t = (ch.meterLost n t).noted w := by
  simp only [Chan.meterLost, Chan.noted_readers, Chan.setMeter_noted, ↓Chan.mk_vpe_noted]
  simp

@[simp] theorem Chan.colour_noted (j : Job) (a : Action) : (ch.noted w).colour j a = notedSnd (ch.colour j a) w := by
  simp only [Chan.colour, Chan.noted_readers, Chan.inc_noted, Chan.noted_fields, Chan.meterLost_noted, Chan.setMeter_noted,
    ite_noted, ite_pair_noted, ite_pair_notedSnd]
  split <;> rfl

@[simp] theorem Chan.mirrorCopy_noted (j : Job) (r : VRec) : (ch.noted w).mirrorCopy j r = (ch.mirrorCopy j r).noted w := by
  simp [Chan.mirrorCopy]

@[simp] theorem Chan.pushTx_noted (t : TxRec) : (ch.noted w).pushTx t = (ch.pushTx t).noted w := by
  unfold Chan.pushTx
  rw [← ite_noted]
  simp only [Chan.noted_readers]
  rfl

@[simp] theorem Chan.dispatchVerdict_noted (id : Nat) (r : VRec) (f : Bool) (i : Nat) :
    (ch.noted w).dispatchVerdict id r f i = (ch.dispatchVerdict id r f i).noted w := by
  simp [Chan.dispatchVerdict]

@[simp] theorem Chan.noteEpoch_noted (cs : List Nat) : (ch.noted w).noteEpoch cs = (ch.noteEpoch cs).noted w :=
  foldl_noted (fun _ _ => rfl) _ _

@[simp] theorem Chan.wfqJoin_noted (x : WfqItem) : (ch.noted w).wfqJoin x = (ch.wfqJoin x).noted w := by
  simp only [Chan.wfqJoin, ↓Chan.mk_vpe_noted, Chan.noted_readers]
  split <;> simp

@[simp] theorem Chan.scoredRec_noted (j : Job) (c : Nat) (outs : List Nat) :
    (ch.noted w).scoredRec j c outs = notedRec (ch.scoredRec j c outs) w := by
  simp only [Chan.scoredRec, Chan.noted_readers, Chan.count_noted, Chan.colour_noted, notedSnd_fst, notedSnd_snd]
  split_ifs <;> rfl

@[simp] theorem Chan.widenTensor_noted (a b c d e f : Nat) (rs : List (List Nat)) :
    (ch.noted w).widenTensor a b c d e f rs = notedSnd (ch.widenTensor a b c d e f rs) w := by
  simp only [Chan.widenTensor, Chan.noted_readers, Chan.quantRow_noted, Chan.store_noted, implies_true, foldl_noted,
    Chan.count_noted, ite_pair_noted]
  split <;> simp

@[simp] theorem Chan.loadGather_noted (c k : Nat) : (ch.noted w).loadGather c k = notedSnd (ch.loadGather c k) w := by
  simp [Chan.loadGather]

@[simp] theorem Chan.batchClose_noted (c : Nat) : (ch.noted w).batchClose c = (ch.batchClose c).noted w := by
  simp only [Chan.batchClose, Chan.noted_readers, Chan.widenTensor_noted, notedSnd_snd, notedSnd_fst, Chan.setSeqr_noted]
  split <;> simp

@[simp] theorem Chan.runFailed_noted (c : Nat) : (ch.noted w).runFailed c = (ch.runFailed c).noted w := by
  simp [Chan.runFailed]

@[simp] theorem Chan.gatherPut_noted (c k r : Nat) (f : Fmt) (xs : List Nat) :
    (ch.noted w).gatherPut c k r f xs = notedSnd (ch.gatherPut c k r f xs) w := by
  simp only [Chan.gatherPut, Chan.noted_readers, Chan.quantRow_noted, Chan.store_noted, notedSnd_mk, Prod.mk.injEq, true_and]
  split <;> simp

@[simp] theorem Chan.batchAdd_noted (c i : Nat) (xs : List Nat) :
    (ch.noted w).batchAdd c i xs = (ch.batchAdd c i xs).noted w := by
  simp [Chan.batchAdd]

@[simp] theorem Chan.flowState_noted (id : Nat) : (ch.noted w).flowState id = (ch.flowState id).noted w := by
  simp only [Chan.flowState, Chan.noted_readers, Chan.inc_noted, Chan.undoPush_noted, implies_true, foldl_noted,
    Chan.tblPut_noted]
  split
  · rfl
  · split
    · rfl
    · split
      · rfl
      · split <;> simp

@[simp] theorem Chan.countClamps_noted (i n : Nat) : (ch.noted w).countClamps i n = (ch.countClamps i n).noted w := by
  simp [Chan.countClamps]

@[simp] theorem Chan.countNans_noted (c : Nat) (l : List Nat) : (ch.noted w).countNans c l = (ch.countNans c l).noted w := by
  simp [Chan.countNans]

@[simp] theorem Chan.candidate_noted (i g c : Nat) (l m : List Nat) :
    (ch.noted w).candidate i g c l m = (ch.candidate i g c l m).noted w := by
  simp only [Chan.candidate, Chan.noted_readers, Chan.inc_noted, Chan.countNans_noted, Chan.quantRow_noted, Chan.store_noted,
    Chan.setTrn_noted]
  split
  · rfl
  · split
    · rfl
    · split <;> simp

@[simp] theorem Chan.parityScan_noted (a b c : Nat) : (ch.noted w).parityScan a b c = (ch.parityScan a b c).noted w := by
  simp [Chan.parityScan]

@[simp] theorem Chan.touchBoth_noted (l : Lookup) : (ch.noted w).touchBoth l = (ch.touchBoth l).noted w := by
  unfold Chan.touchBoth
  apply foldl_noted
  intro c x
  simp only [Chan.noted_readers]
  split <;> simp

end
end Sys2Proof.Machine
end

section
/-!
PROOFS of 01_channel_and_device_organisation.md: a lookup and what follows it end alike but for the note.

These functions note units of their own, so the note at the end is some note, not the one at the start.
-/

namespace Sys2Proof.Machine
open Sys2Proof

/-! ## The forest, the verdict and the batches -/

section
variable {α : Type} (ch : Chan) (w : List Nat)

@[simp] theorem Chan.work_noted (us : List Nat) :
    (ch.noted w).work us = (ch.work us).noted (us.filter (!w.contains ·) ++ w) := rfl

theorem foldl_noted_some {g : Chan → α → Chan} (h : ∀ c w x, ∃ v, g (c.noted w) x = (g c x).noted v) (l : List α) :
    ∃ v, l.foldl g (ch.noted w) = (l.foldl g ch).noted v := by
  induction l generalizing ch w with
  | nil => exact ⟨w, rfl⟩
  | cons x xs ih =>
    obtain ⟨v, hv⟩ := h ch w x
    rw [List.foldl_cons, List.foldl_cons, hv]
    exact ih _ v

theorem Chan.countPasses_noted (i p : Nat) : ∃ v, (ch.noted w).countPasses i p = (ch.countPasses i p).noted v := by
  simp only [Chan.countPasses, Chan.noted_readers]
  split
  · exact ⟨_, by rw [Chan.inc_noted, Chan.inc_noted, Chan.work_noted]⟩
  · exact ⟨w, rfl⟩

theorem Chan.runForest_noted (id : Nat) : ∃ v, (ch.noted w).runForest id = (ch.runForest id).noted v := by
  simp only [Chan.runForest, Chan.noted_readers]
  cases ch.job id with
  | none => exact ⟨w, rfl⟩
  | some j =>
    dsimp only
    generalize List.foldl max 0 _ = passes
    obtain ⟨v, hv⟩ := ch.countPasses_noted w j.tenant passes
    exact ⟨v, by simp [hv]⟩

theorem Chan.compose_noted (id : Nat) : ∃ v, (ch.noted w).compose id = (ch.compose id).noted v := by
  simp only [Chan.compose, Chan.noted_readers]
  cases ch.job id with
  | none => exact ⟨w, rfl⟩
  | some j =>
    dsimp only
    by_cases h : j.verdict.isSome
    · simp only [h, if_true]; exact ⟨w, rfl⟩
    · simp only [h]
      generalize (if ch.flag R.VPE_CTRL F.VPE_CTRL_enable = true then _ else _ : Contribution) = d
      cases d with
      | pending => exact ⟨w, rfl⟩
      | present c outs => exact ⟨_, by simp [notedRec]; rfl⟩
      | absent => exact ⟨_, by simp; rfl⟩

theorem Chan.noNets_noted (c : Nat) (ids : List Nat) : ∃ v, (ch.noted w).noNets c ids = (ch.noNets c ids).noted v :=
  foldl_noted_some ch w (fun a w id => (a.modJob id fun j => j.noNet c).compose_noted w id) ids

theorem Chan.runStart_noted (c : Nat) : ∃ v, (ch.noted w).runStart c = (ch.runStart c).noted v := by
  simp only [Chan.runStart, Chan.noted_readers]
  split
  · split
    · exact ⟨w, rfl⟩
    · split
      · simp only [Chan.runFailed_noted, ite_noted, Chan.setSeqr_noted]
        exact Chan.noNets_noted ..
      · exact ⟨w, rfl⟩
  · exact ⟨w, rfl⟩

theorem Chan.batchJoin_noted (c id : Nat) (xs : List Nat) :
    ∃ v, (ch.noted w).batchJoin c id xs = (ch.batchJoin c id xs).noted v := by
  obtain ⟨v, hv⟩ := ch.runStart_noted w c
  exact ⟨v, by simp [Chan.batchJoin, hv]⟩
end

/-! ## The stages of a descriptor after its flow lookup -/

/-- A network's input vector: its values, its NaN marks and the number of values clamped. -/
abbrev NeuralVec : Type := List Nat × List Nat × Nat

/-- The features of a descriptor under every program that its sides and ensembles name (R100). -/
def Chan.featuresOf (ch : Chan) (j : Job) (ents : List (Option (List Byte))) : List (Nat × List Feat) :=
  let x : FeatIn :=
    { bus := j.bus, hit := j.handle.isSome, rec_ := j.record, ents := ents
      kinds := (List.range 4).map fun k => min 2 (ch.lookupKind j.tenant k), reason := j.reason, ts := j.desc.time
      ops := ch.rd (R.FTR_STATE j.tenant) }
  let ctxs := j.forest ++ j.neural ++ (ch.trainCtxs j.tenant).map (·.2)
  let progs := ((ctxs.flatMap fun c => (ch.side c).progs) ++ j.ens.map fun n => ch.ensFld n F.FST_ENS_CFG_program).dedup
  progs.map fun p => (p, runProgram (ch.flag R.FTR_CTRL F.FTR_CTRL_enable) x (sget (fun _ => []) ch.ftr.progs p)
    (ch.fld (R.FTR_PROG p) F.FTR_PROG_count))

/-- The keys of a descriptor's ensembles (R150). -/
def Chan.forestKeys (ch : Chan) (ens : List Nat) (all : List (Nat × List Feat)) : List (Nat × Key) × Chan :=
  ens.foldl (fun (x : List (Nat × Key) × Chan) n =>
    let (k, a) := x.2.forestKey n (featsOf all (x.2.ensFld n F.FST_ENS_CFG_program))
    (x.1 ++ [(n, k)], a)) ([], ch)

/-- Those features are counted, the flow feature state is updated, and the keys of the ensembles are coded (R107, R124). -/
def Chan.keysOf (ch : Chan) (id : Nat) (j : Job) (all : List (Nat × List Feat)) (vecs : List (Nat × NeuralVec))
    (peers : List Nat) : Chan :=
  let a := all.foldl (fun (a : Chan) p => a.countFeatures p.1 p.2) ch
  let a := (vecs.foldl (fun (a : Chan) v => a.countClamps j.tenant v.2.2.2) a).flowState id
  let x := a.forestKeys j.ens all
  x.2.modJob id fun j => { j with peers := peers, keys := x.1 }

/-- The input vector of a context's network among those of the programs. -/
def Chan.netInput (ch : Chan) (vecs : List (Nat × NeuralVec)) (c : Nat) : NeuralVec :=
  (sfind vecs (ch.side c).gatherProg).getD ([], [], 0)

/-- The descriptor joins the batches of its NEURAL sides (R223). -/
def Chan.joinBatches (ch : Chan) (id : Nat) (j : Job) (vecs : List (Nat × NeuralVec)) : Chan :=
  j.neural.foldl (fun a c => (a.countNans c (ch.netInput vecs c).2.1).batchJoin c id (ch.netInput vecs c).1) ch

/-- Then it joins the candidate rings of its training contexts (R275). -/
def Chan.joinsOf (ch : Chan) (id : Nat) (j : Job) (train : List (Nat × Nat)) (vecs : List (Nat × NeuralVec)) : Chan :=
  train.foldl (fun a t => a.candidate id t.1 t.2 (ch.netInput vecs t.2).1 (ch.netInput vecs t.2).2.1) (ch.joinBatches id j vecs)

/-- The descriptor waits for the forest or searches it (R138, R311). -/
def Chan.searchOrPark (ch : Chan) (id : Nat) (j : Job) : Chan :=
  if !(j.forest.isEmpty && j.ens.isEmpty) && (!ch.holdsUnit 35 j.tenant || !(ch.wfqQueue 35 j.tenant).isEmpty) then
    let a := (ch.modJob id fun j => { j with stage := .gateWait }).inc R.VPE_CNT_FST_PARK
    let passes := (j.ens.map a.ensPasses).foldl max 1
    let a := a.wfqJoin { unit := 35, tenant := j.tenant, cost := passes, ctx := 0, index := id }
    let a := if 2048 ≤ a.gateWaiting then a.raise EV_VPE_PARK_FULL (some j.tenant) else a
    a.compose id
  else (ch.runForest id).compose id

/-- Steps 7 to 10 of a descriptor are those stages in turn. -/
theorem Chan.afterLookup_eq (ch : Chan) (id : Nat) :
    ch.afterLookup id =
      match ch.job id with
      | none => ch
      | some j =>
        let l := (ch.work [3]).entityLookups j.tenant j.bus
        let a := l.2.2
        let all := a.featuresOf j l.1
        let vecs := all.map fun p => (p.1, a.neuralOf p.1 p.2)
        let peers := (l.2.1.filterMap fun f => a.peerAt j.tenant f.1 f.2.1 f.2.2).dedup
        ((a.keysOf id j all vecs peers).joinsOf id j (a.trainCtxs j.tenant) vecs).searchOrPark id j := by
  unfold Chan.afterLookup
  cases ch.job id with
  | none => rfl
  | some j => rfl

section
variable (ch : Chan) (w : List Nat)

theorem ite_noted_some {c : Prop} [Decidable c] {x y x' y' : Chan} (hx : ∃ v, x' = x.noted v) (hy : ∃ v, y' = y.noted v) :
    ∃ v, (if c then x' else y') = (if c then x else y).noted v := by
  split
  · exact hx
  · exact hy

@[simp] theorem Chan.entityLookups_noted (i : Nat) (bus : List Byte) :
    (ch.noted w).entityLookups i bus =
      ((ch.entityLookups i bus).1, (ch.entityLookups i bus).2.1, (ch.entityLookups i bus).2.2.noted w) := by
  refine List.foldl_hom (init := (([] : List (Option (List Byte))), ([] : List (Nat × Nat × Nat)), ch))
    (fun p => (p.1, p.2.1, p.2.2.noted w)) ?_
  rintro ⟨vs, found, a⟩ k
  dsimp only
  rw [show (a.noted w).lookupKind = a.lookupKind from rfl]
  match a.lookupKind i k with
  | 0 => rfl
  | 1 =>
    rw [Chan.exactLookup_noted]
    rcases a.exactLookup i k bus with ⟨_ | _, _⟩ <;> rfl
  | n + 2 => rfl

@[simp] theorem Chan.featuresOf_noted (j : Job) (ents : List (Option (List Byte))) :
    (ch.noted w).featuresOf j ents = ch.featuresOf j ents := rfl

@[simp] theorem Chan.forestKeys_noted (ens : List Nat) (all : List (Nat × List Feat)) :
    (ch.noted w).forestKeys ens all = notedSnd (ch.forestKeys ens all) w :=
  foldl_notedSnd (fun b c x => by simp) _ _ _

@[simp] theorem Chan.keysOf_noted (id : Nat) (j : Job) (all : List (Nat × List Feat)) (vecs : List (Nat × NeuralVec))
    (peers : List Nat) : (ch.noted w).keysOf id j all vecs peers = (ch.keysOf id j all vecs peers).noted w := by
  simp [Chan.keysOf]

theorem Chan.joinBatches_noted (id : Nat) (j : Job) (vecs : List (Nat × NeuralVec)) :
    ∃ v, (ch.noted w).joinBatches id j vecs = (ch.joinBatches id j vecs).noted v := by
  refine foldl_noted_some ch w (fun a w c => ?_) j.neural
  rw [Chan.countNans_noted]
  exact Chan.batchJoin_noted ..

theorem Chan.joinsOf_noted (id : Nat) (j : Job) (train : List (Nat × Nat)) (vecs : List (Nat × NeuralVec)) :
    ∃ v, (ch.noted w).joinsOf id j train vecs = (ch.joinsOf id j train vecs).noted v := by
  obtain ⟨v, hv⟩ := ch.joinBatches_noted w id j vecs
  refine ⟨v, ?_⟩
  rw [Chan.joinsOf, hv]
  exact foldl_noted (fun _ _ => Chan.candidate_noted ..) _ _

theorem Chan.searchOrPark_noted (id : Nat) (j : Job) : ∃ v, (ch.noted w).searchOrPark id j = (ch.searchOrPark id j).noted v := by
  simp only [Chan.searchOrPark, Chan.noted_readers]
  split
  · simp only [Chan.modJob_noted, Chan.inc_noted, Chan.noted_readers, Chan.wfqJoin_noted, Chan.raise_noted, ite_noted]
    exact Chan.compose_noted ..
  · obtain ⟨v, hv⟩ := ch.runForest_noted w id
    rw [hv]
    exact Chan.compose_noted ..

theorem Chan.afterLookup_noted (id : Nat) : ∃ v, (ch.noted w).afterLookup id = (ch.afterLookup id).noted v := by
  simp only [Chan.afterLookup_eq, Chan.noted_readers]
  cases ch.job id with
  | none => exact ⟨w, rfl⟩
  | some j =>
    simp only [Chan.work_noted, Chan.entityLookups_noted, Chan.featuresOf_noted, Chan.noted_readers, Chan.keysOf_noted]
    generalize Chan.keysOf _ id j _ _ _ = a
    obtain ⟨v, hv⟩ := a.joinsOf_noted _ id j _ _
    rw [hv]
    exact Chan.searchOrPark_noted ..

theorem Chan.lookupMiss_noted (id r : Nat) : ∃ v, (ch.noted w).lookupMiss id r = (ch.lookupMiss id r).noted v := by
  simp only [Chan.lookupMiss, Chan.noted_readers]
  cases ch.job id with
  | none => exact ⟨w, rfl⟩
  | some j =>
    simp only [Chan.inc_noted, Chan.raise_noted, ite_noted, Chan.learnNote_noted, ite_notedSnd_pair, notedSnd_snd,
      notedSnd_fst, Chan.modJob_noted]
    exact Chan.afterLookup_noted ..

theorem Chan.lookupHit_noted (id : Nat) (p : Option (Nat × Nat)) (r : List Byte) :
    ∃ v, (ch.noted w).lookupHit id p r = (ch.lookupHit id p r).noted v := by
  simp only [Chan.lookupHit, Chan.noted_readers]
  cases ch.job id with
  | none => exact ⟨w, rfl⟩
  | some j =>
    rcases p with _ | ⟨b, k⟩ <;> simp <;> exact Chan.afterLookup_noted ..

theorem Chan.examine_noted (l : Lookup) (k : Nat) : ∃ v, (ch.noted w).examine l k = (ch.examine l k).noted v := by
  simp only [Chan.examine, Chan.noted_readers, Chan.parityScan_noted, ↓Chan.mk_flow_noted]
  generalize ch.parityScan l.tenant l.b1 l.b2 = a
  split
  · exact Chan.lookupHit_noted ..
  · split
    · exact ⟨w, rfl⟩
    · exact Chan.lookupMiss_noted ..

theorem Chan.cacheRead_noted (l : Lookup) : ∃ v, (ch.noted w).cacheRead l = (ch.cacheRead l).noted v := by
  simp only [Chan.cacheRead, Chan.touchBoth_noted]
  generalize ch.touchBoth l = a
  simp only [↓Chan.mk_flow_noted, Chan.noted_readers, Chan.startFill_noted]
  split
  · exact Chan.examine_noted ..
  · exact ⟨w, rfl⟩

theorem Chan.flowLookup_noted (id : Nat) : ∃ v, (ch.noted w).flowLookup id = (ch.flowLookup id).noted v := by
  simp only [Chan.flowLookup, ↓Chan.mk_flow_noted, Chan.noted_readers]
  cases ch.job id with
  | none => exact ⟨w, rfl⟩
  | some j =>
    refine ite_noted_some (ch.lookupMiss_noted w id 6) (ite_noted_some (ch.lookupMiss_noted w id 5) ?_)
    exact ite_noted_some (ite_noted_some (ch.lookupMiss_noted w id 4) ⟨w, rfl⟩) (ch.cacheRead_noted w _)
end
end Sys2Proof.Machine
end

section
/-!
PROOFS of 01_channel_and_device_organisation.md: a reported event stays in the records of its block.
-/

namespace Sys2Proof.Machine
open Sys2Proof

/-! ## What an event is recorded as -/

theorem Events.vector_meteor (ev : Events) (now inst vec hold : Nat) : (ev.vector now inst vec hold).meteor = ev.meteor := by
  simp only [Events.vector]
  split
  · split <;> rfl
  · rfl

theorem Chan.vector_meteor (ch : Chan) (inst vec hold : Nat) : (ch.vector inst vec hold).ev.meteor = ch.ev.meteor := by
  unfold Chan.vector
  split
  · rfl
  · exact Events.vector_meteor ..

theorem Chan.ringEvent_meteor (ch : Chan) (inst : Nat) (s : Severity) (r : EvRec) :
    (ch.ringEvent inst s r).ev.meteor = ch.ev.meteor := by
  unfold Chan.ringEvent
  extract_lets
  split
  · rfl
  · split
    · rfl
    · exact Chan.vector_meteor ..

theorem Events.allow_meteor (ev : Events) (id now : Nat) : (ev.allow id now).2.2.meteor = ev.meteor := by
  unfold Events.allow
  split
  · rfl
  · split <;> rfl

/-- An event of the channel's own blocks puts one record into the ring of its block, whether or not it is suppressed. -/
theorem Chan.raise_meteor (ch : Chan) (e : Ev) (cnt : Option Nat) (he : e.block < 18) :
    ∃ r : EvRec, r.id = e.id ∧ r.time = ch.ns ∧
      (ch.raise e none cnt).ev.meteor =
        sset (fun _ => []) ch.ev.meteor e.block ((r :: sget (fun _ => []) ch.ev.meteor e.block).take 256) := by
  have ha := ch.ev.allow_meteor e.id ch.now
  simp only [Chan.raise, Nat.not_le.mpr he, if_false, Chan.raiseCore]
  rw [← ha]
  generalize ch.ev.allow e.id ch.now = p
  obtain ⟨ok, supp, ev⟩ := p
  cases ok with
  | true => exact ⟨_, rfl, rfl, Chan.ringEvent_meteor ..⟩
  | false => exact ⟨_, rfl, rfl, rfl⟩

theorem Chan.raise_ns (ch : Chan) (e : Ev) (t n : Option Nat) : (ch.raise e t n).ns = ch.ns := by
  have h := RaiseFrame.raise ch e t n
  simp only [Chan.ns, h.sid, h.now]

theorem Chan.raise_reported (ch : Chan) (e : Ev) (cnt : Option Nat) (he : e.block < 18) : Reported e (ch.raise e none cnt) := by
  obtain ⟨r, hid, htime, hm⟩ := ch.raise_meteor e cnt he
  simp [Reported, hm, sget_sset_same, hid, htime, Chan.raise_ns]

/-- Events of another block leave the records of a block. -/
theorem Chan.raise_meteor_ne (ch : Chan) (e : Ev) (cnt : Option Nat) (he : e.block < 18) {b : Nat} (hb : b ≠ e.block) :
    sget (fun _ => []) (ch.raise e none cnt).ev.meteor b = sget (fun _ => []) ch.ev.meteor b := by
  obtain ⟨r, -, -, hm⟩ := ch.raise_meteor e cnt he
  rw [hm, sget_sset_ne _ _ _ hb]

/-- `b` is `a` in what a Reported of an event outside the observation block speaks of. -/
structure RecordsKept (a b : Chan) : Prop where
  ns : b.ns = a.ns
  meteor : ∀ k, k ≠ EV_OBS_FREEZE.block → sget (fun _ => []) b.ev.meteor k = sget (fun _ => []) a.ev.meteor k

theorem RecordsKept.refl (a : Chan) : RecordsKept a a := ⟨rfl, fun _ _ => rfl⟩

theorem RecordsKept.trans {a b c : Chan} (h : RecordsKept a b) (g : RecordsKept b c) : RecordsKept a c :=
  ⟨g.ns.trans h.ns, fun k hk => (g.meteor k hk).trans (h.meteor k hk)⟩

theorem RecordsKept.reported {a b : Chan} (h : RecordsKept a b) {e : Ev} (he : e.block ≠ EV_OBS_FREEZE.block)
    (ha : Reported e a) : Reported e b := by
  simpa only [Reported, h.ns, h.meteor _ he] using ha

theorem RecordsKept.freeze (a : Chan) (cause : FreezeCause) : RecordsKept a (a.freeze cause) := by
  have h := Agrees.freeze a cause
  refine ⟨by simp only [Chan.ns, h.sid, h.now], fun k hk => ?_⟩
  unfold Chan.freeze
  split
  · rfl
  · exact (Chan.raise_meteor_ne _ _ _ (by decide) hk).trans rfl

theorem RecordsKept.hubMsg (s : State) (c d : Fin 8) (x : HubMsg) : RecordsKept (s.chan d) ((s.hubMsg c x).chan d) := by
  cases x with
  | event e => exact .refl _
  | failStop =>
    unfold State.hubMsg
    dsimp only
    split
    · rw [State.freezeMask_chan]
      split
      · exact .freeze _ _
      · exact .refl _
    · exact .refl _

theorem RecordsKept.hubMsgs (l : List HubMsg) (s : State) (c d : Fin 8) :
    RecordsKept (s.chan d) ((l.foldl (fun s m => s.hubMsg c m) s).chan d) := by
  induction l generalizing s with
  | nil => exact .refl _
  | cons x r ih => exact (RecordsKept.hubMsg s c d x).trans (ih _)

/-- What is taken from the channel for the hub die leaves the records of its events. -/
theorem RecordsKept.onChan (s : State) (c : Fin 8) (f : Chan → Chan) : RecordsKept (f (s.chan c)) ((s.onChan c f).chan c) := by
  have h := RecordsKept.hubMsgs (f (s.chan c)).toHub
    ((s.setChan c (f (s.chan c))).setChan c { f (s.chan c) with toHub := [] }) c c
  rw [State.setChan_chan_same] at h
  unfold State.onChan State.flush
  rw [State.setChan_chan_same]
  exact ⟨h.ns, h.meteor⟩

theorem RecordsKept.onClocked {s : State} {c : Fin 8} {ch : Chan} (h : s.chan c = ch) (hc : ch.clocked = true) (f : Chan → Chan) :
    RecordsKept (f ch) ((s.onClocked c f).chan c) := by
  subst h
  have hr := RecordsKept.onChan s c fun ch => if ch.clocked then f ch else ch
  simp only [hc, if_true] at hr
  exact hr

end Sys2Proof.Machine
end

section
/-!
PROOFS of 01_channel_and_device_organisation.md: the three courses of a dispatch (R27, R55, R57, R138).
-/

namespace Sys2Proof.Machine
open Sys2Proof

theorem Agrees.noted (ch : Chan) (w : List Nat) : Agrees ch (ch.noted w) := .obs ch _

/-- Parsing does not see the note. -/
theorem Chan.parse_noted (ch : Chan) (w : List Nat) (md bytes : List Byte) (trunc : Bool) (tid i : Nat) :
    (ch.noted w).parse md bytes trunc tid i = notedSnd (ch.parse md bytes trunc tid i) w := by
  have hst : (ch.noted w).parseStage = ch.parseStage := rfl
  simp [Chan.parse, hst]

/-! ## An answer put into the transmit queue -/

theorem Chan.pushTx_cases (ch : Chan) (t : TxRec) :
    ch.pushTx t = ch ∨ ch.pushTx t = { ch with port := { ch.port with txq := ch.port.txq ++ [t] } } :=
  ite_eq_or_eq ..

/-- The transmit queue is all that a record put into it touches. -/
theorem Chan.pushTx_eq (ch : Chan) (t : TxRec) : ch.pushTx t = { ch with port := (ch.pushTx t).port } := by
  rcases ch.pushTx_cases t with h | h <;> rw [h]

/-- A register below 2^32 that neither an event nor a freeze writes. -/
theorem not_settleKey {k : Nat} (h : k < 4294967296) (h1 : k ≠ R.CHN_EVQ_CTRL) (h2 : k ≠ R.VPE_CNT_TELEM_DROP)
    (h3 : k ≠ R.OBS_FREEZE) (h4 : k ≠ R.OBS_FREEZE_TIME) (h5 : k ≠ R.OBS_CNT_FREEZES) : ¬ settleKey k := by
  rintro (hr | rfl | rfl | rfl)
  · exact not_raiseKey h h1 h2 hr
  · exact h3 rfl
  · exact h4 rfl
  · exact h5 rfl

theorem Agrees.withPort {a b : Chan} (h : Agrees a b) (p : Port) : Agrees { a with port := p } { b with port := p } :=
  { h with port := rfl }

theorem Agrees.fld {a b : Chan} (h : Agrees a b) {k : Nat} (hk : ¬ settleKey k) (f : Fld) : b.fld k f = a.fld k f := by
  simp only [Chan.fld, h.rd k hk]

/-- The same record is put into the queues of channels that agree. -/
theorem Agrees.pushTx {a b : Chan} (h : Agrees a b) (t : TxRec) : Agrees (a.pushTx t) (b.pushTx t) := by
  have hl : b.linkState = a.linkState :=
    h.fld (not_settleKey (by decide) (by decide) (by decide) (by decide) (by decide) (by decide)) _
  have hp : (b.pushTx t).port = (a.pushTx t).port := by
    simp only [Chan.pushTx]
    rw [apply_ite Chan.port, apply_ite Chan.port]
    exact ite_congr (by simp only [hl, Chan.job, h.jobs]) (fun _ => h.port) fun _ => by rw [h.port]
  rw [Chan.pushTx_eq a, Chan.pushTx_eq b, hp]
  exact h.withPort _

/-- The same malformed answer is given by channels that agree (R61). -/
theorem Agrees.malformed {a b : Chan} (h : Agrees a b) (q : BitVec 32) (cls unknown : Bool) :
    Agrees (a.malformed q cls unknown) (b.malformed q cls unknown) := by
  have hctrl : ¬ settleKey R.PDP_CTRL := not_settleKey (by decide) (by decide) (by decide) (by decide) (by decide) (by decide)
  have hepoch : ¬ settleKey R.CHK_EPOCH := not_settleKey (by decide) (by decide) (by decide) (by decide) (by decide) (by decide)
  simp only [Chan.malformed, Chan.epoch, h.fld hctrl, h.rd _ hepoch]
  exact h.pushTx _

/-! ## The Carafe and the lanes -/

/-- The Carafe's contents and the channel's descriptors in flight and number. -/
abbrev Chan.held (ch : Chan) : List Desc × List Job × Fin 8 := (ch.port.carafe, ch.jobs, ch.idx)

theorem Chan.setCarafe_held (ch : Chan) (ds : List Desc) : (ch.setCarafe ds).held = (ds, ch.jobs, ch.idx) := by
  unfold Chan.setCarafe Chan.carafeStatus
  dsimp only
  split <;> rfl

theorem Chan.freeWords_held (ch : Chan) (n : Nat) : (ch.freeWords n).held = ch.held := by
  unfold Chan.freeWords
  dsimp only
  split <;> rfl

theorem Chan.useLane_held (ch : Chan) (lane : Bool) : (ch.useLane lane).held = ch.held := by
  cases lane <;> rfl

theorem Chan.pushTx_held (ch : Chan) (t : TxRec) : (ch.pushTx t).held = ch.held := by
  rcases ch.pushTx_cases t with h | h <;> rw [h]

/-! ## Dispatch -/

/-- The descriptor is read from the Carafe, its words are freed for credit and its corrected errors counted (R55, R57). -/
def Chan.takeDesc (ch : Chan) (x : Desc) (rest : List Desc) (fixed : Nat) : Chan :=
  ((ch.setCarafe rest).freeWords x.words).inc R.CRF_CNT_ECC fixed

/-- The lane takes it now (R27). -/
def Chan.toLane (ch : Chan) (lane : Bool) : Chan := { ch.useLane lane with pwr := { ch.pwr with dispatchAt := ch.now } }

/-- A read of the Carafe leaves the rest in it. -/
theorem Chan.takeDesc_held (ch : Chan) (x : Desc) (rest : List Desc) (fixed : Nat) :
    (ch.takeDesc x rest fixed).held = (rest, ch.jobs, ch.idx) :=
  (Chan.freeWords_held _ _).trans (ch.setCarafe_held rest)

theorem Chan.toLane_held (ch : Chan) (lane : Bool) : (ch.toLane lane).held = ch.held := ch.useLane_held lane

/-- The job of a descriptor that begins its flow lookup. -/
def Chan.newJob (ch : Chan) (x : Desc) (lane : Bool) (i : Nat) (bus : List Byte) : Job :=
  { id := ch.jobNum, laneB := lane, desc := x, stage := .flowWait, tenant := i, bus := bus
    flowKey := orientKey (slice bus 16 40) x.md.cls (ch.tid i), at_ := ch.now
    ens := ch.tenantEns i, forest := ch.servingCtxs i 0, neural := ch.servingCtxs i 1 }

/-- The Parser makes the descriptor's bus, and its job begins the flow lookup (R69, R81). -/
def Chan.startJob (ch : Chan) (x : Desc) (lane : Bool) (i : Nat) : Chan :=
  let p := ch.parse x.md.bytes x.slice (x.md.flags.getLsbD 0) (ch.tid i) i
  ({ p.2 with jobNum := p.2.jobNum + 1, jobs := p.2.jobs ++ [p.2.newJob x lane i p.1] } : Chan).flowLookup p.2.jobNum

/-- A job takes the same course whatever units are noted. -/
theorem Chan.startJob_noted (ch : Chan) (w : List Nat) (x : Desc) (lane : Bool) (i : Nat) :
    ∃ v, (ch.noted w).startJob x lane i = (ch.startJob x lane i).noted v := by
  unfold Chan.startJob
  rw [show (ch.noted w).tid i = ch.tid i from rfl, Chan.parse_noted]
  obtain ⟨bus, a⟩ := ch.parse x.md.bytes x.slice (x.md.flags.getLsbD 0) (ch.tid i) i
  exact Chan.flowLookup_noted { a with jobNum := a.jobNum + 1, jobs := a.jobs ++ [a.newJob x lane i bus] } w a.jobNum

/-- The answer to a descriptor read with an uncorrectable error (R57): counted, reported and malformed. -/
def Chan.refuse (a : Chan) (q : BitVec 32) : Chan :=
  ((a.work [0]).count R.PDP_CNT_BAD_CRC EV_PDP_BAD_CRC).malformed q (Config.noClass a.idx q.toNat) false

section

variable {ch : Chan} {fixed : Nat} {x : Desc} {rest : List Desc} {lane : Bool} (hc : ch.clocked = true)
  (hfail : ch.failStopped = false) (hstop : ch.dispatchStop = none) (hslot : ch.flow.slotAt ≤ ch.coreNow)
  (hfree : ch.laneFree lane = true) (hcar : ch.port.carafe = x :: rest) (hlane : ch.nextLane = some lane)

include hc hfail hstop hslot hfree hcar hlane

theorem Chan.descriptorDispatch_open (bad : Bool) :
    ch.descriptorDispatch fixed bad =
      if !bad && ch.claimClash 97 (ch.tenantEns (x.md.tenant.toNat % 16)) lane then (ch.inc R.FST_CNT_BANK_HOLD).useLane lane
      else
        let a := ((ch.takeDesc x rest fixed).toLane lane).work [0]
        if bad then ((ch.takeDesc x rest fixed).toLane lane).refuse x.md.seq
        else ((a.claim 97 (a.tenantEns (x.md.tenant.toNat % 16)) lane).work [1, 2]).startJob x lane (x.md.tenant.toNat % 16) := by
  have hgate : (!ch.clocked || ch.failStopped || ch.dispatchStop.isSome || decide (ch.coreNow < ch.flow.slotAt) ||
      !ch.laneFree lane) = false := by
    simp [hc, hfail, hstop, hslot, hfree]
  simp only [Chan.descriptorDispatch, hcar, hlane, hgate, Bool.false_eq_true, if_false]
  rfl

/-- No bank is taken: the descriptor's job starts. -/
theorem Chan.descriptorDispatch_free (hbanks : ch.claimClash 97 (ch.tenantEns (x.md.tenant.toNat % 16)) lane = false) :
    ch.descriptorDispatch fixed false =
      let a := ((ch.takeDesc x rest fixed).toLane lane).work [0]
      ((a.claim 97 (a.tenantEns (x.md.tenant.toNat % 16)) lane).work [1, 2]).startJob x lane (x.md.tenant.toNat % 16) := by
  simp only [Chan.descriptorDispatch_open hc hfail hstop hslot hfree hcar hlane, hbanks, Bool.and_false,
    Bool.false_eq_true, if_false]

/-- A bank is taken: the descriptor stays. -/
theorem Chan.descriptorDispatch_held (hbanks : ch.claimClash 97 (ch.tenantEns (x.md.tenant.toNat % 16)) lane = true) :
    ch.descriptorDispatch fixed false = (ch.inc R.FST_CNT_BANK_HOLD).useLane lane := by
  simp only [Chan.descriptorDispatch_open hc hfail hstop hslot hfree hcar hlane, hbanks, Bool.not_false, Bool.and_true, if_true]

/-- The descriptor cannot be corrected: no job starts. -/
theorem Chan.descriptorDispatch_bad :
    ch.descriptorDispatch fixed true =
      ((ch.takeDesc x rest fixed).toLane lane).refuse x.md.seq := by
  simp only [Chan.descriptorDispatch_open hc hfail hstop hslot hfree hcar hlane, Bool.not_true, Bool.false_and,
    Bool.false_eq_true, if_false, if_true]

end

/-- To work is to be noted. -/
theorem Chan.work_eq (ch : Chan) (us : List Nat) :
    ch.work us = ch.noted (us.filter (!ch.obs.worked.contains ·) ++ ch.obs.worked) := rfl

theorem Chan.noted_work (ch : Chan) (w us : List Nat) : (ch.noted w).work us = ch.noted (us.filter (!w.contains ·) ++ w) := rfl

theorem Chan.claim_noted (ch : Chan) (w : List Nat) (off : Nat) (ens : List Nat) (lane : Bool) :
    (ch.noted w).claim off ens lane = (ch.claim off ens lane).noted w := (rfl)

/-- A job takes the course it would take without the units that its dispatch notes. -/
theorem Agrees.dispatched (a : Chan) (x : Desc) (lane : Bool) (i : Nat) :
    Agrees ((a.claim 97 (a.tenantEns i) lane).startJob x lane i)
      ((((a.work [0]).claim 97 ((a.work [0]).tenantEns i) lane).work [1, 2]).startJob x lane i) := by
  rw [Chan.work_eq a, show ∀ w, (a.noted w).tenantEns i = a.tenantEns i from fun _ => rfl, Chan.claim_noted, Chan.noted_work]
  obtain ⟨v, hv⟩ := Chan.startJob_noted (a.claim 97 (a.tenantEns i) lane) _ x lane i
  rw [hv]
  exact .noted _ v

/-- A record put into the transmit queue raises no event. -/
theorem RecordsKept.pushTx (a : Chan) (t : TxRec) : RecordsKept a (a.pushTx t) := by
  rw [Chan.pushTx_eq]
  exact ⟨rfl, fun _ _ => rfl⟩

theorem Chan.malformed_held (ch : Chan) (q : BitVec 32) (cls unknown : Bool) : (ch.malformed q cls unknown).held = ch.held :=
  ch.pushTx_held _

theorem RecordsKept.malformed (a : Chan) (q : BitVec 32) (cls unknown : Bool) : RecordsKept a (a.malformed q cls unknown) :=
  RecordsKept.pushTx a { kind := .malformed, vr := _ }

/-- A descriptor that cannot be corrected is counted and reported; the note of the Carafe's work changes nothing of it. -/
theorem Agrees.counted_work (a : Chan) (us : List Nat) (k : Nat) (e : Ev) : Agrees (a.inc k) ((a.work us).count k e) := by
  rw [Chan.work_eq, Chan.count, Chan.inc_noted]
  exact (Agrees.noted _ _).trans (.raise _ _ _ _)

/-- A count with its event reports the event. -/
theorem Chan.count_reported (ch : Chan) (k : Nat) (e : Ev) (he : e.block < 18) : Reported e (ch.count k e) :=
  Chan.raise_reported _ e _ he

/-- Channels that agree hold the same descriptors. -/
theorem Agrees.held {a b : Chan} (h : Agrees a b) : b.held = a.held := by
  simp only [Chan.held, h.port, h.jobs, h.idx]

theorem Agrees.refuse (a : Chan) (q : BitVec 32) :
    Agrees ((a.inc R.PDP_CNT_BAD_CRC).malformed q (Config.noClass a.idx q.toNat) false) (a.refuse q) :=
  (Agrees.counted_work a [0] _ _).malformed q _ false

theorem Chan.refuse_reported (a : Chan) (q : BitVec 32) : Reported EV_PDP_BAD_CRC (a.refuse q) :=
  (RecordsKept.malformed _ q _ false).reported (by decide) (Chan.count_reported _ _ _ (by decide))

/-- Settles O14: a dispatch takes one of three courses, and the units it notes for the cycle's accounting steer none of them. -/
theorem dispatchStartsALookup : Obligations.DispatchStartsALookup := by
  intro s c ch h hc
  refine ⟨?_, ?_, ?_⟩
  · rintro fixed x rest lane i hfail hstop hslot hfree hcar hlane rfl hbanks
    obtain ⟨t, ht, ha⟩ := exec_clocked h (i := .descriptorDispatch c fixed false) rfl hc
      (Chan.descriptorDispatch_free hc hfail hstop hslot hfree hcar hlane hbanks)
    have hs := (Agrees.dispatched ((ch.takeDesc x rest fixed).toLane lane) x lane (x.md.tenant.toNat % 16)).trans ha
    refine ⟨t, ht, ?_⟩
    simp only [Chan.startJob, Chan.newJob, Chan.toLane, Chan.takeDesc] at hs
    exact hs
  · intro fixed d rest lane hfail hstop hslot hfree hcar hlane
    have hrun := Chan.descriptorDispatch_bad hc hfail hstop hslot hfree hcar hlane (fixed := fixed)
    have hheld := (Chan.toLane_held (ch.takeDesc d rest fixed) lane).trans (ch.takeDesc_held d rest fixed)
    have hsame := Agrees.refuse ((ch.takeDesc d rest fixed).toLane lane) d.md.seq
    have hrep := Chan.refuse_reported ((ch.takeDesc d rest fixed).toLane lane) d.md.seq
    have hkept := RecordsKept.onClocked h hc fun ch => ch.descriptorDispatch fixed true
    have ha := hsame.trans (hrun ▸ State.onClocked_agrees h hc fun ch => ch.descriptorDispatch fixed true)
    have hend := ha.held.trans ((Chan.malformed_held _ _ _ _).trans hheld)
    rw [show ((ch.takeDesc d rest fixed).toLane lane).idx = ch.idx from congrArg (·.2.2) hheld] at ha
    refine ⟨s.onClocked c fun ch => ch.descriptorDispatch fixed true, rfl, ?_, congrArg (·.1) hend, congrArg (·.2.1) hend, ?_⟩
    · simp only [Chan.toLane, Chan.takeDesc] at ha
      exact ha
    · exact hkept.reported (by decide) (hrun ▸ hrep)
  · intro fixed x rest lane hfail hstop hslot hfree hcar hlane hbanks
    obtain ⟨t, ht, ha⟩ := exec_clocked h (i := .descriptorDispatch c fixed false) rfl hc
      (Chan.descriptorDispatch_held hc hfail hstop hslot hfree hcar hlane hbanks)
    have hheld := ha.held.trans ((ch.inc R.FST_CNT_BANK_HOLD).useLane_held lane)
    exact ⟨t, ht, ha, congrArg (·.1) hheld, congrArg (·.2.1) hheld⟩

end Sys2Proof.Machine
end

section
/-!
PROOFS of 02_descriptor_ports.md: what a command inside a powered channel does, and what the port's registers keep of each other.
-/

namespace Sys2Proof.Machine
open Sys2Proof

section

variable {s : State} {c : Fin 8} {ch : Chan} (h : s.chan c = ch) (hon : ch.isOn = true)

include h hon

theorem State.onLive_agrees (f : Chan → Chan) : Agrees (f ch) ((s.onLive c f).chan c) := by
  subst h
  have ha := s.onChan_same c fun ch => if ch.isOn then f ch else ch
  simp only [hon, if_true] at ha
  exact ha

/-- A command inside a powered channel whose work is `f` leaves the channel as `a`, the outcome of `f`, up to events. -/
theorem exec_live {i : Instr} {f : Chan → Chan} {a : Chan} (hi : exec i s = .next (s.onLive c f)) (ha : f ch = a) :
    ∃ t, exec i s = .next t ∧ Agrees a (t.chan c) :=
  ⟨_, hi, ha ▸ State.onLive_agrees h hon f⟩

theorem RecordsKept.onLive (f : Chan → Chan) : RecordsKept (f ch) ((s.onLive c f).chan c) := by
  subst h
  have hr := RecordsKept.onChan s c fun ch => if ch.isOn then f ch else ch
  simp only [hon, if_true] at hr
  exact hr

end

/-- A register below 2^32 that no event writes, told by one decision. -/
theorem not_raiseKey_of {k : Nat} (h : k < 4294967296 ∧ k ≠ R.CHN_EVQ_CTRL ∧ k ≠ R.VPE_CNT_TELEM_DROP) : ¬ raiseKey k := by
  obtain ⟨hlow, hring, hdrop⟩ := h
  exact not_raiseKey hlow hring hdrop

/-- The same of a register that no freeze writes either. -/
theorem not_settleKey_of {k : Nat}
    (h : (k < 4294967296 ∧ k ≠ R.CHN_EVQ_CTRL ∧ k ≠ R.VPE_CNT_TELEM_DROP) ∧
      k ≠ R.OBS_FREEZE ∧ k ≠ R.OBS_FREEZE_TIME ∧ k ≠ R.OBS_CNT_FREEZES) : ¬ settleKey k := by
  obtain ⟨⟨hlow, hring, hdrop⟩, hfreeze, htime, hcount⟩ := h
  exact not_settleKey hlow hring hdrop hfreeze htime hcount

theorem Agrees.linkState {a b : Chan} (h : Agrees a b) : b.linkState = a.linkState :=
  h.fld (not_settleKey_of (by decide)) _

theorem Agrees.failPin {a b : Chan} (h : Agrees a b) : b.pwr.failPin = a.pwr.failPin := by rw [h.pwr]

theorem Agrees.carafe {a b : Chan} (h : Agrees a b) : b.port.carafe = a.port.carafe := by rw [h.port]

/-! ## Link state, mode and credits -/

section

variable {ch : Chan}

theorem Chan.creditsOn_mirror (hm : ch.mirror = true) : ch.creditsOn = false := by simp [Chan.creditsOn, hm]

theorem Chan.creditsOn_native (hm : ch.mirror = false) (hl : ch.linkState = 2 ∨ ch.linkState = 3) :
    ch.creditsOn = true := by
  simpa [Chan.creditsOn, hm] using hl

theorem Chan.pausing_eq (hm : ch.mirror = true) (he : ch.flag R.PDP_CTRL F.PDP_CTRL_pause_enable = true) :
    ch.pausing = true := by simp [Chan.pausing, hm, he]

theorem Chan.pausing_native (hm : ch.mirror = false) : ch.pausing = false := by simp [Chan.pausing, hm]

/-- What every send of a time word does: the word's count and time move on, and where credits are in use the limit is granted. -/
theorem Chan.sendTime_eq (ch : Chan) :
    ch.sendTime =
      let a : Chan := { ch with port := { ch.port with
        out := (if ch.mirror then timeFrame ch.ethDa ch.ethSa ch.port.timeCount.toNat (ch.ns / 1000000000) (ch.ns % 1000000000)
          else controlBlock none ((if ch.creditsOn then [creditWord ch.port.limit] else []) ++
            [timeWordBytes ch.port.timeCount.toNat (ch.ns / 1000000000) (ch.ns % 1000000000)])) :: ch.port.out
        timeCount := ch.port.timeCount + 1, timeAt := ch.now } }
      if ch.creditsOn then a.wr R.CRF_CREDIT (BitVec.ofNat 64 ch.port.limit) else a := rfl

/-- A native port's time word carries the grant of `p`, whatever else of the port `p` holds. -/
theorem Chan.sendTime_granting (hm : ch.mirror = false) (hl : ch.linkState = 2 ∨ ch.linkState = 3) (p : Port) :
    Chan.sendTime { ch with port := p } =
      { ch.wr R.CRF_CREDIT (BitVec.ofNat 64 p.limit) with
        port := { p with
          out := controlBlock none [creditWord p.limit,
            timeWordBytes p.timeCount.toNat (ch.ns / 1000000000) (ch.ns % 1000000000)] :: p.out
          timeCount := p.timeCount + 1, timeAt := ch.now } } := by
  have hmode : Chan.mirror { ch with port := p } = false := hm
  have hcredits : Chan.creditsOn { ch with port := p } = true := Chan.creditsOn_native (ch := { ch with port := p }) hm hl
  simp only [Chan.sendTime_eq, hmode, hcredits, if_true, Bool.false_eq_true, if_false]
  rfl

theorem Chan.sendTime_mirror (hm : ch.mirror = true) :
    ch.sendTime =
      { ch with port := { ch.port with
        out := timeFrame ch.ethDa ch.ethSa ch.port.timeCount.toNat (ch.ns / 1000000000) (ch.ns % 1000000000) :: ch.port.out
        timeCount := ch.port.timeCount + 1, timeAt := ch.now } } := by
  simp only [Chan.sendTime_eq, hm, Chan.creditsOn_mirror hm, if_true, Bool.false_eq_true, if_false]

/-- What is sent in turn stands before what was sent, the latest first. -/
theorem Chan.foldl_portSend {α : Type} (g : α → PortOut) (l : List α) (ch : Chan) :
    l.foldl (fun (a : Chan) x => a.portSend (g x)) ch =
      { ch with port := { ch.port with out := (l.map g).reverse ++ ch.port.out } } := by
  induction l generalizing ch with
  | nil => rfl
  | cons x xs ih =>
    rw [List.foldl_cons, ih]
    simp [Chan.portSend]

end

end Sys2Proof.Machine
end

section
/-!
PROOFS of 02_descriptor_ports.md: what the port sends of itself (R45 to R47, R50, R53 to R55, R59).
-/

namespace Sys2Proof.Machine
open Sys2Proof

section

variable {ch : Chan}

/-- A mirror port that asserts PAUSE repeats or ends it. -/
theorem Chan.pauseRepeats (hm : ch.mirror = true) (hp : ch.port.paused = true) (hl : ch.linkState ≠ 0) :
    (!ch.mirror || !ch.port.paused || ch.linkState == 0) = false := by simp [hm, hp, hl]

theorem Chan.pauseRepeat_above (hm : ch.mirror = true) (hp : ch.port.paused = true) (hl : ch.linkState ≠ 0)
    (hocc : pauseLow < ch.carafeOcc) (ht : ch.port.pauseAt + 10 * usG ≤ ch.now)
    (he : ch.flag R.PDP_CTRL F.PDP_CTRL_pause_enable = true) :
    ch.pauseRepeat =
      let a := ch.sendPause 0xFFFF
      { a with port := { a.port with pauseAt := ch.now } } := by
  have hdue : ch.since ch.port.pauseAt (10 * usG) = true := decide_eq_true ht
  simp only [Chan.pauseRepeat, Chan.pauseRepeats hm hp hl, hocc, hocc.not_gt, hdue, Chan.pausing_eq hm he, and_self, if_true,
    if_false, Bool.false_eq_true]
  rfl

theorem Chan.pauseRepeat_below (hm : ch.mirror = true) (hp : ch.port.paused = true) (hl : ch.linkState ≠ 0)
    (hocc : ch.carafeOcc < pauseLow) (he : ch.flag R.PDP_CTRL F.PDP_CTRL_pause_enable = true) :
    ch.pauseRepeat =
      let a := ch.sendPause 0
      { a with port := { a.port with paused := false } } := by
  simp only [Chan.pauseRepeat, Chan.pauseRepeats hm hp hl, hocc, Chan.pausing_eq hm he, if_true, if_false, Bool.false_eq_true]

theorem Chan.timeSend_due (hl : ch.linkState ≠ 0) (ht : ch.port.timeAt + 950 * nsG ≤ ch.now) : ch.timeSend = ch.sendTime :=
  if_pos ⟨hl, decide_eq_true ht⟩

theorem Chan.alignSend_due (hm : ch.mirror = false) (hl : ch.linkState ≠ 0) (ht : ch.port.alignAt + 13212058 ≤ ch.now) :
    ch.alignSend = { ch with port := { ch.port with out := alignGroup ++ ch.port.out, alignAt := ch.now } } :=
  if_pos ⟨hm, hl, decide_eq_true ht⟩

theorem Chan.downRepeat_due (hl : ch.linkState = 4) (ht : ch.port.downAt + 950 * nsG ≤ ch.now) : ch.downRepeat = ch.sendDown :=
  if_pos ⟨hl, decide_eq_true ht⟩

theorem Chan.sendDown_mirror (hm : ch.mirror = true) :
    ch.sendDown =
      { ch with port := { ch.port with out := verdictFrame ch.ethDa ch.ethSa [ch.downRecord] :: ch.port.out, downAt := ch.now } } :=
  if_pos hm

theorem Chan.sendDown_native (hm : ch.mirror = false) :
    ch.sendDown =
      { ch with port := { ch.port with
        out := ((List.range 8).map fun l => verdictBlock (some l) [ch.downRecord]).reverse ++ ch.port.out, downAt := ch.now } } :=
  (if_neg (Bool.eq_false_iff.mp hm)).trans (Chan.foldl_portSend _ _ _)

end

/-- Settles O11: each command is due, and sends what its mode has. -/
theorem portSends : Obligations.PortSends := by
  intro s c ch h hon
  refine ⟨?_, ?_, ?_, ?_, ?_, ?_, ?_⟩
  · intro hm hp hl hocc ht he
    exact exec_live h hon rfl (Chan.pauseRepeat_above hm hp hl hocc ht he)
  · intro hm hp hl hocc he
    exact exec_live h hon rfl (Chan.pauseRepeat_below hm hp hl hocc he)
  · intro hm hl ht
    exact exec_live h hon rfl ((Chan.timeSend_due (by omega) ht).trans (Chan.sendTime_granting hm (.inr hl) ch.port))
  · intro hm hl ht
    exact exec_live h hon rfl ((Chan.timeSend_due hl ht).trans (Chan.sendTime_mirror hm))
  · intro hm hl ht
    exact exec_live h hon rfl (Chan.alignSend_due hm hl ht)
  · intro hm hl ht
    exact exec_live h hon rfl ((Chan.downRepeat_due hl ht).trans (Chan.sendDown_mirror hm))
  · intro hm hl ht
    obtain ⟨t, ht, ha⟩ := exec_live h hon (i := .channelDownRepeat c) rfl
      ((Chan.downRepeat_due hl ht).trans (Chan.sendDown_native hm))
    exact ⟨t, ht, ha, rfl, rfl⟩

end Sys2Proof.Machine
end

section
/-!
PROOFS of 02_descriptor_ports.md: the states of the descriptor port (R46, R55, R56, R58, R64, R463).
-/

namespace Sys2Proof.Machine
open Sys2Proof

/-! ## What PDP_LINK_STATUS and PDP_CTRL show after a change -/

/-- The lanes with codeword lock and their alignment, as PDP_LINK_STATUS shows them (Table 02.12). -/
def Chan.lanesShow (ch : Chan) (locked : Nat) (aligned : Bool) : Chan :=
  (ch.setFld R.PDP_LINK_STATUS F.PDP_LINK_STATUS_lane_locked locked).setFlag R.PDP_LINK_STATUS F.PDP_LINK_STATUS_aligned aligned

section

variable (ch : Chan)

@[simp] theorem Chan.lanesShow_linkState (locked : Nat) (aligned : Bool) :
    (ch.lanesShow locked aligned).linkState = ch.linkState :=
  (Chan.fld_setFld_apart _ _ _ _ _ (by decide)).trans (Chan.fld_setFld_apart _ _ _ _ _ (by decide))

@[simp] theorem Chan.lanesShow_mirror (locked : Nat) (aligned : Bool) : (ch.lanesShow locked aligned).mirror = ch.mirror := by
  simp only [Chan.lanesShow, Chan.mirror, Chan.flag, Chan.setFlag]
  rw [Chan.fld_setFld_ne _ _ _ _ (by decide), Chan.fld_setFld_ne _ _ _ _ (by decide)]

theorem Chan.setLink_linkState {st : Nat} (h : st < 8) : (ch.setLink st).linkState = st :=
  (Chan.fld_setFld_same ch R.PDP_LINK_STATUS F.PDP_LINK_STATUS_link_state st (by decide)).trans (Nat.mod_eq_of_lt h)

@[simp] theorem Chan.setLink_mirror (st : Nat) : (ch.setLink st).mirror = ch.mirror :=
  congrArg (· == 1) (ch.fld_setFld_ne (j := R.PDP_CTRL) _ _ _ (by decide))

theorem Chan.wr_linkState {k : Nat} (v : Word) (h : R.PDP_LINK_STATUS ≠ k) : (ch.wr k v).linkState = ch.linkState :=
  ch.fld_wr_ne v _ h

theorem Chan.wr_mirror {k : Nat} (v : Word) (h : R.PDP_CTRL ≠ k) : (ch.wr k v).mirror = ch.mirror :=
  congrArg (· == 1) (ch.fld_wr_ne v _ h)

/-- Showing the Carafe's occupancy writes CRF_STATUS alone. -/
theorem Chan.carafeStatus_rd {k : Nat} (h : k ≠ R.CRF_STATUS) : ch.carafeStatus.rd k = ch.rd k := by
  unfold Chan.carafeStatus
  dsimp only
  split <;> simp only [Chan.setFlag, Chan.rd_setFld_ne _ _ _ h]

theorem Chan.carafeStatus_linkState : ch.carafeStatus.linkState = ch.linkState :=
  congrArg (getF · _) (ch.carafeStatus_rd (by decide))

end

/-! ## The commands -/

section

variable {ch : Chan}

/-- ALIGN is entered with the fail pin asserted. -/
theorem Chan.portAlign_eq (ch : Chan) :
    ch.portAlign =
      let a : Chan := (ch.setFld R.PDP_LINK_STATUS F.PDP_LINK_STATUS_link_state 1).lanesClear
      { a with port := { a.port with seqValid := false, framing := .lost }, pwr := { a.pwr with failPin := true } } := by
  dsimp only [Chan.portAlign, Chan.setLink, Chan.lanesClear, Chan.setFlag, Chan.setFld, Chan.wr, Chan.rd]
  rfl

theorem Chan.portEnable_ready (hl : ch.linkState = 0) (hr : ch.pwr.ready = true) (hf : ch.failStopped = false) :
    ch.portEnable = (ch.setFlag R.PDP_CTRL F.PDP_CTRL_port_enable true).portAlign := by
  have hlink : (ch.setFlag R.PDP_CTRL F.PDP_CTRL_port_enable true).linkState = 0 := (ch.wr_linkState _ (by decide)).trans hl
  have hfail : (ch.setFlag R.PDP_CTRL F.PDP_CTRL_port_enable true).failStopped = false :=
    (congrArg (· == 1) (ch.fld_setFld_ne (j := R.PWR_STATUS) _ _ _ (by decide))).trans hf
  exact if_pos ⟨hlink, hr, hfail⟩

theorem Chan.portAlign_linkState : ch.portAlign.linkState = 1 :=
  ((ch.setLink 1).lanesShow_linkState 0 false).trans (ch.setLink_linkState (by decide))

theorem Chan.portDisableCmd_enabled (hl : ch.linkState ≠ 0) :
    ch.portDisableCmd = ((ch.setFlag R.PDP_CTRL F.PDP_CTRL_port_enable false).setLink 0).lanesClear.portDiscard :=
  if_neg fun h => hl ((ch.wr_linkState _ (by decide)).symm.trans h)

/-- DISABLED is entered with the fail pin asserted and nothing left to answer. -/
theorem Chan.portStop_eq (ch : Chan) :
    (ch.setLink 0).lanesClear.portDiscard =
      let a : Chan := (ch.setFld R.PDP_LINK_STATUS F.PDP_LINK_STATUS_link_state 0).lanesClear
      { a with
        jobs := ch.jobs.map fun (j : Job) => if j.stage = Stage.sent ∨ j.stage = Stage.done then j else { j with silent := true }
        port := { a.port with txq := [], seqValid := false, framing := .lost, paused := false }
        pwr := { a.pwr with failPin := true } }.setCarafe [] := by
  dsimp only [Chan.portDiscard, Chan.setLink, Chan.lanesClear, Chan.setFlag, Chan.setFld, Chan.wr, Chan.rd]
  rfl

theorem Chan.portStop_linkState (ch : Chan) : (ch.setLink 0).lanesClear.portDiscard.linkState = 0 :=
  (Chan.carafeStatus_linkState _).trans (((ch.setLink 0).lanesShow_linkState 0 false).trans (ch.setLink_linkState (by decide)))

theorem Chan.setCarafe_carafe (ds : List Desc) : (ch.setCarafe ds).port.carafe = ds := congrArg (·.1) (ch.setCarafe_held ds)

theorem Chan.lanesAligned_mirror (hl : ch.linkState = 1) (hm : ch.mirror = true) :
    ch.lanesAligned = (ch.lanesShow 0xFF true).setLink 3 := by
  have hlink : (ch.lanesShow 0xFF true).linkState = 1 := (ch.lanesShow_linkState _ _).trans hl
  have hmode : (ch.lanesShow 0xFF true).mirror = true := (ch.lanesShow_mirror _ _).trans hm
  exact (if_neg (by omega)).trans ((if_neg (not_not.mpr hlink)).trans (if_pos hmode))

/-- A native port enters CREDIT_INIT with a fresh count of the words received. -/
def Chan.creditInit (ch : Chan) : Chan := (ch.setLink 2).wr R.CRF_RECEIVED 0

theorem Chan.creditInit_linkState : ch.creditInit.linkState = 2 :=
  ((ch.setLink 2).wr_linkState _ (by decide)).trans (ch.setLink_linkState (by decide))

theorem Chan.creditInit_mirror : ch.creditInit.mirror = ch.mirror :=
  ((ch.setLink 2).wr_mirror _ (by decide)).trans (ch.setLink_mirror 2)

section

variable (locked : Nat) (aligned : Bool)

theorem Chan.creditInit_port : (ch.lanesShow locked aligned).creditInit.port = ch.port := by
  simp [Chan.creditInit, Chan.setLink, Chan.lanesShow]

theorem Chan.creditInit_now : (ch.lanesShow locked aligned).creditInit.now = ch.now := by
  simp [Chan.creditInit, Chan.setLink, Chan.lanesShow]

theorem Chan.creditInit_ns : (ch.lanesShow locked aligned).creditInit.ns = ch.ns := by
  simp [Chan.creditInit, Chan.setLink, Chan.lanesShow, Chan.ns]

theorem Chan.creditInit_carafeOcc : (ch.lanesShow locked aligned).creditInit.carafeOcc = ch.carafeOcc := by
  simp only [Chan.carafeOcc, Chan.creditInit_port]

end

theorem Chan.lanesAligned_native (hl : ch.linkState = 1) (hm : ch.mirror = false) :
    ch.lanesAligned =
      let a := (ch.lanesShow 0xFF true).creditInit
      Chan.sendTime { a with port := { a.port with limit := carafeWords - a.carafeOcc - carafeSlack, framing := .lost } } := by
  have hlink : (ch.lanesShow 0xFF true).linkState = 1 := (ch.lanesShow_linkState _ _).trans hl
  have hmode : ¬ (ch.lanesShow 0xFF true).mirror = true := by rw [Chan.lanesShow_mirror, hm]; decide
  exact (if_neg (by omega)).trans ((if_neg (not_not.mpr hlink)).trans (if_neg hmode))

/-- The device's time word carries the first grant. -/
theorem Chan.lanesAligned_grants (hl : ch.linkState = 1) (hm : ch.mirror = false) {n : Nat}
    (hn : n = carafeWords - ch.carafeOcc - carafeSlack) :
    ch.lanesAligned =
      { (ch.lanesShow 0xFF true).creditInit.wr R.CRF_CREDIT (BitVec.ofNat 64 n) with
        port := { ch.port with
          framing := .lost, limit := n, timeCount := ch.port.timeCount + 1, timeAt := ch.now
          out := controlBlock none [creditWord n,
            timeWordBytes ch.port.timeCount.toNat (ch.ns / 1000000000) (ch.ns % 1000000000)] :: ch.port.out } } := by
  have hmode : (ch.lanesShow 0xFF true).creditInit.mirror = false :=
    Chan.creditInit_mirror.trans ((ch.lanesShow_mirror _ _).trans hm)
  rw [Chan.lanesAligned_native hl hm]
  dsimp only
  rw [Chan.creditInit_port, Chan.creditInit_carafeOcc, ← hn, Chan.sendTime_granting hmode (.inl Chan.creditInit_linkState),
    Chan.creditInit_now, Chan.creditInit_ns]

/-- A control block changes nothing but the framing. -/
theorem Chan.controlSeen_eq (ch : Chan) :
    ch.controlSeen = { ch with port := { ch.port with framing := ch.controlSeen.port.framing } } := by
  unfold Chan.controlSeen
  split <;> rfl

/-- The first time word of CREDIT_INIT is taken as it is. -/
theorem Chan.timeWord_first (hl : ch.linkState = 2) (hm : ch.mirror = false) (hb : ch.port.timeBase = none) {sec ns : Nat}
    (hsec : sec < 2 ^ 48) (hns : ns < 2 ^ 32) :
    ch.timeWord sec ns =
      let a : Chan := ch.controlSeen.setLink 3
      { a with port := { a.port with timeBase := some (sec * 1000000000 + ns, ch.ps), jumps := [] } } := by
  have hon : ¬ (ch.linkState ≠ 3 ∧ (ch.mirror = true ∨ ch.linkState ≠ 2)) := by simp [hl, hm]
  rw [Chan.timeWord, if_neg hon]
  simp only [hm, Bool.false_eq_true, if_false]
  rw [Chan.controlSeen_eq]
  generalize ch.controlSeen.port.framing = f
  simp only [hb, if_true, Nat.mod_eq_of_lt hsec, Nat.mod_eq_of_lt hns]
  exact if_pos hl

theorem Chan.alignmentLost_serving (hl : ch.linkState = 3) (locked : Nat) :
    ch.alignmentLost locked =
      let a := (ch.lanesShow locked false).setLink 1
      { a with port := { a.port with framing := .lost } } :=
  (if_neg (by omega)).trans (if_pos ((ch.lanesShow_linkState _ _).trans hl))

end

/-- Settles O12: each command takes the port along one edge of Table 02.9. -/
theorem portStateMachine : Obligations.PortStateMachine := by
  intro s c ch h
  refine ⟨?_, ?_, ?_, ?_, ?_, ?_, ?_⟩
  · intro src hr hl hready hfail
    obtain ⟨t, ht, ha⟩ := exec_writeRow h (i := .pdpPortEnable c src) rfl hr
      ((Chan.portEnable_ready hl hready hfail).trans (Chan.portAlign_eq _))
    exact ⟨t, ht, ha, ha.linkState.trans (Chan.portAlign_eq _ ▸ Chan.portAlign_linkState)⟩
  · intro src hr hl
    obtain ⟨t, ht, ha⟩ := exec_writeRow h (i := .pdpPortDisable c src) rfl hr
      ((Chan.portDisableCmd_enabled hl).trans (Chan.portStop_eq _))
    have hlink := Chan.portStop_eq (ch.setFlag R.PDP_CTRL F.PDP_CTRL_port_enable false) ▸ Chan.portStop_linkState _
    exact ⟨t, ht, ha, ha.linkState.trans hlink, ha.carafe.trans (Chan.setCarafe_carafe [])⟩
  · intro hon hl hm
    obtain ⟨t, ht, ha⟩ := exec_live h hon (i := .pdpLanesAligned c) rfl (Chan.lanesAligned_mirror hl hm)
    exact ⟨t, ht, ha, ha.linkState.trans (Chan.setLink_linkState _ (by decide)), ha.failPin⟩
  · intro n hon hl hm hn
    obtain ⟨t, ht, ha⟩ := exec_live h hon (i := .pdpLanesAligned c) rfl (Chan.lanesAligned_grants hl hm hn)
    exact ⟨t, ht, ha, ha.linkState.trans ((Chan.wr_linkState _ _ (by decide)).trans Chan.creditInit_linkState)⟩
  · intro sec ns hon hl hm hb
    obtain ⟨t, ht, ha⟩ := exec_live h hon (i := .timeWordReceive c sec ns) rfl (Chan.timeWord_first hl hm hb sec.isLt ns.isLt)
    exact ⟨t, ht, ha, ha.linkState.trans (Chan.setLink_linkState _ (by decide)), ha.failPin⟩
  · intro locked hon hl
    obtain ⟨t, ht, ha⟩ := exec_live h hon (i := .pdpAlignmentLost c locked) rfl (Chan.alignmentLost_serving hl locked.toNat)
    exact ⟨t, ht, ha, ha.linkState.trans (Chan.setLink_linkState _ (by decide)), ha.failPin, ha.carafe⟩
  · intro src hr
    exact exec_writeRow h rfl hr rfl

end Sys2Proof.Machine
end

section
/-!
PROOFS of 02_descriptor_ports.md: what is counted and shown as a record comes in, and what the Carafe takes (R41, R49, R55, R56).
-/

namespace Sys2Proof.Machine
open Sys2Proof

variable {ch : Chan}

/-! ## What is counted and shown as a record comes in -/

/-- A record of `l` words is counted (R55, R62). -/
def Chan.recordIn (ch : Chan) (l : Nat) : Chan := (ch.inc R.PDP_CNT_DESC).inc R.CRF_RECEIVED l

theorem Chan.recordIn_rd (l : Nat) {k : Nat} (h1 : k ≠ R.PDP_CNT_DESC) (h2 : k ≠ R.CRF_RECEIVED) :
    (ch.recordIn l).rd k = ch.rd k :=
  (Chan.rd_inc_ne _ _ h2).trans (Chan.rd_inc_ne _ _ h1)

theorem Chan.recordIn_received (l : Nat) : (ch.recordIn l).rd R.CRF_RECEIVED = ch.rd R.CRF_RECEIVED + BitVec.ofNat 64 l :=
  (Chan.rd_inc_same _ _ _).trans (congrArg (· + _) (Chan.rd_inc_ne _ _ (by decide)))

theorem Chan.recordIn_expected (l : Nat) : (ch.recordIn l).expected = ch.expected :=
  congrArg (fun w => BitVec.ofNat 32 (getF w _)) (Chan.recordIn_rd l (by decide) (by decide))

theorem Chan.setExpected_rd (q : BitVec 32) {k : Nat} (h : k ≠ R.PDP_LINK_STATUS) : (ch.setExpected q).rd k = ch.rd k :=
  ch.rd_setFld_ne _ _ h

theorem Chan.setExpected_expected (q : BitVec 32) : (ch.setExpected q).expected = q := by
  have hfld : (ch.setExpected q).fld R.PDP_LINK_STATUS F.PDP_LINK_STATUS_expected_seq = q.toNat % 2 ^ 32 :=
    ch.fld_setFld_same _ _ _ (by decide)
  rw [Chan.expected, hfld, Nat.mod_eq_of_lt q.isLt, BitVec.ofNat_toNat, BitVec.setWidth_eq]

theorem Chan.setExpected_linkState (q : BitVec 32) : (ch.setExpected q).linkState = ch.linkState :=
  ch.fld_setFld_apart _ _ _ _ (by decide)

/-- A record leaves every register but its counts and the expected sequence. -/
theorem Chan.takenIn_rd (l : Nat) (q : BitVec 32) {k : Nat} (h1 : k ≠ R.PDP_CNT_DESC) (h2 : k ≠ R.CRF_RECEIVED)
    (h3 : k ≠ R.PDP_LINK_STATUS) : ((ch.recordIn l).setExpected q).rd k = ch.rd k :=
  (Chan.setExpected_rd q h3).trans (Chan.recordIn_rd l h1 h2)

theorem Chan.takenIn_mirror (l : Nat) (q : BitVec 32) : ((ch.recordIn l).setExpected q).mirror = ch.mirror :=
  congrArg (getF · _ == 1) (Chan.takenIn_rd l q (by decide) (by decide) (by decide))

theorem Chan.takenIn_ownsTid (l : Nat) (q : BitVec 32) (t : Nat) :
    ((ch.recordIn l).setExpected q).ownsTid t = ch.ownsTid t := by
  simp only [Chan.ownsTid, Chan.setExpected, Chan.recordIn, Chan.setFld_idx, Chan.inc_idx]

theorem Chan.takenIn_ns (l : Nat) (q : BitVec 32) : ((ch.recordIn l).setExpected q).ns = ch.ns := by
  simp only [Chan.ns, Chan.setExpected, Chan.recordIn, Chan.setFld_sid, Chan.setFld_now, Chan.inc_sid, Chan.inc_now]

theorem Chan.takenIn_carafeOcc (l : Nat) (q : BitVec 32) : ((ch.recordIn l).setExpected q).carafeOcc = ch.carafeOcc := by
  simp only [Chan.carafeOcc, Chan.setExpected, Chan.recordIn, Chan.inc_port]

theorem Chan.takenIn_tenantExists (l : Nat) (q : BitVec 32) (i : Nat) :
    ((ch.recordIn l).setExpected q).tenantExists i = ch.tenantExists i := by
  unfold Chan.tenantExists
  by_cases hi : i < 16
  · have hrd : ((ch.recordIn l).setExpected q).rd (R.CHN_TENANT i) = ch.rd (R.CHN_TENANT i) := by
      apply Chan.takenIn_rd <;> simp only [R.CHN_TENANT, R.PDP_CNT_DESC, R.CRF_RECEIVED, R.PDP_LINK_STATUS] <;> omega
    simp only [Chan.flag, Chan.fld, hrd]
  · simp [hi]

/-! ## The Carafe -/

/-- A descriptor as the Carafe holds it, that carries no time of its own (R46). -/
def Chan.newDesc (ch : Chan) (m : Meta) (sl : List Byte) (l : Nat) : Desc :=
  { md := m, slice := sl, words := l, arrived := ch.ns, time := ch.ns }

theorem Chan.setCarafe_rd (ds : List Desc) {k : Nat} (h : k ≠ R.CRF_STATUS) : (ch.setCarafe ds).rd k = ch.rd k :=
  Chan.carafeStatus_rd { ch with port := { ch.port with carafe := ds } } h

theorem Chan.setCarafe_mirror (ds : List Desc) : (ch.setCarafe ds).mirror = ch.mirror :=
  congrArg (getF · _ == 1) (Chan.setCarafe_rd ds (by decide))

/-- The words of one more descriptor. -/
theorem Chan.carafeOcc_append {a : Chan} {d : Desc} (h : a.port.carafe = ch.port.carafe ++ [d]) :
    a.carafeOcc = ch.carafeOcc + d.words := by
  simp [Chan.carafeOcc, h]

/-- The channel with its port replaced. -/
def Chan.withPort (ch : Chan) (p : Port) : Chan := { ch with port := p }

/-- Showing the occupancy and replacing the port by one that holds the same descriptors, in either order. -/
theorem Chan.carafeStatus_withPort {p : Port} (h : p.carafe = ch.port.carafe) :
    (ch.withPort p).carafeStatus = ch.carafeStatus.withPort p := by
  have hocc : (ch.withPort p).carafeOcc = ch.carafeOcc := by simp only [Chan.carafeOcc, Chan.withPort, h]
  have hset (a : Chan) (f : Fld) (v : Nat) : (a.withPort p).setFld R.CRF_STATUS f v = (a.setFld R.CRF_STATUS f v).withPort p := rfl
  have hfld (a : Chan) : (a.withPort p).fld = a.fld := rfl
  unfold Chan.carafeStatus
  simp only [Chan.setFlag, hocc, hset, hfld, ← apply_ite (Chan.withPort · p)]

/-- The Carafe takes a descriptor, which is the last accepted (R56, R59). -/
def Chan.putDesc (ch : Chan) (d : Desc) : Chan :=
  let a := ch.setCarafe (ch.port.carafe ++ [d])
  a.withPort { a.port with lastSeq := d.md.seq }

theorem Chan.putDesc_carafe (d : Desc) : (ch.putDesc d).port.carafe = ch.port.carafe ++ [d] := Chan.setCarafe_carafe _

theorem Chan.putDesc_mirror (d : Desc) : (ch.putDesc d).mirror = ch.mirror := Chan.setCarafe_mirror _

/-- Framing is held (R49). -/
def Chan.inStep (ch : Chan) : Chan := ch.withPort { ch.port with framing := .ok }

theorem Chan.carafeStatus_port : ch.carafeStatus.port = ch.port := by
  have h : ch.carafeStatus = ch.carafeStatus.withPort ch.port := Chan.carafeStatus_withPort (ch := ch) (p := ch.port) rfl
  rw [h]
  rfl

theorem Chan.setCarafe_port (ds : List Desc) : (ch.setCarafe ds).port = { ch.port with carafe := ds } := Chan.carafeStatus_port

theorem Chan.setCarafe_inStep (ds : List Desc) :
    ch.inStep.setCarafe ds = (ch.setCarafe ds).withPort { ch.port with carafe := ds, framing := .ok } :=
  Chan.carafeStatus_withPort (ch := { ch with port := { ch.port with carafe := ds } }) rfl

/-- Framing is held whether it is noted before a descriptor is put into the Carafe or after. -/
theorem Chan.putDesc_inStep (d : Desc) :
    ch.inStep.putDesc d =
      let a := ch.setCarafe (ch.port.carafe ++ [d])
      { a with port := { a.port with framing := .ok, lastSeq := d.md.seq } } := by
  have hheld : ch.inStep.port.carafe = ch.port.carafe := rfl
  simp only [Chan.putDesc, hheld, Chan.setCarafe_inStep, Chan.withPort, Chan.setCarafe_port]

theorem Chan.takenIn_inStep (l : Nat) (q : BitVec 32) :
    (ch.inStep.recordIn l).setExpected q = ((ch.recordIn l).setExpected q).inStep := rfl

theorem Chan.inStep_newDesc (m : Meta) (sl : List Byte) (l : Nat) : ch.inStep.newDesc m sl l = ch.newDesc m sl l := rfl

/-- The Carafe has one descriptor more. -/
theorem Agrees.putDesc_length {a b : Chan} {d : Desc} (h : Agrees (a.putDesc d) b) :
    b.port.carafe.length = a.port.carafe.length + 1 := by
  rw [h.carafe, Chan.putDesc_carafe, List.length_append, List.length_singleton]

end Sys2Proof.Machine
end

section
/-!
PROOFS of 02_descriptor_ports.md: a descriptor is checked and stored, or answered (R39, R41, R48, R49, R52, R54 to R56, R61, R62).
-/

namespace Sys2Proof.Machine
open Sys2Proof

variable {ch : Chan}

/-! ## The checks -/

theorem Chan.sequence_next {q : BitVec 32} (h : ch.port.seqValid = false ∨ ch.expected = q) :
    ch.sequence q = ch.setExpected (q + 1) := by
  have he : (if ch.port.seqValid then ch.expected else q) = q := by
    rcases h with h | h <;> simp [h]
  simp [Chan.sequence, he]

/-- PAUSE is not asserted in native framing, nor at or below the upper level. -/
theorem Chan.pauseCheck_quiet (h : ch.mirror = false ∨ ch.carafeOcc ≤ pauseHigh) (old : Nat) : ch.pauseCheck old = ch := by
  refine if_neg ?_
  rcases h with h | h
  · simp [Chan.pausing_native h]
  · simp [Nat.not_lt.mpr h]

theorem flags_and_low {f : BitVec 8} (h : f.toNat < 16) : f &&& 0x0F = f := by
  apply BitVec.eq_of_toNat_eq
  rw [BitVec.toNat_and]
  exact (Nat.and_two_pow_sub_one_eq_mod _ 4).trans (Nat.mod_eq_of_lt h)

/-- `words` more are beyond the Carafe in mirror mode, or received beyond the credits granted in native framing (R55, R62). -/
def Chan.overruns (ch : Chan) (words : Nat) : Bool :=
  if ch.mirror then decide (carafeWords < ch.carafeOcc + words)
  else decide ((ch.rd R.CRF_CREDIT).toNat < (ch.rd R.CRF_RECEIVED).toNat)

/-- A descriptor of an existing tenant enters the Carafe, and PAUSE is asserted where it has to be. -/
def Chan.storeDesc (ch : Chan) (m : Meta) (sl : List Byte) (words : Nat) : Chan :=
  (ch.putDesc { ch.newDesc m sl words with time := if m.flags.getLsbD 1 then ch.fullTime m.ts.toNat else ch.ns }).pauseCheck
    ch.carafeOcc

/-- A descriptor whose sequence number is known is stored or answered: its tenant, the credits and the room decide. -/
def Chan.placeDesc (ch : Chan) (m : Meta) (sl : List Byte) (words : Nat) : Chan :=
  let t := m.tenant.toNat
  if !ch.ownsTid t || !ch.tenantExists (t % 16) then
    ((ch.count R.PDP_CNT_UNKNOWN_TENANT EV_PDP_UNKNOWN_TENANT).malformed m.seq m.cls true).freeWords words
  else
    let a := if ch.overruns words then ch.count R.PDP_CNT_CREDIT_OVERRUN EV_PDP_CREDIT_OVERRUN (some (t % 16)) else ch
    if carafeWords < a.carafeOcc + words then (a.malformed m.seq m.cls false).freeWords words else a.storeDesc m sl words

/-- The port checks are the sequence, the reserved flags and the place, in turn. -/
theorem Chan.acceptDesc_eq (ch : Chan) (m : Meta) (sl : List Byte) (words : Nat) :
    ch.acceptDesc m sl words =
      let a := ch.sequence m.seq
      (if 16 ≤ m.flags.toNat then a.count R.PDP_CNT_RESERVED EV_PDP_RESERVED else a).placeDesc
        { m with flags := m.flags &&& 0x0F } sl words := rfl

theorem Chan.acceptDesc_plain {m : Meta} (hseq : ch.port.seqValid = false ∨ ch.expected = m.seq) (hflags : m.flags.toNat < 16)
    (sl : List Byte) (words : Nat) : ch.acceptDesc m sl words = (ch.setExpected (m.seq + 1)).placeDesc m sl words := by
  simp only [Chan.acceptDesc_eq, Chan.sequence_next hseq, Nat.not_le.mpr hflags, if_false, flags_and_low hflags]

theorem Chan.placeDesc_fits {m : Meta} {words : Nat} (hown : ch.ownsTid m.tenant.toNat = true)
    (hten : ch.tenantExists (m.tenant.toNat % 16) = true) (hcredit : ch.overruns words = false)
    (hroom : ch.carafeOcc + words ≤ carafeWords) (sl : List Byte) : ch.placeDesc m sl words = ch.storeDesc m sl words := by
  simp only [Chan.placeDesc, hown, hten, hcredit, Nat.not_lt.mpr hroom, Bool.not_true, Bool.or_self, Bool.false_eq_true, if_false]

theorem Chan.storeDesc_untimed {m : Meta} (hts : m.flags.getLsbD 1 = false) {words : Nat}
    (hquiet : ch.mirror = false ∨ ch.carafeOcc + words ≤ pauseHigh) (sl : List Byte) :
    ch.storeDesc m sl words = ch.putDesc (ch.newDesc m sl words) := by
  have hdesc : { ch.newDesc m sl words with time := if m.flags.getLsbD 1 then ch.fullTime m.ts.toNat else ch.ns } =
      ch.newDesc m sl words := by simp only [hts, Bool.false_eq_true, if_false]; rfl
  rw [Chan.storeDesc, hdesc]
  refine Chan.pauseCheck_quiet ?_ _
  rw [Chan.putDesc_mirror, Chan.carafeOcc_append (Chan.putDesc_carafe _)]
  exact hquiet

/-- The checks of R39, R61 and R62 all pass. -/
theorem Chan.acceptDesc_passes {m : Meta} {l : Nat} (hseq : ch.port.seqValid = false ∨ ch.expected = m.seq)
    (hflags : m.flags.toNat < 16) (hts : m.flags.getLsbD 1 = false) (hown : ch.ownsTid m.tenant.toNat = true)
    (hten : ch.tenantExists (m.tenant.toNat % 16) = true) (hroom : ch.carafeOcc + l ≤ carafeWords)
    (hcredit : ch.mirror = true ∨ (ch.rd R.CRF_RECEIVED + BitVec.ofNat 64 l).toNat ≤ (ch.rd R.CRF_CREDIT).toNat)
    (hquiet : ch.mirror = false ∨ ch.carafeOcc + l ≤ pauseHigh) (sl : List Byte) :
    (ch.recordIn l).acceptDesc m sl l =
      ((ch.recordIn l).setExpected (m.seq + 1)).putDesc (ch.newDesc m sl l) := by
  have hmode := Chan.takenIn_mirror (ch := ch) l (m.seq + 1)
  have hcount : ((ch.recordIn l).setExpected (m.seq + 1)).rd R.CRF_RECEIVED = ch.rd R.CRF_RECEIVED + BitVec.ofNat 64 l :=
    (Chan.setExpected_rd _ (by decide)).trans (Chan.recordIn_received l)
  have hgrant : ((ch.recordIn l).setExpected (m.seq + 1)).rd R.CRF_CREDIT = ch.rd R.CRF_CREDIT :=
    Chan.takenIn_rd l _ (by decide) (by decide) (by decide)
  have hnone : ((ch.recordIn l).setExpected (m.seq + 1)).overruns l = false := by
    rw [Chan.overruns, hmode, hcount, hgrant]
    split
    · exact decide_eq_false (Nat.not_lt.mpr hroom)
    · next hm => exact decide_eq_false (Nat.not_lt.mpr (hcredit.resolve_left hm))
  rw [Chan.acceptDesc_plain (ch := ch.recordIn l) (Chan.recordIn_expected (ch := ch) l ▸ hseq) hflags,
    Chan.placeDesc_fits ((Chan.takenIn_ownsTid l _ _).trans hown) ((Chan.takenIn_tenantExists l _ _).trans hten) hnone
      ((Chan.takenIn_carafeOcc l _).symm ▸ hroom),
    Chan.storeDesc_untimed hts (by rwa [hmode, Chan.takenIn_carafeOcc]), Chan.newDesc, Chan.takenIn_ns]
  rfl

/-! ## A record in native framing -/

/-- A record whose CRC is wrong is counted, with its words, and reported. -/
def Chan.badRecord (ch : Chan) (l : Nat) : Chan := (ch.inStep.recordIn l).count R.PDP_CNT_BAD_CRC EV_PDP_BAD_CRC

/-- A record of good length in framing comes in whole, and its CRC decides. -/
theorem Chan.descriptorReceive_framed (hon : ch.isOn = true) (hm : ch.mirror = false) (hl : ch.linkState = 3)
    (hf : ch.port.framing ≠ .lost) {bs : List Byte} {l : Nat} (hs : be bs 15 1 ≤ 172) (hw : recordWords (be bs 15 1) = l)
    (hlen : 16 * l ≤ bs.length) :
    ch.descriptorReceive bs false =
      if (crc32c (bs.take (16 * l - 4))).toNat ≠ be bs (16 * l - 4) 4 then
        ((ch.badRecord l).badPosition (metaOf (slice bs 0 16))).freeWords l
      else (ch.inStep.recordIn l).acceptDesc (metaOf (slice bs 0 16)) (slice bs 16 (be bs 15 1)) l := by
  have hgate : (ch.mirror || ch.linkState != 3 || !ch.isOn) = false := by simp [hm, hl, hon]
  have hwhole : min l ((bs.length + 15) / 16) = l := by omega
  have hgood : ¬ (172 < be bs 15 1 ∨ bs.length < 16 * l) := by omega
  unfold Chan.descriptorReceive
  simp only [hgate, Bool.false_eq_true, if_false, hf, hw, hwhole, hgood]
  rfl

/-- A CRC that is wrong (R61, R62): the record takes the expected sequence number. -/
theorem Chan.badPosition_valid (hv : ch.port.seqValid = true) (m : Meta) :
    ch.badPosition m =
      (ch.setExpected (ch.expected + 1)).malformed ch.expected (Config.noClass ch.idx ch.expected.toNat) false := by
  simp only [Chan.badPosition, hv, if_true]

/-! ## A mirror frame -/

theorem Chan.mirrorFrame_good (hon : ch.isOn = true) (hm : ch.mirror = true) (hl : ch.linkState = 3) {bs : List Byte} {m : Meta}
    (hether : be bs 12 2 = 0x88B5) (hsub : be bs 14 1 = 1) (hver : be bs 15 1 = 1) (hmeta : metaOf (slice bs 16 16) = m)
    (hmin : 96 ≤ bs.length) (hmax : bs.length ≤ 192) (hlen : m.sliceLen.toNat + 36 = bs.length)
    (hcrc : (crc32 (bs.take (bs.length - 4))).toNat = le bs (bs.length - 4) 4) :
    ch.mirrorFrame bs =
      (ch.recordIn (recordWords m.sliceLen.toNat)).acceptDesc m (slice bs 32 m.sliceLen.toNat) (recordWords m.sliceLen.toNat) := by
  have hgate : (!ch.mirror || ch.linkState != 3 || !ch.isOn) = false := by simp [hm, hl, hon]
  have hgood : ¬ (bs.length < 96 ∨ 192 < bs.length ∨ m.sliceLen.toNat + 36 ≠ bs.length) := by omega
  unfold Chan.mirrorFrame
  simp only [hgate, Bool.false_eq_true, if_false, hether, hsub, hver, hmeta, hcrc, hgood, not_true, ne_eq, false_and,
    or_false, OfNat.one_ne_ofNat]
  rfl

theorem Agrees.expected {a b : Chan} (h : Agrees a b) : b.expected = a.expected :=
  congrArg (BitVec.ofNat 32) (h.fld (not_settleKey_of (by decide)) _)

/-! ## An answer and the return of credits -/

theorem Chan.pushTx_rd (a : Chan) (x : TxRec) : (a.pushTx x).rd = a.rd := by
  rw [Chan.pushTx_eq]
  rfl

theorem Chan.freeWords_rd (a : Chan) (n : Nat) {k : Nat} (h : k ≠ R.CRF_CREDIT) : (a.freeWords n).rd k = a.rd k := by
  unfold Chan.freeWords
  dsimp only
  split
  · exact Chan.rd_wr_ne _ _ h
  · rfl

theorem Chan.freeWords_txq (a : Chan) (n : Nat) : (a.freeWords n).port.txq = a.port.txq := by
  unfold Chan.freeWords
  dsimp only
  split <;> rfl

theorem RecordsKept.freeWords (a : Chan) (n : Nat) : RecordsKept a (a.freeWords n) := by
  unfold Chan.freeWords
  dsimp only
  split <;> exact ⟨rfl, fun _ _ => rfl⟩

theorem RecordsKept.setExpected (a : Chan) (q : BitVec 32) : RecordsKept a (a.setExpected q) := ⟨rfl, fun _ _ => rfl⟩

/-- A port in use takes a record that answers no descriptor in flight. -/
theorem Chan.pushTx_txq {x : TxRec} (hl : ch.linkState = 3) (hx : x.job = none) :
    (ch.pushTx x).port.txq = ch.port.txq ++ [x] := by
  simp [Chan.pushTx, hl, hx]

/-! ## A record whose CRC is wrong -/

theorem Chan.badRecord_port (l : Nat) : (ch.badRecord l).port = { ch.port with framing := .ok } := Chan.raise_port ..

theorem Chan.badRecord_idx (l : Nat) : (ch.badRecord l).idx = ch.idx := Chan.raise_idx ..

/-- A register below 2^32 that neither an event nor a count of the record writes. -/
theorem Chan.badRecord_rd (l : Nat) {k : Nat} (hk : ¬ raiseKey k) (h1 : k ≠ R.PDP_CNT_DESC) (h2 : k ≠ R.CRF_RECEIVED)
    (h3 : k ≠ R.PDP_CNT_BAD_CRC) : (ch.badRecord l).rd k = ch.rd k :=
  (Chan.rd_raise _ _ _ _ hk).trans ((Chan.rd_inc_ne _ _ h3).trans (Chan.recordIn_rd l h1 h2))

theorem Chan.badRecord_received (l : Nat) : (ch.badRecord l).rd R.CRF_RECEIVED = ch.rd R.CRF_RECEIVED + BitVec.ofNat 64 l :=
  (Chan.rd_raise _ _ _ _ (not_raiseKey_of (by decide))).trans
    ((Chan.rd_inc_ne _ _ (by decide)).trans (Chan.recordIn_received l))

theorem Chan.badRecord_badCrc (l : Nat) : (ch.badRecord l).rd R.PDP_CNT_BAD_CRC = ch.rd R.PDP_CNT_BAD_CRC + 1 :=
  (Chan.rd_raise _ _ _ _ (not_raiseKey_of (by decide))).trans
    ((Chan.rd_inc_same _ _ 1).trans (congrArg (· + 1) (Chan.recordIn_rd l (by decide) (by decide))))

theorem Chan.badRecord_fld (l : Nat) {k : Nat} (f : Fld) (hk : ¬ raiseKey k) (h1 : k ≠ R.PDP_CNT_DESC) (h2 : k ≠ R.CRF_RECEIVED)
    (h3 : k ≠ R.PDP_CNT_BAD_CRC) : (ch.badRecord l).fld k f = ch.fld k f :=
  congrArg (getF · f) (Chan.badRecord_rd l hk h1 h2 h3)

/-- The answer to a record whose check failed, and the return of its credits, leave these registers. -/
theorem Chan.answered_rd (a : Chan) (q : BitVec 32) (cls unknown : Bool) (l : Nat) {k : Nat} (h : k ≠ R.CRF_CREDIT) :
    ((a.malformed q cls unknown).freeWords l).rd k = a.rd k :=
  (Chan.freeWords_rd _ l h).trans (congrFun (Chan.pushTx_rd _ _) k)

/-- It takes the expected sequence number, and its words are free again (R61, R62). -/
def Chan.answerBad (ch : Chan) (l : Nat) : Chan :=
  (((ch.badRecord l).setExpected (ch.expected + 1)).malformed ch.expected (Config.noClass ch.idx ch.expected.toNat)
    false).freeWords l

theorem Chan.badRecord_badPosition (hv : ch.port.seqValid = true) (l : Nat) (m : Meta) :
    ((ch.badRecord l).badPosition m).freeWords l = ch.answerBad l := by
  have hvalid : (ch.badRecord l).port.seqValid = true := by rw [Chan.badRecord_port]; exact hv
  have hexp : (ch.badRecord l).expected = ch.expected :=
    congrArg (BitVec.ofNat 32) (Chan.badRecord_fld l _ (not_raiseKey_of (by decide)) (by decide) (by decide) (by decide))
  rw [Chan.badPosition_valid hvalid, hexp, Chan.badRecord_idx]
  rfl

section

variable (l : Nat)

theorem Chan.answerBad_carafe : (ch.answerBad l).port.carafe = ch.port.carafe := by
  have hheld : (ch.answerBad l).held = ((ch.badRecord l).setExpected (ch.expected + 1)).held :=
    (Chan.freeWords_held _ _).trans (Chan.malformed_held _ _ _ _)
  exact (congrArg (·.1) hheld).trans (congrArg Port.carafe (Chan.badRecord_port l))

theorem Chan.answerBad_received : (ch.answerBad l).rd R.CRF_RECEIVED = ch.rd R.CRF_RECEIVED + BitVec.ofNat 64 l :=
  (Chan.answered_rd _ _ _ _ _ (by decide)).trans ((Chan.setExpected_rd _ (by decide)).trans (Chan.badRecord_received l))

theorem Chan.answerBad_badCrc : (ch.answerBad l).rd R.PDP_CNT_BAD_CRC = ch.rd R.PDP_CNT_BAD_CRC + 1 :=
  (Chan.answered_rd _ _ _ _ _ (by decide)).trans ((Chan.setExpected_rd _ (by decide)).trans (Chan.badRecord_badCrc l))

theorem Chan.answerBad_expected : (ch.answerBad l).expected = ch.expected + 1 :=
  (congrArg (fun w => BitVec.ofNat 32 (getF w _)) (Chan.answered_rd _ _ _ _ _ (by decide))).trans
    (Chan.setExpected_expected (ch := ch.badRecord l) _)

theorem Chan.answerBad_txq (hl : ch.linkState = 3) :
    (ch.answerBad l).port.txq =
      ch.port.txq ++ [{ kind := .malformed
                        vr := { seq := ch.expected, code := BitVec.ofNat 4 (ch.fld R.PDP_CTRL F.PDP_CTRL_malformed_verdict)
                                malformed := true, cls := Config.noClass ch.idx ch.expected.toNat
                                epoch := BitVec.ofNat 16 ch.epoch } }] := by
  have hkept {k : Nat} (hk : ¬ raiseKey k) (h1 : k ≠ R.PDP_CNT_DESC) (h2 : k ≠ R.CRF_RECEIVED) (h3 : k ≠ R.PDP_CNT_BAD_CRC)
      (h4 : k ≠ R.PDP_LINK_STATUS) : ((ch.badRecord l).setExpected (ch.expected + 1)).rd k = ch.rd k :=
    (Chan.setExpected_rd _ h4).trans (Chan.badRecord_rd l hk h1 h2 h3)
  have hlink : ((ch.badRecord l).setExpected (ch.expected + 1)).linkState = 3 :=
    (Chan.setExpected_linkState _).trans ((Chan.badRecord_fld l _ (not_raiseKey_of (by decide)) (by decide) (by decide)
      (by decide)).trans hl)
  have hctrl := hkept (k := R.PDP_CTRL) (not_raiseKey_of (by decide)) (by decide) (by decide) (by decide) (by decide)
  have hepoch := hkept (k := R.CHK_EPOCH) (not_raiseKey_of (by decide)) (by decide) (by decide) (by decide) (by decide)
  have hport : (ch.badRecord l).port.txq = ch.port.txq := by rw [Chan.badRecord_port]
  have hqueue : ((ch.badRecord l).setExpected (ch.expected + 1)).port.txq = ch.port.txq := hport
  rw [Chan.answerBad, Chan.freeWords_txq, Chan.malformed, Chan.pushTx_txq hlink rfl, hqueue]
  simp only [Chan.fld, Chan.epoch, hctrl, hepoch, Bool.false_eq_true, if_false]

theorem Chan.answerBad_reported : Reported EV_PDP_BAD_CRC (ch.answerBad l) := by
  have hkept : RecordsKept (ch.badRecord l) (ch.answerBad l) :=
    ((RecordsKept.setExpected _ _).trans (.malformed _ _ _ _)).trans (.freeWords _ _)
  exact hkept.reported (by decide) (Chan.count_reported _ _ _ (by decide))

end

/-- Settles O9: a record in order passes every check and is put into the Carafe; one whose CRC is wrong stops at that check. -/
theorem descriptorIsCheckedAndStored : Obligations.DescriptorIsCheckedAndStored := by
  intro s c ch h hon
  refine ⟨?_, ?_, ?_⟩
  · rintro bytes m l hm hl hf hs hw hlen hcrc rfl hseq hflags hts hown hten hroom hcredit
    have hrun := Chan.descriptorReceive_framed hon hm hl hf hs hw hlen
    rw [if_neg (not_not.mpr hcrc),
      Chan.acceptDesc_passes (ch := ch.inStep) hseq hflags hts hown hten hroom (.inr hcredit) (.inl hm)] at hrun
    obtain ⟨t, ht, ha⟩ := exec_live h hon (i := .descriptorReceive c bytes false) rfl hrun
    have hone := ha.putDesc_length
    rw [Chan.takenIn_inStep, Chan.putDesc_inStep, Chan.inStep_newDesc] at ha
    exact ⟨t, ht, ha, hone⟩
  · rintro bytes m l hm hl hether hsub hver hmeta hmin hmax hlen rfl hcrc hseq hflags hts hown hten hroom
    have hrun := (Chan.mirrorFrame_good hon hm hl hether hsub hver hmeta hmin hmax hlen hcrc).trans
      (Chan.acceptDesc_passes hseq hflags hts hown hten (hroom.trans (by decide)) (.inl hm) (.inr hroom) _)
    obtain ⟨t, ht, ha⟩ := exec_live h hon (i := .mirrorDescriptorFrame c bytes) rfl hrun
    exact ⟨t, ht, ha, ha.putDesc_length⟩
  · intro bytes m l hm hl hf hv hs hw hlen hcrc _
    have hrun := (Chan.descriptorReceive_framed hon hm hl hf hs hw hlen).trans
      ((if_pos hcrc).trans (Chan.badRecord_badPosition hv l _))
    have ha := hrun ▸ State.onLive_agrees h hon fun ch => ch.descriptorReceive bytes false
    have hkept := hrun ▸ RecordsKept.onLive h hon fun ch => ch.descriptorReceive bytes false
    exact ⟨s.onLive c fun ch => ch.descriptorReceive bytes false, rfl, ha.carafe.trans (Chan.answerBad_carafe l),
      (ha.rd _ (not_settleKey_of (by decide))).trans (Chan.answerBad_badCrc l),
      (ha.rd _ (not_settleKey_of (by decide))).trans (Chan.answerBad_received l),
      ha.expected.trans (Chan.answerBad_expected l), (congrArg Port.txq ha.port).trans (Chan.answerBad_txq l hl),
      hkept.reported (by decide) (Chan.answerBad_reported l)⟩

end Sys2Proof.Machine
end

section
/-!
PROOFS of 03_parsing_and_flow_tables.md: a command that reports, in an event of a tenant or of none.
-/

namespace Sys2Proof.Machine
open Sys2Proof

/-- An event of the channel's own blocks, but for those in which the telemetry of an event or a freeze is itself reported. -/
abbrev Ev.plain (e : Ev) : Prop :=
  e.block < 18 ∧ e.block ≠ EV_VPE_HOST_DROP.block ∧ e.block ≠ EV_OBS_FREEZE.block

/-- The record of an event after `supp` suppressed ones (R374). -/
def Chan.eventRec (ch : Chan) (e : Ev) (t n : Option Nat) (supp : Nat) : EvRec :=
  { id := e.id, sev := e.sev, tenant := t.map ch.tid, suppressed := supp, time := ch.ns
    count := match n with | some k => (ch.rd k).toNat | none => 0 }

/-- The ring of a tenant's function takes the event while the function answers. -/
theorem Chan.tenantRing_meteor (ch : Chan) (inst : Nat) (s : Severity) (r : EvRec) :
    (if ch.fnLive inst then ch.ringEvent inst s r else ch).ev.meteor = ch.ev.meteor := by
  split
  · exact Chan.ringEvent_meteor ..
  · rfl

/-- An event puts one record into the ring of its block and into no other, whether or not it is suppressed. -/
theorem Chan.raiseCore_meteor (ch : Chan) (e : Ev) (t n : Option Nat) :
    ∃ r : EvRec, r.id = e.id ∧ r.time = ch.ns ∧
      (ch.raiseCore e t n).2.ev.meteor =
        sset (fun _ => []) ch.ev.meteor e.block ((r :: sget (fun _ => []) ch.ev.meteor e.block).take 256) := by
  have ha := ch.ev.allow_meteor e.id ch.now
  unfold Chan.raiseCore
  rw [← ha]
  generalize ch.ev.allow e.id ch.now = p
  obtain ⟨ok, supp, ev⟩ := p
  refine ⟨ch.eventRec e t n supp, rfl, rfl, ?_⟩
  cases ok with
  | false => rfl
  | true =>
    simp only [if_true]
    cases t with
    | none => exact Chan.ringEvent_meteor ..
    | some i => exact (Chan.tenantRing_meteor ..).trans (Chan.ringEvent_meteor ..)

theorem Chan.raiseCore_ns (ch : Chan) (e : Ev) (t n : Option Nat) : (ch.raiseCore e t n).2.ns = ch.ns := by
  have h := RaiseFrame.raiseCore ch e t n
  simp only [Chan.ns, h.sid, h.now]

theorem Chan.raiseCore_reported (ch : Chan) (e : Ev) (t n : Option Nat) : Reported e (ch.raiseCore e t n).2 := by
  obtain ⟨r, hid, htime, hm⟩ := ch.raiseCore_meteor e t n
  simp [Reported, hm, sget_sset_same, hid, htime, Chan.raiseCore_ns]

/-- An event of another block leaves what was reported. -/
theorem Chan.raiseCore_keeps_reported {ch : Chan} {e x : Ev} (h : Reported e ch) (hx : e.block ≠ x.block) (t n : Option Nat) :
    Reported e (ch.raiseCore x t n).2 := by
  obtain ⟨r, -, -, hm⟩ := ch.raiseCore_meteor x t n
  simpa only [Reported, hm, sget_sset_ne _ _ _ hx, Chan.raiseCore_ns] using h

/-- A telemetry record that is dropped is reported in another block. -/
theorem Chan.putTelemetry_keeps_reported {ch : Chan} {e : Ev} (h : Reported e ch) (he : e.block ≠ EV_VPE_HOST_DROP.block) (i : Nat)
    (r : List Byte) : Reported e (ch.putTelemetry i r) := by
  unfold Chan.putTelemetry
  dsimp only
  split
  · exact h
  · have hdrop := Chan.raiseCore_keeps_reported (ch := ch.inc R.VPE_CNT_TELEM_DROP) h he (some i) (some R.VPE_CNT_TELEM_DROP)
    generalize (ch.inc R.VPE_CNT_TELEM_DROP).raiseCore EV_VPE_HOST_DROP (some i) (some R.VPE_CNT_TELEM_DROP) = p at hdrop
    obtain ⟨_ | q, a⟩ := p
    · exact hdrop
    · dsimp only
      split
      · exact Chan.raiseCore_keeps_reported (ch := a.inc R.VPE_CNT_TELEM_DROP) hdrop he _ _
      · exact hdrop

/-- Raising an event reports it, whatever tenant it is of. -/
theorem Chan.raise_plain_reported (ch : Chan) {e : Ev} (he : e.plain) (t n : Option Nat) : Reported e (ch.raise e t n) := by
  obtain ⟨hown, htelem, -⟩ := he
  have hcore := ch.raiseCore_reported e t n
  unfold Chan.raise
  rw [if_neg (Nat.not_le.mpr hown)]
  generalize ch.raiseCore e t n = p at hcore
  obtain ⟨_ | r, a⟩ := p
  · exact hcore
  · cases t with
    | none => exact hcore
    | some i =>
      dsimp only
      split
      · exact Chan.putTelemetry_keeps_reported hcore htelem _ _
      · exact hcore

section

variable {s : State} {c : Fin 8} {ch : Chan} (h : s.chan c = ch)

include h

/-- A register row that reaches its register leaves the channel as its work does, up to events, with what that work reported. -/
theorem exec_writeRow_reported {i : Instr} {src : Option (Fin 17)} {off : Nat} {v : Word} {f : Chan → Chan} {a : Chan}
    (hi : exec i s = .next (s.writeRow src c off v f)) (hr : s.reaches src c off = true) (ha : f ch = a) :
    ∃ t, exec i s = .next t ∧ Agrees a (t.chan c) ∧ RecordsKept a (t.chan c) := by
  subst h
  rw [State.writeRow_reaches s src c off v f hr] at hi
  exact ⟨_, hi, ha ▸ s.onChan_same c f, ha ▸ RecordsKept.onChan s c f⟩

/-- A register row whose work is to report an event on channel `b`. -/
theorem exec_writeRow_raises {i : Instr} {src : Option (Fin 17)} {off : Nat} {v : Word} {f : Chan → Chan} {b : Chan} {e : Ev}
    {t n : Option Nat} (hi : exec i s = .next (s.writeRow src c off v f)) (hr : s.reaches src c off = true)
    (ha : f ch = b.raise e t n) (he : e.plain) :
    ∃ t, exec i s = .next t ∧ Agrees b (t.chan c) ∧ Reported e (t.chan c) := by
  obtain ⟨u, hu, hagree, hkept⟩ := exec_writeRow_reported h hi hr ha
  exact ⟨u, hu, (Agrees.raise b e t n).trans hagree, hkept.reported he.2.2 (b.raise_plain_reported he t n)⟩

/-- A command of the fast domain whose work ends in reporting an event on channel `b`. -/
theorem exec_clocked_raises {i : Instr} {f : Chan → Chan} {b : Chan} {e : Ev} {t n : Option Nat}
    (hi : exec i s = .next (s.onClocked c f)) (hc : ch.clocked = true) (ha : f ch = b.raise e t n) (he : e.plain) :
    ∃ t, exec i s = .next t ∧ Agrees b (t.chan c) ∧ Reported e (t.chan c) :=
  ⟨_, hi, (Agrees.raise b e t n).trans (ha ▸ State.onClocked_agrees h hc f),
    (RecordsKept.onClocked h hc f).reported he.2.2 (ha ▸ b.raise_plain_reported he t n)⟩

end

end Sys2Proof.Machine
end

section
/-!
PROOFS of 03_parsing_and_flow_tables.md: indirect access to the Parser's tables (R73).
-/

namespace Sys2Proof.Machine
open Sys2Proof

/-! ## Words put into a family of registers -/

section

variable {key : Nat → Nat} (g : Nat → Word) (ch : Chan)

/-- A register of the family holds what was put into it. -/
theorem Chan.foldl_wr_rd (hkey : ∀ i j, key i = key j → i = j) {n i : Nat} (hi : i < n) :
    ((List.range n).foldl (fun (a : Chan) i => a.wr (key i) (g i)) ch).rd (key i) = g i := by
  induction n with
  | zero => omega
  | succ n ih =>
    rw [List.range_succ, List.foldl_concat]
    by_cases hn : i = n
    · subst hn
      exact Chan.rd_wr_same _ _ _
    · rw [Chan.rd_wr_ne _ _ fun he => hn (hkey _ _ he)]
      exact ih (by omega)

theorem Chan.foldl_wr_parser (l : List Nat) : (l.foldl (fun (a : Chan) i => a.wr (key i) (g i)) ch).parser = ch.parser := by
  induction l generalizing ch with
  | nil => rfl
  | cons i l ih => exact ih _

end

/-! ## The access -/

section

variable (ch : Chan) (v : Word)

/-- PRS_IND_SEL of the physical function takes the item that a start names. -/
def Chan.prsSelect (ch : Chan) (v : Word) : Chan :=
  ch.wr R.PRS_IND_SEL
    (mergeF (ch.rd R.PRS_IND_SEL) v [F.PRS_IND_SEL_stage, F.PRS_IND_SEL_target, F.PRS_IND_SEL_index, F.PRS_IND_SEL_write])

theorem Chan.prsSelect_fld {k : Nat} (f : Fld) (h : k ≠ R.PRS_IND_SEL) : (ch.prsSelect v).fld k f = ch.fld k f :=
  ch.fld_wr_ne _ f h

/-- Naming an item changes no stage, and no word of the data window. -/
theorem Chan.prsSelect_stage (st : Nat) (f : Fld) : (ch.prsSelect v).fld (R.PRS_STAGE st) f = ch.fld (R.PRS_STAGE st) f :=
  ch.prsSelect_fld v f (by simp only [R.PRS_STAGE, R.PRS_IND_SEL]; omega)

theorem Chan.prsSelect_reach (st target index : Nat) :
    (ch.prsSelect v).prsReach 0 st target index = ch.prsReach 0 st target index := by
  unfold Chan.prsReach Chan.flag
  dsimp only
  rw [Chan.prsSelect_stage, Chan.prsSelect_stage, Chan.prsSelect_stage]
  rfl

theorem Chan.prsSelect_entryOk (st : Nat) (e : List Byte) : (ch.prsSelect v).entryOk st e = ch.entryOk st e := by
  simp only [Chan.entryOk, Chan.flag, Chan.prsSelect_stage]

theorem Chan.prsSelect_data : (ch.prsSelect v).prsData 0 = ch.prsData 0 := by
  have hrd (k : Nat) : (ch.prsSelect v).rd (bank 0 (R.PRS_IND_DATA k)) = ch.rd (bank 0 (R.PRS_IND_DATA k)) :=
    ch.rd_wr_ne _ (by simp only [bank, R.PRS_IND_DATA, R.PRS_IND_SEL]; omega)
  simp only [Chan.prsData, hrd]

/-- A stage entry is stored. -/
def Chan.putEntry (ch : Chan) (st index : Nat) (e : List Byte) : Chan :=
  { ch with parser := { ch.parser with
    entries := sset (fun _ => List.replicate 96 0) ch.parser.entries (4096 * st + index) e } }

/-- A default action is stored. -/
def Chan.putDefault (ch : Chan) (st : Nat) (a : List Byte) : Chan :=
  { ch with parser := { ch.parser with defaults := sset (fun _ => List.replicate 32 0) ch.parser.defaults st a } }

/-- The data window shows an item of 96 bytes. -/
def Chan.prsShow (ch : Chan) (e : List Byte) : Chan :=
  (List.range 12).foldl (fun (ch : Chan) i => ch.wr (R.PRS_IND_DATA i) (BitVec.ofNat 64 (le e (8 * i) 8))) ch

end

section

variable {ch : Chan} {v : Word} {st target index : Nat} (hst : getF v F.PRS_IND_SEL_stage = st)
  (htarget : getF v F.PRS_IND_SEL_target = target) (hindex : getF v F.PRS_IND_SEL_index = index)
  (hreach : ch.prsReach 0 st target index = 0)

include hst htarget hindex hreach

/-- An access to an item that exists writes the table or shows the item. -/
theorem Chan.prsAccess_reached (write : Bool) :
    ch.prsAccess 0 v write =
      let a := ch.prsSelect v
      if write then
        if target = 1 then
          if actionOk (slice (ch.prsData 0) 64 32) then (a.putDefault st (slice (ch.prsData 0) 64 32)).prsResult 0 0
          else a.prsResult 0 1
        else if ch.entryOk st (ch.prsData 0) then (a.putEntry st index (ch.prsData 0)).prsResult 0 0
        else a.prsResult 0 1
      else (a.prsShow (ch.prsItem st target index)).prsResult 0 0 := by
  rw [← ch.prsSelect_reach v] at hreach
  rw [← ch.prsSelect_entryOk v, ← ch.prsSelect_data v]
  subst hst htarget hindex
  unfold Chan.prsAccess
  dsimp only
  split
  · rfl
  · next hne => exact absurd hreach hne

/-- A read shows the item. -/
theorem Chan.prsAccess_read : ch.prsAccess 0 v false = ((ch.prsSelect v).prsShow (ch.prsItem st target index)).prsResult 0 0 := by
  simp only [Chan.prsAccess_reached hst htarget hindex hreach, Bool.false_eq_true, if_false]

end

section

variable {ch : Chan} {v : Word} {st index : Nat} (hst : getF v F.PRS_IND_SEL_stage = st)

include hst

/-- A well-formed entry is stored. -/
theorem Chan.prsAccess_entry (htarget : getF v F.PRS_IND_SEL_target = 0) (hindex : getF v F.PRS_IND_SEL_index = index)
    (hreach : ch.prsReach 0 st 0 index = 0) (hok : ch.entryOk st (ch.prsData 0) = true) :
    ch.prsAccess 0 v true = ((ch.prsSelect v).putEntry st index (ch.prsData 0)).prsResult 0 0 := by
  simp only [Chan.prsAccess_reached hst htarget hindex hreach, hok, if_true, zero_ne_one, if_false]

/-- A malformed entry is refused. -/
theorem Chan.prsAccess_malformed (htarget : getF v F.PRS_IND_SEL_target = 0) (hindex : getF v F.PRS_IND_SEL_index = index)
    (hreach : ch.prsReach 0 st 0 index = 0) (hok : ch.entryOk st (ch.prsData 0) = false) :
    ch.prsAccess 0 v true = (ch.prsSelect v).prsResult 0 1 := by
  simp only [Chan.prsAccess_reached hst htarget hindex hreach, hok, if_true, zero_ne_one, Bool.false_eq_true, if_false]

/-- A well-formed default action is stored: every stage has one. -/
theorem Chan.prsAccess_default (htarget : getF v F.PRS_IND_SEL_target = 1) (hlt : st < 12)
    (hok : actionOk (slice (ch.prsData 0) 64 32) = true) :
    ch.prsAccess 0 v true = ((ch.prsSelect v).putDefault st (slice (ch.prsData 0) 64 32)).prsResult 0 0 := by
  have hreach : ch.prsReach 0 st 1 (getF v F.PRS_IND_SEL_index) = 0 := by
    simp [Chan.prsReach, Nat.not_le.mpr hlt]
  simp only [Chan.prsAccess_reached hst htarget rfl hreach, hok, if_true]

end

/-! ## The end of an access -/

section

variable (ch : Chan)

/-- PRS_IND_SEL shows a result, and that the access is over. -/
def Chan.prsDone (ch : Chan) (res : Nat) : Chan :=
  (ch.setFld R.PRS_IND_SEL F.PRS_IND_SEL_result res).setFld R.PRS_IND_SEL F.PRS_IND_SEL_start 0

theorem Chan.prsResult_done : ch.prsResult 0 0 = ch.prsDone 0 := rfl

theorem Chan.prsResult_refused {res : Nat} (h : res ≠ 0) :
    ch.prsResult 0 res = (ch.prsDone res).raise EV_PRS_CFG_REJECT none := if_neg h

theorem Chan.prsDone_result {res : Nat} (h : res < 8) : (ch.prsDone res).fld R.PRS_IND_SEL F.PRS_IND_SEL_result = res := by
  rw [Chan.prsDone, Chan.fld_setFld_apart _ _ _ _ _ (by decide), Chan.fld_setFld_same _ _ _ _ (by decide)]
  exact Nat.mod_eq_of_lt h

theorem Chan.prsDone_rd (res : Nat) {k : Nat} (h : k ≠ R.PRS_IND_SEL) : (ch.prsDone res).rd k = ch.rd k :=
  (Chan.rd_setFld_ne _ _ _ h).trans (Chan.rd_setFld_ne _ _ _ h)

theorem Chan.prsDone_parser (res : Nat) : (ch.prsDone res).parser = ch.parser := rfl

theorem Chan.prsShow_parser (e : List Byte) : (ch.prsShow e).parser = ch.parser := Chan.foldl_wr_parser _ ch _

theorem Chan.prsShow_data (e : List Byte) {i : Nat} (hi : i < 12) :
    (ch.prsShow e).rd (R.PRS_IND_DATA i) = BitVec.ofNat 64 (le e (8 * i) 8) :=
  Chan.foldl_wr_rd _ ch (fun i j h => by simp only [R.PRS_IND_DATA] at h; omega) hi

end

theorem Agrees.prsResult {a b : Chan} {res : Nat} (h : Agrees (a.prsDone res) b) (hres : res < 8) :
    b.fld R.PRS_IND_SEL F.PRS_IND_SEL_result = res :=
  (h.fld (not_settleKey_of (by decide)) _).trans (a.prsDone_result hres)

/-- Settles O13: PRS_IND_SEL names the item, the data window holds it, and one table takes it or none. -/
theorem parserTablesThroughTheWindow : Obligations.ParserTablesThroughTheWindow := by
  intro s c ch src v st index h hr hpf
  refine ⟨?_, ?_, ?_, ?_⟩
  · intro hst hindex htarget hreach hok
    obtain ⟨t, ht, ha⟩ := exec_writeRow h (i := .prsIndWrite c src v) rfl hr
      ((congrArg (ch.prsAccess · v true) hpf).trans (Chan.prsAccess_entry hst htarget hindex hreach hok))
    exact ⟨t, ht, ha.parser, ha.prsResult (by decide)⟩
  · intro hst htarget hlt hok
    obtain ⟨t, ht, ha⟩ := exec_writeRow h (i := .prsIndWrite c src v) rfl hr
      ((congrArg (ch.prsAccess · v true) hpf).trans (Chan.prsAccess_default hst htarget hlt hok))
    exact ⟨t, ht, ha.parser, ha.prsResult (by decide)⟩
  · intro hst hindex htarget hreach hok
    obtain ⟨t, ht, ha, hrep⟩ := exec_writeRow_raises h (i := .prsIndWrite c src v) rfl hr
      ((congrArg (ch.prsAccess · v true) hpf).trans ((Chan.prsAccess_malformed hst htarget hindex hreach hok).trans
        (Chan.prsResult_refused _ (by decide)))) (by decide)
    exact ⟨t, ht, ha.parser, ha.prsResult (by decide), hrep⟩
  · intro hst hindex htarget hreach
    obtain ⟨t, ht, ha⟩ := exec_writeRow h (i := .prsIndRead c src v) rfl hr
      ((congrArg (ch.prsAccess · v false) hpf).trans (Chan.prsAccess_read hst htarget hindex hreach))
    refine ⟨t, ht, ha.parser.trans ((Chan.prsDone_parser _ 0).trans (Chan.prsShow_parser _ _)), ha.prsResult (by decide), fun i hi => ?_⟩
    have hne : R.PRS_IND_DATA i ≠ R.PRS_IND_SEL := by simp only [R.PRS_IND_DATA, R.PRS_IND_SEL]; omega
    refine (ha.rd _ (not_settleKey_of ?_)).trans ((Chan.prsDone_rd _ 0 hne).trans (Chan.prsShow_data _ _ hi))
    simp only [R.PRS_IND_DATA, R.CHN_EVQ_CTRL, R.VPE_CNT_TELEM_DROP, R.OBS_FREEZE, R.OBS_FREEZE_TIME, R.OBS_CNT_FREEZES]
    omega

end Sys2Proof.Machine
end

section
/-!
PROOFS of 03_parsing_and_flow_tables.md: flow regions and the indices of the mailbox rings (R77, R79, R90, R97, R449, R450).
-/

namespace Sys2Proof.Machine
open Sys2Proof

/-- A register between the blocks that events and freezes write. -/
theorem not_settleKey_between {k : Nat} (hlow : R.CHN_EVQ_CTRL < k) (hhigh : k < R.VPE_CNT_TELEM_DROP) : ¬ settleKey k := by
  simp only [R.CHN_EVQ_CTRL, R.VPE_CNT_TELEM_DROP] at hlow hhigh
  refine not_settleKey_of ?_
  simp only [R.CHN_EVQ_CTRL, R.VPE_CNT_TELEM_DROP, R.OBS_FREEZE, R.OBS_FREEZE_TIME, R.OBS_CNT_FREEZES]
  omega

/-- No event touches a tenant's region registers. -/
theorem not_settleKey_regionA {i : Nat} (hi : i < 16) : ¬ settleKey (R.FLW_REGION_A i) :=
  not_settleKey_between (by simp only [R.CHN_EVQ_CTRL, R.FLW_REGION_A]; omega)
    (by simp only [R.VPE_CNT_TELEM_DROP, R.FLW_REGION_A]; omega)

theorem not_settleKey_regionB {i : Nat} (hi : i < 16) : ¬ settleKey (R.FLW_REGION_B i) :=
  not_settleKey_between (by simp only [R.CHN_EVQ_CTRL, R.FLW_REGION_B]; omega)
    (by simp only [R.VPE_CNT_TELEM_DROP, R.FLW_REGION_B]; omega)

theorem Agrees.hasRegion {a b : Chan} (h : Agrees a b) {i : Nat} (hi : i < 16) : b.hasRegion i = a.hasRegion i := by
  simp only [Chan.hasRegion, Chan.regionBits, h.fld (not_settleKey_regionA hi)]

section

variable {ch : Chan} {i : Nat} (hi : i < 16) {v : Word}

include hi

/-! ## FLW_REGION_A -/

/-- What is left of a write that sets the size of a tenant without a region, outside Safe Serve. -/
theorem Chan.regionAWrite_adds (hnone : ch.hasRegion i = false) (hserve : ch.safeServe = false)
    (hsize : getF v F.FLW_REGION_A_log2_buckets ≠ 0) :
    ch.regionAWrite i v =
      if ch.regionOk i (getF v F.FLW_REGION_A_base_bucket) (getF v F.FLW_REGION_A_log2_buckets) then
        (ch.setFld (R.FLW_REGION_A i) F.FLW_REGION_A_base_bucket (getF v F.FLW_REGION_A_base_bucket)).setFld (R.FLW_REGION_A i)
          F.FLW_REGION_A_log2_buckets (getF v F.FLW_REGION_A_log2_buckets)
      else ch.raise EV_FLW_REGION_REJECT (some i) := by
  simp only [Chan.regionAWrite, Nat.not_le.mpr hi, hsize, hnone, hserve, Bool.false_eq_true, or_self, if_false]

theorem Chan.hasRegion_setSize (a : Chan) (hsize : getF v F.FLW_REGION_A_log2_buckets ≠ 0) :
    (a.setFld (R.FLW_REGION_A i) F.FLW_REGION_A_log2_buckets (getF v F.FLW_REGION_A_log2_buckets)).hasRegion i = true := by
  have hlt : getF v F.FLW_REGION_A_log2_buckets % 2 ^ F.FLW_REGION_A_log2_buckets.len = getF v F.FLW_REGION_A_log2_buckets :=
    Nat.mod_eq_of_lt (getF_lt _ _)
  simp [Chan.hasRegion, Chan.regionBits, hi, Chan.fld_setFld_same _ _ F.FLW_REGION_A_log2_buckets _ (by decide), hlt, hsize]

/-! ## FLW_REGION_B -/

theorem Chan.regionBWrite_free (hnone : ch.hasRegion i = false) (hserve : ch.safeServe = false) :
    ch.regionBWrite i v =
      if ch.regionBOk i v then (ch.wr (R.FLW_REGION_B i) v).ageWritten i (ch.agePeriod i)
      else ch.raise EV_FLW_REGION_REJECT (some i) := by
  simp only [Chan.regionBWrite, Nat.not_le.mpr hi, hnone, hserve, Bool.or_self, Bool.false_eq_true, if_false]

/-- While there is a region, only the age period and the reader of notifications change. -/
theorem Chan.regionBWrite_used (hregion : ch.hasRegion i = true) :
    ch.regionBWrite i v =
      (ch.wr (R.FLW_REGION_B i) (mergeF (ch.rd (R.FLW_REGION_B i)) v [F.FLW_REGION_B_age_period, F.FLW_REGION_B_learn_to])).ageWritten
        i (ch.agePeriod i) := by
  simp only [Chan.regionBWrite, Nat.not_le.mpr hi, hregion, Bool.true_or, if_true, if_false]

end

/-- A period that starts or ends writes no register. -/
theorem Chan.ageWritten_rd (ch : Chan) (i old : Nat) : (ch.ageWritten i old).rd = ch.rd := by
  unfold Chan.ageWritten
  split <;> rfl

/-! ## The end of a region -/

section

variable {ch : Chan} {i : Nat}

/-- The region loses its size. -/
def Chan.regionGone (ch : Chan) (i : Nat) : Chan := ch.setFld (R.FLW_REGION_A i) F.FLW_REGION_A_log2_buckets 0

/-- A region without a size keeps its base, -/
theorem Chan.regionGone_base (j : Nat) : (ch.regionGone i).regionBase j = ch.regionBase j := by
  by_cases h : R.FLW_REGION_A j = R.FLW_REGION_A i
  · unfold Chan.regionBase
    rw [h]
    exact ch.fld_setFld_apart _ _ _ _ (by decide)
  · exact ch.fld_setFld_ne _ _ _ h

/-- so a flow bucket's lock waits for the same writes (R373). -/
theorem Chan.regionGone_lockBusy {l : Lock} (hl : l.table = 0) : (ch.regionGone i).lockBusy l = ch.lockBusy l := by
  simp only [Chan.lockBusy, Chan.lockAddr, hl, if_true, Chan.regionGone_base]
  rfl

/-- The locks of the region's buckets. -/
def Chan.regionLocks (ch : Chan) (i : Nat) : List Lock := ch.flow.locks.filter fun l => l.tenant == i && l.table == 0

/-- A release that its holder asked for ends with the region, unless the holder's writes run. -/
theorem Chan.regionLocks_ended :
    (((ch.regionLocks i).filter fun l => !(ch.regionGone i).lockBusy l).any fun l => l.release.isSome && !l.forced) =
      (ch.regionLocks i).any fun l => !ch.lockBusy l && l.release.isSome && !l.forced := by
  have hbusy : ∀ l ∈ ch.regionLocks i, (!(ch.regionGone i).lockBusy l) = !ch.lockBusy l := by
    intro l hl
    have htable := (List.mem_filter.mp hl).2
    simp only [Bool.and_eq_true, beq_iff_eq] at htable
    rw [Chan.regionGone_lockBusy htable.2]
  rw [List.filter_congr hbusy, List.any_filter]
  simp only [Bool.and_assoc]

/-- Locks, lines and whatever waits for the region go, but for the locks whose holder's writes run (R97). -/
def Chan.regionClear (ch : Chan) (i : Nat) : Chan :=
  { ch.regionGone i with flow := { (ch.regionGone i).flow with
    cache := ch.flow.cache.filter fun x => match x.2 with | some l => l.tenant != i | none => true
    fills := ch.flow.fills.filter fun b => !(decide (ch.regionBase i ≤ b) && decide (b < ch.regionBase i + 2 ^ ch.regionBits i))
    miss := ch.flow.miss.filter fun l => l.tenant != i
    parked := ch.flow.parked.filter fun l => l.tenant != i
    pending := ch.flow.pending.filter fun p => p.2.1 != i
    promote := ch.flow.promote.map fun p => if p.1 = i then (16, p.2) else p
    maint := ch.flow.maint.filter fun m => match m.1 with | .invalidate _ _ _ t _ => t != i
    locks := (ch.flow.locks.filter fun l => !(l.tenant == i && l.table == 0)) ++
      ((ch.regionLocks i).filter fun l => ch.lockBusy l).map fun l =>
        { l with release := some ch.now, noCheck := true, forced := l.forced || l.release.isNone } } }

/-- The lookups that wait for the region's buckets. -/
def Chan.regionWaiting (ch : Chan) (i : Nat) : List Lookup :=
  (ch.flow.parked.filter fun l => l.tenant == i) ++ ch.flow.miss.filter fun l => l.tenant == i

/-- FLW_LOCK_REL shows a release that ended with the region as over; what waited ends NO_REGION. -/
theorem Chan.regionRemove_eq (hi : i < 16) (hregion : ch.hasRegion i = true) :
    ch.regionRemove i =
      let a := (ch.regionClear i).lockStatus
      let e := if (ch.regionLocks i).any fun l => !ch.lockBusy l && l.release.isSome && !l.forced then
          a.setFlag R.FLW_LOCK_REL F.FLW_LOCK_REL_start false
        else a
      (ch.regionWaiting i).foldl (fun (x : Chan) l => x.lookupMiss l.job 5) e := by
  have hgate : ¬ (16 ≤ i ∨ ch.hasRegion i = false) := by simp [hi, hregion]
  rw [← Chan.regionLocks_ended, Chan.regionRemove, if_neg hgate]
  rfl

end

/-! ## The indices of the rings -/

section

variable {ch : Chan} {v : Word}

/-- The writer is the side that learn_to names (Table 03.14). -/
def Chan.takesNotes (ch : Chan) (w : Writer) (i : Nat) : Bool :=
  match w with
  | .firmware => ch.learnTo i == 1
  | .host inst => ch.learnTo i == 2 && (inst == 0 || inst == i + 1)

theorem Chan.takesNotes_of_side {src : Option (Fin 17)} {i : Fin 16}
    (h : (src = none ∧ ch.learnTo i = 1) ∨ ((src = some 0 ∨ src = some i.succ) ∧ ch.learnTo i = 2)) :
    ch.takesNotes (noteWriter src) i = true := by
  rcases h with ⟨rfl, hside⟩ | ⟨rfl | rfl, hside⟩ <;> simp [Chan.takesNotes, noteWriter, hside]

theorem Chan.noteConsWrite_eq {w : Writer} {i : Nat} (hi : i < 16) (hw : ch.takesNotes w i = true) :
    ch.noteConsWrite w i v =
      if 1024 < (ch.fld (R.LDS_NOTE_IDX i) F.LDS_NOTE_IDX_prod + 2048 - getF v F.LDS_NOTE_IDX_cons) % 2048 then
        ch.raise EV_CHN_CFG_REJECT (some i)
      else ch.setFld (R.LDS_NOTE_IDX i) F.LDS_NOTE_IDX_cons (getF v F.LDS_NOTE_IDX_cons) := by
  have hgate : ¬ (16 ≤ i ∨ ch.takesNotes w i = false) := by simp [hi, hw]
  exact if_neg hgate

theorem Chan.insProdWrite_eq {k : Nat} (hk : k < 17) :
    ch.insProdWrite k v =
      if 256 < (getF v F.LDS_INS_IDX_prod + 512 - ch.insCons k) % 512 ∨
          (getF v F.LDS_INS_IDX_prod + 512 - ch.insCons k) % 512 < ch.insCount k then
        ch.raise EV_CHN_CFG_REJECT (if k < 16 then some k else none)
      else ch.setFld (R.LDS_INS_IDX k) F.LDS_INS_IDX_prod (getF v F.LDS_INS_IDX_prod) :=
  if_neg (Nat.not_le.mpr hk)

end

/-- Settles O18: each write is checked, and moves what its register holds or reports that it does not. -/
theorem regionsAndRings : Obligations.RegionsAndRings := by
  intro s c ch src i v h
  refine ⟨?_, ?_, ?_, ?_, ?_, ?_, ?_, ?_, ?_, ?_⟩
  · intro hr hnone hserve hsize hok
    obtain ⟨t, ht, ha⟩ := exec_writeRow h (i := .flwRegionWrite c src i false v) rfl hr
      ((Chan.regionAWrite_adds i.isLt hnone hserve hsize).trans (if_pos hok))
    exact ⟨t, ht, ha, (ha.hasRegion i.isLt).trans (Chan.hasRegion_setSize i.isLt _ hsize)⟩
  · intro hr hnone hserve hsize hok
    exact exec_writeRow_raises h (i := .flwRegionWrite c src i false v) rfl hr
      ((Chan.regionAWrite_adds i.isLt hnone hserve hsize).trans (if_neg (Bool.eq_false_iff.mp hok))) (by decide)
  · intro hr hnone hserve hok
    obtain ⟨t, ht, ha⟩ := exec_writeRow h (i := .flwRegionWrite c src i true v) rfl hr
      ((Chan.regionBWrite_free i.isLt hnone hserve).trans (if_pos hok))
    refine ⟨t, ht, ha, (ha.rd _ (not_settleKey_regionB i.isLt)).trans ?_⟩
    rw [Chan.ageWritten_rd, Chan.rd_wr_same]
  · intro hr hregion
    exact exec_writeRow h (i := .flwRegionWrite c src i true v) rfl hr (Chan.regionBWrite_used i.isLt hregion)
  · intro hr hnone hserve hok
    exact exec_writeRow_raises h (i := .flwRegionWrite c src i true v) rfl hr
      ((Chan.regionBWrite_free i.isLt hnone hserve).trans (if_neg (Bool.eq_false_iff.mp hok))) (by decide)
  · intro hr hregion
    exact exec_writeRow h (i := .flwRegionRemove c src i) rfl hr (Chan.regionRemove_eq i.isLt hregion)
  · intro hr hside hroom
    exact exec_writeRow h (i := .ldsNoteConsWrite c src i v) rfl hr
      ((Chan.noteConsWrite_eq i.isLt (Chan.takesNotes_of_side hside)).trans (if_neg (Nat.not_lt.mpr hroom)))
  · intro hr hside hover
    exact exec_writeRow_raises h (i := .ldsNoteConsWrite c src i v) rfl hr
      ((Chan.noteConsWrite_eq i.isLt (Chan.takesNotes_of_side hside)).trans (if_pos hover)) (by decide)
  · intro k hr hroom hforward
    exact exec_writeRow h (i := .ldsInsProdWrite c src k v) rfl hr
      ((Chan.insProdWrite_eq k.isLt).trans (if_neg (by omega)))
  · intro k hr hbad
    exact exec_writeRow_raises h (i := .ldsInsProdWrite c src k v) rfl hr
      ((Chan.insProdWrite_eq k.isLt).trans (if_pos hbad)) (by decide)

end Sys2Proof.Machine
end

section
/-!
PROOFS of 03_parsing_and_flow_tables.md: what the Flow Engine's reads and writes of its tables leave alone (R76, R79, R80, R87, R89, R90).
-/

namespace Sys2Proof.Machine
open Sys2Proof

/-- Registers that an access to a flow table, a notification or a ring writes: those of events and freezes, what watchpoints and
notifications count, and the indices of the mailbox rings. -/
def flowKey (k : Nat) : Prop :=
  settleKey k ∨ k = R.OBS_CNT_WATCH_HITS ∨ k = R.FLW_CNT_RESERVED ∨ k = R.FLW_CNT_NOTE_DROP ∨ (∃ i, k = R.LDS_NOTE_IDX i) ∨
    ∃ r, k = R.LDS_INS_IDX r

/-- `b` is `a` after accesses to flow tables: the channel, its clocks, every register outside `flowKey`, the running fills, the miss
buffer and the waiting maintenance are as they were. -/
structure FlowKept (a b : Chan) : Prop where
  idx : b.idx = a.idx
  now : b.now = a.now
  core : b.core = a.core
  sid : b.sid = a.sid
  fills : b.flow.fills = a.flow.fills
  miss : b.flow.miss = a.flow.miss
  maint : b.flow.maint = a.flow.maint
  rd : ∀ k, ¬ flowKey k → b.rd k = a.rd k

namespace FlowKept

theorem refl (a : Chan) : FlowKept a a := by constructor <;> intros <;> rfl

theorem trans {a b c : Chan} (h : FlowKept a b) (g : FlowKept b c) : FlowKept a c where
  idx := g.idx.trans h.idx
  now := g.now.trans h.now
  core := g.core.trans h.core
  sid := g.sid.trans h.sid
  fills := g.fills.trans h.fills
  miss := g.miss.trans h.miss
  maint := g.maint.trans h.maint
  rd k hk := (g.rd k hk).trans (h.rd k hk)

/-! ## What is read of the channel afterwards -/

section

variable {a b : Chan} (h : FlowKept a b)

include h

theorem ns : b.ns = a.ns := by simp only [Chan.ns, h.sid, h.now]

theorem coreNow : b.coreNow = a.coreNow := by simp only [Chan.coreNow, h.core, h.now]

theorem tid (i : Nat) : b.tid i = a.tid i := by simp only [Chan.tid, h.idx]

theorem fld {k : Nat} (hk : ¬ flowKey k) (f : Fld) : b.fld k f = a.fld k f := by simp only [Chan.fld, h.rd k hk]

end

/-! ## Events, registers and memory -/

theorem of_agrees {a b : Chan} (h : Agrees a b) : FlowKept a b where
  idx := h.idx
  now := h.now
  core := h.core
  sid := h.sid
  fills := by rw [h.flow]
  miss := by rw [h.flow]
  maint := by rw [h.flow]
  rd k hk := h.rd k fun hs => hk (.inl hs)

theorem raise (a : Chan) (e : Ev) (t n : Option Nat) : FlowKept a (a.raise e t n) := of_agrees (.raise a e t n)

theorem wr (a : Chan) {k : Nat} (v : Word) (h : flowKey k) : FlowKept a (a.wr k v) := by
  constructor
  case rd => exact fun j hj => a.rd_wr_ne v fun e => hj (e ▸ h)
  all_goals rfl

theorem inc (a : Chan) {k : Nat} (n : Nat) (h : flowKey k) : FlowKept a (a.inc k n) := wr a _ h

theorem setFld (a : Chan) {k : Nat} (f : Fld) (v : Nat) (h : flowKey k) : FlowKept a (a.setFld k f v) := wr a _ h

theorem count (a : Chan) {k : Nat} (h : flowKey k) (e : Ev) (t : Option Nat) : FlowKept a (a.count k e t) :=
  (inc a 1 h).trans (raise _ e t _)

theorem vector (a : Chan) (inst vec hold : Nat) : FlowKept a (a.vector inst vec hold) := by
  unfold Chan.vector
  split
  · exact refl a
  · constructor <;> intros <;> rfl

theorem foldl {α : Type} {g : Chan → α → Chan} (h : ∀ a x, FlowKept a (g a x)) (l : List α) (a : Chan) :
    FlowKept a (l.foldl g a) := by
  induction l generalizing a with
  | nil => exact refl a
  | cons x l ih => exact (h a x).trans (ih _)

theorem foldl_snd {α β : Type} {g : β × Chan → α → β × Chan} (h : ∀ p x, FlowKept p.2 (g p x).2) (l : List α) (p : β × Chan) :
    FlowKept p.2 (l.foldl g p).2 := by
  induction l generalizing p with
  | nil => exact refl p.2
  | cons x l ih => exact (h p x).trans (ih _)

theorem ite {p : Prop} [Decidable p] {a b c : Chan} (h : FlowKept a b) (g : FlowKept a c) : FlowKept a (if p then b else c) := by
  split
  · exact h
  · exact g

theorem obs (a : Chan) (o : Obs) : FlowKept a { a with obs := o } := of_agrees (.obs a o)

/-- One watchpoint counts, joins its record, and may report or freeze. -/
theorem watchOne (tier x n : Nat) (write : Bool) (a : Chan) (w : Nat) : FlowKept a (Chan.watchOne tier x n write a w) := by
  have h1 : FlowKept a (a.inc R.OBS_CNT_WATCH_HITS) := inc a 1 (.inr (.inl rfl))
  have h2 (b : Chan) (kind : Nat) : FlowKept b (b.watchJoin w tier x kind) := obs b _
  have h3 (b : Chan) : FlowKept b (b.raise EV_OBS_WATCH) := raise b _ _ _
  have h4 (b : Chan) : FlowKept b (b.freeze .watch) := of_agrees (.freeze b _)
  unfold Chan.watchOne
  dsimp only
  exact ite (((h1.trans (ite (h2 _ _) (refl _))).trans (ite (h3 _) (refl _))).trans (ite (h4 _) (refl _))) (refl a)

theorem watch (a : Chan) (tier x n : Nat) (write : Bool) : FlowKept a (a.watch tier x n write) :=
  foldl (watchOne tier x n write) _ a

theorem setBytes (a : Chan) (tier owner x : Nat) (bs : List Byte) : FlowKept a (a.setBytes tier owner x bs) := by
  have hkey : FlowKept a (a.useKey owner) := ite (by constructor <;> intros <;> rfl) (refl a)
  unfold Chan.setBytes
  split
  · constructor <;> intros <;> rfl
  · constructor <;> intros <;> rfl
  · exact hkey.trans (by constructor <;> intros <;> rfl)
  · exact hkey.trans (by constructor <;> intros <;> rfl)

theorem store (a : Chan) (tier owner x : Nat) (bs : List Byte) : FlowKept a (a.store tier owner x bs) :=
  (setBytes a tier owner x bs).trans (watch _ tier x bs.length true)

/-! ## The flow cache and the tables -/

theorem setLine (a : Chan) (k : Nat) (l : Option FlowLine) : FlowKept a (a.setLine k l) := by constructor <;> intros <;> rfl

theorem flowTouch (a : Chan) (k : Nat) : FlowKept a (a.flowTouch k) := by constructor <;> intros <;> rfl

theorem unpend (a : Chan) (i : Nat) (key : List Byte) : FlowKept a (a.unpend i key) := by constructor <;> intros <;> rfl

theorem writeBack (a : Chan) (k : Nat) : FlowKept a (a.writeBack k) := by
  unfold Chan.writeBack
  split
  · exact ite ((store a _ _ _ _).trans (setLine _ _ _)) (refl a)
  · exact refl a

/-- A fill writes a line back, reads the bucket and puts its line. -/
theorem flowFill (a : Chan) (i b : Nat) : FlowKept a (a.flowFill i b) := by
  unfold Chan.flowFill
  split
  · exact refl a
  · dsimp only [Chan.load]
    exact (((writeBack a _).trans (watch _ 1 _ _ _)).trans (setLine _ _ _)).trans (flowTouch _ _)

theorem putRec (a : Chan) (i b w : Nat) (r : List Byte) : FlowKept a (a.putRec i b w r) := by
  unfold Chan.putRec Chan.putBucket
  split
  · exact setLine a _ _
  · exact store a _ _ _ _

theorem putCold (a : Chan) (i b w : Nat) (r : List Byte) : FlowKept a (a.putCold i b w r) := store a _ _ _ _

theorem tblPut (a : Chan) (cold : Bool) (i b w : Nat) (r : List Byte) : FlowKept a (a.tblPut cold i b w r) :=
  ite (putCold a i b w r) (putRec a i b w r)

theorem tblFill (a : Chan) (cold : Bool) (i b : Nat) : FlowKept a (a.tblFill cold i b) := ite (refl a) (flowFill a i b)

/-! ## Placing a record (R89) -/

theorem findPath (cold : Bool) (i n r b : Nat) (path : List PathStep) (a : Chan) :
    FlowKept a (Chan.findPath cold i n r b path a).2 := by
  induction n generalizing r b path a with
  | zero => exact refl a
  | succ n ih =>
    unfold Chan.findPath
    dsimp only
    generalize (if b = _ then _ else _ : Nat) = nb
    split
    · exact refl a
    · split
      · exact refl a
      · split
        · exact tblFill a cold i nb
        · exact (tblFill a cold i nb).trans (ih _ _ _ _)

theorem applyPath (cold : Bool) (i : Nat) (path : List PathStep) (b w : Nat) (a : Chan) :
    FlowKept a (Chan.applyPath cold i path b w a).2 := by
  induction path generalizing b w a with
  | nil => exact refl a
  | cons p rest ih =>
    obtain ⟨sb, sv, key⟩ := p
    simp only [Chan.applyPath]
    split
    · exact refl a
    · exact ((tblPut a cold i b w _).trans (tblPut _ cold i sb sv _)).trans (ih _ _ _)

theorem ite_snd {α : Type} {p : Prop} [Decidable p] {a : Chan} {x y : α × Chan} (h : FlowKept a x.2) (g : FlowKept a y.2) :
    FlowKept a (if p then x else y).2 := by
  split
  · exact h
  · exact g

/-- A record is put into a free way, or into one that a path of relocations frees. -/
theorem insertOnce (a : Chan) (cold : Bool) (i : Nat) (r : List Byte) : FlowKept a (a.insertOnce cold i r).2 := by
  unfold Chan.insertOnce
  dsimp only
  refine ite_snd (refl a) ?_
  have hfill := (tblFill a cold i (a.tblCand cold i (recKey r)).1).trans (tblFill _ cold i (a.tblCand cold i (recKey r)).2)
  generalize ((a.tblFill cold i _).tblFill cold i _) = b at hfill
  refine hfill.trans (ite_snd (refl b) ?_)
  split
  · exact tblPut b cold i _ _ r
  · exact tblPut b cold i _ _ r
  · have hpath := findPath cold i 8 0 (a.tblCand cold i (recKey r)).1 [] b
    split
    · next heq => rwa [heq] at hpath
    · next heq => rwa [heq] at hpath
    · next path b' w d heq =>
      rw [heq] at hpath
      have hmove := applyPath cold i path b' w d
      split
      · next heq =>
        rw [heq] at hmove
        exact (hpath.trans hmove).trans (ite_snd (refl _) (tblPut _ cold i _ _ r))
      · next heq =>
        rw [heq] at hmove
        exact hpath.trans hmove

theorem insertTry (cold : Bool) (i : Nat) (r : List Byte) (n : Nat) (a : Chan) : FlowKept a (Chan.insertTry cold i r n a).2 := by
  induction n generalizing a with
  | zero => exact refl a
  | succ n ih =>
    have honce := insertOnce a cold i r
    unfold Chan.insertTry
    split
    · next heq =>
      rw [heq] at honce
      exact honce.trans (ih _)
    · exact honce

/-! ## Notifications, results and aging -/

/-- A notification stands in its ring, or is counted as lost. -/
theorem note (a : Chan) (i : Nat) (key : List Byte) (type reason f44 f56 : Nat) : FlowKept a (a.note i key type reason f44 f56) := by
  have hindex : flowKey (R.LDS_NOTE_IDX i) := .inr (.inr (.inr (.inr (.inl ⟨i, rfl⟩))))
  unfold Chan.note
  dsimp only
  refine ite (inc a 1 (.inr (.inr (.inl rfl)))) (ite (refl a) (ite ?_ ?_))
  · exact (count a (.inr (.inr (.inr (.inl rfl)))) _ _).trans (unpend _ i key)
  · exact ((store a _ _ _ _).trans (setFld _ _ _ hindex)).trans (ite (vector _ _ _ _) (ite (vector _ _ _ _) (refl _)))

theorem expire (a : Chan) (i : Nat) (r : List Byte) (reason : Nat) : FlowKept a (a.expire i r reason) := note a i _ _ _ _ _

/-- A command's result is written, its ring passes it, and its function is told. -/
theorem insResult (a : Chan) (r code i : Nat) : FlowKept a (a.insResult r code i) := by
  have hindex : flowKey (R.LDS_INS_IDX r) := .inr (.inr (.inr (.inr (.inr ⟨r, rfl⟩))))
  unfold Chan.insResult
  dsimp only
  refine (((store a _ _ _ _).trans (setFld _ _ _ hindex)).trans (ite (raise _ _ _ _) (refl _))).trans (ite (refl _) ?_)
  exact (vector _ _ _ _).trans (ite (vector _ _ _ _) (refl _))

/-- Aging leaves a record, changes its marks, moves it to the cold table or lets it expire. -/
theorem ageRecord (a : Chan) (i : Nat) (cold : Bool) (b w : Nat) (moved : List (List Byte)) :
    FlowKept a (a.ageRecord i cold b w moved).2 := by
  have hput (x : Chan) (r : List Byte) : FlowKept x (x.tblPut cold i b w r) := tblPut x cold i b w r
  have hgone (x : Chan) (r q : List Byte) (reason : Nat) : FlowKept x ((x.tblPut cold i b w r).expire i q reason) :=
    (hput x r).trans (expire _ i q reason)
  have hbad (x : Chan) (r q : List Byte) :
      FlowKept x (((x.tblPut cold i b w r).expire i q 2).raise EV_FLW_PARITY (some i)) := (hgone x r q 2).trans (raise _ _ _ _)
  unfold Chan.ageRecord
  dsimp only
  refine ite_snd ?empty (ite_snd ?parity (ite_snd ?kept (ite_snd ?hit (ite_snd (ite_snd ?cold ?aged) ?expired))))
  case empty | kept => exact refl a
  case parity => exact hbad a _ _
  case hit | aged => exact hput a _
  case expired => exact hgone a _ _ _
  case cold =>
    have hmove := insertTry true i (recParity (recBit (recParity (recBit (a.tblRec cold i b w) 2 true)) 4 true)) 1 a
    split
    · next heq => rw [heq] at hmove; exact hmove.trans (hput _ _)
    · next heq => rw [heq] at hmove; exact hmove.trans (hput _ _)
    · next heq => rw [heq] at hmove; exact hmove.trans (hgone _ _ _ _)

end FlowKept
end Sys2Proof.Machine
end

section
/-!
PROOFS of 03_parsing_and_flow_tables.md: bucket locks (R92 to R94).
-/

namespace Sys2Proof.Machine
open Sys2Proof

/-! ## The bucket that a request names -/

section

variable {a b : Chan} {r : Nat} (hlow : R.FLW_LOCK_REQ ≤ r) (hhigh : r ≤ R.FLW_LOCK_REL) (hidx : b.idx = a.idx)
  (hrd : ∀ k, k ≠ r → b.rd k = a.rd k)

include hlow hhigh hidx hrd

/-- A write of FLW_LOCK_REQ or FLW_LOCK_REL changes no region and no entity table, so the same bucket is named. -/
theorem Chan.lockTarget_congr (tid table n : Nat) : b.lockTarget tid table n = a.lockTarget tid table n := by
  simp only [R.FLW_LOCK_REQ, R.FLW_LOCK_REL] at hlow hhigh
  have hregion : b.rd (R.FLW_REGION_A (tid % 16)) = a.rd (R.FLW_REGION_A (tid % 16)) :=
    hrd _ (by simp only [R.FLW_REGION_A]; omega)
  have hlookup (k : Nat) : b.rd (R.FTR_LOOKUP k) = a.rd (R.FTR_LOOKUP k) := hrd _ (by simp only [R.FTR_LOOKUP]; omega)
  have howns : b.ownsTid tid = a.ownsTid tid := by rw [Chan.ownsTid, Chan.ownsTid, hidx]
  have hbits : b.regionBits (tid % 16) = a.regionBits (tid % 16) := congrArg (getF · _) hregion
  have hhas : b.hasRegion (tid % 16) = a.hasRegion (tid % 16) := by rw [Chan.hasRegion, Chan.hasRegion, hbits]
  have hsize (k : Nat) : b.fld (R.FTR_LOOKUP k) F.FTR_LOOKUP_log2_buckets = a.fld (R.FTR_LOOKUP k) F.FTR_LOOKUP_log2_buckets :=
    congrArg (getF · _) (hlookup k)
  have hkind (i k : Nat) : b.lookupKind i k = a.lookupKind i k :=
    if_congr (iff_of_eq (congrArg (· = 0) (hsize _))) rfl (congrArg (getF · _) (hlookup _))
  simp only [Chan.lockTarget, howns, hhas, hbits, hkind, hsize]

end

theorem Chan.lockTarget_tenant {ch : Chan} {tid table n i t b : Nat} (h : ch.lockTarget tid table n = some (i, t, b)) : i < 16 := by
  have hi : i = tid % 16 := by
    unfold Chan.lockTarget at h
    dsimp only at h
    split_ifs at h <;> simp_all
  omega

section

variable (ch : Chan) (v w : Word) (inst : Nat)

theorem Chan.lockRequest_target (tid table n : Nat) :
    (ch.wr R.FLW_LOCK_REQ w).lockTarget tid table n = ch.lockTarget tid table n :=
  Chan.lockTarget_congr (a := ch) (b := ch.wr R.FLW_LOCK_REQ w) le_rfl (by decide) rfl (fun _ hk => ch.rd_wr_ne w hk) tid table n

theorem Chan.lockRelWrite_target (tid table n : Nat) :
    (ch.lockRelWrite inst v).lockTarget tid table n = ch.lockTarget tid table n :=
  Chan.lockTarget_congr (a := ch) (b := ch.lockRelWrite inst v) (by decide) le_rfl rfl
    (fun _ hk => (Chan.rd_setFld_ne _ _ _ hk).trans (ch.rd_wr_ne _ hk)) tid table n

theorem Chan.lockRelWrite_flow : (ch.lockRelWrite inst v).flow = ch.flow := rfl

/-! ## The result that FLW_LOCK_STATUS shows -/

theorem Chan.lockStatus_flow : ch.lockStatus.flow = ch.flow := rfl

theorem Chan.lockResult_flow (res : Nat) : (ch.lockResult inst res).flow = ch.flow := by
  rw [Chan.lockResult, Chan.lockStatus_flow]
  split <;> rfl

theorem Chan.lockStatus_last : ch.lockStatus.fld R.FLW_LOCK_STATUS F.FLW_LOCK_STATUS_last_result =
    ch.fld R.FLW_LOCK_STATUS F.FLW_LOCK_STATUS_last_result := by
  simp only [Chan.lockStatus, Chan.setFlag]
  rw [Chan.fld_setFld_apart _ _ _ _ _ (by decide), Chan.fld_setFld_apart _ _ _ _ _ (by decide),
    Chan.fld_setFld_apart _ _ _ _ _ (by decide)]

/-- The latest result shows, whichever function asked. -/
theorem Chan.lockResult_last {res : Nat} (h : res < 8) :
    (ch.lockResult inst res).fld R.FLW_LOCK_STATUS F.FLW_LOCK_STATUS_last_result = res := by
  have hshown : (ch.setFld R.FLW_LOCK_STATUS F.FLW_LOCK_STATUS_last_result res).fld R.FLW_LOCK_STATUS
      F.FLW_LOCK_STATUS_last_result = res := (ch.fld_setFld_same _ _ _ (by decide)).trans (Nat.mod_eq_of_lt h)
  unfold Chan.lockResult
  rw [Chan.lockStatus_last]
  split
  · exact hshown
  · next hinst =>
    refine (Chan.fld_setFld_ne _ _ _ _ ?_).trans hshown
    simp only [bank]
    omega

end

theorem Agrees.lockLast {a b : Chan} {inst res : Nat} (h : Agrees (a.lockResult inst res) b) (hres : res < 8) :
    b.fld R.FLW_LOCK_STATUS F.FLW_LOCK_STATUS_last_result = res :=
  (h.fld (not_settleKey_of (by decide)) _).trans (a.lockResult_last inst hres)

theorem Agrees.lockFlow {a b : Chan} {inst res : Nat} (h : Agrees (a.lockResult inst res) b) : b.flow = a.flow :=
  h.flow.trans (a.lockResult_flow inst res)

/-! ## A request -/

/-- The line of a bucket that is to be locked leaves its cache, a flow line written back before (R92). -/
def Chan.lockDrop (ch : Chan) (i table b : Nat) : Chan :=
  if table = 0 then
    match ch.flowWay i (ch.regionBase i + b) with
    | some k => (ch.writeBack k).setLine k none
    | none => ch
  else
    match ch.entWay i (table - 1) b with
    | some w => { ch with ftr := { ch.ftr with cache := sset (fun _ => none) ch.ftr.cache (entKey i (b % 64) w) none } }
    | none => ch

/-- Dropping a line takes no time. -/
theorem Chan.lockDrop_now (ch : Chan) (i table b : Nat) : (ch.lockDrop i table b).now = ch.now := by
  unfold Chan.lockDrop
  split
  · split
    · exact (FlowKept.writeBack ch _).now
    · rfl
  · split <;> rfl

/-- Of an entity table, the line goes as it is. -/
theorem Chan.lockDrop_entity (ch : Chan) (i k b : Nat) :
    ch.lockDrop i (k + 1) b =
      match ch.entWay i k b with
      | some w => { ch with ftr := { ch.ftr with cache := sset (fun _ => none) ch.ftr.cache (entKey i (b % 64) w) none } }
      | none => ch := by
  rw [Chan.lockDrop, if_neg k.succ_ne_zero, Nat.add_sub_cancel]

/-- The lock is listed. -/
def Chan.lockAdd (ch : Chan) (i table b inst at_ : Nat) : Chan :=
  { ch with flow := { ch.flow with
    locks := ch.flow.locks ++ [{ tenant := i, table := table, bucket := b, holder := inst, at_ := at_ }] } }

theorem Chan.lockAdd_locked (ch : Chan) (i table b inst at_ : Nat) : (ch.lockAdd i table b inst at_).locked i table b = true := by
  simp [Chan.lockAdd, Chan.locked]

section

variable {ch : Chan} {inst : Nat} {v w : Word} {i table b : Nat} (hw : ch.lockWord inst v = w)

include hw

/-- Outside every region and table: result 1. -/
theorem Chan.lockRequest_outside
    (htarget : ch.lockTarget (getF w F.FLW_LOCK_REQ_tenant) (getF w F.FLW_LOCK_REQ_table) (getF w F.FLW_LOCK_REQ_bucket) = none) :
    ch.lockRequest inst v = (ch.wr R.FLW_LOCK_REQ w).lockResult inst 1 := by
  simp only [Chan.lockRequest, hw, Chan.lockRequest_target, htarget]

variable (htarget : ch.lockTarget (getF w F.FLW_LOCK_REQ_tenant) (getF w F.FLW_LOCK_REQ_table) (getF w F.FLW_LOCK_REQ_bucket) =
  some (i, table, b))

include htarget

/-- Locked already: result 2. -/
theorem Chan.lockRequest_locked (hlocked : ch.locked i table b = true) :
    ch.lockRequest inst v = (ch.wr R.FLW_LOCK_REQ w).lockResult inst 2 := by
  have hnow : (ch.wr R.FLW_LOCK_REQ w).locked i table b = true := hlocked
  simp only [Chan.lockRequest, hw, Chan.lockRequest_target, htarget, hnow, if_true]

/-- Below the limits of the channel and of the function: the bucket is locked. -/
theorem Chan.lockRequest_granted (hfree : ch.locked i table b = false) (hroom : ch.flow.locks.length < 16)
    (hown : inst = 0 ∨ (ch.flow.locks.filter fun (l : Lock) => l.holder == inst).length < 4) :
    ch.lockRequest inst v =
      (((ch.wr R.FLW_LOCK_REQ w).lockDrop i table b).lockAdd i table b inst ch.now).lockResult inst 0 := by
  have hnow : (ch.wr R.FLW_LOCK_REQ w).locked i table b = false := hfree
  have hshare : ¬ (inst ≠ 0 ∧ 4 ≤ (ch.flow.locks.filter fun (l : Lock) => l.holder == inst).length) := by omega
  rw [show ch.now = _ from ((ch.wr R.FLW_LOCK_REQ w).lockDrop_now i table b).symm]
  simp only [Chan.lockRequest, hw, Chan.lockRequest_target, htarget, hnow, Chan.wr_flow, Nat.not_le.mpr hroom, hshare,
    Bool.false_eq_true, if_false]
  rfl

end

/-! ### The cached line -/

section

variable {ch : Chan} {w : Word} {i b : Nat} (hi : i < 16)

include hi

/-- A request's word changes no region, so the bucket's line is where it was. -/
theorem Chan.lockRequest_way :
    (ch.wr R.FLW_LOCK_REQ w).flowWay i ((ch.wr R.FLW_LOCK_REQ w).regionBase i + b) = ch.flowWay i (ch.regionBase i + b) := by
  have hbase : (ch.wr R.FLW_LOCK_REQ w).regionBase i = ch.regionBase i :=
    ch.fld_wr_ne w _ (by simp only [R.FLW_REGION_A, R.FLW_LOCK_REQ]; omega)
  have hset (n : Nat) : (ch.wr R.FLW_LOCK_REQ w).cacheSet i n = ch.cacheSet i n := by
    unfold Chan.cacheSet
    dsimp only
    rw [Chan.fld_wr_ne _ _ _ (by simp only [R.FLW_REGION_B, R.FLW_LOCK_REQ]; omega),
      Chan.fld_wr_ne _ _ _ (by simp only [R.FLW_REGION_B, R.FLW_LOCK_REQ]; omega)]
  unfold Chan.flowWay
  rw [hbase, hset]
  rfl

theorem Chan.lockDrop_uncached (hway : ch.flowWay i (ch.regionBase i + b) = none) :
    (ch.wr R.FLW_LOCK_REQ w).lockDrop i 0 b = ch.wr R.FLW_LOCK_REQ w := by
  simp only [Chan.lockDrop, if_true, Chan.lockRequest_way hi, hway]

theorem Chan.lockDrop_cached {k : Nat} (hway : ch.flowWay i (ch.regionBase i + b) = some k) :
    (ch.wr R.FLW_LOCK_REQ w).lockDrop i 0 b = ((ch.wr R.FLW_LOCK_REQ w).writeBack k).setLine k none := by
  simp only [Chan.lockDrop, if_true, Chan.lockRequest_way hi, hway]

end

/-! ## A release -/

section

variable {ch : Chan} {inst : Nat} {v w : Word} {i table b : Nat} {l : Lock}

/-- While a release is pending, another start starts nothing (R11). -/
theorem Chan.lockRelease_pending (h : ch.flag R.FLW_LOCK_REL F.FLW_LOCK_REL_start = true) :
    ch.lockRelease inst v = ch.lockRelWrite inst v := if_pos h

variable (hidle : ch.flag R.FLW_LOCK_REL F.FLW_LOCK_REL_start = false) (hw : (ch.lockRelWrite inst v).rd R.FLW_LOCK_REL = w)
  (htarget : ch.lockTarget (getF w F.FLW_LOCK_REL_tenant) (getF w F.FLW_LOCK_REL_table) (getF w F.FLW_LOCK_REL_bucket) =
    some (i, table, b))
  (hfind : ch.flow.locks.find? (fun l => l.tenant == i && l.table == table && l.bucket == b) = some l)

include hidle hw htarget hfind

/-- Of a locked bucket, its holder decides. -/
theorem Chan.lockRelease_locked :
    ch.lockRelease inst v =
      let a := ch.lockRelWrite inst v
      if l.holder ≠ inst then a.lockResult inst 6
      else if l.release.isSome then a
      else (a.modLock l fun k => { k with release := some ch.now }).setFlag R.FLW_LOCK_REL F.FLW_LOCK_REL_start true := by
  simp only [Chan.lockRelease, hidle, hw, Chan.lockRelWrite_target, htarget, Chan.lockRelWrite_flow, hfind, Bool.false_eq_true, if_false]
  rfl

theorem Chan.lockRelease_starts (hholder : l.holder = inst) (hrel : l.release = none) :
    ch.lockRelease inst v =
      ((ch.lockRelWrite inst v).modLock l fun k => { k with release := some ch.now }).setFlag R.FLW_LOCK_REL F.FLW_LOCK_REL_start
        true := by
  simp only [Chan.lockRelease_locked hidle hw htarget hfind, hholder, hrel, ne_eq, not_true, Option.isSome_none, Bool.false_eq_true,
    if_false]

theorem Chan.lockRelease_foreign (hholder : l.holder ≠ inst) :
    ch.lockRelease inst v = (ch.lockRelWrite inst v).lockResult inst 6 := by
  simp only [Chan.lockRelease_locked hidle hw htarget hfind, hholder, ne_eq, not_false_eq_true, if_true]

end

/-! ## The end of a lock -/

section

variable {ch : Chan} {l : Lock}

/-- The release of the only lock is due once its holder's writes are done and its checks have had their time. -/
theorem Chan.releaseComplete_only {t0 : Nat} (hlocks : ch.flow.locks = [l]) (hrel : l.release = some t0) (hbusy : ch.lockBusy l = false)
    (hsince : ch.sinceC t0 336 = true) : ch.releaseComplete = ch.endLock l := by
  simp [Chan.releaseComplete, hlocks, hrel, hbusy, hsince]

/-- The bucket of a flow table is checked before its lock goes, and its holder is told (R94). -/
theorem Chan.endLock_flow (hcheck : l.noCheck = false) (hforced : l.forced = false) (htable : l.table = 0) :
    ch.endLock l =
      let a := ch.fixBucket l.tenant (ch.regionBase l.tenant + l.bucket)
      let b : Chan := { a with flow := { a.flow with locks := a.flow.locks.filter (· ≠ l) } }
      Chan.replay 64 ((b.setFlag R.FLW_LOCK_REL F.FLW_LOCK_REL_start false).lockResult l.holder 0) := by
  simp only [Chan.endLock, hcheck, hforced, htable, Bool.false_eq_true, if_true, if_false]

theorem Chan.lockMaxHold_due
    (h : ch.flow.locks.find? (fun l => l.release.isNone &&
      ch.since l.at_ (min 1000 (max 1 (ch.fld R.FLW_LOCK_CTRL F.FLW_LOCK_CTRL_max_hold)) * usG)) = some l) :
    ch.lockMaxHold =
      (ch.modLock l fun k => { k with release := some ch.now, forced := true }).raise EV_FLW_LOCK_EXPIRED (some l.tenant) := by
  simp only [Chan.lockMaxHold, h]

end

theorem Chan.lockTimeout_due {ch : Chan} {l : Lookup} (h : ch.flow.parked.find? (fun l => ch.sinceC l.at_ 4200) = some l) :
    ch.lockTimeout =
      let a : Chan := { ch with flow := { ch.flow with parked := ch.flow.parked.filter fun k => k.job ≠ l.job } }
      Chan.replay 64 ((a.lockStatus.modJob l.job fun j => { j with stage := .flowWait }).lookupMiss l.job 3) := by
  simp only [Chan.lockTimeout, h]

/-- Settles O17: a request or a release takes the course that the bucket's lock and its holder leave it. -/
theorem bucketLocks : Obligations.BucketLocks := by
  intro s c ch h
  refine ⟨?_, ?_, ?_, ?_, ?_, ?_, ?_, ?_, ?_, ?_, ?_⟩
  · intro src v w i b hr hw htarget hfree hroom hown hway
    obtain ⟨t, ht, ha⟩ := exec_writeRow h (i := .flwLockRequest c src v) rfl hr
      (Chan.lockRequest_granted hw htarget hfree hroom hown)
    rw [Chan.lockDrop_uncached (Chan.lockTarget_tenant htarget) hway] at ha
    have hlocked : (t.chan c).locked i 0 b = true := by
      rw [Chan.locked, ha.lockFlow]
      exact Chan.lockAdd_locked _ i 0 b _ _
    exact ⟨t, ht, ha, hlocked, ha.lockLast (by decide)⟩
  · intro src v w i b k hr hw htarget hfree hroom hown hway
    have hrun := Chan.lockRequest_granted hw htarget hfree hroom hown
    rw [Chan.lockDrop_cached (Chan.lockTarget_tenant htarget) hway] at hrun
    exact exec_writeRow h rfl hr hrun
  · intro src v w i k b hr hw htarget hfree hroom hown
    have hrun := Chan.lockRequest_granted hw htarget hfree hroom hown
    rw [Chan.lockDrop_entity] at hrun
    exact exec_writeRow h rfl hr hrun
  · intro src v w hr hw htarget
    obtain ⟨t, ht, ha⟩ := exec_writeRow h (i := .flwLockRequest c src v) rfl hr (Chan.lockRequest_outside hw htarget)
    exact ⟨t, ht, ha, ha.lockFlow, ha.lockLast (by decide)⟩
  · intro src v w i table b hr hw htarget hlocked
    obtain ⟨t, ht, ha⟩ := exec_writeRow h (i := .flwLockRequest c src v) rfl hr (Chan.lockRequest_locked hw htarget hlocked)
    exact ⟨t, ht, ha, ha.lockFlow, ha.lockLast (by decide)⟩
  · intro src v w i table b l hr hidle hw htarget hfind hholder hrel
    exact exec_writeRow h rfl hr (Chan.lockRelease_starts hidle hw htarget hfind hholder hrel)
  · intro src v w i table b l hr hidle hw htarget hfind hholder
    obtain ⟨t, ht, ha⟩ := exec_writeRow h (i := .flwLockRelease c src v) rfl hr
      (Chan.lockRelease_foreign hidle hw htarget hfind hholder)
    exact ⟨t, ht, ha, ha.lockFlow⟩
  · intro src v hr hpending
    obtain ⟨t, ht, ha⟩ := exec_writeRow h (i := .flwLockRelease c src v) rfl hr (Chan.lockRelease_pending hpending)
    exact ⟨t, ht, ha, ha.flow⟩
  · intro l t0 hc hlocks hrel hbusy hsince hcheck hforced htable
    exact exec_clocked h rfl hc
      ((Chan.releaseComplete_only hlocks hrel hbusy hsince).trans (Chan.endLock_flow hcheck hforced htable))
  · intro l hc hfind
    exact exec_clocked_raises h rfl hc (Chan.lockMaxHold_due hfind) (by decide)
  · intro l hc hfind
    exact exec_clocked h rfl hc (Chan.lockTimeout_due hfind)

end Sys2Proof.Machine
end

section
/-!
PROOFS of 03_parsing_and_flow_tables.md: maintenance slots, the pending filter and aging (R84 to R86, R90, R91).
-/

namespace Sys2Proof.Machine
open Sys2Proof

/-! ## Maintenance slots -/

/-- The waiting maintenance operations are replaced. -/
def Chan.withMaint (ch : Chan) (ms : List (MaintOp × Nat)) : Chan := { ch with flow := { ch.flow with maint := ms } }

section

variable {ch : Chan} {rest : List (MaintOp × Nat)}

/-- The oldest operation is taken, and carried out if its record still fails parity where it may be written. -/
theorem Chan.runMaint_eq {cold : Bool} {b w i t0 : Nat} {key : List Byte}
    (h : ch.flow.maint = (.invalidate cold b w i key, t0) :: rest) :
    ch.runMaint =
      let a := ch.withMaint rest
      let r := a.tblRec cold i b w
      if recNames r key && !recGood r && !a.tblLocked cold i b && (!cold || a.coldOn i) then
        ((a.tblPut cold i b w (recParity (recBit r 0 false))).expire i r 2).raise EV_FLW_PARITY (some i)
      else a := by
  unfold Chan.runMaint
  rw [h]
  rfl

/-- The operations behind it wait on. -/
theorem Chan.runMaint_kept {op : MaintOp} {t0 : Nat} (h : ch.flow.maint = (op, t0) :: rest) :
    FlowKept (ch.withMaint rest) ch.runMaint := by
  obtain ⟨cold, b, w, i, key⟩ := op
  rw [Chan.runMaint_eq h]
  exact .ite (((FlowKept.tblPut _ cold i b w _).trans (.expire _ i _ 2)).trans (.raise _ _ _ _)) (.refl _)

/-- A record that still fails parity, in a bucket that may be written, is invalidated and posted with reason PARITY (R84). -/
theorem Chan.runMaint_invalidates {cold : Bool} {b w i t0 : Nat} {key r : List Byte}
    (h : ch.flow.maint = (.invalidate cold b w i key, t0) :: rest)
    (hr : recAt (if cold then ch.coldBytes i b else ch.bucketBytes i b) w = r) (hnames : recNames r key = true)
    (hbad : recGood r = false) (hfree : cold = true ∨ ch.flowLocked i b = false) (hserves : cold = false ∨ ch.coldOn i = true) :
    ch.runMaint =
      (((ch.withMaint rest).tblPut cold i b w (recParity (recBit r 0 false))).expire i r 2).raise EV_FLW_PARITY (some i) := by
  have hrec : (ch.withMaint rest).tblRec cold i b w = r := hr
  have hunlocked : (ch.withMaint rest).tblLocked cold i b = false := by
    rcases hfree with hc | hl
    · simp [Chan.tblLocked, hc]
    · exact (congrArg (!cold && ·) hl).trans (Bool.and_false _)
  have hon : (!cold || (ch.withMaint rest).coldOn i) = true := by
    rcases hserves with hc | hon
    · simp [hc]
    · exact (congrArg (!cold || ·) hon).trans (Bool.or_true _)
  simp only [Chan.runMaint_eq h, hrec, hnames, hbad, hunlocked, hon, Bool.not_false, Bool.and_self, if_true]

/-- A forced operation holds dispatch for one core cycle from now (R85). -/
theorem Chan.maintenanceForce_due {op : MaintOp} {t0 : Nat} (h : ch.flow.maint = (op, t0) :: rest)
    (hdue : ch.sinceC t0 ch.forceInterval = true) :
    ch.maintenanceForce =
      { ch.runMaint with flow := { ch.runMaint.flow with slotAt := ch.coreNow + coreCycles 1 } } := by
  rw [← show ch.runMaint.coreNow = ch.coreNow from (Chan.runMaint_kept h).coreNow]
  simp only [Chan.maintenanceForce, h, hdue, if_true]

end

/-! ## Periods -/

theorem Agrees.setAging {a b : Chan} (h : Agrees a b) (i : Nat) (x : Option Aging) : Agrees (a.setAging i x) (b.setAging i x) := by
  have hflow : (b.setAging i x).flow = (a.setAging i x).flow := by simp only [Chan.setAging, h.flow]
  exact { h with flow := hflow }

/-- A period that begins at `start`. -/
def Aging.fresh (start : Nat) : Aging := { start := start, next := 0, late := false, moved := [] }

section

variable {ch : Chan} {i : Nat} (hi : i < 16) (hserve : ch.safeServe = false) (hperiod : ch.agePeriod i ≠ 0)

include hi hserve hperiod

theorem Chan.agePeriodStart_first (hnone : ch.aging i = none) : ch.agePeriodStart i = ch.setAging i (some (.fresh ch.ns)) := by
  have hgate : ¬ (16 ≤ i ∨ ch.safeServe = true ∨ ch.agePeriod i = 0) := by simp [hi, hserve, hperiod]
  simp only [Chan.agePeriodStart, if_neg hgate, hnone]
  rfl

/-- The next period begins where the one before ended, or now where that one was late (R90). -/
theorem Chan.agePeriodStart_next {a : Aging} (hsome : ch.aging i = some a) (hend : a.start + ch.agePeriod i ≤ ch.ns)
    (hall : ch.ageBuckets i ≤ a.next) :
    ch.agePeriodStart i = ch.setAging i (some (.fresh (if a.late then ch.ns else a.start + ch.agePeriod i))) := by
  have hgate : ¬ (16 ≤ i ∨ ch.safeServe = true ∨ ch.agePeriod i = 0) := by simp [hi, hserve, hperiod]
  simp only [Chan.agePeriodStart, if_neg hgate, hsome, hend, hall, and_self, if_true]
  rfl

end

/-! ## The sweeper -/

/-- The sweeper ages the four records of a bucket; a locked bucket of T1 it skips. -/
def Chan.ageBucket (ch : Chan) (i : Nat) (cold : Bool) (b : Nat) (moved : List (List Byte)) : List (List Byte) × Chan :=
  if !cold && ch.flowLocked i b then (moved, ch)
  else (List.range 4).foldl (fun (x : List (List Byte) × Chan) w => x.2.ageRecord i cold b w x.1) (moved, ch)

theorem Chan.ageBucket_free {ch : Chan} {i b : Nat} {cold : Bool} (h : cold = true ∨ ch.flowLocked i b = false)
    (moved : List (List Byte)) :
    ch.ageBucket i cold b moved =
      (List.range 4).foldl (fun (x : List (List Byte) × Chan) w => x.2.ageRecord i cold b w x.1) (moved, ch) :=
  if_neg (by rcases h with h | h <;> simp [h])

theorem Chan.ageBucket_locked {ch : Chan} {i b : Nat} {cold : Bool} (ht1 : cold = false) (h : ch.flowLocked i b = true)
    (moved : List (List Byte)) : ch.ageBucket i cold b moved = (moved, ch) :=
  if_pos (by simp [ht1, h])

theorem Chan.ageBucket_kept (ch : Chan) (i : Nat) (cold : Bool) (b : Nat) (moved : List (List Byte)) :
    FlowKept ch (ch.ageBucket i cold b moved).2 :=
  .ite_snd (.refl ch) (.foldl_snd (fun p w => .ageRecord p.2 i cold b w p.1) _ (moved, ch))

/-- The period has ended before its last bucket was visited. -/
def Chan.sweepLate (ch : Chan) (i : Nat) (a : Aging) : Bool :=
  decide (a.next + 1 = ch.ageBuckets i ∧ a.start + ch.agePeriod i < ch.ns)

section

variable {ch : Chan} {i : Nat} {a : Aging} {n b : Nat} {cold : Bool} (hi : i < 16) (hserve : ch.safeServe = false)
  (hperiod : ch.agePeriod i ≠ 0) (hsome : ch.aging i = some a) (hmore : a.next < ch.ageBuckets i)
  (hdue : a.start + a.next * ch.agePeriod i / ch.ageBuckets i ≤ ch.ns)
  (hn : (if ch.hasRegion i then 2 ^ ch.regionBits i else 0) = n) (hcold : decide (n ≤ a.next) = cold)
  (hb : (if cold then a.next - n else ch.regionBase i + a.next) = b)

include hi hserve hperiod hsome hmore hdue hn hcold hb

/-- A visit that is due ages its bucket and passes on; one that makes the period late reports it. -/
theorem Chan.sweepVisit_due :
    ch.sweepVisit i =
      let x := ch.ageBucket i cold b a.moved
      (if ch.sweepLate i a && !a.late then x.2.raise EV_FLW_SWEEP_LATE (some i) else x.2).setAging i
        (some { a with next := a.next + 1, late := a.late || ch.sweepLate i a, moved := x.1 }) := by
  have hgate : ¬ (ch.ageBuckets i ≤ a.next ∨ ch.agePeriod i = 0 ∨
      ch.ns < a.start + a.next * ch.agePeriod i / ch.ageBuckets i) := by omega
  have hlate : ch.sweepLate i a =
      decide (a.next + 1 = ch.ageBuckets i ∧ a.start + ch.agePeriod i < (ch.ageBucket i cold b a.moved).2.ns) := by
    rw [(ch.ageBucket_kept i cold b a.moved).ns, Chan.sweepLate]
  dsimp only
  rw [hlate]
  subst hb hcold hn
  simp only [Chan.sweepVisit, hi, hserve, and_self, if_true, hsome, if_neg hgate]
  rfl

/-- The channel after a visit, up to the event. -/
theorem Chan.sweepVisit_agrees :
    let x := ch.ageBucket i cold b a.moved
    Agrees (x.2.setAging i (some { a with next := a.next + 1, late := a.late || ch.sweepLate i a, moved := x.1 })) (ch.sweepVisit i) := by
  rw [Chan.sweepVisit_due hi hserve hperiod hsome hmore hdue hn hcold hb]
  refine Agrees.setAging ?_ i _
  split
  · exact .raise _ _ _ _
  · exact .refl _

end

/-- Settles O15: each command takes what is due, and a visit to a bucket moves neither the clock nor what waits. -/
theorem flowMaintenanceAndAging : Obligations.FlowMaintenanceAndAging := by
  intro s c ch h hc
  refine ⟨?_, ?_, ?_, ?_, ?_, ?_, ?_, ?_⟩
  · intro op t0 rest hop hdue
    obtain ⟨t, ht, ha⟩ := exec_clocked h (i := .maintenanceForce c) rfl hc (Chan.maintenanceForce_due hop hdue)
    exact ⟨t, ht, ha, (congrArg Flow.maint ha.flow).trans (Chan.runMaint_kept hop).maint, congrArg Flow.slotAt ha.flow⟩
  · intro cold b w i t0 key r rest hop hr hnames hbad hfree hserves
    obtain ⟨t, ht, ha, hrep⟩ := exec_clocked_raises h (i := .flowParityInvalidate c) rfl hc
      (Chan.runMaint_invalidates hop hr hnames hbad hfree hserves) (by decide)
    have hkept := (FlowKept.tblPut (ch.withMaint rest) cold i b w (recParity (recBit r 0 false))).trans (.expire _ i r 2)
    exact ⟨t, ht, ha, (congrArg Flow.maint ha.flow).trans hkept.maint, hrep⟩
  · exact exec_clocked h rfl hc rfl
  · intro i hserve hperiod hnone
    exact exec_clocked h rfl hc (Chan.agePeriodStart_first i.isLt hserve hperiod hnone)
  · intro i a hserve hperiod hsome hend hall hlate
    obtain ⟨t, ht, ha⟩ := exec_clocked h (i := .agePeriodStart c i) rfl hc
      (Chan.agePeriodStart_next i.isLt hserve hperiod hsome hend hall)
    rw [hlate] at ha
    exact ⟨t, ht, ha⟩
  · intro i a hserve hperiod hsome hend hall hlate
    obtain ⟨t, ht, ha⟩ := exec_clocked h (i := .agePeriodStart c i) rfl hc
      (Chan.agePeriodStart_next i.isLt hserve hperiod hsome hend hall)
    rw [hlate] at ha
    exact ⟨t, ht, ha⟩
  · intro i a n b cold hserve hperiod hsome hmore hdue hn hcold hb hfree
    obtain ⟨t, ht, ha⟩ := exec_clocked h (i := .sweepVisit c i) rfl hc rfl
    have hsame := Chan.sweepVisit_agrees i.isLt hserve hperiod hsome hmore hdue hn hcold hb
    rw [Chan.ageBucket_free hfree] at hsame
    exact ⟨t, ht, hsame.trans ha⟩
  · intro i a n b cold hserve hperiod hsome hmore hdue hn hcold hb ht1 hlocked
    obtain ⟨t, ht, ha⟩ := exec_clocked h (i := .sweepVisit c i) rfl hc rfl
    have hsame := Chan.sweepVisit_agrees i.isLt hserve hperiod hsome hmore hdue hn hcold hb
    rw [Chan.ageBucket_locked ht1 hlocked] at hsame
    exact ⟨t, ht, hsame.trans ha⟩

end Sys2Proof.Machine
end

section
/-!
PROOFS of 03_parsing_and_flow_tables.md: fills, cold fetches, promotions and the insert unit (R79, R82, R83, R88, R89).
-/

namespace Sys2Proof.Machine
open Sys2Proof

/-! ## Regions after accesses to flow tables -/

theorem not_flowKey_region {k : Nat} (hlow : R.FLW_REGION_A 0 ≤ k) (hhigh : k < R.FLW_LOCK_REQ) : ¬ flowKey k := by
  simp only [R.FLW_REGION_A, R.FLW_LOCK_REQ] at hlow hhigh
  have hsettle : ¬ settleKey k :=
    not_settleKey_between (by simp only [R.CHN_EVQ_CTRL]; omega) (by simp only [R.VPE_CNT_TELEM_DROP]; omega)
  simp only [flowKey, hsettle, R.OBS_CNT_WATCH_HITS, R.FLW_CNT_RESERVED, R.FLW_CNT_NOTE_DROP, R.LDS_NOTE_IDX, R.LDS_INS_IDX, false_or]
  rintro (h | h | h | ⟨_, h⟩ | ⟨_, h⟩) <;> omega

section

variable {a b : Chan} {i : Nat} (hi : i < 16)

include hi

theorem FlowKept.hasRegion (h : FlowKept a b) : b.hasRegion i = a.hasRegion i := by
  have hkey : ¬ flowKey (R.FLW_REGION_A i) :=
    not_flowKey_region (by simp only [R.FLW_REGION_A]; omega) (by simp only [R.FLW_REGION_A, R.FLW_LOCK_REQ]; omega)
  simp only [Chan.hasRegion, Chan.regionBits, h.fld hkey]

/-- A bucket's cache set stays. -/
theorem FlowKept.cacheSet (h : FlowKept a b) (n : Nat) : b.cacheSet i n = a.cacheSet i n := by
  have hkey : ¬ flowKey (R.FLW_REGION_B i) :=
    not_flowKey_region (by simp only [R.FLW_REGION_A, R.FLW_REGION_B]; omega) (by simp only [R.FLW_REGION_B, R.FLW_LOCK_REQ]; omega)
  simp only [Chan.cacheSet, h.fld hkey]

theorem Agrees.flowWay (h : Agrees a b) (n : Nat) : b.flowWay i n = a.flowWay i n := by
  simp only [Chan.flowWay, (FlowKept.of_agrees h).cacheSet hi, Chan.lineAt, h.flow]

end

/-! ## Fills -/

/-- A line that stands in a way of its bucket's set is found. -/
theorem Chan.flowWay_of_line {a : Chan} {i w n : Nat} {l : FlowLine} (hw : w < 4)
    (hline : a.lineAt (4 * a.cacheSet i n + w) = some l) (hbucket : l.bucket = n) (htenant : l.tenant = i) :
    (a.flowWay i n).isSome = true := by
  rw [Chan.flowWay, List.find?_isSome]
  exact ⟨_, List.mem_map_of_mem (List.mem_range.mpr hw), by simp [hline, hbucket, htenant]⟩

theorem plruVictim_lt (b : Nat) : plruVictim b < 4 := by
  unfold plruVictim
  split <;> split <;> decide

/-- The way that a fill of bucket `n` takes: the lowest free one of its set, else the one that the replacement bits point to. -/
def Chan.fillWay (ch : Chan) (i n : Nat) : Nat :=
  match (List.range 4).find? fun w => (ch.lineAt (4 * ch.cacheSet i n + w)).isNone with
  | some w => w
  | none => plruVictim (sget (fun _ => 0) ch.flow.plru (ch.cacheSet i n))

theorem Chan.fillWay_lt (ch : Chan) (i n : Nat) : ch.fillWay i n < 4 := by
  unfold Chan.fillWay
  split
  · next hfind => exact List.mem_range.mp (List.mem_of_find?_eq_some hfind)
  · exact plruVictim_lt _

theorem Chan.flowFill_uncached {ch : Chan} {i n : Nat} (h : ch.flowWay i n = none) :
    ∃ d l, ch.flowFill i n = (Chan.setLine d (4 * ch.cacheSet i n + ch.fillWay i n) (some l)).flowTouch
      (4 * ch.cacheSet i n + ch.fillWay i n) ∧ l.bucket = n ∧ l.tenant = i := by
  simp only [Chan.flowFill, h]
  exact ⟨_, _, rfl, rfl, rfl⟩

theorem Chan.lineAt_flowTouch (ch : Chan) (k j : Nat) : (ch.flowTouch k).lineAt j = ch.lineAt j := rfl

theorem Chan.lineAt_setLine_same (ch : Chan) (k : Nat) (l : Option FlowLine) : (ch.setLine k l).lineAt k = l :=
  sget_sset_same _ _ _ _

/-- A bucket that is filled has its line in the cache. -/
theorem Chan.flowFill_cached (a : Chan) {i : Nat} (hi : i < 16) (n : Nat) : ((a.flowFill i n).flowWay i n).isSome = true := by
  cases hway : a.flowWay i n with
  | some k => simp [Chan.flowFill, hway]
  | none =>
    obtain ⟨d, l, hfill, hbucket, htenant⟩ := Chan.flowFill_uncached hway
    have hset := (FlowKept.flowFill a i n).cacheSet hi n
    rw [hfill] at hset ⊢
    refine Chan.flowWay_of_line (a.fillWay_lt i n) ?_ hbucket htenant
    rw [hset, Chan.lineAt_flowTouch, Chan.lineAt_setLine_same]

/-! ## Lookups that wait -/

theorem Chan.serveMiss_idle {ch : Chan} (h : ch.flow.miss = []) (n : Nat) : Chan.serveMiss n ch = ch := by
  cases n with
  | zero => rfl
  | succ n => simp [Chan.serveMiss, h]

theorem Chan.serveLookups_idle {ch : Chan} (h : ch.flow.miss = []) : ch.serveLookups = ch := by
  simp [Chan.serveLookups, Chan.serveMiss_idle h, h]

section

variable {ch : Chan} {n i : Nat}

theorem Chan.bucketTenant_lt (h : ch.bucketTenant n = some i) : i < 16 := List.mem_range.mp (List.mem_of_find?_eq_some h)

/-- A fill that is running, its read good and its bucket unlocked, is put into the cache. -/
theorem Chan.flowFillComplete_good (htenant : ch.bucketTenant n = some i) (hrun : ch.flow.fills.contains n = true)
    (hfree : ch.flowLocked i n = false) :
    ch.flowFillComplete n true =
      (Chan.flowFill { ch with flow := { ch.flow with fills := ch.flow.fills.filter (· ≠ n) } } i n).serveLookups := by
  simp only [Chan.flowFillComplete, htenant, hrun, hfree, Bool.not_true, Bool.or_self, Bool.false_eq_true, if_false, if_true]

end

/-! ## Cold fetches -/

section

variable {ch : Chan} {l : Lookup} (hfind : ch.flow.miss.find? (fun l => l.cold && !ch.promoting l) = some l)
  (hon : ch.coldOn l.tenant = true)

include hfind hon

/-- A record found goes into the ring of the promotions. -/
theorem Chan.coldFetchComplete_found {b w : Nat} {r : List Byte} (hcold : ch.findCold l.tenant l.key = some (b, w, r))
    (hserve : ch.safeServe = false) (hroom : ch.insCount 17 < 256) :
    ch.coldFetchComplete true =
      (let a : Chan := (ch.store 0 chanKey (ch.insAddr 17 (ch.insProd 17)) r).setFld (R.LDS_INS_IDX 17) F.LDS_INS_IDX_prod (ch.insProd 17 + 1)
       { a with flow := { a.flow with promote := a.flow.promote ++ [(l.tenant, r)] } }) := by
  simp only [Chan.coldFetchComplete, hfind, hon, hcold, hserve, Bool.true_or, Bool.false_eq_true, if_true, if_false,
    if_neg (Nat.not_le.mpr hroom)]

/-- Without a record the lookup ends, and each record that failed parity waits to be invalidated. -/
theorem Chan.coldFetchComplete_absent (hcold : ch.findCold l.tenant l.key = none) :
    ch.coldFetchComplete true =
      (let a : Chan := (ch.coldRecs l.tenant l.key).foldl (fun (x : Chan) y =>
          if recValid y.2.2 && !recGood y.2.2 then x.parityMaint true l.tenant y.1 y.2.1 (recKey y.2.2) else x) ch
       let bad := (a.findRec l.tenant l.key false).isSome || (ch.coldRecs l.tenant l.key).any fun y => recNames y.2.2 l.key
       ((a.leaveMiss l.job).lookupMiss l.job (if bad then 2 else 1)).serveLookups) := by
  simp only [Chan.coldFetchComplete, hfind, hon, hcold, Bool.true_or, if_true]

/-- Where no record fails parity, the lookup ends ABSENT. -/
theorem Chan.coldFetchComplete_clean (hcold : ch.findCold l.tenant l.key = none)
    (hgood : ((ch.coldRecs l.tenant l.key).all fun x => !recValid x.2.2 || recGood x.2.2) = true)
    (hrec : ch.findRec l.tenant l.key false = none) :
    ch.coldFetchComplete true = ((ch.leaveMiss l.job).lookupMiss l.job 1).serveLookups := by
  have hvalid : ∀ x ∈ ch.coldRecs l.tenant l.key, recValid x.2.2 = true → recGood x.2.2 = true := by
    intro x hx hv
    simpa [hv] using List.all_eq_true.mp hgood x hx
  have hfold : (ch.coldRecs l.tenant l.key).foldl (fun (x : Chan) y =>
      if recValid y.2.2 && !recGood y.2.2 then x.parityMaint true l.tenant y.1 y.2.1 (recKey y.2.2) else x) ch = ch := by
    rw [List.foldl_ext _ (fun x _ => x) ch fun x y hy => if_neg fun hbad => ?_]
    · exact List.foldl_fixed _
    · obtain ⟨hv, hg⟩ := Bool.and_eq_true_iff.mp hbad
      simp [hvalid y hy hv] at hg
  have hnone : ((ch.coldRecs l.tenant l.key).any fun y => recNames y.2.2 l.key) = false := by
    refine List.any_eq_false.mpr fun x hx hnames => ?_
    have hv : recValid x.2.2 = true := (Bool.and_eq_true_iff.mp hnames).1
    exact absurd (Bool.and_eq_true_iff.mpr ⟨hnames, hvalid x hx hv⟩) (by simpa using List.find?_eq_none.mp hcold x hx)
  rw [Chan.coldFetchComplete_absent hfind hon hcold]
  dsimp only
  rw [hfold, hrec, hnone]
  rfl

end

/-! ## What the insert unit takes -/

theorem FlowKept.promote (a : Chan) (p : List (Nat × List Byte)) : FlowKept a { a with flow := { a.flow with promote := p } } := by
  constructor <;> intros <;> rfl

theorem FlowKept.lastRing (a : Chan) (r : Nat) : FlowKept a { a with flow := { a.flow with lastRing := r } } := by
  constructor <;> intros <;> rfl

theorem FlowKept.load (a : Chan) (tier owner x n : Nat) : FlowKept a (a.load tier owner x n).2 := by
  dsimp only [Chan.load]
  exact watch a tier x n false

/-! ## Promotions -/

section

variable {ch d : Chan} {i b w : Nat} {r q : List Byte} {rest : List (Nat × List Byte)} {x : Ins × Chan}
  (hfirst : ch.flow.promote = (i, r) :: rest) (hi : i < 16) (hserve : ch.safeServe = false)
  (htry : Chan.insertTry false i (recParity (recBit r 4 false)) 3 { ch with flow := { ch.flow with promote := rest } } = x)
  (hplaced : x.1 = .inserted) (hcold : (x.2.unpend i (recKey r)).findCold i (recKey r) = some (b, w, q))
  (hd : ((x.2.unpend i (recKey r)).putCold i b w (recParity (recBit q 0 false))).insResult 17 0 i = d)

include hfirst hi hserve htry hplaced hcold hd

/-- A record placed that no lookup waits for. -/
theorem Chan.promotion_unawaited (hnone : d.flow.miss.find? (fun l => l.cold && l.tenant == i && l.key == recKey r) = none) :
    ch.promotion = d.serveLookups := by
  obtain ⟨result, x⟩ := x
  subst hplaced hd
  simp only [Chan.promotion, hfirst, hserve, if_neg (Nat.not_le.mpr hi), htry, hcold, Ins.code, beq_self_eq_true, Bool.true_or,
    Bool.false_eq_true, if_true, if_false, hnone]

/-- A record placed ends the lookup that waits for it. -/
theorem Chan.promotion_awaited {l : Lookup} {z : Nat × Nat × List Byte}
    (hwait : d.flow.miss.find? (fun l => l.cold && l.tenant == i && l.key == recKey r) = some l)
    (hrec : (d.leaveMiss l.job).findRec i (recKey r) true = some z) :
    ch.promotion = ((d.leaveMiss l.job).lookupHit l.job (some (z.1, z.2.1)) z.2.2).serveLookups := by
  obtain ⟨result, x⟩ := x
  subst hplaced hd
  simp only [Chan.promotion, hfirst, hserve, if_neg (Nat.not_le.mpr hi), htry, hcold, Ins.code, beq_self_eq_true, Bool.true_or,
    Bool.false_eq_true, if_true, if_false, hwait, hrec]

end

/-! ## The insert unit -/

/-- The insert unit carries out the command `x` that it took from ring `r`. -/
def Chan.insertTaken (ch : Chan) (r : Nat) (x : List Byte) : Chan :=
  let t := le x 37 1
  let i := if r < 16 then r else t % 16
  let own : Bool := if r < 16 then t == ch.tid r else t < 128 && ch.ownsTid t && ch.tenantExists (t % 16)
  let kt := le x 38 1
  if !own || !recValid x || recHandle x == 0 || kt == 0 || decide (5 < kt) then ch.insResult r 4 i
  else if !ch.hasRegion i then ch.insResult r 5 i
  else
    let y := recParity (putBytes (putBytes x 120 (List.replicate 7 0)) 48 (leBytes 8 ch.ns))
    let (a, ch) := Chan.insertTry false i y 3 ch
    let ch := if a = .inserted ∨ a = .exists_ then ch.unpend i (recKey x) else ch
    (ch.insResult r a.code i).serveLookups

/-- The ring whose turn it is has its oldest command taken. -/
theorem Chan.insertCommand_takes {ch : Chan} {r : Nat} (hserve : ch.safeServe = false) (hempty : ch.flow.promote = [])
    (hturn : ((List.range 17).map fun k => (ch.flow.lastRing + 1 + k) % 17).find? (fun k => ch.insCount k != 0) = some r) :
    ch.insertCommand =
      (let d : Chan := { ch with flow := { ch.flow with lastRing := r } }
       let x := d.load 0 chanKey (d.insAddr r (d.insCons r)) 128
       x.2.insertTaken r x.1) := by
  have hgate : ¬ (ch.safeServe || !ch.flow.promote.isEmpty) = true := by simp [hserve, hempty]
  rw [Chan.insertCommand, if_neg hgate, hturn]
  dsimp only [Chan.insertTaken]

/-- The command is what stands in the scratchpad. -/
theorem Chan.insertCommand_takes_spad {ch : Chan} {r : Nat} {x : List Byte} (hserve : ch.safeServe = false)
    (hempty : ch.flow.promote = [])
    (hturn : ((List.range 17).map fun k => (ch.flow.lastRing + 1 + k) % 17).find? (fun k => ch.insCount k != 0) = some r)
    (hx : ch.spad (ch.insAddr r (ch.insCons r)) 128 = x) :
    ch.insertCommand =
      (({ ch with flow := { ch.flow with lastRing := r } } : Chan).load 0 chanKey (ch.insAddr r (ch.insCons r)) 128).2.insertTaken r x := by
  subst hx
  exact Chan.insertCommand_takes hserve hempty hturn

/-- A tenant's command whose fields are valid inserts its record. -/
theorem Chan.insertTaken_inserted {ch : Chan} {r : Nat} (hr : r < 16) {x : List Byte} {a : Ins × Chan} (htid : le x 37 1 = ch.tid r)
    (hvalid : recValid x = true) (hhandle : recHandle x ≠ 0) (hlow : 1 ≤ le x 38 1) (hhigh : le x 38 1 ≤ 5)
    (hregion : ch.hasRegion r = true)
    (htry : Chan.insertTry false r (recParity (putBytes (putBytes x 120 (List.replicate 7 0)) 48 (leBytes 8 ch.ns))) 3 ch = a)
    (hplaced : a.1 = .inserted) :
    ch.insertTaken r x = ((a.2.unpend r (recKey x)).insResult r 0 r).serveLookups := by
  obtain ⟨result, a⟩ := a
  subst hplaced
  have hgate : (!(le x 37 1 == ch.tid r) || !recValid x || recHandle x == 0 || le x 38 1 == 0 || decide (5 < le x 38 1)) = false := by
    simp [htid, hvalid, hhandle]
    omega
  simp only [Chan.insertTaken, if_pos hr, hgate, hregion, htry, Ins.code, Bool.not_true, Bool.false_eq_true, if_false, true_or, if_true]

/-- Settles O16: each command's conditions hold, and its unit does what it is due. -/
theorem fillsInsertsAndPromotions : Obligations.FillsInsertsAndPromotions := by
  intro s c ch h hc
  refine ⟨?_, ?_, ?_, ?_, ?_, ?_, ?_, ?_⟩
  · intro bucket i htenant hrun hfree
    exact exec_clocked h (i := .flowFillComplete c bucket true) rfl hc (Chan.flowFillComplete_good htenant hrun hfree)
  · intro bucket i htenant hrun hfree hmiss
    have hkept := FlowKept.flowFill { ch with flow := { ch.flow with fills := ch.flow.fills.filter (· ≠ bucket.toNat) } } i bucket.toNat
    have hstep := Chan.flowFillComplete_good htenant hrun hfree
    rw [Chan.serveLookups_idle (hkept.miss.trans hmiss)] at hstep
    obtain ⟨t, ht, ha⟩ := exec_clocked h (i := .flowFillComplete c bucket true) rfl hc hstep
    have hi := Chan.bucketTenant_lt htenant
    refine ⟨t, ht, ?_, ?_⟩
    · rw [ha.flowWay hi]
      exact Chan.flowFill_cached _ hi _
    · rw [ha.flow, hkept.fills]
      simp
  · intro l b w r hfind hon hcold hserve hroom
    exact exec_clocked h (i := .coldFetchComplete c true) rfl hc (Chan.coldFetchComplete_found hfind hon hcold hserve hroom)
  · intro l hfind hon hcold hgood hrec
    exact exec_clocked h (i := .coldFetchComplete c true) rfl hc (Chan.coldFetchComplete_clean hfind hon hcold hgood hrec)
  · intro l rs hfind hon hcold hrs
    subst hrs
    exact exec_clocked h (i := .coldFetchComplete c true) rfl hc (Chan.coldFetchComplete_absent hfind hon hcold)
  · intro i r rest x b w q hfirst hi hserve htry hplaced hcold hmiss
    have hkept : FlowKept ch (((x.2.unpend i (recKey r)).putCold i b w (recParity (recBit q 0 false))).insResult 17 0 i) := by
      have hinsert := FlowKept.insertTry false i (recParity (recBit r 4 false)) 3 { ch with flow := { ch.flow with promote := rest } }
      rw [htry] at hinsert
      exact (((FlowKept.promote ch rest).trans hinsert).trans (.unpend _ _ _)).trans ((FlowKept.putCold _ _ _ _ _).trans (.insResult _ _ _ _))
    have hnone := hkept.miss.trans hmiss
    have hstep := Chan.promotion_unawaited hfirst hi hserve htry hplaced hcold rfl (by rw [hnone]; rfl)
    rw [Chan.serveLookups_idle hnone] at hstep
    exact exec_clocked h rfl hc hstep
  · intro i r rest x b w q d l z hfirst hi hserve htry hplaced hcold hd hwait hrec
    exact exec_clocked h rfl hc (Chan.promotion_awaited hfirst hi hserve htry hplaced hcold hd hwait hrec)
  · intro r x a hserve hempty hturn hx htid hvalid hhandle hlow hhigh hregion htry hplaced
    have hstep := Chan.insertCommand_takes_spad hserve hempty hturn hx
    have hkept : FlowKept ch (({ ch with flow := { ch.flow with lastRing := r } } : Chan).load 0 chanKey (ch.insAddr r (ch.insCons r)) 128).2 :=
      (FlowKept.lastRing ch r).trans (.load _ 0 chanKey _ 128)
    rw [← hkept.ns] at htry
    rw [Chan.insertTaken_inserted r.isLt (htid.trans (hkept.tid r).symm) hvalid hhandle hlow hhigh
      ((hkept.hasRegion r.isLt).trans hregion) htry hplaced] at hstep
    exact exec_clocked h rfl hc hstep

end Sys2Proof.Machine
end

section
/-!
PROOFS of 04_features_and_number_formats.md: the read of an entity fill is an access that watchpoints see and count (R109, R436).
-/

namespace Sys2Proof.Machine
open Sys2Proof

/-! ## What watchpoints leave of an access -/

/-- The count of watchpoint hits is no register that events or freezes write. -/
theorem not_settleKey_watchHits : ¬ settleKey R.OBS_CNT_WATCH_HITS := not_settleKey_of (by decide)

/-- How many of the eight watchpoints match an access. -/
def Chan.watchHits (ch : Chan) (tier a n : Nat) (write : Bool) : Nat :=
  (List.range 8).countP fun w => ch.watchHit w tier a n write

theorem Agrees.ite {p : Prop} [Decidable p] {a b c : Chan} (h : Agrees a b) (g : Agrees a c) : Agrees a (if p then b else c) := by
  split
  · exact h
  · exact g

theorem Agrees.inc_zero (a : Chan) (k : Nat) : Agrees (a.inc k 0) a := by
  refine { Agrees.refl a with rd := fun j _ => ?_ }
  by_cases hjk : j = k
  · subst hjk
    rw [Chan.rd_inc_same]
    exact (BitVec.add_zero _).symm
  · exact (a.rd_inc_ne 0 hjk).symm

/-- A counter that advances in channels that agree. -/
theorem Agrees.inc {a b : Chan} (h : Agrees a b) {k : Nat} (hk : ¬ settleKey k) (n : Nat) : Agrees (a.inc k n) (b.inc k n) := by
  refine { h with rd := fun j hj => ?_ }
  by_cases hjk : j = k
  · subst hjk
    rw [Chan.rd_inc_same, Chan.rd_inc_same, h.rd _ hk]
  · rw [Chan.rd_inc_ne _ _ hjk, Chan.rd_inc_ne _ _ hjk, h.rd _ hj]

/-- Advancing a counter twice. -/
theorem Agrees.inc_inc (a : Chan) (k m n : Nat) : Agrees (a.inc k (m + n)) ((a.inc k m).inc k n) := by
  refine { Agrees.refl a with rd := fun j _ => ?_ }
  by_cases hjk : j = k
  · subst hjk
    rw [Chan.rd_inc_same, Chan.rd_inc_same, Chan.rd_inc_same, BitVec.ofNat_add, BitVec.add_assoc]
  · rw [Chan.rd_inc_ne _ _ hjk, Chan.rd_inc_ne _ _ hjk, Chan.rd_inc_ne _ _ hjk]

section

variable (tier x n : Nat) (write : Bool)

/-- A watchpoint that does not match does nothing; one that does counts its hit, and the rest of what it does is trace, event and
freeze. -/
theorem Chan.watchOne_agrees (ch : Chan) (w : Nat) :
    Agrees (ch.inc R.OBS_CNT_WATCH_HITS (if ch.watchHit w tier x n write then 1 else 0)) (Chan.watchOne tier x n write ch w) := by
  have hjoin (a : Chan) (kind : Nat) : Agrees a (a.watchJoin w tier x kind) := .obs a _
  unfold Chan.watchOne
  split
  · exact ((Agrees.ite (hjoin _ _) (.refl _)).trans (.ite (.raise _ _ _ _) (.refl _))).trans (.ite (.freeze _ _) (.refl _))
  · exact .inc_zero ch _

/-- The registers of a watchpoint are none that an access writes. -/
theorem Agrees.watchHit {a b : Chan} {m w : Nat} (h : Agrees (a.inc R.OBS_CNT_WATCH_HITS m) b) (hw : w < 8) :
    b.watchHit w tier x n write = a.watchHit w tier x n write := by
  have hkeep {k : Nat} (hlow : R.OBS_WATCH_LO 0 ≤ k) (hhigh : k < R.OBS_WATCH_LO 8) : b.rd k = a.rd k := by
    simp only [R.OBS_WATCH_LO] at hlow hhigh
    have hkey : ¬ settleKey k := by
      refine not_settleKey_of ?_
      simp only [R.CHN_EVQ_CTRL, R.VPE_CNT_TELEM_DROP, R.OBS_FREEZE, R.OBS_FREEZE_TIME, R.OBS_CNT_FREEZES]
      omega
    exact (h.rd k hkey).trans (a.rd_inc_ne m (by simp only [R.OBS_CNT_WATCH_HITS]; omega))
  have hctrl : b.rd (R.OBS_WATCH_CTRL w) = a.rd (R.OBS_WATCH_CTRL w) :=
    hkeep (by simp only [R.OBS_WATCH_LO, R.OBS_WATCH_CTRL]; omega) (by simp only [R.OBS_WATCH_LO, R.OBS_WATCH_CTRL]; omega)
  have hlo : b.rd (R.OBS_WATCH_LO w) = a.rd (R.OBS_WATCH_LO w) :=
    hkeep (by simp only [R.OBS_WATCH_LO]; omega) (by simp only [R.OBS_WATCH_LO]; omega)
  have hhi : b.rd (R.OBS_WATCH_HI w) = a.rd (R.OBS_WATCH_HI w) :=
    hkeep (by simp only [R.OBS_WATCH_LO, R.OBS_WATCH_HI]; omega) (by simp only [R.OBS_WATCH_LO, R.OBS_WATCH_HI]; omega)
  simp only [Chan.watchHit, Chan.flag, Chan.fld, hctrl, hlo, hhi]

/-- Watchpoints in turn count one hit for each of them that matches. -/
theorem Chan.watchList_agrees {l : List Nat} (hl : ∀ w ∈ l, w < 8) (a : Chan) :
    Agrees (a.inc R.OBS_CNT_WATCH_HITS (l.countP fun w => a.watchHit w tier x n write)) (l.foldl (Chan.watchOne tier x n write) a) := by
  induction l generalizing a with
  | nil => exact .inc_zero a _
  | cons w l ih =>
    have hone := Chan.watchOne_agrees tier x n write a w
    have hsame : (l.countP fun v => (Chan.watchOne tier x n write a w).watchHit v tier x n write) =
        l.countP fun v => a.watchHit v tier x n write :=
      List.countP_congr fun v hv => by rw [hone.watchHit tier x n write (hl v (List.mem_cons_of_mem w hv))]
    have hrest := ih (fun v hv => hl v (List.mem_cons_of_mem w hv)) (Chan.watchOne tier x n write a w)
    rw [hsame] at hrest
    rw [List.countP_cons, Nat.add_comm]
    exact ((Agrees.inc_inc a _ _ _).trans (hone.inc not_settleKey_watchHits _)).trans hrest

/-- Up to events and freezes, all that is left of an access that the watchpoints see is its count of hits. -/
theorem Chan.watch_agrees (ch : Chan) :
    Agrees (ch.inc R.OBS_CNT_WATCH_HITS (ch.watchHits tier x n write)) (ch.watch tier x n write) :=
  Chan.watchList_agrees tier x n write (fun _ hw => List.mem_range.mp hw) ch

theorem Chan.watch_rd_hits (ch : Chan) :
    (ch.watch tier x n write).rd R.OBS_CNT_WATCH_HITS = ch.rd R.OBS_CNT_WATCH_HITS + BitVec.ofNat 64 (ch.watchHits tier x n write) :=
  ((ch.watch_agrees tier x n write).rd _ not_settleKey_watchHits).trans (ch.rd_inc_same _ _)

end

/-! ## The end of an entity fill -/

/-- A line put into the entity cache writes no register. -/
theorem Chan.entInstall_rd (ch : Chan) (i k b : Nat) (data : List Byte) : (ch.entInstall i k b data).rd = ch.rd := rfl

/-- An uncorrectable read of T1 is logged and counted; no watchpoint counts it. -/
theorem Chan.uncorrectable_watchHits (ch : Chan) (a : Nat) :
    (ch.uncorrectable 1 a).rd R.OBS_CNT_WATCH_HITS = ch.rd R.OBS_CNT_WATCH_HITS := by
  have hne : R.OBS_CNT_WATCH_HITS ≠ R.MEM_CNT_T1_UNCORR ∧ R.OBS_CNT_WATCH_HITS ≠ R.MEM_ERR_LOG := by decide
  exact (Chan.rd_raise _ _ _ _ (not_raiseKey_of (by decide))).trans ((Chan.rd_inc_ne _ _ hne.1).trans
    ((Chan.rd_setFld_ne _ _ _ hne.2).trans (Chan.rd_setFld_ne _ _ _ hne.2)))

/-- The fill is no longer running. -/
def Chan.fillEnded (ch : Chan) (i k b : Nat) : Chan :=
  { ch with ftr := { ch.ftr with fills := ch.ftr.fills.filter (· ≠ (i, k, b)) } }

/-- A fill that is running reads its bucket's 512 bytes of T1, under the watchpoints, before anything comes of them. -/
theorem Chan.entityFillComplete_running {ch : Chan} {i k b : Nat} (hrun : ch.ftr.fills.contains (i, k, b) = true) (ok : Bool) :
    ch.entityFillComplete i k b ok =
      let a := (ch.fillEnded i k b).watch 1 (ch.entityAddr i k b) 512 false
      if a.locked i (k + 1) b then a
      else if ok then a.entInstall i k b (ch.bytes 1 i (ch.entityAddr i k b) 512)
      else a.uncorrectable 1 (a.entityAddr i k b) :=
  if_pos hrun

/-- Whatever comes of them, each watchpoint on those bytes has counted the read. -/
theorem Chan.entityFillComplete_watchHits {ch : Chan} {i k b : Nat} (hrun : ch.ftr.fills.contains (i, k, b) = true) (ok : Bool) :
    (ch.entityFillComplete i k b ok).rd R.OBS_CNT_WATCH_HITS =
      ch.rd R.OBS_CNT_WATCH_HITS + BitVec.ofNat 64 (ch.watchHits 1 (ch.entityAddr i k b) 512 false) := by
  refine Eq.trans ?_ (Chan.watch_rd_hits 1 (ch.entityAddr i k b) 512 false (ch.fillEnded i k b))
  rw [Chan.entityFillComplete_running hrun]
  dsimp only
  split
  · rfl
  · split
    · rw [Chan.entInstall_rd]
    · exact Chan.uncorrectable_watchHits _ _

/-- The same of the command. -/
theorem exec_entityFillComplete_watchHits {s t : State} {c : Fin 8} {ch : Chan} {i : Fin 16} {k : Fin 4} {bucket : BitVec 32} {ok : Bool}
    (h : s.chan c = ch) (hc : ch.clocked = true) (hrun : ch.ftr.fills.contains (i.val, k.val, bucket.toNat) = true)
    (ht : exec (.entityFillComplete c i k bucket ok) s = .next t) :
    (t.chan c).rd R.OBS_CNT_WATCH_HITS =
      ch.rd R.OBS_CNT_WATCH_HITS + BitVec.ofNat 64 (ch.watchHits 1 (ch.entityAddr i k bucket.toNat) 512 false) := by
  obtain ⟨u, hu, ha⟩ := exec_clocked h (i := .entityFillComplete c i k bucket ok) rfl hc rfl
  obtain rfl : t = u := Host.Outcome.next.inj (ht.symm.trans hu)
  exact (ha.rd _ not_settleKey_watchHits).trans (Chan.entityFillComplete_watchHits hrun ok)

/-! ## A fill that a watchpoint sees -/

/-- A powered channel whose watchpoint 0 watches reads of byte 0 of T1, while bucket 0 of lookup 0 of tenant 0, which begins there, is
being filled. -/
def watchedFillChan : Chan :=
  ({ idx := 0, pwr := { power := .on }, ftr := { fills := [(0, 0, 0)] } } : Chan).wr (R.OBS_WATCH_CTRL 0)
    (setF (setF 0 F.OBS_WATCH_CTRL_tier 1) F.OBS_WATCH_CTRL_on_read 1)

/-- The device after reset but for that channel. -/
def watchedFill : State := State.reset.setChan 0 watchedFillChan

theorem watchedFill_chan : watchedFill.chan 0 = watchedFillChan := rfl

/-- One watchpoint sees the read. -/
theorem watchedFill_hits :
    watchedFillChan.watchHits 1 (watchedFillChan.entityAddr (0 : Fin 16) (0 : Fin 4) (0 : BitVec 32).toNat) 512 false = 1 := by
  decide

/-- Refutes O19: it has ENTITY_FILL_COMPLETE change no register, but the fill reads its bucket from T1, and a watchpoint on the bucket
counts that read in OBS_CNT_WATCH_HITS (R436). -/
theorem not_featureProgramsAndEntities : ¬ Obligations.FeatureProgramsAndEntities := by
  intro h
  obtain ⟨-, -, -, -, -, -, hfill, -, -⟩ := h watchedFill 0 watchedFillChan watchedFill_chan
  have hclocked : watchedFillChan.clocked = true := by decide
  obtain ⟨t, ht, ha, -⟩ := hfill 0 0 0 hclocked rfl rfl
  have hclaimed : (t.chan 0).rd R.OBS_CNT_WATCH_HITS = watchedFillChan.rd R.OBS_CNT_WATCH_HITS :=
    ha.rd _ not_settleKey_watchHits
  have hcounted := exec_entityFillComplete_watchHits watchedFill_chan hclocked rfl ht
  rw [hclaimed, watchedFill_hits, left_eq_add] at hcounted
  exact absurd hcounted (by decide)

end Sys2Proof.Machine
end

section
/-!
PROOFS of 05_forest_engine.md: ensemble descriptors, the Leaf CAM window, upsets, repairs and the release of banks (R154 to R160).
-/

namespace Sys2Proof.Machine
open Sys2Proof

/-! ## Ensemble descriptors -/

/-- The bits of an ensemble descriptor's register `part` that hold fields (Table 05.8). -/
def ensMask (part : Fin 4) : Word :=
  if part = 0 then 0x00FFFFFFFFFFFFFF else if part = 1 then 0x00003FFFFFFFFFFF else if part = 2 then 0x00000000FFFFFFFF
  else 0xFFFFFFFFFFFFFFFF

/-- The word that a write of a descriptor's register puts into it: the host cannot set valid. -/
def Chan.ensWord (ch : Chan) (n : Nat) (part : Fin 4) (host : Bool) (v : Word) : Word :=
  if part = 0 ∧ host = true ∧ ch.ensValid n = false then setF v F.FST_ENS_CFG_valid 0 else v

/-- The channel with descriptor `n` as the write would leave it. -/
def Chan.ensWritten (ch : Chan) (n : Nat) (part : Fin 4) (host : Bool) (v : Word) : Chan :=
  ch.wr (R.FST_ENS_CFG n + 8 * part.val) (ch.ensWord n part host v &&& ensMask part)

/-- The lock of the descriptors is open: to the host while the Forest Engine is not enabled, to nobody in Safe Serve. -/
def Chan.ensOpen (ch : Chan) (host : Bool) : Prop :=
  (host && ch.flag R.FST_CTRL F.FST_CTRL_enable) = false ∧ ch.safeServe = false

theorem Chan.ensOpen_of_source {ch : Chan} {src : Option (Fin 17)}
    (hlock : src = none ∨ ch.flag R.FST_CTRL F.FST_CTRL_enable = false) (hserve : ch.safeServe = false) :
    ch.ensOpen src.isSome := by
  refine ⟨?_, hserve⟩
  rcases hlock with rfl | henable
  · rfl
  · rw [henable, Bool.and_false]

/-- What a write leaves that would leave `a`: `a`, unless its descriptor `n` is valid and breaks R160. -/
def Chan.ensChecked (ch : Chan) (n : Nat) (a : Chan) : Chan :=
  if a.ensValid n && !a.ensOk n then ch.raise EV_FST_CFG_REJECT else a

theorem Chan.ensChecked_applied {ch a : Chan} {n : Nat} (h : a.ensValid n = false ∨ a.ensOk n = true) : ch.ensChecked n a = a := by
  refine if_neg ?_
  rcases h with h | h <;> simp [h]

theorem Chan.ensChecked_refused {ch a : Chan} {n : Nat} (hvalid : a.ensValid n = true) (hbad : a.ensOk n = false) :
    ch.ensChecked n a = ch.raise EV_FST_CFG_REJECT :=
  if_pos (by simp [hvalid, hbad])

/-- With the lock open, a write is checked against the descriptor as it would stand. -/
theorem Chan.fstEnsWrite_open {ch : Chan} {host : Bool} (hopen : ch.ensOpen host) (n : Fin 32) (part : Fin 4) (v : Word) :
    ch.fstEnsWrite n part host v = ch.ensChecked n (ch.ensWritten n part host v) := by
  obtain ⟨hlock, hserve⟩ := hopen
  have hgate : ¬ ((host && ch.flag R.FST_CTRL F.FST_CTRL_enable) || ch.safeServe || decide (32 ≤ n.val)) = true := by
    simp [hlock, hserve]
  have hbanks : R.FST_ENS_BANKS n = R.FST_ENS_CFG n + 8 * 1 := by simp only [R.FST_ENS_BANKS, R.FST_ENS_CFG]; omega
  have hscale : R.FST_ENS_SCALE n = R.FST_ENS_CFG n + 8 * 2 := by simp only [R.FST_ENS_SCALE, R.FST_ENS_CFG]; omega
  have hbase : R.FST_ENS_BASE n = R.FST_ENS_CFG n + 8 * 3 := by simp only [R.FST_ENS_BASE, R.FST_ENS_CFG]; omega
  refine (if_neg hgate).trans (congrArg (ch.ensChecked n) ?_)
  match part with
  | 0 => simp only [Chan.ensWritten, Chan.ensWord, Fin.val_eq_zero_iff]; rfl
  | 1 => exact congrArg (ch.wr · _) hbanks
  | 2 => exact congrArg (ch.wr · _) hscale
  | 3 => exact congrArg (ch.wr · _) hbase

/-! ## The Leaf CAM window -/

section

variable {ch : Chan} {e : Nat}

theorem Chan.camWindowWrite_free (h : ch.bankOwned (e / 2048) = false) {word : Fin 22} (hword : word ≠ 20) (v : Word) :
    ch.camWindowWrite e word v = { ch with fst := { ch.fst with hold := some (e, (ch.holdFor e).putWord word v) } } := by
  have hfree : ¬ ch.bankOwned (e / 2048) = true := Bool.eq_false_iff.mp h
  have hheld : word.val < 20 ∨ word.val = 21 := by omega
  exact (if_neg hfree).trans (if_pos hheld)

theorem Chan.camWindowCommit_free (h : ch.bankOwned (e / 2048) = false) (v : Word) :
    ch.camWindowCommit e v =
      let x := { ch.holdFor e with valid := v.getLsbD 0 }
      let a := ch.commitEntry e x
      { a with fst := { a.fst with hold := some (e, x.sealed) } } :=
  if_neg (Bool.eq_false_iff.mp h)

/-- A write to an entry of an owned bank is reported, and nothing else (R159). -/
theorem Chan.camWindowWrite_owned (h : ch.bankOwned (e / 2048) = true) (w : Nat) (v : Word) :
    ch.camWindowWrite e w v = ch.raise EV_FST_WINDOW_REJECT :=
  if_pos h

theorem Chan.camWindowCommit_owned (h : ch.bankOwned (e / 2048) = true) (v : Word) :
    ch.camWindowCommit e v = ch.raise EV_FST_WINDOW_REJECT :=
  if_pos h

/-! ## Stored entries -/

theorem Chan.setCam_cam (ch : Chan) (e : Nat) (x : CamEntry) : (ch.setCam e x).cam e = x := sget_sset_same ..

theorem Chan.commitEntry_cam (ch : Chan) (e : Nat) (x : CamEntry) : (ch.commitEntry e x).cam e = x.sealed := ch.setCam_cam e _

theorem Agrees.cam {a b : Chan} (h : Agrees a b) (e : Nat) : b.cam e = a.cam e := by
  simp only [Chan.cam, h.fst]

/-- An entry whose parity an upset breaks is excluded. -/
theorem Chan.camUpset_excludes {bits : List Nat} (hbad : (bits.foldl CamEntry.flip (ch.cam e)).good = false)
    (hnew : sget (fun _ => none) ch.fst.excl e = none) :
    ch.camUpset e bits =
      let a := ch.setCam e (bits.foldl CamEntry.flip (ch.cam e))
      { a with fst := { a.fst with excl := sset (fun _ => none) a.fst.excl e (some {}) } } := by
  have hfirst : ¬ ((bits.foldl CamEntry.flip (ch.cam e)).good || (sget (fun _ => none) ch.fst.excl e).isSome) = true := by
    simp [hbad, hnew]
  exact if_neg hfirst

/-- One whose parity still holds, or that is excluded already, is only changed. -/
theorem Chan.camUpset_stores {bits : List Nat}
    (h : (bits.foldl CamEntry.flip (ch.cam e)).good = true ∨ (sget (fun _ => none) ch.fst.excl e).isSome = true) :
    ch.camUpset e bits = ch.setCam e (bits.foldl CamEntry.flip (ch.cam e)) := by
  have hdone : ((bits.foldl CamEntry.flip (ch.cam e)).good || (sget (fun _ => none) ch.fst.excl e).isSome) = true :=
    Bool.or_eq_true_iff.mpr h
  exact if_pos hdone

end

/-! ## Repairs -/

/-- The read-back test of an entry is queued (R155, R269). -/
def Chan.startReadBack (ch : Chan) (e : Nat) : Chan :=
  { ch with chk := { ch.chk with
    tests := ch.chk.tests ++ [{ unit := .entry (e / 2048) (e % 2048), at_ := ch.now, hold := false }] } }

theorem Agrees.startReadBack {a b : Chan} (h : Agrees a b) (e : Nat) : Agrees (a.startReadBack e) (b.startReadBack e) :=
  { h with chk := by simp only [Chan.startReadBack, h.chk, h.now] }

theorem RecordsKept.startReadBack (a : Chan) (e : Nat) : RecordsKept a (a.startReadBack e) := ⟨rfl, fun _ _ => rfl⟩

theorem Chan.repairStatus_fst (ch : Chan) : ch.repairStatus.fst = ch.fst := rfl

/-- A repair whose golden image verifies rewrites the entry, counts and reports it, and queues its test. -/
theorem Chan.leafCamRepair_verified {ch a : Chan} {e t0 : Nat} {rest : List (Nat × Nat)} {g : Golden} {x : CamEntry}
    (hqueue : ch.fst.repairs = (e, t0) :: rest) (hserve : ch.safeServe = false)
    (henable : ch.flag R.FST_CTRL F.FST_CTRL_repair_enable = true)
    (hgolden : sget (fun _ => none) ch.fst.golden (e / 2048) = some g)
    (hverified : { ch with fst := { ch.fst with repairs := rest } }.repairStatus.goldenKind (ctxOf g.slot g.side) 6 = (true, a))
    (hentry : a.goldenEntry e = some x) :
    ch.leafCamRepair = ((a.commitEntry e x).count R.FST_CNT_REPAIR EV_FST_REPAIRED).startReadBack e := by
  simp only [Chan.leafCamRepair, hqueue, hserve, henable, Bool.not_true, Bool.or_self, Bool.false_eq_true, if_false,
    Chan.repairStatus_fst, hgolden, hverified, hentry]
  rfl

/-! ## The release of banks -/

/-- Descriptor `n` keeps no bank, and the banks it had no golden image. -/
def Chan.banksReleased (ch : Chan) (n : Nat) : Chan :=
  let a := ch.setFld (R.FST_ENS_BANKS n) F.FST_ENS_BANKS_bank_mask 0
  { a with fst := { a.fst with
    leaving := ch.fst.leaving.filter (·.1 ≠ n)
    golden := (allBanks (ch.ensBanks n)).foldl (fun g b => sset (fun _ => none) g b none) ch.fst.golden } }

theorem Chan.banksReleased_ensBanks (ch : Chan) (n : Nat) : (ch.banksReleased n).ensBanks n = 0 :=
  (ch.fld_setFld_same (R.FST_ENS_BANKS n) F.FST_ENS_BANKS_bank_mask 0 (by decide)).trans (Nat.zero_mod _)

theorem Chan.bankRelease_due {ch : Chan} {n : Nat} {x : Nat × Nat} (hleaving : ch.fst.leaving.find? (·.1 == n) = some x)
    (hsince : ch.sinceC x.2 (97 + 18 * ch.ensPasses n + 1) = true) (hawait : ch.ensAwaited n = false) :
    ch.bankRelease n = ch.banksReleased n := by
  unfold Chan.bankRelease
  rw [hleaving]
  dsimp only
  rw [hsince, hawait]
  rfl

/-- No event writes the bank set of a descriptor. -/
theorem Agrees.ensBanks {a b : Chan} (h : Agrees a b) (n : Fin 32) : b.ensBanks n = a.ensBanks n :=
  h.fld (not_settleKey_between (by simp only [R.CHN_EVQ_CTRL, R.FST_ENS_BANKS]; omega)
    (by simp only [R.VPE_CNT_TELEM_DROP, R.FST_ENS_BANKS]; omega)) _

/-! ## The commands -/

/-- A command of the fast domain leaves the channel as its work does, up to events, with what that work reported. -/
theorem exec_clocked_reported {s : State} {c : Fin 8} {ch : Chan} (h : s.chan c = ch) {i : Instr} {f : Chan → Chan} {a : Chan}
    (hi : exec i s = .next (s.onClocked c f)) (hc : ch.clocked = true) (ha : f ch = a) :
    ∃ t, exec i s = .next t ∧ Agrees a (t.chan c) ∧ RecordsKept a (t.chan c) :=
  ⟨_, hi, ha ▸ State.onClocked_agrees h hc f, ha ▸ RecordsKept.onClocked h hc f⟩

/-- Settles O20: each command is let in by its lock, its bank or its queue, and does its one write, or reports that it does not. -/
theorem forestDescriptorsAndCam : Obligations.ForestDescriptorsAndCam := by
  intro s c ch h
  refine ⟨?_, ?_, ?_, ?_, ?_, ?_, ?_, ?_, ?_, ?_⟩
  · rintro src n part v _ _ hr hlock hserve rfl rfl hok
    exact exec_writeRow h (i := .fstEnsWrite c src n part v) rfl hr
      ((Chan.fstEnsWrite_open (Chan.ensOpen_of_source hlock hserve) n part v).trans (Chan.ensChecked_applied hok))
  · rintro src n part v _ _ hr hlock hserve rfl rfl hvalid hbad
    exact exec_writeRow_raises h (i := .fstEnsWrite c src n part v) rfl hr
      ((Chan.fstEnsWrite_open (Chan.ensOpen_of_source hlock hserve) n part v).trans (Chan.ensChecked_refused hvalid hbad)) (by decide)
  · intro src entry word v hr hword hfree
    exact exec_writeRow h (i := .camWindowWrite c src entry word v) rfl hr (Chan.camWindowWrite_free hfree hword v)
  · intro src entry word v hr howned
    exact exec_writeRow_raises h (i := .camWindowWrite c src entry word v) rfl hr
      (Chan.camWindowWrite_owned howned word v) (by decide)
  · rintro src entry v _ hr hfree rfl
    obtain ⟨t, ht, ha⟩ := exec_writeRow h (i := .camWindowCommit c src entry v) rfl hr (Chan.camWindowCommit_free hfree v)
    exact ⟨t, ht, ha, (ha.cam _).trans (Chan.commitEntry_cam ..)⟩
  · intro src entry v hr howned
    exact exec_writeRow_raises h (i := .camWindowCommit c src entry v) rfl hr (Chan.camWindowCommit_owned howned v)
      (by decide)
  · rintro entry bits _ hon rfl hbad hnew
    obtain ⟨t, ht, ha⟩ := exec_live h hon (i := .camEntryUpset c entry bits) rfl (Chan.camUpset_excludes hbad hnew)
    exact ⟨t, ht, ha, (ha.cam _).trans (Chan.setCam_cam ..)⟩
  · rintro entry bits _ hon rfl hkept
    exact exec_live h hon (i := .camEntryUpset c entry bits) rfl (Chan.camUpset_stores hkept)
  · intro e t0 rest g x a hc hqueue hserve henable hgolden hverified hentry
    obtain ⟨t, ht, ha, hkept⟩ := exec_clocked_reported h (i := .leafCamRepair c) rfl hc
      (Chan.leafCamRepair_verified hqueue hserve henable hgolden hverified hentry)
    have hagree := ((Agrees.raise ((a.commitEntry e x).inc R.FST_CNT_REPAIR) EV_FST_REPAIRED none _).startReadBack e).trans ha
    have hrep := (RecordsKept.startReadBack _ e).reported (by decide)
      (Chan.count_reported (a.commitEntry e x) R.FST_CNT_REPAIR EV_FST_REPAIRED (by decide))
    exact ⟨t, ht, hagree, (hagree.cam e).trans (a.commitEntry_cam e x), hkept.reported (by decide) hrep⟩
  · intro n x hc hleaving hsince hawait
    obtain ⟨t, ht, ha⟩ := exec_clocked h (i := .ensembleBankRelease c n) rfl hc (Chan.bankRelease_due hleaving hsince hawait)
    exact ⟨t, ht, ha, (ha.ensBanks n).trans (ch.banksReleased_ensBanks n)⟩

end Sys2Proof.Machine
end

section
/-!
PROOFS of 06_matrix_engines.md: a standby load reads its tiles from the scratchpad, where watchpoints see and count it (R173, R436).
-/

namespace Sys2Proof.Machine
open Sys2Proof

/-! ## The end of a staging -/

/-- A load that stages and is 66 cc old is due. -/
theorem Chan.loadDue_staging {ch : Chan} {sb : Standby} (hphase : sb.phase = .staging) (hsince : ch.sinceC sb.at_ 66 = true) :
    ch.loadDue (some sb) = some sb :=
  Option.filter_some_pos (by rw [hphase, hsince]; rfl)

/-- The load port counts the seals of a load's `n` bytes and reads these, where all seals are good, under the watchpoints. -/
theorem Chan.stageLoad_watched {ch a : Chan} {sb : Standby} {q : Cmd} {n : Nat} (hq : (ch.side sb.ctx).cmd sb.index = q)
    (hn : stationaryBytes (q.engineFmt.getD .n8) q.part = n) (ha : ch.inc R.CHK_CNT_SEAL_CHECK (n / 2048) = a)
    (hseal : a.loadBad sb.ctx q q.w16 = none) (k : Nat) :
    (ch.stageLoad k sb).2 = a.watch 0 (a.winAddr sb.ctx sb.run q.w16) n false := by
  subst hq hn ha
  unfold Chan.stageLoad
  dsimp only
  rw [hseal]

/-- What changes in a partition changes no register. -/
@[simp] theorem Chan.rd_modPart (ch : Chan) (k : Nat) (f : Part → Part) (r : Nat) : (ch.modPart k f).rd r = ch.rd r := rfl

/-- Noting what has become of the pending image writes no register. -/
theorem Chan.standbyStaged_rd {ch : Chan} {k : Nat} {sb : Standby} (hdue : ch.loadDue (ch.part k).standby = some sb) (ctx r : Nat) :
    (ch.standbyStaged k ctx).rd r = (ch.stageLoad k sb).2.rd r := by
  unfold Chan.standbyStaged
  dsimp only
  rw [hdue]
  exact Chan.rd_modPart _ _ _ _

/-- Each watchpoint on those bytes has counted the read. -/
theorem Chan.standbyStaged_watchHits {ch a : Chan} {k : Nat} {sb : Standby} {q : Cmd} {n : Nat}
    (hdue : ch.loadDue (ch.part k).standby = some sb) (hq : (ch.side sb.ctx).cmd sb.index = q)
    (hn : stationaryBytes (q.engineFmt.getD .n8) q.part = n) (ha : ch.inc R.CHK_CNT_SEAL_CHECK (n / 2048) = a)
    (hseal : a.loadBad sb.ctx q q.w16 = none) (ctx : Nat) :
    (ch.standbyStaged k ctx).rd R.OBS_CNT_WATCH_HITS =
      ch.rd R.OBS_CNT_WATCH_HITS + BitVec.ofNat 64 (a.watchHits 0 (a.winAddr sb.ctx sb.run q.w16) n false) := by
  have hsame : a.rd R.OBS_CNT_WATCH_HITS = ch.rd R.OBS_CNT_WATCH_HITS := ha ▸ ch.rd_inc_ne _ (by decide)
  rw [Chan.standbyStaged_rd hdue, Chan.stageLoad_watched hq hn ha hseal, Chan.watch_rd_hits, hsame]

/-! ## A load that a watchpoint sees -/

/-- The load of command 0 of slot 0's side 0, from time 0 on. -/
def watchedLoad : Standby := { ctx := 0, run := 0, index := 0, phase := .staging, at_ := 0 }

/-- A powered channel 66 core cycles on, whose watchpoint 0 watches reads of byte 0 of the scratchpad, while partition 0 stages the
weights of an MMA, which begin there. -/
def watchedLoadChan : Chan :=
  ({ idx := 0, now := 66 * ccG 0, pwr := { power := .on }, models := { sides := [(0, { program := 1 :: List.replicate 63 0 })] }
     eng := { parts := [(0, { standby := some watchedLoad })] } } : Chan).setFlag (R.OBS_WATCH_CTRL 0) F.OBS_WATCH_CTRL_on_read true

/-- The device after reset but for that channel. -/
def watchedLoadState : State := State.reset.setChan 0 watchedLoadChan

theorem watchedLoadState_chan : watchedLoadState.chan 0 = watchedLoadChan := rfl

/-- The MMA whose weights are loaded. -/
def watchedLoadCmd : Cmd := (watchedLoadChan.side 0).cmd 0

/-- Its weights' length in the scratchpad. -/
def watchedLoadBytes : Nat := stationaryBytes (watchedLoadCmd.engineFmt.getD .n8) watchedLoadCmd.part

/-- The channel with the seals of the load counted. -/
def watchedLoadCounted : Chan := watchedLoadChan.inc R.CHK_CNT_SEAL_CHECK (watchedLoadBytes / 2048)

/-- No tile of the load fails its seal, before the seals are counted or after. -/
theorem watchedLoad_sealed : watchedLoadChan.loadBad 0 watchedLoadCmd watchedLoadCmd.w16 = none ∧
    watchedLoadCounted.loadBad 0 watchedLoadCmd watchedLoadCmd.w16 = none := by
  decide

/-- One watchpoint sees the read. -/
theorem watchedLoad_hits :
    watchedLoadCounted.watchHits 0 (watchedLoadCounted.winAddr 0 0 watchedLoadCmd.w16) watchedLoadBytes false = 1 := by
  decide

/-- Refutes O22: it has STANDBY_STAGE_COMPLETE change no register but the count of seals, but the load port reads the tiles from the
scratchpad, and a watchpoint on them counts that read in OBS_CNT_WATCH_HITS (R436). -/
theorem not_partitionsLoadStreamAndDrain : ¬ Obligations.PartitionsLoadStreamAndDrain := by
  intro h
  have hclocked : watchedLoadChan.clocked = true := by decide
  have hsince : watchedLoadChan.sinceC watchedLoad.at_ 66 = true := by decide
  have hpending : (watchedLoadChan.part 0).standby = some watchedLoad := rfl
  obtain ⟨hpremise, hseal⟩ := watchedLoad_sealed
  obtain ⟨hstage, -⟩ := h watchedLoadState 0 watchedLoadChan 0 watchedLoadState_chan hclocked
  obtain ⟨t, ht, hclaim⟩ := hstage 0 watchedLoad watchedLoadCmd hpending rfl hsince rfl hpremise
  obtain ⟨u, hu, hagree⟩ := exec_clocked watchedLoadState_chan (i := .standbyStageComplete 0 0 0) rfl hclocked rfl
  obtain rfl : t = u := Host.Outcome.next.inj (ht.symm.trans hu)
  have hclaimed : (t.chan 0).rd R.OBS_CNT_WATCH_HITS = watchedLoadChan.rd R.OBS_CNT_WATCH_HITS :=
    (hclaim.rd _ not_settleKey_watchHits).trans ((Chan.rd_modPart _ _ _ _).trans (Chan.rd_inc_ne _ _ (by decide)))
  have hdue : watchedLoadChan.loadDue (watchedLoadChan.part 0).standby = some watchedLoad :=
    hpending ▸ Chan.loadDue_staging rfl hsince
  have hcounted : (t.chan 0).rd R.OBS_CNT_WATCH_HITS = watchedLoadChan.rd R.OBS_CNT_WATCH_HITS + 1#64 :=
    watchedLoad_hits ▸ (hagree.rd _ not_settleKey_watchHits).trans (Chan.standbyStaged_watchHits hdue rfl rfl rfl hseal 0)
  exact absurd (left_eq_add.mp (hclaimed.symm.trans hcounted)) (by decide)

end Sys2Proof.Machine
end

section
/-!
PROOFS of 08_model_programs_and_replacement.md: what the parts of a run's bookkeeping leave of the models (R225, R227, R231, R435).
-/

namespace Sys2Proof.Machine
open Sys2Proof

/-! ## Trace writes no model -/

section

variable (ch : Chan)

theorem Chan.traceWrite_models (bs : List Byte) : (ch.traceWrite bs).models = ch.models := by
  unfold Chan.traceWrite
  split
  · rfl
  · dsimp only
    split
    · rfl
    · split <;> rfl

theorem Chan.traceDrain_models (n : Nat) : (Chan.traceDrain n ch).models = ch.models := by
  induction n generalizing ch with
  | zero => rfl
  | succ n ih =>
    rw [Chan.traceDrain]
    split
    · rfl
    · split
      · exact (ih _).trans (Chan.traceWrite_models _ _)
      · rfl

theorem Chan.traceWindow_models : ch.traceWindow.models = ch.models := by
  unfold Chan.traceWindow
  split <;> rfl

theorem Chan.traceQueue_models (bs : List Byte) : (ch.traceQueue bs).models = ch.models := by
  unfold Chan.traceQueue
  split
  · rfl
  · exact Chan.count_models _ _ _ _ _

theorem Chan.traceAt_models (x : TraceRec) (time : Nat) : (ch.traceAt x time).models = ch.models := by
  have hbegun : (ch.traceWindow.traceDrain 2048).models = ch.models :=
    (Chan.traceDrain_models _ _).trans ch.traceWindow_models
  unfold Chan.traceAt
  dsimp only
  rw [Chan.traceDrain_models, Chan.traceQueue_models]
  split
  · exact (Chan.traceQueue_models _ _).trans hbegun
  · exact hbegun

@[simp] theorem Chan.traceCmd_models (type ctx index status : Nat) : (ch.traceCmd type ctx index status).models = ch.models := by
  unfold Chan.traceCmd Chan.trace
  split
  · dsimp only
    split
    · rfl
    · exact Chan.traceAt_models _ _ _
  · rfl

end

/-! ## The run of a side -/

section

variable {ch : Chan} {ctx index : Nat}

theorem Chan.seqr_setSeqr (ch : Chan) (ctx : Nat) (x : SideRun) : (ch.setSeqr ctx x).seqr ctx = x := sget_sset_same ..

theorem Chan.run_setRun (ch : Chan) (ctx : Nat) (r : Run) : (ch.setRun ctx r).run ctx = some r :=
  congrArg SideRun.run (ch.seqr_setSeqr ctx _)

theorem Chan.run_congr {a b : Chan} (h : b.models = a.models) (ctx : Nat) : b.run ctx = a.run ctx := by
  simp only [Chan.run, Chan.seqr, h]

/-- A run's first failure is noted beside what the run has issued. -/
theorem Chan.failRun_next (ch : Chan) (ctx index status : Nat) :
    ((ch.failRun ctx index status).run ctx).map Run.next = (ch.run ctx).map Run.next := by
  unfold Chan.failRun
  dsimp only
  split
  · rfl
  · next r hr =>
    split
    · rfl
    · rw [show ch.run ctx = some r from hr]
      exact congrArg (fun x : SideRun => x.run.map Run.next) (Chan.seqr_setSeqr _ _ _)

/-- A command that completes with status 0 leaves the list of its run's commands under way. -/
theorem Chan.cmdDone_complete {r : Run} (h : ch.run ctx = some r) :
    (ch.cmdDone ctx index 0).run ctx = some { r with live := r.live.filter fun l => l.index ≠ index } := by
  simp only [Chan.cmdDone, h, if_true]
  exact (Chan.run_congr (Chan.traceCmd_models _ _ _ _ _) ctx).trans (Chan.run_setRun _ _ _)

/-- Whatever the status, the next command to issue stays the next. -/
theorem Chan.cmdDone_next {r : Run} (h : ch.run ctx = some r) (status : Nat) :
    ((ch.cmdDone ctx index status).run ctx).map Run.next = some r.next := by
  simp only [Chan.cmdDone, h]
  split
  · rw [Chan.run_congr (Chan.traceCmd_models _ _ _ _ _), Chan.run_setRun]
    rfl
  · rw [Chan.failRun_next, Chan.run_congr (Chan.traceCmd_models _ _ _ _ _), Chan.run_setRun]
    rfl

end

/-! ## Table loads place nothing in a side -/

section

variable {a b : Chan}

theorem Chan.side_congr (h : b.models.sides = a.models.sides) (ctx : Nat) : b.side ctx = a.side ctx := by
  simp only [Chan.side, h]

theorem Chan.side_setSide (ch : Chan) (ctx : Nat) (x : Side) : (ch.setSide ctx x).side ctx = x := sget_sset_same ..

theorem foldl_sides {α : Type} {g : Bool × Chan → α → Bool × Chan} (hg : ∀ p x, (g p x).2.models.sides = p.2.models.sides)
    (l : List α) (p : Bool × Chan) : (l.foldl g p).2.models.sides = p.2.models.sides := by
  induction l generalizing p with
  | nil => rfl
  | cons x l ih => exact (ih _).trans (hg p x)

theorem Chan.loadTables_sides (ch : Chan) (ctx k index : Nat) : (ch.loadTables ctx k index).2.models.sides = ch.models.sides := by
  refine foldl_sides (fun p t => ?_) _ _
  obtain ⟨ok, a⟩ := p
  dsimp only [Chan.sealCheck]
  split
  · rfl
  · split <;> rfl

end

end Sys2Proof.Machine
end

section
/-!
PROOFS of 08_model_programs_and_replacement.md: the sequencer issues a run's next command to its unit (R221, R223, R225, R226, R231).
-/

namespace Sys2Proof.Machine
open Sys2Proof

/-- Command `index` is the next of the run `r`, and nothing in the channel's state keeps it from issuing (R225, R233, R281, R440). -/
structure Chan.MayIssue (ch : Chan) (ctx index : Nat) (r : Run) : Prop where
  run : ch.run ctx = some r
  next : r.next = index
  inProgram : index < (ch.side ctx).commands
  noDump : ch.obs.dump = none
  noHold : (ch.models.holds.any fun h => h.ctx == ctx && h.part.isNone) = false
  unfailed : r.failed = none
  goesOn : ch.stepStops ctx r.number index = false
  clear : r.clear (ch.cmdRanges ctx r.number r.m index).1 (ch.cmdRanges ctx r.number r.m index).2 = true

/-- An earlier operation of a DRAIN's partition has not entered it (log 47). -/
def Chan.drainWaits (ch : Chan) (ctx index : Nat) : Bool :=
  ch.vpe.wfq.any fun x =>
    x.ctx == ctx && decide (x.unit < 32) && ((ch.side ctx).cmd x.index).unit == ((ch.side ctx).cmd index).unit

/-- The run `r` with command `index` issued, as its tables are loaded in `a`. -/
def Chan.issuedRun (ch a : Chan) (ctx index : Nat) (r : Run) : Run :=
  { r with
    next := index + 1
    live := r.live ++ [{ index := index, at_ := a.now, reads := (ch.cmdRanges ctx r.number r.m index).1
                         writes := (ch.cmdRanges ctx r.number r.m index).2 }]
    out := if ((ch.side ctx).cmd index).output then some (a.outputOf ctx r.number ((ch.side ctx).cmd index)) else r.out }

/-- The channel with the tables of command `index` loaded and the command issued, before it goes to its unit. -/
def Chan.issued (ch : Chan) (ctx index : Nat) (r : Run) : Chan :=
  let a := (ch.loadTables ctx r.number index).2
  (a.setRun ctx (ch.issuedRun a ctx index r)).traceCmd 4 ctx index 0

section

variable {ch : Chan} {ctx index op : Nat} {r : Run}

/-- A command that may issue, with its tables loaded and no earlier command to wait for, goes to its unit. -/
theorem Chan.seqIssue_issues (h : ch.MayIssue ctx index r) (hload : (ch.loadTables ctx r.number index).1 = true)
    (hop : ((ch.side ctx).cmd index).opcode = op) (hdrain : (op == 0x0A && ch.drainWaits ctx index) = false)
    (hsync : (op == 0x0B && !r.live.isEmpty) = false) :
    ch.seqIssue ctx index op = (ch.issued ctx index r).toOwnUnit ctx index r.m := by
  obtain ⟨hrun, hnext, hprog, hdump, hhold, hfailed, hgoes, hclear⟩ := h
  have hfirst : ¬ (index ≠ r.next ∨ (ch.side ctx).commands ≤ index ∨ ((ch.side ctx).cmd index).opcode ≠ op ∨
      ch.obs.dump ≠ none) := by
    simp [hnext, hop, hdump, hprog]
  unfold Chan.drainWaits at hdrain
  unfold Chan.seqIssue Chan.issued Chan.issuedRun
  simp only [hrun, hfirst, hhold, hfailed, hgoes, hclear, hdrain, hsync, hload, if_false, Option.isNone_none, Option.isSome_none,
    Bool.and_false, Bool.false_and, Bool.false_eq_true, Bool.true_eq_false, or_self, Bool.not_true]

theorem Chan.issued_run (ch : Chan) (ctx index : Nat) (r : Run) :
    (ch.issued ctx index r).run ctx = some (ch.issuedRun (ch.loadTables ctx r.number index).2 ctx index r) :=
  (Chan.run_congr (Chan.traceCmd_models _ _ _ _ _) ctx).trans (Chan.run_setRun _ _ _)

theorem Chan.issued_side (ch : Chan) (ctx index : Nat) (r : Run) : (ch.issued ctx index r).side ctx = ch.side ctx := by
  refine Chan.side_congr ?_ ctx
  rw [Chan.issued, Chan.traceCmd_models]
  exact ch.loadTables_sides ctx r.number index

/-- The status that a GATHER completes with: 1 where the last row of its run lies outside the window (R223). -/
def Chan.gatherStatus (ch : Chan) (ctx : Nat) (r : Run) : Nat :=
  if r.m = 0 ∨ (ch.gatherRow ctx r.number (r.m - 1) (ch.gatherBytes ctx r.number r.width)).isSome then 0 else 1

theorem Chan.gatherStatus_inside (h : r.m = 0 ∨ (ch.gatherRow ctx r.number (r.m - 1) (ch.gatherBytes ctx r.number r.width)).isSome) :
    ch.gatherStatus ctx r = 0 :=
  if_pos h

theorem Chan.gatherStatus_outside (hrows : r.m ≠ 0)
    (h : ch.gatherRow ctx r.number (r.m - 1) (ch.gatherBytes ctx r.number r.width) = none) : ch.gatherStatus ctx r = 1 :=
  if_neg (by simp [hrows, h])

/-- A GATHER completes as it issues. -/
theorem Chan.toOwnUnit_gather (hop : ((ch.side ctx).cmd index).opcode = 8) :
    (ch.issued ctx index r).toOwnUnit ctx index r.m =
      (ch.issued ctx index r).cmdDone ctx index ((ch.issued ctx index r).gatherStatus ctx r) := by
  simp only [Chan.toOwnUnit, Chan.issued_side, hop, Chan.issued_run]
  rfl

/-- So does a SYNC. -/
theorem Chan.toOwnUnit_sync (hop : ((ch.side ctx).cmd index).opcode = 0x0B) :
    (ch.issued ctx index r).toOwnUnit ctx index r.m = (ch.issued ctx index r).cmdDone ctx index 0 := by
  simp only [Chan.toOwnUnit, Chan.issued_side, hop]

end

theorem Agrees.run {a b : Chan} (h : Agrees a b) (ctx : Nat) : b.run ctx = a.run ctx := Chan.run_congr h.models ctx

/-- Settles O21: every opcode passes the same gate of the sequencer, and goes where Chan.toOwnUnit sends it. -/
theorem sequencerIssuesInOrder : Obligations.SequencerIssuesInOrder := by
  rintro s c ch ctx index r _ _ h hc hrun hnext hprog hdump hhold hfailed hgoes hclear rfl hload rfl
  have hready : ch.MayIssue ctx index r := ⟨hrun, hnext, hprog, hdump, hhold, hfailed, hgoes, hclear⟩
  have issues {i : Instr} {op : Nat} (hi : exec i s = .next (s.onClocked c fun ch => ch.seqIssue ctx index op))
      (hop : ((ch.side ctx).cmd index).opcode = op) (hdrain : (op == 0x0A && ch.drainWaits ctx index) = false)
      (hsync : (op == 0x0B && !r.live.isEmpty) = false) :
      ∃ t, exec i s = .next t ∧ Agrees ((ch.issued ctx index r).toOwnUnit ctx index r.m) (t.chan c) :=
    exec_clocked h hi hc (Chan.seqIssue_issues hready hload hop hdrain hsync)
  refine ⟨fun hop => issues rfl hop rfl rfl, fun hop => issues rfl hop rfl rfl, fun hop => issues rfl hop rfl rfl,
    fun hop => issues rfl hop rfl rfl, fun hop => issues rfl hop rfl rfl, fun hop => issues rfl hop rfl rfl,
    fun hop => issues rfl hop rfl rfl, fun hop hwait => issues rfl hop hwait rfl, ?_, ?_, ?_⟩
  · rintro _ hop rfl hin
    obtain ⟨t, ht, ha⟩ := issues (i := .gather c ctx index) rfl hop rfl rfl
    rw [Chan.toOwnUnit_gather hop, Chan.gatherStatus_inside (ch := ch.issued ctx index r) hin] at ha
    refine ⟨t, ht, ha, ?_⟩
    rw [ha.run, Chan.cmdDone_complete (ch.issued_run ctx index r)]
    exact congrArg (fun f => some (index + 1, f)) hfailed
  · rintro _ hop rfl hrows hout
    obtain ⟨t, ht, ha⟩ := issues (i := .gather c ctx index) rfl hop rfl rfl
    rw [Chan.toOwnUnit_gather hop, Chan.gatherStatus_outside (ch := ch.issued ctx index r) hrows hout] at ha
    refine ⟨t, ht, ha, ?_⟩
    rw [ha.run]
    exact Chan.cmdDone_next (ch.issued_run ctx index r) 1
  · intro hop hidle
    obtain ⟨t, ht, ha⟩ := issues (i := .sync c ctx index) rfl hop rfl (by rw [hidle]; rfl)
    rw [Chan.toOwnUnit_sync hop] at ha
    refine ⟨t, ht, ha, ?_⟩
    rw [ha.run, Chan.cmdDone_complete (ch.issued_run ctx index r)]
    simp [Chan.issuedRun, hidle, hfailed]

end Sys2Proof.Machine
end

section
/-!
PROOFS of 08_model_programs_and_replacement.md: a batch closes and becomes a run, and the run ends (R223, R224, R227, R234).
-/

namespace Sys2Proof.Machine
open Sys2Proof

/-! ## What composing a verdict leaves -/

/-- `b` has the sequencer contexts and the silenced slots of `a`. -/
structure RunsKept (a b : Chan) : Prop where
  runs : b.models.runs = a.models.runs
  muted : b.chk.muted = a.chk.muted

namespace RunsKept

theorem refl (a : Chan) : RunsKept a a := ⟨rfl, rfl⟩

theorem trans {a b c : Chan} (h : RunsKept a b) (g : RunsKept b c) : RunsKept a c :=
  ⟨g.runs.trans h.runs, g.muted.trans h.muted⟩

theorem ite {p : Prop} [Decidable p] {a b c : Chan} (h : RunsKept a b) (g : RunsKept a c) : RunsKept a (if p then b else c) := by
  split
  · exact h
  · exact g

theorem foldl {α : Type} {g : Chan → α → Chan} (hg : ∀ a x, RunsKept a (g a x)) (l : List α) (a : Chan) :
    RunsKept a (l.foldl g a) := by
  induction l generalizing a with
  | nil => exact refl a
  | cons x l ih => exact (hg a x).trans (ih _)

theorem of_raiseFrame {a b : Chan} (h : RaiseFrame a b) : RunsKept a b :=
  ⟨congrArg Models.runs h.models, congrArg (·.muted) h.chk⟩

theorem inc (a : Chan) (k n : Nat) : RunsKept a (a.inc k n) := ⟨rfl, rfl⟩

theorem raise (a : Chan) (e : Ev) (t n : Option Nat) : RunsKept a (a.raise e t n) := of_raiseFrame (.raise a e t n)

theorem count (a : Chan) (k : Nat) (e : Ev) (t : Option Nat) (n : Nat) : RunsKept a (a.count k e t n) :=
  (inc a k n).trans (raise _ e t _)

theorem modJob (a : Chan) (id : Nat) (f : Job → Job) : RunsKept a (a.modJob id f) := ⟨rfl, rfl⟩

theorem work (a : Chan) (us : List Nat) : RunsKept a (a.work us) := ⟨rfl, rfl⟩

theorem undoFree (a : Chan) (id : Nat) : RunsKept a (a.undoFree id) := ⟨rfl, rfl⟩

theorem setMeter (a : Chan) (n : Nat) (m : Meter) : RunsKept a (a.setMeter n m) := ⟨rfl, rfl⟩

theorem setHq (a : Chan) (i q : Nat) (rs : List (List Byte)) : RunsKept a (a.setHq i q rs) := of_raiseFrame (.setHq a i q rs)

theorem setSide (a : Chan) (ctx : Nat) (x : Side) : RunsKept a (a.setSide ctx x) := ⟨rfl, rfl⟩

theorem pushTx (a : Chan) (t : TxRec) : RunsKept a (a.pushTx t) := by
  rw [Chan.pushTx_eq]
  exact ⟨rfl, rfl⟩

theorem noteEpoch (a : Chan) (ctxs : List Nat) : RunsKept a (a.noteEpoch ctxs) := foldl (fun a x => setSide a x _) ctxs a

theorem meterLost (a : Chan) (n : Nat) (t : Option Nat) : RunsKept a (a.meterLost n t) := by
  refine RunsKept.trans ?_ (raise _ _ _ _)
  exact ⟨rfl, rfl⟩

theorem colour (a : Chan) (j : Job) (x : Action) : RunsKept a (a.colour j x).2 := by
  unfold Chan.colour
  split
  · exact inc a _ _
  · dsimp only
    split
    · exact meterLost a _ _
    · split
      · exact refl a
      · exact (ite (refl a) (setMeter a _ _)).trans (inc _ _ _)

theorem scoredRec (a : Chan) (j : Job) (ctx : Nat) (outs : List Nat) : RunsKept a (a.scoredRec j ctx outs).2.2.2 := by
  unfold Chan.scoredRec
  dsimp only
  rw [apply_ite fun p : VRec × Nat × Action × Chan => p.2.2.2, apply_ite fun p : VRec × Nat × Action × Chan => p.2.2.2]
  dsimp only
  exact ite (count a _ _ _ _) (ite (colour a j _) (refl a))

theorem mirrorCopy (a : Chan) (j : Job) (r : VRec) : RunsKept a (a.mirrorCopy j r) := by
  unfold Chan.mirrorCopy
  exact ite (refl a) (ite (setHq a _ _ _) (count a _ _ _ _))

theorem dispatchVerdict (a : Chan) (id : Nat) (r : VRec) (forest : Bool) (i : Nat) :
    RunsKept a (a.dispatchVerdict id r forest i) := by
  unfold Chan.dispatchVerdict
  exact ite (modJob a _ _) (((modJob a _ _).trans (ite (refl _) (undoFree _ _))).trans (pushTx _ _))

/-- A verdict is counted, scored, noted on its sides, mirrored and sent; none of it touches a run. -/
theorem compose (a : Chan) (id : Nat) : RunsKept a (a.compose id) := by
  unfold Chan.compose
  split
  · exact refl a
  · dsimp only
    split
    · exact refl a
    · have hcounted (i : Nat) : RunsKept a (((a.inc (R.OBS_TCNT i 0)).work [25]).inc R.VPE_CNT_VERDICT) :=
        ((inc a _ _).trans (work _ _)).trans (inc _ _ _)
      split
      · exact refl a
      · split
        · refine RunsKept.trans ?_ (dispatchVerdict _ _ _ _ _)
          refine RunsKept.trans ?_ (ite (inc _ _ _) (refl _))
          refine RunsKept.trans ?_ (ite (refl _) (ite (modJob _ _ _) (mirrorCopy _ _ _)))
          exact ((((hcounted _).trans (inc _ _ _)).trans (scoredRec _ _ _ _)).trans (modJob _ _ _)).trans (noteEpoch _ _)
        · exact ((((hcounted _).trans (inc _ _ _)).trans (inc _ _ _)).trans (modJob _ _ _)).trans (dispatchVerdict _ _ _ _ _)

theorem noNets (a : Chan) (ctx : Nat) (ids : List Nat) : RunsKept a (a.noNets ctx ids) :=
  foldl (fun a id => (modJob a id _).trans (compose _ id)) ids a

theorem netArrives (a : Chan) (ctx : Nat) (wide : Bool) (id : Nat) (outs : Option (List Nat)) :
    RunsKept a (a.netArrives ctx wide id outs) :=
  ((ite (inc a _ _) (refl a)).trans (modJob _ _ _)).trans (compose _ _)

theorem runFailed (a : Chan) (ctx : Nat) : RunsKept a (a.runFailed ctx) := count a _ _ _ _

end RunsKept

theorem Chan.seqr_congr {a b : Chan} (h : b.models.runs = a.models.runs) (ctx : Nat) : b.seqr ctx = a.seqr ctx := by
  simp only [Chan.seqr, h]

/-! ## Batches and the start of a run -/

section

variable {ch : Chan} {ctx : Nat} {b : Batch}

/-- An open batch that is full or has waited its time closes. -/
theorem Chan.batchCloseDue_due (hbatch : (ch.seqr ctx).batch = some b) (hopen : b.closed = false)
    (hdue : ch.batchCap ctx ≤ b.jobs.length ∨ ch.sinceC b.at_ 126 = true) :
    ch.batchCloseDue ctx =
      let g := (ch.side ctx).cmd 0
      let x := ch.widenTensor ctx (ch.seqr ctx).count g.w40 g.w20 g.w24 b.sats b.rows
      x.2.setSeqr ctx { ch.seqr ctx with batch := some { b with closed := true, wide := !x.1.isEmpty } } := by
  unfold Chan.batchCloseDue Chan.batchClose
  simp only [hbatch, hopen, hdue, if_true, Bool.false_eq_true, if_false]

theorem Chan.runStart_runs (hbatch : (ch.seqr ctx).batch = some b) (hidle : (ch.seqr ctx).run = none) (hclosed : b.closed = true)
    (hkind : ch.slotKind (ctxSlot ctx) = 1) (hruns : ch.sideRuns ctx = true) :
    ch.runStart ctx =
      let g := (ch.side ctx).cmd 0
      let k := (ch.seqr ctx).count
      let w := if b.wide then (ch.side ctx).layersFrom g.w20 (b.jobs.length * g.w24) else []
      (ch.setSeqr ctx { batch := none, count := k + 1
                        run := some { number := k, at_ := ch.now, m := b.jobs.length, jobs := b.jobs, width := b.width, wide := w } }).inc
        R.CHN_CNT_RUNS := by
  unfold Chan.runStart
  simp only [hbatch, hidle, hclosed, hkind, hruns, Bool.true_eq_false, ne_eq, not_true_eq_false, or_self, if_false]

/-- The batch of a side that may start no run is dropped, counted as a failed run where the side was quarantined while RETIRING. -/
theorem Chan.runStart_drops (hbatch : (ch.seqr ctx).batch = some b) (hidle : (ch.seqr ctx).run = none) (hclosed : b.closed = true)
    (hkind : ch.slotKind (ctxSlot ctx) = 1) (hruns : ch.sideRuns ctx = false) :
    ch.runStart ctx =
      ((if (ch.side ctx).dead then ch.runFailed ctx else ch).setSeqr ctx { ch.seqr ctx with batch := none }).noNets ctx b.jobs := by
  unfold Chan.runStart
  simp only [hbatch, hidle, hclosed, hkind, hruns, Bool.true_eq_false, ne_eq, not_true_eq_false, or_self, if_false, if_true]

/-- No run comes of it. -/
theorem Chan.noNets_run (a : Chan) (ctx : Nat) (x : SideRun) (hidle : x.run = none) (ids : List Nat) :
    (((a.setSeqr ctx x).noNets ctx ids).seqr ctx).run = none := by
  rw [Chan.seqr_congr (RunsKept.noNets _ ctx ids).runs, Chan.seqr_setSeqr]
  exact hidle

end

/-! ## The end of a run -/

/-- The channel with the run of a side ended, before its descriptors get their results. -/
def Chan.runEnded (ch : Chan) (ctx : Nat) (failed : Bool) : Chan :=
  let a := ch.setSeqr ctx { ch.seqr ctx with run := none }
  (if failed then a.runFailed ctx else a).noteEpoch [ctx]

theorem Chan.runEnded_muted (ch : Chan) (ctx : Nat) (failed : Bool) : (ch.runEnded ctx failed).chk.muted = ch.chk.muted := by
  have hended : (ch.setSeqr ctx { ch.seqr ctx with run := none }).chk.muted = ch.chk.muted := rfl
  exact ((RunsKept.ite (.runFailed _ ctx) (.refl _)).trans (.noteEpoch _ _)).muted.trans hended

/-- The results of a run reach its descriptors, row by row, or none does. -/
def Chan.netsArrive (ch : Chan) (ctx : Nat) (wide absent : Bool) (l : List (Nat × List Nat)) : Chan :=
  l.foldl (fun a x => a.netArrives ctx wide x.1 (if absent then none else some x.2)) ch

/-- No result changes which slots Safe Serve has silenced, so each is judged as the first. -/
theorem Chan.netsArrive_muted {ctx : Nat} {wide failed muted : Bool} (l : List (Nat × List Nat)) {a : Chan}
    (h : a.chk.muted.contains (ctxSlot ctx) = muted) :
    l.foldl (fun a x => a.netArrives ctx wide x.1 (if failed || a.chk.muted.contains (ctxSlot ctx) then none else some x.2)) a =
      a.netsArrive ctx wide (failed || muted) l := by
  induction l generalizing a with
  | nil => rfl
  | cons x l ih =>
    simp only [List.foldl_cons, Chan.netsArrive, h]
    exact ih ((RunsKept.netArrives a ctx wide _ _).muted.symm ▸ h)

/-- Where no result arrives, the descriptors alone count. -/
theorem Chan.netsArrive_absent (ch : Chan) (ctx : Nat) (wide : Bool) {ids : List Nat} {rows : List (List Nat)}
    (h : ids.length ≤ rows.length) :
    ch.netsArrive ctx wide true (ids.zip rows) = ids.foldl (fun a id => a.netArrives ctx wide id none) ch := by
  conv_rhs => rw [← List.map_fst_zip h, List.foldl_map]
  rfl

section

variable {ch : Chan} {ctx : Nat} {r : Run}

/-- The rows that a run's output command wrote, one a descriptor. -/
def Chan.runRows (ch : Chan) (ctx : Nat) (r : Run) : List (List Nat) := (List.range r.jobs.length).map (ch.runOutputs ctx r)

theorem Chan.runRows_length (ch : Chan) (ctx : Nat) (r : Run) : r.jobs.length ≤ (ch.runRows ctx r).length := by
  simp [Chan.runRows]

theorem Chan.runComplete_due (hrun : ch.run ctx = some r) (hkind : ch.slotKind (ctxSlot ctx) = 1)
    (hissued : (ch.side ctx).commands ≤ r.next) (hlive : r.live = []) {muted : Bool}
    (hmuted : ch.chk.muted.contains (ctxSlot ctx) = muted) :
    ch.runComplete ctx = (ch.runEnded ctx r.failed.isSome).netsArrive ctx (!r.wide.isEmpty) (r.failed.isSome || muted)
      (r.jobs.zip (ch.runRows ctx r)) := by
  have hwait : ¬ (ch.slotKind (ctxSlot ctx) ≠ 1 ∨ r.next < (ch.side ctx).commands ∨ r.live.isEmpty = false) := by
    simp [hkind, hissued, hlive]
  rw [← Chan.netsArrive_muted _ ((ch.runEnded_muted ctx r.failed.isSome).symm ▸ hmuted)]
  unfold Chan.runComplete
  simp only [hrun, hwait, if_false]
  rfl

/-- A run that failed, or whose slot gives no result, hands none to its descriptors. -/
theorem Chan.runComplete_absent (hrun : ch.run ctx = some r) (hkind : ch.slotKind (ctxSlot ctx) = 1)
    (hissued : (ch.side ctx).commands ≤ r.next) (hlive : r.live = [])
    (habsent : (r.failed.isSome || ch.chk.muted.contains (ctxSlot ctx)) = true) :
    ch.runComplete ctx =
      r.jobs.foldl (fun a id => a.netArrives ctx (!r.wide.isEmpty) id none) (ch.runEnded ctx r.failed.isSome) := by
  rw [Chan.runComplete_due hrun hkind hissued hlive rfl, habsent]
  exact Chan.netsArrive_absent _ _ _ (ch.runRows_length ctx r)

end

/-- Settles O24: each command finds its batch or run due, and composing a verdict changes neither runs nor which slots are silent. -/
theorem batchesAndRuns : Obligations.BatchesAndRuns := by
  intro s c ch ctx h hc
  refine ⟨?_, ?_, ?_, ?_, ?_, ?_⟩
  · intro b hbatch hopen hdue
    exact exec_clocked h (i := .batchClose c ctx) rfl hc (Chan.batchCloseDue_due hbatch hopen hdue)
  · intro b hbatch hidle hclosed hkind hruns
    exact exec_clocked h (i := .runStart c ctx) rfl hc (Chan.runStart_runs hbatch hidle hclosed hkind hruns)
  · intro b hbatch hidle hclosed hkind hruns
    obtain ⟨t, ht, ha⟩ := exec_clocked h (i := .runStart c ctx) rfl hc (Chan.runStart_drops hbatch hidle hclosed hkind hruns)
    have hnone := Chan.noNets_run (if (ch.side ctx).dead then ch.runFailed ctx else ch) ctx { ch.seqr ctx with batch := none } hidle
      b.jobs
    exact ⟨t, ht, ha, (ha.run ctx).trans hnone⟩
  · intro r hrun hkind hissued hlive hfailed hmuted
    have hstep := Chan.runComplete_due hrun hkind hissued hlive hmuted
    rw [hfailed] at hstep
    exact exec_clocked h (i := .runComplete c ctx) rfl hc hstep
  · intro r hrun hkind hissued hlive hfailed hmuted
    have hstep := Chan.runComplete_absent hrun hkind hissued hlive (by rw [hmuted, Bool.or_true])
    rw [hfailed] at hstep
    exact exec_clocked h (i := .runComplete c ctx) rfl hc hstep
  · intro r e hrun hkind hissued hlive hfailed
    have hstep := Chan.runComplete_absent hrun hkind hissued hlive (by rw [hfailed]; rfl)
    rw [hfailed] at hstep
    exact exec_clocked h (i := .runComplete c ctx) rfl hc hstep

end Sys2Proof.Machine
end

section
/-!
PROOFS of 08_model_programs_and_replacement.md: staging requests, the FOREST record, and the ends of a staging and of a refetch (R223,
R233, R234, R237, R242).
-/

namespace Sys2Proof.Machine
open Sys2Proof

/-! ## Channels that agree -/

theorem Agrees.symm {a b : Chan} (h : Agrees a b) : Agrees b a where
  idx := h.idx.symm
  now := h.now.symm
  core := h.core.symm
  sid := h.sid.symm
  rwo := h.rwo.symm
  draws := h.draws.symm
  host := h.host.symm
  port := h.port.symm
  pwr := h.pwr.symm
  parser := h.parser.symm
  flow := h.flow.symm
  mem := h.mem.symm
  ftr := h.ftr.symm
  fst := h.fst.symm
  vpe := h.vpe.symm
  eng := h.eng.symm
  models := h.models.symm
  jobs := h.jobs.symm
  jobNum := h.jobNum.symm
  chk := h.chk.symm
  trn := h.trn.symm
  trnLast := h.trnLast.symm
  zlk := h.zlk.symm
  boot := h.boot.symm
  flash := h.flash.symm
  fuses := h.fuses.symm
  rd k hk := (h.rd k hk).symm

/-- The vectors that tell of a change of a slot are all it does. -/
theorem RaiseFrame.slotChange (a : Chan) (n : Nat) : RaiseFrame a (a.slotChange n) := by
  unfold Chan.slotChange
  dsimp only
  split
  · exact (RaiseFrame.vector a _ _ _).trans (.vector _ _ _ _)
  · exact .vector a _ _ _

@[simp] theorem Chan.slotChange_models (a : Chan) (n : Nat) : (a.slotChange n).models = a.models :=
  (RaiseFrame.slotChange a n).models

theorem Agrees.slotChange (a : Chan) (n : Nat) : Agrees a (a.slotChange n) := by
  have h := RaiseFrame.slotChange a n
  exact { h with rd := fun k hk => h.rd k fun hr => hk (.inl hr) }

/-- An event before the vectors of a slot's change. -/
theorem Agrees.slotChange_raise (a : Chan) (e : Ev) (t cnt : Option Nat) (n : Nat) :
    Agrees (a.slotChange n) ((a.raise e t cnt).slotChange n) :=
  (Agrees.slotChange a n).symm.trans ((Agrees.raise a e t cnt).trans (.slotChange _ n))

/-! ## Requests -/

section

variable (ch : Chan) (n : Nat)

/-- The channel with slot `n` named in CHN_STAGE_REQ. -/
def Chan.stageNamed : Chan := ch.setFld R.CHN_STAGE_REQ F.CHN_STAGE_REQ_slot n

/-- The staging into slot `n` that the staging registers ask for (R237). -/
def Chan.stagingAsked : Staging :=
  { slot := n, side := 1 - ch.servingSide n
    src := ch.fld R.CHN_STAGE_SRC F.CHN_STAGE_SRC_address / 4096 * 4096
    tier := ch.fld R.CHN_STAGE_BACKUP F.CHN_STAGE_BACKUP_tier
    back := ch.fld R.CHN_STAGE_BACKUP F.CHN_STAGE_BACKUP_address / 4096 * 4096
    banks := ch.fld R.CHN_STAGE_BANKS F.CHN_STAGE_BANKS_bank_mask, at_ := ch.now }

/-- The channel with a staging begun: its side has the header and the program of the package. -/
def Chan.stagingBegun (st : Staging) : Chan :=
  let a := { ch with models := { ch.models with staging := some st } }
  let b := a.setSide (ctxOf st.slot st.side) { header := (a.sideOfPackage st).header, program := (a.sideOfPackage st).program }
  ((b.setStandby st.slot 1).stageStatus 1 0 2 st.slot).slotChange st.slot

theorem Chan.stageNamed_stagingAsked : (ch.stageNamed n).stagingAsked n = ch.stagingAsked n := by
  have hside : (ch.stageNamed n).servingSide n = ch.servingSide n :=
    ch.fld_setFld_ne _ _ _ (by simp only [R.CHN_SLOT_STATE, R.CHN_STAGE_REQ]; omega)
  have hregs {k : Nat} (f : Fld) (hk : k ≠ R.CHN_STAGE_REQ) : (ch.stageNamed n).fld k f = ch.fld k f := ch.fld_setFld_ne _ _ _ hk
  simp only [Chan.stagingAsked, hside, hregs _ (show R.CHN_STAGE_SRC ≠ _ by decide),
    hregs _ (show R.CHN_STAGE_BACKUP ≠ _ by decide), hregs _ (show R.CHN_STAGE_BANKS ≠ _ by decide)]
  rfl

end

section

variable {ch : Chan} {inst n : Nat} {v : Word}

theorem Chan.stageRequest_foreign (h : ch.slotForeign inst (getF v F.CHN_STAGE_REQ_slot) = true) :
    ch.stageRequest inst v = ch.raise EV_CHN_VF_DENIED (some (inst - 1)) :=
  if_pos h

theorem Chan.stageRequest_idle (hslot : getF v F.CHN_STAGE_REQ_slot = n) (hown : ch.slotForeign inst n = false)
    (hstart : getF v F.CHN_STAGE_REQ_start = 0) : ch.stageRequest inst v = ch.stageNamed n := by
  subst hslot
  unfold Chan.stageRequest
  simp only [hown, hstart, if_true, Bool.false_eq_true, if_false]
  rfl

/-- A request of a slot of its own, with start set, goes to step 1 of Table 08.11. -/
theorem Chan.stageRequest_start (hslot : getF v F.CHN_STAGE_REQ_slot = n) (hown : ch.slotForeign inst n = false)
    (hstart : getF v F.CHN_STAGE_REQ_start = 1) :
    ch.stageRequest inst v =
      let st := (ch.stageNamed n).stagingAsked n
      (ch.stageNamed n).stageBegin n st.src st.tier st.back st.banks := by
  subst hslot
  unfold Chan.stageRequest
  simp only [hown, hstart, Nat.one_ne_zero, Bool.false_eq_true, if_false]
  rfl

theorem Chan.stageBegin_begins (h : ch.stageStep1 n = none) :
    (let st := ch.stagingAsked n; ch.stageBegin n st.src st.tier st.back st.banks) = ch.stagingBegun (ch.stagingAsked n) := by
  unfold Chan.stageBegin
  simp only [h]
  rfl

theorem Chan.stageBegin_fails {r : Nat} (h : ch.stageStep1 n = some r) (src tier back banks : Nat) :
    ch.stageBegin n src tier back banks =
      ((ch.stageStatus 3 r 1 n).count R.CHN_CNT_STAGE_FAIL EV_CHN_STAGE_FAIL (some (ch.slotTenant n))).slotChange n := by
  unfold Chan.stageBegin
  simp only [h]

theorem Chan.forestBind_binds {x : Staging} (hstaging : ch.models.staging = some x) (hkind : ch.slotKind x.slot = 0)
    (hserve : ch.safeServe = false) (hop : ((ch.sideOfPackage x).cmd 0).opcode = 7) :
    ch.forestBind = { ch with models := { ch.models with staging := some { x with bound := true } } } := by
  unfold Chan.forestBind
  simp only [hstaging, hkind, hserve, hop, and_self, if_true]

end

/-! ## The end of a staging -/

section

variable {ch : Chan} {x : Staging}

/-- The channel without its staging `x`: nothing is left of the side that it was for. -/
def Chan.stagingDropped (ch : Chan) (x : Staging) : Chan :=
  (Chan.dropTables { ch with models := { ch.models with staging := none } } (ctxOf x.slot x.side)).setSide (ctxOf x.slot x.side) {}

theorem Chan.stagingDropped_side (ch : Chan) (x : Staging) : (ch.stagingDropped x).side (ctxOf x.slot x.side) = {} :=
  Chan.side_setSide _ _ _

theorem Chan.stageFail_models (hstaging : ch.models.staging = some x) (step reason : Nat) :
    (ch.stageFail step reason).models = (ch.stagingDropped x).models := by
  unfold Chan.stageFail Chan.stagingDropped
  rw [hstaging]
  dsimp only
  rw [Chan.slotChange_models, Chan.count_models, Chan.setFld_models, Chan.setFld_models, Chan.setFld_models]
  exact Chan.setFld_models _ _ _ _

/-- A staging that ends at a fault leaves no staging, and its side empty. -/
theorem Chan.stageFault_ends (hstaging : ch.models.staging = some x) (f : StageFault) :
    (ch.stageFault f).models.staging = none ∧ (ch.stageFault f).side (ctxOf x.slot x.side) = {} := by
  have hends (a : Chan) (ha : a.models.staging = some x) :
      (a.stageFail f.step f.reason).models.staging = none ∧ (a.stageFail f.step f.reason).side (ctxOf x.slot x.side) = {} := by
    have hmodels := Chan.stageFail_models ha f.step f.reason
    exact ⟨congrArg Models.staging hmodels, (Chan.side_congr (congrArg Models.sides hmodels) _).trans (a.stagingDropped_side x)⟩
  unfold Chan.stageFault
  cases f.ev with
  | none => exact hends ch hstaging
  | some e => exact hends _ ((congrArg Models.staging (ch.raise_models e _ none)).trans hstaging)

theorem Chan.stageComplete_fault (hstaging : ch.models.staging = some x) (hserve : ch.safeServe = false) {f : StageFault}
    (hchecks : ch.stageChecks x = some f) (err : Bool) :
    ch.stageComplete err = (if 6 ≤ f.step then ch.inc R.CHK_CNT_SEAL_CHECK (ch.sideOfPackage x).tiles else ch).stageFault f := by
  unfold Chan.stageComplete
  simp only [hstaging, hserve, hchecks, Bool.false_eq_true, if_false]

/-- The channel with the package copied for the side `y` and the side STAGED. -/
def Chan.stagedAs (ch : Chan) (x : Staging) (y : Side) : Chan :=
  let b := ch.stageCopies x y
  (({ b with models := { b.models with staging := none } }).setStandby x.slot 2).stageStatus 2 0 10 x.slot

/-- How a staging ends: at the first check that fails, or with its side STAGED (R237). -/
def Chan.stageOutcome (ch : Chan) (x : Staging) (err : Bool) : Chan :=
  let a := ch.inc R.CHK_CNT_SEAL_CHECK (ch.sideOfPackage x).tiles
  match ch.stageChecks x with
  | some f => if 6 ≤ f.step then a.stageFault f else ch.stageFault f
  | none =>
    if ch.slotKind x.slot = 0 ∧ x.bound = false then ch
    else match a.stageAlloc x (a.sideOfPackage x) with
      | .error f => a.stageFault f
      | .ok y =>
        if a.backupOk x y = false then a.stageFault { step := 10, reason := 20 }
        else if err then a.stageFault { step := 10, reason := 21 }
        else (a.stagedAs x y).slotChange x.slot

theorem Chan.stageOutcome_fault {f : StageFault} (hchecks : ch.stageChecks x = some f) (err : Bool) :
    ch.stageOutcome x err = (if 6 ≤ f.step then ch.inc R.CHK_CNT_SEAL_CHECK (ch.sideOfPackage x).tiles else ch).stageFault f := by
  unfold Chan.stageOutcome
  simp only [hchecks]
  exact (apply_ite (Chan.stageFault · f) _ _ _).symm

/-- A staging ends so but for the event that reports a side STAGED. -/
theorem Chan.stageComplete_agrees (hstaging : ch.models.staging = some x) (hserve : ch.safeServe = false) (err : Bool) :
    Agrees (ch.stageOutcome x err) (ch.stageComplete err) := by
  cases hchecks : ch.stageChecks x with
  | some f =>
    rw [Chan.stageComplete_fault hstaging hserve hchecks, Chan.stageOutcome_fault hchecks]
    exact .refl _
  | none =>
    unfold Chan.stageComplete Chan.stageOutcome
    simp only [hstaging, hserve, hchecks, Bool.false_eq_true, if_false]
    by_cases hwaits : ch.slotKind x.slot = 0 ∧ x.bound = false
    · simp only [if_pos hwaits]
      exact .refl _
    · simp only [if_neg hwaits]
      generalize ch.inc R.CHK_CNT_SEAL_CHECK (ch.sideOfPackage x).tiles = a
      cases a.stageAlloc x (a.sideOfPackage x) with
      | error f => exact .refl _
      | ok y =>
        by_cases hbackup : a.backupOk x y = false
        · simp only [if_pos hbackup]
          exact .refl _
        · simp only [if_neg hbackup]
          cases err with
          | true =>
            simp only [if_true]
            exact .refl _
          | false =>
            simp only [Bool.false_eq_true, if_false]
            exact .slotChange_raise _ _ _ _ _

end

/-! ## The end of a refetch -/

section

variable {ch : Chan} {h : SealHold} {rest : List SealHold}

/-- The command whose load into partition `k` the hold `h` keeps, where its run is still the one in progress (R227). -/
def Chan.heldIndex (ch : Chan) (h : SealHold) (k : Nat) : Option Nat :=
  ((heldLoad (ch.part k).standby).or (heldLoad (ch.part k).next)).bind fun y =>
    match ch.run y.ctx with
    | some r => if y.ctx = h.ctx ∧ r.number = y.run then some y.index else none
    | none => none

theorem Chan.sealRefetchComplete_part (hholds : ch.models.holds = h :: rest) {k : Nat} (hpart : h.part = some k) :
    ch.sealRefetchComplete =
      let a : Chan := { ch with models := { ch.models with holds := rest } }
      let x := a.sealRefetch h.ctx h.tile (a.heldIndex h k)
      if x.1 then x.2.modPart k fun p => { p with standby := stageAgain p.standby, next := stageAgain p.next }
      else x.2.dropHeld k := by
  unfold Chan.sealRefetchComplete
  simp only [hholds, hpart, Option.bind_some]
  rfl

theorem Chan.sealRefetchComplete_tables (hholds : ch.models.holds = h :: rest) (hpart : h.part = none) :
    ch.sealRefetchComplete = (Chan.sealRefetch { ch with models := { ch.models with holds := rest } } h.ctx h.tile none).2 := by
  unfold Chan.sealRefetchComplete
  simp only [hholds, hpart, Option.bind_none]

end

/-- Settles O25: a request, a binding, a staging and a refetch each take the branch that the state leaves them. -/
theorem stagingTakesAPackage : Obligations.StagingTakesAPackage := by
  intro s c ch h
  refine ⟨?_, ?_, ?_, ?_, ?_, ?_, ?_, ?_, ?_⟩
  · intro src v n hr hslot hown hstart hstep
    have hrun := (Chan.stageRequest_start hslot hown hstart).trans (Chan.stageBegin_begins hstep)
    rw [Chan.stageNamed_stagingAsked] at hrun
    exact exec_writeRow h (i := .stageRequest c src v) rfl hr hrun
  · intro src v n r hr hslot hown hstart hstep
    obtain ⟨t, ht, ha⟩ := exec_writeRow h (i := .stageRequest c src v) rfl hr
      ((Chan.stageRequest_start hslot hown hstart).trans (Chan.stageBegin_fails hstep ..))
    have hagree := (Agrees.slotChange_raise _ _ _ _ n).trans ha
    exact ⟨t, ht, hagree, hagree.models.trans (Chan.slotChange_models _ n)⟩
  · intro src v n hr hslot hown hstart
    exact exec_writeRow h (i := .stageRequest c src v) rfl hr (Chan.stageRequest_idle hslot hown hstart)
  · intro src v hr hforeign
    exact exec_writeRow_raises h (i := .stageRequest c src v) rfl hr (Chan.stageRequest_foreign hforeign) (by decide)
  · intro x hc hstaging hkind hserve hop
    exact exec_clocked h (i := .forest c) rfl hc (Chan.forestBind_binds hstaging hkind hserve hop)
  · intro err x f hc hstaging hserve hchecks
    obtain ⟨t, ht, ha⟩ := exec_clocked h (i := .stageComplete c err) rfl hc (Chan.stageComplete_fault hstaging hserve hchecks err)
    have hcounted : (if 6 ≤ f.step then ch.inc R.CHK_CNT_SEAL_CHECK (ch.sideOfPackage x).tiles else ch).models.staging = some x := by
      split <;> exact hstaging
    obtain ⟨hnone, hempty⟩ := Chan.stageFault_ends hcounted f
    exact ⟨t, ht, ha, (congrArg Models.staging ha.models).trans hnone,
      (Chan.side_congr (congrArg Models.sides ha.models) _).trans hempty⟩
  · intro err x hc hstaging hserve
    obtain ⟨t, ht, ha⟩ := exec_clocked h (i := .stageComplete c err) rfl hc rfl
    exact ⟨t, ht, (Chan.stageComplete_agrees hstaging hserve err).trans ha⟩
  · intro x rest k hc hholds hpart
    exact exec_clocked h (i := .sealRefetchComplete c) rfl hc (Chan.sealRefetchComplete_part hholds hpart)
  · intro x rest hc hholds hpart
    exact exec_clocked h (i := .sealRefetchComplete c) rfl hc (Chan.sealRefetchComplete_tables hholds hpart)

end Sys2Proof.Machine
end

section
/-!
PROOFS of 08_model_programs_and_replacement.md: slot commands, the boundary that exchanges a slot's sides, and release (R238 to R241).
-/

namespace Sys2Proof.Machine
open Sys2Proof

/-! ## What CHN_SLOT_STATE shows -/

/-- No event writes the state of a slot. -/
theorem not_settleKey_slotState (n : Fin 64) : ¬ settleKey (R.CHN_SLOT_STATE n) :=
  not_settleKey_of (by
    simp only [R.CHN_SLOT_STATE, R.CHN_EVQ_CTRL, R.VPE_CNT_TELEM_DROP, R.OBS_FREEZE, R.OBS_FREEZE_TIME, R.OBS_CNT_FREEZES]
    omega)

theorem Agrees.standbyState {a b : Chan} (h : Agrees a b) (n : Fin 64) : b.standbyState n = a.standbyState n :=
  h.fld (not_settleKey_slotState n) _

theorem Chan.standbyState_setStandby (ch : Chan) (n : Nat) {v : Nat} (h : v < 8) : (ch.setStandby n v).standbyState n = v :=
  (ch.fld_setFld_same _ _ _ (by decide)).trans (Nat.mod_eq_of_lt h)

/-- The standby state that is set before the vectors of the change is the one shown. -/
theorem Agrees.standby_shown {a b : Chan} {n : Fin 64} {v : Nat} (h : Agrees ((a.setStandby n v).slotChange n) b) (hv : v < 8) :
    b.standbyState n = v :=
  (((Agrees.slotChange _ _).trans h).standbyState n).trans (a.standbyState_setStandby n hv)

/-- Slot `n` shows its serving side, that side's state, and the state of the other side. -/
structure Chan.SlotShows (ch : Chan) (n side serving standby : Nat) : Prop where
  servingSide : ch.servingSide n = side
  servingState : ch.servingState n = serving
  standbyState : ch.standbyState n = standby

namespace Chan.SlotShows

variable {a b : Chan} {side serving standby : Nat}

theorem agrees {n : Fin 64} (h : a.SlotShows n side serving standby) (hab : Agrees a b) : b.SlotShows n side serving standby where
  servingSide := (hab.fld (not_settleKey_slotState n) _).trans h.servingSide
  servingState := (hab.fld (not_settleKey_slotState n) _).trans h.servingState
  standbyState := (hab.standbyState n).trans h.standbyState

variable {n : Nat}

theorem setSide (h : a.SlotShows n side serving standby) (ctx : Nat) (x : Side) : (a.setSide ctx x).SlotShows n side serving standby :=
  ⟨h.servingSide, h.servingState, h.standbyState⟩

theorem ite {p : Prop} [Decidable p] (h : a.SlotShows n side serving standby) (g : b.SlotShows n side serving standby) :
    (if p then a else b).SlotShows n side serving standby := by
  split
  · exact h
  · exact g

/-- The count of swaps lies beside the three fields. -/
theorem swapped (h : a.SlotShows n side serving standby) (m : Nat) :
    (a.setFld (R.CHN_SLOT_STATE n) F.CHN_SLOT_STATE_swaps m).SlotShows n side serving standby where
  servingSide := (a.fld_setFld_apart _ _ _ _ (by decide)).trans h.servingSide
  servingState := (a.fld_setFld_apart _ _ _ _ (by decide)).trans h.servingState
  standbyState := (a.fld_setFld_apart _ _ _ _ (by decide)).trans h.standbyState

theorem inc (h : a.SlotShows n side serving standby) {k : Nat} (hk : R.CHN_SLOT_STATE n ≠ k) (m : Nat) :
    (a.inc k m).SlotShows n side serving standby where
  servingSide := (a.fld_wr_ne _ _ hk).trans h.servingSide
  servingState := (a.fld_wr_ne _ _ hk).trans h.servingState
  standbyState := (a.fld_wr_ne _ _ hk).trans h.standbyState

/-- The three fields as an exchange sets them. -/
theorem set (a : Chan) (n : Nat) (hside : side < 2) (hserving : serving < 4) (hstandby : standby < 8) :
    (((a.setFld (R.CHN_SLOT_STATE n) F.CHN_SLOT_STATE_serving_side side).setServing n serving).setStandby n standby).SlotShows n
      side serving standby where
  servingSide := by
    refine (Chan.fld_setFld_apart _ _ _ _ _ (by decide)).trans ((Chan.fld_setFld_apart _ _ _ _ _ (by decide)).trans ?_)
    exact (a.fld_setFld_same _ _ _ (by decide)).trans (Nat.mod_eq_of_lt hside)
  servingState := by
    refine (Chan.fld_setFld_apart _ _ _ _ _ (by decide)).trans ?_
    exact (Chan.fld_setFld_same _ _ _ _ (by decide)).trans (Nat.mod_eq_of_lt hserving)
  standbyState := Chan.standbyState_setStandby _ n hstandby

end Chan.SlotShows

/-! ## Slot commands -/

/-- The channel with command `cmd` and its answer in CHN_SLOT_CMD. -/
def Chan.slotTold (ch : Chan) (n cmd answer : Nat) : Chan :=
  (ch.setFld (R.CHN_SLOT_CMD n) F.CHN_SLOT_CMD_command cmd).setFld (R.CHN_SLOT_CMD n) F.CHN_SLOT_CMD_last_result answer

section

variable {ch : Chan} {inst n cmd : Nat}

/-- A command to a slot of its own that Table 08.12 accepts is carried out. -/
theorem Chan.slotCmd_accepted (hown : ch.slotForeign inst n = false) (hcmd : cmd ≠ 0)
    (hanswer : (ch.setFld (R.CHN_SLOT_CMD n) F.CHN_SLOT_CMD_command cmd).slotAnswer n cmd = 0) :
    ch.slotCmd inst n cmd =
      if cmd = 1 then (ch.slotTold n cmd 0).slotSwap n
      else if cmd = 2 then (ch.slotTold n cmd 0).slotDiscard n
      else (ch.slotTold n cmd 0).slotUnload n := by
  unfold Chan.slotCmd
  simp only [hown, hcmd, hanswer, Bool.false_eq_true, if_false, ne_eq, not_true_eq_false]
  rfl

theorem Chan.slotCmd_swap (hown : ch.slotForeign inst n = false)
    (hanswer : (ch.setFld (R.CHN_SLOT_CMD n) F.CHN_SLOT_CMD_command 1).slotAnswer n 1 = 0) :
    ch.slotCmd inst n 1 = (ch.slotTold n 1 0).slotSwap n :=
  (Chan.slotCmd_accepted hown (by decide) hanswer).trans (if_pos rfl)

theorem Chan.slotCmd_discard (hown : ch.slotForeign inst n = false)
    (hanswer : (ch.setFld (R.CHN_SLOT_CMD n) F.CHN_SLOT_CMD_command 2).slotAnswer n 2 = 0) :
    ch.slotCmd inst n 2 = (ch.slotTold n 2 0).slotDiscard n :=
  (Chan.slotCmd_accepted hown (by decide) hanswer).trans ((if_neg (by decide)).trans (if_pos rfl))

theorem Chan.slotCmd_unload (hown : ch.slotForeign inst n = false)
    (hanswer : (ch.setFld (R.CHN_SLOT_CMD n) F.CHN_SLOT_CMD_command 3).slotAnswer n 3 = 0) :
    ch.slotCmd inst n 3 = (ch.slotTold n 3 0).slotUnload n :=
  (Chan.slotCmd_accepted hown (by decide) hanswer).trans ((if_neg (by decide)).trans (if_neg (by decide)))

/-- One that it refuses shows its answer. -/
theorem Chan.slotCmd_refused (hown : ch.slotForeign inst n = false) (hcmd : cmd ≠ 0) {a : Nat}
    (hanswer : (ch.setFld (R.CHN_SLOT_CMD n) F.CHN_SLOT_CMD_command cmd).slotAnswer n cmd = a) (ha : a ≠ 0) :
    ch.slotCmd inst n cmd = ch.slotTold n cmd a := by
  unfold Chan.slotCmd
  simp only [hown, hcmd, hanswer, ha, Bool.false_eq_true, if_false, ne_eq, not_false_eq_true, if_true]
  rfl

/-- What an UNLOAD lists, beside what waits already. -/
theorem Chan.slotTold_slotUnload (ch : Chan) (n cmd answer : Nat) :
    ((ch.slotTold n cmd answer).slotUnload n).models.swaps = ch.models.swaps ++ [(n, 2000 * (ch.ns / 2000 + 1), true)] := by
  have hns : (ch.slotTold n cmd answer).ns = ch.ns := by
    simp only [Chan.ns, Chan.slotTold, Chan.setFld_sid, Chan.setFld_now]
  unfold Chan.slotUnload
  dsimp only
  rw [hns]
  rfl

end

/-! ## The exchange and the release -/

section

variable {ch : Chan} {n : Nat}

theorem Chan.swapTakeEffect_due {k b : Nat} {u : Bool} (hswap : ch.models.swaps.find? (·.1 == n) = some (k, b, u)) (hdue : b ≤ ch.ns) :
    ch.swapTakeEffect n =
      Chan.exchange { ch with models := { ch.models with swaps := ch.models.swaps.filter fun x => x.1 ≠ n } } n u := by
  unfold Chan.swapTakeEffect
  rw [hswap]
  exact if_neg (Nat.not_lt.mpr hdue)

/-- The last part of an exchange, from `a` on: CHN_SLOT_STATE shows side `side` serving and, where a side `old` served, `old` RETIRING; a
swap is counted (R239, R240). -/
def Chan.sidesExchanged (a : Chan) (n side old : Nat) (had unload : Bool) : Chan :=
  let b := ((a.setFld (R.CHN_SLOT_STATE n) F.CHN_SLOT_STATE_serving_side side).setServing n (if unload then 0 else 1)).setStandby n
    (if had then 4 else 0)
  let d := if had then b.setSide old { b.side old with retired := some b.now } else b
  if unload then d
  else (d.setFld (R.CHN_SLOT_STATE n) F.CHN_SLOT_STATE_swaps (d.fld (R.CHN_SLOT_STATE n) F.CHN_SLOT_STATE_swaps + 1)).count
    R.CHN_CNT_SWAPS EV_CHN_SWAPPED (some (d.slotTenant n))

/-- Closing the old side's batch and handing over the ensembles come before it. -/
theorem Chan.exchange_ends (ch : Chan) (n : Nat) (u : Bool) :
    ∃ a : Chan, ch.exchange n u =
      (a.sidesExchanged n (ctxSide (ctxOf n (1 - ch.servingSide n))) (ctxOf n (ch.servingSide n)) (ch.servingState n != 0)
        u).slotChange n :=
  ⟨_, rfl⟩

theorem Chan.sidesExchanged_shows (a : Chan) (n : Fin 64) {side : Nat} (hside : side < 2) (old : Nat) (had u : Bool) :
    (a.sidesExchanged n side old had u).SlotShows n side (if u then 0 else 1) (if had then 4 else 0) := by
  have hcount : R.CHN_SLOT_STATE n ≠ R.CHN_CNT_SWAPS := by
    simp only [R.CHN_SLOT_STATE, R.CHN_CNT_SWAPS]
    omega
  have hset := Chan.SlotShows.set a n hside (show (if u then 0 else 1) < 4 by split <;> decide)
    (show (if had then 4 else 0) < 8 by split <;> decide)
  unfold Chan.sidesExchanged
  extract_lets b _ d
  have hretired : d.SlotShows n side (if u then 0 else 1) (if had then 4 else 0) := .ite (hset.setSide _ _) hset
  exact .ite hretired (((hretired.swapped _).inc hcount 1).agrees (.raise _ _ _ _))

/-- After an exchange the other side serves, and the side that served, if one did, is RETIRING. -/
theorem Chan.exchange_shows (ch : Chan) (n : Fin 64) (u : Bool) :
    (ch.exchange n u).SlotShows n (1 - ch.servingSide n) (if u then 0 else 1) (if ch.servingState n = 0 then 0 else 4) := by
  have hside : ctxSide (ctxOf n (1 - ch.servingSide n)) = 1 - ch.servingSide n := by
    simp only [ctxSide, ctxOf]
    omega
  have hhad : (if ch.servingState n != 0 then 4 else 0) = if ch.servingState n = 0 then 0 else 4 := by
    by_cases hnone : ch.servingState n = 0 <;> simp [hnone]
  obtain ⟨a, ha⟩ := ch.exchange_ends n u
  rw [hside] at ha
  rw [ha, ← hhad]
  exact (a.sidesExchanged_shows n (by omega) _ _ u).agrees (.slotChange _ _)

theorem Chan.sideRelease_due {ctx e : Nat} (hctx : ctxOf n (1 - ch.servingSide n) = ctx) (hstate : ch.standbyState n = 4)
    (hrun : (ch.seqr ctx).run = none) (hbatch : (ch.seqr ctx).batch = none) (hsettled : ch.sideSettled ctx = true)
    (hens : (ch.side ctx).ens = some e) (hbanks : (ch.fst.leaving.any (·.1 == e)) = false) :
    ch.sideRelease n = ((ch.sideFree ctx).setStandby n 0).slotChange n := by
  subst hctx
  unfold Chan.sideRelease
  simp only [hstate, hrun, hbatch, hsettled, hens, hbanks, and_self, if_true]

theorem Chan.sideFree_side (ch : Chan) (ctx : Nat) : (ch.sideFree ctx).side ctx = {} := by
  unfold Chan.sideFree
  exact Chan.side_setSide _ _ _

end

/-- Settles O26: each slot command is judged by Table 08.12, and the three fields of CHN_SLOT_STATE follow the sides. -/
theorem slotsSwapDiscardAndUnload : Obligations.SlotsSwapDiscardAndUnload := by
  intro s c ch h
  refine ⟨?_, ?_, ?_, ?_, ?_, ?_, ?_, ?_⟩
  · intro src n hr hown hanswer
    obtain ⟨t, ht, ha⟩ := exec_writeRow h (i := .swap c src n) rfl hr (Chan.slotCmd_swap hown hanswer)
    exact ⟨t, ht, ha, ha.standby_shown (by decide)⟩
  · intro src n a hr hown hanswer hrefused
    exact exec_writeRow h (i := .swap c src n) rfl hr (Chan.slotCmd_refused hown (by decide) hanswer hrefused)
  · intro src n hr hown hanswer
    obtain ⟨t, ht, ha⟩ := exec_writeRow h (i := .discard c src n) rfl hr (Chan.slotCmd_discard hown hanswer)
    exact ⟨t, ht, ha, ha.standby_shown (by decide)⟩
  · intro src n a hr hown hanswer hrefused
    exact exec_writeRow h (i := .discard c src n) rfl hr (Chan.slotCmd_refused hown (by decide) hanswer hrefused)
  · intro src n hr hown hanswer
    obtain ⟨t, ht, ha⟩ := exec_writeRow h (i := .unload c src n) rfl hr (Chan.slotCmd_unload hown hanswer)
    exact ⟨t, ht, ha, (congrArg Models.swaps ha.models).trans (ch.slotTold_slotUnload n 3 0)⟩
  · intro src n a hr hown hanswer hrefused
    exact exec_writeRow h (i := .unload c src n) rfl hr (Chan.slotCmd_refused hown (by decide) hanswer hrefused)
  · intro n k b u hc hswap hdue
    obtain ⟨t, ht, ha⟩ := exec_clocked h (i := .swapTakeEffect c n) rfl hc (Chan.swapTakeEffect_due hswap hdue)
    obtain ⟨hside, hserving, hstandby⟩ := (Chan.exchange_shows _ n u).agrees ha
    exact ⟨t, ht, ha, hside, hserving, hstandby⟩
  · intro n x hc hctx hstate hrun hbatch hsettled e hens hbanks
    obtain ⟨t, ht, ha⟩ := exec_clocked h (i := .sideRelease c n) rfl hc
      (Chan.sideRelease_due hctx hstate hrun hbatch hsettled hens hbanks)
    have hmodels := ha.models.trans (Chan.slotChange_models _ n)
    exact ⟨t, ht, ha, ha.standby_shown (by decide),
      (Chan.side_congr (congrArg Models.sides hmodels) x).trans (ch.sideFree_side x)⟩

end Sys2Proof.Machine
end

section
/-!
PROOFS of 09_silent_error_defence.md: self-tests and fences (R260, R263).
-/

namespace Sys2Proof.Machine
open Sys2Proof

/-- `b` shows what `a` shows: the same registers, the same time and the same event records. -/
structure ShowsSame (a b : Chan) : Prop where
  rd : ∀ k, b.rd k = a.rd k
  ns : b.ns = a.ns
  ev : b.ev = a.ev

theorem ShowsSame.refl (a : Chan) : ShowsSame a a := ⟨fun _ => rfl, rfl, rfl⟩

theorem ShowsSame.trans {a b c : Chan} (h : ShowsSame a b) (g : ShowsSame b c) : ShowsSame a c :=
  ⟨fun k => (g.rd k).trans (h.rd k), g.ns.trans h.ns, g.ev.trans h.ev⟩

theorem ShowsSame.chk (a : Chan) (k : Chk) : ShowsSame a { a with chk := k } := ⟨fun _ => rfl, rfl, rfl⟩

theorem ShowsSame.eng (a : Chan) (x : Engines) : ShowsSame a { a with eng := x } := ⟨fun _ => rfl, rfl, rfl⟩

theorem ShowsSame.fld {a b : Chan} (h : ShowsSame a b) (k : Nat) (f : Fld) : b.fld k f = a.fld k f := by
  unfold Chan.fld
  rw [h.rd k]

theorem ShowsSame.records {a b : Chan} (h : ShowsSame a b) : RecordsKept a b := ⟨h.ns, fun _ _ => by rw [h.ev]⟩

theorem ShowsSame.reported {a b : Chan} (h : ShowsSame a b) {e : Ev} (ha : Reported e a) : Reported e b := by
  simpa only [Reported, h.ns, h.ev] using ha

/-- A command of the fast domain whose work shows what `b` shows. -/
theorem exec_clocked_shows {s : State} {c : Fin 8} {ch b : Chan} (h : s.chan c = ch) {i : Instr} {f : Chan → Chan}
    (hi : exec i s = .next (s.onClocked c f)) (hc : ch.clocked = true) (hb : ShowsSame b (f ch)) :
    ∃ t, exec i s = .next t ∧ (∀ k, ¬ settleKey k → (t.chan c).rd k = b.rd k) ∧ RecordsKept b (t.chan c) :=
  ⟨_, hi, fun k hk => ((State.onClocked_agrees h hc f).rd k hk).trans (hb.rd k), hb.records.trans (.onClocked h hc f)⟩

/-- The end of a hold shows nowhere. -/
theorem ShowsSame.holdEnds (a : Chan) : ShowsSame a a.holdEnds := by
  unfold Chan.holdEnds
  split
  · exact .refl a
  · exact .chk a _

theorem ShowsSame.mapRedos (a : Chan) (f : Redo → Redo) : ShowsSame a (a.mapRedos f) := by
  unfold Chan.mapRedos
  generalize List.range 32 = l
  induction l generalizing a with
  | nil => exact .refl a
  | cons k l ih =>
    rw [List.foldl_cons]
    refine ShowsSame.trans ?_ (ih _)
    split
    · exact .refl a
    · exact .eng a _

/-- What waits for a quadrant starts again in the engines alone. -/
theorem ShowsSame.resume_quadrant (a : Chan) (e q : Nat) : ShowsSame a (a.resume (.quadrant e q)) :=
  (ShowsSame.eng a _).trans (.mapRedos _ _)

/-! ## Fences -/

theorem putBit_true_testBit (n i : Nat) : (putBit n i true).testBit i = true := by
  unfold putBit
  cases hbit : n.testBit i
  · simp [Nat.add_comm n, Nat.testBit_two_pow_add_eq, hbit]
  · simp [hbit]

section

variable (ch : Chan)

/-- The fence of a quadrant shows in CHK_FENCE, and the status of its engine leaves that as it is. -/
theorem Chan.setFence_quadrant {e q : Nat} (he : e < 4) (hq : q < 4) :
    ((ch.setFence (.quadrant e q) true).fld R.CHK_FENCE F.CHK_FENCE_quadrants).testBit (4 * e + q) = true := by
  have hne : R.CHK_FENCE ≠ R.MXE_STATUS e := by
    simp only [R.CHK_FENCE, R.MXE_STATUS]
    omega
  have hbit : 4 * e + q < F.CHK_FENCE_quadrants.len := by
    simp only [F.CHK_FENCE_quadrants]
    omega
  unfold Chan.setFence
  rw [Chan.fld_setFld_ne _ _ _ _ hne, Chan.fld_setFld_same _ _ _ _ (by decide), Nat.testBit_mod_two_pow, putBit_true_testBit]
  simpa using hbit

variable (u : TestUnit) (hold : Bool)

/-- A fence is set, and the outcome noted, before it is counted and reported and its remap begins (R263). -/
theorem ShowsSame.fence :
    ShowsSame (((ch.setFence u true).setFld R.CHK_FAULT F.CHK_FAULT_outcome 2).count R.CHK_CNT_FENCE EV_CHK_FENCE) (ch.fence u hold) :=
  .chk _ _

theorem Chan.fence_reported : Reported EV_CHK_FENCE (ch.fence u hold) :=
  (ShowsSame.fence ch u hold).reported (Chan.count_reported _ _ _ (by decide))

/-- Counting with an event writes no field but the counter's and those of the event. -/
theorem Chan.fld_count_ne {k j : Nat} (e : Ev) (hj : ¬ raiseKey j) (hne : j ≠ k) (f : Fld) : (ch.count k e).fld j f = ch.fld j f :=
  (Chan.fld_raise _ _ _ _ _ hj).trans (ch.fld_wr_ne _ _ hne)

theorem Chan.fence_outcome : (ch.fence u hold).fld R.CHK_FAULT F.CHK_FAULT_outcome = 2 := by
  rw [(ShowsSame.fence ch u hold).fld, Chan.fld_count_ne _ _ (not_raiseKey_of (by decide)) (by decide),
    Chan.fld_setFld_same _ _ _ _ (by decide)]
  rfl

theorem Chan.fence_quadrant_fenced {e q : Nat} (he : e < 4) (hq : q < 4) :
    ((ch.fence (.quadrant e q) hold).fld R.CHK_FENCE F.CHK_FENCE_quadrants).testBit (4 * e + q) = true := by
  rw [(ShowsSame.fence ch _ hold).fld, Chan.fld_count_ne _ _ (not_raiseKey_of (by decide)) (by decide),
    Chan.fld_setFld_ne _ _ _ _ (by decide)]
  exact ch.setFence_quadrant he hq

end

/-! ## Transients -/

section

variable {ch : Chan} {x : SelfTest} {e q : Nat}

/-- A transient of a unit that has had none in the last second is its first. -/
theorem Chan.transientsOf_first {b : Chan} {u : TestUnit} (h : ch.transientsOf u = 0) (hnow : b.now = ch.now)
    (hb : b.chk.transients = (u, ch.now) :: ch.chk.transients.filter fun x => decide (ch.now < x.2 + 1000 * msG)) :
    b.transientsOf u = 1 := by
  have hnone : ∀ x ∈ ch.chk.transients, x.1 = u → ¬ ch.now < x.2 + 1000 * msG := by
    simpa [Chan.transientsOf, List.filter_eq_nil_iff] using h
  have hsoon : ch.now < ch.now + 1000 * msG := Nat.lt_add_of_pos_right (by decide)
  have hold : ((ch.chk.transients.filter fun x => decide (ch.now < x.2 + 1000 * msG)).filter fun t =>
      decide (t.1 = u) && decide (ch.now < t.2 + 1000 * msG)) = [] := by
    rw [List.filter_eq_nil_iff]
    intro x hx
    have hmem := (List.mem_filter.mp hx).1
    simpa using hnone x hmem
  simp [Chan.transientsOf, hnow, hb, hsoon, hold]

/-- The channel with a transient of unit `u` counted, reported and noted, and the transients of the last second kept. -/
def Chan.transientNoted (ch : Chan) (u : TestUnit) : Chan :=
  let a : Chan := (ch.count R.CHK_CNT_TRANSIENT EV_CHK_TRANSIENT).setFld R.CHK_FAULT F.CHK_FAULT_outcome 1
  { a with chk := { a.chk with
      transients := (u, a.now) :: a.chk.transients.filter fun x => decide (a.now < x.2 + 1000 * msG) } }

/-- The first transient of a quadrant is within the limit, which is at least 1, so what waits for the quadrant resumes (R260). -/
theorem Chan.transient_first (hu : x.unit = .quadrant e q) (h : ch.transientsOf x.unit = 0) :
    ch.transient x = (ch.transientNoted x.unit).resume (.quadrant e q) := by
  have hnow : (ch.transientNoted x.unit).now = ch.now := Chan.count_now ..
  have hlist : (ch.transientNoted x.unit).chk.transients =
      (x.unit, ch.now) :: ch.chk.transients.filter fun y => decide (ch.now < y.2 + 1000 * msG) := by
    simp only [Chan.transientNoted, Chan.setFld_chk, Chan.setFld_now, Chan.count_chk, Chan.count_now]
  have hone := Chan.transientsOf_first h hnow hlist
  have hwithin : ¬ decide (max 1 ((ch.transientNoted x.unit).fld R.CHK_CTRL F.CHK_CTRL_transient_limit) <
      (ch.transientNoted x.unit).transientsOf x.unit) = true := by
    rw [hone, decide_eq_true_eq]
    omega
  obtain ⟨u, t, hold, un⟩ := x
  obtain rfl : u = .quadrant e q := hu
  exact if_neg hwithin

variable (ch) (u : TestUnit)

theorem ShowsSame.transientNoted :
    ShowsSame ((ch.count R.CHK_CNT_TRANSIENT EV_CHK_TRANSIENT).setFld R.CHK_FAULT F.CHK_FAULT_outcome 1) (ch.transientNoted u) :=
  .chk _ _

theorem Chan.transientNoted_fence : (ch.transientNoted u).rd R.CHK_FENCE = ch.rd R.CHK_FENCE := by
  rw [(ShowsSame.transientNoted ch u).rd, Chan.rd_setFld_ne _ _ _ (by decide), Chan.count_eq,
    Chan.rd_raise _ _ _ _ (not_raiseKey_of (by decide)), ch.rd_inc_ne _ (by decide)]

theorem Chan.transientNoted_outcome : (ch.transientNoted u).fld R.CHK_FAULT F.CHK_FAULT_outcome = 1 := by
  rw [(ShowsSame.transientNoted ch u).fld, Chan.fld_setFld_same _ _ _ _ (by decide)]
  rfl

theorem Chan.transientNoted_reported : Reported EV_CHK_TRANSIENT (ch.transientNoted u) := by
  have hcount := ch.count_reported R.CHK_CNT_TRANSIENT EV_CHK_TRANSIENT (by decide)
  exact (ShowsSame.transientNoted ch u).reported (RecordsKept.reported ⟨rfl, fun _ _ => rfl⟩ (by decide) hcount)

end

end Sys2Proof.Machine
end

section
/-!
PROOFS of 09_silent_error_defence.md: the ends of self-tests, unfence writes, remaps and rebuilds (R260, R263, R264, R265, R270).
-/

namespace Sys2Proof.Machine
open Sys2Proof

variable {ch : Chan}

/-! ## The ends of self-tests -/

/-- The channel with test `x` no longer in progress. -/
def Chan.testEnded (ch : Chan) (x : SelfTest) : Chan := { ch with chk := { ch.chk with tests := ch.chk.tests.erase x } }

section

variable {x : SelfTest} (hs : ch.safeServe = false) (hx : ch.chk.tests.find? (fun x => ch.testDue x.at_ x.unit) = some x)

include hs hx

theorem Chan.selfTestComplete_due (pass : Bool) :
    ch.selfTestComplete pass = Chan.holdEnds (
      if x.un then (if pass then (ch.testEnded x).setFence x.unit false else ch.testEnded x).unfenceDone x.unit
      else if pass then (ch.testEnded x).transient x else (ch.testEnded x).lasting x) := by
  unfold Chan.selfTestComplete
  rw [if_neg (Bool.eq_false_iff.mp hs), hx]
  rfl

theorem Chan.selfTestComplete_unfence (hun : x.un = true) (pass : Bool) :
    ch.selfTestComplete pass = Chan.holdEnds (
      (if pass then (ch.testEnded x).setFence x.unit false else ch.testEnded x).unfenceDone x.unit) := by
  rw [Chan.selfTestComplete_due hs hx, if_pos hun]

variable (hun : x.un = false)

include hun

theorem Chan.selfTestComplete_passed : ch.selfTestComplete true = ((ch.testEnded x).transient x).holdEnds := by
  rw [Chan.selfTestComplete_due hs hx, if_neg (Bool.eq_false_iff.mp hun), if_pos rfl]

theorem Chan.selfTestComplete_failed : ch.selfTestComplete false = ((ch.testEnded x).lasting x).holdEnds := by
  rw [Chan.selfTestComplete_due hs hx, if_neg (Bool.eq_false_iff.mp hun), if_neg Bool.false_ne_true]

variable {e q : Nat} (hu : x.unit = .quadrant e q)

include hu

/-- A quadrant that passed and has had no transient lately shows its first. -/
theorem ShowsSame.selfTest_transient (h0 : ch.transientsOf x.unit = 0) :
    ShowsSame ((ch.testEnded x).transientNoted x.unit) (ch.selfTestComplete true) := by
  have hfirst : (ch.testEnded x).transientsOf x.unit = 0 := h0
  rw [Chan.selfTestComplete_passed hs hx hun, Chan.transient_first hu hfirst]
  exact (ShowsSame.resume_quadrant _ e q).trans (.holdEnds _)

/-- A quadrant that failed is fenced. -/
theorem ShowsSame.selfTest_lasting : ShowsSame ((ch.testEnded x).fence (.quadrant e q) x.hold) (ch.selfTestComplete false) := by
  rw [Chan.selfTestComplete_failed hs hx hun, Chan.lasting, hu]
  exact .holdEnds _

end

/-! ## Unfence writes -/

/-- Bit `i` of an unfence write at time `now`: the test of a unit that is fenced and not pending begins (R263). -/
def Chan.unfenceBit (reg : Nat) (f : Fld) (unit : Nat → TestUnit) (fenced now : Nat) (a : Chan) (i : Nat) : Chan :=
  if fenced.testBit i ∧ (a.fld reg f).testBit i = false then
    let b : Chan := a.setFld reg f (putBit (a.fld reg f) i true)
    { b with chk := { b.chk with tests := b.chk.tests ++ [{ unit := unit i, at_ := now, hold := false, un := true }] } }
  else a

theorem Chan.unfenceBit_now (reg : Nat) (f : Fld) (unit : Nat → TestUnit) (fenced now : Nat) (a : Chan) (i : Nat) :
    (Chan.unfenceBit reg f unit fenced now a i).now = a.now := by
  unfold Chan.unfenceBit
  split <;> rfl

/-- The tests of one write all begin at the time of the write. -/
theorem Chan.foldl_unfenceBit (reg : Nat) (f : Fld) (unit : Nat → TestUnit) (fenced : Nat) (l : List Nat) (a : Chan) :
    l.foldl (fun (b : Chan) i => Chan.unfenceBit reg f unit fenced b.now b i) a =
      l.foldl (Chan.unfenceBit reg f unit fenced a.now) a := by
  induction l generalizing a with
  | nil => rw [List.foldl_nil, List.foldl_nil]
  | cons i l ih => rw [List.foldl_cons, List.foldl_cons, ih, Chan.unfenceBit_now]

theorem Chan.unfence_eq (ch : Chan) (reg : Nat) (f : Fld) (n : Nat) (unit : Nat → TestUnit) (fenced : Nat) (v : Word) :
    ch.unfence reg f n unit fenced v = (bitsOf (getF v f) n).foldl (Chan.unfenceBit reg f unit fenced ch.now) ch :=
  Chan.foldl_unfenceBit reg f unit fenced _ ch

/-! ## Remaps -/

/-- What the Lodestar makes of a remap; none while it has to wait (R264). -/
def Chan.remapOne (ch : Chan) (r : Remap) : Option Chan :=
  match r.unit with
  | .quadrant e q => ch.remapPart e q
  | .ristretto u => some (ch.remapRvu u)
  | .bank b => ch.remapBank b r.hold
  | _ => some ch

/-- The oldest remap is finished when it need not wait. -/
theorem Chan.remapComplete_oldest {r : Remap} {rest : List Remap} {a : Chan} (hs : ch.safeServe = false)
    (hr : ch.chk.remaps = r :: rest) (h : ch.remapOne r = some a) :
    ch.remapComplete = Chan.holdEnds { a with chk := { a.chk with remaps := a.chk.remaps.erase r } } := by
  unfold Chan.remapComplete
  rw [if_neg (Bool.eq_false_iff.mp hs), hr, Chan.remapStep]
  change (match ch.remapOne r with | some a => _ | none => _) = _
  rw [h]

theorem Chan.remapOne_quadrant {r : Remap} {e q : Nat} (hu : r.unit = .quadrant e q) : ch.remapOne r = ch.remapPart e q := by
  unfold Chan.remapOne
  rw [hu]

theorem Chan.remapOne_ristretto {r : Remap} {u : Nat} (hu : r.unit = .ristretto u) : ch.remapOne r = some (ch.remapRvu u) := by
  unfold Chan.remapOne
  rw [hu]

/-- The remap of a bank begins its rebuild, where none runs and there is a plan for it. -/
theorem Chan.remapOne_bank {r : Remap} {b : Nat} {p : List Nat × List Nat} (hu : r.unit = .bank b) (hfree : ch.chk.rebuilds = [])
    (hp : ch.rebuildPlan b = some p) :
    ch.remapOne r = some { ch with chk := { ch.chk with
      rebuilds := [{ unit := .bank b, at_ := ch.now, hold := r.hold && p.1.length == 1, target := p.1, source := p.2 }] } } := by
  unfold Chan.remapOne
  rw [hu]
  simp only [Chan.remapBank, hfree, hp, List.isEmpty_nil, Bool.not_true, Bool.false_eq_true, if_false]

section

variable {e q p tid : Nat} (hp : ch.partOfQuad e q = p) (htid : ch.fld (R.MXE_PART e) (F.MXE_PART_owner q) = tid)

include hp htid

theorem Chan.remapPart_owned {x y : Nat} (ht : ch.remapTarget e p tid = .owned x y)
    (hc : ch.canTake (partKey e p) (partKey x y) = true) :
    ch.remapPart e q = some ((ch.pointTo e p x y).moveWork (partKey e p) (partKey x y)) := by
  simp only [Chan.remapPart, hp, htid, ht, hc, if_true]

theorem Chan.remapPart_fresh {x : Nat} (ht : ch.remapTarget e p tid = .fresh x)
    (hc : ch.canTake (partKey e p) (partKey x p) = true) :
    ch.remapPart e q = some (((ch.configureFor x e tid).pointTo e p x p).moveWork (partKey e p) (partKey x p)) := by
  simp only [Chan.remapPart, hp, htid, ht, hc, if_true]

theorem Chan.remapPart_none (ht : ch.remapTarget e p tid = .none_) : ch.remapPart e q = some (ch.refuseWork (partKey e p)) := by
  simp only [Chan.remapPart, hp, htid, ht]

end

/-! ## Rebuilds -/

/-- A verified image is written into the one target bank, which bank_mask then names in place of the old ones (R264). -/
theorem Chan.rebuildComplete_single {r : Remap} {rest : List Remap} {b n : Nat} {g : Golden} (hs : ch.safeServe = false)
    (hr : ch.chk.rebuilds = r :: rest) (hb : r.source.headD 0 = b) (ht : r.target.length = 1) (hn : ch.bankEns b = some n)
    (hg : sget (fun _ => none) ch.fst.golden b = some g)
    (hok : (Chan.goldenKind { ch with chk := { ch.chk with rebuilds := rest } } (ctxOf g.slot g.side) 6).1 = true) :
    ch.rebuildComplete =
      let x := Chan.goldenKind { ch with chk := { ch.chk with rebuilds := rest } } (ctxOf g.slot g.side) 6
      let img := x.2.goldBytes (ctxOf g.slot g.side) 6
      let a : Chan := x.2.rebuildBank img g (r.target.headD 0) (((x.2.copyBanks n b).findIdx? (· == b)).getD 0)
      let m := putBit (r.source.foldl (fun m y => putBit m y false) (a.ensBanks n)) (r.target.headD 0) true
      let d : Chan := a.setFld (R.FST_ENS_BANKS n) F.FST_ENS_BANKS_bank_mask m
      let e : Chan := d.setSide (ctxOf g.slot g.side) { d.side (ctxOf g.slot g.side) with banks := m }
      Chan.holdEnds { e with fst := { e.fst with
        golden := r.source.foldl (fun z y => sset (fun _ => none) z y none) e.fst.golden } } := by
  obtain ⟨bank, hbank⟩ := List.length_eq_one_iff.mp ht
  have hn' : Chan.bankEns { ch with chk := { ch.chk with rebuilds := rest } } b = some n := hn
  unfold Chan.rebuildComplete
  rw [if_neg (Bool.eq_false_iff.mp hs)]
  unfold Chan.rebuildStep
  simp only [hr, hb, hn', hg, hok, hbank, Bool.not_true, Bool.false_eq_true, if_false, if_true, List.length_singleton,
    List.headD_cons, List.zip_cons_cons, List.zip_nil_right, List.foldl_cons, List.foldl_nil]

/-- Settles O28: the oldest test, remap or rebuild takes the course that its unit and what comes of it leave, and what waits begins
again in the engines alone, so what a transient or a fence shows stays shown. -/
theorem testsFencesRemapsAndRebuilds : Obligations.TestsFencesRemapsAndRebuilds := by
  intro s c ch h
  refine ⟨?_, ?_, ?_, ?_, ?_, ?_, ?_, ?_, ?_, ?_, ?_, ?_, ?_⟩
  · intro x hc hs hx hun
    exact exec_clocked h rfl hc (Chan.selfTestComplete_passed hs hx hun)
  · intro x e q hc hs hx hun hu h0
    have hshows := ShowsSame.selfTest_transient hs hx hun hu h0
    obtain ⟨t, ht, hrd, hkept⟩ := exec_clocked_shows h (i := .selfTestComplete c true) rfl hc hshows
    have houtcome := congrArg (getF · F.CHK_FAULT_outcome) (hrd R.CHK_FAULT (not_settleKey_of (by decide)))
    exact ⟨t, ht, (hrd _ (not_settleKey_of (by decide))).trans (Chan.transientNoted_fence _ _),
      houtcome.trans (Chan.transientNoted_outcome _ _), hkept.reported (by decide) (Chan.transientNoted_reported _ _)⟩
  · intro x hc hs hx hun
    exact exec_clocked h rfl hc (Chan.selfTestComplete_failed hs hx hun)
  · intro x e q hc hs hx hun hu he hq
    have hshows := ShowsSame.selfTest_lasting hs hx hun hu
    obtain ⟨t, ht, hrd, hkept⟩ := exec_clocked_shows h (i := .selfTestComplete c false) rfl hc hshows
    have hfence := congrArg (getF · F.CHK_FENCE_quadrants) (hrd R.CHK_FENCE (not_settleKey_of (by decide)))
    have houtcome := congrArg (getF · F.CHK_FAULT_outcome) (hrd R.CHK_FAULT (not_settleKey_of (by decide)))
    exact ⟨t, ht, (congrArg (Nat.testBit · (4 * e + q)) hfence).trans (Chan.fence_quadrant_fenced _ _ he hq),
      houtcome.trans (Chan.fence_outcome _ _ _), hkept.reported (by decide) (Chan.fence_reported _ _ _)⟩
  · intro pass x hc hs hx hun
    exact exec_clocked h rfl hc (Chan.selfTestComplete_unfence hs hx hun pass)
  · intro src v hr
    exact exec_writeRow h rfl hr (Chan.unfence_eq _ _ _ _ _ _ _)
  · intro src v hr
    exact exec_writeRow h rfl hr (Chan.unfence_eq _ _ _ _ _ _ _)
  · intro r rest e q p tid x y hc hs hr hu hp htid ht hcan
    exact exec_clocked h rfl hc (Chan.remapComplete_oldest hs hr
      ((Chan.remapOne_quadrant hu).trans (Chan.remapPart_owned hp htid ht hcan)))
  · intro r rest e q p tid x hc hs hr hu hp htid ht hcan
    exact exec_clocked h rfl hc (Chan.remapComplete_oldest hs hr
      ((Chan.remapOne_quadrant hu).trans (Chan.remapPart_fresh hp htid ht hcan)))
  · intro r rest e q p tid hc hs hr hu hp htid ht
    exact exec_clocked h rfl hc (Chan.remapComplete_oldest hs hr
      ((Chan.remapOne_quadrant hu).trans (Chan.remapPart_none hp htid ht)))
  · intro r rest u hc hs hr hu
    exact exec_clocked h rfl hc (Chan.remapComplete_oldest hs hr (Chan.remapOne_ristretto hu))
  · intro r rest b p hc hs hr hu hfree hp
    exact exec_clocked h rfl hc (by
      simp only [Chan.remapComplete_oldest hs hr (Chan.remapOne_bank hu hfree hp), hr, List.erase_cons_head])
  · intro r rest b n g hc hs hr hb ht hn hg hok
    exact exec_clocked h rfl hc (Chan.rebuildComplete_single hs hr hb ht hn hg hok)

end Sys2Proof.Machine
end

section
/-!
PROOFS of 09_silent_error_defence.md: the event of a pattern's second failure moves a ring's producer before the work that waits goes
on (R267, R268, R374).

DigestSweepAndScrub leaves out that event, EV_CHK_SWEEP_FAIL, since `Agrees` overlooks what events write. But two numbers in a state have
no bound there, and with both out of range the work that goes on after the event reads what it wrote: the gated unit of "Ristretto unit
2" is the vector path, and the window register CHN_SLOT_WIN of side context 264 lies at the place of CHN_EVQ_CTRL, so that the producer of
the event ring is the size of that side's window.
-/

namespace Sys2Proof.Machine
open Sys2Proof

/-- A ROT in blocks of 2^6 over rows of 32,768 values, which fill a window of 128 KiB. -/
def wideRotation : Cmd := [6] ++ List.replicate 30 0 ++ [0x80, 0, 0, 6] ++ List.replicate 29 0

/-- A powered channel with an event ring of 32 entries, where the pattern on Ristretto unit 2 fails for the second time while the
rotation of side context 264 waits for the vector path. -/
def sweptChan : Chan :=
  ({ idx := 0, now := 1500 * nsG, pwr := { power := .on }, chk := { sweep := some (.ristretto 2, 0, true) }
     models := { sides := [(264, { program := wideRotation })]
                 runs := [(264, { run := some { number := 0, at_ := 0, m := 0, jobs := [] } })] }
     vpe := { wfq := [{ unit := 34, tenant := 0, cost := 0, ctx := 264, index := 0 }] } } : Chan).setFld
    R.CHN_EVQ_BASE F.CHN_EVQ_BASE_log2_size 5

/-- The device after reset but for that channel. -/
def sweptState : State := State.reset.setChan 0 sweptChan

theorem sweptState_chan : sweptState.chan 0 = sweptChan := rfl

/-- The channel as the statement has it: the unit fenced, with one event, and the work that waits let go on. -/
def sweptClaim : Chan :=
  (Chan.fence { sweptChan with chk := { sweptChan.chk with sweep := none } } (.ristretto 2)
    (sweptChan.workWaits (.ristretto 2))).pumpUnit (.ristretto 2)

/-- After one event the window holds 64 KiB, and the rotation is refused. -/
theorem sweptClaim_refuses : sweptClaim.eng.vecHeld = none := by decide

/-- After the two events of the model it holds 128 KiB, and the vector path takes the rotation. -/
theorem sweptChan_takes : (sweptChan.sweepComplete false 0).eng.vecHeld = some (264, 0) := by decide

/-- Refutes O29: it leaves out the event that reports the second failure of a pattern, and in `sweptChan` the vector path takes the
command that waits after that event and refuses it without. -/
theorem not_digestSweepAndScrub : ¬ Obligations.DigestSweepAndScrub := by
  intro h
  have hclocked : sweptChan.clocked = true := by decide
  have hdue : sweptChan.since 0 (1500 * nsG) = true := by decide
  obtain ⟨-, -, -, -, -, -, -, -, hrvu, -⟩ := h sweptState 0 sweptChan sweptState_chan hclocked
  obtain ⟨t, ht, hclaim⟩ := hrvu 0 2 0 rfl hdue
  obtain ⟨u, hu, hagree⟩ := exec_clocked sweptState_chan (i := .sweepTestComplete 0 false 0) rfl hclocked rfl
  obtain rfl : t = u := Host.Outcome.next.inj (ht.symm.trans hu)
  have hclaimed : (t.chan 0).eng.vecHeld = none := (congrArg Engines.vecHeld hclaim.eng).trans sweptClaim_refuses
  have hdone : (t.chan 0).eng.vecHeld = some (264, 0) := (congrArg Engines.vecHeld hagree.eng).trans sweptChan_takes
  exact absurd (hclaimed.symm.trans hdone) (Option.some_ne_none _).symm

end Sys2Proof.Machine
end

section
/-!
PROOFS of 13_zorbex_links_and_multi_device_boards.md: a message for this device reaches its engine, or is a header error (R343, R349,
R350, R357).
-/

namespace Sys2Proof.Machine
open Sys2Proof

section

variable {ch : Chan} {p typ lo hi : Nat} {vl : Bool} {hd : MsgHead} {pay : List Byte}

theorem Chan.accepts.live (ha : ch.accepts p hd) : ch.zLive p = true := by
  obtain ⟨hp, hup, -, -⟩ := ha
  simp [Chan.zLive, hp, hup]

/-- A message for this device on a port that is UP goes to what handles it. -/
theorem Chan.zArrive_accepted (ha : ch.accepts p hd) {m : ZMsg} (hchan : m.channel = hd.channel) (hdest : m.dest = hd.dest)
    (h : Chan → Chan) : ch.zArrive p m h = h ch := by
  have ⟨_, hup, hidx, hdev⟩ := ha
  rw [← hchan] at hidx
  rw [← hdest] at hdev
  have hpass : (!ch.zLive p || (ch.zState p == 2 && m.typ != 11 && m.typ != 12)) = false := by simp [Chan.accepts.live ha, hup]
  unfold Chan.zArrive
  rw [hpass, if_neg Bool.false_ne_true, if_neg (not_not_intro hidx), if_neg (not_not_intro hdev)]

/-- A message of its type's length, and no DECISION of reserved outcome, is handled. -/
theorem Chan.zDeliver_accepted (hz : zType typ = some (vl, lo, hi)) (ha : ch.accepts p hd)
    (hlen : lo ≤ 2 + ceilDiv pay.length 16 ∧ 2 + ceilDiv pay.length 16 ≤ hi) (hres : ¬ (typ = 8 ∧ 2 < hd.args.toNat % 256))
    (h : ZMsg → Chan → Chan) : ch.zDeliver p typ hd pay h = h (delivered typ vl hd pay) ch := by
  have hok : ¬ (2 + ceilDiv pay.length 16 < lo ∨ hi < 2 + ceilDiv pay.length 16 ∨ (typ = 8 ∧ 2 < hd.args.toNat % 256)) := by omega
  unfold Chan.zDeliver
  simp only [hz, Chan.accepts.live ha, hok, if_false, Bool.not_true, Bool.false_eq_true]
  exact Chan.zArrive_accepted ha rfl rfl _

/-- A message of another length than its type's is a header error. -/
theorem Chan.zDeliver_badLength (hz : zType typ = some (vl, lo, hi)) (hl : ch.zLive p = true)
    (hlen : 2 + ceilDiv pay.length 16 < lo ∨ hi < 2 + ceilDiv pay.length 16) (h : ZMsg → Chan → Chan) :
    ch.zDeliver p typ hd pay h = ch.count R.ZLK_CNT_BAD_MESSAGE EV_ZLK_BAD_MESSAGE := by
  have hbad : 2 + ceilDiv pay.length 16 < lo ∨ hi < 2 + ceilDiv pay.length 16 ∨ (typ = 8 ∧ 2 < hd.args.toNat % 256) :=
    hlen.imp_right .inl
  unfold Chan.zDeliver
  simp only [hz, hl, hbad, if_true, if_false, Bool.not_true, Bool.false_eq_true]

end

section

variable {s : State} {c : Fin 8} {ch : Chan} (h : s.chan c = ch) (hc : ch.clocked = true)

include h hc

/-- A command that delivers a message of one length `n` to this device does what its engine does with the message. -/
theorem exec_delivers {i : Instr} {p : Nat} {typ n : Nat} {vl : Bool} {hd : MsgHead} {pay : List Byte} {f : ZMsg → Chan → Chan}
    {a : Chan} (hi : exec i s = .next (s.onClocked c fun ch => ch.zDeliver p typ hd pay f)) (hz : zType typ = some (vl, n, n))
    (h8 : typ ≠ 8) (ha : ch.accepts p hd) (hlen : 2 + ceilDiv pay.length 16 = n) (hf : f (delivered typ vl hd pay) ch = a) :
    ∃ t, exec i s = .next t ∧ Agrees a (t.chan c) :=
  exec_clocked h hi hc ((Chan.zDeliver_accepted hz ha ⟨hlen.ge, hlen.le⟩ (fun e => h8 e.1) f).trans hf)

/-- One whose length is not `n` is counted and reported. -/
theorem exec_delivers_badLength {i : Instr} {p : Nat} {typ n : Nat} {vl : Bool} {hd : MsgHead} {pay : List Byte}
    {f : ZMsg → Chan → Chan} (hi : exec i s = .next (s.onClocked c fun ch => ch.zDeliver p typ hd pay f))
    (hz : zType typ = some (vl, n, n)) (hl : ch.zLive p = true) (hlen : 2 + ceilDiv pay.length 16 ≠ n) :
    ∃ t, exec i s = .next t ∧ Agrees (ch.inc R.ZLK_CNT_BAD_MESSAGE) (t.chan c) ∧ Reported EV_ZLK_BAD_MESSAGE (t.chan c) :=
  exec_clocked_raises h hi hc (Chan.zDeliver_badLength hz hl (Nat.lt_or_gt_of_ne hlen) f) (by decide)

end

end Sys2Proof.Machine
end

section
/-!
PROOFS of 13_zorbex_links_and_multi_device_boards.md: shares, retractions and epoch closes of a peer, and time probes (R258, R259,
R352, R355, R356).
-/

namespace Sys2Proof.Machine
open Sys2Proof

/-! ## Shares -/

/-- An entry added to the undo log leaves the channel's number as it was. -/
theorem Chan.undoPush_idx (ch : Chan) (d : Delta) : (ch.undoPush d).idx = ch.idx := rfl

/-- Entries added one by one, each made with the channel's number, are those made with the number it had at first. -/
theorem Chan.foldl_undoPush (f : Nat → Fin 8 → Delta) (l : List Nat) (ch : Chan) :
    l.foldl (fun (a : Chan) x => a.undoPush (f x a.idx)) ch = l.foldl (fun (a : Chan) x => a.undoPush (f x ch.idx)) ch := by
  induction l generalizing ch with
  | nil => rw [List.foldl_nil, List.foldl_nil]
  | cons x l ih =>
    rw [List.foldl_cons, List.foldl_cons, ih, Chan.undoPush_idx]

section

variable {ch : Chan} {m : ZMsg} {e : List Byte} {i k : Nat} {b2 : Nat × Nat} (he : entParity (slice m.payload 0 64) = e)
  (hi : le e 33 1 % 128 % 16 = i)

include he hi

/-- A share that names another channel, or that ZLK_ACCEPT of its tenant keeps out (R352). -/
theorem Chan.recvShare_unadmitted (p : Nat)
    (hno : le e 33 1 % 128 / 16 ≠ ch.idx.val ∨ (ch.fld (R.ZLK_ACCEPT i) F.ZLK_ACCEPT_from_mask).testBit m.src.toNat = false ∨
      ch.fld (R.ZLK_ACCEPT i) F.ZLK_ACCEPT_origin_tenant ≠ m.context.toNat % 16 ∨
      ch.lookupKind i (ch.fld (R.ZLK_ACCEPT i) F.ZLK_ACCEPT_lookup) ≠ 1) : ch.recvShare p m = ch.shareRefused := by
  unfold Chan.recvShare
  simp only [he, hi]
  refine if_pos ?_
  rcases hno with h | h | h | h <;> simp [h]

variable (hk : ch.fld (R.ZLK_ACCEPT i) F.ZLK_ACCEPT_lookup = k) (hb : ch.entityBuckets i k (slice e 0 32) = b2)

include hk hb

/-- A share whose buckets are locked or full, or that the undo log has no room for (R352, log 32). -/
theorem Chan.recvShare_noRoom (p : Nat)
    (hno : ch.locked i (k + 1) b2.1 = true ∨ ch.locked i (k + 1) b2.2 = true ∨ undoSize < ch.chk.undo.length + 16 ∨
      ch.sharePlace i k e = none) : ch.recvShare p m = ch.shareRefused := by
  unfold Chan.recvShare
  simp only [he, hi, hk, hb]
  split
  · rfl
  · next hok =>
    simp only [Bool.or_eq_true, decide_eq_true_eq, not_or] at hok
    obtain ⟨⟨⟨-, h1⟩, h2⟩, h3⟩ := hok
    rw [((hno.resolve_left h1).resolve_left h2).resolve_left h3]

/-- A share that is admitted and has room is inserted, with the words of its old entry in the undo log (R352). -/
theorem Chan.recvShare_inserted {b w n : Nat} {old : List Byte} (p : Nat) (hidx : le e 33 1 % 128 / 16 = ch.idx.val)
    (hfrom : (ch.fld (R.ZLK_ACCEPT i) F.ZLK_ACCEPT_from_mask).testBit m.src.toNat = true)
    (horigin : ch.fld (R.ZLK_ACCEPT i) F.ZLK_ACCEPT_origin_tenant = m.context.toNat % 16) (hkind : ch.lookupKind i k = 1)
    (h1 : ch.locked i (k + 1) b2.1 = false) (h2 : ch.locked i (k + 1) b2.2 = false) (hroom : ch.chk.undo.length + 16 ≤ undoSize)
    (hplace : ch.sharePlace i k e = some (b, w)) (hn : ch.chk.shareNum + 1 = n) (hold : entAt (ch.entBucket i k b) w = old) :
    ch.recvShare p m =
      let a : Chan := (List.range 16).foldl (fun (a : Chan) x => a.undoPush (.peer n m.src.toNat i k b w x (ch.tid i)
        (ch.fullEpoch (m.args.toNat % 2 ^ 32)) (le old (4 * x) 4) (m.args.toNat / 2 ^ 32))) ch
      Chan.putEntity { a with chk := { a.chk with shareNum := n, shares := a.chk.shares ++ [{
        num := n, device := m.src.toNat, origin := m.context.toNat % 16, seqNo := m.args.toNat / 2 ^ 32
        epoch := ch.fullEpoch (m.args.toNat % 2 ^ 32), port := p, at_ := ch.now }] } } i k b w e := by
  have hroom' : ¬ undoSize < ch.chk.undo.length + 16 := Nat.not_lt.mpr hroom
  have hlog := Chan.foldl_undoPush (fun x c => .peer n m.src.toNat i k b w x (16 * c.val + i)
    (ch.fullEpoch (m.args.toNat % 2 ^ 32)) (le old (4 * x) 4) (m.args.toNat / 2 ^ 32)) (List.range 16) ch
  unfold Chan.recvShare
  simp only [he, hi, hk, hb, hidx, hfrom, horigin, hkind, h1, h2, hroom', hplace, hn, hold, beq_self_eq_true, Bool.and_self,
    Bool.not_true, Bool.or_self, decide_false, Bool.false_eq_true, if_false]
  simp only [Chan.tid] at hlog ⊢
  rw [hlog]

end

/-! ## Retractions and epoch closes -/

section

variable {ch : Chan} {m : ZMsg}

theorem Chan.recvRetract_found {x : PeerShare} (hx : (ch.chk.shares.find? fun y => y.device == m.src.toNat &&
      y.origin == m.context.toNat % 16 && y.seqNo == m.args.toNat / 2 ^ 32 && y.epoch % 2 ^ 32 == m.args.toNat % 2 ^ 32) = some x) :
    ch.recvRetract m = ch.peerUndo x := by
  unfold Chan.recvRetract
  rw [hx]

theorem Chan.recvRetract_stale (hx : (ch.chk.shares.find? fun y => y.device == m.src.toNat && y.origin == m.context.toNat % 16 &&
      y.seqNo == m.args.toNat / 2 ^ 32 && y.epoch % 2 ^ 32 == m.args.toNat % 2 ^ 32) = none) :
    ch.recvRetract m = ch.inc R.ZLK_CNT_STALE := by
  unfold Chan.recvRetract
  rw [hx]

theorem Chan.recvClose_stale
    (h : m.args.toNat < sget (fun _ => 0) ch.chk.peerClosed (16 * m.src.toNat + m.context.toNat % 16)) :
    ch.recvClose m = ch.inc R.ZLK_CNT_STALE := if_pos h

/-- The close of an epoch that is not yet closed confirms its shares, whose entries leave the undo log (R259). -/
theorem Chan.recvClose_confirms
    (h : sget (fun _ => 0) ch.chk.peerClosed (16 * m.src.toNat + m.context.toNat % 16) ≤ m.args.toNat) :
    ch.recvClose m =
      let mine : PeerShare → Bool := fun y => y.device == m.src.toNat && y.origin == m.context.toNat % 16 && y.epoch == m.args.toNat
      let nums := (ch.chk.shares.filter mine).map (·.num)
      Chan.undoCount { ch with chk := { ch.chk with
        peerClosed := sset (fun _ => 0) ch.chk.peerClosed (16 * m.src.toNat + m.context.toNat % 16) (m.args.toNat + 1)
        shares := ch.chk.shares.filter fun y => !mine y
        undo := ch.chk.undo.filter fun d => match d with | .peer n .. => !nums.contains n | .flow .. => true } } :=
  if_neg (Nat.not_lt.mpr h)

/-! ## Time probes -/

theorem Chan.recvResp_unasked {p : Nat} (h : (ch.zp p).probe = none) : ch.recvResp p m = ch := by
  unfold Chan.recvResp
  rw [h]

/-- What is noted of a port writes no register. -/
theorem Chan.zState_modZp (ch : Chan) (p : Nat) (f : ZPort → ZPort) (q : Nat) : (ch.modZp p f).zState q = ch.zState q := rfl

/-- The answer to a probe of a port that is UP yields an offset and a delay, and the offsets beyond the neighbour (R356). -/
theorem Chan.recvResp_up {p t1 : Nat} (h : (ch.zp p).probe = some t1) (hup : ch.zState p = 3) :
    ch.recvResp p m =
      let diff : Nat → Nat → Int := fun a b => sgn 64 (unsgn 64 ((a : Int) - (b : Int)))
      let t2 := be m.payload 0 8
      let t3 := be m.payload 8 8
      let a : Chan := ch.modZp p fun x => { x with probe := none, reported := (List.range 8).map fun e => be m.payload (16 + 8 * e) 8 }
      (a.zUpProbe p (ch.halfPs (diff t2 t1 - diff ch.ps t3)) (ch.halfPs (diff ch.ps t1 - diff t3 t2))).zFar p := by
  unfold Chan.recvResp
  rw [h]
  simp only [Chan.zState_modZp, hup, if_false, Nat.reduceEqDiff]

end

/-- Settles O42: a message for this device goes to the engine of its type, which does with it what it can mean. -/
theorem zorbexMessages : Obligations.ZorbexMessages := by
  intro s c ch p h hc
  refine ⟨?_, ?_, ?_, ?_, ?_, ?_, ?_, ?_, ?_, ?_, ?_, ?_, ?_, ?_, ?_, ?_⟩
  · intro hd pay
    exact exec_clocked h rfl hc rfl
  · rintro hd pay _ _ _ i k b w _ b2 ha rfl hlen rfl htid hi16 hk hfrom horigin hkind hb h1 h2 hroom hplace rfl rfl
    refine exec_delivers h hc rfl rfl (by decide) ha hlen ?_
    exact Chan.recvShare_inserted rfl (by omega) hk hb p (by omega) hfrom horigin hkind h1 h2 hroom hplace rfl rfl
  · rintro hd pay _ _ _ ha rfl hlen rfl rfl hno
    exact exec_clocked_raises h rfl hc ((Chan.zDeliver_accepted rfl ha ⟨hlen.ge, hlen.le⟩ (by simp) _).trans
      (Chan.recvShare_unadmitted rfl rfl p hno)) (by decide)
  · rintro hd pay _ _ i k b2 ha rfl hlen rfl hi hk hb hno
    exact exec_clocked_raises h rfl hc ((Chan.zDeliver_accepted rfl ha ⟨hlen.ge, hlen.le⟩ (by simp) _).trans
      (Chan.recvShare_noRoom rfl (by omega) hk hb p hno)) (by decide)
  · intro hd pay x ha hlen hx
    exact exec_delivers h hc rfl rfl (by decide) ha hlen (Chan.recvRetract_found hx)
  · intro hd pay ha hlen hx
    exact exec_delivers h hc rfl rfl (by decide) ha hlen (Chan.recvRetract_stale hx)
  · rintro hd pay _ _ ha hlen rfl rfl hopen
    exact exec_delivers h hc rfl rfl (by decide) ha hlen (Chan.recvClose_confirms hopen)
  · intro hd pay ha hlen hclosed
    exact exec_delivers h hc rfl rfl (by decide) ha hlen (Chan.recvClose_stale hclosed)
  · intro hd pay ha hlen
    exact exec_delivers h hc rfl rfl (by decide) ha hlen rfl
  · rintro hd pay _ t1 ha rfl hlen hprobe
    have ⟨_, hup, _⟩ := ha
    exact exec_delivers h hc rfl rfl (by decide) ha hlen (Chan.recvResp_up hprobe hup)
  · intro hd pay hl hlen
    exact exec_delivers_badLength h hc rfl rfl hl hlen
  · intro hd pay hl hlen
    exact exec_delivers_badLength h hc rfl rfl hl hlen
  · intro hd pay hl hlen
    exact exec_delivers_badLength h hc rfl rfl hl hlen
  · intro hd pay hl hlen
    exact exec_delivers_badLength h hc rfl rfl hl hlen
  · intro hd pay hl hlen
    exact exec_delivers_badLength h hc rfl rfl hl hlen
  · intro hd pay ha hlen hprobe
    exact exec_delivers h hc rfl rfl (by decide) ha hlen (Chan.recvResp_unasked hprobe)

end Sys2Proof.Machine
end

section
/-!
PROOFS of 10_continual_training_and_replicas.md: what the updates of a training context leave, and the messages of its group (R272,
R273, R277).
-/

namespace Sys2Proof.Machine
open Sys2Proof

/-! ## A context that is put twice -/

section

variable {α : Type}

theorem sins_sins (m : List (Nat × α)) (k : Nat) (v w : α) : sins (sins m k v) k w = sins m k w := by
  induction m with
  | nil => simp [sins]
  | cons p r ih =>
    obtain ⟨j, u⟩ := p
    by_cases hlt : k < j
    · simp [sins, hlt]
    · by_cases heq : j = k
      · simp [sins, heq]
      · simp [sins, hlt, heq, ih]

theorem sdel_sins (m : List (Nat × α)) (k : Nat) (v : α) : sdel (sins m k v) k = sdel m k := by
  induction m with
  | nil => simp [sins, sdel]
  | cons p r ih =>
    obtain ⟨j, u⟩ := p
    by_cases hlt : k < j
    · simp [sins, sdel, hlt]
    · by_cases heq : j = k
      · simp [sins, sdel, heq]
      · simp [sins, sdel, hlt, heq, ih]

/-- Of two writes of a place, the first of which lists it, the second counts. -/
theorem sset_sset [DecidableEq α] (d : Nat → α) (m : List (Nat × α)) {k : Nat} {v : α} (w : α) (hv : v ≠ d k) :
    sset d (sset d m k v) k w = sset d m k w := by
  simp only [sset, hv, if_false, sdel_sins, sins_sins]

end

@[simp] theorem Chan.trnCtx_setTrn (ch : Chan) (g : Nat) (t : TrnCtx) : (ch.setTrn g t).trnCtx g = t := sget_sset_same ..

@[simp] theorem Chan.trnCtx_modTrn (ch : Chan) (g : Nat) (f : TrnCtx → TrnCtx) : (ch.modTrn g f).trnCtx g = f (ch.trnCtx g) :=
  ch.trnCtx_setTrn g _

/-- Training contexts are no registers. -/
@[simp] theorem Chan.trnState_setTrn (ch : Chan) (g j : Nat) (t : TrnCtx) : (ch.setTrn g t).trnState j = ch.trnState j := rfl

@[simp] theorem Chan.trnState_modTrn (ch : Chan) (g j : Nat) (f : TrnCtx → TrnCtx) :
    (ch.modTrn g f).trnState j = ch.trnState j := rfl

/-- A context in which a DECISION has been heard is listed, so what is put next replaces it. -/
theorem Chan.setTrn_setTrn_heard (ch : Chan) (g : Nat) {t : TrnCtx} (u : TrnCtx) {k : Nat} (h : t.heard = some k) :
    (ch.setTrn g t).setTrn g u = ch.setTrn g u := by
  have ht : t ≠ {} := fun e => Option.some_ne_none k (h.symm.trans (congrArg TrnCtx.heard e))
  exact congrArg (fun m => { ch with trn := m }) (sset_sset (fun _ => {}) ch.trn u ht)

/-! ## Messages that reach their engine -/

section

variable {s : State} {c : Fin 8} {ch : Chan} (h : s.chan c = ch) (hc : ch.clocked = true)

include h hc

/-- A message of any length its type allows, and no DECISION of reserved outcome, reaches its engine. -/
theorem exec_delivers_within {i : Instr} {p typ lo hi : Nat} {vl : Bool} {hd : MsgHead} {pay : List Byte} {f : ZMsg → Chan → Chan}
    {a : Chan} (hrow : exec i s = .next (s.onClocked c fun ch => ch.zDeliver p typ hd pay f)) (hz : zType typ = some (vl, lo, hi))
    (ha : ch.accepts p hd) (hlo : lo ≤ 2 + ceilDiv pay.length 16) (hhi : 2 + ceilDiv pay.length 16 ≤ hi)
    (hres : ¬ (typ = 8 ∧ 2 < hd.args.toNat % 256)) (hf : f (delivered typ vl hd pay) ch = a) :
    ∃ t, exec i s = .next t ∧ Agrees a (t.chan c) :=
  exec_clocked h hrow hc ((Chan.zDeliver_accepted hz ha ⟨hlo, hhi⟩ hres f).trans hf)

end

/-- A DECISION of a reserved outcome is a header error (R349). -/
theorem Chan.zDeliver_reserved {ch : Chan} {p : Nat} {hd : MsgHead} (pay : List Byte) (hl : ch.zLive p = true)
    (hres : 2 < hd.args.toNat % 256) (h : ZMsg → Chan → Chan) :
    ch.zDeliver p 8 hd pay h = ch.count R.ZLK_CNT_BAD_MESSAGE EV_ZLK_BAD_MESSAGE := by
  unfold Chan.zDeliver
  simp only [zType, hl, hres, and_self, or_true, if_true, if_false, Bool.not_true, Bool.false_eq_true]

end Sys2Proof.Machine
end

section
/-!
PROOFS of 10_continual_training_and_replicas.md: feeders send batches and passes, and received ones advance the turn (R276, R277).
-/

namespace Sys2Proof.Machine
open Sys2Proof

section

variable {ch : Chan} {g : Nat}

/-! ## What the feeder sends -/

/-- The feeder has its rows: a full batch, or some after the window. -/
theorem Chan.feederBatch_sends {n : Nat} (hfeeds : ch.trnFeeds g = true) (hvote : (ch.trnCtx g).vote = none)
    (hn : min 64 (max 1 (ch.trnFld g F.TRN_CFG_batch_rows)) = n)
    (hrows : n ≤ (ch.trnCtx g).admitted.length ∨
      (ch.trnWindow g = true ∧ max 1 (ch.trnFld g F.TRN_CFG_min_rows) ≤ (ch.trnCtx g).admitted.length)) :
    ch.feederBatch g =
      let x := ch.trnCtx g
      let q := (x.admitted.take n).map (·.row)
      let b : TrnBatch := { step := ch.nextBatch g, turn := x.turn, m := q.length, bytes := (q.headD []).length, rows := q }
      (((ch.setTrn g { x with admitted := x.admitted.drop n }).trnKeep g b).trnSendAll g 5 false b.step b.payload).trnTurn g
        (x.turn + 1) := by
  have hdue : (decide (n ≤ (ch.trnCtx g).admitted.length) ||
      (ch.trnWindow g && decide (max 1 (ch.trnFld g F.TRN_CFG_min_rows) ≤ (ch.trnCtx g).admitted.length))) = true := by
    simpa using hrows
  unfold Chan.feederBatch
  simp only [hn]
  refine if_neg ?_
  simp only [hfeeds, hvote, hdue, Option.isSome_none, Bool.not_true, Bool.or_self, Bool.false_eq_true, not_false_eq_true]

/-- The feeder has too few rows when the window passes. -/
theorem Chan.feederPass_sends (hfeeds : ch.trnFeeds g = true) (hwindow : ch.trnWindow g = true)
    (hfew : (ch.trnCtx g).admitted.length < max 1 (ch.trnFld g F.TRN_CFG_min_rows)) :
    ch.feederPass g = (ch.trnSendAll g 6 true (ch.trnCtx g).turn []).trnTurn g ((ch.trnCtx g).turn + 1) := by
  unfold Chan.feederPass
  simp only [hfeeds, hwindow, hfew, decide_true, Bool.and_self, if_true]

/-! ## What a member takes -/

/-- The step of the next BATCH that a member expects: one that rejoins expects those behind the checkpoint it asked for (R277). -/
def Chan.batchWanted (ch : Chan) (g : Nat) : Nat :=
  if ch.trnState g = 3 then
    match (ch.trnCtx g).log.getLast?, (ch.trnCtx g).wanted with
    | some y, _ => y.step + 1
    | none, some w => w.1 + 1
    | none, none => 0
  else ch.nextBatch g

variable {m : ZMsg} {r : Nat} (hfrom : ch.trnFrom m = some (g, r))

include hfrom

section

variable {b : TrnBatch} (hb : batchOf m.args.toNat m.payload = some b)

include hb

/-- A BATCH of the step and turn that a member in its group expects is logged and passed on to those catching up. -/
theorem Chan.recvBatch_expected (hstep : b.step = ch.batchWanted g)
    (hstate : ch.trnState g = 1 ∨ ch.trnState g = 3 ∨ ch.trnState g = 4) (hturn : ch.turnOk g b.turn = true) :
    ch.recvBatch m = ((ch.trnCtx g).feeds.filter fun r => ch.trnDevice g r != some m.src.toNat).foldl
      (fun (a : Chan) r => a.trnSend g r 5 false b.step b.payload) ((ch.trnKeep g b).tookTurn g b.turn) := by
  have hok : ¬ (!(b.step == ch.batchWanted g && (ch.trnState g == 1 || ch.trnState g == 3 || ch.trnState g == 4) &&
      ch.turnOk g b.turn)) = true := by
    rcases hstate with hs | hs | hs <;> simp [hstep, hturn, hs]
  unfold Chan.recvBatch
  simp only [hfrom, hb]
  exact if_neg hok

theorem Chan.recvBatch_unexpected
    (hno : b.step ≠ ch.batchWanted g ∨ ch.turnOk g b.turn = false ∨
      ¬ (ch.trnState g = 1 ∨ ch.trnState g = 3 ∨ ch.trnState g = 4)) :
    ch.recvBatch m = ch.inc R.TRN_CNT_FOREIGN := by
  have hok : (!(b.step == ch.batchWanted g && (ch.trnState g == 1 || ch.trnState g == 3 || ch.trnState g == 4) &&
      ch.turnOk g b.turn)) = true := by
    rcases hno with hstep | hturn | hstate
    · simp [hstep]
    · simp [hturn]
    · simp only [not_or] at hstate
      simp [hstate]
  unfold Chan.recvBatch
  simp only [hfrom, hb]
  exact if_pos hok

end

/-- A PASS of the turn that an ACTIVE member expects, or right behind the last BATCH of one that catches up. -/
theorem Chan.recvPass_expected (hexpected : (ch.trnState g = 1 ∧ ch.turnOk g m.args.toNat = true) ∨
      (ch.trnState g = 4 ∧ m.args.toNat = (ch.trnCtx g).turn)) : ch.recvPass m = ch.tookTurn g m.args.toNat := by
  unfold Chan.recvPass
  simp only [hfrom]
  exact if_pos hexpected

theorem Chan.recvPass_unexpected (hactive : ch.trnState g ≠ 1 ∨ ch.turnOk g m.args.toNat = false)
    (hcatching : ch.trnState g ≠ 4 ∨ m.args.toNat ≠ (ch.trnCtx g).turn) : ch.recvPass m = ch.inc R.TRN_CNT_FOREIGN := by
  unfold Chan.recvPass
  simp only [hfrom]
  refine if_neg (not_or.mpr ⟨fun ⟨hstate, hturn⟩ => ?_, fun ⟨hstate, hturn⟩ => ?_⟩)
  · exact hactive.elim (· hstate) fun hno => Bool.false_ne_true (hno.symm.trans hturn)
  · exact hcatching.elim (· hstate) (· hturn)

end

theorem Chan.tookTurn_turn (ch : Chan) (g turn : Nat) : ((ch.tookTurn g turn).trnCtx g).turn = turn + 1 := by
  simp only [Chan.tookTurn, Chan.trnTurn, Chan.trnCtx_modTrn]

/-- Settles O30: each command finds its rows or its turn, and what it does then is the model's one branch. -/
theorem feedersAndTurns : Obligations.FeedersAndTurns := by
  intro s c ch g h hc
  refine ⟨?_, ?_, ?_, ?_, ?_, ?_⟩
  · rintro _ n _ _ rfl hfeeds hvote hn hrows rfl rfl
    exact exec_clocked h (i := .feederSendBatch c g) rfl hc (Chan.feederBatch_sends hfeeds hvote hn hrows)
  · rintro _ rfl hfeeds hwindow hfew
    exact exec_clocked h (i := .feederSendPass c g) rfl hc (Chan.feederPass_sends hfeeds hwindow hfew)
  · rintro p hd pay _ r n b _ ha rfl hlo hhi hfrom hb rfl hstate rfl hstep hturn
    exact exec_delivers_within h hc rfl rfl ha hlo hhi (by simp) (Chan.recvBatch_expected hfrom hb hstep hstate hturn)
  · rintro p hd pay _ r n b _ ha rfl hlo hhi hfrom hb rfl rfl hno
    refine exec_delivers_within h hc rfl rfl ha hlo hhi (by simp) (Chan.recvBatch_unexpected hfrom hb ?_)
    exact hno.imp id (Or.imp id fun hstate => by omega)
  · rintro p hd pay _ r ha rfl hlen hfrom hexpected
    obtain ⟨t, ht, hagree⟩ := exec_delivers (i := .pass c p hd pay) h hc rfl rfl (by decide) ha hlen
      (Chan.recvPass_expected hfrom hexpected)
    refine ⟨t, ht, hagree, ?_⟩
    have hctx : (t.chan c).trnCtx g = (ch.tookTurn g hd.args.toNat).trnCtx g := congrArg (sget _ · g.val) hagree.trn
    exact (congrArg TrnCtx.turn hctx).trans (ch.tookTurn_turn g _)
  · rintro p hd pay _ r ha rfl hlen hfrom hactive hcatching
    exact exec_delivers h hc rfl rfl (by decide) ha hlen (Chan.recvPass_unexpected hfrom hactive hcatching)

end Sys2Proof.Machine
end

section
/-!
PROOFS of 10_continual_training_and_replicas.md: training steps, checkpoints, digests and the vote (R278, R280 to R283, R288, R291).
-/

namespace Sys2Proof.Machine
open Sys2Proof

/-! ## Updates of channels that agree -/

namespace Agrees

variable {a b : Chan} (h : Agrees a b)

include h

theorem put (k : Nat) (v : Word) : Agrees (a.wr k v) (b.wr k v) := by
  refine { h with rd := fun j hj => ?_ }
  by_cases hjk : j = k
  · rw [hjk, Chan.rd_wr_same, Chan.rd_wr_same]
  · rw [Chan.rd_wr_ne _ _ hjk, Chan.rd_wr_ne _ _ hjk, h.rd _ hj]

theorem putFld {k : Nat} (hk : ¬ settleKey k) (f : Fld) (v : Nat) : Agrees (a.setFld k f v) (b.setFld k f v) := by
  rw [Chan.setFld, Chan.setFld, h.rd k hk]
  exact h.put k _

theorem raise_both (e : Ev) (t u n : Option Nat) : Agrees (a.raise e t n) (b.raise e u n) :=
  (Agrees.raise a e t n).symm.trans (h.trans (.raise b e u n))

theorem trnCtx (g : Nat) : b.trnCtx g = a.trnCtx g := by simp only [Chan.trnCtx, h.trn]

theorem putTrn (g : Nat) (x : TrnCtx) : Agrees (a.setTrn g x) (b.setTrn g x) :=
  { h with trn := congrArg (fun m => sset (fun _ => ({} : TrnCtx)) m g x) h.trn }

theorem modTrn (g : Nat) (f : TrnCtx → TrnCtx) : Agrees (a.modTrn g f) (b.modTrn g f) := by
  rw [Chan.modTrn, Chan.modTrn, h.trnCtx]
  exact h.putTrn g _

end Agrees

/-- What tells of a context's new state is a vector, beside the state. -/
theorem RaiseFrame.setTrnState (a : Chan) (g v : Nat) :
    RaiseFrame (a.setFld (R.TRN_STATUS g) F.TRN_STATUS_state v) (a.setTrnState g v) := by
  unfold Chan.setTrnState
  dsimp only
  split
  · exact .vector _ _ _ _
  · exact .refl _

theorem Agrees.of_raiseFrame {a b : Chan} (h : RaiseFrame a b) : Agrees a b :=
  { h with rd := fun k hk => h.rd k fun hr => hk (.inl hr) }

/-! ## The vote opens -/

/-- The vote on a checkpoint opens. -/
def Chan.openVote (ch : Chan) (g c : Nat) : Chan :=
  (ch.modTrn g fun t => { t with vote := some { c := c }, snapshot := some ch.now }).setFlag (R.TRN_STATUS g)
    F.TRN_STATUS_vote_open true

/-- The group has decided on step `c`, or beyond it, as far as a member has heard. -/
def TrnCtx.heardOf (t : TrnCtx) (c : Nat) : Bool := match t.heard with | some k => decide (c ≤ k) | none => false

/-- A member that has caught up is ACTIVE. -/
def Chan.trnCaughtUp (ch : Chan) (g : Nat) : Chan :=
  let a := (ch.setTrnState g 1).setTrnActive g (putBit (ch.trnActive g) (ch.trnRank g) true)
  (a.inc (R.TRN_CNT_REJOIN g)).raise EV_TRN_REJOINED (some (a.trnTenant g)) (some (R.TRN_CNT_REJOIN g))

theorem Chan.compareStep_eq (ch : Chan) (g c : Nat) :
    ch.compareStep g c =
      if ch.trnState g = 1 then ch.openVote g c
      else if ch.trnState g = 4 ∧ (ch.trnCtx g).heardOf c = false then (ch.trnCaughtUp g).openVote g c
      else ch := rfl

/-- The registers of training contexts are none that events or freezes write. -/
theorem not_settleKey_trn {k : Nat} (h : R.TRN_CFG 0 ≤ k ∧ k ≤ R.TRN_CNT_FOREIGN) : ¬ settleKey k := by
  simp only [R.TRN_CFG, R.TRN_CNT_FOREIGN] at h
  refine not_settleKey_of ?_
  simp only [R.CHN_EVQ_CTRL, R.VPE_CNT_TELEM_DROP, R.OBS_FREEZE, R.OBS_FREEZE_TIME, R.OBS_CNT_FREEZES]
  omega

theorem not_settleKey_trnStatus (g : Fin 4) : ¬ settleKey (R.TRN_STATUS g) :=
  not_settleKey_trn (by simp only [R.TRN_CFG, R.TRN_STATUS, R.TRN_CNT_FOREIGN]; omega)

namespace Agrees

variable {a b : Chan} (h : Agrees a b) (g : Fin 4)

include h

theorem trnFld (f : Fld) : b.trnFld g f = a.trnFld g f :=
  h.fld (not_settleKey_trn (by simp only [R.TRN_CFG, R.TRN_CNT_FOREIGN]; omega)) f

theorem trnStatus (f : Fld) : b.fld (R.TRN_STATUS g) f = a.fld (R.TRN_STATUS g) f := h.fld (not_settleKey_trnStatus g) f

theorem putStatus (f : Fld) (v : Nat) : Agrees (a.setFld (R.TRN_STATUS g) f v) (b.setFld (R.TRN_STATUS g) f v) :=
  h.putFld (not_settleKey_trnStatus g) f v

theorem setTrnState (v : Nat) : Agrees (a.setTrnState g v) (b.setTrnState g v) :=
  (of_raiseFrame (.setTrnState a g v)).symm.trans ((h.putStatus g _ v).trans (of_raiseFrame (.setTrnState b g v)))

theorem openVote (k : Nat) : Agrees (a.openVote g k) (b.openVote g k) := by
  unfold Chan.openVote
  rw [h.now]
  exact (h.modTrn g _).putStatus g _ _

theorem trnCaughtUp : Agrees (a.trnCaughtUp g) (b.trnCaughtUp g) := by
  have hactive : b.trnActive g = a.trnActive g := h.trnStatus g _
  have hrank : b.trnRank g = a.trnRank g := h.trnFld g _
  unfold Chan.trnCaughtUp
  rw [hactive, hrank]
  refine Agrees.raise_both (Agrees.inc ((h.setTrnState g 1).putStatus g _ _) ?_ 1) _ _ _ _
  exact not_settleKey_trn (by simp only [R.TRN_CFG, R.TRN_CNT_REJOIN, R.TRN_CNT_FOREIGN]; omega)

theorem compareStep (k : Nat) : Agrees (a.compareStep g k) (b.compareStep g k) := by
  have hstate : b.trnState g = a.trnState g := h.trnStatus g _
  rw [Chan.compareStep_eq, Chan.compareStep_eq, hstate, h.trnCtx]
  split
  · exact h.openVote g k
  · split
    · exact (h.trnCaughtUp g).openVote g k
    · exact h

end Agrees

/-! ## A step ends -/

/-- The step in progress has ended: no run of it is left. -/
def Chan.stepEnded (ch : Chan) (g : Nat) : Chan :=
  (ch.setSeqr (ch.stepSide g) { ch.seqr (ch.stepSide g) with run := none }).modTrn g fun y => { y with running := false }

/-- Step `k` counts, whether its run completed or not, and a compare step opens the vote (R281, R282). -/
def Chan.stepCounted (ch : Chan) (g k : Nat) : Chan :=
  let b : Chan := (ch.inc (R.TRN_CNT_STEPS g)).setTrnStep g (k + 1)
  if b.isCompare g k then b.compareStep g k else b

theorem Agrees.stepCounted {a b : Chan} (h : Agrees a b) (g : Fin 4) (k : Nat) :
    Agrees (a.stepCounted g k) (b.stepCounted g k) := by
  have hstep :
      Agrees ((a.inc (R.TRN_CNT_STEPS g)).setTrnStep g (k + 1)) ((b.inc (R.TRN_CNT_STEPS g)).setTrnStep g (k + 1)) :=
    (h.inc (not_settleKey_trn (by simp only [R.TRN_CFG, R.TRN_CNT_STEPS, R.TRN_CNT_FOREIGN]; omega)) 1).put _ _
  unfold Chan.stepCounted Chan.isCompare
  simp only [hstep.trnFld g]
  split
  · exact hstep.compareStep g k
  · exact hstep

/-- A vote that opens touches no run. -/
theorem RunsKept.compareStep (a : Chan) (g k : Nat) : RunsKept a (a.compareStep g k) := by
  have hopen (b : Chan) : RunsKept b (b.openVote g k) := ⟨rfl, rfl⟩
  have hstate : RunsKept a (a.setTrnState g 1) :=
    RunsKept.trans (b := a.setFld (R.TRN_STATUS g) F.TRN_STATUS_state 1) ⟨rfl, rfl⟩ (of_raiseFrame (.setTrnState a g 1))
  have hactive (b : Chan) (v : Nat) : RunsKept b (b.setTrnActive g v) := ⟨rfl, rfl⟩
  have hcaught : RunsKept a (a.trnCaughtUp g) := by
    unfold Chan.trnCaughtUp
    exact ((hstate.trans (hactive _ _)).trans (inc _ _ _)).trans (raise _ _ _ _)
  rw [Chan.compareStep_eq]
  exact ite (hopen a) (ite (hcaught.trans (hopen _)) (refl a))

theorem Chan.stepCounted_run (ch : Chan) (g k ctx : Nat) : (ch.stepCounted g k).run ctx = ch.run ctx := by
  have hcounted : RunsKept ch ((ch.inc (R.TRN_CNT_STEPS g)).setTrnStep g (k + 1)) := ⟨rfl, rfl⟩
  have hkept : RunsKept ch (ch.stepCounted g k) := hcounted.trans (.ite (.compareStep _ g k) (.refl _))
  exact congrArg SideRun.run (Chan.seqr_congr hkept.runs ctx)

theorem Chan.stepEnded_run (ch : Chan) (g : Nat) : (ch.stepEnded g).run (ch.stepSide g) = none :=
  congrArg SideRun.run (ch.seqr_setSeqr (ch.stepSide g) { ch.seqr (ch.stepSide g) with run := none })

section

variable {ch : Chan} {g : Nat}

/-- A step whose run has issued and completed every command ends. -/
theorem Chan.stepComplete_due {r : Run} (hrun : ch.run (ch.stepSide g) = some r) (hrunning : (ch.trnCtx g).running = true)
    (hissued : (ch.side (ch.stepSide g)).commands ≤ r.next) (hlive : r.live = []) :
    ch.stepComplete g =
      (if r.failed.isSome then
        (((ch.stepEnded g).runFailed (ch.stepSide g)).refreshSide (ch.stepSide g)).count (R.TRN_CNT_ABANDONED g)
          EV_TRN_STEP_ABANDONED (some (ch.trnTenant g))
      else ch.stepEnded g).stepCounted g (ch.trnStep g) := by
  have hwait : ¬ ((ch.trnCtx g).running = false ∨ r.next < (ch.side (ch.stepSide g)).commands ∨ r.live.isEmpty = false) := by
    simp [hrunning, hissued, hlive]
  unfold Chan.stepComplete
  simp only [hrun, hwait, if_false]
  rfl

/-! ## A step begins -/

/-- Storing rows takes no time. -/
theorem Chan.store_now (ch : Chan) {tier : Nat} (ht : tier < 2) (owner a : Nat) (bs : List Byte) :
    (ch.store tier owner a bs).now = ch.now := by
  rw [Chan.store, (Chan.watch_agrees tier a bs.length true _).now, Chan.inc_now]
  match tier, ht with
  | 0, _ => rfl
  | 1, _ => rfl

theorem Chan.foldl_store_now {α : Type} {tier : Nat} (ht : tier < 2) (owner : Nat) (at_ : Chan → α → Nat)
    (bs : α → List Byte) (l : List α) (ch : Chan) :
    (l.foldl (fun (a : Chan) y => a.store tier owner (at_ a y) (bs y)) ch).now = ch.now := by
  induction l generalizing ch with
  | nil => rfl
  | cons y l ih => rw [List.foldl_cons, ih, Chan.store_now _ ht]

/-- The next ready context of a tenant none of whose steps runs begins the step of its batch. -/
theorem Chan.stepStart_begins {b : TrnBatch}
    (hidle : ((List.range 4).any fun h => (ch.trnCtx h).running && ch.trnTenant h == ch.trnTenant g) = false)
    (hnext : ch.trnNext (ch.trnTenant g) = some g) (hb : ((ch.trnCtx g).log.find? fun b => b.step == ch.trnStep g) = some b) :
    ch.stepStart g =
      let i := ch.trnTenant g
      let x := ch.trnSide g
      let q := (ch.side x).cmd 0
      let n := (ch.seqr x).count
      let a : Chan := b.rows.zipIdx.foldl (fun (a : Chan) y => a.store 0 i (a.winAddr x n q.w20 + y.2 * q.w24) y.1)
        (ch.wr (R.ACU_SR_SEED i) (ch.rd (R.TRN_SEED g) + ch.rd (R.TRN_STEP g)))
      let d : Chan := (a.setSeqr x { ch.seqr x with
        run := some { number := n, at_ := ch.now, m := b.m, jobs := [] }, count := n + 1 }).inc R.CHN_CNT_RUNS
      let e : Chan := Chan.modTrn { d with trnLast := sins d.trnLast i g } g fun y =>
        { y with running := true, runCtx := x, nanBase := a.nanCounts x n }
      if e.trnState g = 1 ∧ e.trnStep g = 0 then e.setTrnActive g 7 else e := by
  unfold Chan.stepStart
  simp only [hidle, hnext, hb, bne_self_eq_false, Bool.or_self, Bool.false_eq_true, if_false]
  rw [Chan.foldl_store_now (by decide)]
  rfl

/-! ## A checkpoint is ready, or the vote's time is over -/

/-- The snapshot of an open vote has been read and hashed: its digest is sent, and the vote decided where the others' are held. -/
theorem Chan.digestReady_due {v : Vote} {t0 : Nat} (hvote : (ch.trnCtx g).vote = some v)
    (hsnapshot : (ch.trnCtx g).snapshot = some t0) (hon : ch.trnOn g = true) (hstate : ch.trnState g = 1) (hready : v.ready = none)
    (hsince : ch.since t0 ((64 + 4 * ch.trnParams g) * nsG / 20) = true) :
    ch.digestReady g =
      let bs := ch.ckptHeader g v.c ++ ch.trnMasters g
      let a : Chan := (ch.store 1 (ch.trnTenant g) (ch.trnArea g (1 - (ch.trnCtx g).area)) bs).modTrn g fun y =>
        { y with vote := some { v with ready := some ch.now, own := sha384 bs } }
      (a.trnSendAll g 7 true v.c (sha384 bs)).voteTry g := by
  unfold Chan.digestReady
  simp only [hvote, hsnapshot, hon, hstate, hready, hsince, Chan.store_now _ Nat.one_lt_two, bne_self_eq_false,
    Option.isSome_none, Bool.not_true, Bool.or_self, Bool.false_eq_true, if_false]

theorem Chan.voteTimeout_due {v : Vote} {t0 : Nat} (hvote : (ch.trnCtx g).vote = some v) (hready : v.ready = some t0)
    (hon : ch.trnOn g = true) (hsince : ch.since t0 (ch.voteTime g) = true) : ch.voteTimeout g = ch.voteDecide g := by
  unfold Chan.voteTimeout
  simp only [hvote, hready, hon, hsince, Bool.and_self, if_true]

/-! ## Digests and decisions of other members -/

/-- An ACTIVE member expects the DIGEST of the vote that is open. -/
theorem Chan.voteStep_open {v : Vote} (hstate : ch.trnState g = 1) (hvote : (ch.trnCtx g).vote = some v) :
    ch.voteStep g v.c false = true := by
  simp [Chan.voteStep, Chan.wantVote, hstate, hvote]

/-! ## Decisions heard -/

/-- The step that this member decided last. -/
def TrnCtx.decidedLast (t : TrnCtx) (k : Nat) : Bool := match t.decided with | some d => d.c == k | none => false

/-- What a DECISION of step `k` leaves of a member: one on the step it decided last may replace its own, and an ACTIVE member keeps
any other until its own (R283). -/
def Chan.decisionTaken (ch : Chan) (g r k mask outcome : Nat) : Chan :=
  let x := ch.trnCtx g
  let st := ch.trnState g
  let a : Chan := ch.setTrn g { x with heard := some k }
  if x.decidedLast k && (st == 1 || st == 2 || st == 5) then a.trnAdopt g r k mask outcome
  else if st = 1 then a.modTrn g fun y => { y with early := y.early ++ [(r, k, mask, outcome, ch.now)] }
  else a

/-- A LONE member rejoins on a DECISION, of which `d` is the digest (R288). -/
def Chan.loneRejoins (ch : Chan) (g r k mask outcome : Nat) (d : List Byte) : Chan :=
  if ch.trnState g = 5 ∧ outcome ≤ 1 then
    (ch.modTrn g fun y => { y with
      donor := if outcome = 0 then lowestRank mask else r
      wanted := some (if outcome = 0 then (k, d) else ((ch.rd (R.TRN_AGREED g)).toNat, ch.agreedDigest g)) }).trnRejoin g
  else ch

theorem TrnCtx.decidedLast_none {t : TrnCtx} {k : Nat} (h : t.decided.all (fun d => d.c != k) = true) :
    t.decidedLast k = false := by
  unfold TrnCtx.decidedLast
  split
  next d hd => simpa [hd] using h
  next => rfl

section

variable {r k mask outcome : Nat}

theorem Chan.decisionTaken_early (hmine : (ch.trnCtx g).decidedLast k = false) (hstate : ch.trnState g = 1) :
    ch.decisionTaken g r k mask outcome =
      let x := ch.trnCtx g
      ch.setTrn g { x with heard := some k, early := x.early ++ [(r, k, mask, outcome, ch.now)] } := by
  unfold Chan.decisionTaken
  simp only [hmine, hstate, Bool.false_and, Bool.false_eq_true, if_false, if_true, Chan.modTrn, Chan.trnCtx_setTrn]
  exact Chan.setTrn_setTrn_heard _ _ _ rfl

theorem Chan.decisionTaken_mine (hmine : (ch.trnCtx g).decidedLast k = true) (hstate : ch.trnState g = 1 ∨ ch.trnState g = 2) :
    ch.decisionTaken g r k mask outcome = (ch.setTrn g { ch.trnCtx g with heard := some k }).trnAdopt g r k mask outcome := by
  have hadopts : ((ch.trnCtx g).decidedLast k && (ch.trnState g == 1 || ch.trnState g == 2 || ch.trnState g == 5)) = true := by
    rcases hstate with hs | hs <;> simp [hmine, hs]
  exact if_pos hadopts

theorem Chan.decisionTaken_lone (hmine : (ch.trnCtx g).decidedLast k = false) (hstate : ch.trnState g = 5) :
    ch.decisionTaken g r k mask outcome = ch.setTrn g { ch.trnCtx g with heard := some k } := by
  unfold Chan.decisionTaken
  simp only [hmine, hstate, Bool.false_and, Bool.false_eq_true, if_false, Nat.reduceEqDiff]

theorem Chan.loneRejoins_not {d : List Byte} (hstate : ch.trnState g ≠ 5) : ch.loneRejoins g r k mask outcome d = ch :=
  if_neg fun h => hstate h.1

end

variable {m : ZMsg} {r : Nat} (hfrom : ch.trnFrom m = some (g, r))

include hfrom

theorem Chan.recvDigest_unexpected (hstep : ch.voteStep g m.args.toNat false = false) :
    ch.recvDigest m = ch.inc R.TRN_CNT_FOREIGN := by
  unfold Chan.recvDigest
  simp only [hfrom, hstep, if_true]
  rfl

/-- A digest that is expected is held; in an ACTIVE member its sender counts as ACTIVE and the vote is tried. -/
theorem Chan.recvDigest_expected (hstep : ch.voteStep g m.args.toNat false = true) :
    ch.recvDigest m =
      let x := ch.trnCtx g
      let a : Chan := ch.setTrn g { x with
        digests := (x.digests.filter fun d => d.1 != r) ++ [(r, m.args.toNat, slice m.payload 0 48)]
        feeds := x.feeds.filter fun y => y != r }
      let b : Chan := a.setTrnActive g (putBit (a.trnActive g) r true)
      if ch.trnState g = 1 then if b.trnOn g then b.voteTry g else b else a := by
  unfold Chan.recvDigest
  simp only [hfrom, hstep, Bool.true_eq_false, if_false]
  rfl

theorem Chan.recvDecision_unexpected (hstep : ch.voteStep g (m.args.toNat / 65536) true = false) :
    ch.recvDecision m = ch.inc R.TRN_CNT_FOREIGN := by
  unfold Chan.recvDecision
  simp only [hfrom, hstep, if_true]
  rfl

/-- In Safe Serve an ACTIVE member only notes what it hears, and a set without it (R291). -/
theorem Chan.recvDecision_safeServe (hstep : ch.voteStep g (m.args.toNat / 65536) true = true) (hserve : ch.safeServe = true)
    (hstate : ch.trnState g = 1) :
    ch.recvDecision m =
      let x := ch.trnCtx g
      let k := m.args.toNat / 65536
      let mask := m.args.toNat / 256 % 8
      if m.args.toNat % 256 = 0 ∧ mask.testBit (ch.trnRank g) = false then
        ch.setTrn g { x with heard := some k, missed := true, donor := lowestRank mask, wanted := some (k, x.digestIn k mask) }
      else ch.setTrn g { x with heard := some k } := by
  have hexpected : ¬ ch.voteStep g (m.args.toNat / 65536) true = false := by simp [hstep]
  unfold Chan.recvDecision
  simp only [hfrom]
  refine (if_neg hexpected).trans ((if_pos ⟨hserve, hstate⟩).trans (if_congr Iff.rfl ?_ rfl))
  simp only [Chan.modTrn, Chan.trnCtx_setTrn]
  exact Chan.setTrn_setTrn_heard _ _ _ rfl

/-- Any other member takes it, and rejoins on it where it is LONE. -/
theorem Chan.recvDecision_taken {a : Chan} (hstep : ch.voteStep g (m.args.toNat / 65536) true = true)
    (hserve : ¬ (ch.safeServe = true ∧ ch.trnState g = 1))
    (htaken : ch.decisionTaken g r (m.args.toNat / 65536) (m.args.toNat / 256 % 8) (m.args.toNat % 256) = a) :
    ch.recvDecision m =
      let k := m.args.toNat / 65536
      let mask := m.args.toNat / 256 % 8
      a.loneRejoins g r k mask (m.args.toNat % 256) ((ch.trnCtx g).digestIn k mask) := by
  subst htaken
  have hexpected : ¬ ch.voteStep g (m.args.toNat / 65536) true = false := by simp [hstep]
  unfold Chan.recvDecision
  simp only [hfrom]
  exact (if_neg hexpected).trans (if_neg hserve)

end

/-- Settles O31: each command finds its step, its vote or its message due, and channels that agree count and vote alike. -/
theorem stepsCheckpointsAndVotes : Obligations.StepsCheckpointsAndVotes := by
  intro s c ch g h hc
  have hears {p : Fin 3} {hd : MsgHead} {pay : List Byte} {a : Chan} (ha : ch.accepts p hd) (hlen : 2 + ceilDiv pay.length 16 = 2)
      (hres : hd.args.toNat % 256 ≤ 2) (hf : ch.recvDecision (delivered 8 true hd pay) = a) :
      ∃ t, exec (.decision c p hd pay) s = .next t ∧ Agrees a (t.chan c) :=
    exec_delivers_within h hc rfl rfl ha hlen.ge hlen.le (fun hno => absurd hno.2 (Nat.not_lt.mpr hres)) hf
  refine ⟨?_, ?_, ?_, ?_, ?_, ?_, ?_, ?_, ?_, ?_, ?_, ?_, ?_, ?_⟩
  · rintro b _ rfl hidle hnext hb
    exact exec_clocked h (i := .trainingStepStart c g) rfl hc (Chan.stepStart_begins hidle hnext hb)
  · rintro _ _ r rfl hrun hrunning hissued hlive hfailed rfl
    have hstep := Chan.stepComplete_due hrun hrunning hissued hlive
    simp only [hfailed, Option.isSome_none, Bool.false_eq_true, if_false] at hstep
    obtain ⟨t, ht, ha⟩ := exec_clocked h (i := .trainingStepComplete c g) rfl hc hstep
    exact ⟨t, ht, ha, (ha.run _).trans ((Chan.stepCounted_run _ _ _ _).trans (ch.stepEnded_run g))⟩
  · rintro _ _ _ r e rfl hrun hrunning hissued hlive hfailed rfl rfl
    have hstep := Chan.stepComplete_due hrun hrunning hissued hlive
    simp only [hfailed, Option.isSome_some, if_true] at hstep
    obtain ⟨t, ht, ha⟩ := exec_clocked h (i := .trainingStepComplete c g) rfl hc hstep
    exact ⟨t, ht, ((Agrees.raise _ _ _ _).stepCounted g _).trans ha⟩
  · rintro _ v t0 rfl hvote hsnapshot hon hstate hready hsince
    exact exec_clocked h (i := .checkpointDigestReady c g) rfl hc (Chan.digestReady_due hvote hsnapshot hon hstate hready hsince)
  · intro v t0 hvote hready hon hsince
    exact exec_clocked h (i := .voteTimeout c g) rfl hc (Chan.voteTimeout_due hvote hready hon hsince)
  · rintro p hd pay _ r _ v ha rfl hlen hfrom rfl hstate hvote hargs
    have hstep := Chan.voteStep_open hstate hvote
    rw [← hargs] at hstep ⊢
    exact exec_delivers h hc rfl rfl (by decide) ha hlen ((Chan.recvDigest_expected hfrom hstep).trans (if_pos hstate))
  · rintro p hd pay _ r ha rfl hlen hfrom hstep
    exact exec_delivers h hc rfl rfl (by decide) ha hlen (Chan.recvDigest_unexpected hfrom hstep)
  · rintro p hd pay _ r _ ha rfl hlen hfrom rfl hstate hstep
    exact exec_delivers h hc rfl rfl (by decide) ha hlen ((Chan.recvDigest_expected hfrom hstep).trans (if_neg hstate))
  · intro p hd pay hl hres
    exact exec_clocked_raises h rfl hc (Chan.zDeliver_reserved pay hl hres _) (by decide)
  · rintro p hd pay _ r ha rfl hlen hres hfrom hstep
    exact hears ha hlen hres (Chan.recvDecision_unexpected hfrom hstep)
  · rintro p hd pay _ r _ _ _ ha rfl hlen hres hfrom hserve hstate rfl hstep hother rfl rfl
    refine hears ha hlen hres ((Chan.recvDecision_taken hfrom hstep (by simp [hserve])
      (Chan.decisionTaken_early (TrnCtx.decidedLast_none hother) hstate)).trans (Chan.loneRejoins_not ?_))
    exact ne_of_eq_of_ne hstate (by decide)
  · rintro p hd pay _ r _ _ _ ha rfl hlen hres hfrom hserve hstate rfl hstep rfl rfl
    exact hears ha hlen hres (Chan.recvDecision_safeServe hfrom hstep hserve hstate)
  · rintro p hd pay _ r _ _ d ha rfl hlen hres hfrom hserve hstate rfl hdecided hk rfl hstep hout
    rw [← hk] at hstep hout ⊢
    have hmine : (ch.trnCtx g).decidedLast (hd.args.toNat / 65536) = true := by simp [TrnCtx.decidedLast, hdecided, hk]
    exact hears ha hlen hres ((Chan.recvDecision_taken hfrom hstep (by simp [hserve])
      (Chan.decisionTaken_mine hmine hstate)).trans (Chan.loneRejoins_not hout))
  · rintro p hd pay _ r _ _ _ ha rfl hlen hres hfrom hstate rfl hother rfl rfl hout
    have hstep : ch.voteStep g (hd.args.toNat / 65536) true = true := by simp [Chan.voteStep, hstate]
    exact hears ha hlen hres ((Chan.recvDecision_taken hfrom hstep (by simp [hstate])
      (Chan.decisionTaken_lone (TrnCtx.decidedLast_none hother) hstate)).trans (if_pos ⟨hstate, hout⟩))

end Sys2Proof.Machine
end

section
/-!
PROOFS of 10_continual_training_and_replicas.md: expulsion, rejoining, the serving copy and enabling a context (R274, R286 to R289,
R291, R292).
-/

namespace Sys2Proof.Machine
open Sys2Proof

section

variable {ch : Chan} {g : Nat}

/-! ## Expelled members and the checkpoint they ask for -/

/-- An expelled member whose tests are over fences the failed quadrants, re-checks its digest, and rejoins where every failed quadrant
has a target and a serving side is left (R286). -/
theorem Chan.expelTested_due {qs : List (Nat × Nat)} (bad : Nat) (hon : ch.trnOn g = true) (hstate : ch.trnState g = 2)
    (hused : (ch.trnCtx g).used = qs)
    (hsince : ch.sinceC ((ch.trnCtx g).testAt + 2048 * (ch.side (ch.trnSide g)).tiles * nsG / 20) (2120 * qs.length) = true) :
    ch.expelTested g bad =
      let x := (qs.filter fun y => bad.testBit (4 * y.1 + y.2)).foldl (fun (x : Bool × Chan) y =>
        let a : Chan := x.2.fence (.quadrant y.1 y.2) false
        (x.1 || a.remapTarget y.1 (a.partOfQuad y.1 y.2) (ch.slotTid (ch.trnSlot g)) == .none_, a)) (false, ch)
      let a : Chan := x.2.recheck (ch.trnSide g)
      if x.1 || a.servingState (a.trnSlot g) != 1 then a.trnStop g else a.trnRejoin g := by
  have hdue : ¬ (!ch.trnOn g || ch.trnState g != 2 ||
      !ch.sinceC ((ch.trnCtx g).testAt + 2048 * (ch.side (ch.trnSide g)).tiles * nsG / 20)
        (2120 * (ch.trnCtx g).used.length)) = true := by
    simp [hon, hstate, hused, hsince]
  unfold Chan.expelTested
  subst hused
  exact if_neg hdue

variable {m : ZMsg} {r : Nat} (hfrom : ch.trnFrom m = some (g, r))

include hfrom

/-- An ACTIVE donor sends the checkpoint agreed last and its later batches, and feeds the rank from then on (R287). -/
theorem Chan.recvCkptReq_agreed (hstate : ch.trnState g = 1) (hany : (ch.trnCtx g).agreedAny = true)
    (hagreed : m.args.toNat = (ch.rd (R.TRN_AGREED g)).toNat) :
    ch.recvCkptReq m =
      let x := ch.trnCtx g
      let n := ckptCount (ch.trnParams g)
      let a : Chan := (List.range n).foldl (fun (a : Chan) i =>
        a.trnSend g r 10 false (i * 2 ^ 32 + n) (a.ckptSegment g x.area i)) ch
      let b : Chan := (x.log.filter fun b => decide (m.args.toNat < b.step)).foldl
        (fun (a : Chan) b => a.trnSend g r 5 false b.step b.payload) a
      b.modTrn g fun y => { y with feeds := if y.feeds.contains r then y.feeds else y.feeds ++ [r] } := by
  have hheld : ¬ (ch.trnState g ≠ 1 ∨ (ch.trnCtx g).agreedAny = false ∨ m.args.toNat ≠ (ch.rd (R.TRN_AGREED g)).toNat) := by
    simp [hstate, hany, hagreed]
  unfold Chan.recvCkptReq
  simp only [hfrom]
  exact if_neg hheld

theorem Chan.recvCkptReq_foreign
    (hno : ch.trnState g ≠ 1 ∨ (ch.trnCtx g).agreedAny = false ∨ m.args.toNat ≠ (ch.rd (R.TRN_AGREED g)).toNat) :
    ch.recvCkptReq m = ch.inc R.TRN_CNT_FOREIGN := by
  unfold Chan.recvCkptReq
  simp only [hfrom]
  exact if_pos hno

/-- The next segment from the donor is stored, and the last one installs the checkpoint (R287). -/
theorem Chan.recvCkptData_next {w : Nat × List Byte} (hwanted : (ch.trnCtx g).wanted = some w) (hstate : ch.trnState g = 3)
    (hdonor : r = (ch.trnCtx g).donor) (hnext : m.args.toNat / 2 ^ 32 = (ch.trnCtx g).ckptSegs)
    (hcount : m.args.toNat % 2 ^ 32 = ckptCount (ch.trnParams g)) :
    ch.recvCkptData m =
      let x := ch.trnCtx g
      let i := m.args.toNat / 2 ^ 32
      let len := (if i = 0 then 64 else 0) + min 1048576 (4 * ch.trnParams g - 1048576 * i)
      let a0 := ch.trnArea g (1 - x.area) + (if i = 0 then 0 else 64 + 1048576 * i)
      let a : Chan := (ch.store 1 (ch.trnTenant g) a0 (slice m.payload 0 len)).modTrn g fun y => { y with ckptSegs := i + 1 }
      if i + 1 = m.args.toNat % 2 ^ 32 then a.ckptInstall g w else a := by
  have horder : ¬ (ch.trnState g ≠ 3 ∨ r ≠ (ch.trnCtx g).donor ∨ m.args.toNat / 2 ^ 32 ≠ (ch.trnCtx g).ckptSegs ∨
      m.args.toNat % 2 ^ 32 ≠ ckptCount (ch.trnParams g)) := by
    simp only [hstate, hdonor, hnext, hcount, ne_eq, not_true_eq_false, or_self, not_false_eq_true]
  unfold Chan.recvCkptData
  simp only [hfrom, hwanted]
  exact if_neg horder

theorem Chan.recvCkptData_foreign
    (hno : (ch.trnCtx g).wanted = none ∨ ch.trnState g ≠ 3 ∨ r ≠ (ch.trnCtx g).donor ∨
      m.args.toNat / 2 ^ 32 ≠ (ch.trnCtx g).ckptSegs ∨ m.args.toNat % 2 ^ 32 ≠ ckptCount (ch.trnParams g)) :
    ch.recvCkptData m = ch.inc R.TRN_CNT_FOREIGN := by
  unfold Chan.recvCkptData
  simp only [hfrom]
  cases hwanted : (ch.trnCtx g).wanted with
  | none => rfl
  | some w =>
    have hother := hno.resolve_left (by simp [hwanted])
    exact if_pos hother

end

/-! ## The serving copy -/

section

variable (ch : Chan) (g n k : Nat)

/-- The side that a publication of step `k` builds, before its resources are given to it. -/
def Chan.pubSide : Side :=
  let y := ch.pubParts g (ctxOf n (ch.servingSide n))
  { y.2 with
    header := y.2.header.take 104 ++ modelDigestOf y.2 (fun j => slice y.1 (2048 * j) 2048) ++ y.2.header.drop 152
    signed := if y.2.published then y.2.signed else y.2.modelDigest
    golden := ch.trnPubCopy g, bytes := 256 + y.1.length + y.2.seals.length + y.2.sums.length
    backTier := ch.fld (R.TRN_PUB g) F.TRN_PUB_tier, backAddr := ch.fld (R.TRN_PUB g) F.TRN_PUB_address
    published := true, step := k, digest := ch.agreedDigest g, retired := none, lastEpoch := none }

/-- Its staging into the standby side. -/
def Chan.pubStaging : Staging :=
  let z := ch.pubSide g n k
  { slot := n, side := 1 - ch.servingSide n, src := z.golden, tier := z.backTier, back := z.backAddr, banks := 0, at_ := ch.now }

/-- The channel with the side stored, standing by and swapped in, once its resources have made it `v`. -/
def Chan.pubSwapped (v : Side) : Chan :=
  let i := ch.trnTenant g
  let img := (ch.pubParts g (ctxOf n (ch.servingSide n))).1
  let w := ch.pubStaging g n k
  let pack := v.header ++ img ++ v.seals ++ v.sums
  let a : Chan := (ch.store 1 i v.golden pack).store v.backTier i v.backAddr pack
  let b : Chan := (a.store 0 i (a.winBase (ctxOf n (1 - ch.servingSide n))) img).setSide (ctxOf n (1 - ch.servingSide n)) v
  let d : Chan := ((b.stageStores w v).zeroCounters w v).setStandby n 2
  let e : Chan := (d.modTrn g fun t => { t with pubWait := none }).setFlag (R.TRN_STATUS g) F.TRN_STATUS_publish_wait false
  e.slotSwap n

/-- The channel after a publication that may take place, its event aside: nothing happens where no entry is mapped or a resource is
missing. -/
def Chan.published : Chan :=
  if ch.pubEntries g = 0 then ch
  else match ch.stageAlloc (ch.pubStaging g n k) (ch.pubSide g n k) with
    | .error _ => ch
    | .ok v => (ch.pubSwapped g n k v).inc (R.TRN_CNT_PUBLISH g)

end

/-- A publication that waits for an EMPTY standby side takes place where there are entries and resources for it (R289). -/
theorem Chan.publication_due {ch : Chan} {g n k : Nat} (hwait : (ch.trnCtx g).pubWait = some k) (hon : ch.trnOn g = true)
    (hslot : ch.trnFld g F.TRN_CFG_serve_slot = n) (henabled : ch.slotEnabled n = true) (hkind : ch.slotKind n = 1)
    (htid : ch.slotTid n = ch.slotTid (ch.trnSlot g)) (hserving : ch.servingState n = 1) (hstandby : ch.standbyState n = 0)
    (hloaded : ch.unloading n = false) : Agrees (ch.published g n k) (ch.publication g) := by
  have hmay : (!ch.trnOn g || !(ch.slotEnabled n && ch.slotKind n == 1 && ch.slotTid n == ch.slotTid (ch.trnSlot g) &&
      ch.servingState n == 1 && ch.standbyState n == 0 && !ch.unloading n) || ch.pubEntries g == 0) = true ↔
      ch.pubEntries g = 0 := by
    simp [hon, henabled, hkind, htid, hserving, hstandby, hloaded]
  have hwork : ch.publication g =
      if ch.pubEntries g = 0 then ch
      else match ch.stageAlloc (ch.pubStaging g n k) (ch.pubSide g n k) with
        | .error _ => ch
        | .ok v => (ch.pubSwapped g n k v).count (R.TRN_CNT_PUBLISH g) EV_TRN_PUBLISHED (some (ch.trnTenant g)) := by
    subst hslot
    unfold Chan.publication
    simp only [hwait]
    exact if_congr hmay rfl rfl
  rw [hwork, Chan.published]
  split
  · exact .refl ch
  · cases ch.stageAlloc (ch.pubStaging g n k) (ch.pubSide g n k) with
    | error _ => exact .refl ch
    | ok v => exact .raise _ _ _ _

/-! ## Enabling a context -/

section

variable {ch : Chan} {g : Nat} {v w : Word} (held : Option (Nat × Nat × List Byte)) (hg : g < 4)

include hg

/-- What a write of TRN_CFG of a context that is not enabled does (R288, R292). -/
theorem Chan.trnCfgWrite_disabled (hflag : ch.flag (R.TRN_CFG g) F.TRN_CFG_enable = false)
    (hw : mergeF (ch.rd (R.TRN_CFG g)) v (F.TRN_CFG_enable :: if ch.safeServe then [] else trnCfgLocked) = w) :
    ch.trnCfgWrite g v held =
      if ch.trnCfgBad g w = true then ch.raise EV_TRN_CFG_REJECT
      else if getF w F.TRN_CFG_enable = 1 then (ch.wr (R.TRN_CFG g) w).trnStart g held
      else ch.wr (R.TRN_CFG g) w := by
  unfold Chan.trnCfgWrite
  simp only [hflag, hw, Nat.not_le.mpr hg, Bool.false_or, Bool.false_eq_true, true_and, false_and, if_false]

/-- What it does of one that is enabled, of which only enable is open. -/
theorem Chan.trnCfgWrite_enabled (hflag : ch.flag (R.TRN_CFG g) F.TRN_CFG_enable = true)
    (hw : mergeF (ch.rd (R.TRN_CFG g)) v [F.TRN_CFG_enable] = w) :
    ch.trnCfgWrite g v held =
      if getF w F.TRN_CFG_enable = 0 then
        (((((ch.trnHalt g).wr (R.TRN_CFG g) w).closeVote g).setTrnState g 0).wr (R.TRN_STATUS g) 0).modTrn g fun t =>
          { t with pubWait := none, ring := [], admitted := [] }
      else ch.wr (R.TRN_CFG g) w := by
  unfold Chan.trnCfgWrite
  simp only [hflag, hw, Nat.not_le.mpr hg, Bool.true_or, Bool.true_eq_false, true_and, false_and, if_true, if_false]
  split
  · rfl
  · rfl

end

/-- What tells of a context's new state is a vector, so a status that is put over it hides it. -/
theorem Agrees.status_over {a : Chan} (g n : Nat) (v : Word) :
    Agrees (a.wr (R.TRN_STATUS g) v) ((a.setTrnState g n).wr (R.TRN_STATUS g) v) := by
  have hover : Agrees (a.wr (R.TRN_STATUS g) v) ((a.setFld (R.TRN_STATUS g) F.TRN_STATUS_state n).wr (R.TRN_STATUS g) v) := by
    refine { Agrees.refl a with rd := fun j _ => ?_ }
    by_cases hj : j = R.TRN_STATUS g
    · rw [hj, Chan.rd_wr_same, Chan.rd_wr_same]
    · rw [Chan.rd_wr_ne _ _ hj, Chan.rd_wr_ne _ _ hj, Chan.rd_setFld_ne _ _ _ hj]
  exact hover.trans ((Agrees.of_raiseFrame (.setTrnState a g n)).put _ _)

/-- Settles O32: each command finds its tests over, its message in order, its side EMPTY or its write open. -/
theorem expulsionRejoinAndPublication : Obligations.ExpulsionRejoinAndPublication := by
  intro s c ch g h
  refine ⟨?_, ?_, ?_, ?_, ?_, ?_, ?_, ?_, ?_, ?_⟩
  · intro bad qs hc hon hstate hused hsince
    exact exec_clocked h (i := .expelSelfTestComplete c g bad) rfl hc (Chan.expelTested_due bad.toNat hon hstate hused hsince)
  · rintro p hd pay _ r _ hc ha rfl hlen hfrom rfl hstate hany hagreed
    exact exec_delivers h hc rfl rfl (by decide) ha hlen (Chan.recvCkptReq_agreed hfrom hstate hany hagreed)
  · rintro p hd pay _ r hc ha rfl hlen hfrom hno
    exact exec_delivers h hc rfl rfl (by decide) ha hlen (Chan.recvCkptReq_foreign hfrom hno)
  · rintro p hd pay _ _ w _ _ hc ha rfl hlo hhi hfrom rfl hwanted hstate rfl rfl hnext hcount
    exact exec_delivers_within h hc rfl rfl ha hlo hhi (by simp) (Chan.recvCkptData_next hfrom hwanted hstate rfl hnext hcount)
  · rintro p hd pay _ r _ hc ha rfl hlo hhi hfrom rfl hno
    exact exec_delivers_within h hc rfl rfl ha hlo hhi (by simp) (Chan.recvCkptData_foreign hfrom hno)
  · rintro _ n k hc rfl hwait hon hslot henabled hkind htid hserving hstandby hloaded
    obtain ⟨t, ht, ha⟩ := exec_clocked h (i := .publication c g) rfl hc rfl
    have hdue := Chan.publication_due hwait hon hslot henabled hkind htid hserving hstandby hloaded
    exact ⟨t, ht, hdue.trans ha⟩
  · intro src v w hr hflag hw hgood henable
    refine exec_writeRow h (i := .trnContextEnable c src g v) rfl hr ((Chan.trnCfgWrite_disabled _ g.isLt hflag hw).trans ?_)
    rw [hgood, if_neg Bool.false_ne_true, if_pos henable]
  · intro src v w hr hflag hw hbad
    exact exec_writeRow_raises h (i := .trnContextEnable c src g v) rfl hr
      ((Chan.trnCfgWrite_disabled _ g.isLt hflag hw).trans (if_pos hbad)) (by decide)
  · intro src v w hr hflag hw hdisable
    obtain ⟨t, ht, ha⟩ := exec_writeRow h (i := .trnContextEnable c src g v) rfl hr
      ((Chan.trnCfgWrite_enabled _ g.isLt hflag hw).trans (if_pos hdisable))
    exact ⟨t, ht, ((Agrees.status_over g 0 0).modTrn g _).trans ha⟩
  · intro src v w hr hw hsame hopen
    refine exec_writeRow h (i := .trnContextEnable c src g v) rfl hr ?_
    cases hflag : ch.flag (R.TRN_CFG g) F.TRN_CFG_enable with
    | true =>
      have hkept : getF w F.TRN_CFG_enable ≠ 0 := by
        rw [hsame]
        exact ne_of_eq_of_ne (beq_iff_eq.mp hflag) (by decide)
      rw [hflag] at hw
      exact (Chan.trnCfgWrite_enabled _ g.isLt hflag hw).trans (if_neg hkept)
    | false =>
      have hkept : getF w F.TRN_CFG_enable ≠ 1 := by
        rw [hsame]
        exact beq_eq_false_iff_ne.mp hflag
      have hgood : ch.trnCfgBad g w ≠ true := by simpa [hflag] using hopen
      rw [hflag] at hw
      exact (Chan.trnCfgWrite_disabled _ g.isLt hflag hw).trans ((if_neg hgood).trans (if_neg hkept))

end Sys2Proof.Machine
end

section
/-!
PROOFS of 11_verdicts_metering_and_time_gates.md: a command that reports an event of no tenant.
-/

namespace Sys2Proof.Machine
open Sys2Proof

/-- An event of the channel's own blocks that reports no freeze: raised for no tenant, it leaves no telemetry to report. -/
abbrev Ev.own (e : Ev) : Prop := e.block < 18 ∧ e.block ≠ EV_OBS_FREEZE.block

section

variable {s : State} {c : Fin 8} {ch : Chan} (h : s.chan c = ch) {i : Instr} {f : Chan → Chan} {b : Chan} {e : Ev} {n : Option Nat}
  (ha : f ch = b.raise e none n) (he : e.own)

include h ha he

/-- A register row whose work ends in reporting an event of no tenant on channel `b`. -/
theorem exec_writeRow_raises_own {src : Option (Fin 17)} {off : Nat} {v : Word}
    (hi : exec i s = .next (s.writeRow src c off v f)) (hr : s.reaches src c off = true) :
    ∃ t, exec i s = .next t ∧ Agrees b (t.chan c) ∧ Reported e (t.chan c) := by
  obtain ⟨t, ht, hagree, hkept⟩ := exec_writeRow_reported h hi hr ha
  exact ⟨t, ht, (Agrees.raise b e none n).trans hagree, hkept.reported he.2 (b.raise_reported e n he.1)⟩

/-- A command of the fast domain whose work ends in reporting an event of no tenant on channel `b`. -/
theorem exec_clocked_raises_own (hi : exec i s = .next (s.onClocked c f)) (hc : ch.clocked = true) :
    ∃ t, exec i s = .next t ∧ Agrees b (t.chan c) ∧ Reported e (t.chan c) := by
  obtain ⟨t, ht, hagree, hkept⟩ := exec_clocked_reported h hi hc ha
  exact ⟨t, ht, (Agrees.raise b e none n).trans hagree, hkept.reported he.2 (b.raise_reported e n he.1)⟩

end

end Sys2Proof.Machine
end

section
/-!
PROOFS of 11_verdicts_metering_and_time_gates.md: the time gate (R307 to R310).
-/

namespace Sys2Proof.Machine
open Sys2Proof

/-- VPE_GATE_CTRL.enable written; a change of it cuts and restores chains (R207, R208, R310). -/
def Chan.gateEnabled (ch : Chan) (v : Word) : Chan :=
  let a : Chan := ch.wr R.VPE_GATE_CTRL (mergeF (ch.rd R.VPE_GATE_CTRL) v [F.VPE_GATE_CTRL_enable])
  if a.fld R.VPE_GATE_CTRL F.VPE_GATE_CTRL_enable = ch.fld R.VPE_GATE_CTRL F.VPE_GATE_CTRL_enable then a else a.gateChanged

/-- The admin list made pending, with its first start at or after now (R308). -/
def Chan.gateListPending (ch : Chan) : Chan :=
  let n := ch.fld R.VPE_GATE_ADMIN F.VPE_GATE_ADMIN_cycle_time
  let p : GatePending := { cycle := n, count := ch.fld R.VPE_GATE_ADMIN F.VPE_GATE_ADMIN_count
                           start := ch.gateStart (ch.rd R.VPE_GATE_BASE).toNat n }
  Chan.setFlag { ch with vpe := { ch.vpe with gate := { ch.vpe.gate with pending := some p } } } R.VPE_GATE_STATUS
    F.VPE_GATE_STATUS_pending true

/-- The pending list `p` made operational, its entry not yet entered. -/
def Chan.gateListSwitched (ch : Chan) (p : GatePending) : Chan :=
  let a : Chan := { ch with vpe := { ch.vpe with gate := { ch.vpe.gate with pending := none, oper := some p } } }
  ((a.setFld R.VPE_GATE_STATUS F.VPE_GATE_STATUS_active_list (1 - ch.activeList)).setFlag R.VPE_GATE_STATUS
    F.VPE_GATE_STATUS_pending false).setFld R.VPE_GATE_STATUS F.VPE_GATE_STATUS_cycles 1

/-- The next cycle of the operational list `p` begun, its entry not yet entered. -/
def Chan.gateCycleBegun (ch : Chan) (p : GatePending) : Chan :=
  let a : Chan := { ch with vpe := { ch.vpe with gate := { ch.vpe.gate with oper := some { p with start := p.start + p.cycle } } } }
  a.setFld R.VPE_GATE_STATUS F.VPE_GATE_STATUS_cycles (ch.fld R.VPE_GATE_STATUS F.VPE_GATE_STATUS_cycles + 1)

section

variable {ch : Chan}

/-- A write of VPE_GATE_CTRL writes enable, and then commits the admin list if commit is set. -/
theorem Chan.gateCtrlWrite_eq (v : Word) :
    ch.gateCtrlWrite v =
      let a := ch.gateEnabled v
      if getF v F.VPE_GATE_CTRL_commit = 0 then a
      else
        let b := a.setFld R.VPE_GATE_STATUS F.VPE_GATE_STATUS_last_result a.commitResult
        if a.commitResult ≠ 0 then b.raise EV_VPE_GATE_REJECT else b.gateListPending := rfl

theorem Chan.gateCtrlWrite_enable {v : Word} (hv : getF v F.VPE_GATE_CTRL_commit = 0) : ch.gateCtrlWrite v = ch.gateEnabled v := by
  rw [Chan.gateCtrlWrite_eq]
  exact if_pos hv

theorem Chan.gateCtrlWrite_commits {v : Word} (hv : getF v F.VPE_GATE_CTRL_commit = 1) (hr : (ch.gateEnabled v).commitResult = 0) :
    ch.gateCtrlWrite v =
      ((ch.gateEnabled v).setFld R.VPE_GATE_STATUS F.VPE_GATE_STATUS_last_result 0).gateListPending := by
  simp [Chan.gateCtrlWrite_eq, hv, hr]

theorem Chan.gateCtrlWrite_refused {v : Word} {r : Nat} (hv : getF v F.VPE_GATE_CTRL_commit = 1)
    (hr : (ch.gateEnabled v).commitResult = r) (h0 : r ≠ 0) :
    ch.gateCtrlWrite v =
      ((ch.gateEnabled v).setFld R.VPE_GATE_STATUS F.VPE_GATE_STATUS_last_result r).raise EV_VPE_GATE_REJECT := by
  simp [Chan.gateCtrlWrite_eq, hv, hr, h0]

variable {p : GatePending}

theorem Chan.gateSwitch_due (hp : ch.vpe.gate.pending = some p) (hdue : p.start ≤ ch.ns) :
    ch.gateSwitch = ((ch.gateListSwitched p).gateEnter 0 p.start).raise EV_VPE_GATE_SWITCHED := by
  unfold Chan.gateSwitch
  rw [hp]
  exact if_neg (Nat.not_lt.mpr hdue)

variable (hp : ch.vpe.gate.oper = some p)

include hp

theorem Chan.gateEntryStart_entry {e n : Nat} (he : ch.fld R.VPE_GATE_STATUS F.VPE_GATE_STATUS_entry = e)
    (hn : ch.vpe.gate.entryAt + (ch.gateEntry ch.activeList e).duration = n) (hmore : e + 1 < p.count)
    (hwithin : n < p.start + p.cycle) (hdue : n ≤ ch.ns) : ch.gateEntryStart = ch.gateEnter (e + 1) n := by
  subst he hn
  unfold Chan.gateEntryStart
  rw [hp]
  exact (if_pos ⟨hmore, hwithin⟩).trans (if_neg (Nat.not_lt.mpr hdue))

theorem Chan.gateEntryStart_cycle {e n : Nat} (he : ch.fld R.VPE_GATE_STATUS F.VPE_GATE_STATUS_entry = e)
    (hn : ch.vpe.gate.entryAt + (ch.gateEntry ch.activeList e).duration = n)
    (hlast : p.count ≤ e + 1 ∨ p.start + p.cycle ≤ n) (hdue : p.start + p.cycle ≤ ch.ns) :
    ch.gateEntryStart = (ch.gateCycleBegun p).gateEnter 0 (p.start + p.cycle) := by
  subst he hn
  have hover : ¬ (ch.fld R.VPE_GATE_STATUS F.VPE_GATE_STATUS_entry + 1 < p.count ∧
      ch.vpe.gate.entryAt + (ch.gateEntry ch.activeList (ch.fld R.VPE_GATE_STATUS F.VPE_GATE_STATUS_entry)).duration <
        p.start + p.cycle) := by omega
  unfold Chan.gateEntryStart
  rw [hp]
  exact (if_neg hover).trans (if_neg (Nat.not_lt.mpr hdue))

end

/-- Settles O33: each command takes the branch its clause names, and a refused commit and a switch end in their events. -/
theorem gateListsCommitSwitchAndEnter : Obligations.GateListsCommitSwitchAndEnter := by
  intro s c ch h
  refine ⟨?_, ?_, ?_, ?_, ?_, ?_⟩
  · intro src v hreach hv hr
    exact exec_writeRow h (i := .vpeGateCommit c src v) rfl hreach (Chan.gateCtrlWrite_commits hv hr)
  · intro src v r hreach hv hr h0
    exact exec_writeRow_raises_own h (i := .vpeGateCommit c src v) (Chan.gateCtrlWrite_refused hv hr h0) (by decide) rfl hreach
  · intro src v hreach hv
    exact exec_writeRow h (i := .vpeGateCommit c src v) rfl hreach (Chan.gateCtrlWrite_enable hv)
  · intro p hc hp hdue
    exact exec_clocked_raises_own h (i := .gateListSwitch c) (Chan.gateSwitch_due hp hdue) (by decide) rfl hc
  · intro p e n hc hp he hn hmore hwithin hdue
    exact exec_clocked h (i := .gateEntryStart c) rfl hc (Chan.gateEntryStart_entry hp he hn hmore hwithin hdue)
  · intro p e n hc hp he hn hlast hdue
    exact exec_clocked h (i := .gateEntryStart c) rfl hc (Chan.gateEntryStart_cycle hp he hn hlast hdue)

end Sys2Proof.Machine
end

section
/-!
PROOFS of 11_verdicts_metering_and_time_gates.md: indirect access (R304, R318), isolation groups and verdict policies (R312, R317).
-/

namespace Sys2Proof.Machine
open Sys2Proof

section

variable (ch : Chan) (inst : Nat) (v : Word)

/-- VPE_IND_SEL of a function takes the item that a start names. -/
def Chan.vpeSelect : Chan :=
  ch.wr (bank inst R.VPE_IND_SEL)
    (mergeF (ch.rd (bank inst R.VPE_IND_SEL)) v [F.VPE_IND_SEL_target, F.VPE_IND_SEL_index, F.VPE_IND_SEL_write])

/-- The bytes that VPE_IND_DATA of a function holds. -/
def Chan.vpeData : List Byte := (List.range 8).flatMap fun i => leBytes 8 (ch.rd (bank inst (R.VPE_IND_DATA i))).toNat

/-- An access answers in VPE_IND_SEL, and its start clears. -/
def Chan.vpeAnswer (r : Nat) : Chan :=
  (ch.setFld (bank inst R.VPE_IND_SEL) F.VPE_IND_SEL_result r).setFld (bank inst R.VPE_IND_SEL) F.VPE_IND_SEL_start 0

/-- A meter with an uncorrectable error that is about to be read is first lost (R304). -/
def Chan.meterChecked (target index : Nat) : Chan :=
  if target = 0 ∧ ch.vpe.meterBad.contains index = true then
    ch.meterLost index ((List.range 16).find? fun i => ch.inMeters i index)
  else ch

/-- VPE_IND_DATA of a function shows an item. -/
def Chan.vpeShow (target index : Nat) : Chan :=
  (List.range (if target = 0 then 8 else 2)).foldl (fun (a : Chan) i =>
    a.wr (bank inst (R.VPE_IND_DATA i)) (BitVec.ofNat 64 (le (ch.vpeItem target index) (8 * i) 8))) ch

/-- An access's result and channel, before its answer (R318). -/
def Chan.vpeTried (target index : Nat) (write : Bool) : Nat × Chan :=
  if ch.vpeReach inst target index ≠ 0 then (ch.vpeReach inst target index, ch)
  else if write then ch.vpePut target index (ch.vpeData inst)
  else (0, (ch.meterChecked target index).vpeShow inst target index)

/-- An access names its item, tries it, answers, and reports a bad value. -/
theorem Chan.vpeAccess_eq (write : Bool) :
    ch.vpeAccess inst v write =
      let x := (ch.vpeSelect inst v).vpeTried inst (getF v F.VPE_IND_SEL_target) (getF v F.VPE_IND_SEL_index) write
      if x.1 = 1 then (x.2.vpeAnswer inst x.1).vpeReject else x.2.vpeAnswer inst x.1 := rfl

/-- Naming an item leaves the data window. -/
theorem Chan.vpeSelect_data : (ch.vpeSelect inst v).vpeData inst = ch.vpeData inst := by
  have hrd (i : Nat) : (ch.vpeSelect inst v).rd (bank inst (R.VPE_IND_DATA i)) = ch.rd (bank inst (R.VPE_IND_DATA i)) :=
    ch.rd_wr_ne _ (by simp only [bank, R.VPE_IND_DATA, R.VPE_IND_SEL]; omega)
  simp only [Chan.vpeData, hrd]

theorem Agrees.vpeReject (a : Chan) : Agrees a a.vpeReject := .raise ..

/-- A write stores the item, or answers that it did not. -/
theorem Chan.vpePut_cases (target index : Nat) (z : List Byte) :
    (ch.vpePut target index z).1 = 0 ∨ (ch.vpePut target index z).2 = ch := by
  unfold Chan.vpePut
  split
  · split
    · exact .inl rfl
    · exact .inr rfl
  · split
    · exact .inl rfl
    · exact .inr rfl
  · split
    · exact .inr rfl
    · split
      · exact .inr rfl
      · exact .inl rfl

end

section

variable {ch : Chan} {inst target index : Nat}

theorem Chan.vpeTried_refused {r : Nat} (hreach : ch.vpeReach inst target index = r) (h0 : r ≠ 0) (write : Bool) :
    ch.vpeTried inst target index write = (r, ch) := by
  subst hreach
  exact if_pos h0

theorem Chan.vpeTried_read (hreach : ch.vpeReach inst target index = 0) :
    ch.vpeTried inst target index false = (0, (ch.meterChecked target index).vpeShow inst target index) :=
  if_neg (not_not.mpr hreach)

theorem Chan.vpeTried_write (hreach : ch.vpeReach inst target index = 0) :
    ch.vpeTried inst target index true = ch.vpePut target index (ch.vpeData inst) :=
  if_neg (not_not.mpr hreach)

theorem Chan.vpePut_action {z : List Byte} (hok : actionEntryOk (slice z 0 16) = true) :
    ch.vpePut 1 index z =
      (0, { ch with vpe := { ch.vpe with actions := sset (fun _ => {}) ch.vpe.actions index (actionOf z) } }) :=
  if_pos hok

/-- The physical function reaches every action. -/
theorem Chan.vpeReach_action (hindex : index < 2048) : ch.vpeReach 0 1 index = 0 := by
  unfold Chan.vpeReach
  rw [if_neg (by omega), if_pos rfl]

theorem Agrees.action {a b : Chan} (h : Agrees a b) (n : Nat) : b.action n = a.action n := by
  have hactions : b.vpe.actions = a.vpe.actions := by simpa using congrArg Vpe.actions h.vpe
  simp only [Chan.action, hactions]

end

section

variable {s : State} {c : Fin 8} {ch : Chan} (h : s.chan c = ch) {src : Option (Fin 17)} (hr : s.reaches src c R.VPE_IND_SEL = true)
  {v : Word} {target index : Nat} (htarget : getF v F.VPE_IND_SEL_target = target) (hindex : getF v F.VPE_IND_SEL_index = index)

include h hr htarget hindex

/-- An indirect access answers what it tried, whether or not it reports a bad value. -/
theorem exec_vpeInd {i : Instr} {write : Bool}
    (hi : exec i s = .next (s.writeRow src c R.VPE_IND_SEL v fun ch => ch.vpeAccess (writerInst src) v write)) {r : Nat} {b : Chan}
    (hx : (ch.vpeSelect (writerInst src) v).vpeTried (writerInst src) target index write = (r, b)) :
    ∃ t, exec i s = .next t ∧ Agrees (b.vpeAnswer (writerInst src) r) (t.chan c) := by
  subst htarget hindex
  obtain ⟨t, ht, hagree⟩ := exec_writeRow h hi hr (Chan.vpeAccess_eq ch (writerInst src) v write)
  rw [hx] at hagree
  refine ⟨t, ht, Agrees.trans ?_ hagree⟩
  dsimp only
  split
  · exact .vpeReject _
  · exact .refl _

/-- A write through the window puts the bytes that VPE_IND_DATA held. -/
theorem exec_vpeIndWrite {z : List Byte} {r : Nat} {b : Chan} (hz : ch.vpeData (writerInst src) = z)
    (hreach : (ch.vpeSelect (writerInst src) v).vpeReach (writerInst src) target index = 0)
    (hput : (ch.vpeSelect (writerInst src) v).vpePut target index z = (r, b)) :
    ∃ t, exec (.vpeIndWrite c src v) s = .next t ∧ Agrees (b.vpeAnswer (writerInst src) r) (t.chan c) :=
  exec_vpeInd h hr htarget hindex (i := .vpeIndWrite c src v) rfl
    (by rw [Chan.vpeTried_write hreach, Chan.vpeSelect_data, hz, hput])

end

section

variable (ch : Chan) (g : Nat) (w : Word)

/-- Group `g` as `w` has it would take a member of another group. -/
def Chan.groupOverlaps : Bool :=
  getF w F.VPE_GROUP_valid == 1 && (List.range 16).any fun i =>
    (getF w F.VPE_GROUP_members).testBit i && (List.range 16).any fun h => h != g && ch.inGroup h i

/-- An engine that tenants share would no longer be shared. -/
def Chan.groupUnshares : Bool :=
  (List.range 4).any fun e => decide (1 < (ch.engineOwners e).length) && ch.mayShare (ch.engineOwners e) &&
    !(ch.wr (R.VPE_GROUP g) w).mayShare (ch.engineOwners e)

/-- Group `g` would lose what a list that is operational or pending relies on. -/
def Chan.groupRelied : Bool :=
  getF (ch.rd (R.VPE_GROUP g)) F.VPE_GROUP_valid == 1 &&
    (((List.range 16).any fun i =>
        (getF (ch.rd (R.VPE_GROUP g)) F.VPE_GROUP_members).testBit i && !(getF w F.VPE_GROUP_members).testBit i) ||
      (getF (ch.rd (R.VPE_GROUP g)) F.VPE_GROUP_share_gate == 1 && getF w F.VPE_GROUP_share_gate == 0) ||
      (getF (ch.rd (R.VPE_GROUP g)) F.VPE_GROUP_valid == 1 && getF w F.VPE_GROUP_valid == 0)) && ch.gateNames g

end

section

variable {ch : Chan} {g : Nat} {v w : Word} (hg : g < 16)
  (hw : mergeF (ch.rd (R.VPE_GROUP g)) v [F.VPE_GROUP_members, F.VPE_GROUP_share_gate, F.VPE_GROUP_share_mxe, F.VPE_GROUP_valid] = w)

include hg hw

/-- A group write is applied unless one of three conditions refuses it (R312). -/
theorem Chan.groupWrite_eq :
    ch.groupWrite g v =
      if ch.groupOverlaps g w || ch.groupUnshares g w || ch.groupRelied g w then ch.vpeReject else ch.wr (R.VPE_GROUP g) w := by
  subst hw
  exact if_neg (Nat.not_le.mpr hg)

theorem Chan.groupWrite_applied (htwo : ch.groupOverlaps g w = false) (hmxe : ch.groupUnshares g w = false)
    (hgate : ch.groupRelied g w = false) : ch.groupWrite g v = ch.wr (R.VPE_GROUP g) w := by
  rw [Chan.groupWrite_eq hg hw, htwo, hmxe, hgate]
  rfl

theorem Chan.groupWrite_refused
    (hbad : ch.groupOverlaps g w = true ∨ ch.groupUnshares g w = true ∨ ch.groupRelied g w = true) :
    ch.groupWrite g v = ch.vpeReject := by
  rw [Chan.groupWrite_eq hg hw]
  exact if_pos (by simpa only [Bool.or_eq_true, or_assoc] using hbad)

end

section

variable {ch : Chan} {i : Nat} {v : Word} (hi : i < 16)

include hi

theorem Chan.tpolWrite_applied (hprimary : ch.policySlot i (getF v F.VPE_TPOL_primary_slot) = true)
    (hfallback : ch.policySlot i (getF v F.VPE_TPOL_fallback_slot) = true) (hcode : getF v F.VPE_TPOL_default_code ≤ 5) :
    ch.tpolWrite i v = ch.wr (R.VPE_TPOL i)
      (mergeF (ch.rd (R.VPE_TPOL i)) v [F.VPE_TPOL_primary_slot, F.VPE_TPOL_fallback_slot, F.VPE_TPOL_default_code]) :=
  (if_neg (Nat.not_le.mpr hi)).trans (if_pos (by simp [hprimary, hfallback, hcode]))

theorem Chan.tpolWrite_refused
    (hbad : ch.policySlot i (getF v F.VPE_TPOL_primary_slot) = false ∨ ch.policySlot i (getF v F.VPE_TPOL_fallback_slot) = false ∨
      5 < getF v F.VPE_TPOL_default_code) : ch.tpolWrite i v = ch.vpeReject := by
  refine (if_neg (Nat.not_le.mpr hi)).trans (if_neg ?_)
  rcases hbad with h | h | h
  · simp [h]
  · simp [h]
  · simp [Nat.not_le.mpr h]

end

/-- Settles O35: an access answers what its item's reach, rules and state let it do, and a group or a policy is written unless a rule
refuses it. -/
theorem itemsGroupsAndPolicies : Obligations.ItemsGroupsAndPolicies := by
  intro s c ch h
  refine ⟨?_, ?_, ?_, ?_, ?_, ?_, ?_, ?_, ?_, ?_⟩
  · intro src v tgt idx hr ht hx hreach
    exact exec_vpeInd h hr ht hx (i := .vpeIndRead c src v) rfl (Chan.vpeTried_read hreach)
  · intro src v tgt idx r hr ht hx hreach h0
    exact exec_vpeInd h hr ht hx (i := .vpeIndRead c src v) rfl (Chan.vpeTried_refused hreach h0 _)
  · intro src v tgt idx z hr ht hx hreach hz hput
    exact exec_vpeIndWrite h hr ht hx hz hreach (Prod.ext hput rfl)
  · rintro src v _ idx z hr ht hx rfl hlow hinst hz hok
    have hreach : (ch.vpeSelect (writerInst src) v).vpeReach (writerInst src) 1 idx = 0 := by
      rw [hinst]
      exact Chan.vpeReach_action hlow
    obtain ⟨t, hnext, hagree⟩ := exec_vpeIndWrite h hr ht hx hz hreach (Chan.vpePut_action hok)
    exact ⟨t, hnext, (hagree.action idx).trans (sget_sset_same ..)⟩
  · intro src v tgt idx z r hr ht hx hreach hz hput h0
    have hkept := (Chan.vpePut_cases (ch.vpeSelect (writerInst src) v) tgt idx z).resolve_left fun hok => h0 (hput.symm.trans hok)
    exact exec_vpeIndWrite h hr ht hx hz hreach (Prod.ext hput hkept)
  · intro src v tgt idx r hr ht hx hreach h0
    exact exec_vpeInd h hr ht hx (i := .vpeIndWrite c src v) rfl (Chan.vpeTried_refused hreach h0 _)
  · intro src g v w hr hw htwo hmxe hgate
    exact exec_writeRow h (i := .vpeGroupWrite c src g v) rfl hr (Chan.groupWrite_applied g.isLt hw htwo hmxe hgate)
  · intro src g v w hr hw hbad
    exact exec_writeRow_raises_own h (i := .vpeGroupWrite c src g v) (Chan.groupWrite_refused g.isLt hw hbad) (by decide) rfl hr
  · intro src i v hr hprimary hfallback hcode
    exact exec_writeRow h (i := .vpeTpolWrite c src i v) rfl hr (Chan.tpolWrite_applied i.isLt hprimary hfallback hcode)
  · intro src i v hr hbad
    exact exec_writeRow_raises_own h (i := .vpeTpolWrite c src i v) (Chan.tpolWrite_refused i.isLt hbad) (by decide) rfl hr

end Sys2Proof.Machine
end

section
/-!
PROOFS of 11_verdicts_metering_and_time_gates.md: what a command leaves of the host-bound queues and of what was sent to the host.
-/

namespace Sys2Proof.Machine
open Sys2Proof

/-- `b` has the host-bound queues of `a`, and has sent to the host all that `a` had. -/
structure HostKept (a b : Chan) : Prop where
  hq : b.vpe.hq = a.vpe.hq
  out : a.ev.out ⊆ b.ev.out

theorem HostKept.refl (a : Chan) : HostKept a a := ⟨rfl, List.Subset.refl _⟩

theorem HostKept.trans {a b c : Chan} (h : HostKept a b) (g : HostKept b c) : HostKept a c :=
  ⟨g.hq.trans h.hq, List.Subset.trans h.out g.out⟩

theorem HostKept.queue {a b : Chan} (h : HostKept a b) (i q : Nat) : b.hq i q = a.hq i q := by simp only [Chan.hq, h.hq]

theorem Events.vector_out (ev : Events) (now inst vec hold : Nat) : ev.out ⊆ (ev.vector now inst vec hold).out := by
  simp only [Events.vector]
  split
  · split
    · exact List.Subset.refl _
    · exact List.subset_cons_self ..
  · exact List.subset_cons_self ..

theorem Events.allow_out (ev : Events) (id now : Nat) : (ev.allow id now).2.2.out = ev.out := by
  unfold Events.allow
  split
  · rfl
  · split <;> rfl

theorem HostKept.vector (a : Chan) (inst vec hold : Nat) : HostKept a (a.vector inst vec hold) := by
  unfold Chan.vector
  split
  · exact .refl a
  · exact ⟨rfl, Events.vector_out ..⟩

theorem HostKept.ringEvent (a : Chan) (inst : Nat) (s : Severity) (r : EvRec) : HostKept a (a.ringEvent inst s r) := by
  unfold Chan.ringEvent
  dsimp only
  split
  · exact .refl a
  · split
    · exact ⟨rfl, List.Subset.refl _⟩
    · refine HostKept.trans ?_ (.vector ..)
      exact ⟨rfl, List.subset_cons_self ..⟩

/-- An event of no tenant leaves no telemetry record. -/
theorem HostKept.raise (a : Chan) (e : Ev) (n : Option Nat) : HostKept a (a.raise e none n) := by
  have ha := a.ev.allow_out e.id a.now
  unfold Chan.raise
  split
  · exact ⟨rfl, List.Subset.refl _⟩
  · unfold Chan.raiseCore
    generalize a.ev.allow e.id a.now = p at ha
    obtain ⟨ok, supp, ev⟩ := p
    have hput : HostKept a (a.setEv (ev.meteorPut e.block (a.eventRec e none n supp))) := ⟨rfl, fun _ ho => ha ▸ ho⟩
    cases ok with
    | false => exact hput
    | true => exact hput.trans (.ringEvent ..)

theorem HostKept.freeze (a : Chan) (cause : FreezeCause) : HostKept a (a.freeze cause) := by
  unfold Chan.freeze
  split
  · exact .refl a
  · dsimp only
    refine HostKept.trans ?_ (.raise ..)
    exact ⟨rfl, List.Subset.refl _⟩

theorem HostKept.hubMsg (s : State) (c d : Fin 8) (x : HubMsg) : HostKept (s.chan d) ((s.hubMsg c x).chan d) := by
  cases x with
  | event e => exact .refl _
  | failStop =>
    unfold State.hubMsg
    dsimp only
    split
    · rw [State.freezeMask_chan]
      split
      · exact .freeze _ _
      · exact .refl _
    · exact .refl _

theorem HostKept.hubMsgs (l : List HubMsg) (s : State) (c d : Fin 8) :
    HostKept (s.chan d) ((l.foldl (fun s m => s.hubMsg c m) s).chan d) := by
  induction l generalizing s with
  | nil => exact .refl _
  | cons x r ih => exact (HostKept.hubMsg s c d x).trans (ih _)

/-- What is taken from the channel for the hub die leaves its host-bound queues. -/
theorem HostKept.onChan (s : State) (c : Fin 8) (f : Chan → Chan) : HostKept (f (s.chan c)) ((s.onChan c f).chan c) := by
  have h := HostKept.hubMsgs (f (s.chan c)).toHub
    ((s.setChan c (f (s.chan c))).setChan c { f (s.chan c) with toHub := [] }) c c
  rw [State.setChan_chan_same] at h
  unfold State.onChan State.flush
  rw [State.setChan_chan_same]
  exact ⟨h.hq, h.out⟩

/-- A command of the fast domain leaves the channel as its work does, up to events, with the host-bound queues and all that went to the
host. -/
theorem exec_clocked_host {s : State} {c : Fin 8} {ch : Chan} (h : s.chan c = ch) {i : Instr} {f : Chan → Chan} {a : Chan}
    (hi : exec i s = .next (s.onClocked c f)) (hc : ch.clocked = true) (ha : f ch = a) :
    ∃ t, exec i s = .next t ∧ Agrees a (t.chan c) ∧ HostKept a (t.chan c) := by
  have hkept := HostKept.onChan s c fun ch => if ch.clocked then f ch else ch
  rw [h, hc, if_pos rfl, ha] at hkept
  exact ⟨_, hi, ha ▸ State.onClocked_agrees h hc f, hkept⟩

end Sys2Proof.Machine
end

section
/-!
PROOFS of 11_verdicts_metering_and_time_gates.md: shapers and host-bound queues (R313 to R315, R376).
-/

namespace Sys2Proof.Machine
open Sys2Proof

section

variable {ch : Chan} {i q : Nat} {v w : Word} (hi : i < 16) (hq : q < 2) (hw : mergeF (ch.rd (R.VPE_SHP i q)) v shpFields = w)

include hi hq hw

/-- A shaper with an allowed burst is latched in the compatibility mode, and set at once in the native mode. -/
theorem Chan.shpWrite_allowed (hok : getF w F.VPE_SHP_enable = 0 ∨ 256 ≤ getF w F.VPE_SHP_burst) :
    ch.shpWrite i q v =
      if ch.flag R.VPE_CTRL F.VPE_CTRL_xitar4_refill then ch.setShaper i q { ch.shaper i q with latched := some w }
      else
        let a := ch.wr (R.VPE_SHP i q) w
        a.setShaper i q { tokens := if getF w F.VPE_SHP_reset_to_full = 1 then a.shpCap i q else 0, at_ := ch.ns } := by
  subst hw
  have hin : ¬ (16 ≤ i ∨ 2 ≤ q) := by omega
  unfold Chan.shpWrite
  exact (if_neg hin).trans (if_neg (by omega))

theorem Chan.shpWrite_small (hon : getF w F.VPE_SHP_enable = 1) (hsmall : getF w F.VPE_SHP_burst < 256) :
    ch.shpWrite i q v = ch.vpeReject := by
  subst hw
  have hin : ¬ (16 ≤ i ∨ 2 ≤ q) := by omega
  unfold Chan.shpWrite
  exact (if_neg hin).trans (if_pos ⟨hon, hsmall⟩)

end

section

variable {ch : Chan}

theorem Chan.shpTick_refills (hcompat : ch.flag R.VPE_CTRL F.VPE_CTRL_xitar4_refill = true)
    (hon : ch.flag R.VPE_CTRL F.VPE_CTRL_enable = true) :
    ch.shpTick = (List.range 32).foldl (fun (a : Chan) n => a.shpRefill (n / 2) (n % 2)) ch := by
  unfold Chan.shpTick
  rw [hcompat, hon]
  rfl

theorem Chan.shpTick_idle (hidle : ch.flag R.VPE_CTRL F.VPE_CTRL_xitar4_refill = false ∨ ch.flag R.VPE_CTRL F.VPE_CTRL_enable = false) :
    ch.shpTick = ch :=
  if_neg (by rcases hidle with h | h <;> simp [h])

end

section

variable (ch : Chan) (i q : Nat)

/-- The head of a host-bound queue is held: by its gate, its ring or its shaper. -/
def Chan.headHeld (r : List Byte) : Prop :=
  ch.hostOpen i = false ∨ ch.hringRoom i q = false ∨
    (ch.flag (R.VPE_SHP i q) F.VPE_SHP_enable = true ∧ ch.shpTokens i q < r.length * 65536)

/-- The head `r` has left the queue and its shaper. -/
def Chan.headTaken (r : List Byte) (rest : List (List Byte)) : Chan :=
  let a := ch.setHq i q rest
  if ch.flag (R.VPE_SHP i q) F.VPE_SHP_enable && ch.flag R.VPE_CTRL F.VPE_CTRL_enable then
    a.setShaper i q { ch.shaper i q with
      tokens := ch.shpTokens i q - r.length * 65536
      at_ := if ch.flag R.VPE_CTRL F.VPE_CTRL_xitar4_refill then (ch.shaper i q).at_ else ch.ns }
  else a

/-- The host-bound ring of the VF takes the record. -/
def Chan.hringPut (r : List Byte) : Chan :=
  let x := bank (i + 1) (R.CHN_HRING_IDX q)
  let k := ch.fld (bank (i + 1) (R.CHN_HRING_BASE q)) F.CHN_HRING_BASE_log2_size
  let n := ch.fld x F.CHN_HRING_IDX_prod
  let o : HostOut := if q = 0 then .mirror (i + 1) (n % 2 ^ k) r else .telemetry (i + 1) (n % 2 ^ k) r
  ({ ch with ev := ch.ev.send o } : Chan).setFld x F.CHN_HRING_IDX_prod (n + 1)

theorem Chan.headTaken_fld (r : List Byte) (rest : List (List Byte)) (k : Nat) (f : Fld) :
    (ch.headTaken i q r rest).fld k f = ch.fld k f := by
  unfold Chan.headTaken
  split <;> rfl

theorem Chan.headTaken_hq (r : List Byte) (rest : List (List Byte)) : (ch.headTaken i q r rest).hq i q = rest := by
  unfold Chan.headTaken
  split <;> exact sget_sset_same ..

/-- The producer index of the ring is all of a put that shows beside what went to the host. -/
theorem Chan.hringPut_agrees (r : List Byte) :
    Agrees (ch.setFld (bank (i + 1) (R.CHN_HRING_IDX q)) F.CHN_HRING_IDX_prod
      (ch.fld (bank (i + 1) (R.CHN_HRING_IDX q)) F.CHN_HRING_IDX_prod + 1)) (ch.hringPut i q r) := by
  constructor <;> intros <;> rfl

theorem Chan.hringPut_vpe (r : List Byte) : (ch.hringPut i q r).vpe = ch.vpe := Chan.setFld_vpe ..

theorem Chan.hringPut_hq (r : List Byte) : (ch.hringPut i q r).hq i q = ch.hq i q := by
  unfold Chan.hq
  rw [Chan.hringPut_vpe]

/-- The host gets the record at the producer's place. -/
theorem Chan.hringPut_out (r : List Byte) {k n : Nat}
    (hk : ch.fld (bank (i + 1) (R.CHN_HRING_BASE q)) F.CHN_HRING_BASE_log2_size = k)
    (hn : ch.fld (bank (i + 1) (R.CHN_HRING_IDX q)) F.CHN_HRING_IDX_prod = n) :
    (ch.hringPut i q r).ev.out =
      (if q = 0 then .mirror (i + 1) (n % 2 ^ k) r else .telemetry (i + 1) (n % 2 ^ k) r) :: ch.ev.out := by
  subst hk hn
  rfl

end

section

variable {ch : Chan} {i q : Nat}

theorem Chan.hostQueueSend_empty (hqueue : ch.hq i q = []) : ch.hostQueueSend i q = ch := by
  unfold Chan.hostQueueSend
  rw [hqueue]

variable {r : List Byte} {rest : List (List Byte)} (hqueue : ch.hq i q = r :: rest)

include hqueue

theorem Chan.hostQueueSend_held (hheld : ch.headHeld i q r) : ch.hostQueueSend i q = ch := by
  unfold Chan.hostQueueSend
  rw [hqueue]
  exact if_pos (.inr (.inr hheld))

/-- A head that is not held leaves: the ring takes it, and its vector is sent. -/
theorem Chan.hostQueueSend_leaves (hi : i < 16) (hq : q < 2) (hfree : ¬ ch.headHeld i q r) :
    ch.hostQueueSend i q =
      let a := ch.headTaken i q r rest
      (a.hringPut i q r).vector (i + 1) (4 + q) (a.fld (bank (i + 1) (R.CHN_HRING_IDX q)) F.CHN_HRING_IDX_holdoff) := by
  have hgoes : ¬ (16 ≤ i ∨ 2 ≤ q ∨ ch.headHeld i q r) := by
    rintro (h | h | h)
    · omega
    · omega
    · exact hfree h
  unfold Chan.hostQueueSend
  rw [hqueue]
  exact if_neg hgoes

end

section

variable {s : State} {c : Fin 8} {ch : Chan} (h : s.chan c = ch) (hc : ch.clocked = true) {i : Fin 16} {q : Fin 2}

include h hc

/-- HOST_QUEUE_SEND of a head that is not held: the queue and the shaper give it up, the ring's producer moves on, and the host gets
it. -/
theorem exec_hostQueueSend_leaves {r : List Byte} {rest : List (List Byte)} (hqueue : ch.hq i q = r :: rest)
    (hfree : ¬ ch.headHeld i q r) {x k n : Nat} (hx : bank (i + 1) (R.CHN_HRING_IDX q) = x)
    (hk : ch.fld (bank (i + 1) (R.CHN_HRING_BASE q)) F.CHN_HRING_BASE_log2_size = k) (hn : ch.fld x F.CHN_HRING_IDX_prod = n) :
    ∃ t, exec (.hostQueueSend c i q) s = .next t ∧
      Agrees ((ch.headTaken i q r rest).setFld x F.CHN_HRING_IDX_prod (n + 1)) (t.chan c) ∧ (t.chan c).hq i q = rest ∧
      (if q.val = 0 then HostOut.mirror (i + 1) (n % 2 ^ k) r else HostOut.telemetry (i + 1) (n % 2 ^ k) r) ∈ (t.chan c).ev.out := by
  subst hx hk hn
  obtain ⟨t, ht, hagree, hkept⟩ := exec_clocked_host h (i := .hostQueueSend c i q) rfl hc
    (Chan.hostQueueSend_leaves hqueue i.isLt q.isLt hfree)
  have hput := (ch.headTaken i q r rest).hringPut_agrees i q r
  have hsent := HostKept.vector ((ch.headTaken i q r rest).hringPut i q r) (i + 1) (4 + q)
    ((ch.headTaken i q r rest).fld (bank (i + 1) (R.CHN_HRING_IDX q)) F.CHN_HRING_IDX_holdoff) |>.trans hkept
  refine ⟨t, ht, ?_, ?_, hsent.out ?_⟩
  · rw [Chan.headTaken_fld] at hput
    exact (hput.trans (.of_raiseFrame (.vector ..))).trans hagree
  · rw [hsent.queue, Chan.hringPut_hq, Chan.headTaken_hq]
  · rw [Chan.hringPut_out _ i q r (ch.headTaken_fld i q r rest _ _) (ch.headTaken_fld i q r rest _ _)]
    exact List.mem_cons_self

end

/-- Settles O36: a shaper write is refused, latched or applied, a refill takes every shaper, and the head of a queue leaves unless its
gate, its ring or its shaper holds it. -/
theorem shapersAndHostQueues : Obligations.ShapersAndHostQueues := by
  intro s c ch h
  refine ⟨?_, ?_, ?_, ?_, ?_, ?_, ?_, ?_⟩
  · intro src i q v w hreach hw hok hnative
    exact exec_writeRow h (i := .vpeShpWrite c src i q v) rfl hreach (by
      rw [Chan.shpWrite_allowed i.isLt q.isLt hw hok, hnative, if_neg Bool.false_ne_true]
      simp only [Chan.shpCap, Nat.mul_comm])
  · intro src i q v w hreach hw hok hlatch
    exact exec_writeRow h (i := .vpeShpWrite c src i q v) rfl hreach (by
      rw [Chan.shpWrite_allowed i.isLt q.isLt hw hok, hlatch, if_pos rfl])
  · intro src i q v w hreach hw hon hsmall
    exact exec_writeRow_raises_own h (i := .vpeShpWrite c src i q v) (Chan.shpWrite_small i.isLt q.isLt hw hon hsmall)
      (by decide) rfl hreach
  · intro hc hcompat hon
    exact exec_clocked h (i := .shaperRefillTick c) rfl hc (Chan.shpTick_refills hcompat hon)
  · intro i q r rest x k n hc hqueue hopen hroom hx hk hn hoff
    have hfree : ¬ ch.headHeld i q r := by simp [Chan.headHeld, hopen, hroom, hoff]
    simpa only [Chan.headTaken, hoff, Bool.false_and, Bool.false_eq_true, if_false] using
      exec_hostQueueSend_leaves h hc hqueue hfree hx hk hn
  · intro i q r rest x k n hc hqueue hopen hroom hx hk hn hon henough
    have hfree : ¬ ch.headHeld i q r := by simp [Chan.headHeld, hopen, hroom, henough]
    simpa only [Chan.headTaken, hon, Bool.true_and] using exec_hostQueueSend_leaves h hc hqueue hfree hx hk hn
  · intro i q hc hstays
    refine exec_clocked h (i := .hostQueueSend c i q) rfl hc ?_
    cases hqueue : ch.hq i q with
    | nil => exact Chan.hostQueueSend_empty hqueue
    | cons r rest =>
      rw [hqueue] at hstays
      exact Chan.hostQueueSend_held hqueue (hstays.resolve_left (List.cons_ne_nil r rest))
  · intro hc hidle
    exact exec_clocked h (i := .shaperRefillTick c) rfl hc (Chan.shpTick_idle hidle)

end Sys2Proof.Machine
end

section
/-!
PROOFS of 11_verdicts_metering_and_time_gates.md: forest results that come too late (R294, R311).
-/

namespace Sys2Proof.Machine
open Sys2Proof

/-- A descriptor of tenant 0 in the forest wait buffer, its verdict composed already from a NEURAL slot. Its key for ensemble 0 waits,
which serves side context 0. -/
def parkedJob : Job :=
  { id := 0, laneB := false, desc := { md := metaOf [], slice := [], words := 6, arrived := 0, time := 0 }, stage := .queued
    tenant := 0, ens := [0], keys := [(0, {})], forest := [0], neural := [2]
    nets := [(2, some [0])], verdict := some { seq := 0, code := 0, slot := 1 } }

/-- A powered channel with that descriptor parked, ensemble 0 valid. -/
def parkedChan : Chan :=
  ({ idx := 0, now := 1500 * nsG, pwr := { power := .on }, jobs := [parkedJob], models := { sides := [(0, { ens := some 0 })] }
     vpe := { wfq := [{ unit := 35, tenant := 0, cost := 1, ctx := 0, index := 0 }] } } : Chan).setFlag
    (R.FST_ENS_CFG 0) F.FST_ENS_CFG_valid true

/-- The device after reset but for that channel. -/
def parkedState : State := State.reset.setChan 0 parkedChan

/-- The channel as the statement has it: the claims entered, the forest searched, and a verdict composed if none is. -/
def parkedClaim : Chan :=
  let a : Chan := { parkedChan with vpe := { parkedChan.vpe with
    vtime := sset (fun _ => 0) parkedChan.vpe.vtime 35 (max (parkedChan.vtime 35) (parkedChan.wfqTag 35 0).s)
    wfq := dropItem { unit := 35, tenant := 0, cost := 1, ctx := 0, index := 0 } parkedChan.vpe.wfq } }
  ((a.claim 0 [0] false).runForest 0).compose 0

theorem parkedClaim_shadow : parkedClaim.rd R.VPE_CNT_SHADOW = 0 := by decide

theorem parkedChan_shadow : parkedChan.forestReentry.rd R.VPE_CNT_SHADOW = 1 := by decide

/-- Refutes O34: it leaves out that a forest result of a descriptor whose verdict is composed counts as a shadow. -/
theorem not_fairQueueingAndReentry : ¬ Obligations.FairQueueingAndReentry := by
  intro h
  have hstate : parkedState.chan 0 = parkedChan := rfl
  have hclocked : parkedChan.clocked = true := by decide
  obtain ⟨-, -, -, -, -, henters, -⟩ := h parkedState 0 parkedChan hstate
  obtain ⟨t, ht, hclaim⟩ := henters 0 _ [] parkedJob hclocked (by decide) rfl rfl (by decide)
  obtain ⟨u, hu, hagree⟩ := exec_clocked hstate (i := .forestReentry 0) rfl hclocked rfl
  obtain rfl : t = u := Host.Outcome.next.inj (ht.symm.trans hu)
  have hkey : ¬ settleKey R.VPE_CNT_SHADOW := not_settleKey_of (by decide)
  have hclaimed : (t.chan 0).rd R.VPE_CNT_SHADOW = 0 := (hclaim.rd _ hkey).trans parkedClaim_shadow
  have hdone : (t.chan 0).rd R.VPE_CNT_SHADOW = 1 := (hagree.rd _ hkey).trans parkedChan_shadow
  exact absurd (hclaimed.symm.trans hdone) (by decide)

end Sys2Proof.Machine
end
